-- ==== Sys2Proof/Word.lean ====
section
/-! DEFINITION. The word types and the sparse tables that hold the part's arrays. -/

namespace Sys2Proof

/-- A register of BAR0, 32 bits wide (R620). -/
abbrev Word := BitVec 32

/-- A 64-bit value, held in BAR0 as a LO and HI pair (R624). -/
abbrev Wide := BitVec 64

/-- One byte of device memory. -/
abbrev Byte := BitVec 8

/-- A sparse table: keys strictly rising, and no entry equal to what an unlisted key reads as. -/
abbrev Sparse (β : Type) := List (Nat × β)

end Sys2Proof
end

