-- ==== Sys2Proof/Syntax.lean ====
section
/-! DEFINITION. The commands and events of the part: one constructor for each row of the table of operations and events,
with what the sender gives with it. A timer or internal event carries what the part measures or samples at that instant. -/

namespace Sys2Proof

/-- One command packet (R440): OPCODE, FLAGS, PLEN, TAG and the 56 parameter bytes, the first least significant. -/
structure Packet where
  opcode : BitVec 16
  flags : BitVec 8
  plen : BitVec 8
  tag : BitVec 32
  params : BitVec 448
  deriving DecidableEq, Repr

/-- A command whose opcode the row gives: the queue pair it stands in and the rest of its packet. -/
structure Cmd where
  pair : Fin 16
  flags : BitVec 8
  plen : BitVec 8
  tag : BitVec 32
  params : BitVec 448
  deriving DecidableEq, Repr

/-- A writable bit of the function's configuration space that the manual names (R416, R424, R425, R426). -/
inductive CfgBit where
  | memEnable | cacheEnable | busMaster | biEnable | msixEnable | msixFunctionMask
  deriving DecidableEq, Repr

/-- Protocol of a request to the DOE mailbox (R409): the two that it serves, and any other. -/
inductive DoeProtocol where
  | discovery | cdatTable | other
  deriving DecidableEq, Repr

/-- Where a register write goes: BAR0, BAR2 (R412), a configuration bit, the base of BAR0, BAR2 or BAR4 (R411), a request to the DOE
mailbox (R410), or the status bits of AER and CXL RAS, which a 1 clears (R432). -/
inductive RegTarget where
  | bar0 (offset : Nat)
  | bar2 (offset : Nat)
  | config (bit : CfgBit)
  | barBase (bar : Fin 3)
  | doe (protocol : DoeProtocol)
  | errorStatus
  deriving DecidableEq, Repr

/-- Conditions of the link that are reported (R431). -/
inductive LinkError where
  | receiver | linkCrc | cachePoison (pair : Fin 16) | outsideDecoder | islandParity
  deriving DecidableEq, Repr

/-- What removes the hold on messages (R425, R426). -/
inductive Unmask where
  | vector (v : Fin 64) | function | msixEnable | busMaster
  deriving DecidableEq, Repr

/-- What a read of on-chip SRAM finds (R521): a byte corrected, or one that cannot be corrected in engine local memory, in an
overlay image or in a sod. -/
inductive SramFind where
  | corrected | engineByte (engine : Fin 64) | overlayByte (overlay : Fin 16) | sodByte (index : Nat)
  deriving DecidableEq, Repr

/-- An ANNOUNCE message (R344). -/
structure Announce where
  version : Nat
  origin : BitVec 64
  rank : Fin 4
  valid : Bool
  bookId : BitVec 16
  seq : BitVec 16
  hops : Fin 16
  /-- the DEVICE_IDs its origin sees at each lane half: 0 to 3 the receive halves, 4 to 7 the transmit halves of lanes 0 to 3 -/
  seen : List (Fin 8 × BitVec 64)
  deriving DecidableEq, Repr

/-- A completed TIME exchange (R352): its number and the four instants in ps of device time. -/
structure TimeExchange where
  number : Nat
  t1 : Nat
  t2 : Nat
  t3 : Nat
  t4 : Nat
  deriving DecidableEq, Repr

/-- A CLAIM message (R344, R355): codes per group, phase index, and whether the last grant was applied, refused or neither. -/
structure Claim where
  origin : BitVec 64
  codes : List (Fin 64)
  phase : Fin 16
  applied : Option Bool
  deriving DecidableEq, Repr

/-- A GRANT message (R344, R355): per member its codes, none where the pool ran out, and its phase index. -/
structure GrantMsg where
  leader : BitVec 64
  number : BitVec 16
  members : List (BitVec 64 × List (Option (Fin 64)) × Fin 16)
  deriving DecidableEq, Repr


/-- One command or event of the part: one constructor for each row of the table of operations and events. -/
inductive Instr where
  /-- SYS_NOP (R459). Command sys.nop (0x0001): the device does nothing and posts a final OK reply. -/
  | sysNop (c : Cmd)
  /-- SYS_IDENT (R459). Command sys.ident (0x0002): returns the revision, lifecycle state, capacity, host mode, firmware version, DEVICE_ID and BOOK_ID. -/
  | sysIdent (c : Cmd)
  /-- SYS_STATUS (R459). Command sys.status (0x0003): returns the scan state, safety state, Damper level, flags, frame, time, T_MAX and outstanding count. -/
  | sysStatus (c : Cmd)
  /-- SYS_RESET (R459). Command sys.reset (0x0004): checks the KEY and that no commit runs, replies, and schedules a software reset 100 µs later. -/
  | sysReset (c : Cmd)
  /-- SYS_ABORT (R449). Command sys.abort (0x0005): ends an outstanding abortable command, which completes with 0x0206 and has its two-phase changes rolled back. -/
  | sysAbort (c : Cmd)
  /-- TIME_GET (R460). Command time.get (0x0101): returns device time, rate, trim and TIME_STAT. -/
  | timeGet (c : Cmd)
  /-- TIME_MARK (R41). Fast-path command time.mark (0x0102): device time is captured at the doorbell, the reply is posted, and the servo of R42 runs once per doorbell. -/
  | timeMark (c : Cmd)
  /-- TIME_SET (R38). Command time.set (0x0103): sets device time while scanning is stopped and makes it VALID, or is refused. -/
  | timeSet (c : Cmd)
  /-- TIME_FMEAS (R56). Command time.fmeas (0x0104): starts a frequency measurement of one timing input over a gate time, or is refused while one runs. -/
  | timeFmeas (c : Cmd)
  /-- FMEAS_GATE_END (R57). The measurement gate expires: the least-squares period is computed, the completion is posted and EV_FMEAS_DONE is raised. -/
  | fmeasGateEnd
  /-- FMEAS_EDGE (R57). A rising edge of the measured input is stamped and indexed, and skipped indices are counted as missing edges. -/
  | fmeasEdge (stamp : Nat)
  /-- SCAN_START (R310). Command scan.start (0x0201): the state checks run, STATE becomes STARTING, the loop closes, MIR_AMP_EN goes high and the ramp begins. -/
  | scanStart (c : Cmd)
  /-- SCAN_STOP (R313). Command scan.stop (0x0202): returns OK in STOPPED, goes to STOPPED from FAULT, and otherwise ends dwells, parks the mirror and ramps it to centre. -/
  | scanStop (c : Cmd)
  /-- SCAN_HOLD (R311). Fast-path command scan.hold (0x0203): from the next slot boundary the latch is suppressed, dwells end and the mirror parks in HOLDING. -/
  | scanHold (c : Cmd)
  /-- SCAN_RESUME (R312). Command scan.resume (0x0204): accepted in HOLDING; once parked and phase-locked, the mirror runs in to the next sweep. -/
  | scanResume (c : Cmd)
  /-- SCAN_RAMP_END (R310). The start ramp ends, and the loop begins waiting for the settle condition. -/
  | scanRampEnd
  /-- RUN_IN_START (R310). Once settle is met, the marking of R260 is complete and PHASE_LOCK is 1, the run-in starts and ARM is raised. -/
  | runInStart
  /-- MIRROR_SETTLE_TIMEOUT (R291). The settle condition is not met within 1 s of the ramp, which is a mirror fault. -/
  | mirrorSettleTimeout
  /-- MIRROR_PARKED (R311). The parking curve reaches rest and SCN_STAT.PARKED is set. -/
  | mirrorParked
  /-- STOP_RAMP_END (R313). The centring ramp ends: MIR_AMP_EN goes low, the DACs go to 0x8000, STATE becomes STOPPED and scan.stop completes. -/
  | stopRampEnd
  /-- EMIT_STOP (R21). Fast-path command emit.stop (0x0301): the chain E latch is suppressed from the next slot boundary. -/
  | emitStop (c : Cmd)
  /-- EMIT_RESUME (R462). Command emit.resume (0x0302): lifts the suppression of emit.stop and of R455 from the next slot boundary. -/
  | emitResume (c : Cmd)
  /-- EMIT_SUBSTITUTE (R183). Command emit.substitute (0x0303): schedules or reverts a spare-segment substitution for the next turnaround. -/
  | emitSubstitute (c : Cmd)
  /-- EMIT_SEG_STATUS (R462). Command emit.seg_status (0x0304): returns the state, pulse count and code of one segment. -/
  | emitSegStatus (c : Cmd)
  /-- EMIT_COUNT_COMMIT (R180). Command emit.count_commit (0x0305): commits the counters set to the retained store. -/
  | emitCountCommit (c : Cmd)
  /-- EMIT_DRV_CTRL (R165). Command emit.drv_ctrl (0x0306): queues a CTRL read or CLEAR write to one chain driver and returns its response. -/
  | emitDrvCtrl (c : Cmd)
  /-- LAMP_SET (R462). Command lamp.set (0x0307): sets the live source and duty of one lamp. -/
  | lampSet (c : Cmd)
  /-- LAMP_STATUS (R462). Command lamp.status (0x0308): returns the state and period of one lamp. -/
  | lampStatus (c : Cmd)
  /-- LAMP_DIAGNOSE (R187). Command lamp.diagnose (0x0309): makes the masked lamps due for diagnosis now, with completion when each is diagnosed or UNKNOWN. -/
  | lampDiagnose (c : Cmd)
  /-- CAL_BURNISH (R143). Command cal.burnish (0x0401): after a prepare check of every slice in the mask, makes the slices pending for an apply. -/
  | calBurnish (c : Cmd)
  /-- CAL_COMMIT (R148). Command cal.commit (0x0402): commits the live calibration set to the retained store. -/
  | calCommit (c : Cmd)
  /-- CAL_RANGE_ZERO (R146). Command cal.range_zero (0x0403): starts accumulating shot-weighted echo times for a row range against a known target. -/
  | calRangeZero (c : Cmd)
  /-- RANGE_ZERO_COMPLETE (R146). Every row is complete or 65,536 frames have passed: z0 is set for the complete rows and the command completes. -/
  | rangeZeroComplete
  /-- CAL_EXPORT (R150). Command cal.export (0x0404): writes the live or committed calibration set as a blob to device memory. -/
  | calExport (c : Cmd)
  /-- CAL_IMPORT (R151). Command cal.import (0x0405): checks a blob and loads it into the live calibration values as one unit. -/
  | calImport (c : Cmd)
  /-- CAL_TAP (R243). Command cal.tap (0x0406): starts a ZERO, FULL or CH_OFFSET calibration, with the device allocating its own CALW Ladles. -/
  | calTap (c : Cmd)
  /-- CAL_TAP_COMPLETE (R246). All units are measured: coefficients or trims are applied or refused as a whole, and the completion is posted. -/
  | calTapComplete
  /-- CAL_HK (R542). Command cal.hk (0x0407): ZERO or FULL calibration of one housekeeping input. -/
  | calHk (c : Cmd)
  /-- OUT_STATUS (R464). Command out.status (0x0501): returns WR, RD, status, SEQ and drops of a stream. -/
  | outStatus (c : Cmd)
  /-- OUT_RING (R327). Command out.ring (0x0502): sets the live base and size of a disabled stream. -/
  | outRing (c : Cmd)
  /-- OUT_HIST_REGION (R334). Command out.hist_region (0x0503): sets the histogram export region and interval. -/
  | outHistRegion (c : Cmd)
  /-- OUT_RATE (R324). Command out.rate (0x0504): sets the record rate, empty-record mode and Ingot time limit. -/
  | outRate (c : Cmd)
  /-- OUT_TAP_REQUEST (R232). Command out.tap_request (0x0505): writes or clears one of 16 host tap regions. -/
  | outTapRequest (c : Cmd)
  /-- TURF_DUMP (R277). Command turf.dump (0x0506): starts copying a rectangle of sods to device memory. -/
  | turfDump (c : Cmd)
  /-- TURF_DUMP_COMPLETE (R277). The last sod of the dump is written and the completion carries the bytes and generations. -/
  | turfDumpComplete
  /-- TURF_CLEAR (R278). Command turf.clear (0x0507): schedules the clearing of a rectangle of sods for the next slot boundary. -/
  | turfClear (c : Cmd)
  /-- CFG_GET (R465). Command cfg.get (0x0601): returns one element from the live set, the committed base or an overlay image. -/
  | cfgGet (c : Cmd)
  /-- CFG_SET (R487). Command cfg.set (0x0602): a single-element two-phase change whose prepare runs before the reply. -/
  | cfgSet (c : Cmd)
  /-- CFG_LOAD (R488). Command cfg.load (0x0603): checks a configuration blob whole and applies it under the two-phase rule. -/
  | cfgLoad (c : Cmd)
  /-- CFG_COMMIT (R492). Command cfg.commit (0x0604): commits the base set or one overlay to the retained store. -/
  | cfgCommit (c : Cmd)
  /-- CFG_OVERLAY_WRITE (R480). Command cfg.overlay_write (0x0605): replaces the image of one overlay from a blob. -/
  | cfgOverlayWrite (c : Cmd)
  /-- CFG_OVERLAY_APPLY (R481). Command cfg.overlay_apply (0x0606): forms the target values of an overlay switch and applies them under the two-phase rule. -/
  | cfgOverlayApply (c : Cmd)
  /-- CFG_OVERLAY_ERASE (R480). Command cfg.overlay_erase (0x0607): empties the image of one overlay. -/
  | cfgOverlayErase (c : Cmd)
  /-- CFG_REVERT (R483). Command cfg.revert (0x0608): returns the live base set to the committed set under the two-phase rule. -/
  | cfgRevert (c : Cmd)
  /-- CFG_DUMP (R488). Command cfg.dump (0x0609): writes the directory and a parameter source as a blob to device memory. -/
  | cfgDump (c : Cmd)
  /-- PREPARE_PHASE_END (R484). The prepare phase of a two-phase change ends with every owning unit accepting or one refusing. -/
  | preparePhaseEnd
  /-- SAFETY_STATUS (R466). Command safety.status (0x0701): returns the safety status, causes, check values and lock time. -/
  | safetyStatus (c : Cmd)
  /-- SAFETY_COMMISSION (R398). Command safety.commission (0x0702): checks the value, commits the safety set, and sets COMMISSIONED, the commissioning lock and Quench lock. -/
  | safetyCommission (c : Cmd)
  /-- SAFETY_RELEASE (R398). Command safety.release (0x0703): clears the commissioning lock and returns to the built-in limits. -/
  | safetyRelease (c : Cmd)
  /-- SAFETY_FIELD_LOAD (R466). Command safety.field_load (0x0704): loads entries of the protective field map from device memory. -/
  | safetyFieldLoad (c : Cmd)
  /-- PEER_STATUS (R467). Command peer.status (0x0801): returns the peer status, domain, offset, delay and leader. -/
  | peerStatus (c : Cmd)
  /-- PEER_MEMBERS (R467). Command peer.members (0x0802): writes the member table to device memory. -/
  | peerMembers (c : Cmd)
  /-- PEER_RECLAIM (R355). Command peer.reclaim (0x0803): sends a CLAIM now. -/
  | peerReclaim (c : Cmd)
  /-- PEER_LANE_RESET (R348). Command peer.lane_reset (0x0804): returns the named lanes to HUNT. -/
  | peerLaneReset (c : Cmd)
  /-- MEM_SCRUB (R522). Command mem.scrub (0x0901): starts a Planish pass over a range, with optional repair. -/
  | memScrub (c : Cmd)
  /-- MEM_SCRUB_COMPLETE (R523). The pass ends, its summary is written and published, and the command completes. -/
  | memScrubComplete (upset : List (Nat × Nat))
  /-- MEM_STATUS (R468). Command mem.status (0x0902): returns the error counts and halted groups. -/
  | memStatus (c : Cmd)
  /-- MEM_PATROL (R524). Command mem.patrol (0x0903): writes the live patrol enable and period. -/
  | memPatrol (c : Cmd)
  /-- MEM_WIPE (R525). Command mem.wipe (0x0904): zeroes a 256-byte-aligned range of device memory beside running traffic. -/
  | memWipe (c : Cmd)
  /-- HK_SYNC (R536). Command hk.sync (0x0A01): resets the decimation chains and the sense averager at the next common trigger. -/
  | hkSync (c : Cmd)
  /-- HK_READ (R541). Command hk.read (0x0A02): returns the latest word, status and sampling instant of one sense input. -/
  | hkRead (c : Cmd)
  /-- HK_DC_FREEZE (R535). Command hk.dc_freeze (0x0A03): sets or clears DC_FREEZE for the chains in the mask. -/
  | hkDcFreeze (c : Cmd)
  /-- PWR_STATUS (R470). Command pwr.status (0x0B01): returns the power state, fabric voltage and power. -/
  | pwrStatus (c : Cmd)
  /-- PWR_STATE (R560). Command pwr.state (0x0B02): starts a transition between RUN and IDLE. -/
  | pwrState (c : Cmd)
  /-- PWR_STATE_COMPLETE (R560). Every domain of the new power state is on and usable, or off, and the completion is posted. -/
  | pwrStateComplete
  /-- THM_STATUS (R470). Command thm.status (0x0B03): returns the temperatures, Damper level and sensor failures. -/
  | thmStatus (c : Cmd)
  /-- THM_DAMPER_MIN (R547). Command thm.damper_min (0x0B04): sets the minimum Damper level in force. -/
  | thmDamperMin (c : Cmd)
  /-- SEC_ATTEST (R595). Command sec.attest (0x0C01): writes signed attestation evidence to device memory. -/
  | secAttest (c : Cmd)
  /-- SEC_ID_CERT (R594). Command sec.id_cert (0x0C02): copies the identity certificate to device memory. -/
  | secIdCert (c : Cmd)
  /-- SEC_LIFECYCLE (R598). Command sec.lifecycle (0x0C03): checks the token, records the pending change and erases the sets that the transition requires. -/
  | secLifecycle (c : Cmd)
  /-- LIFECYCLE_CHANGE_DONE (R598). The erasure ends: fuses are burned, the pending record is cleared, OK is posted and EV_LIFECYCLE is raised. -/
  | lifecycleChangeDone
  /-- LIFECYCLE_RESET_TIMER (R598). 100 ms after a lifecycle change completes, a cold software reset follows. -/
  | lifecycleResetTimer
  /-- SEC_FW_STAGE (R591). Command sec.fw_stage (0x0C04): checks an image and writes it to the slot that is not running. -/
  | secFwStage (c : Cmd)
  /-- FW_STAGE_COMPLETE (R591). The staged image is written, STAGED is set and EV_FW_STAGED is raised. -/
  | fwStageComplete
  /-- SEC_FW_ACTIVATE (R591). Command sec.fw_activate (0x0C05): makes the staged slot preferred. -/
  | secFwActivate (c : Cmd)
  /-- SEC_KEY_REVOKE (R592). Command sec.key_revoke (0x0C06): after a token check, burns the revocation fuse of a key slot. -/
  | secKeyRevoke (c : Cmd)
  /-- TEL_CONFIG (R616). Command tel.config (0x0D01): sets the telemetry ring and period. -/
  | telConfig (c : Cmd)
  /-- TEL_SNAPSHOT (R616). Command tel.snapshot (0x0D02): writes one telemetry record to a given address. -/
  | telSnapshot (c : Cmd)
  /-- DBG_EVENT_TEST (R606). Command dbg.event_test (0x0D03): raises one event source marked as a test. -/
  | dbgEventTest (c : Cmd)
  /-- DBG_CMD_STATS (R472). Command dbg.cmd_stats (0x0D04): returns the fetch, acknowledgement and refusal statistics of a queue pair. -/
  | dbgCmdStats (c : Cmd)
  /-- COMMAND_COMPLETION (R448). An ACCEPTED command that reads or writes device memory finishes its work and posts its completion reply. -/
  | commandCompletion (pair : Fin 16) (tag : BitVec 32) (upset : List (Nat × Nat))
  /-- STORE_COMMIT_COMPLETE (R492). A generation's MARKER is written: the counter and GLB_STORE_GEN are updated and EV_STORE_COMMIT is raised. -/
  | storeCommitComplete
  /-- SQ_DOORBELL (R437). A write of CMDQ_DB_SQ_TAIL is validated, and the commands it covers are examined, with fast-path ones acting in hardware. -/
  | sqDoorbell (pair : Fin 16) (tail : Word) (covered : List Packet)
  /-- CQ_HEAD_WRITE (R437). A write of CMDQ_DB_CQ_HEAD releases replies, or is ignored and sets CQ_ERR. -/
  | cqHeadWrite (pair : Fin 16) (head : Word)
  /-- COMMAND_FETCH (R438). A command is fetched once two free CQ entries exist, reserving both. -/
  | commandFetch (pair : Fin 16) (queueUe : Bool)
  /-- ACK_DEADLINE_MISS (R444). A first reply misses its deadline: ACK_MISS is set, the counter increments and EV_CMD_ACK_MISS is raised. -/
  | ackDeadlineMiss (pair : Fin 16)
  /-- QUEUE_ENABLE (R435). A write of CMDQ_Q_CTL.EN from 0 to 1 checks the pair configuration, then starts the pair or sets CFG_ERR. -/
  | queueEnable (pair : Fin 16) (value : Word)
  /-- QUEUE_DISABLE (R435). A write of CMDQ_Q_CTL.EN from 1 to 0 stops fetching, and RUN clears when nothing remains outstanding. -/
  | queueDisable (pair : Fin 16) (value : Word)
  /-- CMDQ_DECLARE (R455). A write of 0x4641_494C to CMDQ_DECLARE enters the declared state: emission stops, fetching ends and replies cease. -/
  | cmdqDeclare (value : Word)
  /-- STREAM_ENABLE (R327). A write of ING_S_CTL.EN from 0 to 1 checks the ring, then starts the stream or sets CFG_ERR. -/
  | streamEnable (stream : Fin 3) (value : Word)
  /-- STREAM_DISABLE (R332). A write of ING_S_CTL.EN from 1 to 0 closes the open Ingot, writes what fits and drops the rest. -/
  | streamDisable (stream : Fin 3) (value : Word)
  /-- RING_RD_WRITE (R328). A host write of ING_S_RD releases items, or is ignored and sets RD_ERR. -/
  | ringRdWrite (stream : Fin 3) (value : Word)
  /-- EVT_RING_ENABLE (R609). A write of EVT_CTL.RING_EN from 0 to 1 checks the event ring and starts it, or sets CFG_ERR. -/
  | evtRingEnable (value : Word)
  /-- EVT_RING_RD_WRITE (R609). A host write of EVT_RING_RD releases event records, or is ignored and sets RD_ERR. -/
  | evtRingRdWrite (value : Word)
  /-- EVT_PEND_CLEAR (R611). A W1C write of EVT_PEND clears pending bits, unless a raising falls in the same cycle. -/
  | evtPendClear (word : Fin 20) (value : Word)
  /-- SAT_BIT_CLEAR (R614). A W1C of a SAT bit clears the bit and zeroes its saturated counter in one step. -/
  | satBitClear (addr : Nat) (value : Word)
  /-- STICKY_BIT_CLEAR (R623). A W1C write clears sticky status bits and re-arms their events. -/
  | stickyBitClear (addr : Nat) (value : Word)
  /-- PAIR_LO_READ (R624). A read of the LO half of a 64-bit pair returns bits [31:0] and latches the HI half. -/
  | pairLoRead (addr : Nat)
  /-- RC_FIELD_READ (R11). A read of an RC field returns its value and clears it. -/
  | rcFieldRead (addr : Nat)
  /-- TURF_RD_IDX_WRITE (R276). A write of TURF_RD_IDX starts an indivisible snapshot of one sod. -/
  | turfRdIdxWrite (value : Word)
  /-- CHAIN_ENABLE (R175). An enable bit of BLW_CTL changing from 0 to 1 starts the chain bring-up. -/
  | chainEnable (chainL : Bool)
  /-- CHAIN_DISABLE (R172). An enable bit of BLW_CTL written to 0 stops the chain and clears its fault state. -/
  | chainDisable (chainL : Bool)
  /-- CHAIN_BRINGUP_DONE (R175). The bring-up steps end with the chain up or in fault. -/
  | chainBringupDone (chainL : Bool) (count : Nat) (drivers : List (BitVec 16 × BitVec 16))
  /-- PEER_ENABLE (R348). A write of PEER_CTL.EN moves the lanes between DOWN and HUNT. -/
  | peerEnable (value : Word)
  /-- APERTURE_WRITE (R423). A write of GLB_APERTURE moves the PCIe-only aperture, or is ignored and sets APERTURE_ERR. -/
  | apertureWrite (value : Word)
  /-- TAP_REQ_WRITE (R248). A host write of TAP_REQ_* registers acts as out.tap_request on that region. -/
  | tapReqWrite (offset : Nat) (value : Word)
  /-- MEM_DMA_RESUME (R520). A W1C write of MEM_DMA_STAT returns a halted DMA channel to service. -/
  | memDmaResume (value : Word)
  /-- REGISTER_WRITE (R620). A write of any register without a row of its own replaces its writable fields, with range checks under R622. -/
  | registerWrite (target : RegTarget) (size : Nat) (value : Wide)
  /-- HDM_COMMIT (R416). The host sets Commit on the HDM decoder, which is committed or refused with Error Not Committed. -/
  | hdmCommit (base size ways : Nat) (bi lock : Bool)
  /-- CXL_MEM_READ (R419). A host CXL.mem read of the window snoops, corrects or poisons the data, and returns it. -/
  | cxlMemRead (hpa : Nat) (upset : List (Nat × Nat))
  /-- CXL_MEM_WRITE (R419). A host CXL.mem write of the window, taken into device memory in arrival order per line. -/
  | cxlMemWrite (hpa : Nat) (data : BitVec 512) (enables : BitVec 64)
  /-- APERTURE_ACCESS (R423). A host read or write through the PCIe-only BAR4 aperture onto device memory. -/
  | apertureAccess (offset : Nat) (length : Nat) (write : Option (List Byte)) (upset : List (Nat × Nat))
  /-- FLR (R429). A function-level reset resets the host-interface state of R428 and ends the declared state, without touching the data path. -/
  | flr
  /-- D3HOT_ENTRY (R430). Entry to D3hot stops BAR responses and MSI-X messages. -/
  | d3hotEntry
  /-- D0_RETURN (R430). Return to D0 restores the function, and due messages become pending. -/
  | d0Return
  /-- ENABLE_BIT_CLEARED (R424). Clearing Cache_Enable or Bus Master Enable stops host-memory queue pairs at the next entry boundary. -/
  | enableBitCleared (busMaster : Bool)
  /-- MSIX_UNMASK (R425). Removing a mask, or enabling MSI-X or Bus Master Enable, sends the pending messages. -/
  | msixUnmask (what : Unmask)
  /-- MSIX_HOLDOFF_EXPIRY (R611). The holdoff of a vector expires and one message is sent for the raisings in the holdoff. -/
  | msixHoldoffExpiry (vector : Fin 64)
  /-- LINK_UP (R406). The link trains and alternate-protocol negotiation fixes CXL or PCIe-only mode. -/
  | linkUp (cxl : Bool) (rate : Fin 6) (width : Nat) (degraded : Bool)
  /-- LINK_RETRAIN (R407). A rate or width change while the link is up raises EV_CXL_LINK_CHG. -/
  | linkRetrain (rate : Fin 6) (width : Nat) (degraded : Bool)
  /-- HOT_RESET (R428). A hot reset, or a link down, resets the device warm and the host interface. -/
  | hotReset (linkDown : Bool)
  /-- PERST_ASSERT (R576). PERST# asserted holds the device in a warm reset. -/
  | perstAssert
  /-- CXL_LINK_ERROR (R431). A link or protocol error is reported through AER or CXL RAS with its event. -/
  | cxlLinkError (e : LinkError)
  /-- POWER_ON_RESET (R576). A main rail leaves its range, and the device is held in cold reset until all rails are in range for 2 ms. -/
  | powerOnReset
  /-- RESET_N_ASSERT (R580). RESET_N low for at least 1 µs asserts a cold reset and starts the hold measurement. -/
  | resetNAssert
  /-- RESET_N_RELEASE (R580). RESET_N released: the hold duration is written to RST_HELD_LAST and RST_HELD_MAX. -/
  | resetNRelease (ms : Nat)
  /-- WATCHDOG_EXPIRY (R576). The 1,000 ms Hearth watchdog expires and a warm reset follows. -/
  | watchdogExpiry
  /-- SAFETY_RESET_TIMER (R576). A DISAGREE or CLOCK condition persists 100 ms after Quench lock, causing a cold reset. -/
  | safetyResetTimer
  /-- SOFTWARE_RESET_TIMER (R459). 100 µs after the sys.reset reply, the software reset asserts. -/
  | softwareResetTimer
  /-- RESET_RELEASE (R584). The last reset source releases and the reset sequence begins with the fuse load. -/
  | resetRelease (flushed : List Nat)
  /-- FUSE_LOAD_DONE (R582). The fuse load ends: the shadows take the values if the digest matches, otherwise the load restarts. -/
  | fuseLoadDone (digestOk : Bool)
  /-- PLL_LOCK (R36). The PLL locks, slot boundaries begin and device time runs. -/
  | pllLock
  /-- PLL_UNLOCK (R36). Lock is lost or the crystal stops: a Quench is reported, scanning ends in FAULT, and device time holds with VALID cleared. -/
  | pllUnlock
  /-- PERST_RELEASE (R427). PERST# released: the CXL island leaves reset and the link starts training. -/
  | perstRelease
  /-- FIRMWARE_VERIFIED (R588). Boot ends: a valid image is loaded and READY is set, or no valid image is found and boot stops. -/
  | firmwareVerified (a b : Fin 9)
  /-- MEM_TRAINING_DONE (R513). LPDDR4X training, and any wipe, complete and Memory_Active is set. -/
  | memTrainingDone (densityOk : Bool) (failed : List (Fin 20))
  /-- RESTORE (R496). The Hearth cores restore the retained state in order, then set RESTORED. -/
  | restore (absent : Bool) (crcErrors : Nat) (older lost : List (Nat × Nat × Nat))
  /-- VBAK_LOSS (R648). VBAK falls below 1.50 V with the main supplies absent, and the backup domain loses its contents. -/
  | vbakLoss
  /-- SLOT_BOUNDARY (R45). A slot boundary: deferred changes take effect, the chain E latch commits, the tap trigger is issued and the next slot is prepared. -/
  | slotBoundary (found : List SramFind)
  /-- FRAME_BOUNDARY (R51). A frame boundary: the frame counter increments, pending overlays and class-F changes take effect, Ingots close and the ageing sweep runs. -/
  | frameBoundary
  /-- TURNAROUND_START (R298). The turnaround begins: the next column plan is computed and the turnaround is laid out. -/
  | turnaroundStart
  /-- SAFETY_WINDOW_BOUNDARY (R371). A new safety window begins, and the direction accounts reset on their next use. -/
  | safetyWindowBoundary
  /-- COMPARATOR_EDGE (R110). A comparator edge is classified once, then dropped and counted or written to the Ember queue as a stamp. -/
  | comparatorEdge (slice : Fin 64) (ch : Fin 8) (cmp : Fin 3) (rise : Bool) (coarse : Nat) (bin : Fin 64) (spare : Option (Fin 80)) (above : Option Nat)
  /-- FIRE_ECHO_EDGE (R104). A chain E fire-echo edge is stamped and fixes the shot reference, places blanking, or counts as unexpected emission. -/
  | fireEchoEdge (coarse : Nat) (bin : Fin 64)
  /-- REFERENCE_TIMEOUT (R106). No fire-echo arrives by B + D + τ, and the shot uses the nominal reference. -/
  | referenceTimeout
  /-- WINDOW_CLOSE (R118). A stop window closes and the shot summary is posted. -/
  | windowClose (slice : Fin 64) (ch : Fin 8)
  /-- EMBER_DRAIN (R113). The Kiln slice drains a stamp, forms pulse descriptors and runs the code matcher. -/
  | emberDrain (slice : Fin 64)
  /-- PIXEL_COMPLETE (R19). After a dwell: peaks, centroid, range, class and flags are formed, records enter staging and the sod update is written. -/
  | pixelComplete (arenaUe stagingUe : Bool)
  /-- INGOT_TIME_LIMIT (R326). MAX_US passes since the open Ingot opened, and it closes with TIME. -/
  | ingotTimeLimit
  /-- INGOT_PLACE (R329). A closed Ingot is written to a free ring slot, WR advances and EV_ING_DONE may be raised. -/
  | ingotPlace
  /-- HIST_RECORD_WRITE (R334). A queued histogram record is written to stream 1 and WR advances. -/
  | histRecordWrite
  /-- WAVE_RECORD_WRITE (R336). A window record is written to stream 2 once it fits, and WR advances. -/
  | waveRecordWrite
  /-- TAP_WINDOW_OPEN (R234). A tap window opens and is captured, or skipped for lack of FIFO room. -/
  | tapWindowOpen (tap : Fin 64)
  /-- TAP_WINDOW_END (R236). The last sample of a window is captured; the measurements are formed and the header queued. -/
  | tapWindowEnd (tap : Fin 64) (codes : List (BitVec 12))
  /-- BURNISH_BLOCK_END (R129). A TDC block reaches burnish.min_events and is frozen as a result, or discarded. -/
  | burnishBlockEnd (tdc : Fin 514)
  /-- BURNISH_BLOCK_TIMEOUT (R130). A block runs longer than burnish.max_block_s and is discarded. -/
  | burnishBlockTimeout (tdc : Fin 514)
  /-- BURNISH_APPLY_START (R140). An apply begins: the slice goes offline and the shadow sets are written. -/
  | burnishApplyStart (slice : Fin 64)
  /-- BURNISH_APPLY_SWITCH (R140). The shadow and live sets switch at one instant. -/
  | burnishApplySwitch
  /-- BURNISH_APPLY_END (R140). The slice comes back online, the counters, times and temperatures are recorded and EV_BURNISH_APPLY is raised. -/
  | burnishApplyEnd
  /-- REF_TDC_APPLY (R144). A reference TDC calibration apply runs in a turnaround interval. -/
  | refTdcApply (chainL : Bool)
  /-- BURNISH_COMMIT_TIMER (R149). The automatic commit period elapses and the Burnish entries are committed. -/
  | burnishCommitTimer
  /-- CHAIN_STATUS_RECEIVED (R172). The status words of a committed frame are checked for TAG, CRC, FT, FIRED and faults. -/
  | chainStatusReceived (chainL : Bool) (words : List (BitVec 40))
  /-- SEG_COUNT_COMMIT_TIMER (R180). emit.count_commit_h elapses and the pulse counts are committed. -/
  | segCountCommitTimer
  /-- CAM_SYNC_EDGE (R186). A CAM_SYNC edge is stamped and updates the exposure prediction. -/
  | camSyncEdge (input : Fin 8) (level : Bool) (stamp : Nat)
  /-- CAM_SYNC_LOST (R186). No edge for 3 periods: EV_CAM_SYNC_LOST is raised and the source continues. -/
  | camSyncLost (input : Fin 8)
  /-- LAMP_START_COMMIT (R184). A chain L START commit restarts the on-timers of the lamps of its page. -/
  | lampStartCommit (page : Fin 16)
  /-- LAMP_DIAG_GAP (R187). At the first camera gap, a page-15 START diagnoses the lamps that are due. -/
  | lampDiagGap (source : Fin 9)
  /-- LAMP_DIAG_TIMEOUT (R188). A lamp due for diagnosis finds no gap in 2 s and becomes UNKNOWN. -/
  | lampDiagTimeout (lamp : Fin 256)
  /-- HOLDOVER_TIMEOUT (R44). No offset is applied for time.holdover_s, and holdover begins. -/
  | holdoverTimeout
  /-- AGE_LEARN_TIMER (R35). After 24 h of discipline the ageing term is updated and committed. -/
  | ageLearnTimer
  /-- LOOP_SAMPLE (R286). A mirror loop sample arrives; both axes are computed and the DACs written. -/
  | loopSample (yx yy : BitVec 16) (tick : Nat) (latX latY : Nat)
  /-- LOOP_OVERRUN (R290). An axis output is not written 3.6 µs after its sample, and the computation is abandoned. -/
  | loopOverrun (axisX axisY : Bool)
  /-- SAFETY_CYCLE (R361). The 10 µs engine cycle: both safety engines evaluate and compare, and vote the gates. -/
  | safetyCycle (disagree clockBad configBad : Bool)
  /-- ACCOUNTANT_DECISION (R375). The accountant charges or vetoes the next shot before its boundary. -/
  | accountantDecision
  /-- SAFETY_MOTION_SAMPLE (R379). An island housekeeping sample updates the speed and still time and tests the motion limits. -/
  | safetyMotionSample (x opt current : BitVec 16)
  /-- STOP_INPUT_CHANGE (R392). A STOP input changes level, starting or cancelling its filter. -/
  | stopInputChange (ch : Fin 2) (level : Bool) (us : Nat)
  /-- STOP_FILTER_EXPIRY (R392). A STOP input stays low for stop_filter_us and is active, a Quench with cause STOP. -/
  | stopFilterExpiry (ch : Fin 2)
  /-- INPUT_DISCREPANCY_TIMEOUT (R392). The two channels of STOP or RESTART disagree longer than safe.discrep_ms: a Quench with cause INPUT. -/
  | inputDiscrepancyTimeout (restart : Bool)
  /-- RESTART_INPUT_CHANGE (R393). A RESTART channel changes level, and a valid press takes effect at the second release. -/
  | restartInputChange (ch : Fin 2) (level : Bool) (us : Nat)
  /-- RESTART_STUCK (R394). RESTART is held low longer than 5 s: EV_RESTART_STUCK is raised and RESTART_HELD is set. -/
  | restartStuck
  /-- TEST_PULSE_DUE (R388). A switch's test interval elapses, and a test pulse is reserved or started. -/
  | testPulseDue (sw : Fin 4)
  /-- TEST_PULSE_END (R388). The off-pulse ends, the gate turns on and the readbacks are checked against their deadlines. -/
  | testPulseEnd (sw : Fin 4) (offSeen onSeen : Bool)
  /-- TEST_OVERDUE (R389). A switch goes 500 ms without a passed test: a Quench with cause TEST. -/
  | testOverdue (sw : Fin 4)
  /-- READBACK_MISMATCH (R390). A readback differs from its gate command for more than 200 µs: a Quench with cause READBACK. -/
  | readbackMismatch (sw : Fin 4)
  /-- FIELD_BATCH_CLOSE (R384). Every 2 ms the engines evaluate the batch of pixel copies for infringing runs. -/
  | fieldBatchClose
  /-- FRAME_MISSING_TIMEOUT (R385). No frame boundary arrives in time, and output B goes to OFF_FIELD. -/
  | frameMissingTimeout
  /-- PIXEL_COPY_RECEIVED (R382). The safety island receives a pixel-result copy and checks its CRC. -/
  | pixelCopyReceived (crcOk : Bool)
  /-- HK_ROUND (R544). The 10 ms round reads the thermometers, tests sensors, updates compensation, Burnish triggers, crystal trim and the Damper. -/
  | hkRound (regions spots : List (BitVec 16 × Nat))
  /-- FAST_ROUND (R544). The 1 ms round reads all hot-spot sensors and updates T_MAX. -/
  | fastRound (spots : List (BitVec 16 × Nat))
  /-- THERMAL_SAFE_EXIT (R549). T_MAX stays below 115 °C for 10 s, and safe state ends. -/
  | thermalSafeExit
  /-- DAMPER_HOLD_EXPIRY (R548). 10 s after an exclusion, HOLD clears. -/
  | damperHoldExpiry
  /-- HOTSPOT_COMPARE (R550). Every 250 µs the always-on domain compares the hot-spot sensors with 130 °C and may raise a thermal reset. -/
  | hotspotCompare (spots : List (BitVec 16))
  /-- TELEMETRY_PERIOD (R616). The telemetry period elapses at a round, and a record is written to the ring. -/
  | telemetryPeriod
  /-- SENSE_CONVERSION_END (R537). A sense conversion reaches its sampling instant, and the word is formed and stored. -/
  | senseConversionEnd (sum : Int) (clamp : Bool)
  /-- COMPLIANCE_TRIP (R540). The excitation compliance detector trips, and the conversion is marked OPEN. -/
  | complianceTrip
  /-- SYNC_IN_EDGE (R536). A SYNC_IN rising edge with SYNC_EN raises a sync of the decimation chains. -/
  | syncInEdge
  /-- HK_CHAIN_OUTPUT (R533). A decimation chain produces an output, suppressed while settling. -/
  | hkChainOutput (chain : Fin 8) (codes : List (BitVec 12))
  /-- GOVERNOR_TICK (R565). Every 100 µs the governor reads the pace sensors and steps the fabric voltage. -/
  | governorTick (pace : List (Option (BitVec 16)))
  /-- AVS_READBACK (R569). Every 1 ms the voltage and current are read back and AVSBus faults are judged. -/
  | avsReadback (frameBad : Bool) (mv mA : BitVec 16)
  /-- DOMAIN_SWITCH_ON_DONE (R562). A domain's initialisation ends and the domain is usable, and the next switch-on may start. -/
  | domainSwitchOnDone (flushed : Nat)
  /-- POWER_GOOD_TIMEOUT (R564). A domain's power-good does not assert within 1 ms, and it is left off as failed. -/
  | powerGoodTimeout
  /-- MEM_MAINTENANCE_TICK (R513). The 10 ms refresh-rate read and DQS tracking, and the 512 ms ZQ calibration. -/
  | memMaintenanceTick (failed : List (Fin 20))
  /-- DIE_CE_WINDOW (R514). The one-second correction count at a symbol position exceeds its threshold, and the die is declared failed. -/
  | dieCeWindow
  /-- ENGINE_TRAP (R519). An engine reads an uncorrectable beat or byte and traps. -/
  | engineTrap (engine : Fin 64) (dpa : Option Nat)
  /-- ENGINE_RELOAD_DONE (R519). A trapped engine's code is reloaded and it restarts. -/
  | engineReloadDone (engine : Fin 64)
  /-- WMB_LINE_FLUSH (R510). A write-merge buffer line leaves the buffer as a burst write, after a merge read if it is partial. -/
  | wmbLineFlush (upset : List (Nat × Nat))
  /-- PATROL_PASS (R524). A scheduled 64 MiB repairing patrol pass runs. -/
  | patrolPass (upset : List (Nat × Nat)) (sram : List SramFind)
  /-- LANE_ALIGNED (R346). A receive lane sees 32 consecutive valid headers and becomes ALIGNED. -/
  | laneAligned (lane remote : Fin 4) (skewOk : Bool)
  /-- PEER_BLOCK_RECEIVED (R344). A 64-character block is received, checked and dispatched by type. -/
  | peerBlockReceived (lane : Fin 4) (marker violation : Bool) (chars : List Byte)
  /-- ANNOUNCE_RECEIVED (R349). An ANNOUNCE updates the domain, is forwarded, and may trigger election changes. -/
  | announceReceived (lane : Fin 4) (a : Announce)
  /-- TIME_BLOCK_RECEIVED (R352). A TIME exchange completes and the offset is handed to the servo. -/
  | timeBlockReceived (lane : Fin 4) (x : TimeExchange)
  /-- CLAIM_RECEIVED (R355). A CLAIM arrives at the leader, and the grants are recomputed. -/
  | claimReceived (c : Claim)
  /-- GRANT_RECEIVED (R356). A GRANT arrives and its codes and phase are scheduled for the next frame boundary. -/
  | grantReceived (g : GrantMsg)
  /-- ANNOUNCE_TIMER (R349). Every announce period, an ANNOUNCE is originated on each ready half. -/
  | announceTimer
  /-- TIME_EXCHANGE_TICK (R352). A time exchange is started with each downstream partner. -/
  | timeExchangeTick (lane : Fin 4)
  /-- PARTNER_TIMEOUT (R348). No ANNOUNCE for 3 periods, and the half returns to ALIGNED. -/
  | partnerTimeout (lane : Fin 4)
  /-- MEMBER_TIMEOUT (R349). No ANNOUNCE of a member for 10 periods, and it is removed. -/
  | memberTimeout (id : BitVec 64)
  /-- GRANT_SEND (R355). The leader sends a GRANT with a new grant number within 20 ms of a change. -/
  | grantSend
  /-- LANE_ALIGNMENT_LOST (R346). After 4 consecutive invalid headers a peer receive lane falls back to HUNT, PEER_LOSS_CNT increments, any link using the lane goes down, and the halves on it leave UP. -/
  | laneAlignmentLost (lane : Fin 4)
  /-- CLAMP_EXCURSION (R68). |V_in| of a return input exceeds the clamp level: CLAMP[c] is set, SLICE_CLAMP_CNT increments once, recovery marking starts and EV_SLICE_CLAMP may be raised. -/
  | clampExcursion (slice : Fin 64) (ch : Fin 8) (coarse back : Nat)
  /-- COMMAND_PATH_PARITY_ERROR (R516). A memory controller detects a parity error in its own command path, and its group halts with the effects of R517. -/
  | commandPathParityError (groupB : Bool)
  deriving DecidableEq, Repr

end Sys2Proof
end

