-- ==== Sys2Proof/Config.lean ====
section
/-! DEFINITION. What one part or one implementation fixes and the manual leaves open: the fuse map, the values of the free
draws, and the cryptographic functions the manual takes from other standards. Every constant without a body is free: a
statement holds for each of its values. -/

namespace Sys2Proof

/-- What a pin that is not an input does (R583): one of the five entries of the fuse map, the mid code of a DAC, or what its block
drives. -/
inductive PinState where
  | highZ | pullDown | pullUp | low | high | midCode | block
  deriving DecidableEq, Repr, Inhabited

end Sys2Proof

namespace Sys2Proof.Config

/-- A value the manual leaves open, one for each draw (DESIGN CHOICE, log entry 1). -/
opaque freeValue : Nat → BitVec 64

/-- Fuse and factory data of this part (R582, R583, R594): 16 GiB of data in the dies (R503, R505). -/
opaque sixteenGiB : Bool
/-- `DEVICE_ID` from the fuse map (R583). -/
opaque deviceId : BitVec 64
/-- Subsystem vendor and subsystem ID of the fuse map, none when unfused (R408). -/
opaque subsystem : Option (BitVec 16 × BitVec 16)
/-- The fuse-map entry of each pin group (R583). -/
opaque pinEntry : Nat → PinState
/-- The fuse-map entry of the test port's TDO (R583, R635). -/
opaque tdoEntry : PinState
/-- Crystal coefficients c0 to c3 of the factory (R54). -/
opaque xoFactory : Nat → BitVec 32
/-- Reference temperature coefficients of the factory (R551). -/
opaque refTcFactory : Nat → BitVec 32

/-- `PWR_PACE_FLOOR` of each pace sensor, ps (R565). -/
opaque paceFloor : Nat → BitVec 16

/-- SHA3-512 (R591, R595). -/
opaque sha3 : List Byte → BitVec 512
/-- ML-DSA-87 verification of a message and a signature under a public key (R587, R596). -/
opaque verify : List Byte → List Byte → List Byte → Bool
/-- The public key of a key slot, whose SHA3-512 digest is fused (R592). -/
opaque slotKey : Nat → List Byte
/-- The attestation signature over a message (R595). -/
opaque attestSignature : List Byte → List Byte
/-- The header of the image that the factory wrote to each slot (R585, R586). -/
opaque factoryHeader : Nat → List Byte
/-- The identity certificate (R594). -/
opaque idCertificate : List Byte
/-- The SHA3-512 digest of the certificate that the factory fused (R594). -/
opaque certDigest : BitVec 512

end Sys2Proof.Config
end

