-- ==== Sys2Proof/Machine/Sparse.lean ====
section
/-! DEFINITION. Reading and writing a sparse table, and device memory as one. A table lists only the keys that differ from
what an unlisted key reads as, so equal tables are equal lists. -/

namespace Sys2Proof.Machine

/-- What key `k` of a sparse table reads as; `d` gives the value of an unlisted key. -/
def sget {β : Type} (d : Nat → β) (k : Nat) : Sparse β → β
  | [] => d k
  | (k', v) :: r => if k' = k then v else sget d k r

/-- Remove key `k`. -/
def sdel {β : Type} (k : Nat) (m : Sparse β) : Sparse β := m.filter fun e => e.1 != k

/-- List key `k` with a value, keeping the keys rising. -/
def sput {β : Type} (k : Nat) (v : β) : Sparse β → Sparse β
  | [] => [(k, v)]
  | (k', v') :: r =>
    if k' < k then (k', v') :: sput k v r else if k' = k then (k, v) :: r else (k, v) :: (k', v') :: r

/-- Write key `k`, keeping the keys rising and the default values unlisted. -/
def sset {β : Type} [DecidableEq β] (d : Nat → β) (k : Nat) (v : β) (m : Sparse β) : Sparse β :=
  if v = d k then sdel k m else sput k v m

/-- Keys strictly rising above `b`, and no entry at its default. -/
def swfFrom {β : Type} [DecidableEq β] (d : Nat → β) : Nat → Sparse β → Bool
  | _, [] => true
  | b, (k, v) :: r => decide (b ≤ k) && decide (v ≠ d k) && swfFrom d (k + 1) r

/-- The canonical form of a sparse table. -/
abbrev swf {β : Type} [DecidableEq β] (d : Nat → β) (m : Sparse β) : Bool := swfFrom d 0 m

/-- The entry of key `k`, where a listed key means a present value. -/
def slook {β : Type} (k : Nat) : Sparse β → Option β
  | [] => none
  | (k', v) :: r => if k' = k then some v else slook k r

/-- Remove the entries whose key satisfies `p`: those keys read their default again. -/
def sclear {β : Type} (p : Nat → Bool) (m : Sparse β) : Sparse β := m.filter fun e => !p e.1

/-! Device memory (R415): bytes at device physical addresses, zero where nothing is listed (R525). -/

/-- What a byte of device memory that nothing has written reads as (R525). -/
def memDefault (_ : Nat) : Byte := 0#8

/-- One byte of device memory. -/
def memByte (m : List Host.Cell) (a : Nat) : Byte := sget memDefault a m

/-- Write one byte of device memory. -/
def memSetByte (m : List Host.Cell) (a : Nat) (b : Byte) : List Host.Cell := sset memDefault a b m

/-- Write bytes at rising addresses from `a`. -/
def memWrite : List Host.Cell → Nat → List Byte → List Host.Cell
  | m, _, [] => m
  | m, a, b :: bs => memWrite (memSetByte m a b) (a + 1) bs

/-- `n` bytes from address `a`. -/
def memRead (m : List Host.Cell) (a n : Nat) : List Byte := (List.range n).map fun i => memByte m (a + i)

/-- Set `n` bytes from `a` to zero. -/
def memZero (m : List Host.Cell) (a n : Nat) : List Host.Cell := sclear (fun k => decide (a ≤ k ∧ k < a + n)) m

/-- Device memory is in its canonical form. -/
abbrev Memory.wf (m : List Host.Cell) : Bool := swf memDefault m

/-! Little-endian bytes (R458). -/

/-- The value of bytes, the first the least significant. -/
def leNat : List Byte → Nat
  | [] => 0
  | b :: bs => b.toNat + 256 * leNat bs

/-- The `n` bytes of a value, the least significant first. -/
def leBytes : Nat → Nat → List Byte
  | 0, _ => []
  | n + 1, v => BitVec.ofNat 8 v :: leBytes n (v / 256)

/-- The little-endian value of `n` bytes of device memory at `a`. -/
def memLE (m : List Host.Cell) (a n : Nat) : Nat := leNat (memRead m a n)

end Sys2Proof.Machine
end

