-- ==== Sys2Proof/Machine/Bits.lean ====
section
/-! DEFINITION. Bit fields, two's complement, rounding and the two CRCs. -/

namespace Sys2Proof.Machine

/-- Bits `lo` to `lo + w - 1` of a value. -/
def bits (v lo w : Nat) : Nat := v / 2 ^ lo % 2 ^ w

/-- Bit `n` of a value. -/
def bitAt (v n : Nat) : Bool := v / 2 ^ n % 2 == 1

/-- A field of a word. -/
def field (x : Word) (lo w : Nat) : Nat := (x.toNat / 2 ^ lo) % 2 ^ w

/-- A word with a field replaced. -/
def withField (x : Word) (lo w v : Nat) : Word :=
  let old := (x.toNat / 2 ^ lo) % 2 ^ w
  BitVec.ofNat 32 (2 ^ lo * (v % 2 ^ w) + (x.toNat - 2 ^ lo * old))

/-- 1 for true. -/
def b2n (b : Bool) : Nat := if b then 1 else 0

/-- A `w`-bit two's-complement value. -/
def sgn (w v : Nat) : Int := if v % 2 ^ w < 2 ^ (w - 1) then (v % 2 ^ w : Nat) else (v % 2 ^ w : Nat) - (2 ^ w : Nat)

/-- The `w`-bit two's-complement pattern of an integer. -/
def unsgn (w : Nat) (i : Int) : Nat := (i % (2 ^ w : Nat)).toNat

/-- The nearer of two limits, or the value between them. -/
def clampI (lo hi v : Int) : Int := max lo (min hi v)

/-- The nearer of two limits, or the value between them. -/
def clampN (lo hi v : Nat) : Nat := max lo (min hi v)

/-- `a / b` rounded to nearest; zero where `b` is zero. Halves go upward, which R204 states for itself and the other roundings of the
manual leave open (DESIGN CHOICE, log entry 169). -/
def roundDiv (a : Int) (b : Nat) : Int := if b = 0 then 0 else (2 * a + b) / (2 * b)

/-- The absolute value. -/
def absI (i : Int) : Nat := i.natAbs

/-- Rounded up quotient. -/
def ceilDiv (a b : Nat) : Nat := if b = 0 then 0 else (a + b - 1) / b

/-- The number of bits set among the low `w`. -/
def popCount : Nat → Nat → Nat
  | 0, _ => 0
  | w + 1, v => v % 2 + popCount w (v / 2)

/-- Saturating addition in `w` bits. -/
def satAdd (w a b : Nat) : Nat := min (2 ^ w - 1) (a + b)

/-- Serial-number order modulo 2^32 (R615): `b` is at or ahead of `a`, and by how much. -/
def serialAhead (a b : Nat) : Nat := (2 ^ 32 + b - a % 2 ^ 32) % 2 ^ 32

/-- One bit step of CRC-16, polynomial 0x1021 (R159). -/
def crc16Step : Nat → Nat → Nat
  | 0, c => c
  | n + 1, c => crc16Step n (if 0x8000 ≤ c then (c * 2 % 0x10000) ^^^ 0x1021 else c * 2)

/-- CRC-16, polynomial 0x1021, initial value 0xFFFF (R159). -/
def crc16 (bs : List Byte) : Nat := bs.foldl (fun c b => crc16Step 8 (c ^^^ (b.toNat * 256))) 0xFFFF

/-- One bit step of the reflected CRC-32 of IEEE 802.3 (R325). -/
def crc32Step : Nat → Nat → Nat
  | 0, c => c
  | n + 1, c => crc32Step n (if c % 2 = 1 then (c / 2) ^^^ 0xEDB88320 else c / 2)

/-- CRC-32 of IEEE 802.3 (R325). -/
def crc32 (bs : List Byte) : Nat := (bs.foldl (fun c b => crc32Step 8 (c ^^^ b.toNat)) 0xFFFFFFFF) ^^^ 0xFFFFFFFF

/-- `n` bytes of zero. -/
def zeros (n : Nat) : List Byte := List.replicate n 0#8

/-- Replace the bytes at offset `o` of a record. -/
def putBytes (l : List Byte) (o : Nat) (bs : List Byte) : List Byte := l.take o ++ bs ++ l.drop (o + bs.length)

/-- Replace a list element. -/
def setAt {α : Type} (l : List α) (i : Nat) (v : α) : List α := l.set i v

/-- Update a list element. -/
def modAt {α : Type} (l : List α) (i : Nat) (f : α → α) : List α := l.mapIdx fun j a => if j = i then f a else a

end Sys2Proof.Machine
end

