-- ==== Sys2Proof/Machine/RegMap.lean ====
section
/-! DEFINITION. The register map of BAR0 (R619, R620, R632): every register's address, its reset value, its fields with
their access codes (R11) and value ranges (R622), and which SAT bit serves which counter (R634). -/

namespace Sys2Proof

/-- Access code of a field (R11). -/
inductive Access where
  | rw | ro | rc | w1c | w1s | wo
  deriving DecidableEq, Repr

/-- What a write of an RW field does with a value outside its range (R622). -/
inductive Range where
  /-- Every value of the field's width is in range. -/
  | any
  /-- A value outside `lo` to `hi` leaves the field as it was and is counted. -/
  | keep (lo hi : Nat)
  /-- A value outside is stored at the nearer limit. -/
  | clamp (lo hi : Nat)
  /-- The same, read as two's complement. -/
  | clampSigned (lo hi : Int)
  deriving DecidableEq, Repr

/-- One field of a register: its lowest bit, its width, its access code and its range. -/
structure FieldRow where
  lo : Nat
  width : Nat
  acc : Access
  rng : Range
  deriving DecidableEq, Repr

/-- How a reset treats a register (R621). -/
inductive Keep where
  /-- takes its reset value at every reset -/
  | no
  /-- held in the backup domain (R579) -/
  | backup
  /-- zero after a power-on or cold reset, otherwise unchanged (R17) -/
  | warm
  deriving DecidableEq, Repr

/-- What a register is in a 64-bit pair (R624): none, the LO half, the HI half. -/
inductive PairHalf where
  | none | lo | hi
  deriving DecidableEq, Repr

/-- One row of the register tables: element (i, j) lies at `base + i * s1 + j * s2` (R632). -/
structure RegRow where
  name : String
  base : Nat
  n1 : Nat
  s1 : Nat
  n2 : Nat
  s2 : Nat
  reset : BitVec 32
  keep : Keep
  half : PairHalf
  fields : List FieldRow
  deriving DecidableEq, Repr

/-- A field of one register of BAR0. -/
structure Fld where
  addr : Nat
  lo : Nat
  width : Nat
  deriving DecidableEq, Repr

/-- A counter of BAR0 with the SAT bit that serves it (R613, R634); `wide` for a 64-bit pair, named by its LO half. -/
structure Cnt where
  addr : Nat
  wide : Bool
  sat : Nat
  bit : Nat
  deriving DecidableEq, Repr

/-! Addresses (R632). -/

namespace Reg

/-- `TIME_CTL` (R58). -/
abbrev TIME_CTL : Nat := 0x040000
/-- `TIME_STAT` (R58). -/
abbrev TIME_STAT : Nat := 0x040004
/-- `TIME_NOW_LO` (R58). -/
abbrev TIME_NOW_LO : Nat := 0x040010
/-- `TIME_NOW_HI` (R58). -/
abbrev TIME_NOW_HI : Nat := 0x040014
/-- `TIME_RATE` (R58). -/
abbrev TIME_RATE : Nat := 0x040018
/-- `TIME_XO_TRIM` (R58). -/
abbrev TIME_XO_TRIM : Nat := 0x04001C
/-- `TIME_SLOT_LO` (R58). -/
abbrev TIME_SLOT_LO : Nat := 0x040020
/-- `TIME_SLOT_HI` (R58). -/
abbrev TIME_SLOT_HI : Nat := 0x040024
/-- `TIME_FRAME` (R58). -/
abbrev TIME_FRAME : Nat := 0x040028
/-- `TIME_SLOT_IN_FRAME` (R58). -/
abbrev TIME_SLOT_IN_FRAME : Nat := 0x04002C
/-- `TIME_PHASE_ERR` (R58). -/
abbrev TIME_PHASE_ERR : Nat := 0x040030
/-- `TIME_MARK_CNT` (R58). -/
abbrev TIME_MARK_CNT : Nat := 0x040040
/-- `TIME_STEP_CNT` (R58). -/
abbrev TIME_STEP_CNT : Nat := 0x040044
/-- `TIME_UNLOCK_CNT` (R58). -/
abbrev TIME_UNLOCK_CNT : Nat := 0x040048
/-- `TIME_HOLDOVER_CNT` (R58). -/
abbrev TIME_HOLDOVER_CNT : Nat := 0x04004C
/-- `TIME_CNT_SAT` (R58). -/
abbrev TIME_CNT_SAT : Nat := 0x040050
/-- `SLICE_FE_CTL` (R91). -/
abbrev SLICE_FE_CTL (i : Nat) : Nat := 0x080000 + 0x1000 * i
/-- `SLICE_FE_STAT` (R91). -/
abbrev SLICE_FE_STAT (i : Nat) : Nat := 0x080004 + 0x1000 * i
/-- `SLICE_CLAMP_STAT` (R91). -/
abbrev SLICE_CLAMP_STAT (i : Nat) : Nat := 0x080008 + 0x1000 * i
/-- `SLICE_CLAMP_CNT` (R91). -/
abbrev SLICE_CLAMP_CNT (i : Nat) : Nat := 0x08000C + 0x1000 * i
/-- `SLICE_OVR_CNT` (R91). -/
abbrev SLICE_OVR_CNT (i : Nat) : Nat := 0x080010 + 0x1000 * i
/-- `SLICE_FE_CNT_SAT` (R91). -/
abbrev SLICE_FE_CNT_SAT (i : Nat) : Nat := 0x080014 + 0x1000 * i
/-- `SLICE_CH_CFG` (R91). -/
abbrev SLICE_CH_CFG (s c : Nat) : Nat := 0x080100 + 0x1000 * s + 0x10 * c
/-- `SLICE_CH_THR_FIX` (R91). -/
abbrev SLICE_CH_THR_FIX (s c : Nat) : Nat := 0x080104 + 0x1000 * s + 0x10 * c
/-- `SLICE_CH_THR_LIVE` (R91). -/
abbrev SLICE_CH_THR_LIVE (s c : Nat) : Nat := 0x080108 + 0x1000 * s + 0x10 * c
/-- `SLICE_CH_CMP_TRIM` (R91). -/
abbrev SLICE_CH_CMP_TRIM (s c : Nat) : Nat := 0x08010C + 0x1000 * s + 0x10 * c
/-- `SLICE_EM_CTL` (R122). -/
abbrev SLICE_EM_CTL (i : Nat) : Nat := 0x080020 + 0x1000 * i
/-- `SLICE_EM_STAT` (R122). -/
abbrev SLICE_EM_STAT (i : Nat) : Nat := 0x080024 + 0x1000 * i
/-- `SLICE_EM_WIN_FIX` (R122). -/
abbrev SLICE_EM_WIN_FIX (i : Nat) : Nat := 0x080028 + 0x1000 * i
/-- `SLICE_EM_NOMREF_CNT` (R122). -/
abbrev SLICE_EM_NOMREF_CNT (i : Nat) : Nat := 0x08002C + 0x1000 * i
/-- `SLICE_EM_OVF_SHOT_CNT` (R122). -/
abbrev SLICE_EM_OVF_SHOT_CNT (i : Nat) : Nat := 0x080030 + 0x1000 * i
/-- `SLICE_EM_XDROP_CNT` (R122). -/
abbrev SLICE_EM_XDROP_CNT (i : Nat) : Nat := 0x080034 + 0x1000 * i
/-- `SLICE_EM_WCOERCE_CNT` (R122). -/
abbrev SLICE_EM_WCOERCE_CNT (i : Nat) : Nat := 0x080038 + 0x1000 * i
/-- `SLICE_EM_CNT_SAT` (R122). -/
abbrev SLICE_EM_CNT_SAT (i : Nat) : Nat := 0x08003C + 0x1000 * i
/-- `SLICE_EM_ACC_LO` (R122). -/
abbrev SLICE_EM_ACC_LO (i : Nat) : Nat := 0x080040 + 0x1000 * i
/-- `SLICE_EM_ACC_HI` (R122). -/
abbrev SLICE_EM_ACC_HI (i : Nat) : Nat := 0x080044 + 0x1000 * i
/-- `SLICE_EM_PRE_LO` (R122). -/
abbrev SLICE_EM_PRE_LO (i : Nat) : Nat := 0x080048 + 0x1000 * i
/-- `SLICE_EM_PRE_HI` (R122). -/
abbrev SLICE_EM_PRE_HI (i : Nat) : Nat := 0x08004C + 0x1000 * i
/-- `SLICE_EM_NEAR_LO` (R122). -/
abbrev SLICE_EM_NEAR_LO (i : Nat) : Nat := 0x080050 + 0x1000 * i
/-- `SLICE_EM_NEAR_HI` (R122). -/
abbrev SLICE_EM_NEAR_HI (i : Nat) : Nat := 0x080054 + 0x1000 * i
/-- `SLICE_EM_WIN_LO` (R122). -/
abbrev SLICE_EM_WIN_LO (i : Nat) : Nat := 0x080058 + 0x1000 * i
/-- `SLICE_EM_WIN_HI` (R122). -/
abbrev SLICE_EM_WIN_HI (i : Nat) : Nat := 0x08005C + 0x1000 * i
/-- `SLICE_EM_OVF_LO` (R122). -/
abbrev SLICE_EM_OVF_LO (i : Nat) : Nat := 0x080060 + 0x1000 * i
/-- `SLICE_EM_OVF_HI` (R122). -/
abbrev SLICE_EM_OVF_HI (i : Nat) : Nat := 0x080064 + 0x1000 * i
/-- `SLICE_EM_CH` (R122). -/
abbrev SLICE_EM_CH (s c : Nat) : Nat := 0x080200 + 0x1000 * s + 0x4 * c
/-- `SLICE_BUR_STAT` (R153). -/
abbrev SLICE_BUR_STAT (i : Nat) : Nat := 0x080300 + 0x1000 * i
/-- `SLICE_BUR_APPLY_CNT` (R153). -/
abbrev SLICE_BUR_APPLY_CNT (i : Nat) : Nat := 0x080304 + 0x1000 * i
/-- `SLICE_BUR_LAST_LO` (R153). -/
abbrev SLICE_BUR_LAST_LO (i : Nat) : Nat := 0x080308 + 0x1000 * i
/-- `SLICE_BUR_LAST_HI` (R153). -/
abbrev SLICE_BUR_LAST_HI (i : Nat) : Nat := 0x08030C + 0x1000 * i
/-- `SLICE_BUR_LAST_TEMP` (R153). -/
abbrev SLICE_BUR_LAST_TEMP (i : Nat) : Nat := 0x080310 + 0x1000 * i
/-- `SLICE_BUR_DISCARD_CNT` (R153). -/
abbrev SLICE_BUR_DISCARD_CNT (i : Nat) : Nat := 0x080314 + 0x1000 * i
/-- `SLICE_BUR_CNT_SAT` (R153). -/
abbrev SLICE_BUR_CNT_SAT (i : Nat) : Nat := 0x080318 + 0x1000 * i
/-- `SLICE_BUR_CH` (R153). -/
abbrev SLICE_BUR_CH (s c : Nat) : Nat := 0x080380 + 0x1000 * s + 0x4 * c
/-- `KILN_BUR_CTL` (R155). -/
abbrev KILN_BUR_CTL : Nat := 0x100800
/-- `KILN_BUR_REF_ACT` (R155). -/
abbrev KILN_BUR_REF_ACT : Nat := 0x100804
/-- `KILN_BUR_REF_STAT` (R155). -/
abbrev KILN_BUR_REF_STAT : Nat := 0x100810
/-- `KILN_BUR_REF_APPLY_CNT` (R155). -/
abbrev KILN_BUR_REF_APPLY_CNT : Nat := 0x100814
/-- `KILN_BUR_CNT_SAT` (R155). -/
abbrev KILN_BUR_CNT_SAT : Nat := 0x100818
/-- `BLW_CTL` (R191). -/
abbrev BLW_CTL : Nat := 0x0D0000
/-- `BLW_STAT` (R191). -/
abbrev BLW_STAT : Nat := 0x0D0004
/-- `BLW_E_REF_DLY` (R191). -/
abbrev BLW_E_REF_DLY : Nat := 0x0D0008
/-- `BLW_CODE_CHK` (R191). -/
abbrev BLW_CODE_CHK : Nat := 0x0D000C
/-- `BLW_E_FE_MISS_CNT` (R191). -/
abbrev BLW_E_FE_MISS_CNT : Nat := 0x0D0010
/-- `BLW_E_UNEXP_CNT` (R191). -/
abbrev BLW_E_UNEXP_CNT : Nat := 0x0D0014
/-- `BLW_E_RB_ERR_CNT` (R191). -/
abbrev BLW_E_RB_ERR_CNT : Nat := 0x0D0018
/-- `BLW_L_RB_ERR_CNT` (R191). -/
abbrev BLW_L_RB_ERR_CNT : Nat := 0x0D001C
/-- `BLW_CNT_SAT` (R191). -/
abbrev BLW_CNT_SAT : Nat := 0x0D0020
/-- `BLW_E_DRV` (R191). -/
abbrev BLW_E_DRV (i : Nat) : Nat := 0x0D0040 + 0x4 * i
/-- `BLW_L_DRV` (R191). -/
abbrev BLW_L_DRV (i : Nat) : Nat := 0x0D0080 + 0x4 * i
/-- `BLW_SEG_STAT` (R191). -/
abbrev BLW_SEG_STAT (i : Nat) : Nat := 0x0D0400 + 0x4 * i
/-- `BLW_SEG_PULSES_LO` (R191). -/
abbrev BLW_SEG_PULSES_LO (i : Nat) : Nat := 0x0D0800 + 0x8 * i
/-- `BLW_SEG_PULSES_HI` (R191). -/
abbrev BLW_SEG_PULSES_HI (i : Nat) : Nat := 0x0D0804 + 0x8 * i
/-- `BLW_LAMP_STAT` (R191). -/
abbrev BLW_LAMP_STAT (i : Nat) : Nat := 0x0D1000 + 0x4 * i
/-- `SLICE_KILN_CTL` (R217). -/
abbrev SLICE_KILN_CTL (i : Nat) : Nat := 0x080400 + 0x1000 * i
/-- `SLICE_KILN_STAT` (R217). -/
abbrev SLICE_KILN_STAT (i : Nat) : Nat := 0x080404 + 0x1000 * i
/-- `SLICE_KILN_OCC` (R217). -/
abbrev SLICE_KILN_OCC (i : Nat) : Nat := 0x080408 + 0x1000 * i
/-- `SLICE_KILN_ARENA_MISS_CNT` (R217). -/
abbrev SLICE_KILN_ARENA_MISS_CNT (i : Nat) : Nat := 0x080410 + 0x1000 * i
/-- `SLICE_KILN_GLIST_DROP_CNT` (R217). -/
abbrev SLICE_KILN_GLIST_DROP_CNT (i : Nat) : Nat := 0x080414 + 0x1000 * i
/-- `SLICE_KILN_GOUT_CNT` (R217). -/
abbrev SLICE_KILN_GOUT_CNT (i : Nat) : Nat := 0x080418 + 0x1000 * i
/-- `SLICE_KILN_CNT_SAT` (R217). -/
abbrev SLICE_KILN_CNT_SAT (i : Nat) : Nat := 0x08041C + 0x1000 * i
/-- `SLICE_KILN_GROUP_LO` (R217). -/
abbrev SLICE_KILN_GROUP_LO (i : Nat) : Nat := 0x080420 + 0x1000 * i
/-- `SLICE_KILN_GROUP_HI` (R217). -/
abbrev SLICE_KILN_GROUP_HI (i : Nat) : Nat := 0x080424 + 0x1000 * i
/-- `SLICE_KILN_UNM_LO` (R217). -/
abbrev SLICE_KILN_UNM_LO (i : Nat) : Nat := 0x080428 + 0x1000 * i
/-- `SLICE_KILN_UNM_HI` (R217). -/
abbrev SLICE_KILN_UNM_HI (i : Nat) : Nat := 0x08042C + 0x1000 * i
/-- `SLICE_KILN_INT_LO` (R217). -/
abbrev SLICE_KILN_INT_LO (i : Nat) : Nat := 0x080430 + 0x1000 * i
/-- `SLICE_KILN_INT_HI` (R217). -/
abbrev SLICE_KILN_INT_HI (i : Nat) : Nat := 0x080434 + 0x1000 * i
/-- `SLICE_KILN_PIX_LO` (R217). -/
abbrev SLICE_KILN_PIX_LO (i : Nat) : Nat := 0x080438 + 0x1000 * i
/-- `SLICE_KILN_PIX_HI` (R217). -/
abbrev SLICE_KILN_PIX_HI (i : Nat) : Nat := 0x08043C + 0x1000 * i
/-- `SLICE_KILN_ECHO_LO` (R217). -/
abbrev SLICE_KILN_ECHO_LO (i : Nat) : Nat := 0x080440 + 0x1000 * i
/-- `SLICE_KILN_ECHO_HI` (R217). -/
abbrev SLICE_KILN_ECHO_HI (i : Nat) : Nat := 0x080444 + 0x1000 * i
/-- `KILN_CTL` (R219). -/
abbrev KILN_CTL : Nat := 0x100000
/-- `KILN_RANGE_K` (R219). -/
abbrev KILN_RANGE_K : Nat := 0x100004
/-- `KILN_CLASS_ID` (R219). -/
abbrev KILN_CLASS_ID : Nat := 0x100008
/-- `TAP_CTL` (R248). -/
abbrev TAP_CTL : Nat := 0x0C0000
/-- `TAP_STAT` (R248). -/
abbrev TAP_STAT : Nat := 0x0C0004
/-- `TAP_EVT_STAT` (R248). -/
abbrev TAP_EVT_STAT : Nat := 0x0C0008
/-- `TAP_WIN_LO` (R248). -/
abbrev TAP_WIN_LO : Nat := 0x0C0010
/-- `TAP_WIN_HI` (R248). -/
abbrev TAP_WIN_HI : Nat := 0x0C0014
/-- `TAP_UNSERVED_CNT` (R248). -/
abbrev TAP_UNSERVED_CNT : Nat := 0x0C0018
/-- `TAP_WITHHELD_CNT` (R248). -/
abbrev TAP_WITHHELD_CNT : Nat := 0x0C001C
/-- `TAP_CNT_SAT` (R248). -/
abbrev TAP_CNT_SAT : Nat := 0x0C0020
/-- `TAP_REQ_ROWS` (R248). -/
abbrev TAP_REQ_ROWS (i : Nat) : Nat := 0x0C0100 + 0x10 * i
/-- `TAP_REQ_COLS` (R248). -/
abbrev TAP_REQ_COLS (i : Nat) : Nat := 0x0C0104 + 0x10 * i
/-- `TAP_REQ_CFG` (R248). -/
abbrev TAP_REQ_CFG (i : Nat) : Nat := 0x0C0108 + 0x10 * i
/-- `TAP_T_CAL_X1` (R248). -/
abbrev TAP_T_CAL_X1 (i : Nat) : Nat := 0x0C0400 + 0x20 * i
/-- `TAP_T_CAL_X2` (R248). -/
abbrev TAP_T_CAL_X2 (i : Nat) : Nat := 0x0C0404 + 0x20 * i
/-- `TAP_T_DELAY` (R248). -/
abbrev TAP_T_DELAY (i : Nat) : Nat := 0x0C0408 + 0x20 * i
/-- `TAP_T_OVF_CNT` (R248). -/
abbrev TAP_T_OVF_CNT (i : Nat) : Nat := 0x0C040C + 0x20 * i
/-- `TAP_T_SKIP_CNT` (R248). -/
abbrev TAP_T_SKIP_CNT (i : Nat) : Nat := 0x0C0410 + 0x20 * i
/-- `TAP_T_CLIP_CNT` (R248). -/
abbrev TAP_T_CLIP_CNT (i : Nat) : Nat := 0x0C0414 + 0x20 * i
/-- `TAP_T_CNT_SAT` (R248). -/
abbrev TAP_T_CNT_SAT (i : Nat) : Nat := 0x0C0418 + 0x20 * i
/-- `TAP_T_LAST` (R248). -/
abbrev TAP_T_LAST (i : Nat) : Nat := 0x0C041C + 0x20 * i
/-- `TURF_CTL` (R282). -/
abbrev TURF_CTL : Nat := 0x0F0000
/-- `TURF_STAT` (R282). -/
abbrev TURF_STAT : Nat := 0x0F0004
/-- `TURF_BANK_ON` (R282). -/
abbrev TURF_BANK_ON : Nat := 0x0F0008
/-- `TURF_LATE_CNT` (R282). -/
abbrev TURF_LATE_CNT : Nat := 0x0F0010
/-- `TURF_STALE_CNT` (R282). -/
abbrev TURF_STALE_CNT : Nat := 0x0F0014
/-- `TURF_ASHSAT_CNT` (R282). -/
abbrev TURF_ASHSAT_CNT : Nat := 0x0F0018
/-- `TURF_UE_CNT` (R282). -/
abbrev TURF_UE_CNT : Nat := 0x0F001C
/-- `TURF_CNT_SAT` (R282). -/
abbrev TURF_CNT_SAT : Nat := 0x0F0020
/-- `TURF_UPD_LO` (R282). -/
abbrev TURF_UPD_LO : Nat := 0x0F0028
/-- `TURF_UPD_HI` (R282). -/
abbrev TURF_UPD_HI : Nat := 0x0F002C
/-- `TURF_ACQ_LO` (R282). -/
abbrev TURF_ACQ_LO : Nat := 0x0F0030
/-- `TURF_ACQ_HI` (R282). -/
abbrev TURF_ACQ_HI : Nat := 0x0F0034
/-- `TURF_RD_IDX` (R282). -/
abbrev TURF_RD_IDX : Nat := 0x0F0040
/-- `TURF_RD_STAT` (R282). -/
abbrev TURF_RD_STAT : Nat := 0x0F0044
/-- `TURF_RD_DATA` (R282). -/
abbrev TURF_RD_DATA (i : Nat) : Nat := 0x0F0080 + 0x4 * i
/-- `TURF_ROW_ASH` (R282). -/
abbrev TURF_ROW_ASH (i : Nat) : Nat := 0x0F0800 + 0x4 * i
/-- `SCN_CTL` (R316). -/
abbrev SCN_CTL : Nat := 0x0E0000
/-- `SCN_STAT` (R316). -/
abbrev SCN_STAT : Nat := 0x0E0004
/-- `SCN_EVT` (R316). -/
abbrev SCN_EVT : Nat := 0x0E0008
/-- `SCN_MIR_EXP` (R316). -/
abbrev SCN_MIR_EXP : Nat := 0x0E000C
/-- `SCN_MIR_LAT` (R316). -/
abbrev SCN_MIR_LAT : Nat := 0x0E0010
/-- `SCN_MIR_ERR` (R316). -/
abbrev SCN_MIR_ERR : Nat := 0x0E0014
/-- `SCN_MIR_DAC` (R316). -/
abbrev SCN_MIR_DAC : Nat := 0x0E0018
/-- `SCN_LAG` (R316). -/
abbrev SCN_LAG : Nat := 0x0E001C
/-- `SCN_SOFT_E` (R316). -/
abbrev SCN_SOFT_E : Nat := 0x0E0020
/-- `SCN_OVERRUN_CNT` (R316). -/
abbrev SCN_OVERRUN_CNT : Nat := 0x0E0030
/-- `SCN_TRACK_SKIP_CNT` (R316). -/
abbrev SCN_TRACK_SKIP_CNT : Nat := 0x0E0034
/-- `SCN_SOFT_CNT` (R316). -/
abbrev SCN_SOFT_CNT : Nat := 0x0E0038
/-- `SCN_DAMP_CUT_CNT` (R316). -/
abbrev SCN_DAMP_CUT_CNT : Nat := 0x0E003C
/-- `SCN_MFAULT_CNT` (R316). -/
abbrev SCN_MFAULT_CNT : Nat := 0x0E0040
/-- `SCN_CNT_SAT` (R316). -/
abbrev SCN_CNT_SAT : Nat := 0x0E0044
/-- `SCN_COL_PLAN` (R316). -/
abbrev SCN_COL_PLAN (i : Nat) : Nat := 0x0E0100 + 0x4 * i
/-- `ING_CTL` (R340). -/
abbrev ING_CTL : Nat := 0x110000
/-- `ING_STAT` (R340). -/
abbrev ING_STAT : Nat := 0x110004
/-- `ING_EVT` (R340). -/
abbrev ING_EVT : Nat := 0x110008
/-- `ING_SEQ` (R340). -/
abbrev ING_SEQ : Nat := 0x11000C
/-- `ING_REC_LO` (R340). -/
abbrev ING_REC_LO : Nat := 0x110010
/-- `ING_REC_HI` (R340). -/
abbrev ING_REC_HI : Nat := 0x110014
/-- `ING_DROP_FULL_LO` (R340). -/
abbrev ING_DROP_FULL_LO : Nat := 0x110018
/-- `ING_DROP_FULL_HI` (R340). -/
abbrev ING_DROP_FULL_HI : Nat := 0x11001C
/-- `ING_DROP_BUDGET_LO` (R340). -/
abbrev ING_DROP_BUDGET_LO : Nat := 0x110020
/-- `ING_DROP_BUDGET_HI` (R340). -/
abbrev ING_DROP_BUDGET_HI : Nat := 0x110024
/-- `ING_HIST_DROP_CNT` (R340). -/
abbrev ING_HIST_DROP_CNT : Nat := 0x110028
/-- `ING_INCOMPLETE_CNT` (R340). -/
abbrev ING_INCOMPLETE_CNT : Nat := 0x11002C
/-- `ING_CNT_SAT` (R340). -/
abbrev ING_CNT_SAT : Nat := 0x110030
/-- `ING_HIST_ROWS` (R340). -/
abbrev ING_HIST_ROWS : Nat := 0x110040
/-- `ING_HIST_COLS` (R340). -/
abbrev ING_HIST_COLS : Nat := 0x110044
/-- `ING_HIST_CFG` (R340). -/
abbrev ING_HIST_CFG : Nat := 0x110048
/-- `ING_S_CTL` (R340). -/
abbrev ING_S_CTL (i : Nat) : Nat := 0x110100 + 0x40 * i
/-- `ING_S_STAT` (R340). -/
abbrev ING_S_STAT (i : Nat) : Nat := 0x110104 + 0x40 * i
/-- `ING_S_BASE_LO` (R340). -/
abbrev ING_S_BASE_LO (i : Nat) : Nat := 0x110108 + 0x40 * i
/-- `ING_S_BASE_HI` (R340). -/
abbrev ING_S_BASE_HI (i : Nat) : Nat := 0x11010C + 0x40 * i
/-- `ING_S_SIZE` (R340). -/
abbrev ING_S_SIZE (i : Nat) : Nat := 0x110110 + 0x40 * i
/-- `ING_S_WR` (R340). -/
abbrev ING_S_WR (i : Nat) : Nat := 0x110114 + 0x40 * i
/-- `ING_S_RD` (R340). -/
abbrev ING_S_RD (i : Nat) : Nat := 0x110118 + 0x40 * i
/-- `ING_S_INC` (R340). -/
abbrev ING_S_INC (i : Nat) : Nat := 0x11011C + 0x40 * i
/-- `PEER_CTL` (R359). -/
abbrev PEER_CTL : Nat := 0x120000
/-- `PEER_STAT` (R359). -/
abbrev PEER_STAT : Nat := 0x120004
/-- `PEER_EVT` (R359). -/
abbrev PEER_EVT : Nat := 0x120008
/-- `PEER_ID_LO` (R359). -/
abbrev PEER_ID_LO : Nat := 0x120010
/-- `PEER_ID_HI` (R359). -/
abbrev PEER_ID_HI : Nat := 0x120014
/-- `PEER_DOMAIN` (R359). -/
abbrev PEER_DOMAIN : Nat := 0x120018
/-- `PEER_OFFSET` (R359). -/
abbrev PEER_OFFSET : Nat := 0x120020
/-- `PEER_DELAY` (R359). -/
abbrev PEER_DELAY : Nat := 0x120024
/-- `PEER_CRC_ERR_CNT` (R359). -/
abbrev PEER_CRC_ERR_CNT : Nat := 0x120030
/-- `PEER_LOSS_CNT` (R359). -/
abbrev PEER_LOSS_CNT : Nat := 0x120034
/-- `PEER_MEMBER_CHG_CNT` (R359). -/
abbrev PEER_MEMBER_CHG_CNT : Nat := 0x120038
/-- `PEER_CNT_SAT` (R359). -/
abbrev PEER_CNT_SAT : Nat := 0x12003C
/-- `PEER_LANE_STAT` (R359). -/
abbrev PEER_LANE_STAT (i : Nat) : Nat := 0x120100 + 0x10 * i
/-- `PEER_MEM_ID_LO` (R359). -/
abbrev PEER_MEM_ID_LO (i : Nat) : Nat := 0x120200 + 0x10 * i
/-- `PEER_MEM_ID_HI` (R359). -/
abbrev PEER_MEM_ID_HI (i : Nat) : Nat := 0x120204 + 0x10 * i
/-- `PEER_MEM_STAT` (R359). -/
abbrev PEER_MEM_STAT (i : Nat) : Nat := 0x120208 + 0x10 * i
/-- `SAFE_STAT` (R401). -/
abbrev SAFE_STAT : Nat := 0x130000
/-- `SAFE_CAUSE` (R401). -/
abbrev SAFE_CAUSE : Nat := 0x130004
/-- `SAFE_EVT` (R401). -/
abbrev SAFE_EVT : Nat := 0x130008
/-- `SAFE_IN` (R401). -/
abbrev SAFE_IN : Nat := 0x13000C
/-- `SAFE_CHECK` (R401). -/
abbrev SAFE_CHECK : Nat := 0x130010
/-- `SAFE_CHECK_LIVE` (R401). -/
abbrev SAFE_CHECK_LIVE : Nat := 0x130014
/-- `SAFE_WIN` (R401). -/
abbrev SAFE_WIN : Nat := 0x130018
/-- `SAFE_E_BUDGET` (R401). -/
abbrev SAFE_E_BUDGET : Nat := 0x13001C
/-- `SAFE_MOTION` (R401). -/
abbrev SAFE_MOTION : Nat := 0x130020
/-- `SAFE_TEST_A` (R401). -/
abbrev SAFE_TEST_A : Nat := 0x130024
/-- `SAFE_TEST_B` (R401). -/
abbrev SAFE_TEST_B : Nat := 0x130028
/-- `SAFE_B_FRAME` (R401). -/
abbrev SAFE_B_FRAME : Nat := 0x13002C
/-- `SAFE_B_LAST` (R401). -/
abbrev SAFE_B_LAST : Nat := 0x130030
/-- `SAFE_QUENCH_CNT` (R401). -/
abbrev SAFE_QUENCH_CNT : Nat := 0x130040
/-- `SAFE_INFR_CNT` (R401). -/
abbrev SAFE_INFR_CNT : Nat := 0x130044
/-- `SAFE_TEST_FAIL_CNT` (R401). -/
abbrev SAFE_TEST_FAIL_CNT : Nat := 0x130048
/-- `SAFE_RESTART_CNT` (R401). -/
abbrev SAFE_RESTART_CNT : Nat := 0x13004C
/-- `SAFE_VETO_CNT` (R401). -/
abbrev SAFE_VETO_CNT : Nat := 0x130050
/-- `SAFE_CNT_SAT` (R401). -/
abbrev SAFE_CNT_SAT : Nat := 0x130054
/-- `SAFE_LOCK_TIME_LO` (R401). -/
abbrev SAFE_LOCK_TIME_LO : Nat := 0x130058
/-- `SAFE_LOCK_TIME_HI` (R401). -/
abbrev SAFE_LOCK_TIME_HI : Nat := 0x13005C
/-- `CMDQ_STAT` (R473). -/
abbrev CMDQ_STAT : Nat := 0x020000
/-- `CMDQ_DECLARE` (R473). -/
abbrev CMDQ_DECLARE : Nat := 0x020004
/-- `CMDQ_ACK_MISS_CNT` (R473). -/
abbrev CMDQ_ACK_MISS_CNT : Nat := 0x020010
/-- `CMDQ_FMT_ERR_CNT` (R473). -/
abbrev CMDQ_FMT_ERR_CNT : Nat := 0x020014
/-- `CMDQ_DB_ERR_CNT` (R473). -/
abbrev CMDQ_DB_ERR_CNT : Nat := 0x020018
/-- `CMDQ_DECL_CNT` (R473). -/
abbrev CMDQ_DECL_CNT : Nat := 0x02001C
/-- `CMDQ_CNT_SAT` (R473). -/
abbrev CMDQ_CNT_SAT : Nat := 0x020020
/-- `CMDQ_Q_CTL` (R473). -/
abbrev CMDQ_Q_CTL (i : Nat) : Nat := 0x020100 + 0x20 * i
/-- `CMDQ_Q_STAT` (R473). -/
abbrev CMDQ_Q_STAT (i : Nat) : Nat := 0x020104 + 0x20 * i
/-- `CMDQ_Q_EVT` (R473). -/
abbrev CMDQ_Q_EVT (i : Nat) : Nat := 0x020108 + 0x20 * i
/-- `CMDQ_Q_ACK_LAT` (R473). -/
abbrev CMDQ_Q_ACK_LAT (i : Nat) : Nat := 0x02010C + 0x20 * i
/-- `CMDQ_Q_SQ_BASE_LO` (R473). -/
abbrev CMDQ_Q_SQ_BASE_LO (i : Nat) : Nat := 0x020110 + 0x20 * i
/-- `CMDQ_Q_SQ_BASE_HI` (R473). -/
abbrev CMDQ_Q_SQ_BASE_HI (i : Nat) : Nat := 0x020114 + 0x20 * i
/-- `CMDQ_Q_CQ_BASE_LO` (R473). -/
abbrev CMDQ_Q_CQ_BASE_LO (i : Nat) : Nat := 0x020118 + 0x20 * i
/-- `CMDQ_Q_CQ_BASE_HI` (R473). -/
abbrev CMDQ_Q_CQ_BASE_HI (i : Nat) : Nat := 0x02011C + 0x20 * i
/-- `GLB_CFG_STAT` (R500). -/
abbrev GLB_CFG_STAT : Nat := 0x000100
/-- `GLB_CFG_EVT` (R500). -/
abbrev GLB_CFG_EVT : Nat := 0x000104
/-- `GLB_STORE_INFO` (R500). -/
abbrev GLB_STORE_INFO : Nat := 0x000108
/-- `GLB_STORE_FREE` (R500). -/
abbrev GLB_STORE_FREE : Nat := 0x00010C
/-- `GLB_STORE_ERASE_MAX` (R500). -/
abbrev GLB_STORE_ERASE_MAX : Nat := 0x000110
/-- `GLB_STORE_ERASE_MIN` (R500). -/
abbrev GLB_STORE_ERASE_MIN : Nat := 0x000114
/-- `GLB_CFG_APPLY_CNT` (R500). -/
abbrev GLB_CFG_APPLY_CNT : Nat := 0x000120
/-- `GLB_CFG_REFUSE_CNT` (R500). -/
abbrev GLB_CFG_REFUSE_CNT : Nat := 0x000124
/-- `GLB_STORE_COMMIT_CNT` (R500). -/
abbrev GLB_STORE_COMMIT_CNT : Nat := 0x000128
/-- `GLB_STORE_CRC_ERR_CNT` (R500). -/
abbrev GLB_STORE_CRC_ERR_CNT : Nat := 0x00012C
/-- `GLB_CFG_CNT_SAT` (R500). -/
abbrev GLB_CFG_CNT_SAT : Nat := 0x000130
/-- `GLB_STORE_GEN` (R500). -/
abbrev GLB_STORE_GEN (i : Nat) : Nat := 0x000140 + 0x4 * i
/-- `MEM_CTL` (R527). -/
abbrev MEM_CTL : Nat := 0x140000
/-- `MEM_STAT` (R527). -/
abbrev MEM_STAT : Nat := 0x140004
/-- `MEM_EVT` (R527). -/
abbrev MEM_EVT : Nat := 0x140008
/-- `MEM_PATROL` (R527). -/
abbrev MEM_PATROL : Nat := 0x14000C
/-- `MEM_DMA_STAT` (R527). -/
abbrev MEM_DMA_STAT : Nat := 0x140010
/-- `MEM_WMB_STAT` (R527). -/
abbrev MEM_WMB_STAT : Nat := 0x140014
/-- `MEM_UE_ADDR_LO` (R527). -/
abbrev MEM_UE_ADDR_LO : Nat := 0x140018
/-- `MEM_UE_ADDR_HI` (R527). -/
abbrev MEM_UE_ADDR_HI : Nat := 0x14001C
/-- `MEM_CE_CNT` (R527). -/
abbrev MEM_CE_CNT : Nat := 0x140020
/-- `MEM_UE_CNT` (R527). -/
abbrev MEM_UE_CNT : Nat := 0x140024
/-- `MEM_SRAM_CE_CNT` (R527). -/
abbrev MEM_SRAM_CE_CNT : Nat := 0x140028
/-- `MEM_SRAM_UE_CNT` (R527). -/
abbrev MEM_SRAM_UE_CNT : Nat := 0x14002C
/-- `MEM_TRAP_CNT` (R527). -/
abbrev MEM_TRAP_CNT : Nat := 0x140030
/-- `MEM_RETRAIN_FAIL_CNT` (R527). -/
abbrev MEM_RETRAIN_FAIL_CNT : Nat := 0x140034
/-- `MEM_CNT_SAT` (R527). -/
abbrev MEM_CNT_SAT : Nat := 0x140038
/-- `MEM_CH_CNT_SAT` (R527). -/
abbrev MEM_CH_CNT_SAT : Nat := 0x14003C
/-- `MEM_CH_CE_CNT` (R527). -/
abbrev MEM_CH_CE_CNT (i : Nat) : Nat := 0x140100 + 0x4 * i
/-- `HK_CTL` (R552). -/
abbrev HK_CTL : Nat := 0x150000
/-- `HK_STAT` (R552). -/
abbrev HK_STAT : Nat := 0x150004
/-- `HK_EVT` (R552). -/
abbrev HK_EVT : Nat := 0x150008
/-- `HK_CLAMP_STAT` (R552). -/
abbrev HK_CLAMP_STAT : Nat := 0x15000C
/-- `HK_OPEN_STAT` (R552). -/
abbrev HK_OPEN_STAT : Nat := 0x150010
/-- `HK_SYNC_TIME_LO` (R552). -/
abbrev HK_SYNC_TIME_LO : Nat := 0x150014
/-- `HK_SYNC_TIME_HI` (R552). -/
abbrev HK_SYNC_TIME_HI : Nat := 0x150018
/-- `HK_CLAMP_CNT` (R552). -/
abbrev HK_CLAMP_CNT : Nat := 0x150020
/-- `HK_OPEN_CNT` (R552). -/
abbrev HK_OPEN_CNT : Nat := 0x150024
/-- `HK_CNT_SAT` (R552). -/
abbrev HK_CNT_SAT : Nat := 0x150028
/-- `HK_CHAIN_CFG` (R552). -/
abbrev HK_CHAIN_CFG (i : Nat) : Nat := 0x150040 + 0x4 * i
/-- `HK_CHAIN_OUT` (R552). -/
abbrev HK_CHAIN_OUT (i : Nat) : Nat := 0x150060 + 0x4 * i
/-- `HK_SENSE_CFG` (R552). -/
abbrev HK_SENSE_CFG (i : Nat) : Nat := 0x150100 + 0x8 * i
/-- `HK_SENSE_WORD` (R552). -/
abbrev HK_SENSE_WORD (i : Nat) : Nat := 0x150104 + 0x8 * i
/-- `HK_CAL` (R552). -/
abbrev HK_CAL (i : Nat) : Nat := 0x150200 + 0x4 * i
/-- `THM_CTL` (R554). -/
abbrev THM_CTL : Nat := 0x160000
/-- `THM_STAT` (R554). -/
abbrev THM_STAT : Nat := 0x160004
/-- `THM_EVT` (R554). -/
abbrev THM_EVT : Nat := 0x160008
/-- `THM_FAIL` (R554). -/
abbrev THM_FAIL : Nat := 0x16000C
/-- `THM_LEVEL_CNT` (R554). -/
abbrev THM_LEVEL_CNT : Nat := 0x160020
/-- `THM_SAFE_CNT` (R554). -/
abbrev THM_SAFE_CNT : Nat := 0x160024
/-- `THM_CNT_SAT` (R554). -/
abbrev THM_CNT_SAT : Nat := 0x160028
/-- `THM_REGION` (R554). -/
abbrev THM_REGION (i : Nat) : Nat := 0x160100 + 0x4 * i
/-- `PWR_CTL` (R574). -/
abbrev PWR_CTL : Nat := 0x170000
/-- `PWR_STAT` (R574). -/
abbrev PWR_STAT : Nat := 0x170004
/-- `PWR_EVT` (R574). -/
abbrev PWR_EVT : Nat := 0x170008
/-- `PWR_VF` (R574). -/
abbrev PWR_VF : Nat := 0x17000C
/-- `PWR_POWER` (R574). -/
abbrev PWR_POWER : Nat := 0x170010
/-- `PWR_FLOOR_CNT` (R574). -/
abbrev PWR_FLOOR_CNT : Nat := 0x170020
/-- `PWR_AVS_ERR_CNT` (R574). -/
abbrev PWR_AVS_ERR_CNT : Nat := 0x170024
/-- `PWR_DOM_FAIL_CNT` (R574). -/
abbrev PWR_DOM_FAIL_CNT : Nat := 0x170028
/-- `PWR_CNT_SAT` (R574). -/
abbrev PWR_CNT_SAT : Nat := 0x17002C
/-- `PWR_DOM_ON` (R574). -/
abbrev PWR_DOM_ON (i : Nat) : Nat := 0x170040 + 0x4 * i
/-- `PWR_DOM_FAIL` (R574). -/
abbrev PWR_DOM_FAIL (i : Nat) : Nat := 0x170060 + 0x4 * i
/-- `PWR_PACE` (R574). -/
abbrev PWR_PACE (i : Nat) : Nat := 0x170100 + 0x4 * i
/-- `RST_CAUSE` (R602). -/
abbrev RST_CAUSE : Nat := 0x180000
/-- `RST_STAT` (R602). -/
abbrev RST_STAT : Nat := 0x180004
/-- `RST_SRC_CNT` (R602). -/
abbrev RST_SRC_CNT (i : Nat) : Nat := 0x180010 + 0x4 * i
/-- `RST_FUSE_RESTART_CNT` (R602). -/
abbrev RST_FUSE_RESTART_CNT : Nat := 0x180030
/-- `RST_BOOT_FAIL_CNT` (R602). -/
abbrev RST_BOOT_FAIL_CNT : Nat := 0x180034
/-- `RST_HELD_LAST` (R602). -/
abbrev RST_HELD_LAST : Nat := 0x180038
/-- `RST_HELD_MAX` (R602). -/
abbrev RST_HELD_MAX : Nat := 0x18003C
/-- `RST_CNT_SAT` (R602). -/
abbrev RST_CNT_SAT : Nat := 0x180040
/-- `SEC_STAT` (R602). -/
abbrev SEC_STAT : Nat := 0x180100
/-- `SEC_FW_VER` (R602). -/
abbrev SEC_FW_VER : Nat := 0x180104
/-- `SEC_FLOOR` (R602). -/
abbrev SEC_FLOOR : Nat := 0x180108
/-- `SEC_SEQ` (R602). -/
abbrev SEC_SEQ : Nat := 0x18010C
/-- `SEC_SVC` (R602). -/
abbrev SEC_SVC : Nat := 0x180110
/-- `SEC_BOOT_STAT` (R602). -/
abbrev SEC_BOOT_STAT : Nat := 0x180114
/-- `SEC_DEVICE_ID_LO` (R602). -/
abbrev SEC_DEVICE_ID_LO : Nat := 0x180118
/-- `SEC_DEVICE_ID_HI` (R602). -/
abbrev SEC_DEVICE_ID_HI : Nat := 0x18011C
/-- `EVT_CTL` (R618). -/
abbrev EVT_CTL : Nat := 0x010000
/-- `EVT_STAT` (R618). -/
abbrev EVT_STAT : Nat := 0x010004
/-- `EVT_RING_BASE_LO` (R618). -/
abbrev EVT_RING_BASE_LO : Nat := 0x010008
/-- `EVT_RING_BASE_HI` (R618). -/
abbrev EVT_RING_BASE_HI : Nat := 0x01000C
/-- `EVT_RING_SIZE` (R618). -/
abbrev EVT_RING_SIZE : Nat := 0x010010
/-- `EVT_RING_WR` (R618). -/
abbrev EVT_RING_WR : Nat := 0x010014
/-- `EVT_RING_RD` (R618). -/
abbrev EVT_RING_RD : Nat := 0x010018
/-- `EVT_RING_DROP_CNT` (R618). -/
abbrev EVT_RING_DROP_CNT : Nat := 0x01001C
/-- `EVT_CNT_SAT` (R618). -/
abbrev EVT_CNT_SAT : Nat := 0x010020
/-- `EVT_PEND` (R618). -/
abbrev EVT_PEND (i : Nat) : Nat := 0x010100 + 0x4 * i
/-- `EVT_ROUTE` (R618). -/
abbrev EVT_ROUTE (i : Nat) : Nat := 0x011000 + 0x4 * i
/-- `TEL_SEQ` (R618). -/
abbrev TEL_SEQ : Nat := 0x190000
/-- `TEL_STAT` (R618). -/
abbrev TEL_STAT : Nat := 0x190004
/-- `GLB_IDENT` (R628). -/
abbrev GLB_IDENT : Nat := 0x000000
/-- `GLB_CTL` (R628). -/
abbrev GLB_CTL : Nat := 0x000004
/-- `GLB_STAT` (R628). -/
abbrev GLB_STAT : Nat := 0x000008
/-- `GLB_HOST` (R628). -/
abbrev GLB_HOST : Nat := 0x000010
/-- `GLB_APERTURE` (R628). -/
abbrev GLB_APERTURE : Nat := 0x000014
/-- `GLB_BAD_ACCESS_CNT` (R628). -/
abbrev GLB_BAD_ACCESS_CNT : Nat := 0x000020
/-- `GLB_BAD_VALUE_CNT` (R628). -/
abbrev GLB_BAD_VALUE_CNT : Nat := 0x000024
/-- `GLB_CNT_SAT` (R628). -/
abbrev GLB_CNT_SAT : Nat := 0x000028
/-- `GLB_SCRATCH` (R628). -/
abbrev GLB_SCRATCH : Nat := 0x000030
/-- `GLB_ENG_STAT` (R628). -/
abbrev GLB_ENG_STAT (i : Nat) : Nat := 0x000200 + 0x4 * i
/-- `TIME_XDROP_CNT` (R633). -/
abbrev TIME_XDROP_CNT : Nat := 0x040060
/-- `TIME_XDROP_SAT` (R633). -/
abbrev TIME_XDROP_SAT : Nat := 0x040064
/-- `CMDQ_XDROP_CNT` (R633). -/
abbrev CMDQ_XDROP_CNT : Nat := 0x020024
/-- `CMDQ_XDROP_SAT` (R633). -/
abbrev CMDQ_XDROP_SAT : Nat := 0x020028
/-- `MEM_XDROP_CNT` (R633). -/
abbrev MEM_XDROP_CNT : Nat := 0x140040
/-- `MEM_XDROP_SAT` (R633). -/
abbrev MEM_XDROP_SAT : Nat := 0x140044
/-- `PEER_XDROP_CNT` (R633). -/
abbrev PEER_XDROP_CNT : Nat := 0x120040
/-- `PEER_XDROP_SAT` (R633). -/
abbrev PEER_XDROP_SAT : Nat := 0x120044
/-- `SAFE_XDROP_CNT` (R633). -/
abbrev SAFE_XDROP_CNT : Nat := 0x130060
/-- `SAFE_XDROP_SAT` (R633). -/
abbrev SAFE_XDROP_SAT : Nat := 0x130064
/-- `RST_XDROP_CNT` (R633). -/
abbrev RST_XDROP_CNT : Nat := 0x180044
/-- `RST_XDROP_SAT` (R633). -/
abbrev RST_XDROP_SAT : Nat := 0x180048

end Reg

/-! Named fields. -/

namespace F

abbrev TIME_CTL_SOURCE : Fld := ⟨Reg.TIME_CTL, 0, 2⟩
abbrev TIME_CTL_STEP_EN : Fld := ⟨Reg.TIME_CTL, 2, 1⟩
abbrev TIME_CTL_XO_COMP_EN : Fld := ⟨Reg.TIME_CTL, 3, 1⟩
abbrev TIME_CTL_AGE_LEARN_EN : Fld := ⟨Reg.TIME_CTL, 4, 1⟩
abbrev TIME_STAT_LOCK : Fld := ⟨Reg.TIME_STAT, 0, 1⟩
abbrev TIME_STAT_VALID : Fld := ⟨Reg.TIME_STAT, 1, 1⟩
abbrev TIME_STAT_DISCIPLINED : Fld := ⟨Reg.TIME_STAT, 2, 1⟩
abbrev TIME_STAT_HOLDOVER : Fld := ⟨Reg.TIME_STAT, 3, 1⟩
abbrev TIME_STAT_STEP_PENDING : Fld := ⟨Reg.TIME_STAT, 4, 1⟩
abbrev TIME_STAT_PHASE_LOCK : Fld := ⟨Reg.TIME_STAT, 5, 1⟩
abbrev TIME_STAT_XO_TRIM_LIMIT : Fld := ⟨Reg.TIME_STAT, 6, 1⟩
abbrev TIME_STAT_FMEAS_BUSY : Fld := ⟨Reg.TIME_STAT, 7, 1⟩
abbrev TIME_STAT_ACTIVE_SRC : Fld := ⟨Reg.TIME_STAT, 8, 2⟩
abbrev TIME_RATE : Fld := ⟨Reg.TIME_RATE, 0, 32⟩
abbrev TIME_XO_TRIM : Fld := ⟨Reg.TIME_XO_TRIM, 0, 32⟩
abbrev TIME_FRAME : Fld := ⟨Reg.TIME_FRAME, 0, 32⟩
abbrev TIME_SLOT_IN_FRAME_SLOT : Fld := ⟨Reg.TIME_SLOT_IN_FRAME, 0, 16⟩
abbrev TIME_PHASE_ERR : Fld := ⟨Reg.TIME_PHASE_ERR, 0, 32⟩
abbrev TIME_MARK_CNT : Fld := ⟨Reg.TIME_MARK_CNT, 0, 32⟩
abbrev TIME_STEP_CNT : Fld := ⟨Reg.TIME_STEP_CNT, 0, 32⟩
abbrev TIME_UNLOCK_CNT : Fld := ⟨Reg.TIME_UNLOCK_CNT, 0, 32⟩
abbrev TIME_HOLDOVER_CNT : Fld := ⟨Reg.TIME_HOLDOVER_CNT, 0, 32⟩
abbrev TIME_CNT_SAT_SAT : Fld := ⟨Reg.TIME_CNT_SAT, 0, 4⟩
abbrev SLICE_FE_CTL_HOLDOFF (i : Nat) : Fld := ⟨Reg.SLICE_FE_CTL i, 0, 8⟩
abbrev SLICE_FE_CTL_BLANK (i : Nat) : Fld := ⟨Reg.SLICE_FE_CTL i, 8, 6⟩
abbrev SLICE_FE_STAT_PENDING (i : Nat) : Fld := ⟨Reg.SLICE_FE_STAT i, 0, 8⟩
abbrev SLICE_CLAMP_STAT_CLAMP (i : Nat) : Fld := ⟨Reg.SLICE_CLAMP_STAT i, 0, 8⟩
abbrev SLICE_CLAMP_STAT_THR_ORDER (i : Nat) : Fld := ⟨Reg.SLICE_CLAMP_STAT i, 8, 8⟩
abbrev SLICE_CLAMP_CNT (i : Nat) : Fld := ⟨Reg.SLICE_CLAMP_CNT i, 0, 32⟩
abbrev SLICE_OVR_CNT (i : Nat) : Fld := ⟨Reg.SLICE_OVR_CNT i, 0, 32⟩
abbrev SLICE_FE_CNT_SAT_SAT (i : Nat) : Fld := ⟨Reg.SLICE_FE_CNT_SAT i, 0, 2⟩
abbrev SLICE_CH_CFG_EN (s c : Nat) : Fld := ⟨Reg.SLICE_CH_CFG s c, 0, 1⟩
abbrev SLICE_CH_CFG_INVERT (s c : Nat) : Fld := ⟨Reg.SLICE_CH_CFG s c, 1, 1⟩
abbrev SLICE_CH_CFG_THR_SRC (s c : Nat) : Fld := ⟨Reg.SLICE_CH_CFG s c, 2, 1⟩
abbrev SLICE_CH_CFG_CMP_EN (s c : Nat) : Fld := ⟨Reg.SLICE_CH_CFG s c, 3, 3⟩
abbrev SLICE_CH_CFG_FALL_EN (s c : Nat) : Fld := ⟨Reg.SLICE_CH_CFG s c, 6, 1⟩
abbrev SLICE_CH_CFG_OFFSET (s c : Nat) : Fld := ⟨Reg.SLICE_CH_CFG s c, 16, 10⟩
abbrev SLICE_CH_THR_FIX_LO (s c : Nat) : Fld := ⟨Reg.SLICE_CH_THR_FIX s c, 0, 10⟩
abbrev SLICE_CH_THR_FIX_MID (s c : Nat) : Fld := ⟨Reg.SLICE_CH_THR_FIX s c, 10, 10⟩
abbrev SLICE_CH_THR_FIX_HI (s c : Nat) : Fld := ⟨Reg.SLICE_CH_THR_FIX s c, 20, 10⟩
abbrev SLICE_CH_THR_LIVE_LO (s c : Nat) : Fld := ⟨Reg.SLICE_CH_THR_LIVE s c, 0, 10⟩
abbrev SLICE_CH_THR_LIVE_MID (s c : Nat) : Fld := ⟨Reg.SLICE_CH_THR_LIVE s c, 10, 10⟩
abbrev SLICE_CH_THR_LIVE_HI (s c : Nat) : Fld := ⟨Reg.SLICE_CH_THR_LIVE s c, 20, 10⟩
abbrev SLICE_CH_THR_LIVE_SRC (s c : Nat) : Fld := ⟨Reg.SLICE_CH_THR_LIVE s c, 31, 1⟩
abbrev SLICE_CH_CMP_TRIM_LO (s c : Nat) : Fld := ⟨Reg.SLICE_CH_CMP_TRIM s c, 0, 6⟩
abbrev SLICE_CH_CMP_TRIM_MID (s c : Nat) : Fld := ⟨Reg.SLICE_CH_CMP_TRIM s c, 8, 6⟩
abbrev SLICE_CH_CMP_TRIM_HI (s c : Nat) : Fld := ⟨Reg.SLICE_CH_CMP_TRIM s c, 16, 6⟩
abbrev SLICE_EM_CTL_WIN_SRC (i : Nat) : Fld := ⟨Reg.SLICE_EM_CTL i, 0, 1⟩
abbrev SLICE_EM_CTL_TWO_SLOT_EN (i : Nat) : Fld := ⟨Reg.SLICE_EM_CTL i, 1, 1⟩
abbrev SLICE_EM_CTL_WALK_EN (i : Nat) : Fld := ⟨Reg.SLICE_EM_CTL i, 2, 1⟩
abbrev SLICE_EM_STAT_OVF (i : Nat) : Fld := ⟨Reg.SLICE_EM_STAT i, 0, 8⟩
abbrev SLICE_EM_STAT_NOMREF (i : Nat) : Fld := ⟨Reg.SLICE_EM_STAT i, 8, 1⟩
abbrev SLICE_EM_STAT_WIN_COERCED (i : Nat) : Fld := ⟨Reg.SLICE_EM_STAT i, 9, 1⟩
abbrev SLICE_EM_STAT_XFLUSH (i : Nat) : Fld := ⟨Reg.SLICE_EM_STAT i, 10, 1⟩
abbrev SLICE_EM_WIN_FIX_OPEN (i : Nat) : Fld := ⟨Reg.SLICE_EM_WIN_FIX i, 0, 14⟩
abbrev SLICE_EM_WIN_FIX_CLOSE (i : Nat) : Fld := ⟨Reg.SLICE_EM_WIN_FIX i, 16, 14⟩
abbrev SLICE_EM_NOMREF_CNT (i : Nat) : Fld := ⟨Reg.SLICE_EM_NOMREF_CNT i, 0, 32⟩
abbrev SLICE_EM_OVF_SHOT_CNT (i : Nat) : Fld := ⟨Reg.SLICE_EM_OVF_SHOT_CNT i, 0, 32⟩
abbrev SLICE_EM_XDROP_CNT (i : Nat) : Fld := ⟨Reg.SLICE_EM_XDROP_CNT i, 0, 32⟩
abbrev SLICE_EM_WCOERCE_CNT (i : Nat) : Fld := ⟨Reg.SLICE_EM_WCOERCE_CNT i, 0, 32⟩
abbrev SLICE_EM_CNT_SAT_SAT (i : Nat) : Fld := ⟨Reg.SLICE_EM_CNT_SAT i, 0, 9⟩
abbrev SLICE_EM_CH_FILL (s c : Nat) : Fld := ⟨Reg.SLICE_EM_CH s c, 0, 9⟩
abbrev SLICE_EM_CH_HWM (s c : Nat) : Fld := ⟨Reg.SLICE_EM_CH s c, 16, 9⟩
abbrev SLICE_BUR_STAT_PENDING (i : Nat) : Fld := ⟨Reg.SLICE_BUR_STAT i, 0, 1⟩
abbrev SLICE_BUR_STAT_URGENT (i : Nat) : Fld := ⟨Reg.SLICE_BUR_STAT i, 1, 1⟩
abbrev SLICE_BUR_STAT_OFFLINE (i : Nat) : Fld := ⟨Reg.SLICE_BUR_STAT i, 2, 1⟩
abbrev SLICE_BUR_STAT_REASON (i : Nat) : Fld := ⟨Reg.SLICE_BUR_STAT i, 4, 2⟩
abbrev SLICE_BUR_STAT_DEFER (i : Nat) : Fld := ⟨Reg.SLICE_BUR_STAT i, 8, 8⟩
abbrev SLICE_BUR_APPLY_CNT (i : Nat) : Fld := ⟨Reg.SLICE_BUR_APPLY_CNT i, 0, 32⟩
abbrev SLICE_BUR_LAST_TEMP_TEMP (i : Nat) : Fld := ⟨Reg.SLICE_BUR_LAST_TEMP i, 0, 16⟩
abbrev SLICE_BUR_DISCARD_CNT (i : Nat) : Fld := ⟨Reg.SLICE_BUR_DISCARD_CNT i, 0, 32⟩
abbrev SLICE_BUR_CNT_SAT_SAT (i : Nat) : Fld := ⟨Reg.SLICE_BUR_CNT_SAT i, 0, 2⟩
abbrev SLICE_BUR_CH_FILL (s c : Nat) : Fld := ⟨Reg.SLICE_BUR_CH s c, 0, 8⟩
abbrev SLICE_BUR_CH_DNL (s c : Nat) : Fld := ⟨Reg.SLICE_BUR_CH s c, 8, 8⟩
abbrev SLICE_BUR_CH_VALID (s c : Nat) : Fld := ⟨Reg.SLICE_BUR_CH s c, 16, 1⟩
abbrev SLICE_BUR_CH_SEL_CHG (s c : Nat) : Fld := ⟨Reg.SLICE_BUR_CH s c, 17, 1⟩
abbrev SLICE_BUR_CH_COVERAGE (s c : Nat) : Fld := ⟨Reg.SLICE_BUR_CH s c, 18, 1⟩
abbrev SLICE_BUR_CH_TRIM_LIMIT (s c : Nat) : Fld := ⟨Reg.SLICE_BUR_CH s c, 19, 1⟩
abbrev KILN_BUR_CTL_AUTO_EN : Fld := ⟨Reg.KILN_BUR_CTL, 0, 1⟩
abbrev KILN_BUR_CTL_REF_EN : Fld := ⟨Reg.KILN_BUR_CTL, 1, 1⟩
abbrev KILN_BUR_CTL_TRIM_EN : Fld := ⟨Reg.KILN_BUR_CTL, 2, 1⟩
abbrev KILN_BUR_CTL_SEL_EN : Fld := ⟨Reg.KILN_BUR_CTL, 3, 1⟩
abbrev KILN_BUR_REF_ACT_E_OFFLINE : Fld := ⟨Reg.KILN_BUR_REF_ACT, 0, 1⟩
abbrev KILN_BUR_REF_ACT_L_OFFLINE : Fld := ⟨Reg.KILN_BUR_REF_ACT, 1, 1⟩
abbrev KILN_BUR_REF_ACT_E_PENDING : Fld := ⟨Reg.KILN_BUR_REF_ACT, 2, 1⟩
abbrev KILN_BUR_REF_ACT_L_PENDING : Fld := ⟨Reg.KILN_BUR_REF_ACT, 3, 1⟩
abbrev KILN_BUR_REF_ACT_E_VALID : Fld := ⟨Reg.KILN_BUR_REF_ACT, 4, 1⟩
abbrev KILN_BUR_REF_ACT_L_VALID : Fld := ⟨Reg.KILN_BUR_REF_ACT, 5, 1⟩
abbrev KILN_BUR_REF_ACT_L_SKIP : Fld := ⟨Reg.KILN_BUR_REF_ACT, 8, 8⟩
abbrev KILN_BUR_REF_STAT_E_FILL : Fld := ⟨Reg.KILN_BUR_REF_STAT, 0, 8⟩
abbrev KILN_BUR_REF_STAT_E_DNL : Fld := ⟨Reg.KILN_BUR_REF_STAT, 8, 8⟩
abbrev KILN_BUR_REF_STAT_L_FILL : Fld := ⟨Reg.KILN_BUR_REF_STAT, 16, 8⟩
abbrev KILN_BUR_REF_STAT_L_DNL : Fld := ⟨Reg.KILN_BUR_REF_STAT, 24, 8⟩
abbrev KILN_BUR_REF_APPLY_CNT : Fld := ⟨Reg.KILN_BUR_REF_APPLY_CNT, 0, 32⟩
abbrev KILN_BUR_CNT_SAT_SAT : Fld := ⟨Reg.KILN_BUR_CNT_SAT, 0, 1⟩
abbrev BLW_CTL_E_EN : Fld := ⟨Reg.BLW_CTL, 0, 1⟩
abbrev BLW_CTL_L_EN : Fld := ⟨Reg.BLW_CTL, 1, 1⟩
abbrev BLW_CTL_E_CLK : Fld := ⟨Reg.BLW_CTL, 2, 2⟩
abbrev BLW_CTL_L_CLK : Fld := ⟨Reg.BLW_CTL, 4, 2⟩
abbrev BLW_CTL_E_RES : Fld := ⟨Reg.BLW_CTL, 8, 5⟩
abbrev BLW_CTL_L_RES : Fld := ⟨Reg.BLW_CTL, 16, 5⟩
abbrev BLW_STAT_E_DRV : Fld := ⟨Reg.BLW_STAT, 0, 5⟩
abbrev BLW_STAT_L_DRV : Fld := ⟨Reg.BLW_STAT, 8, 5⟩
abbrev BLW_STAT_E_UP : Fld := ⟨Reg.BLW_STAT, 16, 1⟩
abbrev BLW_STAT_L_UP : Fld := ⟨Reg.BLW_STAT, 17, 1⟩
abbrev BLW_STAT_E_FAULT : Fld := ⟨Reg.BLW_STAT, 18, 1⟩
abbrev BLW_STAT_L_FAULT : Fld := ⟨Reg.BLW_STAT, 19, 1⟩
abbrev BLW_STAT_E_SUPPRESSED : Fld := ⟨Reg.BLW_STAT, 20, 1⟩
abbrev BLW_STAT_FE_LOST : Fld := ⟨Reg.BLW_STAT, 21, 1⟩
abbrev BLW_E_REF_DLY_MEAN : Fld := ⟨Reg.BLW_E_REF_DLY, 0, 16⟩
abbrev BLW_E_REF_DLY_SPREAD : Fld := ⟨Reg.BLW_E_REF_DLY, 16, 16⟩
abbrev BLW_CODE_CHK_XMAX : Fld := ⟨Reg.BLW_CODE_CHK, 0, 4⟩
abbrev BLW_CODE_CHK_BOOK : Fld := ⟨Reg.BLW_CODE_CHK, 4, 1⟩
abbrev BLW_CODE_CHK_HOLDOFF_CONFLICT : Fld := ⟨Reg.BLW_CODE_CHK, 5, 1⟩
abbrev BLW_CODE_CHK_BOOK_ID : Fld := ⟨Reg.BLW_CODE_CHK, 16, 16⟩
abbrev BLW_E_FE_MISS_CNT : Fld := ⟨Reg.BLW_E_FE_MISS_CNT, 0, 32⟩
abbrev BLW_E_UNEXP_CNT : Fld := ⟨Reg.BLW_E_UNEXP_CNT, 0, 32⟩
abbrev BLW_E_RB_ERR_CNT : Fld := ⟨Reg.BLW_E_RB_ERR_CNT, 0, 32⟩
abbrev BLW_L_RB_ERR_CNT : Fld := ⟨Reg.BLW_L_RB_ERR_CNT, 0, 32⟩
abbrev BLW_CNT_SAT_SAT : Fld := ⟨Reg.BLW_CNT_SAT, 0, 4⟩
abbrev BLW_E_DRV_ID (i : Nat) : Fld := ⟨Reg.BLW_E_DRV i, 0, 16⟩
abbrev BLW_E_DRV_CHANNELS (i : Nat) : Fld := ⟨Reg.BLW_E_DRV i, 16, 5⟩
abbrev BLW_E_DRV_PRESENT (i : Nat) : Fld := ⟨Reg.BLW_E_DRV i, 24, 1⟩
abbrev BLW_E_DRV_OVT (i : Nat) : Fld := ⟨Reg.BLW_E_DRV i, 25, 1⟩
abbrev BLW_E_DRV_UV (i : Nat) : Fld := ⟨Reg.BLW_E_DRV i, 26, 1⟩
abbrev BLW_L_DRV_ID (i : Nat) : Fld := ⟨Reg.BLW_L_DRV i, 0, 16⟩
abbrev BLW_L_DRV_CHANNELS (i : Nat) : Fld := ⟨Reg.BLW_L_DRV i, 16, 5⟩
abbrev BLW_L_DRV_PRESENT (i : Nat) : Fld := ⟨Reg.BLW_L_DRV i, 24, 1⟩
abbrev BLW_L_DRV_OVT (i : Nat) : Fld := ⟨Reg.BLW_L_DRV i, 25, 1⟩
abbrev BLW_L_DRV_UV (i : Nat) : Fld := ⟨Reg.BLW_L_DRV i, 26, 1⟩
abbrev BLW_SEG_STAT_STATE (i : Nat) : Fld := ⟨Reg.BLW_SEG_STAT i, 0, 3⟩
abbrev BLW_SEG_STAT_PARTNER (i : Nat) : Fld := ⟨Reg.BLW_SEG_STAT i, 8, 8⟩
abbrev BLW_SEG_STAT_WEAR (i : Nat) : Fld := ⟨Reg.BLW_SEG_STAT i, 16, 8⟩
abbrev BLW_LAMP_STAT_STATE (i : Nat) : Fld := ⟨Reg.BLW_LAMP_STAT i, 0, 3⟩
abbrev BLW_LAMP_STAT_STRETCH (i : Nat) : Fld := ⟨Reg.BLW_LAMP_STAT i, 3, 1⟩
abbrev BLW_LAMP_STAT_ON_CODE (i : Nat) : Fld := ⟨Reg.BLW_LAMP_STAT i, 16, 16⟩
abbrev SLICE_KILN_CTL_K (i : Nat) : Fld := ⟨Reg.SLICE_KILN_CTL i, 0, 4⟩
abbrev SLICE_KILN_CTL_TOL (i : Nat) : Fld := ⟨Reg.SLICE_KILN_CTL i, 4, 11⟩
abbrev SLICE_KILN_CTL_INT_MODE (i : Nat) : Fld := ⟨Reg.SLICE_KILN_CTL i, 16, 1⟩
abbrev SLICE_KILN_STAT_ARENA_MISS (i : Nat) : Fld := ⟨Reg.SLICE_KILN_STAT i, 0, 1⟩
abbrev SLICE_KILN_STAT_GLIST_FULL (i : Nat) : Fld := ⟨Reg.SLICE_KILN_STAT i, 1, 1⟩
abbrev SLICE_KILN_STAT_GOUT (i : Nat) : Fld := ⟨Reg.SLICE_KILN_STAT i, 2, 1⟩
abbrev SLICE_KILN_OCC_FRAMES (i : Nat) : Fld := ⟨Reg.SLICE_KILN_OCC i, 0, 7⟩
abbrev SLICE_KILN_OCC_FRAMES_HWM (i : Nat) : Fld := ⟨Reg.SLICE_KILN_OCC i, 8, 7⟩
abbrev SLICE_KILN_OCC_GROUPS_HWM (i : Nat) : Fld := ⟨Reg.SLICE_KILN_OCC i, 16, 13⟩
abbrev SLICE_KILN_ARENA_MISS_CNT (i : Nat) : Fld := ⟨Reg.SLICE_KILN_ARENA_MISS_CNT i, 0, 32⟩
abbrev SLICE_KILN_GLIST_DROP_CNT (i : Nat) : Fld := ⟨Reg.SLICE_KILN_GLIST_DROP_CNT i, 0, 32⟩
abbrev SLICE_KILN_GOUT_CNT (i : Nat) : Fld := ⟨Reg.SLICE_KILN_GOUT_CNT i, 0, 32⟩
abbrev SLICE_KILN_CNT_SAT_SAT (i : Nat) : Fld := ⟨Reg.SLICE_KILN_CNT_SAT i, 0, 8⟩
abbrev KILN_CTL_SCALE_PPM : Fld := ⟨Reg.KILN_CTL, 0, 11⟩
abbrev KILN_RANGE_K_K : Fld := ⟨Reg.KILN_RANGE_K, 0, 24⟩
abbrev KILN_CLASS_ID_CRC : Fld := ⟨Reg.KILN_CLASS_ID, 0, 16⟩
abbrev TAP_CTL_EN : Fld := ⟨Reg.TAP_CTL, 0, 1⟩
abbrev TAP_CTL_STORE : Fld := ⟨Reg.TAP_CTL, 1, 2⟩
abbrev TAP_CTL_VERDICT_EN : Fld := ⟨Reg.TAP_CTL, 3, 1⟩
abbrev TAP_STAT_GRP_ON : Fld := ⟨Reg.TAP_STAT, 0, 8⟩
abbrev TAP_STAT_GRP_AVAIL : Fld := ⟨Reg.TAP_STAT, 8, 8⟩
abbrev TAP_STAT_CAL_BUSY : Fld := ⟨Reg.TAP_STAT, 16, 1⟩
abbrev TAP_EVT_STAT_OVF : Fld := ⟨Reg.TAP_EVT_STAT, 0, 8⟩
abbrev TAP_EVT_STAT_SKIP : Fld := ⟨Reg.TAP_EVT_STAT, 8, 8⟩
abbrev TAP_EVT_STAT_CLIP : Fld := ⟨Reg.TAP_EVT_STAT, 16, 8⟩
abbrev TAP_EVT_STAT_CALF : Fld := ⟨Reg.TAP_EVT_STAT, 24, 8⟩
abbrev TAP_UNSERVED_CNT : Fld := ⟨Reg.TAP_UNSERVED_CNT, 0, 32⟩
abbrev TAP_WITHHELD_CNT : Fld := ⟨Reg.TAP_WITHHELD_CNT, 0, 32⟩
abbrev TAP_CNT_SAT_SAT : Fld := ⟨Reg.TAP_CNT_SAT, 0, 3⟩
abbrev TAP_REQ_ROWS_FIRST (i : Nat) : Fld := ⟨Reg.TAP_REQ_ROWS i, 0, 9⟩
abbrev TAP_REQ_ROWS_LAST (i : Nat) : Fld := ⟨Reg.TAP_REQ_ROWS i, 16, 9⟩
abbrev TAP_REQ_COLS_FIRST (i : Nat) : Fld := ⟨Reg.TAP_REQ_COLS i, 0, 8⟩
abbrev TAP_REQ_COLS_LAST (i : Nat) : Fld := ⟨Reg.TAP_REQ_COLS i, 16, 8⟩
abbrev TAP_REQ_CFG_PRIO (i : Nat) : Fld := ⟨Reg.TAP_REQ_CFG i, 0, 4⟩
abbrev TAP_REQ_CFG_RANGE (i : Nat) : Fld := ⟨Reg.TAP_REQ_CFG i, 4, 2⟩
abbrev TAP_REQ_CFG_LEN32 (i : Nat) : Fld := ⟨Reg.TAP_REQ_CFG i, 6, 5⟩
abbrev TAP_REQ_CFG_FRAMES (i : Nat) : Fld := ⟨Reg.TAP_REQ_CFG i, 16, 16⟩
abbrev TAP_T_CAL_X1_GAIN (i : Nat) : Fld := ⟨Reg.TAP_T_CAL_X1 i, 0, 16⟩
abbrev TAP_T_CAL_X1_OFFSET (i : Nat) : Fld := ⟨Reg.TAP_T_CAL_X1 i, 16, 16⟩
abbrev TAP_T_CAL_X2_GAIN (i : Nat) : Fld := ⟨Reg.TAP_T_CAL_X2 i, 0, 16⟩
abbrev TAP_T_CAL_X2_OFFSET (i : Nat) : Fld := ⟨Reg.TAP_T_CAL_X2 i, 16, 16⟩
abbrev TAP_T_DELAY_X1 (i : Nat) : Fld := ⟨Reg.TAP_T_DELAY i, 0, 16⟩
abbrev TAP_T_DELAY_X2 (i : Nat) : Fld := ⟨Reg.TAP_T_DELAY i, 16, 16⟩
abbrev TAP_T_OVF_CNT (i : Nat) : Fld := ⟨Reg.TAP_T_OVF_CNT i, 0, 32⟩
abbrev TAP_T_SKIP_CNT (i : Nat) : Fld := ⟨Reg.TAP_T_SKIP_CNT i, 0, 32⟩
abbrev TAP_T_CLIP_CNT (i : Nat) : Fld := ⟨Reg.TAP_T_CLIP_CNT i, 0, 32⟩
abbrev TAP_T_CNT_SAT_SAT (i : Nat) : Fld := ⟨Reg.TAP_T_CNT_SAT i, 0, 3⟩
abbrev TAP_T_LAST_CHANNEL (i : Nat) : Fld := ⟨Reg.TAP_T_LAST i, 0, 9⟩
abbrev TAP_T_LAST_RANGE (i : Nat) : Fld := ⟨Reg.TAP_T_LAST i, 9, 1⟩
abbrev TAP_T_LAST_DEAD (i : Nat) : Fld := ⟨Reg.TAP_T_LAST i, 16, 16⟩
abbrev TURF_CTL_UPD_EN : Fld := ⟨Reg.TURF_CTL, 0, 1⟩
abbrev TURF_CTL_ACQ_ALL : Fld := ⟨Reg.TURF_CTL, 1, 1⟩
abbrev TURF_STAT_GEN : Fld := ⟨Reg.TURF_STAT, 0, 8⟩
abbrev TURF_STAT_SWEEP_ALL : Fld := ⟨Reg.TURF_STAT, 8, 1⟩
abbrev TURF_STAT_DUMP_BUSY : Fld := ⟨Reg.TURF_STAT, 9, 1⟩
abbrev TURF_STAT_CLEAR_PEND : Fld := ⟨Reg.TURF_STAT, 10, 1⟩
abbrev TURF_BANK_ON_ON : Fld := ⟨Reg.TURF_BANK_ON, 0, 16⟩
abbrev TURF_LATE_CNT : Fld := ⟨Reg.TURF_LATE_CNT, 0, 32⟩
abbrev TURF_STALE_CNT : Fld := ⟨Reg.TURF_STALE_CNT, 0, 32⟩
abbrev TURF_ASHSAT_CNT : Fld := ⟨Reg.TURF_ASHSAT_CNT, 0, 32⟩
abbrev TURF_UE_CNT : Fld := ⟨Reg.TURF_UE_CNT, 0, 32⟩
abbrev TURF_CNT_SAT_SAT : Fld := ⟨Reg.TURF_CNT_SAT, 0, 6⟩
abbrev TURF_RD_IDX_INDEX : Fld := ⟨Reg.TURF_RD_IDX, 0, 17⟩
abbrev TURF_RD_STAT_VALID : Fld := ⟨Reg.TURF_RD_STAT, 0, 1⟩
abbrev TURF_RD_STAT_STALE : Fld := ⟨Reg.TURF_RD_STAT, 1, 1⟩
abbrev TURF_RD_STAT_AGE : Fld := ⟨Reg.TURF_RD_STAT, 8, 8⟩
abbrev TURF_RD_DATA (i : Nat) : Fld := ⟨Reg.TURF_RD_DATA i, 0, 32⟩
abbrev TURF_ROW_ASH_ASH (i : Nat) : Fld := ⟨Reg.TURF_ROW_ASH i, 0, 16⟩
abbrev TURF_ROW_ASH_VALID (i : Nat) : Fld := ⟨Reg.TURF_ROW_ASH i, 16, 1⟩
abbrev SCN_CTL_PLAN_EN : Fld := ⟨Reg.SCN_CTL, 0, 1⟩
abbrev SCN_CTL_TRACK_EN : Fld := ⟨Reg.SCN_CTL, 1, 1⟩
abbrev SCN_STAT_STATE : Fld := ⟨Reg.SCN_STAT, 0, 3⟩
abbrev SCN_STAT_DIR : Fld := ⟨Reg.SCN_STAT, 3, 1⟩
abbrev SCN_STAT_YSEL : Fld := ⟨Reg.SCN_STAT, 4, 1⟩
abbrev SCN_STAT_PARKED : Fld := ⟨Reg.SCN_STAT, 5, 1⟩
abbrev SCN_STAT_TEST_A : Fld := ⟨Reg.SCN_STAT, 6, 1⟩
abbrev SCN_STAT_DAMPER : Fld := ⟨Reg.SCN_STAT, 8, 3⟩
abbrev SCN_STAT_IDLE : Fld := ⟨Reg.SCN_STAT, 16, 16⟩
abbrev SCN_EVT_SAT_E : Fld := ⟨Reg.SCN_EVT, 0, 1⟩
abbrev SCN_EVT_SAT_P : Fld := ⟨Reg.SCN_EVT, 1, 1⟩
abbrev SCN_EVT_SAT_I : Fld := ⟨Reg.SCN_EVT, 2, 1⟩
abbrev SCN_EVT_SAT_D : Fld := ⟨Reg.SCN_EVT, 3, 1⟩
abbrev SCN_EVT_SAT_U : Fld := ⟨Reg.SCN_EVT, 4, 1⟩
abbrev SCN_EVT_CLIP_X : Fld := ⟨Reg.SCN_EVT, 5, 1⟩
abbrev SCN_EVT_CLIP_Y : Fld := ⟨Reg.SCN_EVT, 6, 1⟩
abbrev SCN_EVT_OVERRUN : Fld := ⟨Reg.SCN_EVT, 7, 1⟩
abbrev SCN_EVT_TRACK : Fld := ⟨Reg.SCN_EVT, 8, 1⟩
abbrev SCN_EVT_SOFT : Fld := ⟨Reg.SCN_EVT, 9, 1⟩
abbrev SCN_EVT_DAMP_CUT : Fld := ⟨Reg.SCN_EVT, 10, 1⟩
abbrev SCN_EVT_FAULT : Fld := ⟨Reg.SCN_EVT, 11, 1⟩
abbrev SCN_MIR_EXP_EXP_E : Fld := ⟨Reg.SCN_MIR_EXP, 0, 6⟩
abbrev SCN_MIR_EXP_EXP_P : Fld := ⟨Reg.SCN_MIR_EXP, 6, 6⟩
abbrev SCN_MIR_EXP_EXP_I : Fld := ⟨Reg.SCN_MIR_EXP, 12, 6⟩
abbrev SCN_MIR_EXP_EXP_D : Fld := ⟨Reg.SCN_MIR_EXP, 18, 6⟩
abbrev SCN_MIR_EXP_EXP_U : Fld := ⟨Reg.SCN_MIR_EXP, 24, 6⟩
abbrev SCN_MIR_LAT_LAST : Fld := ⟨Reg.SCN_MIR_LAT, 0, 16⟩
abbrev SCN_MIR_LAT_MAX : Fld := ⟨Reg.SCN_MIR_LAT, 16, 16⟩
abbrev SCN_MIR_ERR_X : Fld := ⟨Reg.SCN_MIR_ERR, 0, 16⟩
abbrev SCN_MIR_ERR_Y : Fld := ⟨Reg.SCN_MIR_ERR, 16, 16⟩
abbrev SCN_MIR_DAC_X : Fld := ⟨Reg.SCN_MIR_DAC, 0, 16⟩
abbrev SCN_MIR_DAC_Y : Fld := ⟨Reg.SCN_MIR_DAC, 16, 16⟩
abbrev SCN_LAG_FWD : Fld := ⟨Reg.SCN_LAG, 0, 16⟩
abbrev SCN_LAG_REV : Fld := ⟨Reg.SCN_LAG, 16, 16⟩
abbrev SCN_SOFT_E_E_SOFT : Fld := ⟨Reg.SCN_SOFT_E, 0, 24⟩
abbrev SCN_SOFT_E_WIN_NO : Fld := ⟨Reg.SCN_SOFT_E, 24, 6⟩
abbrev SCN_OVERRUN_CNT : Fld := ⟨Reg.SCN_OVERRUN_CNT, 0, 32⟩
abbrev SCN_TRACK_SKIP_CNT : Fld := ⟨Reg.SCN_TRACK_SKIP_CNT, 0, 32⟩
abbrev SCN_SOFT_CNT : Fld := ⟨Reg.SCN_SOFT_CNT, 0, 32⟩
abbrev SCN_DAMP_CUT_CNT : Fld := ⟨Reg.SCN_DAMP_CUT_CNT, 0, 32⟩
abbrev SCN_MFAULT_CNT : Fld := ⟨Reg.SCN_MFAULT_CNT, 0, 32⟩
abbrev SCN_CNT_SAT_SAT : Fld := ⟨Reg.SCN_CNT_SAT, 0, 5⟩
abbrev SCN_COL_PLAN_N (i : Nat) : Fld := ⟨Reg.SCN_COL_PLAN i, 0, 16⟩
abbrev SCN_COL_PLAN_D (i : Nat) : Fld := ⟨Reg.SCN_COL_PLAN i, 16, 8⟩
abbrev ING_CTL_REC_RATE : Fld := ⟨Reg.ING_CTL, 0, 6⟩
abbrev ING_CTL_EMPTY_REC : Fld := ⟨Reg.ING_CTL, 6, 1⟩
abbrev ING_CTL_MAX_US : Fld := ⟨Reg.ING_CTL, 16, 13⟩
abbrev ING_STAT_STAGE_FILL : Fld := ⟨Reg.ING_STAT, 0, 10⟩
abbrev ING_STAT_STAGE_FULL : Fld := ⟨Reg.ING_STAT, 10, 1⟩
abbrev ING_STAT_HALT : Fld := ⟨Reg.ING_STAT, 11, 1⟩
abbrev ING_EVT_FULL : Fld := ⟨Reg.ING_EVT, 0, 1⟩
abbrev ING_EVT_BUDGET : Fld := ⟨Reg.ING_EVT, 1, 1⟩
abbrev ING_EVT_HIST_DROP : Fld := ⟨Reg.ING_EVT, 2, 1⟩
abbrev ING_EVT_WAVE_STALL : Fld := ⟨Reg.ING_EVT, 3, 1⟩
abbrev ING_EVT_INCOMPLETE : Fld := ⟨Reg.ING_EVT, 4, 1⟩
abbrev ING_SEQ : Fld := ⟨Reg.ING_SEQ, 0, 32⟩
abbrev ING_HIST_DROP_CNT : Fld := ⟨Reg.ING_HIST_DROP_CNT, 0, 32⟩
abbrev ING_INCOMPLETE_CNT : Fld := ⟨Reg.ING_INCOMPLETE_CNT, 0, 32⟩
abbrev ING_CNT_SAT_SAT : Fld := ⟨Reg.ING_CNT_SAT, 0, 5⟩
abbrev ING_HIST_ROWS_FIRST : Fld := ⟨Reg.ING_HIST_ROWS, 0, 9⟩
abbrev ING_HIST_ROWS_LAST : Fld := ⟨Reg.ING_HIST_ROWS, 16, 9⟩
abbrev ING_HIST_COLS_FIRST : Fld := ⟨Reg.ING_HIST_COLS, 0, 8⟩
abbrev ING_HIST_COLS_LAST : Fld := ⟨Reg.ING_HIST_COLS, 16, 8⟩
abbrev ING_HIST_CFG_EVERY : Fld := ⟨Reg.ING_HIST_CFG, 0, 8⟩
abbrev ING_S_CTL_EN (i : Nat) : Fld := ⟨Reg.ING_S_CTL i, 0, 1⟩
abbrev ING_S_CTL_EVERY (i : Nat) : Fld := ⟨Reg.ING_S_CTL i, 16, 16⟩
abbrev ING_S_STAT_RUN (i : Nat) : Fld := ⟨Reg.ING_S_STAT i, 0, 1⟩
abbrev ING_S_STAT_FULL (i : Nat) : Fld := ⟨Reg.ING_S_STAT i, 1, 1⟩
abbrev ING_S_STAT_HALTED (i : Nat) : Fld := ⟨Reg.ING_S_STAT i, 2, 1⟩
abbrev ING_S_STAT_CFG_ERR (i : Nat) : Fld := ⟨Reg.ING_S_STAT i, 3, 1⟩
abbrev ING_S_STAT_RD_ERR (i : Nat) : Fld := ⟨Reg.ING_S_STAT i, 4, 1⟩
abbrev ING_S_SIZE (i : Nat) : Fld := ⟨Reg.ING_S_SIZE i, 0, 32⟩
abbrev ING_S_WR (i : Nat) : Fld := ⟨Reg.ING_S_WR i, 0, 32⟩
abbrev ING_S_RD (i : Nat) : Fld := ⟨Reg.ING_S_RD i, 0, 32⟩
abbrev ING_S_INC (i : Nat) : Fld := ⟨Reg.ING_S_INC i, 0, 32⟩
abbrev PEER_CTL_EN : Fld := ⟨Reg.PEER_CTL, 0, 1⟩
abbrev PEER_CTL_RATE : Fld := ⟨Reg.PEER_CTL, 1, 1⟩
abbrev PEER_CTL_LANE_MODE : Fld := ⟨Reg.PEER_CTL, 2, 2⟩
abbrev PEER_CTL_CODE_MODE : Fld := ⟨Reg.PEER_CTL, 4, 1⟩
abbrev PEER_STAT_LEADER : Fld := ⟨Reg.PEER_STAT, 0, 1⟩
abbrev PEER_STAT_MASTER : Fld := ⟨Reg.PEER_STAT, 1, 1⟩
abbrev PEER_STAT_NO_MASTER : Fld := ⟨Reg.PEER_STAT, 2, 1⟩
abbrev PEER_STAT_CODE_SHARED : Fld := ⟨Reg.PEER_STAT, 3, 1⟩
abbrev PEER_STAT_MEMBERS : Fld := ⟨Reg.PEER_STAT, 4, 5⟩
abbrev PEER_STAT_PHASE : Fld := ⟨Reg.PEER_STAT, 12, 4⟩
abbrev PEER_STAT_UPSTREAM : Fld := ⟨Reg.PEER_STAT, 16, 4⟩
abbrev PEER_STAT_UP_VALID : Fld := ⟨Reg.PEER_STAT, 20, 1⟩
abbrev PEER_EVT_MISMATCH : Fld := ⟨Reg.PEER_EVT, 0, 1⟩
abbrev PEER_EVT_LIMIT : Fld := ⟨Reg.PEER_EVT, 1, 1⟩
abbrev PEER_EVT_CONFLICT : Fld := ⟨Reg.PEER_EVT, 2, 1⟩
abbrev PEER_EVT_REFUSED : Fld := ⟨Reg.PEER_EVT, 3, 1⟩
abbrev PEER_DOMAIN_ID : Fld := ⟨Reg.PEER_DOMAIN, 0, 16⟩
abbrev PEER_DOMAIN_GRANT : Fld := ⟨Reg.PEER_DOMAIN, 16, 16⟩
abbrev PEER_OFFSET : Fld := ⟨Reg.PEER_OFFSET, 0, 32⟩
abbrev PEER_DELAY : Fld := ⟨Reg.PEER_DELAY, 0, 32⟩
abbrev PEER_CRC_ERR_CNT : Fld := ⟨Reg.PEER_CRC_ERR_CNT, 0, 32⟩
abbrev PEER_LOSS_CNT : Fld := ⟨Reg.PEER_LOSS_CNT, 0, 32⟩
abbrev PEER_MEMBER_CHG_CNT : Fld := ⟨Reg.PEER_MEMBER_CHG_CNT, 0, 32⟩
abbrev PEER_CNT_SAT_SAT : Fld := ⟨Reg.PEER_CNT_SAT, 0, 3⟩
abbrev PEER_LANE_STAT_STATE (i : Nat) : Fld := ⟨Reg.PEER_LANE_STAT i, 0, 2⟩
abbrev PEER_LANE_STAT_REMOTE_LANE (i : Nat) : Fld := ⟨Reg.PEER_LANE_STAT i, 2, 2⟩
abbrev PEER_LANE_STAT_TWO_WAY (i : Nat) : Fld := ⟨Reg.PEER_LANE_STAT i, 4, 1⟩
abbrev PEER_LANE_STAT_RX_MEMBER (i : Nat) : Fld := ⟨Reg.PEER_LANE_STAT i, 8, 5⟩
abbrev PEER_LANE_STAT_TX_MEMBER (i : Nat) : Fld := ⟨Reg.PEER_LANE_STAT i, 16, 5⟩
abbrev PEER_MEM_STAT_RANK (i : Nat) : Fld := ⟨Reg.PEER_MEM_STAT i, 0, 2⟩
abbrev PEER_MEM_STAT_VALID (i : Nat) : Fld := ⟨Reg.PEER_MEM_STAT i, 2, 1⟩
abbrev PEER_MEM_STAT_PRESENT (i : Nat) : Fld := ⟨Reg.PEER_MEM_STAT i, 3, 1⟩
abbrev PEER_MEM_STAT_HOPS (i : Nat) : Fld := ⟨Reg.PEER_MEM_STAT i, 4, 4⟩
abbrev PEER_MEM_STAT_PHASE (i : Nat) : Fld := ⟨Reg.PEER_MEM_STAT i, 8, 4⟩
abbrev SAFE_STAT_COMMISSIONED : Fld := ⟨Reg.SAFE_STAT, 0, 1⟩
abbrev SAFE_STAT_LOCK : Fld := ⟨Reg.SAFE_STAT, 1, 1⟩
abbrev SAFE_STAT_RESTART_HELD : Fld := ⟨Reg.SAFE_STAT, 2, 1⟩
abbrev SAFE_STAT_A_STATE : Fld := ⟨Reg.SAFE_STAT, 4, 2⟩
abbrev SAFE_STAT_B_STATE : Fld := ⟨Reg.SAFE_STAT, 8, 3⟩
abbrev SAFE_STAT_B_RESTART : Fld := ⟨Reg.SAFE_STAT, 11, 1⟩
abbrev SAFE_STAT_START_MODE : Fld := ⟨Reg.SAFE_STAT, 12, 1⟩
abbrev SAFE_CAUSE_CAUSE : Fld := ⟨Reg.SAFE_CAUSE, 0, 13⟩
abbrev SAFE_CAUSE_FIRST : Fld := ⟨Reg.SAFE_CAUSE, 16, 5⟩
abbrev SAFE_EVT_QUENCH : Fld := ⟨Reg.SAFE_EVT, 0, 1⟩
abbrev SAFE_EVT_RELEASE : Fld := ⟨Reg.SAFE_EVT, 1, 1⟩
abbrev SAFE_EVT_VETO : Fld := ⟨Reg.SAFE_EVT, 2, 1⟩
abbrev SAFE_EVT_MOTION : Fld := ⟨Reg.SAFE_EVT, 3, 1⟩
abbrev SAFE_EVT_B_OFF : Fld := ⟨Reg.SAFE_EVT, 4, 1⟩
abbrev SAFE_EVT_B_ON : Fld := ⟨Reg.SAFE_EVT, 5, 1⟩
abbrev SAFE_EVT_TEST_FAIL : Fld := ⟨Reg.SAFE_EVT, 6, 1⟩
abbrev SAFE_EVT_RESTART_STUCK : Fld := ⟨Reg.SAFE_EVT, 7, 1⟩
abbrev SAFE_EVT_RESTART_REFUSED : Fld := ⟨Reg.SAFE_EVT, 8, 1⟩
abbrev SAFE_EVT_COMMISSIONED : Fld := ⟨Reg.SAFE_EVT, 9, 1⟩
abbrev SAFE_EVT_CFG_INVALID : Fld := ⟨Reg.SAFE_EVT, 10, 1⟩
abbrev SAFE_IN_STOP : Fld := ⟨Reg.SAFE_IN, 0, 2⟩
abbrev SAFE_IN_RESTART : Fld := ⟨Reg.SAFE_IN, 2, 2⟩
abbrev SAFE_IN_FB : Fld := ⟨Reg.SAFE_IN, 4, 4⟩
abbrev SAFE_IN_GATE : Fld := ⟨Reg.SAFE_IN, 8, 4⟩
abbrev SAFE_CHECK : Fld := ⟨Reg.SAFE_CHECK, 0, 32⟩
abbrev SAFE_CHECK_LIVE : Fld := ⟨Reg.SAFE_CHECK_LIVE, 0, 32⟩
abbrev SAFE_WIN_SLOTS : Fld := ⟨Reg.SAFE_WIN, 0, 19⟩
abbrev SAFE_WIN_WIN_NO : Fld := ⟨Reg.SAFE_WIN, 24, 6⟩
abbrev SAFE_E_BUDGET_BUDGET : Fld := ⟨Reg.SAFE_E_BUDGET, 0, 24⟩
abbrev SAFE_MOTION_STATE : Fld := ⟨Reg.SAFE_MOTION, 0, 2⟩
abbrev SAFE_MOTION_STILL : Fld := ⟨Reg.SAFE_MOTION, 8, 16⟩
abbrev SAFE_TEST_A_HS : Fld := ⟨Reg.SAFE_TEST_A, 0, 16⟩
abbrev SAFE_TEST_A_LS : Fld := ⟨Reg.SAFE_TEST_A, 16, 16⟩
abbrev SAFE_TEST_B_HS : Fld := ⟨Reg.SAFE_TEST_B, 0, 16⟩
abbrev SAFE_TEST_B_LS : Fld := ⟨Reg.SAFE_TEST_B, 16, 16⟩
abbrev SAFE_B_FRAME : Fld := ⟨Reg.SAFE_B_FRAME, 0, 32⟩
abbrev SAFE_B_LAST_RUNS : Fld := ⟨Reg.SAFE_B_LAST, 0, 16⟩
abbrev SAFE_B_LAST_MISSING : Fld := ⟨Reg.SAFE_B_LAST, 16, 16⟩
abbrev SAFE_QUENCH_CNT : Fld := ⟨Reg.SAFE_QUENCH_CNT, 0, 32⟩
abbrev SAFE_INFR_CNT : Fld := ⟨Reg.SAFE_INFR_CNT, 0, 32⟩
abbrev SAFE_TEST_FAIL_CNT : Fld := ⟨Reg.SAFE_TEST_FAIL_CNT, 0, 32⟩
abbrev SAFE_RESTART_CNT : Fld := ⟨Reg.SAFE_RESTART_CNT, 0, 32⟩
abbrev SAFE_VETO_CNT : Fld := ⟨Reg.SAFE_VETO_CNT, 0, 32⟩
abbrev SAFE_CNT_SAT_SAT : Fld := ⟨Reg.SAFE_CNT_SAT, 0, 5⟩
abbrev CMDQ_STAT_READY : Fld := ⟨Reg.CMDQ_STAT, 0, 1⟩
abbrev CMDQ_STAT_RESTORED : Fld := ⟨Reg.CMDQ_STAT, 1, 1⟩
abbrev CMDQ_STAT_DECLARED : Fld := ⟨Reg.CMDQ_STAT, 2, 1⟩
abbrev CMDQ_STAT_OUTSTANDING : Fld := ⟨Reg.CMDQ_STAT, 8, 7⟩
abbrev CMDQ_DECLARE : Fld := ⟨Reg.CMDQ_DECLARE, 0, 32⟩
abbrev CMDQ_ACK_MISS_CNT : Fld := ⟨Reg.CMDQ_ACK_MISS_CNT, 0, 32⟩
abbrev CMDQ_FMT_ERR_CNT : Fld := ⟨Reg.CMDQ_FMT_ERR_CNT, 0, 32⟩
abbrev CMDQ_DB_ERR_CNT : Fld := ⟨Reg.CMDQ_DB_ERR_CNT, 0, 32⟩
abbrev CMDQ_DECL_CNT : Fld := ⟨Reg.CMDQ_DECL_CNT, 0, 32⟩
abbrev CMDQ_CNT_SAT_SAT : Fld := ⟨Reg.CMDQ_CNT_SAT, 0, 4⟩
abbrev CMDQ_Q_CTL_EN (i : Nat) : Fld := ⟨Reg.CMDQ_Q_CTL i, 0, 1⟩
abbrev CMDQ_Q_CTL_LOC (i : Nat) : Fld := ⟨Reg.CMDQ_Q_CTL i, 1, 1⟩
abbrev CMDQ_Q_CTL_SQ_LOG2 (i : Nat) : Fld := ⟨Reg.CMDQ_Q_CTL i, 8, 4⟩
abbrev CMDQ_Q_CTL_CQ_LOG2 (i : Nat) : Fld := ⟨Reg.CMDQ_Q_CTL i, 12, 4⟩
abbrev CMDQ_Q_STAT_RUN (i : Nat) : Fld := ⟨Reg.CMDQ_Q_STAT i, 0, 1⟩
abbrev CMDQ_Q_STAT_CFG_ERR (i : Nat) : Fld := ⟨Reg.CMDQ_Q_STAT i, 1, 1⟩
abbrev CMDQ_Q_STAT_HALTED (i : Nat) : Fld := ⟨Reg.CMDQ_Q_STAT i, 2, 1⟩
abbrev CMDQ_Q_STAT_OUTSTANDING (i : Nat) : Fld := ⟨Reg.CMDQ_Q_STAT i, 8, 4⟩
abbrev CMDQ_Q_EVT_DB_ERR (i : Nat) : Fld := ⟨Reg.CMDQ_Q_EVT i, 0, 1⟩
abbrev CMDQ_Q_EVT_CQ_ERR (i : Nat) : Fld := ⟨Reg.CMDQ_Q_EVT i, 1, 1⟩
abbrev CMDQ_Q_EVT_ACK_MISS (i : Nat) : Fld := ⟨Reg.CMDQ_Q_EVT i, 2, 1⟩
abbrev CMDQ_Q_ACK_LAT_LAST (i : Nat) : Fld := ⟨Reg.CMDQ_Q_ACK_LAT i, 0, 16⟩
abbrev CMDQ_Q_ACK_LAT_MAX (i : Nat) : Fld := ⟨Reg.CMDQ_Q_ACK_LAT i, 16, 16⟩
abbrev GLB_CFG_STAT_OVERLAY : Fld := ⟨Reg.GLB_CFG_STAT, 0, 4⟩
abbrev GLB_CFG_STAT_PENDING : Fld := ⟨Reg.GLB_CFG_STAT, 4, 1⟩
abbrev GLB_CFG_STAT_COMMIT_BUSY : Fld := ⟨Reg.GLB_CFG_STAT, 5, 1⟩
abbrev GLB_CFG_STAT_ABSENT : Fld := ⟨Reg.GLB_CFG_STAT, 6, 1⟩
abbrev GLB_CFG_STAT_PEND_OVERLAY : Fld := ⟨Reg.GLB_CFG_STAT, 8, 4⟩
abbrev GLB_CFG_STAT_LOST : Fld := ⟨Reg.GLB_CFG_STAT, 16, 5⟩
abbrev GLB_CFG_EVT_PEER_SKIP : Fld := ⟨Reg.GLB_CFG_EVT, 0, 1⟩
abbrev GLB_CFG_EVT_FALLBACK : Fld := ⟨Reg.GLB_CFG_EVT, 1, 1⟩
abbrev GLB_CFG_EVT_WEAR : Fld := ⟨Reg.GLB_CFG_EVT, 2, 1⟩
abbrev GLB_STORE_INFO_BLOCKS : Fld := ⟨Reg.GLB_STORE_INFO, 0, 16⟩
abbrev GLB_STORE_INFO_OCTAL : Fld := ⟨Reg.GLB_STORE_INFO, 16, 1⟩
abbrev GLB_STORE_FREE_FREE : Fld := ⟨Reg.GLB_STORE_FREE, 0, 16⟩
abbrev GLB_STORE_FREE_LIVE : Fld := ⟨Reg.GLB_STORE_FREE, 16, 16⟩
abbrev GLB_STORE_ERASE_MAX : Fld := ⟨Reg.GLB_STORE_ERASE_MAX, 0, 32⟩
abbrev GLB_STORE_ERASE_MIN : Fld := ⟨Reg.GLB_STORE_ERASE_MIN, 0, 32⟩
abbrev GLB_CFG_APPLY_CNT : Fld := ⟨Reg.GLB_CFG_APPLY_CNT, 0, 32⟩
abbrev GLB_CFG_REFUSE_CNT : Fld := ⟨Reg.GLB_CFG_REFUSE_CNT, 0, 32⟩
abbrev GLB_STORE_COMMIT_CNT : Fld := ⟨Reg.GLB_STORE_COMMIT_CNT, 0, 32⟩
abbrev GLB_STORE_CRC_ERR_CNT : Fld := ⟨Reg.GLB_STORE_CRC_ERR_CNT, 0, 32⟩
abbrev GLB_CFG_CNT_SAT_SAT : Fld := ⟨Reg.GLB_CFG_CNT_SAT, 0, 4⟩
abbrev GLB_STORE_GEN (i : Nat) : Fld := ⟨Reg.GLB_STORE_GEN i, 0, 32⟩
abbrev MEM_CTL_PATROL_EN : Fld := ⟨Reg.MEM_CTL, 0, 1⟩
abbrev MEM_CTL_PATROL_H : Fld := ⟨Reg.MEM_CTL, 16, 10⟩
abbrev MEM_STAT_ACTIVE : Fld := ⟨Reg.MEM_STAT, 0, 1⟩
abbrev MEM_STAT_HALT_A : Fld := ⟨Reg.MEM_STAT, 1, 1⟩
abbrev MEM_STAT_HALT_B : Fld := ⟨Reg.MEM_STAT, 2, 1⟩
abbrev MEM_STAT_ERASURE : Fld := ⟨Reg.MEM_STAT, 3, 1⟩
abbrev MEM_STAT_ERASED_DIE : Fld := ⟨Reg.MEM_STAT, 4, 4⟩
abbrev MEM_STAT_SCRUB_BUSY : Fld := ⟨Reg.MEM_STAT, 8, 1⟩
abbrev MEM_STAT_PATROL_BUSY : Fld := ⟨Reg.MEM_STAT, 9, 1⟩
abbrev MEM_STAT_WIPE_BUSY : Fld := ⟨Reg.MEM_STAT, 10, 1⟩
abbrev MEM_STAT_SPEED : Fld := ⟨Reg.MEM_STAT, 11, 2⟩
abbrev MEM_STAT_CAP : Fld := ⟨Reg.MEM_STAT, 13, 1⟩
abbrev MEM_EVT_UE : Fld := ⟨Reg.MEM_EVT, 0, 1⟩
abbrev MEM_EVT_DIE : Fld := ⟨Reg.MEM_EVT, 1, 1⟩
abbrev MEM_EVT_HALT : Fld := ⟨Reg.MEM_EVT, 2, 1⟩
abbrev MEM_EVT_DMA_HALT : Fld := ⟨Reg.MEM_EVT, 3, 1⟩
abbrev MEM_EVT_SRAM_UE : Fld := ⟨Reg.MEM_EVT, 4, 1⟩
abbrev MEM_PATROL_PROGRESS : Fld := ⟨Reg.MEM_PATROL, 0, 16⟩
abbrev MEM_PATROL_PERIODS : Fld := ⟨Reg.MEM_PATROL, 16, 16⟩
abbrev MEM_DMA_STAT_HALTED : Fld := ⟨Reg.MEM_DMA_STAT, 0, 8⟩
abbrev MEM_WMB_STAT_LINES : Fld := ⟨Reg.MEM_WMB_STAT, 0, 14⟩
abbrev MEM_WMB_STAT_SPILL : Fld := ⟨Reg.MEM_WMB_STAT, 14, 1⟩
abbrev MEM_CE_CNT : Fld := ⟨Reg.MEM_CE_CNT, 0, 32⟩
abbrev MEM_UE_CNT : Fld := ⟨Reg.MEM_UE_CNT, 0, 32⟩
abbrev MEM_SRAM_CE_CNT : Fld := ⟨Reg.MEM_SRAM_CE_CNT, 0, 32⟩
abbrev MEM_SRAM_UE_CNT : Fld := ⟨Reg.MEM_SRAM_UE_CNT, 0, 32⟩
abbrev MEM_TRAP_CNT : Fld := ⟨Reg.MEM_TRAP_CNT, 0, 32⟩
abbrev MEM_RETRAIN_FAIL_CNT : Fld := ⟨Reg.MEM_RETRAIN_FAIL_CNT, 0, 32⟩
abbrev MEM_CNT_SAT_SAT : Fld := ⟨Reg.MEM_CNT_SAT, 0, 6⟩
abbrev MEM_CH_CNT_SAT_SAT : Fld := ⟨Reg.MEM_CH_CNT_SAT, 0, 20⟩
abbrev MEM_CH_CE_CNT (i : Nat) : Fld := ⟨Reg.MEM_CH_CE_CNT i, 0, 32⟩
abbrev HK_CTL_SENSE_EN : Fld := ⟨Reg.HK_CTL, 0, 1⟩
abbrev HK_CTL_SYNC_EN : Fld := ⟨Reg.HK_CTL, 1, 1⟩
abbrev HK_STAT_SETTLING : Fld := ⟨Reg.HK_STAT, 0, 8⟩
abbrev HK_STAT_SENSE_CUR : Fld := ⟨Reg.HK_STAT, 8, 5⟩
abbrev HK_EVT_OVR : Fld := ⟨Reg.HK_EVT, 0, 4⟩
abbrev HK_CLAMP_STAT_CLAMP : Fld := ⟨Reg.HK_CLAMP_STAT, 0, 32⟩
abbrev HK_OPEN_STAT_OPEN : Fld := ⟨Reg.HK_OPEN_STAT, 0, 32⟩
abbrev HK_CLAMP_CNT : Fld := ⟨Reg.HK_CLAMP_CNT, 0, 32⟩
abbrev HK_OPEN_CNT : Fld := ⟨Reg.HK_OPEN_CNT, 0, 32⟩
abbrev HK_CNT_SAT_SAT : Fld := ⟨Reg.HK_CNT_SAT, 0, 2⟩
abbrev HK_CHAIN_CFG_PRESET (i : Nat) : Fld := ⟨Reg.HK_CHAIN_CFG i, 0, 2⟩
abbrev HK_CHAIN_CFG_SRC (i : Nat) : Fld := ⟨Reg.HK_CHAIN_CFG i, 2, 2⟩
abbrev HK_CHAIN_CFG_DC_EN (i : Nat) : Fld := ⟨Reg.HK_CHAIN_CFG i, 4, 1⟩
abbrev HK_CHAIN_CFG_DC_FREEZE (i : Nat) : Fld := ⟨Reg.HK_CHAIN_CFG i, 5, 1⟩
abbrev HK_CHAIN_CFG_DC_SHIFT (i : Nat) : Fld := ⟨Reg.HK_CHAIN_CFG i, 8, 5⟩
abbrev HK_CHAIN_OUT_OUT (i : Nat) : Fld := ⟨Reg.HK_CHAIN_OUT i, 0, 16⟩
abbrev HK_CHAIN_OUT_VALID (i : Nat) : Fld := ⟨Reg.HK_CHAIN_OUT i, 16, 1⟩
abbrev HK_CHAIN_OUT_SAT (i : Nat) : Fld := ⟨Reg.HK_CHAIN_OUT i, 17, 1⟩
abbrev HK_SENSE_CFG_CURVE (i : Nat) : Fld := ⟨Reg.HK_SENSE_CFG i, 0, 4⟩
abbrev HK_SENSE_CFG_PRESET (i : Nat) : Fld := ⟨Reg.HK_SENSE_CFG i, 4, 2⟩
abbrev HK_SENSE_CFG_EN (i : Nat) : Fld := ⟨Reg.HK_SENSE_CFG i, 6, 1⟩
abbrev HK_SENSE_CFG_EXC (i : Nat) : Fld := ⟨Reg.HK_SENSE_CFG i, 8, 7⟩
abbrev HK_SENSE_CFG_SETTLE_US (i : Nat) : Fld := ⟨Reg.HK_SENSE_CFG i, 16, 10⟩
abbrev HK_SENSE_WORD_WORD (i : Nat) : Fld := ⟨Reg.HK_SENSE_WORD i, 0, 16⟩
abbrev HK_SENSE_WORD_OPEN (i : Nat) : Fld := ⟨Reg.HK_SENSE_WORD i, 16, 1⟩
abbrev HK_SENSE_WORD_CLAMP (i : Nat) : Fld := ⟨Reg.HK_SENSE_WORD i, 17, 1⟩
abbrev HK_SENSE_WORD_SETTLING (i : Nat) : Fld := ⟨Reg.HK_SENSE_WORD i, 18, 1⟩
abbrev HK_CAL_GAIN (i : Nat) : Fld := ⟨Reg.HK_CAL i, 0, 16⟩
abbrev HK_CAL_OFFSET (i : Nat) : Fld := ⟨Reg.HK_CAL i, 16, 16⟩
abbrev THM_CTL_FAST : Fld := ⟨Reg.THM_CTL, 0, 1⟩
abbrev THM_STAT_LEVEL : Fld := ⟨Reg.THM_STAT, 0, 3⟩
abbrev THM_STAT_IN_FORCE : Fld := ⟨Reg.THM_STAT, 3, 3⟩
abbrev THM_STAT_SAFE : Fld := ⟨Reg.THM_STAT, 6, 1⟩
abbrev THM_STAT_FAST_ROUND : Fld := ⟨Reg.THM_STAT, 7, 1⟩
abbrev THM_STAT_HOLD : Fld := ⟨Reg.THM_STAT, 8, 1⟩
abbrev THM_STAT_T_MAX : Fld := ⟨Reg.THM_STAT, 16, 16⟩
abbrev THM_EVT_SENSOR : Fld := ⟨Reg.THM_EVT, 0, 1⟩
abbrev THM_EVT_SAFE : Fld := ⟨Reg.THM_EVT, 1, 1⟩
abbrev THM_FAIL_REGION : Fld := ⟨Reg.THM_FAIL, 0, 12⟩
abbrev THM_FAIL_HOT : Fld := ⟨Reg.THM_FAIL, 12, 20⟩
abbrev THM_LEVEL_CNT : Fld := ⟨Reg.THM_LEVEL_CNT, 0, 32⟩
abbrev THM_SAFE_CNT : Fld := ⟨Reg.THM_SAFE_CNT, 0, 32⟩
abbrev THM_CNT_SAT_SAT : Fld := ⟨Reg.THM_CNT_SAT, 0, 2⟩
abbrev THM_REGION_TEMP (i : Nat) : Fld := ⟨Reg.THM_REGION i, 0, 16⟩
abbrev THM_REGION_FAILED (i : Nat) : Fld := ⟨Reg.THM_REGION i, 16, 1⟩
abbrev PWR_CTL_GOV_EN : Fld := ⟨Reg.PWR_CTL, 0, 1⟩
abbrev PWR_CTL_V_FIX : Fld := ⟨Reg.PWR_CTL, 16, 10⟩
abbrev PWR_STAT_STATE : Fld := ⟨Reg.PWR_STAT, 0, 2⟩
abbrev PWR_STAT_FLOOR_LOST : Fld := ⟨Reg.PWR_STAT, 2, 1⟩
abbrev PWR_STAT_AVS_FAULT : Fld := ⟨Reg.PWR_STAT, 3, 1⟩
abbrev PWR_STAT_SWITCHING : Fld := ⟨Reg.PWR_STAT, 4, 1⟩
abbrev PWR_EVT_FLOOR : Fld := ⟨Reg.PWR_EVT, 0, 1⟩
abbrev PWR_EVT_AVS : Fld := ⟨Reg.PWR_EVT, 1, 1⟩
abbrev PWR_EVT_DOMAIN : Fld := ⟨Reg.PWR_EVT, 2, 1⟩
abbrev PWR_VF_V : Fld := ⟨Reg.PWR_VF, 0, 16⟩
abbrev PWR_VF_READBACK : Fld := ⟨Reg.PWR_VF, 16, 16⟩
abbrev PWR_POWER : Fld := ⟨Reg.PWR_POWER, 0, 32⟩
abbrev PWR_FLOOR_CNT : Fld := ⟨Reg.PWR_FLOOR_CNT, 0, 32⟩
abbrev PWR_AVS_ERR_CNT : Fld := ⟨Reg.PWR_AVS_ERR_CNT, 0, 32⟩
abbrev PWR_DOM_FAIL_CNT : Fld := ⟨Reg.PWR_DOM_FAIL_CNT, 0, 32⟩
abbrev PWR_CNT_SAT_SAT : Fld := ⟨Reg.PWR_CNT_SAT, 0, 3⟩
abbrev PWR_DOM_ON (i : Nat) : Fld := ⟨Reg.PWR_DOM_ON i, 0, 32⟩
abbrev PWR_DOM_FAIL (i : Nat) : Fld := ⟨Reg.PWR_DOM_FAIL i, 0, 32⟩
abbrev PWR_PACE_CYCLE (i : Nat) : Fld := ⟨Reg.PWR_PACE i, 0, 16⟩
abbrev PWR_PACE_FLOOR (i : Nat) : Fld := ⟨Reg.PWR_PACE i, 16, 16⟩
abbrev RST_CAUSE_SRC : Fld := ⟨Reg.RST_CAUSE, 0, 8⟩
abbrev RST_CAUSE_PRIMARY : Fld := ⟨Reg.RST_CAUSE, 8, 3⟩
abbrev RST_CAUSE_COLD : Fld := ⟨Reg.RST_CAUSE, 11, 1⟩
abbrev RST_CAUSE_BAK_LOST : Fld := ⟨Reg.RST_CAUSE, 12, 1⟩
abbrev RST_CAUSE_LC : Fld := ⟨Reg.RST_CAUSE, 13, 1⟩
abbrev RST_STAT_FUSE_FAIL : Fld := ⟨Reg.RST_STAT, 0, 1⟩
abbrev RST_STAT_FUSE_RETRY : Fld := ⟨Reg.RST_STAT, 1, 3⟩
abbrev RST_SRC_CNT (i : Nat) : Fld := ⟨Reg.RST_SRC_CNT i, 0, 32⟩
abbrev RST_FUSE_RESTART_CNT : Fld := ⟨Reg.RST_FUSE_RESTART_CNT, 0, 32⟩
abbrev RST_BOOT_FAIL_CNT : Fld := ⟨Reg.RST_BOOT_FAIL_CNT, 0, 32⟩
abbrev RST_HELD_LAST : Fld := ⟨Reg.RST_HELD_LAST, 0, 32⟩
abbrev RST_HELD_MAX : Fld := ⟨Reg.RST_HELD_MAX, 0, 32⟩
abbrev RST_CNT_SAT_SAT : Fld := ⟨Reg.RST_CNT_SAT, 0, 10⟩
abbrev SEC_STAT_LIFECYCLE : Fld := ⟨Reg.SEC_STAT, 0, 3⟩
abbrev SEC_STAT_SLOT_RUN : Fld := ⟨Reg.SEC_STAT, 3, 1⟩
abbrev SEC_STAT_PREFERRED : Fld := ⟨Reg.SEC_STAT, 4, 1⟩
abbrev SEC_STAT_STAGED : Fld := ⟨Reg.SEC_STAT, 5, 1⟩
abbrev SEC_STAT_REVOKED : Fld := ⟨Reg.SEC_STAT, 6, 2⟩
abbrev SEC_STAT_IDENTITY : Fld := ⟨Reg.SEC_STAT, 8, 1⟩
abbrev SEC_STAT_LC_PENDING : Fld := ⟨Reg.SEC_STAT, 9, 1⟩
abbrev SEC_FW_VER : Fld := ⟨Reg.SEC_FW_VER, 0, 32⟩
abbrev SEC_FLOOR_FLOOR : Fld := ⟨Reg.SEC_FLOOR, 0, 7⟩
abbrev SEC_SEQ : Fld := ⟨Reg.SEC_SEQ, 0, 32⟩
abbrev SEC_SVC_USED : Fld := ⟨Reg.SEC_SVC, 0, 5⟩
abbrev SEC_BOOT_STAT_A : Fld := ⟨Reg.SEC_BOOT_STAT, 0, 4⟩
abbrev SEC_BOOT_STAT_B : Fld := ⟨Reg.SEC_BOOT_STAT, 4, 4⟩
abbrev SEC_BOOT_STAT_FALLBACK : Fld := ⟨Reg.SEC_BOOT_STAT, 8, 1⟩
abbrev EVT_CTL_RING_EN : Fld := ⟨Reg.EVT_CTL, 0, 1⟩
abbrev EVT_CTL_HOLDOFF_US : Fld := ⟨Reg.EVT_CTL, 16, 10⟩
abbrev EVT_STAT_RUN : Fld := ⟨Reg.EVT_STAT, 0, 1⟩
abbrev EVT_STAT_FULL : Fld := ⟨Reg.EVT_STAT, 1, 1⟩
abbrev EVT_STAT_CFG_ERR : Fld := ⟨Reg.EVT_STAT, 2, 1⟩
abbrev EVT_STAT_RD_ERR : Fld := ⟨Reg.EVT_STAT, 3, 1⟩
abbrev EVT_RING_SIZE_LOG2 : Fld := ⟨Reg.EVT_RING_SIZE, 0, 5⟩
abbrev EVT_RING_WR : Fld := ⟨Reg.EVT_RING_WR, 0, 32⟩
abbrev EVT_RING_RD : Fld := ⟨Reg.EVT_RING_RD, 0, 32⟩
abbrev EVT_RING_DROP_CNT : Fld := ⟨Reg.EVT_RING_DROP_CNT, 0, 32⟩
abbrev EVT_CNT_SAT_SAT : Fld := ⟨Reg.EVT_CNT_SAT, 0, 1⟩
abbrev EVT_PEND_PEND (i : Nat) : Fld := ⟨Reg.EVT_PEND i, 0, 32⟩
abbrev EVT_ROUTE_VECTOR (i : Nat) : Fld := ⟨Reg.EVT_ROUTE i, 0, 6⟩
abbrev EVT_ROUTE_RING (i : Nat) : Fld := ⟨Reg.EVT_ROUTE i, 6, 1⟩
abbrev EVT_ROUTE_MSI (i : Nat) : Fld := ⟨Reg.EVT_ROUTE i, 7, 1⟩
abbrev TEL_SEQ : Fld := ⟨Reg.TEL_SEQ, 0, 32⟩
abbrev TEL_STAT_PERIOD : Fld := ⟨Reg.TEL_STAT, 0, 16⟩
abbrev TEL_STAT_RUN : Fld := ⟨Reg.TEL_STAT, 16, 1⟩
abbrev GLB_IDENT_REV : Fld := ⟨Reg.GLB_IDENT, 0, 8⟩
abbrev GLB_IDENT_PART : Fld := ⟨Reg.GLB_IDENT, 8, 16⟩
abbrev GLB_IDENT_FAMILY : Fld := ⟨Reg.GLB_IDENT, 24, 8⟩
abbrev GLB_CTL_COLD_NEXT : Fld := ⟨Reg.GLB_CTL, 0, 1⟩
abbrev GLB_STAT_RESTORED : Fld := ⟨Reg.GLB_STAT, 0, 1⟩
abbrev GLB_STAT_READY : Fld := ⟨Reg.GLB_STAT, 1, 1⟩
abbrev GLB_STAT_MEM_ACTIVE : Fld := ⟨Reg.GLB_STAT, 2, 1⟩
abbrev GLB_STAT_CLOCK : Fld := ⟨Reg.GLB_STAT, 3, 1⟩
abbrev GLB_STAT_QLOCK : Fld := ⟨Reg.GLB_STAT, 4, 1⟩
abbrev GLB_HOST_MODE : Fld := ⟨Reg.GLB_HOST, 0, 1⟩
abbrev GLB_HOST_RATE : Fld := ⟨Reg.GLB_HOST, 1, 3⟩
abbrev GLB_HOST_WIDTH : Fld := ⟨Reg.GLB_HOST, 4, 5⟩
abbrev GLB_HOST_APERTURE_ERR : Fld := ⟨Reg.GLB_HOST, 9, 1⟩
abbrev GLB_APERTURE_BASE : Fld := ⟨Reg.GLB_APERTURE, 0, 8⟩
abbrev GLB_BAD_ACCESS_CNT : Fld := ⟨Reg.GLB_BAD_ACCESS_CNT, 0, 32⟩
abbrev GLB_BAD_VALUE_CNT : Fld := ⟨Reg.GLB_BAD_VALUE_CNT, 0, 32⟩
abbrev GLB_CNT_SAT_SAT : Fld := ⟨Reg.GLB_CNT_SAT, 0, 2⟩
abbrev GLB_SCRATCH : Fld := ⟨Reg.GLB_SCRATCH, 0, 32⟩
abbrev GLB_ENG_STAT_STATE (i : Nat) : Fld := ⟨Reg.GLB_ENG_STAT i, 0, 2⟩
abbrev GLB_ENG_STAT_CLOCKED (i : Nat) : Fld := ⟨Reg.GLB_ENG_STAT i, 2, 1⟩
abbrev GLB_ENG_STAT_TRAPS (i : Nat) : Fld := ⟨Reg.GLB_ENG_STAT i, 8, 8⟩
abbrev TIME_XDROP_CNT : Fld := ⟨Reg.TIME_XDROP_CNT, 0, 32⟩
abbrev TIME_XDROP_SAT_SAT : Fld := ⟨Reg.TIME_XDROP_SAT, 0, 1⟩
abbrev CMDQ_XDROP_CNT : Fld := ⟨Reg.CMDQ_XDROP_CNT, 0, 32⟩
abbrev CMDQ_XDROP_SAT_SAT : Fld := ⟨Reg.CMDQ_XDROP_SAT, 0, 1⟩
abbrev MEM_XDROP_CNT : Fld := ⟨Reg.MEM_XDROP_CNT, 0, 32⟩
abbrev MEM_XDROP_SAT_SAT : Fld := ⟨Reg.MEM_XDROP_SAT, 0, 1⟩
abbrev PEER_XDROP_CNT : Fld := ⟨Reg.PEER_XDROP_CNT, 0, 32⟩
abbrev PEER_XDROP_SAT_SAT : Fld := ⟨Reg.PEER_XDROP_SAT, 0, 1⟩
abbrev SAFE_XDROP_CNT : Fld := ⟨Reg.SAFE_XDROP_CNT, 0, 32⟩
abbrev SAFE_XDROP_SAT_SAT : Fld := ⟨Reg.SAFE_XDROP_SAT, 0, 1⟩
abbrev RST_XDROP_CNT : Fld := ⟨Reg.RST_XDROP_CNT, 0, 32⟩
abbrev RST_XDROP_SAT_SAT : Fld := ⟨Reg.RST_XDROP_SAT, 0, 1⟩

end F

/-! Counters with their SAT bits (R634). -/

namespace C

abbrev TIME_MARK_CNT : Cnt := ⟨Reg.TIME_MARK_CNT, false, Reg.TIME_CNT_SAT, 0⟩
abbrev TIME_STEP_CNT : Cnt := ⟨Reg.TIME_STEP_CNT, false, Reg.TIME_CNT_SAT, 1⟩
abbrev TIME_UNLOCK_CNT : Cnt := ⟨Reg.TIME_UNLOCK_CNT, false, Reg.TIME_CNT_SAT, 2⟩
abbrev TIME_HOLDOVER_CNT : Cnt := ⟨Reg.TIME_HOLDOVER_CNT, false, Reg.TIME_CNT_SAT, 3⟩
abbrev SLICE_CLAMP_CNT (i : Nat) : Cnt := ⟨Reg.SLICE_CLAMP_CNT i, false, Reg.SLICE_FE_CNT_SAT i, 0⟩
abbrev SLICE_OVR_CNT (i : Nat) : Cnt := ⟨Reg.SLICE_OVR_CNT i, false, Reg.SLICE_FE_CNT_SAT i, 1⟩
abbrev SLICE_EM_NOMREF_CNT (i : Nat) : Cnt := ⟨Reg.SLICE_EM_NOMREF_CNT i, false, Reg.SLICE_EM_CNT_SAT i, 0⟩
abbrev SLICE_EM_OVF_SHOT_CNT (i : Nat) : Cnt := ⟨Reg.SLICE_EM_OVF_SHOT_CNT i, false, Reg.SLICE_EM_CNT_SAT i, 1⟩
abbrev SLICE_EM_XDROP_CNT (i : Nat) : Cnt := ⟨Reg.SLICE_EM_XDROP_CNT i, false, Reg.SLICE_EM_CNT_SAT i, 2⟩
abbrev SLICE_EM_WCOERCE_CNT (i : Nat) : Cnt := ⟨Reg.SLICE_EM_WCOERCE_CNT i, false, Reg.SLICE_EM_CNT_SAT i, 3⟩
abbrev SLICE_EM_ACC (i : Nat) : Cnt := ⟨Reg.SLICE_EM_ACC_LO i, true, Reg.SLICE_EM_CNT_SAT i, 4⟩
abbrev SLICE_EM_PRE (i : Nat) : Cnt := ⟨Reg.SLICE_EM_PRE_LO i, true, Reg.SLICE_EM_CNT_SAT i, 5⟩
abbrev SLICE_EM_NEAR (i : Nat) : Cnt := ⟨Reg.SLICE_EM_NEAR_LO i, true, Reg.SLICE_EM_CNT_SAT i, 6⟩
abbrev SLICE_EM_WIN (i : Nat) : Cnt := ⟨Reg.SLICE_EM_WIN_LO i, true, Reg.SLICE_EM_CNT_SAT i, 7⟩
abbrev SLICE_EM_OVF (i : Nat) : Cnt := ⟨Reg.SLICE_EM_OVF_LO i, true, Reg.SLICE_EM_CNT_SAT i, 8⟩
abbrev SLICE_BUR_APPLY_CNT (i : Nat) : Cnt := ⟨Reg.SLICE_BUR_APPLY_CNT i, false, Reg.SLICE_BUR_CNT_SAT i, 0⟩
abbrev SLICE_BUR_DISCARD_CNT (i : Nat) : Cnt := ⟨Reg.SLICE_BUR_DISCARD_CNT i, false, Reg.SLICE_BUR_CNT_SAT i, 1⟩
abbrev KILN_BUR_REF_APPLY_CNT : Cnt := ⟨Reg.KILN_BUR_REF_APPLY_CNT, false, Reg.KILN_BUR_CNT_SAT, 0⟩
abbrev BLW_E_FE_MISS_CNT : Cnt := ⟨Reg.BLW_E_FE_MISS_CNT, false, Reg.BLW_CNT_SAT, 0⟩
abbrev BLW_E_UNEXP_CNT : Cnt := ⟨Reg.BLW_E_UNEXP_CNT, false, Reg.BLW_CNT_SAT, 1⟩
abbrev BLW_E_RB_ERR_CNT : Cnt := ⟨Reg.BLW_E_RB_ERR_CNT, false, Reg.BLW_CNT_SAT, 2⟩
abbrev BLW_L_RB_ERR_CNT : Cnt := ⟨Reg.BLW_L_RB_ERR_CNT, false, Reg.BLW_CNT_SAT, 3⟩
abbrev SLICE_KILN_ARENA_MISS_CNT (i : Nat) : Cnt := ⟨Reg.SLICE_KILN_ARENA_MISS_CNT i, false, Reg.SLICE_KILN_CNT_SAT i, 0⟩
abbrev SLICE_KILN_GLIST_DROP_CNT (i : Nat) : Cnt := ⟨Reg.SLICE_KILN_GLIST_DROP_CNT i, false, Reg.SLICE_KILN_CNT_SAT i, 1⟩
abbrev SLICE_KILN_GOUT_CNT (i : Nat) : Cnt := ⟨Reg.SLICE_KILN_GOUT_CNT i, false, Reg.SLICE_KILN_CNT_SAT i, 2⟩
abbrev SLICE_KILN_GROUP (i : Nat) : Cnt := ⟨Reg.SLICE_KILN_GROUP_LO i, true, Reg.SLICE_KILN_CNT_SAT i, 3⟩
abbrev SLICE_KILN_UNM (i : Nat) : Cnt := ⟨Reg.SLICE_KILN_UNM_LO i, true, Reg.SLICE_KILN_CNT_SAT i, 4⟩
abbrev SLICE_KILN_INT (i : Nat) : Cnt := ⟨Reg.SLICE_KILN_INT_LO i, true, Reg.SLICE_KILN_CNT_SAT i, 5⟩
abbrev SLICE_KILN_PIX (i : Nat) : Cnt := ⟨Reg.SLICE_KILN_PIX_LO i, true, Reg.SLICE_KILN_CNT_SAT i, 6⟩
abbrev SLICE_KILN_ECHO (i : Nat) : Cnt := ⟨Reg.SLICE_KILN_ECHO_LO i, true, Reg.SLICE_KILN_CNT_SAT i, 7⟩
abbrev TAP_WIN : Cnt := ⟨Reg.TAP_WIN_LO, true, Reg.TAP_CNT_SAT, 0⟩
abbrev TAP_UNSERVED_CNT : Cnt := ⟨Reg.TAP_UNSERVED_CNT, false, Reg.TAP_CNT_SAT, 1⟩
abbrev TAP_WITHHELD_CNT : Cnt := ⟨Reg.TAP_WITHHELD_CNT, false, Reg.TAP_CNT_SAT, 2⟩
abbrev TAP_T_OVF_CNT (i : Nat) : Cnt := ⟨Reg.TAP_T_OVF_CNT i, false, Reg.TAP_T_CNT_SAT i, 0⟩
abbrev TAP_T_SKIP_CNT (i : Nat) : Cnt := ⟨Reg.TAP_T_SKIP_CNT i, false, Reg.TAP_T_CNT_SAT i, 1⟩
abbrev TAP_T_CLIP_CNT (i : Nat) : Cnt := ⟨Reg.TAP_T_CLIP_CNT i, false, Reg.TAP_T_CNT_SAT i, 2⟩
abbrev TURF_LATE_CNT : Cnt := ⟨Reg.TURF_LATE_CNT, false, Reg.TURF_CNT_SAT, 0⟩
abbrev TURF_STALE_CNT : Cnt := ⟨Reg.TURF_STALE_CNT, false, Reg.TURF_CNT_SAT, 1⟩
abbrev TURF_ASHSAT_CNT : Cnt := ⟨Reg.TURF_ASHSAT_CNT, false, Reg.TURF_CNT_SAT, 2⟩
abbrev TURF_UE_CNT : Cnt := ⟨Reg.TURF_UE_CNT, false, Reg.TURF_CNT_SAT, 3⟩
abbrev TURF_UPD : Cnt := ⟨Reg.TURF_UPD_LO, true, Reg.TURF_CNT_SAT, 4⟩
abbrev TURF_ACQ : Cnt := ⟨Reg.TURF_ACQ_LO, true, Reg.TURF_CNT_SAT, 5⟩
abbrev SCN_OVERRUN_CNT : Cnt := ⟨Reg.SCN_OVERRUN_CNT, false, Reg.SCN_CNT_SAT, 0⟩
abbrev SCN_TRACK_SKIP_CNT : Cnt := ⟨Reg.SCN_TRACK_SKIP_CNT, false, Reg.SCN_CNT_SAT, 1⟩
abbrev SCN_SOFT_CNT : Cnt := ⟨Reg.SCN_SOFT_CNT, false, Reg.SCN_CNT_SAT, 2⟩
abbrev SCN_DAMP_CUT_CNT : Cnt := ⟨Reg.SCN_DAMP_CUT_CNT, false, Reg.SCN_CNT_SAT, 3⟩
abbrev SCN_MFAULT_CNT : Cnt := ⟨Reg.SCN_MFAULT_CNT, false, Reg.SCN_CNT_SAT, 4⟩
abbrev ING_HIST_DROP_CNT : Cnt := ⟨Reg.ING_HIST_DROP_CNT, false, Reg.ING_CNT_SAT, 0⟩
abbrev ING_INCOMPLETE_CNT : Cnt := ⟨Reg.ING_INCOMPLETE_CNT, false, Reg.ING_CNT_SAT, 1⟩
abbrev ING_REC : Cnt := ⟨Reg.ING_REC_LO, true, Reg.ING_CNT_SAT, 2⟩
abbrev ING_DROP_FULL : Cnt := ⟨Reg.ING_DROP_FULL_LO, true, Reg.ING_CNT_SAT, 3⟩
abbrev ING_DROP_BUDGET : Cnt := ⟨Reg.ING_DROP_BUDGET_LO, true, Reg.ING_CNT_SAT, 4⟩
abbrev PEER_CRC_ERR_CNT : Cnt := ⟨Reg.PEER_CRC_ERR_CNT, false, Reg.PEER_CNT_SAT, 0⟩
abbrev PEER_LOSS_CNT : Cnt := ⟨Reg.PEER_LOSS_CNT, false, Reg.PEER_CNT_SAT, 1⟩
abbrev PEER_MEMBER_CHG_CNT : Cnt := ⟨Reg.PEER_MEMBER_CHG_CNT, false, Reg.PEER_CNT_SAT, 2⟩
abbrev SAFE_QUENCH_CNT : Cnt := ⟨Reg.SAFE_QUENCH_CNT, false, Reg.SAFE_CNT_SAT, 0⟩
abbrev SAFE_INFR_CNT : Cnt := ⟨Reg.SAFE_INFR_CNT, false, Reg.SAFE_CNT_SAT, 1⟩
abbrev SAFE_TEST_FAIL_CNT : Cnt := ⟨Reg.SAFE_TEST_FAIL_CNT, false, Reg.SAFE_CNT_SAT, 2⟩
abbrev SAFE_RESTART_CNT : Cnt := ⟨Reg.SAFE_RESTART_CNT, false, Reg.SAFE_CNT_SAT, 3⟩
abbrev SAFE_VETO_CNT : Cnt := ⟨Reg.SAFE_VETO_CNT, false, Reg.SAFE_CNT_SAT, 4⟩
abbrev CMDQ_ACK_MISS_CNT : Cnt := ⟨Reg.CMDQ_ACK_MISS_CNT, false, Reg.CMDQ_CNT_SAT, 0⟩
abbrev CMDQ_FMT_ERR_CNT : Cnt := ⟨Reg.CMDQ_FMT_ERR_CNT, false, Reg.CMDQ_CNT_SAT, 1⟩
abbrev CMDQ_DB_ERR_CNT : Cnt := ⟨Reg.CMDQ_DB_ERR_CNT, false, Reg.CMDQ_CNT_SAT, 2⟩
abbrev CMDQ_DECL_CNT : Cnt := ⟨Reg.CMDQ_DECL_CNT, false, Reg.CMDQ_CNT_SAT, 3⟩
abbrev GLB_CFG_APPLY_CNT : Cnt := ⟨Reg.GLB_CFG_APPLY_CNT, false, Reg.GLB_CFG_CNT_SAT, 0⟩
abbrev GLB_CFG_REFUSE_CNT : Cnt := ⟨Reg.GLB_CFG_REFUSE_CNT, false, Reg.GLB_CFG_CNT_SAT, 1⟩
abbrev GLB_STORE_COMMIT_CNT : Cnt := ⟨Reg.GLB_STORE_COMMIT_CNT, false, Reg.GLB_CFG_CNT_SAT, 2⟩
abbrev GLB_STORE_CRC_ERR_CNT : Cnt := ⟨Reg.GLB_STORE_CRC_ERR_CNT, false, Reg.GLB_CFG_CNT_SAT, 3⟩
abbrev MEM_CE_CNT : Cnt := ⟨Reg.MEM_CE_CNT, false, Reg.MEM_CNT_SAT, 0⟩
abbrev MEM_UE_CNT : Cnt := ⟨Reg.MEM_UE_CNT, false, Reg.MEM_CNT_SAT, 1⟩
abbrev MEM_SRAM_CE_CNT : Cnt := ⟨Reg.MEM_SRAM_CE_CNT, false, Reg.MEM_CNT_SAT, 2⟩
abbrev MEM_SRAM_UE_CNT : Cnt := ⟨Reg.MEM_SRAM_UE_CNT, false, Reg.MEM_CNT_SAT, 3⟩
abbrev MEM_TRAP_CNT : Cnt := ⟨Reg.MEM_TRAP_CNT, false, Reg.MEM_CNT_SAT, 4⟩
abbrev MEM_RETRAIN_FAIL_CNT : Cnt := ⟨Reg.MEM_RETRAIN_FAIL_CNT, false, Reg.MEM_CNT_SAT, 5⟩
abbrev HK_CLAMP_CNT : Cnt := ⟨Reg.HK_CLAMP_CNT, false, Reg.HK_CNT_SAT, 0⟩
abbrev HK_OPEN_CNT : Cnt := ⟨Reg.HK_OPEN_CNT, false, Reg.HK_CNT_SAT, 1⟩
abbrev THM_LEVEL_CNT : Cnt := ⟨Reg.THM_LEVEL_CNT, false, Reg.THM_CNT_SAT, 0⟩
abbrev THM_SAFE_CNT : Cnt := ⟨Reg.THM_SAFE_CNT, false, Reg.THM_CNT_SAT, 1⟩
abbrev PWR_FLOOR_CNT : Cnt := ⟨Reg.PWR_FLOOR_CNT, false, Reg.PWR_CNT_SAT, 0⟩
abbrev PWR_AVS_ERR_CNT : Cnt := ⟨Reg.PWR_AVS_ERR_CNT, false, Reg.PWR_CNT_SAT, 1⟩
abbrev PWR_DOM_FAIL_CNT : Cnt := ⟨Reg.PWR_DOM_FAIL_CNT, false, Reg.PWR_CNT_SAT, 2⟩
abbrev EVT_RING_DROP_CNT : Cnt := ⟨Reg.EVT_RING_DROP_CNT, false, Reg.EVT_CNT_SAT, 0⟩
abbrev GLB_BAD_ACCESS_CNT : Cnt := ⟨Reg.GLB_BAD_ACCESS_CNT, false, Reg.GLB_CNT_SAT, 0⟩
abbrev GLB_BAD_VALUE_CNT : Cnt := ⟨Reg.GLB_BAD_VALUE_CNT, false, Reg.GLB_CNT_SAT, 1⟩
abbrev TIME_XDROP_CNT : Cnt := ⟨Reg.TIME_XDROP_CNT, false, Reg.TIME_XDROP_SAT, 0⟩
abbrev CMDQ_XDROP_CNT : Cnt := ⟨Reg.CMDQ_XDROP_CNT, false, Reg.CMDQ_XDROP_SAT, 0⟩
abbrev MEM_XDROP_CNT : Cnt := ⟨Reg.MEM_XDROP_CNT, false, Reg.MEM_XDROP_SAT, 0⟩
abbrev PEER_XDROP_CNT : Cnt := ⟨Reg.PEER_XDROP_CNT, false, Reg.PEER_XDROP_SAT, 0⟩
abbrev SAFE_XDROP_CNT : Cnt := ⟨Reg.SAFE_XDROP_CNT, false, Reg.SAFE_XDROP_SAT, 0⟩
abbrev RST_XDROP_CNT : Cnt := ⟨Reg.RST_XDROP_CNT, false, Reg.RST_XDROP_SAT, 0⟩
abbrev MEM_CH_CE_CNT (i : Nat) : Cnt := ⟨Reg.MEM_CH_CE_CNT i, false, Reg.MEM_CH_CNT_SAT, i⟩
abbrev RST_SRC_CNT (i : Nat) : Cnt := ⟨Reg.RST_SRC_CNT i, false, Reg.RST_CNT_SAT, i⟩
abbrev RST_FUSE_RESTART_CNT : Cnt := ⟨Reg.RST_FUSE_RESTART_CNT, false, Reg.RST_CNT_SAT, 8⟩
abbrev RST_BOOT_FAIL_CNT : Cnt := ⟨Reg.RST_BOOT_FAIL_CNT, false, Reg.RST_CNT_SAT, 9⟩

end C

/-! The register tables, block by block (R619). -/

def regRowsTIME0 : List RegRow := [
  ⟨"TIME_CTL", 0x040000, 1, 0x4, 1, 0x4, 0x0000000C#32, .no, .none,
    [⟨0, 2, .rw, .any⟩, ⟨2, 1, .rw, .any⟩, ⟨3, 1, .rw, .any⟩, ⟨4, 1, .rw, .any⟩]⟩,
  ⟨"TIME_STAT", 0x040004, 1, 0x4, 1, 0x4, 0x00000300#32, .no, .none,
    [⟨0, 1, .ro, .any⟩, ⟨1, 1, .ro, .any⟩, ⟨2, 1, .ro, .any⟩, ⟨3, 1, .ro, .any⟩, ⟨4, 1, .ro, .any⟩, ⟨5, 1, .ro, .any⟩, ⟨6, 1, .ro, .any⟩, ⟨7, 1, .ro, .any⟩, ⟨8, 2, .ro, .any⟩]⟩,
  ⟨"TIME_NOW_LO", 0x040010, 1, 0x4, 1, 0x4, 0x00000000#32, .no, .lo,
    [⟨0, 32, .ro, .any⟩]⟩,
  ⟨"TIME_NOW_HI", 0x040014, 1, 0x4, 1, 0x4, 0x00000000#32, .no, .hi,
    [⟨0, 32, .ro, .any⟩]⟩,
  ⟨"TIME_RATE", 0x040018, 1, 0x4, 1, 0x4, 0x00000000#32, .no, .none,
    [⟨0, 32, .ro, .any⟩]⟩,
  ⟨"TIME_XO_TRIM", 0x04001C, 1, 0x4, 1, 0x4, 0x00000000#32, .no, .none,
    [⟨0, 32, .ro, .any⟩]⟩,
  ⟨"TIME_SLOT_LO", 0x040020, 1, 0x4, 1, 0x4, 0x00000000#32, .no, .lo,
    [⟨0, 32, .ro, .any⟩]⟩,
  ⟨"TIME_SLOT_HI", 0x040024, 1, 0x4, 1, 0x4, 0x00000000#32, .no, .hi,
    [⟨0, 32, .ro, .any⟩]⟩,
  ⟨"TIME_FRAME", 0x040028, 1, 0x4, 1, 0x4, 0x00000000#32, .no, .none,
    [⟨0, 32, .ro, .any⟩]⟩,
  ⟨"TIME_SLOT_IN_FRAME", 0x04002C, 1, 0x4, 1, 0x4, 0x00000000#32, .no, .none,
    [⟨0, 16, .ro, .any⟩]⟩,
  ⟨"TIME_PHASE_ERR", 0x040030, 1, 0x4, 1, 0x4, 0x00000000#32, .no, .none,
    [⟨0, 32, .ro, .any⟩]⟩,
  ⟨"TIME_MARK_CNT", 0x040040, 1, 0x4, 1, 0x4, 0x00000000#32, .no, .none,
    [⟨0, 32, .ro, .any⟩]⟩,
  ⟨"TIME_STEP_CNT", 0x040044, 1, 0x4, 1, 0x4, 0x00000000#32, .no, .none,
    [⟨0, 32, .ro, .any⟩]⟩,
  ⟨"TIME_UNLOCK_CNT", 0x040048, 1, 0x4, 1, 0x4, 0x00000000#32, .no, .none,
    [⟨0, 32, .ro, .any⟩]⟩,
  ⟨"TIME_HOLDOVER_CNT", 0x04004C, 1, 0x4, 1, 0x4, 0x00000000#32, .no, .none,
    [⟨0, 32, .ro, .any⟩]⟩,
  ⟨"TIME_CNT_SAT", 0x040050, 1, 0x4, 1, 0x4, 0x00000000#32, .no, .none,
    [⟨0, 4, .w1c, .any⟩]⟩,
  ⟨"TIME_XDROP_CNT", 0x040060, 1, 0x4, 1, 0x4, 0x00000000#32, .warm, .none,
    [⟨0, 32, .ro, .any⟩]⟩,
  ⟨"TIME_XDROP_SAT", 0x040064, 1, 0x4, 1, 0x4, 0x00000000#32, .warm, .none,
    [⟨0, 1, .w1c, .any⟩]⟩]

/-- The register rows of block TIME. -/
def regRowsTIME : List RegRow := regRowsTIME0

def regRowsSLICE0 : List RegRow := [
  ⟨"SLICE_FE_CTL", 0x080000, 64, 0x1000, 1, 0x4, 0x0000080A#32, .no, .none,
    [⟨0, 8, .rw, .clamp 6 128⟩, ⟨8, 6, .rw, .clamp 0 50⟩]⟩,
  ⟨"SLICE_FE_STAT", 0x080004, 64, 0x1000, 1, 0x4, 0x00000000#32, .no, .none,
    [⟨0, 8, .ro, .any⟩]⟩,
  ⟨"SLICE_CLAMP_STAT", 0x080008, 64, 0x1000, 1, 0x4, 0x00000000#32, .no, .none,
    [⟨0, 8, .w1c, .any⟩, ⟨8, 8, .w1c, .any⟩]⟩,
  ⟨"SLICE_CLAMP_CNT", 0x08000C, 64, 0x1000, 1, 0x4, 0x00000000#32, .no, .none,
    [⟨0, 32, .ro, .any⟩]⟩,
  ⟨"SLICE_OVR_CNT", 0x080010, 64, 0x1000, 1, 0x4, 0x00000000#32, .no, .none,
    [⟨0, 32, .ro, .any⟩]⟩,
  ⟨"SLICE_FE_CNT_SAT", 0x080014, 64, 0x1000, 1, 0x4, 0x00000000#32, .no, .none,
    [⟨0, 2, .w1c, .any⟩]⟩,
  ⟨"SLICE_CH_CFG", 0x080100, 64, 0x1000, 8, 0x10, 0x0000007D#32, .no, .none,
    [⟨0, 1, .rw, .any⟩, ⟨1, 1, .rw, .any⟩, ⟨2, 1, .rw, .any⟩, ⟨3, 3, .rw, .any⟩, ⟨6, 1, .rw, .any⟩, ⟨16, 10, .rw, .any⟩]⟩,
  ⟨"SLICE_CH_THR_FIX", 0x080104, 64, 0x1000, 8, 0x10, 0x3FFFFFFF#32, .no, .none,
    [⟨0, 10, .rw, .any⟩, ⟨10, 10, .rw, .any⟩, ⟨20, 10, .rw, .any⟩]⟩,
  ⟨"SLICE_CH_THR_LIVE", 0x080108, 64, 0x1000, 8, 0x10, 0xBFFFFFFF#32, .no, .none,
    [⟨0, 10, .ro, .any⟩, ⟨10, 10, .ro, .any⟩, ⟨20, 10, .ro, .any⟩, ⟨31, 1, .ro, .any⟩]⟩,
  ⟨"SLICE_CH_CMP_TRIM", 0x08010C, 64, 0x1000, 8, 0x10, 0x00000000#32, .no, .none,
    [⟨0, 6, .ro, .any⟩, ⟨8, 6, .ro, .any⟩, ⟨16, 6, .ro, .any⟩]⟩,
  ⟨"SLICE_EM_CTL", 0x080020, 64, 0x1000, 1, 0x4, 0x00000005#32, .no, .none,
    [⟨0, 1, .rw, .any⟩, ⟨1, 1, .rw, .any⟩, ⟨2, 1, .rw, .any⟩]⟩,
  ⟨"SLICE_EM_STAT", 0x080024, 64, 0x1000, 1, 0x4, 0x00000000#32, .no, .none,
    [⟨0, 8, .w1c, .any⟩, ⟨8, 1, .w1c, .any⟩, ⟨9, 1, .w1c, .any⟩, ⟨10, 1, .w1c, .any⟩]⟩,
  ⟨"SLICE_EM_WIN_FIX", 0x080028, 64, 0x1000, 1, 0x4, 0x1F400000#32, .no, .none,
    [⟨0, 14, .rw, .any⟩, ⟨16, 14, .rw, .any⟩]⟩,
  ⟨"SLICE_EM_NOMREF_CNT", 0x08002C, 64, 0x1000, 1, 0x4, 0x00000000#32, .no, .none,
    [⟨0, 32, .ro, .any⟩]⟩,
  ⟨"SLICE_EM_OVF_SHOT_CNT", 0x080030, 64, 0x1000, 1, 0x4, 0x00000000#32, .no, .none,
    [⟨0, 32, .ro, .any⟩]⟩,
  ⟨"SLICE_EM_XDROP_CNT", 0x080034, 64, 0x1000, 1, 0x4, 0x00000000#32, .warm, .none,
    [⟨0, 32, .ro, .any⟩]⟩,
  ⟨"SLICE_EM_WCOERCE_CNT", 0x080038, 64, 0x1000, 1, 0x4, 0x00000000#32, .no, .none,
    [⟨0, 32, .ro, .any⟩]⟩,
  ⟨"SLICE_EM_CNT_SAT", 0x08003C, 64, 0x1000, 1, 0x4, 0x00000000#32, .no, .none,
    [⟨0, 9, .w1c, .any⟩]⟩,
  ⟨"SLICE_EM_ACC_LO", 0x080040, 64, 0x1000, 1, 0x4, 0x00000000#32, .no, .lo,
    [⟨0, 32, .ro, .any⟩]⟩,
  ⟨"SLICE_EM_ACC_HI", 0x080044, 64, 0x1000, 1, 0x4, 0x00000000#32, .no, .hi,
    [⟨0, 32, .ro, .any⟩]⟩,
  ⟨"SLICE_EM_PRE_LO", 0x080048, 64, 0x1000, 1, 0x4, 0x00000000#32, .no, .lo,
    [⟨0, 32, .ro, .any⟩]⟩,
  ⟨"SLICE_EM_PRE_HI", 0x08004C, 64, 0x1000, 1, 0x4, 0x00000000#32, .no, .hi,
    [⟨0, 32, .ro, .any⟩]⟩,
  ⟨"SLICE_EM_NEAR_LO", 0x080050, 64, 0x1000, 1, 0x4, 0x00000000#32, .no, .lo,
    [⟨0, 32, .ro, .any⟩]⟩,
  ⟨"SLICE_EM_NEAR_HI", 0x080054, 64, 0x1000, 1, 0x4, 0x00000000#32, .no, .hi,
    [⟨0, 32, .ro, .any⟩]⟩,
  ⟨"SLICE_EM_WIN_LO", 0x080058, 64, 0x1000, 1, 0x4, 0x00000000#32, .no, .lo,
    [⟨0, 32, .ro, .any⟩]⟩]

def regRowsSLICE1 : List RegRow := [
  ⟨"SLICE_EM_WIN_HI", 0x08005C, 64, 0x1000, 1, 0x4, 0x00000000#32, .no, .hi,
    [⟨0, 32, .ro, .any⟩]⟩,
  ⟨"SLICE_EM_OVF_LO", 0x080060, 64, 0x1000, 1, 0x4, 0x00000000#32, .no, .lo,
    [⟨0, 32, .ro, .any⟩]⟩,
  ⟨"SLICE_EM_OVF_HI", 0x080064, 64, 0x1000, 1, 0x4, 0x00000000#32, .no, .hi,
    [⟨0, 32, .ro, .any⟩]⟩,
  ⟨"SLICE_EM_CH", 0x080200, 64, 0x1000, 8, 0x4, 0x00000000#32, .no, .none,
    [⟨0, 9, .ro, .any⟩, ⟨16, 9, .rc, .any⟩]⟩,
  ⟨"SLICE_BUR_STAT", 0x080300, 64, 0x1000, 1, 0x4, 0x00000000#32, .no, .none,
    [⟨0, 1, .ro, .any⟩, ⟨1, 1, .ro, .any⟩, ⟨2, 1, .ro, .any⟩, ⟨4, 2, .ro, .any⟩, ⟨8, 8, .ro, .any⟩]⟩,
  ⟨"SLICE_BUR_APPLY_CNT", 0x080304, 64, 0x1000, 1, 0x4, 0x00000000#32, .no, .none,
    [⟨0, 32, .ro, .any⟩]⟩,
  ⟨"SLICE_BUR_LAST_LO", 0x080308, 64, 0x1000, 1, 0x4, 0x00000000#32, .no, .lo,
    [⟨0, 32, .ro, .any⟩]⟩,
  ⟨"SLICE_BUR_LAST_HI", 0x08030C, 64, 0x1000, 1, 0x4, 0x00000000#32, .no, .hi,
    [⟨0, 32, .ro, .any⟩]⟩,
  ⟨"SLICE_BUR_LAST_TEMP", 0x080310, 64, 0x1000, 1, 0x4, 0x00000000#32, .no, .none,
    [⟨0, 16, .ro, .any⟩]⟩,
  ⟨"SLICE_BUR_DISCARD_CNT", 0x080314, 64, 0x1000, 1, 0x4, 0x00000000#32, .no, .none,
    [⟨0, 32, .ro, .any⟩]⟩,
  ⟨"SLICE_BUR_CNT_SAT", 0x080318, 64, 0x1000, 1, 0x4, 0x00000000#32, .no, .none,
    [⟨0, 2, .w1c, .any⟩]⟩,
  ⟨"SLICE_BUR_CH", 0x080380, 64, 0x1000, 8, 0x4, 0x00000000#32, .no, .none,
    [⟨0, 8, .ro, .any⟩, ⟨8, 8, .ro, .any⟩, ⟨16, 1, .ro, .any⟩, ⟨17, 1, .ro, .any⟩, ⟨18, 1, .ro, .any⟩, ⟨19, 1, .ro, .any⟩]⟩,
  ⟨"SLICE_KILN_CTL", 0x080400, 64, 0x1000, 1, 0x4, 0x00001003#32, .no, .none,
    [⟨0, 4, .rw, .clamp 2 8⟩, ⟨4, 11, .rw, .clamp 16 1024⟩, ⟨16, 1, .rw, .any⟩]⟩,
  ⟨"SLICE_KILN_STAT", 0x080404, 64, 0x1000, 1, 0x4, 0x00000000#32, .no, .none,
    [⟨0, 1, .w1c, .any⟩, ⟨1, 1, .w1c, .any⟩, ⟨2, 1, .w1c, .any⟩]⟩,
  ⟨"SLICE_KILN_OCC", 0x080408, 64, 0x1000, 1, 0x4, 0x00000000#32, .no, .none,
    [⟨0, 7, .ro, .any⟩, ⟨8, 7, .rc, .any⟩, ⟨16, 13, .rc, .any⟩]⟩,
  ⟨"SLICE_KILN_ARENA_MISS_CNT", 0x080410, 64, 0x1000, 1, 0x4, 0x00000000#32, .no, .none,
    [⟨0, 32, .ro, .any⟩]⟩,
  ⟨"SLICE_KILN_GLIST_DROP_CNT", 0x080414, 64, 0x1000, 1, 0x4, 0x00000000#32, .no, .none,
    [⟨0, 32, .ro, .any⟩]⟩,
  ⟨"SLICE_KILN_GOUT_CNT", 0x080418, 64, 0x1000, 1, 0x4, 0x00000000#32, .no, .none,
    [⟨0, 32, .ro, .any⟩]⟩,
  ⟨"SLICE_KILN_CNT_SAT", 0x08041C, 64, 0x1000, 1, 0x4, 0x00000000#32, .no, .none,
    [⟨0, 8, .w1c, .any⟩]⟩,
  ⟨"SLICE_KILN_GROUP_LO", 0x080420, 64, 0x1000, 1, 0x4, 0x00000000#32, .no, .lo,
    [⟨0, 32, .ro, .any⟩]⟩,
  ⟨"SLICE_KILN_GROUP_HI", 0x080424, 64, 0x1000, 1, 0x4, 0x00000000#32, .no, .hi,
    [⟨0, 32, .ro, .any⟩]⟩,
  ⟨"SLICE_KILN_UNM_LO", 0x080428, 64, 0x1000, 1, 0x4, 0x00000000#32, .no, .lo,
    [⟨0, 32, .ro, .any⟩]⟩,
  ⟨"SLICE_KILN_UNM_HI", 0x08042C, 64, 0x1000, 1, 0x4, 0x00000000#32, .no, .hi,
    [⟨0, 32, .ro, .any⟩]⟩,
  ⟨"SLICE_KILN_INT_LO", 0x080430, 64, 0x1000, 1, 0x4, 0x00000000#32, .no, .lo,
    [⟨0, 32, .ro, .any⟩]⟩,
  ⟨"SLICE_KILN_INT_HI", 0x080434, 64, 0x1000, 1, 0x4, 0x00000000#32, .no, .hi,
    [⟨0, 32, .ro, .any⟩]⟩]

def regRowsSLICE2 : List RegRow := [
  ⟨"SLICE_KILN_PIX_LO", 0x080438, 64, 0x1000, 1, 0x4, 0x00000000#32, .no, .lo,
    [⟨0, 32, .ro, .any⟩]⟩,
  ⟨"SLICE_KILN_PIX_HI", 0x08043C, 64, 0x1000, 1, 0x4, 0x00000000#32, .no, .hi,
    [⟨0, 32, .ro, .any⟩]⟩,
  ⟨"SLICE_KILN_ECHO_LO", 0x080440, 64, 0x1000, 1, 0x4, 0x00000000#32, .no, .lo,
    [⟨0, 32, .ro, .any⟩]⟩,
  ⟨"SLICE_KILN_ECHO_HI", 0x080444, 64, 0x1000, 1, 0x4, 0x00000000#32, .no, .hi,
    [⟨0, 32, .ro, .any⟩]⟩]

/-- The register rows of block SLICE. -/
def regRowsSLICE : List RegRow := regRowsSLICE0 ++ regRowsSLICE1 ++ regRowsSLICE2

def regRowsKILN0 : List RegRow := [
  ⟨"KILN_BUR_CTL", 0x100800, 1, 0x4, 1, 0x4, 0x0000000F#32, .no, .none,
    [⟨0, 1, .rw, .any⟩, ⟨1, 1, .rw, .any⟩, ⟨2, 1, .rw, .any⟩, ⟨3, 1, .rw, .any⟩]⟩,
  ⟨"KILN_BUR_REF_ACT", 0x100804, 1, 0x4, 1, 0x4, 0x00000000#32, .no, .none,
    [⟨0, 1, .ro, .any⟩, ⟨1, 1, .ro, .any⟩, ⟨2, 1, .ro, .any⟩, ⟨3, 1, .ro, .any⟩, ⟨4, 1, .ro, .any⟩, ⟨5, 1, .ro, .any⟩, ⟨8, 8, .ro, .any⟩]⟩,
  ⟨"KILN_BUR_REF_STAT", 0x100810, 1, 0x4, 1, 0x4, 0x00000000#32, .no, .none,
    [⟨0, 8, .ro, .any⟩, ⟨8, 8, .ro, .any⟩, ⟨16, 8, .ro, .any⟩, ⟨24, 8, .ro, .any⟩]⟩,
  ⟨"KILN_BUR_REF_APPLY_CNT", 0x100814, 1, 0x4, 1, 0x4, 0x00000000#32, .no, .none,
    [⟨0, 32, .ro, .any⟩]⟩,
  ⟨"KILN_BUR_CNT_SAT", 0x100818, 1, 0x4, 1, 0x4, 0x00000000#32, .no, .none,
    [⟨0, 1, .w1c, .any⟩]⟩,
  ⟨"KILN_CTL", 0x100000, 1, 0x4, 1, 0x4, 0x00000000#32, .no, .none,
    [⟨0, 11, .rw, .clampSigned (-1000) 1000⟩]⟩,
  ⟨"KILN_RANGE_K", 0x100004, 1, 0x4, 1, 0x4, 0x00EFD57F#32, .no, .none,
    [⟨0, 24, .ro, .any⟩]⟩,
  ⟨"KILN_CLASS_ID", 0x100008, 1, 0x4, 1, 0x4, 0x00000000#32, .no, .none,
    [⟨0, 16, .ro, .any⟩]⟩]

/-- The register rows of block KILN. -/
def regRowsKILN : List RegRow := regRowsKILN0

def regRowsBLW0 : List RegRow := [
  ⟨"BLW_CTL", 0x0D0000, 1, 0x4, 1, 0x4, 0x000C0C3C#32, .no, .none,
    [⟨0, 1, .rw, .any⟩, ⟨1, 1, .rw, .any⟩, ⟨2, 2, .rw, .any⟩, ⟨4, 2, .rw, .any⟩, ⟨8, 5, .rw, .keep 8 16⟩, ⟨16, 5, .rw, .keep 8 16⟩]⟩,
  ⟨"BLW_STAT", 0x0D0004, 1, 0x4, 1, 0x4, 0x00000000#32, .no, .none,
    [⟨0, 5, .ro, .any⟩, ⟨8, 5, .ro, .any⟩, ⟨16, 1, .ro, .any⟩, ⟨17, 1, .ro, .any⟩, ⟨18, 1, .ro, .any⟩, ⟨19, 1, .ro, .any⟩, ⟨20, 1, .ro, .any⟩, ⟨21, 1, .ro, .any⟩]⟩,
  ⟨"BLW_E_REF_DLY", 0x0D0008, 1, 0x4, 1, 0x4, 0x00000000#32, .no, .none,
    [⟨0, 16, .ro, .any⟩, ⟨16, 16, .ro, .any⟩]⟩,
  ⟨"BLW_CODE_CHK", 0x0D000C, 1, 0x4, 1, 0x4, 0x00000000#32, .no, .none,
    [⟨0, 4, .ro, .any⟩, ⟨4, 1, .ro, .any⟩, ⟨5, 1, .ro, .any⟩, ⟨16, 16, .ro, .any⟩]⟩,
  ⟨"BLW_E_FE_MISS_CNT", 0x0D0010, 1, 0x4, 1, 0x4, 0x00000000#32, .no, .none,
    [⟨0, 32, .ro, .any⟩]⟩,
  ⟨"BLW_E_UNEXP_CNT", 0x0D0014, 1, 0x4, 1, 0x4, 0x00000000#32, .no, .none,
    [⟨0, 32, .ro, .any⟩]⟩,
  ⟨"BLW_E_RB_ERR_CNT", 0x0D0018, 1, 0x4, 1, 0x4, 0x00000000#32, .no, .none,
    [⟨0, 32, .ro, .any⟩]⟩,
  ⟨"BLW_L_RB_ERR_CNT", 0x0D001C, 1, 0x4, 1, 0x4, 0x00000000#32, .no, .none,
    [⟨0, 32, .ro, .any⟩]⟩,
  ⟨"BLW_CNT_SAT", 0x0D0020, 1, 0x4, 1, 0x4, 0x00000000#32, .no, .none,
    [⟨0, 4, .w1c, .any⟩]⟩,
  ⟨"BLW_E_DRV", 0x0D0040, 16, 0x4, 1, 0x4, 0x00000000#32, .no, .none,
    [⟨0, 16, .ro, .any⟩, ⟨16, 5, .ro, .any⟩, ⟨24, 1, .ro, .any⟩, ⟨25, 1, .ro, .any⟩, ⟨26, 1, .ro, .any⟩]⟩,
  ⟨"BLW_L_DRV", 0x0D0080, 16, 0x4, 1, 0x4, 0x00000000#32, .no, .none,
    [⟨0, 16, .ro, .any⟩, ⟨16, 5, .ro, .any⟩, ⟨24, 1, .ro, .any⟩, ⟨25, 1, .ro, .any⟩, ⟨26, 1, .ro, .any⟩]⟩,
  ⟨"BLW_SEG_STAT", 0x0D0400, 256, 0x4, 1, 0x4, 0x0000FF00#32, .no, .none,
    [⟨0, 3, .ro, .any⟩, ⟨8, 8, .ro, .any⟩, ⟨16, 8, .ro, .any⟩]⟩,
  ⟨"BLW_SEG_PULSES_LO", 0x0D0800, 256, 0x8, 1, 0x4, 0x00000000#32, .no, .lo,
    [⟨0, 32, .ro, .any⟩]⟩,
  ⟨"BLW_SEG_PULSES_HI", 0x0D0804, 256, 0x8, 1, 0x4, 0x00000000#32, .no, .hi,
    [⟨0, 32, .ro, .any⟩]⟩,
  ⟨"BLW_LAMP_STAT", 0x0D1000, 256, 0x4, 1, 0x4, 0x00000000#32, .no, .none,
    [⟨0, 3, .ro, .any⟩, ⟨3, 1, .ro, .any⟩, ⟨16, 16, .ro, .any⟩]⟩]

/-- The register rows of block BLW. -/
def regRowsBLW : List RegRow := regRowsBLW0

def regRowsTAP0 : List RegRow := [
  ⟨"TAP_CTL", 0x0C0000, 1, 0x4, 1, 0x4, 0x0000000B#32, .no, .none,
    [⟨0, 1, .rw, .any⟩, ⟨1, 2, .rw, .keep 0 2⟩, ⟨3, 1, .rw, .any⟩]⟩,
  ⟨"TAP_STAT", 0x0C0004, 1, 0x4, 1, 0x4, 0x00000000#32, .no, .none,
    [⟨0, 8, .ro, .any⟩, ⟨8, 8, .ro, .any⟩, ⟨16, 1, .ro, .any⟩]⟩,
  ⟨"TAP_EVT_STAT", 0x0C0008, 1, 0x4, 1, 0x4, 0x00000000#32, .no, .none,
    [⟨0, 8, .w1c, .any⟩, ⟨8, 8, .w1c, .any⟩, ⟨16, 8, .w1c, .any⟩, ⟨24, 8, .w1c, .any⟩]⟩,
  ⟨"TAP_WIN_LO", 0x0C0010, 1, 0x4, 1, 0x4, 0x00000000#32, .no, .lo,
    [⟨0, 32, .ro, .any⟩]⟩,
  ⟨"TAP_WIN_HI", 0x0C0014, 1, 0x4, 1, 0x4, 0x00000000#32, .no, .hi,
    [⟨0, 32, .ro, .any⟩]⟩,
  ⟨"TAP_UNSERVED_CNT", 0x0C0018, 1, 0x4, 1, 0x4, 0x00000000#32, .no, .none,
    [⟨0, 32, .ro, .any⟩]⟩,
  ⟨"TAP_WITHHELD_CNT", 0x0C001C, 1, 0x4, 1, 0x4, 0x00000000#32, .no, .none,
    [⟨0, 32, .ro, .any⟩]⟩,
  ⟨"TAP_CNT_SAT", 0x0C0020, 1, 0x4, 1, 0x4, 0x00000000#32, .no, .none,
    [⟨0, 3, .w1c, .any⟩]⟩,
  ⟨"TAP_REQ_ROWS", 0x0C0100, 16, 0x10, 1, 0x4, 0x00000000#32, .no, .none,
    [⟨0, 9, .rw, .any⟩, ⟨16, 9, .rw, .any⟩]⟩,
  ⟨"TAP_REQ_COLS", 0x0C0104, 16, 0x10, 1, 0x4, 0x00000000#32, .no, .none,
    [⟨0, 8, .rw, .any⟩, ⟨16, 8, .rw, .any⟩]⟩,
  ⟨"TAP_REQ_CFG", 0x0C0108, 16, 0x10, 1, 0x4, 0x00000000#32, .no, .none,
    [⟨0, 4, .rw, .any⟩, ⟨4, 2, .rw, .keep 0 2⟩, ⟨6, 5, .rw, .keep 0 16⟩, ⟨16, 16, .rw, .any⟩]⟩,
  ⟨"TAP_T_CAL_X1", 0x0C0400, 64, 0x20, 1, 0x4, 0x00008000#32, .no, .none,
    [⟨0, 16, .ro, .any⟩, ⟨16, 16, .ro, .any⟩]⟩,
  ⟨"TAP_T_CAL_X2", 0x0C0404, 64, 0x20, 1, 0x4, 0x00008000#32, .no, .none,
    [⟨0, 16, .ro, .any⟩, ⟨16, 16, .ro, .any⟩]⟩,
  ⟨"TAP_T_DELAY", 0x0C0408, 64, 0x20, 1, 0x4, 0x00000000#32, .no, .none,
    [⟨0, 16, .ro, .any⟩, ⟨16, 16, .ro, .any⟩]⟩,
  ⟨"TAP_T_OVF_CNT", 0x0C040C, 64, 0x20, 1, 0x4, 0x00000000#32, .no, .none,
    [⟨0, 32, .ro, .any⟩]⟩,
  ⟨"TAP_T_SKIP_CNT", 0x0C0410, 64, 0x20, 1, 0x4, 0x00000000#32, .no, .none,
    [⟨0, 32, .ro, .any⟩]⟩,
  ⟨"TAP_T_CLIP_CNT", 0x0C0414, 64, 0x20, 1, 0x4, 0x00000000#32, .no, .none,
    [⟨0, 32, .ro, .any⟩]⟩,
  ⟨"TAP_T_CNT_SAT", 0x0C0418, 64, 0x20, 1, 0x4, 0x00000000#32, .no, .none,
    [⟨0, 3, .w1c, .any⟩]⟩,
  ⟨"TAP_T_LAST", 0x0C041C, 64, 0x20, 1, 0x4, 0x00000000#32, .no, .none,
    [⟨0, 9, .ro, .any⟩, ⟨9, 1, .ro, .any⟩, ⟨16, 16, .ro, .any⟩]⟩]

/-- The register rows of block TAP. -/
def regRowsTAP : List RegRow := regRowsTAP0

def regRowsTURF0 : List RegRow := [
  ⟨"TURF_CTL", 0x0F0000, 1, 0x4, 1, 0x4, 0x00000001#32, .no, .none,
    [⟨0, 1, .rw, .any⟩, ⟨1, 1, .rw, .any⟩]⟩,
  ⟨"TURF_STAT", 0x0F0004, 1, 0x4, 1, 0x4, 0x00000000#32, .no, .none,
    [⟨0, 8, .ro, .any⟩, ⟨8, 1, .ro, .any⟩, ⟨9, 1, .ro, .any⟩, ⟨10, 1, .ro, .any⟩]⟩,
  ⟨"TURF_BANK_ON", 0x0F0008, 1, 0x4, 1, 0x4, 0x00000000#32, .no, .none,
    [⟨0, 16, .ro, .any⟩]⟩,
  ⟨"TURF_LATE_CNT", 0x0F0010, 1, 0x4, 1, 0x4, 0x00000000#32, .no, .none,
    [⟨0, 32, .ro, .any⟩]⟩,
  ⟨"TURF_STALE_CNT", 0x0F0014, 1, 0x4, 1, 0x4, 0x00000000#32, .no, .none,
    [⟨0, 32, .ro, .any⟩]⟩,
  ⟨"TURF_ASHSAT_CNT", 0x0F0018, 1, 0x4, 1, 0x4, 0x00000000#32, .no, .none,
    [⟨0, 32, .ro, .any⟩]⟩,
  ⟨"TURF_UE_CNT", 0x0F001C, 1, 0x4, 1, 0x4, 0x00000000#32, .no, .none,
    [⟨0, 32, .ro, .any⟩]⟩,
  ⟨"TURF_CNT_SAT", 0x0F0020, 1, 0x4, 1, 0x4, 0x00000000#32, .no, .none,
    [⟨0, 6, .w1c, .any⟩]⟩,
  ⟨"TURF_UPD_LO", 0x0F0028, 1, 0x4, 1, 0x4, 0x00000000#32, .no, .lo,
    [⟨0, 32, .ro, .any⟩]⟩,
  ⟨"TURF_UPD_HI", 0x0F002C, 1, 0x4, 1, 0x4, 0x00000000#32, .no, .hi,
    [⟨0, 32, .ro, .any⟩]⟩,
  ⟨"TURF_ACQ_LO", 0x0F0030, 1, 0x4, 1, 0x4, 0x00000000#32, .no, .lo,
    [⟨0, 32, .ro, .any⟩]⟩,
  ⟨"TURF_ACQ_HI", 0x0F0034, 1, 0x4, 1, 0x4, 0x00000000#32, .no, .hi,
    [⟨0, 32, .ro, .any⟩]⟩,
  ⟨"TURF_RD_IDX", 0x0F0040, 1, 0x4, 1, 0x4, 0x00000000#32, .no, .none,
    [⟨0, 17, .rw, .any⟩]⟩,
  ⟨"TURF_RD_STAT", 0x0F0044, 1, 0x4, 1, 0x4, 0x00000000#32, .no, .none,
    [⟨0, 1, .ro, .any⟩, ⟨1, 1, .ro, .any⟩, ⟨8, 8, .ro, .any⟩]⟩,
  ⟨"TURF_RD_DATA", 0x0F0080, 12, 0x4, 1, 0x4, 0x00000000#32, .no, .none,
    [⟨0, 32, .ro, .any⟩]⟩,
  ⟨"TURF_ROW_ASH", 0x0F0800, 512, 0x4, 1, 0x4, 0x00000000#32, .no, .none,
    [⟨0, 16, .ro, .any⟩, ⟨16, 1, .ro, .any⟩]⟩]

/-- The register rows of block TURF. -/
def regRowsTURF : List RegRow := regRowsTURF0

def regRowsSCN0 : List RegRow := [
  ⟨"SCN_CTL", 0x0E0000, 1, 0x4, 1, 0x4, 0x00000003#32, .no, .none,
    [⟨0, 1, .rw, .any⟩, ⟨1, 1, .rw, .any⟩]⟩,
  ⟨"SCN_STAT", 0x0E0004, 1, 0x4, 1, 0x4, 0x00000000#32, .no, .none,
    [⟨0, 3, .ro, .any⟩, ⟨3, 1, .ro, .any⟩, ⟨4, 1, .ro, .any⟩, ⟨5, 1, .ro, .any⟩, ⟨6, 1, .ro, .any⟩, ⟨8, 3, .ro, .any⟩, ⟨16, 16, .ro, .any⟩]⟩,
  ⟨"SCN_EVT", 0x0E0008, 1, 0x4, 1, 0x4, 0x00000000#32, .no, .none,
    [⟨0, 1, .w1c, .any⟩, ⟨1, 1, .w1c, .any⟩, ⟨2, 1, .w1c, .any⟩, ⟨3, 1, .w1c, .any⟩, ⟨4, 1, .w1c, .any⟩, ⟨5, 1, .w1c, .any⟩, ⟨6, 1, .w1c, .any⟩, ⟨7, 1, .w1c, .any⟩, ⟨8, 1, .w1c, .any⟩, ⟨9, 1, .w1c, .any⟩, ⟨10, 1, .w1c, .any⟩, ⟨11, 1, .w1c, .any⟩]⟩,
  ⟨"SCN_MIR_EXP", 0x0E000C, 1, 0x4, 1, 0x4, 0x00000000#32, .no, .none,
    [⟨0, 6, .ro, .any⟩, ⟨6, 6, .ro, .any⟩, ⟨12, 6, .ro, .any⟩, ⟨18, 6, .ro, .any⟩, ⟨24, 6, .ro, .any⟩]⟩,
  ⟨"SCN_MIR_LAT", 0x0E0010, 1, 0x4, 1, 0x4, 0x00000000#32, .no, .none,
    [⟨0, 16, .ro, .any⟩, ⟨16, 16, .rc, .any⟩]⟩,
  ⟨"SCN_MIR_ERR", 0x0E0014, 1, 0x4, 1, 0x4, 0x00000000#32, .no, .none,
    [⟨0, 16, .ro, .any⟩, ⟨16, 16, .ro, .any⟩]⟩,
  ⟨"SCN_MIR_DAC", 0x0E0018, 1, 0x4, 1, 0x4, 0x80008000#32, .no, .none,
    [⟨0, 16, .ro, .any⟩, ⟨16, 16, .ro, .any⟩]⟩,
  ⟨"SCN_LAG", 0x0E001C, 1, 0x4, 1, 0x4, 0x00000000#32, .no, .none,
    [⟨0, 16, .ro, .any⟩, ⟨16, 16, .ro, .any⟩]⟩,
  ⟨"SCN_SOFT_E", 0x0E0020, 1, 0x4, 1, 0x4, 0x00000000#32, .no, .none,
    [⟨0, 24, .ro, .any⟩, ⟨24, 6, .ro, .any⟩]⟩,
  ⟨"SCN_OVERRUN_CNT", 0x0E0030, 1, 0x4, 1, 0x4, 0x00000000#32, .no, .none,
    [⟨0, 32, .ro, .any⟩]⟩,
  ⟨"SCN_TRACK_SKIP_CNT", 0x0E0034, 1, 0x4, 1, 0x4, 0x00000000#32, .no, .none,
    [⟨0, 32, .ro, .any⟩]⟩,
  ⟨"SCN_SOFT_CNT", 0x0E0038, 1, 0x4, 1, 0x4, 0x00000000#32, .no, .none,
    [⟨0, 32, .ro, .any⟩]⟩,
  ⟨"SCN_DAMP_CUT_CNT", 0x0E003C, 1, 0x4, 1, 0x4, 0x00000000#32, .no, .none,
    [⟨0, 32, .ro, .any⟩]⟩,
  ⟨"SCN_MFAULT_CNT", 0x0E0040, 1, 0x4, 1, 0x4, 0x00000000#32, .no, .none,
    [⟨0, 32, .ro, .any⟩]⟩,
  ⟨"SCN_CNT_SAT", 0x0E0044, 1, 0x4, 1, 0x4, 0x00000000#32, .no, .none,
    [⟨0, 5, .w1c, .any⟩]⟩,
  ⟨"SCN_COL_PLAN", 0x0E0100, 256, 0x4, 1, 0x4, 0x00000000#32, .no, .none,
    [⟨0, 16, .ro, .any⟩, ⟨16, 8, .ro, .any⟩]⟩]

/-- The register rows of block SCN. -/
def regRowsSCN : List RegRow := regRowsSCN0

def regRowsING0 : List RegRow := [
  ⟨"ING_CTL", 0x110000, 1, 0x4, 1, 0x4, 0x03E80030#32, .no, .none,
    [⟨0, 6, .rw, .clamp 1 48⟩, ⟨6, 1, .rw, .any⟩, ⟨16, 13, .rw, .keep 50 6000⟩]⟩,
  ⟨"ING_STAT", 0x110004, 1, 0x4, 1, 0x4, 0x00000000#32, .no, .none,
    [⟨0, 10, .ro, .any⟩, ⟨10, 1, .ro, .any⟩, ⟨11, 1, .ro, .any⟩]⟩,
  ⟨"ING_EVT", 0x110008, 1, 0x4, 1, 0x4, 0x00000000#32, .no, .none,
    [⟨0, 1, .w1c, .any⟩, ⟨1, 1, .w1c, .any⟩, ⟨2, 1, .w1c, .any⟩, ⟨3, 1, .w1c, .any⟩, ⟨4, 1, .w1c, .any⟩]⟩,
  ⟨"ING_SEQ", 0x11000C, 1, 0x4, 1, 0x4, 0x00000000#32, .no, .none,
    [⟨0, 32, .ro, .any⟩]⟩,
  ⟨"ING_REC_LO", 0x110010, 1, 0x4, 1, 0x4, 0x00000000#32, .no, .lo,
    [⟨0, 32, .ro, .any⟩]⟩,
  ⟨"ING_REC_HI", 0x110014, 1, 0x4, 1, 0x4, 0x00000000#32, .no, .hi,
    [⟨0, 32, .ro, .any⟩]⟩,
  ⟨"ING_DROP_FULL_LO", 0x110018, 1, 0x4, 1, 0x4, 0x00000000#32, .no, .lo,
    [⟨0, 32, .ro, .any⟩]⟩,
  ⟨"ING_DROP_FULL_HI", 0x11001C, 1, 0x4, 1, 0x4, 0x00000000#32, .no, .hi,
    [⟨0, 32, .ro, .any⟩]⟩,
  ⟨"ING_DROP_BUDGET_LO", 0x110020, 1, 0x4, 1, 0x4, 0x00000000#32, .no, .lo,
    [⟨0, 32, .ro, .any⟩]⟩,
  ⟨"ING_DROP_BUDGET_HI", 0x110024, 1, 0x4, 1, 0x4, 0x00000000#32, .no, .hi,
    [⟨0, 32, .ro, .any⟩]⟩,
  ⟨"ING_HIST_DROP_CNT", 0x110028, 1, 0x4, 1, 0x4, 0x00000000#32, .no, .none,
    [⟨0, 32, .ro, .any⟩]⟩,
  ⟨"ING_INCOMPLETE_CNT", 0x11002C, 1, 0x4, 1, 0x4, 0x00000000#32, .no, .none,
    [⟨0, 32, .ro, .any⟩]⟩,
  ⟨"ING_CNT_SAT", 0x110030, 1, 0x4, 1, 0x4, 0x00000000#32, .no, .none,
    [⟨0, 5, .w1c, .any⟩]⟩,
  ⟨"ING_HIST_ROWS", 0x110040, 1, 0x4, 1, 0x4, 0x00000000#32, .no, .none,
    [⟨0, 9, .rw, .any⟩, ⟨16, 9, .rw, .any⟩]⟩,
  ⟨"ING_HIST_COLS", 0x110044, 1, 0x4, 1, 0x4, 0x00000000#32, .no, .none,
    [⟨0, 8, .rw, .any⟩, ⟨16, 8, .rw, .any⟩]⟩,
  ⟨"ING_HIST_CFG", 0x110048, 1, 0x4, 1, 0x4, 0x00000000#32, .no, .none,
    [⟨0, 8, .rw, .any⟩]⟩,
  ⟨"ING_S_CTL", 0x110100, 3, 0x40, 1, 0x4, 0x00000000#32, .no, .none,
    [⟨0, 1, .rw, .any⟩, ⟨16, 16, .rw, .any⟩]⟩,
  ⟨"ING_S_STAT", 0x110104, 3, 0x40, 1, 0x4, 0x00000000#32, .no, .none,
    [⟨0, 1, .ro, .any⟩, ⟨1, 1, .ro, .any⟩, ⟨2, 1, .ro, .any⟩, ⟨3, 1, .ro, .any⟩, ⟨4, 1, .ro, .any⟩]⟩,
  ⟨"ING_S_BASE_LO", 0x110108, 3, 0x40, 1, 0x4, 0x00000000#32, .no, .lo,
    [⟨0, 32, .rw, .any⟩]⟩,
  ⟨"ING_S_BASE_HI", 0x11010C, 3, 0x40, 1, 0x4, 0x00000000#32, .no, .hi,
    [⟨0, 32, .rw, .any⟩]⟩,
  ⟨"ING_S_SIZE", 0x110110, 3, 0x40, 1, 0x4, 0x00000000#32, .no, .none,
    [⟨0, 32, .rw, .any⟩]⟩,
  ⟨"ING_S_WR", 0x110114, 3, 0x40, 1, 0x4, 0x00000000#32, .no, .none,
    [⟨0, 32, .ro, .any⟩]⟩,
  ⟨"ING_S_RD", 0x110118, 3, 0x40, 1, 0x4, 0x00000000#32, .no, .none,
    [⟨0, 32, .rw, .any⟩]⟩,
  ⟨"ING_S_INC", 0x11011C, 3, 0x40, 1, 0x4, 0x00000000#32, .no, .none,
    [⟨0, 32, .ro, .any⟩]⟩]

/-- The register rows of block ING. -/
def regRowsING : List RegRow := regRowsING0

def regRowsPEER0 : List RegRow := [
  ⟨"PEER_CTL", 0x120000, 1, 0x4, 1, 0x4, 0x00000000#32, .no, .none,
    [⟨0, 1, .rw, .any⟩, ⟨1, 1, .rw, .any⟩, ⟨2, 2, .rw, .any⟩, ⟨4, 1, .rw, .any⟩]⟩,
  ⟨"PEER_STAT", 0x120004, 1, 0x4, 1, 0x4, 0x00000000#32, .no, .none,
    [⟨0, 1, .ro, .any⟩, ⟨1, 1, .ro, .any⟩, ⟨2, 1, .ro, .any⟩, ⟨3, 1, .ro, .any⟩, ⟨4, 5, .ro, .any⟩, ⟨12, 4, .ro, .any⟩, ⟨16, 4, .ro, .any⟩, ⟨20, 1, .ro, .any⟩]⟩,
  ⟨"PEER_EVT", 0x120008, 1, 0x4, 1, 0x4, 0x00000000#32, .no, .none,
    [⟨0, 1, .w1c, .any⟩, ⟨1, 1, .w1c, .any⟩, ⟨2, 1, .w1c, .any⟩, ⟨3, 1, .w1c, .any⟩]⟩,
  ⟨"PEER_ID_LO", 0x120010, 1, 0x4, 1, 0x4, 0x00000000#32, .no, .lo,
    [⟨0, 32, .ro, .any⟩]⟩,
  ⟨"PEER_ID_HI", 0x120014, 1, 0x4, 1, 0x4, 0x00000000#32, .no, .hi,
    [⟨0, 32, .ro, .any⟩]⟩,
  ⟨"PEER_DOMAIN", 0x120018, 1, 0x4, 1, 0x4, 0x00000000#32, .no, .none,
    [⟨0, 16, .ro, .any⟩, ⟨16, 16, .ro, .any⟩]⟩,
  ⟨"PEER_OFFSET", 0x120020, 1, 0x4, 1, 0x4, 0x00000000#32, .no, .none,
    [⟨0, 32, .ro, .any⟩]⟩,
  ⟨"PEER_DELAY", 0x120024, 1, 0x4, 1, 0x4, 0x00000000#32, .no, .none,
    [⟨0, 32, .ro, .any⟩]⟩,
  ⟨"PEER_CRC_ERR_CNT", 0x120030, 1, 0x4, 1, 0x4, 0x00000000#32, .no, .none,
    [⟨0, 32, .ro, .any⟩]⟩,
  ⟨"PEER_LOSS_CNT", 0x120034, 1, 0x4, 1, 0x4, 0x00000000#32, .no, .none,
    [⟨0, 32, .ro, .any⟩]⟩,
  ⟨"PEER_MEMBER_CHG_CNT", 0x120038, 1, 0x4, 1, 0x4, 0x00000000#32, .no, .none,
    [⟨0, 32, .ro, .any⟩]⟩,
  ⟨"PEER_CNT_SAT", 0x12003C, 1, 0x4, 1, 0x4, 0x00000000#32, .no, .none,
    [⟨0, 3, .w1c, .any⟩]⟩,
  ⟨"PEER_LANE_STAT", 0x120100, 4, 0x10, 1, 0x4, 0x001F1F00#32, .no, .none,
    [⟨0, 2, .ro, .any⟩, ⟨2, 2, .ro, .any⟩, ⟨4, 1, .ro, .any⟩, ⟨8, 5, .ro, .any⟩, ⟨16, 5, .ro, .any⟩]⟩,
  ⟨"PEER_MEM_ID_LO", 0x120200, 16, 0x10, 1, 0x4, 0x00000000#32, .no, .lo,
    [⟨0, 32, .ro, .any⟩]⟩,
  ⟨"PEER_MEM_ID_HI", 0x120204, 16, 0x10, 1, 0x4, 0x00000000#32, .no, .hi,
    [⟨0, 32, .ro, .any⟩]⟩,
  ⟨"PEER_MEM_STAT", 0x120208, 16, 0x10, 1, 0x4, 0x00000000#32, .no, .none,
    [⟨0, 2, .ro, .any⟩, ⟨2, 1, .ro, .any⟩, ⟨3, 1, .ro, .any⟩, ⟨4, 4, .ro, .any⟩, ⟨8, 4, .ro, .any⟩]⟩,
  ⟨"PEER_XDROP_CNT", 0x120040, 1, 0x4, 1, 0x4, 0x00000000#32, .warm, .none,
    [⟨0, 32, .ro, .any⟩]⟩,
  ⟨"PEER_XDROP_SAT", 0x120044, 1, 0x4, 1, 0x4, 0x00000000#32, .warm, .none,
    [⟨0, 1, .w1c, .any⟩]⟩]

/-- The register rows of block PEER. -/
def regRowsPEER : List RegRow := regRowsPEER0

def regRowsSAFE0 : List RegRow := [
  ⟨"SAFE_STAT", 0x130000, 1, 0x4, 1, 0x4, 0x00000000#32, .no, .none,
    [⟨0, 1, .ro, .any⟩, ⟨1, 1, .ro, .any⟩, ⟨2, 1, .ro, .any⟩, ⟨4, 2, .ro, .any⟩, ⟨8, 3, .ro, .any⟩, ⟨11, 1, .ro, .any⟩, ⟨12, 1, .ro, .any⟩]⟩,
  ⟨"SAFE_CAUSE", 0x130004, 1, 0x4, 1, 0x4, 0x001F0000#32, .no, .none,
    [⟨0, 13, .ro, .any⟩, ⟨16, 5, .ro, .any⟩]⟩,
  ⟨"SAFE_EVT", 0x130008, 1, 0x4, 1, 0x4, 0x00000000#32, .no, .none,
    [⟨0, 1, .w1c, .any⟩, ⟨1, 1, .w1c, .any⟩, ⟨2, 1, .w1c, .any⟩, ⟨3, 1, .w1c, .any⟩, ⟨4, 1, .w1c, .any⟩, ⟨5, 1, .w1c, .any⟩, ⟨6, 1, .w1c, .any⟩, ⟨7, 1, .w1c, .any⟩, ⟨8, 1, .w1c, .any⟩, ⟨9, 1, .w1c, .any⟩, ⟨10, 1, .w1c, .any⟩]⟩,
  ⟨"SAFE_IN", 0x13000C, 1, 0x4, 1, 0x4, 0x00000000#32, .no, .none,
    [⟨0, 2, .ro, .any⟩, ⟨2, 2, .ro, .any⟩, ⟨4, 4, .ro, .any⟩, ⟨8, 4, .ro, .any⟩]⟩,
  ⟨"SAFE_CHECK", 0x130010, 1, 0x4, 1, 0x4, 0x00000000#32, .no, .none,
    [⟨0, 32, .ro, .any⟩]⟩,
  ⟨"SAFE_CHECK_LIVE", 0x130014, 1, 0x4, 1, 0x4, 0x00000000#32, .no, .none,
    [⟨0, 32, .ro, .any⟩]⟩,
  ⟨"SAFE_WIN", 0x130018, 1, 0x4, 1, 0x4, 0x00000000#32, .no, .none,
    [⟨0, 19, .ro, .any⟩, ⟨24, 6, .ro, .any⟩]⟩,
  ⟨"SAFE_E_BUDGET", 0x13001C, 1, 0x4, 1, 0x4, 0x00000000#32, .no, .none,
    [⟨0, 24, .ro, .any⟩]⟩,
  ⟨"SAFE_MOTION", 0x130020, 1, 0x4, 1, 0x4, 0x00000000#32, .no, .none,
    [⟨0, 2, .ro, .any⟩, ⟨8, 16, .ro, .any⟩]⟩,
  ⟨"SAFE_TEST_A", 0x130024, 1, 0x4, 1, 0x4, 0x00000000#32, .no, .none,
    [⟨0, 16, .ro, .any⟩, ⟨16, 16, .ro, .any⟩]⟩,
  ⟨"SAFE_TEST_B", 0x130028, 1, 0x4, 1, 0x4, 0x00000000#32, .no, .none,
    [⟨0, 16, .ro, .any⟩, ⟨16, 16, .ro, .any⟩]⟩,
  ⟨"SAFE_B_FRAME", 0x13002C, 1, 0x4, 1, 0x4, 0x00000000#32, .no, .none,
    [⟨0, 32, .ro, .any⟩]⟩,
  ⟨"SAFE_B_LAST", 0x130030, 1, 0x4, 1, 0x4, 0x00000000#32, .no, .none,
    [⟨0, 16, .ro, .any⟩, ⟨16, 16, .ro, .any⟩]⟩,
  ⟨"SAFE_QUENCH_CNT", 0x130040, 1, 0x4, 1, 0x4, 0x00000000#32, .no, .none,
    [⟨0, 32, .ro, .any⟩]⟩,
  ⟨"SAFE_INFR_CNT", 0x130044, 1, 0x4, 1, 0x4, 0x00000000#32, .no, .none,
    [⟨0, 32, .ro, .any⟩]⟩,
  ⟨"SAFE_TEST_FAIL_CNT", 0x130048, 1, 0x4, 1, 0x4, 0x00000000#32, .no, .none,
    [⟨0, 32, .ro, .any⟩]⟩,
  ⟨"SAFE_RESTART_CNT", 0x13004C, 1, 0x4, 1, 0x4, 0x00000000#32, .no, .none,
    [⟨0, 32, .ro, .any⟩]⟩,
  ⟨"SAFE_VETO_CNT", 0x130050, 1, 0x4, 1, 0x4, 0x00000000#32, .no, .none,
    [⟨0, 32, .ro, .any⟩]⟩,
  ⟨"SAFE_CNT_SAT", 0x130054, 1, 0x4, 1, 0x4, 0x00000000#32, .no, .none,
    [⟨0, 5, .w1c, .any⟩]⟩,
  ⟨"SAFE_LOCK_TIME_LO", 0x130058, 1, 0x4, 1, 0x4, 0x00000000#32, .no, .lo,
    [⟨0, 32, .ro, .any⟩]⟩,
  ⟨"SAFE_LOCK_TIME_HI", 0x13005C, 1, 0x4, 1, 0x4, 0x00000000#32, .no, .hi,
    [⟨0, 32, .ro, .any⟩]⟩,
  ⟨"SAFE_XDROP_CNT", 0x130060, 1, 0x4, 1, 0x4, 0x00000000#32, .warm, .none,
    [⟨0, 32, .ro, .any⟩]⟩,
  ⟨"SAFE_XDROP_SAT", 0x130064, 1, 0x4, 1, 0x4, 0x00000000#32, .warm, .none,
    [⟨0, 1, .w1c, .any⟩]⟩]

/-- The register rows of block SAFE. -/
def regRowsSAFE : List RegRow := regRowsSAFE0

def regRowsCMDQ0 : List RegRow := [
  ⟨"CMDQ_STAT", 0x020000, 1, 0x4, 1, 0x4, 0x00000000#32, .no, .none,
    [⟨0, 1, .ro, .any⟩, ⟨1, 1, .ro, .any⟩, ⟨2, 1, .ro, .any⟩, ⟨8, 7, .ro, .any⟩]⟩,
  ⟨"CMDQ_DECLARE", 0x020004, 1, 0x4, 1, 0x4, 0x00000000#32, .no, .none,
    [⟨0, 32, .wo, .any⟩]⟩,
  ⟨"CMDQ_ACK_MISS_CNT", 0x020010, 1, 0x4, 1, 0x4, 0x00000000#32, .no, .none,
    [⟨0, 32, .ro, .any⟩]⟩,
  ⟨"CMDQ_FMT_ERR_CNT", 0x020014, 1, 0x4, 1, 0x4, 0x00000000#32, .no, .none,
    [⟨0, 32, .ro, .any⟩]⟩,
  ⟨"CMDQ_DB_ERR_CNT", 0x020018, 1, 0x4, 1, 0x4, 0x00000000#32, .no, .none,
    [⟨0, 32, .ro, .any⟩]⟩,
  ⟨"CMDQ_DECL_CNT", 0x02001C, 1, 0x4, 1, 0x4, 0x00000000#32, .no, .none,
    [⟨0, 32, .ro, .any⟩]⟩,
  ⟨"CMDQ_CNT_SAT", 0x020020, 1, 0x4, 1, 0x4, 0x00000000#32, .no, .none,
    [⟨0, 4, .w1c, .any⟩]⟩,
  ⟨"CMDQ_Q_CTL", 0x020100, 16, 0x20, 1, 0x4, 0x00009800#32, .no, .none,
    [⟨0, 1, .rw, .any⟩, ⟨1, 1, .rw, .any⟩, ⟨8, 4, .rw, .keep 4 12⟩, ⟨12, 4, .rw, .keep 4 13⟩]⟩,
  ⟨"CMDQ_Q_STAT", 0x020104, 16, 0x20, 1, 0x4, 0x00000000#32, .no, .none,
    [⟨0, 1, .ro, .any⟩, ⟨1, 1, .ro, .any⟩, ⟨2, 1, .ro, .any⟩, ⟨8, 4, .ro, .any⟩]⟩,
  ⟨"CMDQ_Q_EVT", 0x020108, 16, 0x20, 1, 0x4, 0x00000000#32, .no, .none,
    [⟨0, 1, .w1c, .any⟩, ⟨1, 1, .w1c, .any⟩, ⟨2, 1, .w1c, .any⟩]⟩,
  ⟨"CMDQ_Q_ACK_LAT", 0x02010C, 16, 0x20, 1, 0x4, 0x00000000#32, .no, .none,
    [⟨0, 16, .ro, .any⟩, ⟨16, 16, .rc, .any⟩]⟩,
  ⟨"CMDQ_Q_SQ_BASE_LO", 0x020110, 16, 0x20, 1, 0x4, 0x00000000#32, .no, .lo,
    [⟨0, 32, .rw, .any⟩]⟩,
  ⟨"CMDQ_Q_SQ_BASE_HI", 0x020114, 16, 0x20, 1, 0x4, 0x00000000#32, .no, .hi,
    [⟨0, 32, .rw, .any⟩]⟩,
  ⟨"CMDQ_Q_CQ_BASE_LO", 0x020118, 16, 0x20, 1, 0x4, 0x00000000#32, .no, .lo,
    [⟨0, 32, .rw, .any⟩]⟩,
  ⟨"CMDQ_Q_CQ_BASE_HI", 0x02011C, 16, 0x20, 1, 0x4, 0x00000000#32, .no, .hi,
    [⟨0, 32, .rw, .any⟩]⟩,
  ⟨"CMDQ_XDROP_CNT", 0x020024, 1, 0x4, 1, 0x4, 0x00000000#32, .warm, .none,
    [⟨0, 32, .ro, .any⟩]⟩,
  ⟨"CMDQ_XDROP_SAT", 0x020028, 1, 0x4, 1, 0x4, 0x00000000#32, .warm, .none,
    [⟨0, 1, .w1c, .any⟩]⟩]

/-- The register rows of block CMDQ. -/
def regRowsCMDQ : List RegRow := regRowsCMDQ0

def regRowsGLB0 : List RegRow := [
  ⟨"GLB_CFG_STAT", 0x000100, 1, 0x4, 1, 0x4, 0x00000000#32, .no, .none,
    [⟨0, 4, .ro, .any⟩, ⟨4, 1, .ro, .any⟩, ⟨5, 1, .ro, .any⟩, ⟨6, 1, .ro, .any⟩, ⟨8, 4, .ro, .any⟩, ⟨16, 5, .ro, .any⟩]⟩,
  ⟨"GLB_CFG_EVT", 0x000104, 1, 0x4, 1, 0x4, 0x00000000#32, .no, .none,
    [⟨0, 1, .w1c, .any⟩, ⟨1, 1, .w1c, .any⟩, ⟨2, 1, .w1c, .any⟩]⟩,
  ⟨"GLB_STORE_INFO", 0x000108, 1, 0x4, 1, 0x4, 0x00000000#32, .no, .none,
    [⟨0, 16, .ro, .any⟩, ⟨16, 1, .ro, .any⟩]⟩,
  ⟨"GLB_STORE_FREE", 0x00010C, 1, 0x4, 1, 0x4, 0x00000000#32, .no, .none,
    [⟨0, 16, .ro, .any⟩, ⟨16, 16, .ro, .any⟩]⟩,
  ⟨"GLB_STORE_ERASE_MAX", 0x000110, 1, 0x4, 1, 0x4, 0x00000000#32, .no, .none,
    [⟨0, 32, .ro, .any⟩]⟩,
  ⟨"GLB_STORE_ERASE_MIN", 0x000114, 1, 0x4, 1, 0x4, 0x00000000#32, .no, .none,
    [⟨0, 32, .ro, .any⟩]⟩,
  ⟨"GLB_CFG_APPLY_CNT", 0x000120, 1, 0x4, 1, 0x4, 0x00000000#32, .no, .none,
    [⟨0, 32, .ro, .any⟩]⟩,
  ⟨"GLB_CFG_REFUSE_CNT", 0x000124, 1, 0x4, 1, 0x4, 0x00000000#32, .no, .none,
    [⟨0, 32, .ro, .any⟩]⟩,
  ⟨"GLB_STORE_COMMIT_CNT", 0x000128, 1, 0x4, 1, 0x4, 0x00000000#32, .no, .none,
    [⟨0, 32, .ro, .any⟩]⟩,
  ⟨"GLB_STORE_CRC_ERR_CNT", 0x00012C, 1, 0x4, 1, 0x4, 0x00000000#32, .no, .none,
    [⟨0, 32, .ro, .any⟩]⟩,
  ⟨"GLB_CFG_CNT_SAT", 0x000130, 1, 0x4, 1, 0x4, 0x00000000#32, .no, .none,
    [⟨0, 4, .w1c, .any⟩]⟩,
  ⟨"GLB_STORE_GEN", 0x000140, 19, 0x4, 1, 0x4, 0x00000000#32, .no, .none,
    [⟨0, 32, .ro, .any⟩]⟩,
  ⟨"GLB_IDENT", 0x000000, 1, 0x4, 1, 0x4, 0x57512002#32, .no, .none,
    [⟨0, 8, .ro, .any⟩, ⟨8, 16, .ro, .any⟩, ⟨24, 8, .ro, .any⟩]⟩,
  ⟨"GLB_CTL", 0x000004, 1, 0x4, 1, 0x4, 0x00000000#32, .no, .none,
    [⟨0, 1, .rw, .any⟩]⟩,
  ⟨"GLB_STAT", 0x000008, 1, 0x4, 1, 0x4, 0x00000000#32, .no, .none,
    [⟨0, 1, .ro, .any⟩, ⟨1, 1, .ro, .any⟩, ⟨2, 1, .ro, .any⟩, ⟨3, 1, .ro, .any⟩, ⟨4, 1, .ro, .any⟩]⟩,
  ⟨"GLB_HOST", 0x000010, 1, 0x4, 1, 0x4, 0x00000000#32, .no, .none,
    [⟨0, 1, .ro, .any⟩, ⟨1, 3, .ro, .any⟩, ⟨4, 5, .ro, .any⟩, ⟨9, 1, .ro, .any⟩]⟩,
  ⟨"GLB_APERTURE", 0x000014, 1, 0x4, 1, 0x4, 0x00000000#32, .no, .none,
    [⟨0, 8, .rw, .any⟩]⟩,
  ⟨"GLB_BAD_ACCESS_CNT", 0x000020, 1, 0x4, 1, 0x4, 0x00000000#32, .no, .none,
    [⟨0, 32, .ro, .any⟩]⟩,
  ⟨"GLB_BAD_VALUE_CNT", 0x000024, 1, 0x4, 1, 0x4, 0x00000000#32, .no, .none,
    [⟨0, 32, .ro, .any⟩]⟩,
  ⟨"GLB_CNT_SAT", 0x000028, 1, 0x4, 1, 0x4, 0x00000000#32, .no, .none,
    [⟨0, 2, .w1c, .any⟩]⟩,
  ⟨"GLB_SCRATCH", 0x000030, 1, 0x4, 1, 0x4, 0x00000000#32, .no, .none,
    [⟨0, 32, .rw, .any⟩]⟩,
  ⟨"GLB_ENG_STAT", 0x000200, 64, 0x4, 1, 0x4, 0x00000000#32, .no, .none,
    [⟨0, 2, .ro, .any⟩, ⟨2, 1, .ro, .any⟩, ⟨8, 8, .ro, .any⟩]⟩]

/-- The register rows of block GLB. -/
def regRowsGLB : List RegRow := regRowsGLB0

def regRowsMEM0 : List RegRow := [
  ⟨"MEM_CTL", 0x140000, 1, 0x4, 1, 0x4, 0x00180001#32, .no, .none,
    [⟨0, 1, .rw, .any⟩, ⟨16, 10, .rw, .clamp 1 720⟩]⟩,
  ⟨"MEM_STAT", 0x140004, 1, 0x4, 1, 0x4, 0x00000000#32, .no, .none,
    [⟨0, 1, .ro, .any⟩, ⟨1, 1, .ro, .any⟩, ⟨2, 1, .ro, .any⟩, ⟨3, 1, .ro, .any⟩, ⟨4, 4, .ro, .any⟩, ⟨8, 1, .ro, .any⟩, ⟨9, 1, .ro, .any⟩, ⟨10, 1, .ro, .any⟩, ⟨11, 2, .ro, .any⟩, ⟨13, 1, .ro, .any⟩]⟩,
  ⟨"MEM_EVT", 0x140008, 1, 0x4, 1, 0x4, 0x00000000#32, .no, .none,
    [⟨0, 1, .w1c, .any⟩, ⟨1, 1, .w1c, .any⟩, ⟨2, 1, .w1c, .any⟩, ⟨3, 1, .w1c, .any⟩, ⟨4, 1, .w1c, .any⟩]⟩,
  ⟨"MEM_PATROL", 0x14000C, 1, 0x4, 1, 0x4, 0x00000000#32, .no, .none,
    [⟨0, 16, .ro, .any⟩, ⟨16, 16, .ro, .any⟩]⟩,
  ⟨"MEM_DMA_STAT", 0x140010, 1, 0x4, 1, 0x4, 0x00000000#32, .no, .none,
    [⟨0, 8, .w1c, .any⟩]⟩,
  ⟨"MEM_WMB_STAT", 0x140014, 1, 0x4, 1, 0x4, 0x00000000#32, .no, .none,
    [⟨0, 14, .ro, .any⟩, ⟨14, 1, .ro, .any⟩]⟩,
  ⟨"MEM_UE_ADDR_LO", 0x140018, 1, 0x4, 1, 0x4, 0x00000000#32, .no, .lo,
    [⟨0, 32, .ro, .any⟩]⟩,
  ⟨"MEM_UE_ADDR_HI", 0x14001C, 1, 0x4, 1, 0x4, 0x00000000#32, .no, .hi,
    [⟨0, 32, .ro, .any⟩]⟩,
  ⟨"MEM_CE_CNT", 0x140020, 1, 0x4, 1, 0x4, 0x00000000#32, .no, .none,
    [⟨0, 32, .ro, .any⟩]⟩,
  ⟨"MEM_UE_CNT", 0x140024, 1, 0x4, 1, 0x4, 0x00000000#32, .no, .none,
    [⟨0, 32, .ro, .any⟩]⟩,
  ⟨"MEM_SRAM_CE_CNT", 0x140028, 1, 0x4, 1, 0x4, 0x00000000#32, .no, .none,
    [⟨0, 32, .ro, .any⟩]⟩,
  ⟨"MEM_SRAM_UE_CNT", 0x14002C, 1, 0x4, 1, 0x4, 0x00000000#32, .no, .none,
    [⟨0, 32, .ro, .any⟩]⟩,
  ⟨"MEM_TRAP_CNT", 0x140030, 1, 0x4, 1, 0x4, 0x00000000#32, .no, .none,
    [⟨0, 32, .ro, .any⟩]⟩,
  ⟨"MEM_RETRAIN_FAIL_CNT", 0x140034, 1, 0x4, 1, 0x4, 0x00000000#32, .no, .none,
    [⟨0, 32, .ro, .any⟩]⟩,
  ⟨"MEM_CNT_SAT", 0x140038, 1, 0x4, 1, 0x4, 0x00000000#32, .no, .none,
    [⟨0, 6, .w1c, .any⟩]⟩,
  ⟨"MEM_CH_CNT_SAT", 0x14003C, 1, 0x4, 1, 0x4, 0x00000000#32, .no, .none,
    [⟨0, 20, .w1c, .any⟩]⟩,
  ⟨"MEM_CH_CE_CNT", 0x140100, 20, 0x4, 1, 0x4, 0x00000000#32, .no, .none,
    [⟨0, 32, .ro, .any⟩]⟩,
  ⟨"MEM_XDROP_CNT", 0x140040, 1, 0x4, 1, 0x4, 0x00000000#32, .warm, .none,
    [⟨0, 32, .ro, .any⟩]⟩,
  ⟨"MEM_XDROP_SAT", 0x140044, 1, 0x4, 1, 0x4, 0x00000000#32, .warm, .none,
    [⟨0, 1, .w1c, .any⟩]⟩]

/-- The register rows of block MEM. -/
def regRowsMEM : List RegRow := regRowsMEM0

def regRowsHK0 : List RegRow := [
  ⟨"HK_CTL", 0x150000, 1, 0x4, 1, 0x4, 0x00000002#32, .no, .none,
    [⟨0, 1, .rw, .any⟩, ⟨1, 1, .rw, .any⟩]⟩,
  ⟨"HK_STAT", 0x150004, 1, 0x4, 1, 0x4, 0x00000000#32, .no, .none,
    [⟨0, 8, .ro, .any⟩, ⟨8, 5, .ro, .any⟩]⟩,
  ⟨"HK_EVT", 0x150008, 1, 0x4, 1, 0x4, 0x00000000#32, .no, .none,
    [⟨0, 4, .w1c, .any⟩]⟩,
  ⟨"HK_CLAMP_STAT", 0x15000C, 1, 0x4, 1, 0x4, 0x00000000#32, .no, .none,
    [⟨0, 32, .w1c, .any⟩]⟩,
  ⟨"HK_OPEN_STAT", 0x150010, 1, 0x4, 1, 0x4, 0x00000000#32, .no, .none,
    [⟨0, 32, .w1c, .any⟩]⟩,
  ⟨"HK_SYNC_TIME_LO", 0x150014, 1, 0x4, 1, 0x4, 0x00000000#32, .no, .lo,
    [⟨0, 32, .ro, .any⟩]⟩,
  ⟨"HK_SYNC_TIME_HI", 0x150018, 1, 0x4, 1, 0x4, 0x00000000#32, .no, .hi,
    [⟨0, 32, .ro, .any⟩]⟩,
  ⟨"HK_CLAMP_CNT", 0x150020, 1, 0x4, 1, 0x4, 0x00000000#32, .no, .none,
    [⟨0, 32, .ro, .any⟩]⟩,
  ⟨"HK_OPEN_CNT", 0x150024, 1, 0x4, 1, 0x4, 0x00000000#32, .no, .none,
    [⟨0, 32, .ro, .any⟩]⟩,
  ⟨"HK_CNT_SAT", 0x150028, 1, 0x4, 1, 0x4, 0x00000000#32, .no, .none,
    [⟨0, 2, .w1c, .any⟩]⟩,
  ⟨"HK_CHAIN_CFG", 0x150040, 8, 0x4, 1, 0x4, 0x00000000#32, .no, .none,
    [⟨0, 2, .rw, .any⟩, ⟨2, 2, .rw, .any⟩, ⟨4, 1, .rw, .any⟩, ⟨5, 1, .rw, .any⟩, ⟨8, 5, .rw, .clamp 4 16⟩]⟩,
  ⟨"HK_CHAIN_OUT", 0x150060, 8, 0x4, 1, 0x4, 0x00000000#32, .no, .none,
    [⟨0, 16, .ro, .any⟩, ⟨16, 1, .ro, .any⟩, ⟨17, 1, .ro, .any⟩]⟩,
  ⟨"HK_SENSE_CFG", 0x150100, 32, 0x8, 1, 0x4, 0x00640010#32, .no, .none,
    [⟨0, 4, .rw, .keep 0 12⟩, ⟨4, 2, .rw, .any⟩, ⟨6, 1, .rw, .any⟩, ⟨8, 7, .rw, .clamp 0 100⟩, ⟨16, 10, .rw, .clamp 1 1000⟩]⟩,
  ⟨"HK_SENSE_WORD", 0x150104, 32, 0x8, 1, 0x4, 0x00040000#32, .no, .none,
    [⟨0, 16, .ro, .any⟩, ⟨16, 1, .ro, .any⟩, ⟨17, 1, .ro, .any⟩, ⟨18, 1, .ro, .any⟩]⟩,
  ⟨"HK_CAL", 0x150200, 36, 0x4, 1, 0x4, 0x00008000#32, .no, .none,
    [⟨0, 16, .ro, .any⟩, ⟨16, 16, .ro, .any⟩]⟩]

/-- The register rows of block HK. -/
def regRowsHK : List RegRow := regRowsHK0

def regRowsTHM0 : List RegRow := [
  ⟨"THM_CTL", 0x160000, 1, 0x4, 1, 0x4, 0x00000000#32, .no, .none,
    [⟨0, 1, .rw, .any⟩]⟩,
  ⟨"THM_STAT", 0x160004, 1, 0x4, 1, 0x4, 0x00000080#32, .no, .none,
    [⟨0, 3, .ro, .any⟩, ⟨3, 3, .ro, .any⟩, ⟨6, 1, .ro, .any⟩, ⟨7, 1, .ro, .any⟩, ⟨8, 1, .ro, .any⟩, ⟨16, 16, .ro, .any⟩]⟩,
  ⟨"THM_EVT", 0x160008, 1, 0x4, 1, 0x4, 0x00000000#32, .no, .none,
    [⟨0, 1, .w1c, .any⟩, ⟨1, 1, .w1c, .any⟩]⟩,
  ⟨"THM_FAIL", 0x16000C, 1, 0x4, 1, 0x4, 0x00000000#32, .no, .none,
    [⟨0, 12, .ro, .any⟩, ⟨12, 20, .ro, .any⟩]⟩,
  ⟨"THM_LEVEL_CNT", 0x160020, 1, 0x4, 1, 0x4, 0x00000000#32, .no, .none,
    [⟨0, 32, .ro, .any⟩]⟩,
  ⟨"THM_SAFE_CNT", 0x160024, 1, 0x4, 1, 0x4, 0x00000000#32, .no, .none,
    [⟨0, 32, .ro, .any⟩]⟩,
  ⟨"THM_CNT_SAT", 0x160028, 1, 0x4, 1, 0x4, 0x00000000#32, .no, .none,
    [⟨0, 2, .w1c, .any⟩]⟩,
  ⟨"THM_REGION", 0x160100, 12, 0x4, 1, 0x4, 0x00000000#32, .no, .none,
    [⟨0, 16, .ro, .any⟩, ⟨16, 1, .ro, .any⟩]⟩]

/-- The register rows of block THM. -/
def regRowsTHM : List RegRow := regRowsTHM0

def regRowsPWR0 : List RegRow := [
  ⟨"PWR_CTL", 0x170000, 1, 0x4, 1, 0x4, 0x03200001#32, .no, .none,
    [⟨0, 1, .rw, .any⟩, ⟨16, 10, .rw, .any⟩]⟩,
  ⟨"PWR_STAT", 0x170004, 1, 0x4, 1, 0x4, 0x00000000#32, .no, .none,
    [⟨0, 2, .ro, .any⟩, ⟨2, 1, .ro, .any⟩, ⟨3, 1, .ro, .any⟩, ⟨4, 1, .ro, .any⟩]⟩,
  ⟨"PWR_EVT", 0x170008, 1, 0x4, 1, 0x4, 0x00000000#32, .no, .none,
    [⟨0, 1, .w1c, .any⟩, ⟨1, 1, .w1c, .any⟩, ⟨2, 1, .w1c, .any⟩]⟩,
  ⟨"PWR_VF", 0x17000C, 1, 0x4, 1, 0x4, 0x00000000#32, .no, .none,
    [⟨0, 16, .ro, .any⟩, ⟨16, 16, .ro, .any⟩]⟩,
  ⟨"PWR_POWER", 0x170010, 1, 0x4, 1, 0x4, 0x00000000#32, .no, .none,
    [⟨0, 32, .ro, .any⟩]⟩,
  ⟨"PWR_FLOOR_CNT", 0x170020, 1, 0x4, 1, 0x4, 0x00000000#32, .no, .none,
    [⟨0, 32, .ro, .any⟩]⟩,
  ⟨"PWR_AVS_ERR_CNT", 0x170024, 1, 0x4, 1, 0x4, 0x00000000#32, .no, .none,
    [⟨0, 32, .ro, .any⟩]⟩,
  ⟨"PWR_DOM_FAIL_CNT", 0x170028, 1, 0x4, 1, 0x4, 0x00000000#32, .no, .none,
    [⟨0, 32, .ro, .any⟩]⟩,
  ⟨"PWR_CNT_SAT", 0x17002C, 1, 0x4, 1, 0x4, 0x00000000#32, .no, .none,
    [⟨0, 3, .w1c, .any⟩]⟩,
  ⟨"PWR_DOM_ON", 0x170040, 5, 0x4, 1, 0x4, 0x00000000#32, .no, .none,
    [⟨0, 32, .ro, .any⟩]⟩,
  ⟨"PWR_DOM_FAIL", 0x170060, 5, 0x4, 1, 0x4, 0x00000000#32, .no, .none,
    [⟨0, 32, .ro, .any⟩]⟩,
  ⟨"PWR_PACE", 0x170100, 16, 0x4, 1, 0x4, 0x00000000#32, .no, .none,
    [⟨0, 16, .ro, .any⟩, ⟨16, 16, .ro, .any⟩]⟩]

/-- The register rows of block PWR. -/
def regRowsPWR : List RegRow := regRowsPWR0

def regRowsRSTSEC0 : List RegRow := [
  ⟨"RST_CAUSE", 0x180000, 1, 0x4, 1, 0x4, 0x00000000#32, .backup, .none,
    [⟨0, 8, .ro, .any⟩, ⟨8, 3, .ro, .any⟩, ⟨11, 1, .ro, .any⟩, ⟨12, 1, .ro, .any⟩, ⟨13, 1, .ro, .any⟩]⟩,
  ⟨"RST_STAT", 0x180004, 1, 0x4, 1, 0x4, 0x00000000#32, .backup, .none,
    [⟨0, 1, .ro, .any⟩, ⟨1, 3, .ro, .any⟩]⟩,
  ⟨"RST_SRC_CNT", 0x180010, 8, 0x4, 1, 0x4, 0x00000000#32, .backup, .none,
    [⟨0, 32, .ro, .any⟩]⟩,
  ⟨"RST_FUSE_RESTART_CNT", 0x180030, 1, 0x4, 1, 0x4, 0x00000000#32, .backup, .none,
    [⟨0, 32, .ro, .any⟩]⟩,
  ⟨"RST_BOOT_FAIL_CNT", 0x180034, 1, 0x4, 1, 0x4, 0x00000000#32, .backup, .none,
    [⟨0, 32, .ro, .any⟩]⟩,
  ⟨"RST_HELD_LAST", 0x180038, 1, 0x4, 1, 0x4, 0x00000000#32, .backup, .none,
    [⟨0, 32, .ro, .any⟩]⟩,
  ⟨"RST_HELD_MAX", 0x18003C, 1, 0x4, 1, 0x4, 0x00000000#32, .backup, .none,
    [⟨0, 32, .ro, .any⟩]⟩,
  ⟨"RST_CNT_SAT", 0x180040, 1, 0x4, 1, 0x4, 0x00000000#32, .backup, .none,
    [⟨0, 10, .w1c, .any⟩]⟩,
  ⟨"SEC_STAT", 0x180100, 1, 0x4, 1, 0x4, 0x00000000#32, .no, .none,
    [⟨0, 3, .ro, .any⟩, ⟨3, 1, .ro, .any⟩, ⟨4, 1, .ro, .any⟩, ⟨5, 1, .ro, .any⟩, ⟨6, 2, .ro, .any⟩, ⟨8, 1, .ro, .any⟩, ⟨9, 1, .ro, .any⟩]⟩,
  ⟨"SEC_FW_VER", 0x180104, 1, 0x4, 1, 0x4, 0x00000000#32, .no, .none,
    [⟨0, 32, .ro, .any⟩]⟩,
  ⟨"SEC_FLOOR", 0x180108, 1, 0x4, 1, 0x4, 0x00000000#32, .no, .none,
    [⟨0, 7, .ro, .any⟩]⟩,
  ⟨"SEC_SEQ", 0x18010C, 1, 0x4, 1, 0x4, 0x00000000#32, .no, .none,
    [⟨0, 32, .ro, .any⟩]⟩,
  ⟨"SEC_SVC", 0x180110, 1, 0x4, 1, 0x4, 0x00000000#32, .no, .none,
    [⟨0, 5, .ro, .any⟩]⟩,
  ⟨"SEC_BOOT_STAT", 0x180114, 1, 0x4, 1, 0x4, 0x00000000#32, .backup, .none,
    [⟨0, 4, .ro, .any⟩, ⟨4, 4, .ro, .any⟩, ⟨8, 1, .ro, .any⟩]⟩,
  ⟨"SEC_DEVICE_ID_LO", 0x180118, 1, 0x4, 1, 0x4, 0x00000000#32, .no, .lo,
    [⟨0, 32, .ro, .any⟩]⟩,
  ⟨"SEC_DEVICE_ID_HI", 0x18011C, 1, 0x4, 1, 0x4, 0x00000000#32, .no, .hi,
    [⟨0, 32, .ro, .any⟩]⟩,
  ⟨"RST_XDROP_CNT", 0x180044, 1, 0x4, 1, 0x4, 0x00000000#32, .warm, .none,
    [⟨0, 32, .ro, .any⟩]⟩,
  ⟨"RST_XDROP_SAT", 0x180048, 1, 0x4, 1, 0x4, 0x00000000#32, .warm, .none,
    [⟨0, 1, .w1c, .any⟩]⟩]

/-- The register rows of block RSTSEC. -/
def regRowsRSTSEC : List RegRow := regRowsRSTSEC0

def regRowsEVT0 : List RegRow := [
  ⟨"EVT_CTL", 0x010000, 1, 0x4, 1, 0x4, 0x00000000#32, .no, .none,
    [⟨0, 1, .rw, .any⟩, ⟨16, 10, .rw, .clamp 0 1000⟩]⟩,
  ⟨"EVT_STAT", 0x010004, 1, 0x4, 1, 0x4, 0x00000000#32, .no, .none,
    [⟨0, 1, .ro, .any⟩, ⟨1, 1, .ro, .any⟩, ⟨2, 1, .ro, .any⟩, ⟨3, 1, .ro, .any⟩]⟩,
  ⟨"EVT_RING_BASE_LO", 0x010008, 1, 0x4, 1, 0x4, 0x00000000#32, .no, .lo,
    [⟨0, 32, .rw, .any⟩]⟩,
  ⟨"EVT_RING_BASE_HI", 0x01000C, 1, 0x4, 1, 0x4, 0x00000000#32, .no, .hi,
    [⟨0, 32, .rw, .any⟩]⟩,
  ⟨"EVT_RING_SIZE", 0x010010, 1, 0x4, 1, 0x4, 0x00000008#32, .no, .none,
    [⟨0, 5, .rw, .keep 8 16⟩]⟩,
  ⟨"EVT_RING_WR", 0x010014, 1, 0x4, 1, 0x4, 0x00000000#32, .no, .none,
    [⟨0, 32, .ro, .any⟩]⟩,
  ⟨"EVT_RING_RD", 0x010018, 1, 0x4, 1, 0x4, 0x00000000#32, .no, .none,
    [⟨0, 32, .rw, .any⟩]⟩,
  ⟨"EVT_RING_DROP_CNT", 0x01001C, 1, 0x4, 1, 0x4, 0x00000000#32, .no, .none,
    [⟨0, 32, .ro, .any⟩]⟩,
  ⟨"EVT_CNT_SAT", 0x010020, 1, 0x4, 1, 0x4, 0x00000000#32, .no, .none,
    [⟨0, 1, .w1c, .any⟩]⟩,
  ⟨"EVT_PEND", 0x010100, 20, 0x4, 1, 0x4, 0x00000000#32, .no, .none,
    [⟨0, 32, .w1c, .any⟩]⟩,
  ⟨"EVT_ROUTE", 0x011000, 640, 0x4, 1, 0x4, 0x00000000#32, .no, .none,
    [⟨0, 6, .rw, .any⟩, ⟨6, 1, .rw, .any⟩, ⟨7, 1, .rw, .any⟩]⟩]

/-- The register rows of block EVT. -/
def regRowsEVT : List RegRow := regRowsEVT0

def regRowsTEL0 : List RegRow := [
  ⟨"TEL_SEQ", 0x190000, 1, 0x4, 1, 0x4, 0x00000000#32, .no, .none,
    [⟨0, 32, .ro, .any⟩]⟩,
  ⟨"TEL_STAT", 0x190004, 1, 0x4, 1, 0x4, 0x00000000#32, .no, .none,
    [⟨0, 16, .ro, .any⟩, ⟨16, 1, .ro, .any⟩]⟩]

/-- The register rows of block TEL. -/
def regRowsTEL : List RegRow := regRowsTEL0

/-- The block that holds an address (R619). -/
def regRowsAt (a : Nat) : List RegRow :=
  if a < 0x010000 then regRowsGLB else if a < 0x020000 then regRowsEVT else if a < 0x040000 then regRowsCMDQ
  else if a < 0x080000 then regRowsTIME else if a < 0x0C0000 then regRowsSLICE else if a < 0x0D0000 then regRowsTAP
  else if a < 0x0E0000 then regRowsBLW else if a < 0x0F0000 then regRowsSCN else if a < 0x100000 then regRowsTURF
  else if a < 0x110000 then regRowsKILN else if a < 0x120000 then regRowsING else if a < 0x130000 then regRowsPEER
  else if a < 0x140000 then regRowsSAFE else if a < 0x150000 then regRowsMEM else if a < 0x160000 then regRowsHK
  else if a < 0x170000 then regRowsTHM else if a < 0x180000 then regRowsPWR else if a < 0x190000 then regRowsRSTSEC
  else if a < 0x1A0000 then regRowsTEL else []

/-- Does the row hold a register at address `a`? (R632) -/
def RegRow.covers (r : RegRow) (a : Nat) : Bool :=
  let o := a - r.base
  let i := o / r.s1
  let x := o % r.s1
  (r.base ≤ a) && (i < r.n1) && (x % r.s2 == 0) && (x / r.s2 < r.n2)

/-- The register at a BAR0 address; none where the offset is reserved (R619). -/
def regRow? (a : Nat) : Option RegRow := (regRowsAt a).find? (·.covers a)

/-- The default vector of an event source (R612). -/
def defaultVector (n : Nat) : Nat :=
  if n < 384 then 1 else if n < 416 then 2 else if n < 480 then 3
  else if n < 520 then 4 else if n < 527 then 5 else if n < 543 then 16 + (n - 527)
  else if n < 544 then 5 else if n < 564 then 6 else if n < 588 then 7 else if n < 620 then 8 else if n < 632 then 9 else 10

/-- The reset value of every BAR0 register (R621), with the entries given field by field: the engine states (R630), the
chain configurations (R553) and the event routes (R612). Backup, fuse and kept entries stand at zero here. -/
def regReset (a : Nat) : BitVec 32 :=
  if a = Reg.GLB_ENG_STAT 60 then 4#32
  else if 0x011000 ≤ a ∧ a < 0x011A00 ∧ a % 4 = 0 then BitVec.ofNat 32 (0xC0 + defaultVector ((a - 0x011000) / 4))
  else if 0x150040 ≤ a ∧ a < 0x150050 ∧ a % 4 = 0 then BitVec.ofNat 32 ((a - 0x150040) / 4 * 4)
  else if 0x150050 ≤ a ∧ a < 0x150060 ∧ a % 4 = 0 then BitVec.ofNat 32 (2 + (a - 0x150050) / 4 * 4 + 10 * 256)
  else match regRow? a with
    | some r => r.reset
    | none => 0#32

/-- The SAT registers without an index, with their counters in bit order (R634). -/
def satRows0 : List (Nat × List Cnt) := [
  (Reg.TIME_CNT_SAT, [C.TIME_MARK_CNT, C.TIME_STEP_CNT, C.TIME_UNLOCK_CNT, C.TIME_HOLDOVER_CNT]),
  (Reg.KILN_BUR_CNT_SAT, [C.KILN_BUR_REF_APPLY_CNT]),
  (Reg.BLW_CNT_SAT, [C.BLW_E_FE_MISS_CNT, C.BLW_E_UNEXP_CNT, C.BLW_E_RB_ERR_CNT, C.BLW_L_RB_ERR_CNT]),
  (Reg.TAP_CNT_SAT, [C.TAP_WIN, C.TAP_UNSERVED_CNT, C.TAP_WITHHELD_CNT]),
  (Reg.TURF_CNT_SAT, [C.TURF_LATE_CNT, C.TURF_STALE_CNT, C.TURF_ASHSAT_CNT, C.TURF_UE_CNT, C.TURF_UPD, C.TURF_ACQ]),
  (Reg.SCN_CNT_SAT, [C.SCN_OVERRUN_CNT, C.SCN_TRACK_SKIP_CNT, C.SCN_SOFT_CNT, C.SCN_DAMP_CUT_CNT, C.SCN_MFAULT_CNT]),
  (Reg.ING_CNT_SAT, [C.ING_HIST_DROP_CNT, C.ING_INCOMPLETE_CNT, C.ING_REC, C.ING_DROP_FULL, C.ING_DROP_BUDGET]),
  (Reg.PEER_CNT_SAT, [C.PEER_CRC_ERR_CNT, C.PEER_LOSS_CNT, C.PEER_MEMBER_CHG_CNT]),
  (Reg.SAFE_CNT_SAT, [C.SAFE_QUENCH_CNT, C.SAFE_INFR_CNT, C.SAFE_TEST_FAIL_CNT, C.SAFE_RESTART_CNT, C.SAFE_VETO_CNT]),
  (Reg.CMDQ_CNT_SAT, [C.CMDQ_ACK_MISS_CNT, C.CMDQ_FMT_ERR_CNT, C.CMDQ_DB_ERR_CNT, C.CMDQ_DECL_CNT]),
  (Reg.GLB_CFG_CNT_SAT, [C.GLB_CFG_APPLY_CNT, C.GLB_CFG_REFUSE_CNT, C.GLB_STORE_COMMIT_CNT, C.GLB_STORE_CRC_ERR_CNT]),
  (Reg.MEM_CNT_SAT, [C.MEM_CE_CNT, C.MEM_UE_CNT, C.MEM_SRAM_CE_CNT, C.MEM_SRAM_UE_CNT, C.MEM_TRAP_CNT, C.MEM_RETRAIN_FAIL_CNT]),
  (Reg.HK_CNT_SAT, [C.HK_CLAMP_CNT, C.HK_OPEN_CNT]),
  (Reg.THM_CNT_SAT, [C.THM_LEVEL_CNT, C.THM_SAFE_CNT]),
  (Reg.PWR_CNT_SAT, [C.PWR_FLOOR_CNT, C.PWR_AVS_ERR_CNT, C.PWR_DOM_FAIL_CNT]),
  (Reg.EVT_CNT_SAT, [C.EVT_RING_DROP_CNT]),
  (Reg.GLB_CNT_SAT, [C.GLB_BAD_ACCESS_CNT, C.GLB_BAD_VALUE_CNT]),
  (Reg.TIME_XDROP_SAT, [C.TIME_XDROP_CNT]),
  (Reg.CMDQ_XDROP_SAT, [C.CMDQ_XDROP_CNT]),
  (Reg.MEM_XDROP_SAT, [C.MEM_XDROP_CNT]),
  (Reg.PEER_XDROP_SAT, [C.PEER_XDROP_CNT]),
  (Reg.SAFE_XDROP_SAT, [C.SAFE_XDROP_CNT]),
  (Reg.RST_XDROP_SAT, [C.RST_XDROP_CNT])]

/-- The counters of `SLICE_FE_CNT_SAT` of unit i. -/
def satSliceFe (i : Nat) : List Cnt := [C.SLICE_CLAMP_CNT i, C.SLICE_OVR_CNT i]

/-- The counters of `SLICE_EM_CNT_SAT` of unit i. -/
def satSliceEm (i : Nat) : List Cnt := [C.SLICE_EM_NOMREF_CNT i, C.SLICE_EM_OVF_SHOT_CNT i, C.SLICE_EM_XDROP_CNT i, C.SLICE_EM_WCOERCE_CNT i, C.SLICE_EM_ACC i, C.SLICE_EM_PRE i, C.SLICE_EM_NEAR i, C.SLICE_EM_WIN i, C.SLICE_EM_OVF i]

/-- The counters of `SLICE_BUR_CNT_SAT` of unit i. -/
def satSliceBur (i : Nat) : List Cnt := [C.SLICE_BUR_APPLY_CNT i, C.SLICE_BUR_DISCARD_CNT i]

/-- The counters of `SLICE_KILN_CNT_SAT` of unit i. -/
def satSliceKiln (i : Nat) : List Cnt := [C.SLICE_KILN_ARENA_MISS_CNT i, C.SLICE_KILN_GLIST_DROP_CNT i, C.SLICE_KILN_GOUT_CNT i, C.SLICE_KILN_GROUP i, C.SLICE_KILN_UNM i, C.SLICE_KILN_INT i, C.SLICE_KILN_PIX i, C.SLICE_KILN_ECHO i]

/-- The counters of `TAP_T_CNT_SAT` of unit i. -/
def satTap (i : Nat) : List Cnt := [C.TAP_T_OVF_CNT i, C.TAP_T_SKIP_CNT i, C.TAP_T_CLIP_CNT i]

/-- The counters served by the SAT register at an address, in bit order; none where the address is no SAT register. -/
def satCounters (a : Nat) : Option (List Cnt) :=
  if a = Reg.MEM_CH_CNT_SAT then some ((List.range 20).map C.MEM_CH_CE_CNT)
  else if a = Reg.RST_CNT_SAT then
    some ((List.range 8).map C.RST_SRC_CNT ++ [C.RST_FUSE_RESTART_CNT, C.RST_BOOT_FAIL_CNT])
  else if 0x080000 ≤ a ∧ a < 0x0C0000 then
    let s := (a - 0x080000) / 0x1000
    let o := a % 0x1000
    if o = 0x014 then some (satSliceFe s) else if o = 0x03C then some (satSliceEm s)
    else if o = 0x318 then some (satSliceBur s) else if o = 0x41C then some (satSliceKiln s) else none
  else if 0x0C0400 ≤ a ∧ a < 0x0C0C00 then
    if (a - 0x0C0400) % 0x20 = 0x18 then some (satTap ((a - 0x0C0400) / 0x20)) else none
  else (satRows0.find? (·.1 == a)).map (·.2)

end Sys2Proof
end

