-- ==== Sys2Proof/Machine/Params.lean ====
section
/-! DEFINITION. The parameters (R475 to R479): index, element size and count, effect class, set, range and default, as the
parameter tables of the chapters give them. The index of a parameter within the range of its namespace, and the size of an
element the manual does not state, are this model's numbering (DESIGN CHOICE, log entry 3). -/

namespace Sys2Proof

/-- When a change of a live value takes effect (R478). -/
inductive EffectClass where
  | i | d | f | b | s
  deriving DecidableEq, Repr

/-- The set of the retained store a parameter belongs to (R479). -/
inductive ParamSet where
  | base | calibration | safety | counters
  deriving DecidableEq, Repr

/-- One parameter. `signed` values are two's complement in `esize` bytes; `scale` is the log2 of the step divisor (R476);
`mirrored` marks the members of the safety set that also belong to the base (R395). -/
structure Param where
  name : String
  index : Nat
  esize : Nat
  elems : Nat
  cls : EffectClass
  set : ParamSet
  lo : Int
  hi : Int
  scale : Nat
  mirrored : Bool
  dflt : Nat
  deriving DecidableEq, Repr

/-- The parameter's values are signed. -/
def Param.signed (p : Param) : Bool := decide (p.lo < 0)

/-! Parameter indices (R475). -/

namespace P

/-- `cfg.boot_overlay` (R499). -/
abbrev cfg_boot_overlay : Nat := 0x0000
/-- `store.clk_mhz` (R499). -/
abbrev store_clk_mhz : Nat := 0x0001
/-- `store.endurance` (R499). -/
abbrev store_endurance : Nat := 0x0002
/-- `time.source` (R54). -/
abbrev time_source : Nat := 0x0100
/-- `time.step_en` (R54). -/
abbrev time_step_en : Nat := 0x0101
/-- `time.xo_comp_en` (R54). -/
abbrev time_xo_comp_en : Nat := 0x0102
/-- `time.age_learn_en` (R54). -/
abbrev time_age_learn_en : Nat := 0x0103
/-- `time.xo_c0` (R54). -/
abbrev time_xo_c0 : Nat := 0x0104
/-- `time.xo_c1` (R54). -/
abbrev time_xo_c1 : Nat := 0x0105
/-- `time.xo_c2` (R54). -/
abbrev time_xo_c2 : Nat := 0x0106
/-- `time.xo_c3` (R54). -/
abbrev time_xo_c3 : Nat := 0x0107
/-- `time.xo_age_ppb` (R54). -/
abbrev time_xo_age_ppb : Nat := 0x0108
/-- `time.xo_temp_input` (R54). -/
abbrev time_xo_temp_input : Nat := 0x0109
/-- `time.servo_tau_s` (R54). -/
abbrev time_servo_tau_s : Nat := 0x010A
/-- `time.slew_max_ppb` (R54). -/
abbrev time_slew_max_ppb : Nat := 0x010B
/-- `time.step_ns` (R54). -/
abbrev time_step_ns : Nat := 0x010C
/-- `time.holdover_s` (R54). -/
abbrev time_holdover_s : Nat := 0x010D
/-- `time.mark_latency_ns` (R54). -/
abbrev time_mark_latency_ns : Nat := 0x010E
/-- `time.slot_phase_ns` (R54). -/
abbrev time_slot_phase_ns : Nat := 0x010F
/-- `slot.groups` (R54). -/
abbrev slot_groups : Nat := 0x0200
/-- `slot.group_phase` (R54). -/
abbrev slot_group_phase : Nat := 0x0201
/-- `slot.frame_slots` (R54). -/
abbrev slot_frame_slots : Nat := 0x0202
/-- `slot.turn_slots` (R54). -/
abbrev slot_turn_slots : Nat := 0x0203
/-- `slot.positions` (R54). -/
abbrev slot_positions : Nat := 0x0204
/-- `slot.seg_group` (R54). -/
abbrev slot_seg_group : Nat := 0x0205
/-- `slot.seg_rows` (R54). -/
abbrev slot_seg_rows : Nat := 0x0206
/-- `fe.ch_cfg` (R91). -/
abbrev fe_ch_cfg : Nat := 0x0300
/-- `fe.thr_fix` (R91). -/
abbrev fe_thr_fix : Nat := 0x0301
/-- `fe.offset` (R91). -/
abbrev fe_offset : Nat := 0x0302
/-- `fe.holdoff` (R91). -/
abbrev fe_holdoff : Nat := 0x0303
/-- `fe.blank` (R91). -/
abbrev fe_blank : Nat := 0x0304
/-- `fe.xbar_settle_ns` (R87). -/
abbrev fe_xbar_settle_ns : Nat := 0x0305
/-- `ember.ref_delay_ns` (R104). -/
abbrev ember_ref_delay_ns : Nat := 0x0400
/-- `ember.ref_tol` (R104). -/
abbrev ember_ref_tol : Nat := 0x0401
/-- `ember.win_min` (R107). -/
abbrev ember_win_min : Nat := 0x0402
/-- `ember.walk_lut` (R121). -/
abbrev ember_walk_lut : Nat := 0x0403
/-- `ember.ctl` (R122). -/
abbrev ember_ctl : Nat := 0x0404
/-- `ember.win_fix` (R122). -/
abbrev ember_win_fix : Nat := 0x0405
/-- `burnish.delta_t` (R152). -/
abbrev burnish_delta_t : Nat := 0x0500
/-- `burnish.delta_urgent` (R152). -/
abbrev burnish_delta_urgent : Nat := 0x0501
/-- `burnish.defer_max_frames` (R152). -/
abbrev burnish_defer_max_frames : Nat := 0x0502
/-- `burnish.min_events` (R152). -/
abbrev burnish_min_events : Nat := 0x0503
/-- `burnish.max_block_s` (R152). -/
abbrev burnish_max_block_s : Nat := 0x0504
/-- `burnish.temp_spread` (R152). -/
abbrev burnish_temp_spread : Nat := 0x0505
/-- `burnish.spike_pct` (R152). -/
abbrev burnish_spike_pct : Nat := 0x0506
/-- `burnish.sel_hyst` (R152). -/
abbrev burnish_sel_hyst : Nat := 0x0507
/-- `burnish.coverage_ps` (R152). -/
abbrev burnish_coverage_ps : Nat := 0x0508
/-- `burnish.trim_min_pairs` (R152). -/
abbrev burnish_trim_min_pairs : Nat := 0x0509
/-- `burnish.commit_period_h` (R152). -/
abbrev burnish_commit_period_h : Nat := 0x050A
/-- `burnish.rz_t0` (R152). -/
abbrev burnish_rz_t0 : Nat := 0x050B
/-- `burnish.ctl` (R155). -/
abbrev burnish_ctl : Nat := 0x050C
/-- `cal.cmp_trim` (R147). -/
abbrev cal_cmp_trim : Nat := 0x0600
/-- `cal.cell_sel` (R147). -/
abbrev cal_cell_sel : Nat := 0x0601
/-- `cal.bin_table` (R147). -/
abbrev cal_bin_table : Nat := 0x0602
/-- `cal.bur_t` (R147). -/
abbrev cal_bur_t : Nat := 0x0603
/-- `cal.range_zero` (R147). -/
abbrev cal_range_zero : Nat := 0x0604
/-- `cal.range_zero_tc` (R147). -/
abbrev cal_range_zero_tc : Nat := 0x0605
/-- `code.min_gap` (R190). -/
abbrev code_min_gap : Nat := 0x0700
/-- `code.book_sel` (R190). -/
abbrev code_book_sel : Nat := 0x0701
/-- `code.book` (R190). -/
abbrev code_book : Nat := 0x0702
/-- `code.group` (R190). -/
abbrev code_group : Nat := 0x0703
/-- `blw.e_drivers` (R190). -/
abbrev blw_e_drivers : Nat := 0x0800
/-- `blw.l_drivers` (R190). -/
abbrev blw_l_drivers : Nat := 0x0801
/-- `blw.ctl` (R191). -/
abbrev blw_ctl : Nat := 0x0802
/-- `emit.e_max` (R190). -/
abbrev emit_e_max : Nat := 0x0900
/-- `emit.temp_input` (R190). -/
abbrev emit_temp_input : Nat := 0x0901
/-- `emit.fail_shots` (R190). -/
abbrev emit_fail_shots : Nat := 0x0902
/-- `emit.count_commit_h` (R190). -/
abbrev emit_count_commit_h : Nat := 0x0903
/-- `emit.wear_limit` (R190). -/
abbrev emit_wear_limit : Nat := 0x0904
/-- `emit.wear_warn_pct` (R190). -/
abbrev emit_wear_warn_pct : Nat := 0x0905
/-- `emit.auto_subst` (R190). -/
abbrev emit_auto_subst : Nat := 0x0906
/-- `emit.spare` (R182). -/
abbrev emit_spare : Nat := 0x0907
/-- `emit.cal` (R177). -/
abbrev emit_cal : Nat := 0x0908
/-- `lamp.freq_hz` (R190). -/
abbrev lamp_freq_hz : Nat := 0x0A00
/-- `lamp.src` (R184). -/
abbrev lamp_src : Nat := 0x0A01
/-- `lamp.duty` (R185). -/
abbrev lamp_duty : Nat := 0x0A02
/-- `lamp.cal` (R185). -/
abbrev lamp_cal : Nat := 0x0A03
/-- `lamp.sync_pol` (R186). -/
abbrev lamp_sync_pol : Nat := 0x0A04
/-- `lamp.sync_delay_ns` (R186). -/
abbrev lamp_sync_delay_ns : Nat := 0x0A05
/-- `kiln.group_max` (R215). -/
abbrev kiln_group_max : Nat := 0x0B00
/-- `kiln.peak_min` (R215). -/
abbrev kiln_peak_min : Nat := 0x0B01
/-- `kiln.peak_sigma` (R215). -/
abbrev kiln_peak_sigma : Nat := 0x0B02
/-- `kiln.cent_gate` (R215). -/
abbrev kiln_cent_gate : Nat := 0x0B03
/-- `kiln.pulse_fwhm_ps` (R215). -/
abbrev kiln_pulse_fwhm_ps : Nat := 0x0B04
/-- `kiln.range_scale_ppm` (R215). -/
abbrev kiln_range_scale_ppm : Nat := 0x0B05
/-- `kiln.int_level` (R215). -/
abbrev kiln_int_level : Nat := 0x0B06
/-- `kiln.int_thresh` (R215). -/
abbrev kiln_int_thresh : Nat := 0x0B07
/-- `kiln.norm_range_m` (R215). -/
abbrev kiln_norm_range_m : Nat := 0x0B08
/-- `kiln.norm_energy_nj` (R215). -/
abbrev kiln_norm_energy_nj : Nat := 0x0B09
/-- `kiln.ctl` (R215). -/
abbrev kiln_ctl : Nat := 0x0B0A
/-- `kiln.retro_mv` (R216). -/
abbrev kiln_retro_mv : Nat := 0x0B0B
/-- `kiln.int_support` (R216). -/
abbrev kiln_int_support : Nat := 0x0B0C
/-- `kiln.mp_span_m` (R216). -/
abbrev kiln_mp_span_m : Nat := 0x0B0D
/-- `kiln.mp_ratio` (R216). -/
abbrev kiln_mp_ratio : Nat := 0x0B0E
/-- `kiln.fog_width_ps` (R216). -/
abbrev kiln_fog_width_ps : Nat := 0x0B0F
/-- `kiln.wx_range_m` (R216). -/
abbrev kiln_wx_range_m : Nat := 0x0B10
/-- `kiln.wx_spread_ps` (R216). -/
abbrev kiln_wx_spread_ps : Nat := 0x0B11
/-- `kiln.wx_support` (R216). -/
abbrev kiln_wx_support : Nat := 0x0B12
/-- `kiln.ext_width_ps` (R216). -/
abbrev kiln_ext_width_ps : Nat := 0x0B13
/-- `tap.pre_ns` (R247). -/
abbrev tap_pre_ns : Nat := 0x0C00
/-- `tap.post_ns` (R247). -/
abbrev tap_post_ns : Nat := 0x0C01
/-- `tap.win_default` (R247). -/
abbrev tap_win_default : Nat := 0x0C02
/-- `tap.x2_below_mv` (R247). -/
abbrev tap_x2_below_mv : Nat := 0x0C03
/-- `tap.base_n` (R247). -/
abbrev tap_base_n : Nat := 0x0C04
/-- `tap.pk_sigma` (R247). -/
abbrev tap_pk_sigma : Nat := 0x0C05
/-- `tap.wx_stray` (R247). -/
abbrev tap_wx_stray : Nat := 0x0C06
/-- `tap.fog_ped` (R247). -/
abbrev tap_fog_ped : Nat := 0x0C07
/-- `tap.ctl` (R247). -/
abbrev tap_ctl : Nat := 0x0C08
/-- `tap.cal` (R223). -/
abbrev tap_cal : Nat := 0x0C09
/-- `turf.k_lo` (R281). -/
abbrev turf_k_lo : Nat := 0x0D00
/-- `turf.k_mid` (R281). -/
abbrev turf_k_mid : Nat := 0x0D01
/-- `turf.k_hi` (R281). -/
abbrev turf_k_hi : Nat := 0x0D02
/-- `turf.lo_min` (R281). -/
abbrev turf_lo_min : Nat := 0x0D03
/-- `turf.lo_max` (R281). -/
abbrev turf_lo_max : Nat := 0x0D04
/-- `turf.mid_min` (R281). -/
abbrev turf_mid_min : Nat := 0x0D05
/-- `turf.hi_min` (R281). -/
abbrev turf_hi_min : Nat := 0x0D06
/-- `turf.nu0_mhz` (R281). -/
abbrev turf_nu0_mhz : Nat := 0x0D07
/-- `turf.sat_frac` (R281). -/
abbrev turf_sat_frac : Nat := 0x0D08
/-- `turf.ash_sat_up` (R281). -/
abbrev turf_ash_sat_up : Nat := 0x0D09
/-- `turf.ash_min_n` (R281). -/
abbrev turf_ash_min_n : Nat := 0x0D0A
/-- `turf.ash_tmax_us` (R281). -/
abbrev turf_ash_tmax_us : Nat := 0x0D0B
/-- `turf.ash_up_shift` (R281). -/
abbrev turf_ash_up_shift : Nat := 0x0D0C
/-- `turf.ash_down_shift` (R281). -/
abbrev turf_ash_down_shift : Nat := 0x0D0D
/-- `turf.acq_ash_mv` (R281). -/
abbrev turf_acq_ash_mv : Nat := 0x0D0E
/-- `turf.win_pre` (R281). -/
abbrev turf_win_pre : Nat := 0x0D0F
/-- `turf.win_post` (R281). -/
abbrev turf_win_post : Nat := 0x0D10
/-- `turf.win_conf` (R281). -/
abbrev turf_win_conf : Nat := 0x0D11
/-- `turf.win_probe` (R281). -/
abbrev turf_win_probe : Nat := 0x0D12
/-- `turf.dwell_min` (R281). -/
abbrev turf_dwell_min : Nat := 0x0D13
/-- `turf.dwell_max` (R281). -/
abbrev turf_dwell_max : Nat := 0x0D14
/-- `turf.dwell_noecho` (R281). -/
abbrev turf_dwell_noecho : Nat := 0x0D15
/-- `turf.acq_dwell` (R281). -/
abbrev turf_acq_dwell : Nat := 0x0D16
/-- `turf.conf_lo` (R281). -/
abbrev turf_conf_lo : Nat := 0x0D17
/-- `turf.conf_hi` (R281). -/
abbrev turf_conf_hi : Nat := 0x0D18
/-- `turf.e_min_nj` (R281). -/
abbrev turf_e_min_nj : Nat := 0x0D19
/-- `turf.acq_energy_nj` (R281). -/
abbrev turf_acq_energy_nj : Nat := 0x0D1A
/-- `turf.e_up` (R281). -/
abbrev turf_e_up : Nat := 0x0D1B
/-- `turf.amp_hi_mv` (R281). -/
abbrev turf_amp_hi_mv : Nat := 0x0D1C
/-- `turf.edge_cp` (R281). -/
abbrev turf_edge_cp : Nat := 0x0D1D
/-- `turf.tp_wx` (R281). -/
abbrev turf_tp_wx : Nat := 0x0D1E
/-- `turf.tp_multi` (R281). -/
abbrev turf_tp_multi : Nat := 0x0D1F
/-- `turf.tp_edge` (R281). -/
abbrev turf_tp_edge : Nat := 0x0D20
/-- `turf.tp_lowconf` (R281). -/
abbrev turf_tp_lowconf : Nat := 0x0D21
/-- `turf.tp_int` (R281). -/
abbrev turf_tp_int : Nat := 0x0D22
/-- `turf.tp_acq` (R281). -/
abbrev turf_tp_acq : Nat := 0x0D23
/-- `turf.hold_max_s` (R281). -/
abbrev turf_hold_max_s : Nat := 0x0D24
/-- `turf.ctl` (R281). -/
abbrev turf_ctl : Nat := 0x0D25
/-- `scan.subcols` (R315). -/
abbrev scan_subcols : Nat := 0x0E00
/-- `scan.x_first` (R315). -/
abbrev scan_x_first : Nat := 0x0E01
/-- `scan.x_last` (R315). -/
abbrev scan_x_last : Nat := 0x0E02
/-- `scan.y_set` (R315). -/
abbrev scan_y_set : Nat := 0x0E03
/-- `scan.kp` (R315). -/
abbrev scan_kp : Nat := 0x0E04
/-- `scan.ki` (R315). -/
abbrev scan_ki : Nat := 0x0E05
/-- `scan.kd` (R315). -/
abbrev scan_kd : Nat := 0x0E06
/-- `scan.d_alpha` (R315). -/
abbrev scan_d_alpha : Nat := 0x0E07
/-- `scan.subcol_phase_ns` (R315). -/
abbrev scan_subcol_phase_ns : Nat := 0x0E08
/-- `scan.track_tol` (R315). -/
abbrev scan_track_tol : Nat := 0x0E09
/-- `scan.track_fault` (R315). -/
abbrev scan_track_fault : Nat := 0x0E0A
/-- `scan.ramp_ms` (R315). -/
abbrev scan_ramp_ms : Nat := 0x0E0B
/-- `scan.settle_ms` (R315). -/
abbrev scan_settle_ms : Nat := 0x0E0C
/-- `scan.slope_ratio` (R315). -/
abbrev scan_slope_ratio : Nat := 0x0E0D
/-- `scan.cal_slots` (R315). -/
abbrev scan_cal_slots : Nat := 0x0E0E
/-- `scan.ctl` (R315). -/
abbrev scan_ctl : Nat := 0x0E0F
/-- `out.ctl` (R339). -/
abbrev out_ctl : Nat := 0x0F00
/-- `out.ring` (R339). -/
abbrev out_ring : Nat := 0x0F01
/-- `out.hist_region` (R339). -/
abbrev out_hist_region : Nat := 0x0F02
/-- `peer.rank` (R358). -/
abbrev peer_rank : Nat := 0x1000
/-- `peer.code_pool` (R358). -/
abbrev peer_code_pool : Nat := 0x1001
/-- `peer.announce_ms` (R358). -/
abbrev peer_announce_ms : Nat := 0x1002
/-- `peer.sync_hz` (R358). -/
abbrev peer_sync_hz : Nat := 0x1003
/-- `peer.asym_ps` (R358). -/
abbrev peer_asym_ps : Nat := 0x1004
/-- `peer.ctl` (R358). -/
abbrev peer_ctl : Nat := 0x1005
/-- `safe.win_slots` (R396). -/
abbrev safe_win_slots : Nat := 0x1100
/-- `safe.e_dir_nj` (R396). -/
abbrev safe_e_dir_nj : Nat := 0x1101
/-- `safe.e_seg_nj` (R396). -/
abbrev safe_e_seg_nj : Nat := 0x1102
/-- `safe.seg_slope` (R396). -/
abbrev safe_seg_slope : Nat := 0x1103
/-- `safe.seg_zero` (R396). -/
abbrev safe_seg_zero : Nat := 0x1104
/-- `safe.guard` (R396). -/
abbrev safe_guard : Nat := 0x1105
/-- `safe.v_min` (R396). -/
abbrev safe_v_min : Nat := 0x1106
/-- `safe.still_max_us` (R396). -/
abbrev safe_still_max_us : Nat := 0x1107
/-- `safe.travel_lo` (R396). -/
abbrev safe_travel_lo : Nat := 0x1108
/-- `safe.travel_hi` (R396). -/
abbrev safe_travel_hi : Nat := 0x1109
/-- `safe.opt_gain` (R396). -/
abbrev safe_opt_gain : Nat := 0x110A
/-- `safe.opt_offset` (R396). -/
abbrev safe_opt_offset : Nat := 0x110B
/-- `safe.opt_tol` (R396). -/
abbrev safe_opt_tol : Nat := 0x110C
/-- `safe.i_max` (R396). -/
abbrev safe_i_max : Nat := 0x110D
/-- `safe.stop_filter_us` (R396). -/
abbrev safe_stop_filter_us : Nat := 0x110E
/-- `safe.discrep_ms` (R396). -/
abbrev safe_discrep_ms : Nat := 0x110F
/-- `safe.start_mode` (R396). -/
abbrev safe_start_mode : Nat := 0x1110
/-- `safe.a_test_ms` (R396). -/
abbrev safe_a_test_ms : Nat := 0x1111
/-- `safe.b_test_ms` (R396). -/
abbrev safe_b_test_ms : Nat := 0x1112
/-- `safe.a_rb_off_us` (R396). -/
abbrev safe_a_rb_off_us : Nat := 0x1113
/-- `safe.b_rb_off_us` (R396). -/
abbrev safe_b_rb_off_us : Nat := 0x1114
/-- `safe.b_en` (R396). -/
abbrev safe_b_en : Nat := 0x1115
/-- `safe.b_n` (R396). -/
abbrev safe_b_n : Nat := 0x1116
/-- `safe.b_m` (R396). -/
abbrev safe_b_m : Nat := 0x1117
/-- `safe.b_conf_min` (R396). -/
abbrev safe_b_conf_min : Nat := 0x1118
/-- `safe.b_class_mask` (R396). -/
abbrev safe_b_class_mask : Nat := 0x1119
/-- `safe.b_restart` (R396). -/
abbrev safe_b_restart : Nat := 0x111A
/-- `safe.b_clear_frames` (R396). -/
abbrev safe_b_clear_frames : Nat := 0x111B
/-- `safe.field` (R396). -/
abbrev safe_field : Nat := 0x111C
/-- `mem.speed` (R526). -/
abbrev mem_speed : Nat := 0x1200
/-- `mem.patrol_en` (R526). -/
abbrev mem_patrol_en : Nat := 0x1201
/-- `mem.patrol_h` (R526). -/
abbrev mem_patrol_h : Nat := 0x1202
/-- `mem.die_ce_thresh` (R526). -/
abbrev mem_die_ce_thresh : Nat := 0x1203
/-- `mem.halt_ue` (R526). -/
abbrev mem_halt_ue : Nat := 0x1204
/-- `hk.chain_src` (R551). -/
abbrev hk_chain_src : Nat := 0x1300
/-- `hk.chain_preset` (R551). -/
abbrev hk_chain_preset : Nat := 0x1301
/-- `hk.dc_shift` (R551). -/
abbrev hk_dc_shift : Nat := 0x1302
/-- `hk.lead_mohm` (R551). -/
abbrev hk_lead_mohm : Nat := 0x1303
/-- `hk.sh` (R551). -/
abbrev hk_sh : Nat := 0x1304
/-- `hk.poly` (R551). -/
abbrev hk_poly : Nat := 0x1305
/-- `hk.ref_tc` (R551). -/
abbrev hk_ref_tc : Nat := 0x1306
/-- `hk.cal` (R551). -/
abbrev hk_cal : Nat := 0x1307
/-- `hk.ctl` (R551). -/
abbrev hk_ctl : Nat := 0x1308
/-- `hk.chain_cfg` (R551). -/
abbrev hk_chain_cfg : Nat := 0x1309
/-- `hk.sense_cfg` (R551). -/
abbrev hk_sense_cfg : Nat := 0x130A
/-- `thm.damper_min` (R551). -/
abbrev thm_damper_min : Nat := 0x1400
/-- `pwr.slice_en` (R573). -/
abbrev pwr_slice_en : Nat := 0x1401
/-- `pwr.tap_en` (R573). -/
abbrev pwr_tap_en : Nat := 0x1402
/-- `pwr.pace_margin_pct` (R573). -/
abbrev pwr_pace_margin_pct : Nat := 0x1403
/-- `pwr.v_min_mv` (R573). -/
abbrev pwr_v_min_mv : Nat := 0x1404
/-- `pwr.v_max_mv` (R573). -/
abbrev pwr_v_max_mv : Nat := 0x1405
/-- `pwr.avs_rail` (R573). -/
abbrev pwr_avs_rail : Nat := 0x1406
/-- `pwr.ctl` (R573). -/
abbrev pwr_ctl : Nat := 0x1407
/-- `evt.route` (R612). -/
abbrev evt_route : Nat := 0x1600

end P

/-- Parameters of the `cfg` namespace. -/
def paramsCfg : List Param := [
  ⟨"cfg.boot_overlay", P.cfg_boot_overlay, 1, 1, .s, .base, 0, 15, 0, false, 0⟩]

/-- Parameters of the `store` namespace. -/
def paramsStore : List Param := [
  ⟨"store.clk_mhz", P.store_clk_mhz, 1, 1, .s, .base, 50, 200, 0, false, 100⟩,
  ⟨"store.endurance", P.store_endurance, 4, 1, .i, .base, 10000, 1000000, 0, false, 100000⟩]

/-- Parameters of the `time` namespace. -/
def paramsTime : List Param := [
  ⟨"time.source", P.time_source, 1, 1, .i, .base, 0, 3, 0, false, 0⟩,
  ⟨"time.step_en", P.time_step_en, 1, 1, .i, .base, 0, 1, 0, false, 1⟩,
  ⟨"time.xo_comp_en", P.time_xo_comp_en, 1, 1, .i, .base, 0, 1, 0, false, 1⟩,
  ⟨"time.age_learn_en", P.time_age_learn_en, 1, 1, .i, .base, 0, 1, 0, false, 0⟩,
  ⟨"time.xo_c0", P.time_xo_c0, 4, 1, .i, .calibration, (-2147483648), 2147483647, 8, false, 0⟩,
  ⟨"time.xo_c1", P.time_xo_c1, 4, 1, .i, .calibration, (-2147483648), 2147483647, 8, false, 0⟩,
  ⟨"time.xo_c2", P.time_xo_c2, 4, 1, .i, .calibration, (-2147483648), 2147483647, 8, false, 0⟩,
  ⟨"time.xo_c3", P.time_xo_c3, 4, 1, .i, .calibration, (-2147483648), 2147483647, 8, false, 0⟩,
  ⟨"time.xo_age_ppb", P.time_xo_age_ppb, 4, 1, .i, .counters, (-100000), 100000, 0, false, 0⟩,
  ⟨"time.xo_temp_input", P.time_xo_temp_input, 1, 1, .i, .base, 0, 255, 0, false, 255⟩,
  ⟨"time.servo_tau_s", P.time_servo_tau_s, 2, 1, .i, .base, 1, 256, 0, false, 16⟩,
  ⟨"time.slew_max_ppb", P.time_slew_max_ppb, 4, 1, .i, .base, 1000, 500000, 0, false, 50000⟩,
  ⟨"time.step_ns", P.time_step_ns, 4, 1, .i, .base, 1000, 1000000000, 0, false, 1000000⟩,
  ⟨"time.holdover_s", P.time_holdover_s, 2, 1, .i, .base, 1, 3600, 0, false, 10⟩,
  ⟨"time.mark_latency_ns", P.time_mark_latency_ns, 4, 1, .i, .base, (-100000), 100000, 0, false, 0⟩,
  ⟨"time.slot_phase_ns", P.time_slot_phase_ns, 2, 1, .i, .base, 0, 3199, 0, false, 0⟩]

/-- Parameters of the `slot` namespace. -/
def paramsSlot : List Param := [
  ⟨"slot.groups", P.slot_groups, 1, 1, .f, .base, 1, 8, 0, false, 4⟩,
  ⟨"slot.group_phase", P.slot_group_phase, 1, 1, .f, .base, 0, 7, 0, false, 0⟩,
  ⟨"slot.frame_slots", P.slot_frame_slots, 2, 1, .f, .base, 7812, 62500, 0, true, 15625⟩,
  ⟨"slot.turn_slots", P.slot_turn_slots, 2, 1, .f, .base, 96, 8192, 0, false, 96⟩,
  ⟨"slot.positions", P.slot_positions, 2, 1, .f, .base, 4, 1024, 0, true, 1024⟩,
  ⟨"slot.seg_group", P.slot_seg_group, 1, 256, .f, .base, 0, 7, 0, false, 0⟩,
  ⟨"slot.seg_rows", P.slot_seg_rows, 1, 256, .f, .base, 0, 255, 0, true, 0⟩]

/-- Parameters of the `fe` namespace. -/
def paramsFe : List Param := [
  ⟨"fe.ch_cfg", P.fe_ch_cfg, 1, 512, .d, .base, 0, 127, 0, false, 0⟩,
  ⟨"fe.thr_fix", P.fe_thr_fix, 4, 512, .d, .base, 0, 1073741823, 0, false, 0⟩,
  ⟨"fe.offset", P.fe_offset, 2, 512, .d, .calibration, (-512), 511, 0, false, 0⟩,
  ⟨"fe.holdoff", P.fe_holdoff, 1, 64, .d, .base, 6, 128, 0, false, 10⟩,
  ⟨"fe.blank", P.fe_blank, 1, 64, .d, .base, 0, 50, 0, false, 8⟩,
  ⟨"fe.xbar_settle_ns", P.fe_xbar_settle_ns, 1, 1, .f, .base, 2, 25, 0, false, 10⟩]

/-- Parameters of the `ember` namespace. -/
def paramsEmber : List Param := [
  ⟨"ember.ref_delay_ns", P.ember_ref_delay_ns, 1, 1, .f, .base, 0, 100, 0, false, 24⟩,
  ⟨"ember.ref_tol", P.ember_ref_tol, 1, 1, .f, .base, 1, 8, 0, false, 4⟩,
  ⟨"ember.win_min", P.ember_win_min, 2, 1, .f, .base, 640, 8000, 0, false, 1024⟩,
  ⟨"ember.walk_lut", P.ember_walk_lut, 64, 64, .f, .calibration, 0, 13407807929942597099574024998205846127479365820592393377723561443721764030073546976801874298166903427690031858186486050853753882811946569946433649006084095, 0, false, 0⟩,
  ⟨"ember.ctl", P.ember_ctl, 4, 64, .d, .base, 0, 4294967295, 0, false, 0⟩,
  ⟨"ember.win_fix", P.ember_win_fix, 4, 64, .d, .base, 0, 4294967295, 0, false, 0⟩]

/-- Parameters of the `burnish` namespace. -/
def paramsBurnish : List Param := [
  ⟨"burnish.delta_t", P.burnish_delta_t, 2, 1, .f, .base, 128, 5120, 8, false, 768⟩,
  ⟨"burnish.delta_urgent", P.burnish_delta_urgent, 2, 1, .f, .base, 1024, 10240, 8, false, 2048⟩,
  ⟨"burnish.defer_max_frames", P.burnish_defer_max_frames, 1, 1, .f, .base, 1, 255, 0, false, 16⟩,
  ⟨"burnish.min_events", P.burnish_min_events, 4, 1, .f, .base, 65536, 4194304, 0, false, 262144⟩,
  ⟨"burnish.max_block_s", P.burnish_max_block_s, 2, 1, .f, .base, 1, 3600, 0, false, 120⟩,
  ⟨"burnish.temp_spread", P.burnish_temp_spread, 2, 1, .f, .base, 64, 1280, 8, false, 256⟩,
  ⟨"burnish.spike_pct", P.burnish_spike_pct, 1, 1, .f, .base, 5, 100, 0, false, 25⟩,
  ⟨"burnish.sel_hyst", P.burnish_sel_hyst, 2, 1, .f, .base, 3, 128, 8, false, 13⟩,
  ⟨"burnish.coverage_ps", P.burnish_coverage_ps, 4, 1, .f, .base, 102528, 107520, 8, false, 102912⟩,
  ⟨"burnish.trim_min_pairs", P.burnish_trim_min_pairs, 2, 1, .f, .base, 16, 4096, 0, false, 64⟩,
  ⟨"burnish.commit_period_h", P.burnish_commit_period_h, 2, 1, .f, .base, 0, 720, 0, false, 24⟩,
  ⟨"burnish.rz_t0", P.burnish_rz_t0, 2, 1, .f, .calibration, (-640), 2000, 4, false, 400⟩,
  ⟨"burnish.ctl", P.burnish_ctl, 4, 1, .f, .base, 0, 4294967295, 0, false, 0⟩]

/-- Parameters of the `cal` namespace. R151 does not say whether an imported `cal.cell_sel` must select 64 cells: the model takes any mask of
80 cells (DESIGN CHOICE, log entry 168). -/
def paramsCal : List Param := [
  ⟨"cal.cmp_trim", P.cal_cmp_trim, 4, 512, .f, .calibration, 0, 0x3F3F3F, 0, false, 0⟩,
  ⟨"cal.cell_sel", P.cal_cell_sel, 10, 514, .f, .calibration, 0, 1208925819614629174706175, 0, false, 0⟩,
  ⟨"cal.bin_table", P.cal_bin_table, 128, 514, .f, .calibration, 0, 179769313486231590772930519078902473361797697894230657273430081157732675805500963132708477322407536021120113879871393357658789768814416622492847430639474124377767893424865485276302219601246094119453082952085005768838150682342462881473913110540827237163350510684586298239947245938479716304835356329624224137215, 0, false, 0⟩,
  ⟨"cal.bur_t", P.cal_bur_t, 2, 66, .f, .calibration, (-32768), 32767, 4, false, 0⟩,
  ⟨"cal.range_zero", P.cal_range_zero, 2, 512, .f, .calibration, (-32768), 32767, 0, false, 0⟩,
  ⟨"cal.range_zero_tc", P.cal_range_zero_tc, 1, 64, .f, .calibration, (-128), 127, 0, false, 0⟩]

/-- Parameters of the `code` namespace. -/
def paramsCode : List Param := [
  ⟨"code.min_gap", P.code_min_gap, 1, 1, .f, .base, 16, 64, 0, false, 16⟩,
  ⟨"code.book_sel", P.code_book_sel, 1, 1, .f, .base, 0, 1, 0, false, 0⟩,
  ⟨"code.book", P.code_book, 16, 64, .f, .base, 0, 340282366920938463463374607431768211455, 0, false, 0⟩,
  ⟨"code.group", P.code_group, 1, 8, .f, .base, 0, 63, 0, false, 0⟩]

/-- Parameters of the `blw` namespace. -/
def paramsBlw : List Param := [
  ⟨"blw.e_drivers", P.blw_e_drivers, 1, 1, .b, .base, 1, 16, 0, false, 16⟩,
  ⟨"blw.l_drivers", P.blw_l_drivers, 1, 1, .b, .base, 1, 16, 0, false, 16⟩,
  ⟨"blw.ctl", P.blw_ctl, 4, 1, .b, .base, 0, 4294967295, 0, false, 0⟩]

/-- Parameters of the `emit` namespace. -/
def paramsEmit : List Param := [
  ⟨"emit.e_max", P.emit_e_max, 2, 1, .f, .base, 0, 65535, 0, false, 0⟩,
  ⟨"emit.temp_input", P.emit_temp_input, 1, 1, .f, .base, 0, 255, 0, false, 255⟩,
  ⟨"emit.fail_shots", P.emit_fail_shots, 1, 1, .f, .base, 1, 255, 0, false, 8⟩,
  ⟨"emit.count_commit_h", P.emit_count_commit_h, 1, 1, .f, .base, 1, 168, 0, false, 24⟩,
  ⟨"emit.wear_limit", P.emit_wear_limit, 4, 1, .f, .base, 0, 4294967295, 0, false, 0⟩,
  ⟨"emit.wear_warn_pct", P.emit_wear_warn_pct, 1, 1, .f, .base, 50, 99, 0, false, 90⟩,
  ⟨"emit.auto_subst", P.emit_auto_subst, 1, 1, .f, .base, 0, 1, 0, false, 1⟩,
  ⟨"emit.spare", P.emit_spare, 2, 32, .f, .base, 0, 65535, 0, false, 0⟩,
  ⟨"emit.cal", P.emit_cal, 6, 256, .f, .calibration, 0, 281474976710655, 0, false, 0⟩]

/-- Parameters of the `lamp` namespace. -/
def paramsLamp : List Param := [
  ⟨"lamp.freq_hz", P.lamp_freq_hz, 2, 1, .f, .base, 1, 2000, 0, false, 100⟩,
  ⟨"lamp.src", P.lamp_src, 1, 256, .f, .base, 0, 255, 0, false, 255⟩,
  ⟨"lamp.duty", P.lamp_duty, 2, 256, .f, .base, 0, 65535, 0, false, 0⟩,
  ⟨"lamp.cal", P.lamp_cal, 2, 256, .f, .calibration, 0, 65535, 0, false, 32768⟩,
  ⟨"lamp.sync_pol", P.lamp_sync_pol, 1, 1, .f, .base, 0, 255, 0, false, 0⟩,
  ⟨"lamp.sync_delay_ns", P.lamp_sync_delay_ns, 4, 8, .f, .base, (-100000), 100000, 0, false, 0⟩]

/-- Parameters of the `kiln` namespace. -/
def paramsKiln : List Param := [
  ⟨"kiln.group_max", P.kiln_group_max, 2, 1, .d, .base, 16, 1024, 0, false, 256⟩,
  ⟨"kiln.peak_min", P.kiln_peak_min, 1, 1, .d, .base, 2, 255, 0, false, 6⟩,
  ⟨"kiln.peak_sigma", P.kiln_peak_sigma, 1, 1, .d, .base, 16, 255, 4, false, 80⟩,
  ⟨"kiln.cent_gate", P.kiln_cent_gate, 2, 1, .d, .base, 32, 1024, 0, false, 320⟩,
  ⟨"kiln.pulse_fwhm_ps", P.kiln_pulse_fwhm_ps, 2, 1, .d, .base, 500, 20000, 0, false, 2000⟩,
  ⟨"kiln.range_scale_ppm", P.kiln_range_scale_ppm, 2, 1, .d, .base, (-1000), 1000, 0, false, 0⟩,
  ⟨"kiln.int_level", P.kiln_int_level, 1, 1, .d, .base, 1, 2, 0, false, 1⟩,
  ⟨"kiln.int_thresh", P.kiln_int_thresh, 1, 1, .d, .base, 1, 255, 0, false, 4⟩,
  ⟨"kiln.norm_range_m", P.kiln_norm_range_m, 1, 1, .d, .base, 1, 200, 0, false, 10⟩,
  ⟨"kiln.norm_energy_nj", P.kiln_norm_energy_nj, 2, 1, .d, .base, 1, 65535, 0, false, 1000⟩,
  ⟨"kiln.ctl", P.kiln_ctl, 4, 64, .d, .base, 0, 4294967295, 0, false, 0⟩,
  ⟨"kiln.retro_mv", P.kiln_retro_mv, 2, 1, .f, .base, 100, 1023, 0, false, 500⟩,
  ⟨"kiln.int_support", P.kiln_int_support, 1, 1, .f, .base, 1, 255, 8, false, 128⟩,
  ⟨"kiln.mp_span_m", P.kiln_mp_span_m, 1, 1, .f, .base, 1, 200, 0, false, 30⟩,
  ⟨"kiln.mp_ratio", P.kiln_mp_ratio, 1, 1, .f, .base, 1, 255, 8, false, 16⟩,
  ⟨"kiln.fog_width_ps", P.kiln_fog_width_ps, 4, 1, .f, .base, 1000, 100000, 0, false, 8000⟩,
  ⟨"kiln.wx_range_m", P.kiln_wx_range_m, 1, 1, .f, .base, 1, 200, 0, false, 40⟩,
  ⟨"kiln.wx_spread_ps", P.kiln_wx_spread_ps, 2, 1, .f, .base, 100, 10000, 0, false, 1200⟩,
  ⟨"kiln.wx_support", P.kiln_wx_support, 1, 1, .f, .base, 1, 255, 8, false, 128⟩,
  ⟨"kiln.ext_width_ps", P.kiln_ext_width_ps, 4, 1, .f, .base, 1000, 100000, 0, false, 4000⟩]

/-- Parameters of the `tap` namespace. -/
def paramsTap : List Param := [
  ⟨"tap.pre_ns", P.tap_pre_ns, 1, 1, .f, .base, 0, 50, 0, false, 8⟩,
  ⟨"tap.post_ns", P.tap_post_ns, 1, 1, .f, .base, 0, 100, 0, false, 16⟩,
  ⟨"tap.win_default", P.tap_win_default, 2, 1, .f, .base, 32, 512, 0, false, 256⟩,
  ⟨"tap.x2_below_mv", P.tap_x2_below_mv, 2, 1, .f, .base, 10, 290, 0, false, 200⟩,
  ⟨"tap.base_n", P.tap_base_n, 1, 1, .f, .base, 8, 64, 0, false, 16⟩,
  ⟨"tap.pk_sigma", P.tap_pk_sigma, 1, 1, .f, .base, 48, 255, 4, false, 80⟩,
  ⟨"tap.wx_stray", P.tap_wx_stray, 1, 1, .f, .base, 1, 8, 0, false, 3⟩,
  ⟨"tap.fog_ped", P.tap_fog_ped, 1, 1, .f, .base, 16, 255, 4, false, 48⟩,
  ⟨"tap.ctl", P.tap_ctl, 4, 1, .i, .base, 0, 4294967295, 0, false, 0⟩,
  ⟨"tap.cal", P.tap_cal, 12, 64, .f, .calibration, 0, 79228162514264337593543950335, 0, false, 0⟩]

/-- Parameters of the `turf` namespace. -/
def paramsTurf : List Param := [
  ⟨"turf.k_lo", P.turf_k_lo, 1, 1, .f, .base, 32, 128, 4, false, 52⟩,
  ⟨"turf.k_mid", P.turf_k_mid, 1, 1, .f, .base, 32, 255, 4, false, 96⟩,
  ⟨"turf.k_hi", P.turf_k_hi, 2, 1, .f, .base, 32, 511, 4, false, 192⟩,
  ⟨"turf.lo_min", P.turf_lo_min, 2, 1, .f, .base, 1, 1023, 0, false, 17⟩,
  ⟨"turf.lo_max", P.turf_lo_max, 2, 1, .f, .base, 1, 1023, 0, false, 512⟩,
  ⟨"turf.mid_min", P.turf_mid_min, 2, 1, .f, .base, 1, 1023, 0, false, 120⟩,
  ⟨"turf.hi_min", P.turf_hi_min, 2, 1, .f, .base, 1, 1023, 0, false, 400⟩,
  ⟨"turf.nu0_mhz", P.turf_nu0_mhz, 2, 1, .f, .base, 50, 2000, 0, false, 693⟩,
  ⟨"turf.sat_frac", P.turf_sat_frac, 1, 1, .f, .base, 64, 243, 8, false, 192⟩,
  ⟨"turf.ash_sat_up", P.turf_ash_sat_up, 1, 1, .f, .base, 24, 128, 4, false, 72⟩,
  ⟨"turf.ash_min_n", P.turf_ash_min_n, 2, 1, .f, .base, 4, 1024, 0, false, 32⟩,
  ⟨"turf.ash_tmax_us", P.turf_ash_tmax_us, 2, 1, .f, .base, 10, 419, 0, false, 400⟩,
  ⟨"turf.ash_up_shift", P.turf_ash_up_shift, 1, 1, .f, .base, 0, 4, 0, false, 1⟩,
  ⟨"turf.ash_down_shift", P.turf_ash_down_shift, 1, 1, .f, .base, 0, 6, 0, false, 2⟩,
  ⟨"turf.acq_ash_mv", P.turf_acq_ash_mv, 2, 1, .f, .base, 64, 25600, 8, false, 1024⟩,
  ⟨"turf.win_pre", P.turf_win_pre, 2, 1, .f, .base, 0, 8000, 0, false, 750⟩,
  ⟨"turf.win_post", P.turf_win_post, 2, 1, .f, .base, 0, 8000, 0, false, 1000⟩,
  ⟨"turf.win_conf", P.turf_win_conf, 1, 1, .f, .base, 0, 63, 0, false, 32⟩,
  ⟨"turf.win_probe", P.turf_win_probe, 1, 1, .f, .base, 1, 7, 0, false, 4⟩,
  ⟨"turf.dwell_min", P.turf_dwell_min, 1, 1, .f, .base, 1, 64, 0, false, 1⟩]

/-- Parameters of the `turf` namespace. -/
def paramsTurf1 : List Param := [
  ⟨"turf.dwell_max", P.turf_dwell_max, 1, 1, .f, .base, 1, 64, 0, false, 16⟩,
  ⟨"turf.dwell_noecho", P.turf_dwell_noecho, 1, 1, .f, .base, 1, 64, 0, false, 2⟩,
  ⟨"turf.acq_dwell", P.turf_acq_dwell, 1, 1, .f, .base, 1, 64, 0, false, 4⟩,
  ⟨"turf.conf_lo", P.turf_conf_lo, 1, 1, .f, .base, 0, 63, 0, false, 24⟩,
  ⟨"turf.conf_hi", P.turf_conf_hi, 1, 1, .f, .base, 0, 63, 0, false, 48⟩,
  ⟨"turf.e_min_nj", P.turf_e_min_nj, 2, 1, .f, .base, 0, 65535, 0, false, 200⟩,
  ⟨"turf.acq_energy_nj", P.turf_acq_energy_nj, 2, 1, .f, .base, 0, 65535, 0, false, 1000⟩,
  ⟨"turf.e_up", P.turf_e_up, 1, 1, .f, .base, 17, 32, 4, false, 20⟩,
  ⟨"turf.amp_hi_mv", P.turf_amp_hi_mv, 2, 1, .f, .base, 50, 1023, 0, false, 400⟩,
  ⟨"turf.edge_cp", P.turf_edge_cp, 2, 1, .f, .base, 1, 1000, 0, false, 17⟩,
  ⟨"turf.tp_wx", P.turf_tp_wx, 1, 1, .f, .base, 0, 15, 0, false, 12⟩,
  ⟨"turf.tp_multi", P.turf_tp_multi, 1, 1, .f, .base, 0, 15, 0, false, 8⟩,
  ⟨"turf.tp_edge", P.turf_tp_edge, 1, 1, .f, .base, 0, 15, 0, false, 8⟩,
  ⟨"turf.tp_lowconf", P.turf_tp_lowconf, 1, 1, .f, .base, 0, 15, 0, false, 6⟩,
  ⟨"turf.tp_int", P.turf_tp_int, 1, 1, .f, .base, 0, 15, 0, false, 4⟩,
  ⟨"turf.tp_acq", P.turf_tp_acq, 1, 1, .f, .base, 0, 15, 0, false, 2⟩,
  ⟨"turf.hold_max_s", P.turf_hold_max_s, 2, 1, .f, .base, 1, 3600, 0, false, 5⟩,
  ⟨"turf.ctl", P.turf_ctl, 4, 1, .f, .base, 0, 4294967295, 0, false, 0⟩]

/-- Parameters of the `scan` namespace. -/
def paramsScan : List Param := [
  ⟨"scan.subcols", P.scan_subcols, 1, 1, .f, .base, 1, 4, 0, true, 4⟩,
  ⟨"scan.x_first", P.scan_x_first, 2, 1, .f, .base, (-32768), 32767, 0, true, 41536⟩,
  ⟨"scan.x_last", P.scan_x_last, 2, 1, .f, .base, (-32768), 32767, 0, true, 24000⟩,
  ⟨"scan.y_set", P.scan_y_set, 2, 2, .f, .base, (-32768), 32767, 0, false, 0⟩,
  ⟨"scan.kp", P.scan_kp, 4, 2, .d, .base, 0, 262144, 8, false, 512⟩,
  ⟨"scan.ki", P.scan_ki, 4, 2, .d, .base, 0, 16384, 8, false, 13⟩,
  ⟨"scan.kd", P.scan_kd, 4, 2, .d, .base, 0, 1048576, 8, false, 2048⟩,
  ⟨"scan.d_alpha", P.scan_d_alpha, 1, 2, .d, .base, 0, 255, 8, false, 192⟩,
  ⟨"scan.subcol_phase_ns", P.scan_subcol_phase_ns, 4, 2, .f, .base, (-50000), 50000, 0, false, 0⟩,
  ⟨"scan.track_tol", P.scan_track_tol, 2, 1, .f, .base, 1, 32767, 0, false, 400⟩,
  ⟨"scan.track_fault", P.scan_track_fault, 2, 1, .f, .base, 1, 32767, 0, false, 4000⟩,
  ⟨"scan.ramp_ms", P.scan_ramp_ms, 2, 1, .f, .base, 10, 2000, 0, false, 200⟩,
  ⟨"scan.settle_ms", P.scan_settle_ms, 2, 1, .f, .base, 1, 500, 0, false, 50⟩,
  ⟨"scan.slope_ratio", P.scan_slope_ratio, 1, 1, .f, .base, 16, 128, 4, false, 32⟩,
  ⟨"scan.cal_slots", P.scan_cal_slots, 1, 1, .f, .base, 0, 32, 0, false, 0⟩,
  ⟨"scan.ctl", P.scan_ctl, 4, 1, .f, .base, 0, 4294967295, 0, false, 0⟩]

/-- Parameters of the `out` namespace. -/
def paramsOut : List Param := [
  ⟨"out.ctl", P.out_ctl, 4, 1, .f, .base, 0, 4294967295, 0, false, 0⟩,
  ⟨"out.ring", P.out_ring, 16, 3, .f, .base, 0, 340282366920938463463374607431768211455, 0, false, 0⟩,
  ⟨"out.hist_region", P.out_hist_region, 12, 1, .f, .base, 0, 79228162514264337593543950335, 0, false, 0⟩]

/-- Parameters of the `peer` namespace. -/
def paramsPeer : List Param := [
  ⟨"peer.rank", P.peer_rank, 1, 1, .i, .base, 0, 3, 0, false, 1⟩,
  ⟨"peer.code_pool", P.peer_code_pool, 8, 1, .i, .base, 0, 18446744073709551615, 0, false, 18446744073709551615⟩,
  ⟨"peer.announce_ms", P.peer_announce_ms, 1, 1, .f, .base, 5, 50, 0, false, 10⟩,
  ⟨"peer.sync_hz", P.peer_sync_hz, 1, 1, .f, .base, 16, 128, 0, false, 64⟩,
  ⟨"peer.asym_ps", P.peer_asym_ps, 4, 4, .f, .base, (-100000), 100000, 0, false, 0⟩,
  ⟨"peer.ctl", P.peer_ctl, 4, 1, .f, .base, 0, 4294967295, 0, false, 0⟩]

/-- Parameters of the `safe` namespace. -/
def paramsSafe : List Param := [
  ⟨"safe.win_slots", P.safe_win_slots, 4, 1, .f, .safety, 3125, 312500, 0, false, 31250⟩,
  ⟨"safe.e_dir_nj", P.safe_e_dir_nj, 4, 1, .f, .safety, 4, 67108860, 0, false, 1000⟩,
  ⟨"safe.e_seg_nj", P.safe_e_seg_nj, 2, 1, .f, .safety, 1, 65535, 0, false, 250⟩,
  ⟨"safe.seg_slope", P.safe_seg_slope, 2, 256, .f, .safety, 0, 65535, 0, false, 0⟩,
  ⟨"safe.seg_zero", P.safe_seg_zero, 2, 256, .f, .safety, 0, 65535, 0, false, 0⟩,
  ⟨"safe.guard", P.safe_guard, 2, 1, .f, .safety, 0, 64, 0, false, 16⟩,
  ⟨"safe.v_min", P.safe_v_min, 2, 1, .f, .safety, 1, 32767, 0, false, 100⟩,
  ⟨"safe.still_max_us", P.safe_still_max_us, 2, 1, .f, .safety, 100, 5000, 0, false, 1000⟩,
  ⟨"safe.travel_lo", P.safe_travel_lo, 2, 1, .f, .safety, (-32768), 32767, 0, false, 33536⟩,
  ⟨"safe.travel_hi", P.safe_travel_hi, 2, 1, .f, .safety, (-32768), 32767, 0, false, 32000⟩,
  ⟨"safe.opt_gain", P.safe_opt_gain, 2, 1, .f, .safety, (-32768), 32767, 0, false, 4096⟩,
  ⟨"safe.opt_offset", P.safe_opt_offset, 2, 1, .f, .safety, (-32768), 32767, 0, false, 0⟩,
  ⟨"safe.opt_tol", P.safe_opt_tol, 2, 1, .f, .safety, 16, 32767, 0, false, 2000⟩,
  ⟨"safe.i_max", P.safe_i_max, 2, 1, .f, .safety, 1, 32767, 0, false, 32767⟩,
  ⟨"safe.stop_filter_us", P.safe_stop_filter_us, 2, 1, .f, .safety, 100, 5000, 0, false, 500⟩,
  ⟨"safe.discrep_ms", P.safe_discrep_ms, 2, 1, .f, .safety, 10, 500, 0, false, 100⟩,
  ⟨"safe.start_mode", P.safe_start_mode, 1, 1, .f, .safety, 0, 1, 0, false, 0⟩,
  ⟨"safe.a_test_ms", P.safe_a_test_ms, 1, 1, .f, .safety, 50, 250, 0, false, 100⟩,
  ⟨"safe.b_test_ms", P.safe_b_test_ms, 1, 1, .f, .safety, 50, 250, 0, false, 200⟩,
  ⟨"safe.a_rb_off_us", P.safe_a_rb_off_us, 2, 1, .f, .safety, 10, 140, 0, false, 100⟩]

/-- Parameters of the `safe` namespace. -/
def paramsSafe1 : List Param := [
  ⟨"safe.b_rb_off_us", P.safe_b_rb_off_us, 2, 1, .f, .safety, 10, 290, 0, false, 200⟩,
  ⟨"safe.b_en", P.safe_b_en, 1, 1, .f, .safety, 0, 1, 0, false, 0⟩,
  ⟨"safe.b_n", P.safe_b_n, 1, 1, .f, .safety, 1, 16, 0, false, 2⟩,
  ⟨"safe.b_m", P.safe_b_m, 1, 1, .f, .safety, 1, 16, 0, false, 3⟩,
  ⟨"safe.b_conf_min", P.safe_b_conf_min, 1, 1, .f, .safety, 0, 63, 0, false, 16⟩,
  ⟨"safe.b_class_mask", P.safe_b_class_mask, 2, 1, .f, .safety, 0, 65535, 0, false, 230⟩,
  ⟨"safe.b_restart", P.safe_b_restart, 1, 1, .f, .safety, 0, 1, 0, false, 0⟩,
  ⟨"safe.b_clear_frames", P.safe_b_clear_frames, 1, 1, .f, .safety, 1, 255, 0, false, 2⟩,
  ⟨"safe.field", P.safe_field, 2, 131072, .f, .safety, 0, 65535, 0, false, 0⟩]

/-- Parameters of the `mem` namespace. -/
def paramsMem : List Param := [
  ⟨"mem.speed", P.mem_speed, 2, 1, .s, .base, 3200, 4266, 0, false, 4266⟩,
  ⟨"mem.patrol_en", P.mem_patrol_en, 1, 1, .i, .base, 0, 1, 0, false, 1⟩,
  ⟨"mem.patrol_h", P.mem_patrol_h, 2, 1, .i, .base, 1, 720, 0, false, 24⟩,
  ⟨"mem.die_ce_thresh", P.mem_die_ce_thresh, 2, 1, .i, .base, 16, 65535, 0, false, 4096⟩,
  ⟨"mem.halt_ue", P.mem_halt_ue, 2, 1, .i, .base, 1, 1024, 0, false, 64⟩]

/-- Parameters of the `hk` namespace. -/
def paramsHk : List Param := [
  ⟨"hk.chain_src", P.hk_chain_src, 1, 4, .i, .base, 0, 3, 0, false, 0⟩,
  ⟨"hk.chain_preset", P.hk_chain_preset, 1, 4, .i, .base, 0, 3, 0, false, 2⟩,
  ⟨"hk.dc_shift", P.hk_dc_shift, 1, 4, .i, .base, 4, 16, 0, false, 10⟩,
  ⟨"hk.lead_mohm", P.hk_lead_mohm, 2, 32, .i, .calibration, 0, 65535, 0, false, 0⟩,
  ⟨"hk.sh", P.hk_sh, 4, 3, .i, .base, 0, 4294967295, 0, false, 0⟩,
  ⟨"hk.poly", P.hk_poly, 24, 4, .i, .base, 0, 6277101735386680763835789423207666416102355444464034512895, 0, false, 0⟩,
  ⟨"hk.ref_tc", P.hk_ref_tc, 1, 64, .i, .calibration, (-128), 127, 0, false, 0⟩,
  ⟨"hk.cal", P.hk_cal, 4, 36, .i, .calibration, 0, 4294967295, 0, false, 32768⟩,
  ⟨"hk.ctl", P.hk_ctl, 4, 1, .i, .base, 0, 4294967295, 0, false, 0⟩,
  ⟨"hk.chain_cfg", P.hk_chain_cfg, 4, 4, .i, .base, 0, 4294967295, 0, false, 0⟩,
  ⟨"hk.sense_cfg", P.hk_sense_cfg, 4, 32, .i, .base, 0, 4294967295, 0, false, 0⟩]

/-- Parameters of the `thm` namespace. -/
def paramsThm : List Param := [
  ⟨"thm.damper_min", P.thm_damper_min, 1, 1, .i, .base, 0, 7, 0, false, 0⟩]

/-- Parameters of the `pwr` namespace. -/
def paramsPwr : List Param := [
  ⟨"pwr.slice_en", P.pwr_slice_en, 8, 1, .f, .base, 0, 18446744073709551615, 0, false, 18446744073709551615⟩,
  ⟨"pwr.tap_en", P.pwr_tap_en, 1, 1, .f, .base, 0, 255, 0, false, 255⟩,
  ⟨"pwr.pace_margin_pct", P.pwr_pace_margin_pct, 1, 1, .i, .base, 2, 20, 0, false, 8⟩,
  ⟨"pwr.v_min_mv", P.pwr_v_min_mv, 2, 1, .i, .base, 600, 850, 0, false, 600⟩,
  ⟨"pwr.v_max_mv", P.pwr_v_max_mv, 2, 1, .i, .base, 600, 850, 0, false, 850⟩,
  ⟨"pwr.avs_rail", P.pwr_avs_rail, 1, 1, .s, .base, 0, 15, 0, false, 0⟩,
  ⟨"pwr.ctl", P.pwr_ctl, 4, 1, .i, .base, 0, 4294967295, 0, false, 0⟩]

/-- Parameters of the `evt` namespace. -/
def paramsEvt : List Param := [
  ⟨"evt.route", P.evt_route, 1, 640, .i, .base, 0, 255, 0, false, 0⟩]

/-- Every parameter, in index order of the namespaces. -/
def paramRows : List Param := paramsCfg ++ paramsStore ++ paramsTime ++ paramsSlot ++ paramsFe ++ paramsEmber ++ paramsBurnish ++ paramsCal ++ paramsCode ++ paramsBlw ++ paramsEmit ++ paramsLamp ++ paramsKiln ++ paramsTap ++ paramsTurf ++ paramsTurf1 ++ paramsScan ++ paramsOut ++ paramsPeer ++ paramsSafe ++ paramsSafe1 ++ paramsMem ++ paramsHk ++ paramsThm ++ paramsPwr ++ paramsEvt

/-- The parameter with an index. -/
def param? (i : Nat) : Option Param := paramRows.find? (·.index == i)

/-- The register fields a parameter element is the retained copy of, each with its byte offset in the element (R477); empty
for a parameter that no register copies. -/
def paramParts (i e : Nat) : List (Fld × Nat) :=
  match i with
  | 0x0100 => [(F.TIME_CTL_SOURCE, 0)]
  | 0x0101 => [(F.TIME_CTL_STEP_EN, 0)]
  | 0x0102 => [(F.TIME_CTL_XO_COMP_EN, 0)]
  | 0x0103 => [(F.TIME_CTL_AGE_LEARN_EN, 0)]
  | 0x0300 => [(⟨Reg.SLICE_CH_CFG (e / 8) (e % 8), 0, 7⟩, 0)]
  | 0x0301 => [(⟨Reg.SLICE_CH_THR_FIX (e / 8) (e % 8), 0, 30⟩, 0)]
  | 0x0302 => [(F.SLICE_CH_CFG_OFFSET (e / 8) (e % 8), 0)]
  | 0x0303 => [(F.SLICE_FE_CTL_HOLDOFF e, 0)]
  | 0x0304 => [(F.SLICE_FE_CTL_BLANK e, 0)]
  | 0x0404 => [(⟨Reg.SLICE_EM_CTL e, 0, 32⟩, 0)]
  | 0x0405 => [(⟨Reg.SLICE_EM_WIN_FIX e, 0, 32⟩, 0)]
  | 0x050C => [(⟨Reg.KILN_BUR_CTL, 0, 32⟩, 0)]
  | 0x0802 => [(⟨Reg.BLW_CTL, 0, 32⟩, 0)]
  | 0x0B05 => [(F.KILN_CTL_SCALE_PPM, 0)]
  | 0x0B0A => [(⟨Reg.SLICE_KILN_CTL e, 0, 32⟩, 0)]
  | 0x0C08 => [(⟨Reg.TAP_CTL, 0, 32⟩, 0)]
  | 0x0C09 => [(⟨Reg.TAP_T_CAL_X1 e, 0, 32⟩, 0), (⟨Reg.TAP_T_CAL_X2 e, 0, 32⟩, 4), (⟨Reg.TAP_T_DELAY e, 0, 32⟩, 8)]
  | 0x0D25 => [(⟨Reg.TURF_CTL, 0, 32⟩, 0)]
  | 0x0E0F => [(⟨Reg.SCN_CTL, 0, 32⟩, 0)]
  | 0x0F00 => [(⟨Reg.ING_CTL, 0, 32⟩, 0)]
  | 0x0F01 => [(⟨Reg.ING_S_BASE_LO e, 0, 32⟩, 0), (⟨Reg.ING_S_BASE_HI e, 0, 32⟩, 4), (⟨Reg.ING_S_SIZE e, 0, 32⟩, 8), (F.ING_S_CTL_EVERY e, 12)]
  | 0x0F02 => [(⟨Reg.ING_HIST_ROWS, 0, 32⟩, 0), (⟨Reg.ING_HIST_COLS, 0, 32⟩, 4), (⟨Reg.ING_HIST_CFG, 0, 32⟩, 8)]
  | 0x1005 => [(⟨Reg.PEER_CTL, 0, 32⟩, 0)]
  | 0x1201 => [(F.MEM_CTL_PATROL_EN, 0)]
  | 0x1202 => [(F.MEM_CTL_PATROL_H, 0)]
  | 0x1300 => [(F.HK_CHAIN_CFG_SRC (e + 4), 0)]
  | 0x1301 => [(F.HK_CHAIN_CFG_PRESET (e + 4), 0)]
  | 0x1302 => [(F.HK_CHAIN_CFG_DC_SHIFT (e + 4), 0)]
  | 0x1308 => [(⟨Reg.HK_CTL, 0, 32⟩, 0)]
  | 0x1309 => [(⟨Reg.HK_CHAIN_CFG (e + 4), 0, 32⟩, 0)]
  | 0x130A => [(⟨Reg.HK_SENSE_CFG e, 0, 32⟩, 0)]
  | 0x1407 => [(⟨Reg.PWR_CTL, 0, 32⟩, 0)]
  | 0x1600 => [(⟨Reg.EVT_ROUTE e, 0, 8⟩, 0)]
  | _ => []

end Sys2Proof
end

