-- ==== Sys2Proof/Machine/State.lean ====
section
/-! DEFINITION. The whole state of the part as plain data: every register, queue, counter, mode and engine the spec gives
it, the queue of waiting commands, and why a step can stop. -/

namespace Sys2Proof.Machine

/-- Why a step stops with a fault. -/
inductive Fault where
  /-- Raised by a command whose operands name no unit of the part (a list of the wrong length, an index beyond its array). Safe:
  the part has no such unit to act on. -/
  | illFormed
  deriving DecidableEq, Repr

/-- Why the model gives a command no meaning. -/
inductive Refusal where
  /-- Raised by an arm of the dispatch whose meaning is not written. Safe: nothing is claimed of the command. -/
  | notModelled (mnemonic : String)
  deriving DecidableEq, Repr

/-! ## Time (chapter 02) -/

/-- A frequency measurement in progress (R56, R57). -/
structure Fmeas where
  /-- 0 to 7 CAM_SYNC, 8 SYNC_IN, 9 peer reference, 10 CXL reference -/
  input : Nat
  gateMs : Nat
  /-- edges so far, newest first: index and stamp in 0.4 ns of device time -/
  edges : List (Nat × Nat)
  missing : Nat
  deriving DecidableEq, Repr

/-- Device time, discipline and slot timing (R31 to R57). -/
structure TimeSt where
  /-- coarse periods since the timing island left reset, whatever device time does -/
  ticks : Nat := 0
  /-- device time in units of 0.4 ns × 2^-40 -/
  acc : Nat := 0
  /-- servo rate, 2^-40 (R37, R42) -/
  rate : Int := 0
  /-- frequency integrator of the servo, 2^-40 (R42) -/
  fInt : Int := 0
  /-- ticks at the last applied offset, none before the first (R44) -/
  lastOffset : Option Nat := none
  /-- a step held for its boundary, ps (R43) -/
  heldStep : Option Int := none
  /-- the integrator summed over each tick of the present stretch of unbroken discipline, the ticks summed, and up to which tick (R35) -/
  learnSum : Int := 0
  learnLen : Nat := 0
  learnAt : Nat := 0
  /-- ageing move that waits for a slot boundary, ppb (R35) -/
  ageMove : Option Int := none
  /-- trim that the next slot boundary puts in force, ppb (R33) -/
  trimNext : Option Int := none
  /-- length of the present slot and coarse periods since its boundary (R45, R47) -/
  slotLen : Nat := 8000
  slotClk : Nat := 0
  /-- ticks at the present slot's boundary -/
  slotStart : Nat := 0
  fmeas : Option Fmeas := none
  deriving DecidableEq, Repr

/-! ## Stamps (chapters 03 and 04) -/

/-- One physical edge of a comparator, its time in 1/16 fine units since the timing island left reset. -/
structure EdgeRec where
  cmp : Nat
  rise : Bool
  ovr : Bool
  t : Nat
  deriving DecidableEq, Repr

/-- One comparator: its last physical rising edge, whether its input is above threshold, and whether hold-off took the rising
edge whose fall comes next (R76). -/
structure CmpSt where
  rise : Option Nat := none
  high : Bool := false
  skipFall : Bool := false
  /-- its last rising edge was dropped as NEAR: so is the falling edge that follows (R80) -/
  nearRise : Bool := false
  deriving DecidableEq, Repr

/-- An open stop window of a channel with what its summary will say (R107, R118). -/
structure Window where
  tag : Nat
  slot : Nat
  /-- slot boundary and shot start reference, 1/16 fine units; the reference is none until it is fixed -/
  base : Nat
  tref : Option Nat
  wo : Nat
  wc : Nat
  accN : Nat := 0
  preLo : Nat := 0
  nearLo : Nat := 0
  winLo : Nat := 0
  ovfLo : Nat := 0
  idleLo : Nat := 0
  idleLen : Nat := 0
  /-- dead intervals of LO edges and blanking, 1/16 fine units (R119) -/
  dead : List (Nat × Nat) := []
  cutoff : Option Nat := none
  refEst : Bool := false
  suppressed : Bool := false
  coerced : Bool := false
  nearAny : Bool := false
  deriving DecidableEq, Repr

/-- One stamp of the Ember queue: its word (R102) and the slot of its shot. -/
structure StampRec where
  slot : Nat
  word : Word
  deriving DecidableEq, Repr

/-- A shot summary (R118). -/
structure Summary where
  slot : Nat
  tag : Nat
  accN : Nat
  preLo : Nat
  nearLo : Nat
  winLo : Nat
  ovfLo : Nat
  idleLo : Nat
  idleLen : Nat
  dead : Nat
  cutoff : Nat
  live : Nat
  ovf : Bool
  refEst : Bool
  suppressed : Bool
  xflush : Bool
  coerced : Bool
  nearAny : Bool
  deriving DecidableEq, Repr

/-- A pulse descriptor the Kiln input stage forms (R120, R121). -/
structure Pulse where
  slot : Nat
  /-- corrected time, fine units -/
  tc : Nat
  totLo : Nat
  level : Nat
  totL : Nat
  ovr : Bool
  noWalk : Bool
  slot2 : Bool
  deriving DecidableEq, Repr

/-- A pulse not yet closed: its LO rise, the MID and HI rises and falls inside it, fine units (R120). -/
structure OpenPulse where
  slot : Nat
  tLo : Nat
  rises : List (Nat × Nat) := []
  falls : List (Nat × Nat) := []
  ovr : Bool := false
  slot2 : Bool := false
  deriving DecidableEq, Repr

/-- The timing side of one return channel. -/
structure ChanSt where
  lo : CmpSt := {}
  mid : CmpSt := {}
  hi : CmpSt := {}
  /-- the excursion beyond the clamp level lasts, and its marking runs, until these times (R68) -/
  clampBack : Nat := 0
  clampMark : Nat := 0
  /-- recovery times after V_t has been over range: from its return inside full scale, to the end (R61, R66) -/
  recovery : List (Nat × Nat) := []
  /-- the next LO rising edge is over range; that of the pulse in progress has been marked and counted; slot and T of its stamp where
  it was accepted (R66) -/
  ovrNext : Bool := false
  ovrSaid : Bool := false
  loStamp : Option (Nat × Nat) := none
  /-- thresholds of the sod that wait for a boundary with no window open (R24) -/
  thrNext : Option (Nat × Nat × Nat) := none
  /-- pre-reference buffer (R105), oldest first, and the LO rising edges that have left it -/
  pre : List EdgeRec := []
  preLo : Nat := 0
  /-- edges whose class waits for a fire-echo edge that may still come (R79, R109), oldest first -/
  wait : List EdgeRec := []
  win : Option Window := none
  /-- LO rising edges and start of the present idle interval (R111) -/
  idleLo : Nat := 0
  idleFrom : Option Nat := none
  idleSum : Nat := 0
  /-- the Ember queue, oldest first (R102, R114) -/
  queue : List StampRec := []
  summaries : List Summary := []
  xflush : Bool := false
  hwm : Nat := 0
  openPulse : Option OpenPulse := none
  deriving DecidableEq, Repr

/-- The shot of the present slot (R104, R106). -/
structure Shot where
  slot : Nat
  group : Nat
  /-- slot boundary, 1/16 fine units -/
  base : Nat
  /-- emission is expected: some segment's code is not zero and the commit is not suppressed -/
  fires : Bool
  suppressed : Bool
  /-- a calibration shot of the turnaround (R308) -/
  cal : Bool := false
  /-- pulse positions of the code in grid units of 0.4 ns -/
  pulses : List Nat
  tref : Option Nat := none
  refEst : Bool := false
  /-- chain E fire-echo edges of the slot, oldest first, 1/16 fine units -/
  echoes : List Nat := []
  deriving DecidableEq, Repr

/-! ## Burnish (chapter 05) -/

/-- The accumulation of one TDC (R129): hits of the 64 bins and of the 80 spare windows, total, start. -/
structure BurBlock where
  bins : Sparse Nat := []
  spare : Sparse Nat := []
  total : Nat := 0
  /-- ticks at the start of the block, and its first region temperature (1/16 °C), none before the thermometer has been read -/
  start : Nat := 0
  temp0 : Option Int := none
  /-- sum and count of the region temperatures read during the block -/
  tempSum : Int := 0
  tempCnt : Nat := 0
  /-- an apply began or the crossing was flushed since the start (R130) -/
  spoiled : Bool := false
  deriving DecidableEq, Repr

/-- A frozen block result (R129, R131). -/
structure BurResult where
  bins : Sparse Nat
  spare : Sparse Nat
  total : Nat
  /-- ticks at its end, and the mean region temperature during the block, 1/16 °C -/
  ended : Nat
  temp : Int
  deriving DecidableEq, Repr

/-- One TDC: its block, its result and the last measured widths, as hits and total of the block that measured each (R128, R132). -/
structure TdcSt where
  block : BurBlock := {}
  result : Option BurResult := none
  widths : Sparse (Nat × Nat) := []
  deriving DecidableEq, Repr

/-- Trim pairs of one comparator: the sum of the residuals in 1/256 mV and their number (R136). -/
structure TrimAcc where
  sum : Int := 0
  cnt : Nat := 0
  deriving DecidableEq, Repr

/-- What an apply loads for one TDC: selection, bin table, and for a channel the comparator trims. -/
structure BurSet where
  tdc : Nat
  cellSel : Nat
  binTable : Nat
  cmpTrim : Nat
  deriving DecidableEq, Repr

/-- An apply in progress (R140). -/
structure BurApply where
  /-- slice 0 to 63, 64 chain E reference, 65 chain L reference -/
  unit : Nat
  switched : Bool
  shadow : List BurSet
  prev : List BurSet
  /-- ticks at its boundary A -/
  begun : Nat
  deriving DecidableEq, Repr

/-- Burnish of one slice or reference TDC: the apply state of R137 to R143. -/
structure BurSlice where
  pending : Bool := false
  /-- frames since it became pending (R142) -/
  frames : Nat := 0
  lastApply : Nat := 0
  deriving DecidableEq, Repr

/-- A `cal.burnish` request in its commit phase (R143): the slices that wait, the previous sets of those applied, and the slice that could
not be applied, after which the slices that wait are those that take their previous set again. -/
structure BurRequest where
  pair : Nat
  tag : Nat
  waiting : List Nat
  done : List BurSet
  failed : Option Nat := none
  deriving DecidableEq, Repr

/-- A range-zero measurement (R146): per row the shot-weighted sum of times, shots, and frames passed. -/
structure RangeZero where
  rowFirst : Nat
  rowLast : Nat
  dist : Nat
  shots : Nat
  col : Nat
  frames : Nat := 0
  /-- per row: the shot-weighted sum of times, the fired shots, and those of dwells with an echo -/
  sums : Sparse (Int × Nat × Nat) := []
  /-- sum and count of the slice temperatures read during the measurement, 1/16 °C -/
  tempSum : Int := 0
  tempCnt : Nat := 0
  deriving DecidableEq, Repr

structure BurSt where
  tdcs : Sparse TdcSt := []
  trims : Sparse TrimAcc := []
  slices : Sparse BurSlice := []
  apply : Option BurApply := none
  refApply : Option BurApply := none
  requests : List BurRequest := []
  rangeZero : Option RangeZero := none
  /-- an apply of a slice has started in the present turnaround (R23, R485) -/
  started : Bool := false
  /-- the first automatic commit has been timed from the first apply (R149) -/
  applied : Bool := false
  deriving DecidableEq, Repr

/-! ## Bellows chains (chapter 06) -/

/-- One code write: page, segment or lamp, left-aligned code (R164). -/
structure CodeWrite where
  page : Nat
  seg : Nat
  code : Nat
  deriving DecidableEq, Repr

/-- One CTRL word to a driver (R165), with the command that waits for its response. -/
structure CtrlWord where
  driver : Nat
  rw : Bool
  reg : Nat
  value : Nat
  owner : Option (Nat × Nat)
  deriving DecidableEq, Repr

/-- A frame (R164, R168): the slot it is for, the drivers sent FIRE or START and their page, the pulses of the code, the toggle, the
writes and CTRL words. -/
structure Frame where
  slot : Nat
  units : List Nat
  page : Nat
  pulses : Nat
  ft : Bool := false
  writes : List CodeWrite := []
  ctrl : List CtrlWord := []
  /-- at its commit: the channels whose code in the page was not zero on the drivers fired -/
  segs : List Nat := []
  deriving DecidableEq, Repr

/-- One chain as the part sees it. -/
structure Chain where
  bringup : Bool := false
  /-- values taken at step 1 of the last bring-up (R175) -/
  clk : Nat := 3
  res : Nat := 12
  drivers : Nat := 0
  ft : Bool := false
  /-- code in force of page × 256 + segment: the shadow of the committed writes -/
  pages : Sparse Nat := []
  enable : Sparse Nat := []
  /-- chain L: on-time unit u of each driver (R185) -/
  units : Sparse Nat := []
  /-- chain E: the first of the free values of page 8 (R176), and the segments whose code there is 0 (R179, R182) -/
  calSeed : Nat := 0
  calZero : List Nat := []
  queue : List CodeWrite := []
  ctrl : List CtrlWord := []
  /-- the frame shifted for the next commit, the last frame committed and the shot before it -/
  shifted : Option Frame := none
  last : Option Frame := none
  prev : Option Frame := none
  /-- a committed frame's status words have not come back -/
  awaiting : Bool := false
  /-- the next commit carries NOP words only (R171) -/
  nopNext : Bool := false
  fails : Sparse Nat := []
  /-- the words of the last frame committed, driver 0 first, or of the frames that the last bring-up configured the drivers with
  (R164, R165, R175) -/
  sent : List (List (BitVec 40)) := []
  deriving DecidableEq, Repr

/-- One camera input (R186), in ticks. -/
structure CamSt where
  last : Option Nat := none
  periods : List Nat := []
  count : Nat := 0
  lost : Bool := false
  /-- when the next START of the input's page is due, in 0.2 ns: the predicted exposure start and the delay -/
  start : Option Int := none
  deriving DecidableEq, Repr

/-- One lamp (R187, R188). -/
structure LampSt where
  due : Bool := false
  /-- committed in page 15, its status is awaited -/
  testing : Bool := false
  periods : Nat := 0
  reported : Bool := false
  deriving DecidableEq, Repr

/-- The `lamp.diagnose` command in progress. -/
structure LampDiag where
  waiting : List Nat
  diagnosed : Nat := 0
  unknown : Nat := 0
  pair : Nat
  tag : Nat
  deriving DecidableEq, Repr

/-- A substitution waiting for the turnaround (R183). -/
structure Subst where
  primary : Nat
  spare : Nat
  revert : Bool
  owner : Option (Nat × Nat)
  done : Bool := false
  deriving DecidableEq, Repr

structure BlwSt where
  e : Chain := {}
  l : Chain := {}
  /-- suppression of `emit.stop` and of R455; of `scan.hold`; from which boundary they are lifted -/
  stopReq : Bool := false
  holdReq : Bool := false
  /-- fired shots since an edge came, up to 16 (R173) -/
  noEcho : Nat := 0
  /-- delays of the last 65,536 fired shots, newest first, fine units; none for a shot without an edge (R173) -/
  dlys : List (Option Nat) := []
  /-- last E_shot requested of each segment, nJ (R177) -/
  request : Sparse Nat := []
  /-- consecutive checked shots without FIRED, per segment (R179) -/
  misses : Sparse Nat := []
  wearSaid : Sparse Bool := []
  /-- FAULT reads asked for, chain L drivers at 16 and above (R179, R188) -/
  readFault : List Nat := []
  subst : List Subst := []
  cams : Sparse CamSt := []
  lamps : Sparse LampSt := []
  diag : List LampDiag := []
  /-- pairings in force: primary and spare (R183) -/
  paired : List (Nat × Nat) := []
  deriving DecidableEq, Repr

/-! ## Kiln (chapter 07) -/

/-- A listed group (R197, R200). -/
structure Group where
  tg : Nat
  m : Nat
  level : Nat
  ovr : Bool
  refEst : Bool
  shot : Nat
  noWalk : Bool
  /-- means of ToT in 12.5 ps units, saturating at 4,095 -/
  totLo : Nat
  totL : Nat
  deriving DecidableEq, Repr

/-- One shot of a dwell: its slot, the pulse offsets of its code in fine units (R198), what its summary said. -/
structure DwellShot where
  slot : Nat
  /-- device time of its slot boundary, ns (R320) -/
  time : Nat
  suppressed : Bool
  offsets : List Nat
  /-- E_used of the code committed, 2^-16 / 64,000 nJ (R177) -/
  eUsed : Nat
  pulses : List Pulse := []
  summary : Option Summary := none
  /-- t_ref less the slot boundary, 1/16 fine units, and whether it was nominal (R106) -/
  refU : Nat := 0
  refEst : Bool := false
  /-- accepted rising stamps without OVR or REF_EST: comparator and time in fine units (R136) -/
  rises : List (Nat × Nat) := []
  deriving DecidableEq, Repr

/-- One pixel in flight: a dwell of a channel and what its first shot fixed (R195, R203). -/
structure Pixel where
  row : Nat
  pos : Nat
  slot0 : Nat
  frame : Nat
  hasFrame : Bool
  overlay : Nat
  /-- sod words as served to the dwell, and what the read was (R24, R261) -/
  sod : List Word
  acq : Bool
  gen : Nat
  dwell : Nat
  thr : Nat × Nat × Nat
  wo : Nat
  wc : Nat
  twoSlot : Bool
  ctl : Word
  /-- parameter values taken at the first shot (R203) -/
  par : List (Nat × Nat)
  rangeK : Nat
  hist : Sparse Nat := []
  groups : List Group := []
  shots : List DwellShot := []
  interference : Nat := 0
  /-- slot of the last shot that the dwell is granted (R301) -/
  until_ : Nat := 0
  cal : Bool := false
  ended : Bool := false
  deriving DecidableEq, Repr

/-- One echo result (R205 to R212). -/
structure Echo where
  te : Int
  range : Nat
  ampMv : Nat
  /-- amplitude in 2^-24 mV -/
  amp : Nat
  width : Nat
  widthPs : Nat
  intensity : Nat
  conf : Nat
  cls : Nat
  sat : Bool
  e16 : Nat
  bin : Nat
  deriving DecidableEq, Repr

structure KilnSt where
  pixels : List Pixel := []
  /-- round-robin position of each slice's drain (R113) -/
  turn : Sparse Nat := []
  deriving DecidableEq, Repr

/-! ## Turf (chapter 09) -/

/-- A `turf.dump` or `turf.clear` job (R277, R278). -/
structure TurfJob where
  rowFirst : Nat
  rowLast : Nat
  colFirst : Nat
  colLast : Nat
  addr : Nat
  /-- G_now and the slot number at the first read of a dump, and the words read so far (R277) -/
  first : Option (Nat × Nat) := none
  words : List Word := []
  pair : Nat
  tag : Nat
  deriving DecidableEq, Repr

structure TurfSt where
  /-- word w of the sod of index i at key 12 i + w (R253) -/
  sods : Sparse Word := []
  dump : Option TurfJob := none
  clear : Option TurfJob := none
  /-- ticks when scanning last stopped or was held (R260) -/
  stoppedAt : Option Nat := some 0
  deriving DecidableEq, Repr

/-! ## Taps (chapter 08) -/

/-- One Ladle (R224, R238): what the allocator fixed. -/
structure Ladle where
  tap : Nat
  ch : Nat
  x2 : Bool
  kOpen : Nat
  len : Nat
  /-- slot of the window, and slot of the shot it belongs to, one earlier under R226 -/
  slot : Nat
  shotSlot : Nat
  pos : Nat
  shot : Nat
  ord : Nat
  late : Bool
  short : Bool
  host : Bool
  calw : Bool
  /-- `TAP_CTL` as the slot was prepared (R247) -/
  ctl : Word := 0
  deriving DecidableEq, Repr

/-- One peak of a window: time in 1/16 sample, height in 1/32 mV, FWHM and rise in 25 ps. -/
structure TapPeak where
  t : Nat
  a : Nat
  fwhm : Nat
  rise : Nat
  deriving DecidableEq, Repr

/-- A window record (R238): the Ladle, what was captured and measured. -/
structure TapWin where
  ladle : Ladle
  seq : Nat
  frame : Nat
  ovf : Bool
  skip : Bool
  clip : Bool
  supp : Bool
  refEst : Bool
  noPed : Bool
  dead : Nat
  /-- t_ref less the boundary of the window's slot, fine units, and whether the reference of its shot is fixed (R104) -/
  ref : Int
  fixed : Bool
  gain : Nat
  offset : Int
  delay : Int
  base : Int
  noise : Nat
  ped : Int
  area : Int
  peak : Nat
  peakT : Nat
  rise : Nat
  fwhm : Nat
  npk : Nat
  nclip : Nat
  peaks : List TapPeak
  samples : List Nat
  deriving DecidableEq, Repr

/-- One tap: the window being captured and the tick of its first sample, whether a window has been truncated, the samples its FIFO
holds, the headers queued, and the tick at which its last window ended. -/
structure TapSt where
  capture : Option TapWin := none
  openAt : Nat := 0
  skipping : Bool := false
  fill : Nat := 0
  headers : Nat := 0
  lastEnd : Option Nat := none
  deriving DecidableEq, Repr

/-- A running `cal.tap` (R243) with the sums of raw codes (or of V_t in 1/256 mV) and the samples per unit. -/
structure CalTap where
  step : Nat
  x2 : Bool
  channel : Nat
  count : Nat
  mask : Nat
  vin : Int
  samples : Nat
  sums : Sparse (Int × Nat) := []
  pair : Nat
  tag : Nat
  deriving DecidableEq, Repr

/-- A held ZERO (R244): the sums of its taps and the applied voltage at the tap, µV. -/
structure CalZero where
  channel : Nat
  x2 : Bool
  mask : Nat
  vz : Int
  sums : Sparse (Int × Nat)
  deriving DecidableEq, Repr

structure TapsSt where
  taps : Sparse TapSt := []
  /-- Ladles of the present slot not yet opened, and those of the next slot, in allocation order -/
  ladles : List Ladle := []
  next : List Ladle := []
  /-- slot of the last Ladle of each channel, for the age A_c (R228) -/
  lastLadle : Sparse Nat := []
  seq : Nat := 0
  /-- measured windows that wait for the writer, in WIN_SEQ order (R239) -/
  queue : List TapWin := []
  /-- windows of pixels in flight, for linking (R240) -/
  recent : List TapWin := []
  cal : Option CalTap := none
  zero : Option CalZero := none
  deriving DecidableEq, Repr

/-! ## Scan (chapter 10) -/

/-- A block-floating stage: its exponent and its mantissas (R287). -/
structure Stage where
  exp : Nat := 0
  m : List Int := [0, 0]
  deriving DecidableEq, Repr

/-- The shape of one stretch of a setpoint path. -/
inductive Shape where
  | line | hermite | cosine
  deriving DecidableEq, Repr

/-- One stretch of a setpoint path: from tick `t0` for `len` ticks, from `x0` to `x1` (1/65,536 code), with end velocities in
1/65,536 code per 8,000 ticks (R294, R296). -/
structure Seg where
  shape : Shape
  t0 : Nat
  len : Nat
  x0 : Int
  x1 : Int
  v0 : Int := 0
  v1 : Int := 0
  deriving DecidableEq, Repr

/-- What the mirror does within `SCN_STAT.STATE` (R310 to R313). -/
inductive MirrorPhase where
  | off | ramp | settle | runIn | sweep | turn | parking | parked | stopRamp
  deriving DecidableEq, Repr

/-- One row that the prepared slot lights: what its read served (R261, R274), E_used of the codes that light it in 2^-16 / 64,000 nJ, and the slot
of the last shot it is granted. -/
structure PrepRow where
  row : Nat
  words : List Word
  acq : Bool
  gen : Nat
  eUsed : Nat
  until_ : Nat
  deriving DecidableEq, Repr

/-- The slot prepared next: its group, the position it lights, the drivers that fire, the pulses of its code and the rows that
receive the shot (R300 to R304); or a calibration shot (R308). -/
structure Prep where
  slot : Nat
  group : Nat
  pos : Nat
  cal : Bool
  units : List Nat
  pulses : List Nat
  rows : List PrepRow
  deriving DecidableEq, Repr

structure ScanSt where
  phase : MirrorPhase := .off
  /-- loop stages E (e and e of the sample before), P, I, D, U (R287) -/
  stE : Stage := { m := [0, 0, 0, 0] }
  stP : Stage := {}
  stI : Stage := {}
  stD : Stage := {}
  stU : Stage := {}
  /-- coefficients in force with their exponents: kp, ki, kd of X, then of Y; and alpha of each in 1/256; none before a load is
  due (R287, R292) -/
  coef : List (Int × Nat) := []
  alpha : List Nat := []
  clipX : Bool := false
  clipY : Bool := false
  /-- axes of the last sample that were abandoned (bit 0 X, bit 1 Y), whether it overran, consecutive overruns (R290, R291) -/
  late : Nat := 0
  overran : Bool := false
  overruns : Nat := 0
  /-- consecutive samples with the error above the fault limit (R291) -/
  trackX : Nat := 0
  trackY : Nat := 0
  /-- last measured position and its tick -/
  posX : Int := 0
  posY : Int := 0
  posTick : Nat := 0
  pathX : List Seg := []
  pathY : List Seg := []
  settleFrom : Option Nat := none
  /-- slots of the run-in still to come (R310, R312) -/
  runInLeft : Nat := 0
  /-- n_c of the plan in force and of the plan computed last, and the demands that it used (R297, R298) -/
  plan : List Nat := []
  planNext : List Nat := []
  demandPrev : List Nat := []
  /-- demands gathered since (R297) -/
  demand : Sparse Nat := []
  /-- slots of the present frame, turnaround slots among them, idle slots before these (R51, R298) -/
  frameSlots : Nat := 15625
  turnSlots : Nat := 96
  idleSlots : Nat := 0
  /-- groups and sub-columns of the present frame (R48, R293) -/
  groups : Nat := 4
  subcols : Nat := 4
  /-- the turnaround of the present frame has begun; the coming slot boundary is a frame boundary already taken -/
  turned : Bool := false
  frameTaken : Bool := false
  /-- in the present sub-column: each unit's grant and whether its first opportunity has come (R301, R305), the units whose dwell has
  ended (R303), and the rows whose grant the Damper has cut (R305) -/
  grants : Sparse (Nat × Bool) := []
  endedUnits : List Nat := []
  cutRows : List Nat := []
  subKey : Option (Nat × Nat) := none
  prep : Option Prep := none
  /-- a hold, a stop, or the end of dwells of a mirror fault acts from the next slot boundary -/
  holdNext : Bool := false
  stopNext : Bool := false
  faultNext : Bool := false
  resumeReq : Bool := false
  /-- the marking of R260 completes at this tick -/
  sweepAllEnd : Option Nat := none
  /-- the last measured X positions with their ticks, newest first (R295) -/
  past : List (Nat × Int) := []
  /-- next column edge of the sweep, and sum and number of the lags at the edges crossed, ticks (R295) -/
  lagNext : Nat := 0
  lagSum : Int := 0
  lagCnt : Nat := 0
  mirAmpEn : Bool := false
  /-- the next loop sample drives MIR_AMP_EN low and both DACs to mid code (R291) -/
  ampOffNext : Bool := false
  arm : Bool := false
  deriving DecidableEq, Repr

/-! ## Output streams (chapter 11) -/

/-- The records of one pixel before TOFF is known: their time t_r in ns and their four words without TOFF (R319, R320). -/
structure PixelRecs where
  time : Nat
  frame : Nat
  pos : Nat
  overlay : Nat
  words : List (List Word)
  deriving DecidableEq, Repr

/-- An Ingot in staging (R325, R326). -/
structure Ingot where
  seq : Nat
  frame : Nat
  time : Nat
  overlay : Nat
  damper : Nat
  domain : Nat
  dir : Nat
  ysel : Nat
  timeValid : Bool
  holdover : Bool
  /-- ticks at open -/
  opened : Nat
  drop : Nat := 0
  budget : Nat := 0
  posFirst : Nat
  posLast : Nat
  close : Nat := 0
  incomplete : Bool := false
  /-- its slot in the ring holds the header written at open (R329) -/
  headed : Bool := false
  records : List (List Word) := []
  deriving DecidableEq, Repr

/-- A histogram record waiting for export (R334): its 2,080 bytes as header words and sparse bins. -/
structure HistRec where
  frame : Nat
  time : Nat
  row : Nat
  pos : Nat
  wo : Nat
  wc : Nat
  bkg : Nat
  shots : Nat
  gen : Nat
  flags : Nat
  overlay : Nat
  necho : Nat
  bins : Sparse Nat
  deriving DecidableEq, Repr

structure OutSt where
  openIngot : Option Ingot := none
  /-- closed Ingots waiting for a slot, oldest first -/
  closed : List Ingot := []
  /-- drops with no Ingot open (R324, R331) -/
  nextDrop : Nat := 0
  nextBudget : Nat := 0
  /-- credit of each slice used up, in 2^-32 records, and the ticks of its last refill (R324) -/
  used : Sparse Nat := []
  refilled : Nat := 0
  hist : List HistRec := []
  /-- items published on stream 2 (R337) -/
  waveItems : Nat := 0
  deriving DecidableEq, Repr

/-! ## Peer link (chapter 12) -/

/-- A pod heard on the link (R349 to R351). -/
structure Member where
  id : Wide
  rank : Nat
  valid : Bool
  bookId : Nat
  version : Nat
  seq : Nat
  /-- its lanes whose receive half it says faces this pod -/
  seesUs : List Nat := []
  /-- the links its ANNOUNCEs arrive on, by lowest lane, with the hop count and the sequence number received there last -/
  via : Sparse (Nat × Nat) := []
  /-- EV_PEER_MISMATCH and EV_PEER_LIMIT were raised for it -/
  saidMismatch : Bool := false
  saidLimit : Bool := false
  /-- codes claimed and granted, 0xFF none; phase index claimed and granted -/
  claim : List Nat := []
  claimPhase : Nat := 0
  codes : List Nat := []
  phase : Nat := 0
  deriving DecidableEq, Repr

/-- A GRANT as it concerns this pod (R355, R356): a code per group, 0xFF where none was left. -/
structure Grant where
  leader : Wide
  number : Nat
  codes : List Nat
  phase : Nat
  deriving DecidableEq, Repr

/-- A message the pod sends, with the lane or none for every lane at least ALIGNED (R344). -/
inductive PeerMsg where
  | announce (lane : Nat) (a : Announce)
  | claim (c : Claim)
  | grant (g : GrantMsg)
  /-- a TIME block: exchange number, t1, and in the follower's answer t2 and t3 (R352) -/
  | time (lane number t1 : Nat) (answer : Option (Nat × Nat))
  deriving DecidableEq, Repr

structure PeerSt where
  /-- partner at the receive half and at the transmit half of each lane (R348) -/
  partners : Sparse Wide := []
  facing : Sparse Wide := []
  /-- valid headers aligned and deskewed lanes: the received lane id (R346, R347) -/
  aligned : Sparse Nat := []
  /-- the block that each lane of an aggregated link has received while others still wait for theirs: its type and payload, none
  for one that was discarded (R347) -/
  stripes : Sparse (Option (Nat × List Byte)) := []
  /-- segments of the message being received on a link, by lowest lane: type, payloads (R344) -/
  segments : Sparse (Nat × List (List Byte)) := []
  /-- other pods heard, in key order -/
  pods : List Member := []
  /-- the other members, and this pod's RANK as of its last ANNOUNCE (R350, R358) -/
  members : List Wide := []
  rank : Nat := 0
  /-- EV_PEER_LIMIT was raised for this pod itself -/
  saidLimit : Bool := false
  annSeq : Nat := 0
  leader : Option Wide := none
  master : Option Wide := none
  /-- number of the last GRANT sent, or taken from the leader -/
  grantNo : Nat := 0
  grantTaken : Bool := false
  grantDue : Bool := false
  pendingGrant : Option Grant := none
  /-- what the next CLAIM reports of the last grant: nothing, APPLIED, REFUSED -/
  claimResult : Option Bool := none
  exchNo : Nat := 0
  /-- delays of the last 16 exchanges, newest first, ps -/
  delays : List Int := []
  /-- messages of the present step -/
  sent : List PeerMsg := []
  deriving DecidableEq, Repr

/-! ## Safety island (chapter 13) -/

/-- A pixel-result copy on its way to the island (R382): range, class and confidence of each echo. -/
structure PixelCopy where
  row : Nat
  pos : Nat
  nFired : Nat
  ovf : Bool
  echoes : List (Nat × Nat × Nat)
  deriving DecidableEq, Repr

/-- A channel of STOP or RESTART: its level and, in µs of island time, when it fell in the present press and when it last rose. -/
structure SafePin where
  high : Bool := true
  fell : Option Nat := none
  rose : Nat := 0
  deriving DecidableEq, Repr

/-- One of the four switches (R365, R388): 0 QA_HS, 1 QA_LS, 2 QB_HS, 3 QB_LS. -/
structure SafeSwitch where
  gate : Bool := false
  /-- the readback conducts -/
  fb : Bool := false
  /-- a test pulse is due, or runs -/
  due : Bool := false
  testing : Bool := false
  /-- engine cycles of 10 µs since the last passed test or the start of its timer -/
  since : Nat := 0
  deriving DecidableEq, Repr

structure SafeSt where
  /-- the safety set has been checked after restore, and the engines vote (R400) -/
  running : Bool := false
  /-- conditions detected whose off vote has not yet come, as a mask of cause codes (R368, R370) -/
  detected : Nat := 0
  /-- conditions that persist, as a mask of cause codes (R393) -/
  active : Nat := 0
  stop1 : SafePin := {}
  stop2 : SafePin := {}
  restart1 : SafePin := {}
  restart2 : SafePin := {}
  /-- the press in progress is invalid -/
  pressBad : Bool := false
  switches : List SafeSwitch := [{}, {}, {}, {}]
  /-- output A waits for a turnaround after a release under ARM (R367) -/
  waitTurn : Bool := false
  /-- the suppression of a Quench holds the chain E latch (R368) -/
  latchOff : Bool := false
  /-- accounts in 4 nJ units, direction row × 256 + column, and their window number (R371, R372) -/
  accounts : Sparse Nat := []
  window : Nat := 0
  /-- the shot of the next slot is decided; its charges: direction and units -/
  decided : Bool := false
  charges : List (Nat × Nat) := []
  /-- last 26 X samples, newest first; samples since the speed was last high enough; consecutive samples outside the limits of travel,
  of current and of the optical monitor (R378, R379) -/
  xs : List Int := []
  still : Nat := 0
  outTravel : Nat := 0
  overCur : Nat := 0
  optBad : Nat := 0
  /-- pixel copies on their way; results of the present frame, row × 1,024 + position, whether it infringes; rows of the batch -/
  copies : List PixelCopy := []
  results : Sparse Bool := []
  batch : List Nat := []
  /-- an infringing run occurred in the present frame; clear frames in a row since OFF_FIELD began -/
  infringed : Bool := false
  clearFrames : Nat := 0
  deriving DecidableEq, Repr

/-! ## CXL host interface (chapter 14) -/

/-- One entry of the MSI-X table (R412, R425). -/
structure MsixEntry where
  addr : Wide := 0#64
  data : Word := 0#32
  masked : Bool := true
  deriving DecidableEq, Repr

/-- A posted write to the host: an MSI-X message or a reply to a queue in host memory. -/
structure HostWrite where
  addr : Nat
  bytes : List Byte
  deriving DecidableEq, Repr

/-- The last data returned for a host read: the bytes and whether they carry poison (R431). -/
structure ReadData where
  bytes : List Byte
  poison : Bool
  deriving DecidableEq, Repr

/-- The memory range of the CDAT: its DPA range, persistence and shareability (R410). -/
structure Dsmas where
  base : Nat
  length : Nat
  persistent : Bool
  shareable : Bool
  deriving DecidableEq, Repr

/-- What an entry of the CDAT states of the device side of the path: latencies in ns, bandwidths in GB/s (R410). -/
inductive Dslbis where
  | readLatency (ns : Nat) | writeLatency (ns : Nat) | readBandwidth (gbs : Nat) | writeBandwidth (gbs : Nat)
  deriving DecidableEq, Repr

/-- The CDAT (R410). -/
structure Cdat where
  dsmas : List Dsmas
  dslbis : List Dslbis
  deriving DecidableEq, Repr

/-- What the DOE mailbox answers (R409, R410): the protocols that it serves, or the CDAT. -/
inductive DoeReply where
  | protocols (l : List DoeProtocol)
  | table (c : Cdat)
  deriving DecidableEq, Repr

structure HostSt where
  linkUp : Bool := false
  /-- the mode is fixed until the next PERST# release or hot reset (R406) -/
  modeFixed : Bool := false
  degradedSaid : Bool := false
  retryStatus : Bool := true
  d3hot : Bool := false
  /-- bases of BAR0, BAR2 and BAR4 (R411, R428) -/
  barBases : List Nat := [0, 0, 0]
  /-- the CDAT once it is built, and the answer that stands in the DOE mailbox (R410) -/
  cdat : Option Cdat := none
  doe : Option DoeReply := none
  memEnable : Bool := false
  cacheEnable : Bool := false
  busMaster : Bool := false
  biEnable : Bool := false
  msixEnable : Bool := false
  msixMask : Bool := false
  msix : Sparse MsixEntry := []
  pba : Wide := 0#64
  committed : Bool := false
  notCommitted : Bool := false
  locked : Bool := false
  hdmBase : Nat := 0
  hdmSize : Nat := 0
  /-- status bits of AER and CXL RAS (R431): correctable of AER and of RAS, uncorrectable poison, address and cache, poisoned
  TLP, internal; the address of the first poison -/
  aerCorrectable : Bool := false
  rasCorrectable : Bool := false
  rasPoison : Bool := false
  rasAddress : Bool := false
  rasCache : Bool := false
  aerPoisoned : Bool := false
  aerInternal : Bool := false
  headerLog : Nat := 0
  lastRead : Option ReadData := none
  regRead : Word := 0#32
  /-- posted writes of the present step: messages, and replies to queues in host memory -/
  writes : List HostWrite := []
  deriving DecidableEq, Repr

/-! ## Commands (chapter 15) -/

/-- A reply (R442). -/
structure Reply where
  status : Nat
  opcode : Nat
  tag : Nat
  results : List Byte
  deriving DecidableEq, Repr

/-- A command a doorbell covers, with the ticks of its doorbell (R444) and the number of that doorbell in the order of all pairs (R451). -/
structure Waiting where
  pkt : Packet
  rung : Nat
  bell : Nat := 0
  /-- first reply posted on the fast path, or deadline already counted as missed -/
  late : Bool := false
  /-- the capture of its doorbell, ns, and whether it is the last `time.mark` that the doorbell covers (R41) -/
  cap : Nat := 0
  last : Bool := false
  deriving DecidableEq, Repr

/-- One queue pair (R434 to R439). -/
structure Pair where
  sqTail : Nat := 0
  sqHead : Nat := 0
  cqTail : Nat := 0
  cqHead : Nat := 0
  /-- covered and not fetched; fetched and without a first reply; CQ entries reserved -/
  rung : List Waiting := []
  fetched : List Waiting := []
  reserved : Nat := 0
  /-- posted and not released, oldest first -/
  replies : List Reply := []
  nFetched : Nat := 0
  ackMax : Nat := 0
  nMiss : Nat := 0
  nRefused : Nat := 0
  /-- a pair in host memory whose enable was cleared posts no further reply (R424) -/
  silent : Bool := false
  deriving DecidableEq, Repr

/-- An ACCEPTED command (R446), with a value its completion needs. -/
structure Running where
  pair : Nat
  pkt : Packet
  /-- its reply is discarded (R429, R455) -/
  mute : Bool := false
  aux : Nat := 0
  deriving DecidableEq, Repr

structure CmdSt where
  /-- the queue memory of BAR2, by word: key is the BAR2 offset of the word (R412, R434) -/
  qmem : Sparse Word := []
  pairs : Sparse Pair := []
  running : List Running := []
  /-- doorbells that have covered commands, of all pairs (R451) -/
  bells : Nat := 0
  deriving DecidableEq, Repr

/-! ## Configuration (chapter 16) -/

/-- Who asked for a two-phase change (R484). -/
inductive Requester where
  | command (pair tag : Nat)
  | setCommand
  | peerGrant
  deriving DecidableEq, Repr

/-- A two-phase change: its target values by parameter key, whether it holds a class-F element, the overlay it applies. -/
structure Change where
  by_ : Requester
  targets : List (Nat × Nat)
  /-- elements that return to their default: named, and without a committed value -/
  drops : List Nat := []
  overlay : Option Nat
  /-- ticks at the end of its prepare phase -/
  prepared : Nat
  deriving DecidableEq, Repr

/-- A change in force whose domains are still switching on (R564): who asked, the values before it, and the results of its completion. -/
structure Powering where
  by_ : Requester
  olds : List (Nat × Nat)
  results : List Byte
  deriving DecidableEq, Repr

/-- A commit in progress: set code (R491), the elements it writes, who asked. -/
structure Commit where
  set : Nat
  entries : List (Nat × Nat)
  owner : Option (Nat × Nat)
  opcode : Nat
  deriving DecidableEq, Repr

structure CfgSt where
  /-- live values that were set, by parameter key index × 2^20 + element -/
  live : Sparse Nat := []
  /-- live overlay images, overlay × 2^40 + key (R480) -/
  images : Sparse Nat := []
  /-- images that an SRAM error emptied (R521) -/
  imageBad : List Nat := []
  preparing : Option Change := none
  waiting : List Change := []
  powering : List Powering := []
  commits : List Commit := []
  deriving DecidableEq, Repr

/-- One record of the log: its set, generation and parameter key (none for a MARKER or VOID) and its bytes (R491). -/
structure LogRec where
  set : Nat
  gen : Nat
  key : Option Nat
  size : Nat
  deriving DecidableEq, Repr

/-- One 64 KiB block of the log (R490). -/
structure LogBlock where
  erases : Nat := 0
  used : Bool := false
  recs : List LogRec := []
  deriving DecidableEq, Repr

/-- The retained store (R489 to R494), which outlives every reset. Element values are keyed set × 2^40 + parameter key. -/
structure StoreSt where
  absent : Bool := false
  blocks : List LogBlock := List.replicate 64 {}
  head : Option Nat := none
  seq : Nat := 0
  gens : Sparse Nat := []
  /-- SUM of the newest MARKER of each set (R491), a free value at each commit (DESIGN CHOICE, log entry 1) -/
  sums : Sparse Nat := []
  newest : Sparse Nat := []
  before : Sparse Nat := []
  /-- the check value of the committed safety set, and whether it has been released (R398) -/
  safeCheck : Option Nat := none
  safeReleased : Bool := false
  /-- pulse counts and pairings of the counters set (R180, R183) -/
  pulses : Sparse Wide := []
  paired : List (Nat × Nat) := []
  deriving DecidableEq, Repr

/-! ## Memory (chapter 17) -/

/-- A `mem.scrub` pass or patrol in progress. -/
structure ScrubJob where
  addr : Nat
  length : Nat
  repair : Bool
  summary : Nat
  pair : Nat
  tag : Nat
  started : Nat
  /-- bytes scanned so far, and the finds in them: corrected beats per channel, the DPA of uncorrectable beats, the bursts that
  hold a corrected beat -/
  upTo : Nat := 0
  ce : List Nat := List.replicate 20 0
  ue : List Nat := []
  bursts : List Nat := []
  deriving DecidableEq, Repr

/-- A write to device memory. -/
inductive MemOp where
  | write (addr : Nat) (bytes : List Byte)
  | zero (addr len : Nat)
  deriving DecidableEq, Repr

structure MemSt where
  /-- symbols in error of a stored 16-byte beat, by DPA / 16: a mask of the ten positions (R506, R508) -/
  faults : Sparse Nat := []
  /-- write-merge buffer: line DPA / 256, mask of the bytes written, oldest first (R510) -/
  lines : List (Nat × Nat) := []
  /-- corrections of the present second at symbol position d of group g, key 10 g + d (R514) -/
  dieCe : Sparse Nat := []
  /-- device times, ns, of the uncorrectable beats of the last 1 ms, of groups A and B (R516) -/
  ueA : List Nat := []
  ueB : List Nat := []
  /-- channels whose last tracking failed (R514) -/
  trackBad : List Nat := []
  scrub : Option ScrubJob := none
  /-- next DPA of the patrol (R524) -/
  patrolAt : Nat := 0
  patrolDone : Nat := 0
  /-- device times, ns, of an engine's traps in the last 10 s (R519) -/
  traps : Sparse (List Nat) := []
  /-- the reset in progress wipes device memory (R517, R525) -/
  wipeDue : Bool := true
  deriving DecidableEq, Repr

/-! ## Housekeeping and temperature (chapter 18) -/

/-- A decimation chain (R530 to R535). -/
structure HkChain where
  /-- integrators and comb delays of the CIC, modulo 2^48 (R532) -/
  integ : List Nat := [0, 0, 0, 0]
  comb : List Nat := [0, 0, 0, 0]
  /-- last four comb outputs, newest first (R533) -/
  fir : List Int := [0, 0, 0, 0]
  /-- outputs still suppressed (R534) -/
  settling : Nat := 0
  /-- DC estimate m, 2^-24 (R535) -/
  dc : Int := 0
  deriving DecidableEq, Repr

/-- A running `cal.hk` (R542) and its sum of raw codes. -/
structure CalHk where
  step : Nat
  input : Nat
  vin : Int
  samples : Nat
  sum : Int := 0
  cnt : Nat := 0
  pair : Nat
  tag : Nat
  deriving DecidableEq, Repr

/-- One die temperature sensor: its last reading in 1/16 °C, its raw count with the reads for which it has stood, and its
consecutive failing reads by test (R545). -/
structure Sensor where
  read : Bool := false
  t : Int := 0
  raw : Nat := 0
  same : Nat := 0
  range : Nat := 0
  ref : Nat := 0
  deriving DecidableEq, Repr

structure HkSt where
  chains : Sparse HkChain := []
  /-- sampling instants of the sense words, ns -/
  sampled : Sparse Nat := []
  /-- last word of each sense input that carried neither OPEN nor SETTLING (R541) -/
  good : Sparse Int := []
  /-- the compliance detector has tripped in the present conversion (R540) -/
  tripped : Bool := false
  cal : Option CalHk := none
  /-- held ZERO of each input: sum and number of raw codes, and V_IN in µV (R542) -/
  zeros : Sparse (Int × Nat × Int) := []
  /-- region thermometers 0 to 11, hot-spot sensors at 12 to 31 -/
  sensors : Sparse Sensor := []
  /-- threshold reference trim of each slice, 1/1,024 LSB (R546) -/
  refTrim : Sparse Int := []
  hotNext : Nat := 0
  /-- consecutive rounds at 127 °C or above, and whether the safe state was entered on temperature (R549) -/
  hotRounds : Nat := 0
  safeOnTemp : Bool := false
  /-- ms at the present level (R547) -/
  levelMs : Nat := 0
  /-- consecutive comparisons at 130 °C or above, per hot-spot sensor (R550) -/
  overTemp : Sparse Nat := []
  /-- Burnish comparison of R149 is due at the first normal round -/
  burnishCheck : Bool := false
  deriving DecidableEq, Repr

/-! ## Power (chapter 19) -/

structure PwrSt where
  /-- domains being switched on, the first in progress (R562) -/
  switchQ : List Nat := []
  /-- slices and tap groups that became usable and join at the next frame boundary (R563) -/
  joining : List Nat := []
  /-- domains whose switch-off waits (R484) -/
  offWait : List Nat := []
  /-- governor ticks with p below target − 0.03, below target, and above 1.0 at the greatest voltage (R565, R568) -/
  lowTicks : Nat := 0
  underTicks : Nat := 0
  overTicks : Nat := 0
  avsFails : Nat := 0
  avsOff : Bool := false
  /-- the state that a `pwr.state` in progress goes to (R560) -/
  target : Option Nat := none
  /-- the state SAFE_MIN was entered from -/
  from_ : Nat := 0
  deriving DecidableEq, Repr

/-! ## Reset and security (chapter 20) -/

/-- The fuses that change in service: lifecycle, rollback floor, revoked slots, identity seed, SERVICE entries, token
sequence (R590, R592, R593, R596, R597). -/
structure Fuses where
  lifecycle : Nat := 2
  floor : Nat := 0
  revoked : Nat := 0
  identity : Bool := true
  svc : Nat := 0
  seq : Nat := 0
  deriving DecidableEq, Repr

/-- How far the reset sequence of R584 has come: held in reset, fuse load, domains switching on, PLL, running; or stopped for
good by the fuses (R582) or by boot (R589). -/
inductive BootPhase where
  | held | fuseLoad | domains | pll | running | fuseFailed | noImage
  deriving DecidableEq, Repr

/-- A firmware image in a slot: its header bytes (R586); none where the factory image stands. -/
structure Image where
  header : Option (List Byte) := none
  deriving DecidableEq, Repr

/-- A lifecycle change in progress (R598): target, and the command that waits for it. -/
structure LifeChange where
  target : Nat
  owner : Option (Nat × Nat)
  deriving DecidableEq, Repr

/-- The pins that are not inputs (R583): the gate of a switch, a chain's CLK and DAT, its LAT (`true` for chain L), the
mirror amplifier's enable, the mirror DACs, the test port's TDO (R635), and another group of the fuse map. -/
inductive PinGroup where
  | gate (k : Fin 4) | chain (l : Bool) | chainLat (l : Bool) | mirAmp | mirDac | tdo | other (n : Nat)
  deriving DecidableEq, Repr

structure RstSt where
  phase : BootPhase := .fuseLoad
  /-- sources that stay asserted, as a mask of source codes (R577) -/
  asserted : Nat := 0
  cold : Bool := true
  /-- failed fuse loads in a row (R582) -/
  fuseFails : Nat := 0
  fuses : Fuses := {}
  /-- a fuse load has been complete since the last power-on reset (R583) -/
  pinsLoaded : Bool := false
  /-- fuse shadows (R582): what the rest of the part reads -/
  shadow : Fuses := {}
  /-- Quench lock record of the backup domain: causes and first cause (R578) -/
  lockRecord : Option (Nat × Nat) := none
  bakLost : Bool := true
  /-- fuse restarts counted at the last RESTORED; the last boot fell back (R604) -/
  fuseSeen : Nat := 0
  fellBack : Bool := false
  softDue : Bool := false
  lifeResetDue : Bool := false
  life : Option LifeChange := none
  slots : List Image := [{}, {}]
  preferred : Nat := 0
  running : Nat := 0
  staged : Bool := false
  /-- the slot that the staged image was written to -/
  stagedSlot : Nat := 0
  /-- the image of a `sec.fw_stage` that is being written, and its command -/
  staging : Option (Image × Nat × Nat) := none
  deriving DecidableEq, Repr

/-! ## Events and telemetry (chapter 21) -/

/-- A raising that the event logic has not yet recorded (R606). -/
structure Raised where
  src : Nat
  test : Bool
  detail0 : Nat
  detail1 : Nat
  deriving DecidableEq, Repr

structure EvtSt where
  /-- raisings of the present step: the model's own field, empty between steps (DESIGN CHOICE, log entry 2) -/
  raised : List Raised := []
  /-- records dropped since the last record written (R610) -/
  dropped : Nat := 0
  ovfSaid : Bool := false
  /-- vectors whose holdoff runs, and those with a message due at its end (R611) -/
  hold : Wide := 0#64
  due : Wide := 0#64
  deriving DecidableEq, Repr

structure TelSt where
  addr : Nat := 0
  size : Nat := 0
  /-- a periodic record has been written -/
  started : Bool := false
  /-- sums of the squared loop errors since the last periodic record, and their number -/
  rmsXSum : Nat := 0
  rmsYSum : Nat := 0
  rmsCnt : Nat := 0
  /-- largest pace over its floor, 1/4,096: since the last housekeeping round, and in the round that ended last; its device time -/
  paceMax : Nat := 0
  paceRound : Nat := 0
  roundTime : Nat := 0
  deriving DecidableEq, Repr

/-! ## The whole part -/

/-- Everything but device memory and the queue of commands. `regs` holds each BAR0 register that differs from its reset
value, `wide` each 64-bit pair, `held` the value still in force of a register whose change waits for its boundary (R81). -/
structure Dev where
  regs : Sparse Word := []
  wide : Sparse Wide := []
  held : Sparse Word := []
  /-- draws made from the free values of the spec: the model's own field (DESIGN CHOICE, log entry 1) -/
  freeCtr : Nat := 0
  /-- writes to device memory that the present step has formed: the model's own field, empty between steps (DESIGN CHOICE, log entry 2) -/
  outbox : List MemOp := []
  time : TimeSt := {}
  chans : Sparse ChanSt := []
  shot : Option Shot := none
  bur : BurSt := {}
  blw : BlwSt := {}
  kiln : KilnSt := {}
  turf : TurfSt := {}
  taps : TapsSt := {}
  scan : ScanSt := {}
  out : OutSt := {}
  peer : PeerSt := {}
  safe : SafeSt := {}
  host : HostSt := {}
  cmd : CmdSt := {}
  cfg : CfgSt := {}
  store : StoreSt := {}
  memc : MemSt := {}
  hk : HkSt := {}
  pwr : PwrSt := {}
  rst : RstSt := {}
  evt : EvtSt := {}
  tel : TelSt := {}
  deriving DecidableEq, Repr

/-- The part with the commands that wait, first in, first out. -/
structure State where
  pending : List Instr
  /-- device memory (R415): the bytes that are not zero, at rising addresses -/
  mem : List Host.Cell
  dev : Dev
  deriving DecidableEq, Repr

/-- The part right after power-on, its last reset source released and the fuse load begun (R584): the reset is recorded in the
backup domain, which has itself just started (R579, R581). -/
def State.reset : State :=
  { pending := [], mem := [],
    dev := { regs := [(Reg.RST_CAUSE, 0x1801#32), (Reg.RST_SRC_CNT 0, 1#32)] } }

end Sys2Proof.Machine
end

