-- ==== Sys2Proof/Machine/Ops.lean ====
section
/-! DEFINITION. The named operations over the part's state: registers and fields, parameters, counters with their SAT bits,
sticky flags, event raising, device time, writes to device memory, and the one frame in which every step runs. -/

namespace Sys2Proof.Machine

/-! ## Registers (R620) -/

/-- The value a BAR0 register holds. -/
def Dev.reg (d : Dev) (a : Nat) : Word := sget regReset a d.regs

/-- Set a BAR0 register. -/
def Dev.put (d : Dev) (a : Nat) (v : Word) : Dev := { d with regs := sset regReset a v d.regs }

/-- A field of a register. -/
def Dev.fld (d : Dev) (f : Fld) : Nat := field (d.reg f.addr) f.lo f.width

/-- A one-bit field. -/
def Dev.flag (d : Dev) (f : Fld) : Bool := d.fld f == 1

/-- Set a field. -/
def Dev.setFld (d : Dev) (f : Fld) (v : Nat) : Dev := d.put f.addr (withField (d.reg f.addr) f.lo f.width v)

/-- Set a one-bit field. -/
def Dev.setFlag (d : Dev) (f : Fld) (b : Bool) : Dev := d.setFld f (b2n b)

/-- A field read as two's complement. -/
def Dev.fldI (d : Dev) (f : Fld) : Int := sgn f.width (d.fld f)

/-- Bit `n` of a register. -/
def Dev.bit (d : Dev) (a n : Nat) : Bool := bitAt (d.reg a).toNat n

/-- Set bit `n` of a register. -/
def Dev.setBit (d : Dev) (a n : Nat) (b : Bool) : Dev := d.put a (withField (d.reg a) n 1 (b2n b))

/-- A 64-bit value of BAR0, named by the offset of its LO half (R624). -/
def Dev.wide64 (d : Dev) (lo : Nat) : Nat := (sget (fun _ => (0 : Wide)) lo d.wide).toNat

/-- Set a 64-bit value of BAR0. -/
def Dev.putWide (d : Dev) (lo v : Nat) : Dev := { d with wide := sset (fun _ => 0) lo (BitVec.ofNat 64 v) d.wide }

/-- The value still in force of a register whose change waits for its boundary (R81), else the register. -/
def Dev.force (d : Dev) (a : Nat) : Word := (slook a d.held).getD (d.reg a)

/-- A field of the value in force. -/
def Dev.forceFld (d : Dev) (f : Fld) : Nat := field (d.force f.addr) f.lo f.width

/-! ## Device time (R31, R37) -/

/-- Device time in ns. -/
def Dev.now (d : Dev) : Nat := 2 * d.time.acc / (5 * 2 ^ 40)

/-- Device time in ps. -/
def Dev.nowPs (d : Dev) : Nat := 400 * d.time.acc / 2 ^ 40

/-- The PLL is locked (R36). -/
def Dev.locked (d : Dev) : Bool := d.flag F.TIME_STAT_LOCK

/-- Let `n` coarse periods of the timing island pass: device time advances by 0.4 ns × (1 + rate) for each (R37). -/
def Dev.advance (d : Dev) (n : Nat) : Dev :=
  { d with time := { d.time with
      ticks := d.time.ticks + n,
      acc := ((d.time.acc : Int) + n * (2 ^ 40 + d.time.rate)).toNat,
      slotClk := d.time.slotClk + n } }

/-- The slot number (R45). -/
def Dev.slotNo (d : Dev) : Nat := d.wide64 Reg.TIME_SLOT_LO

/-! ## Free values -/

/-- A value the manual leaves open, `w` bits wide (DESIGN CHOICE, log entry 1). -/
def Dev.free (d : Dev) (w : Nat) : Nat := (Config.freeValue d.freeCtr).toNat % 2 ^ w

/-- The next free value is another one. -/
def Dev.freeNext (d : Dev) : Dev := { d with freeCtr := d.freeCtr + 1 }

/-! ## Events (R605 to R611) -/

/-- Raise an event source: it is recorded with the other raisings of the step. -/
def Dev.raiseAs (d : Dev) (src : Nat) (test : Bool) (d0 d1 : Nat) : Dev :=
  { d with evt := { d.evt with raised := d.evt.raised ++ [⟨src, test, d0, d1⟩] } }

/-- Raise an event source with its details (R608). -/
def Dev.raise (d : Dev) (src : Nat) (d0 : Nat := 0) (d1 : Nat := 0) : Dev := d.raiseAs src false d0 d1

/-- Raise an event source whose rule names a status register, read in the raising cycle (R608). -/
def Dev.raiseReg (d : Dev) (src a : Nat) : Dev := d.raise src (d.reg a).toNat

/-- Set a sticky bit; raise its event when it changes from 0 to 1. -/
def Dev.sticky (d : Dev) (a n src : Nat) : Dev :=
  if d.bit a n then d else (d.setBit a n true).raiseReg src a

/-- Set a sticky bit that has no event of its own. -/
def Dev.mark (d : Dev) (a n : Nat) : Dev := d.setBit a n true

/-! ## Counters (R613, R634) -/

/-- The value of a counter. -/
def Dev.cnt (d : Dev) (c : Cnt) : Nat := if c.wide then d.wide64 c.addr else (d.reg c.addr).toNat

/-- Set a counter. -/
def Dev.setCnt (d : Dev) (c : Cnt) (v : Nat) : Dev :=
  if c.wide then d.putWide c.addr v else d.put c.addr (BitVec.ofNat 32 v)

/-- All ones of a counter's width. -/
def cntTop (c : Cnt) : Nat := if c.wide then 2 ^ 64 - 1 else 2 ^ 32 - 1

/-- EV_COUNTER_SAT (R608). -/
abbrev evCounterSat : Nat := 600

/-- Count `n` more: the counter stops at all ones, and sets its SAT bit and raises EV_COUNTER_SAT when it first gets there. -/
def Dev.bumpBy (d : Dev) (c : Cnt) (n : Nat) : Dev :=
  let v := min (cntTop c) (d.cnt c + n)
  let d := d.setCnt c v
  if v = cntTop c ∧ d.bit c.sat c.bit = false then (d.setBit c.sat c.bit true).raise evCounterSat c.sat c.addr else d

/-- Count one more. -/
def Dev.bump (d : Dev) (c : Cnt) : Dev := d.bumpBy c 1

/-! ## MSI-X (R411, R425, R426, R611) -/

/-- The MSI-X table entry of a vector. -/
def Dev.msix (d : Dev) (v : Nat) : MsixEntry := sget (fun _ => {}) v d.host.msix

/-- A message of the vector may leave now: nothing masks it, messages are enabled, and the function is in D0. -/
def Dev.msiOpen (d : Dev) (v : Nat) : Bool :=
  d.host.msixEnable && d.host.busMaster && !d.host.msixMask && !d.host.d3hot && !(d.msix v).masked

/-- Send a due message of a vector, or leave it pending in the PBA. -/
def Dev.sendMsi (d : Dev) (v : Nat) : Dev :=
  if d.msiOpen v then
    let e := d.msix v
    { d with
      host := { d.host with writes := d.host.writes ++ [⟨e.addr.toNat, leBytes 4 e.data.toNat⟩],
                            pba := d.host.pba &&& ~~~(1#64 <<< v) },
      evt := { d.evt with hold := if d.fld F.EVT_CTL_HOLDOFF_US = 0 then d.evt.hold else d.evt.hold ||| (1#64 <<< v) } }
  else { d with host := { d.host with pba := d.host.pba ||| (1#64 <<< v) } }

/-- Make a message due on a vector: within the holdoff of its previous message it waits for the holdoff's end. -/
def Dev.dueMsi (d : Dev) (v : Nat) : Dev :=
  if d.evt.hold.getLsbD v then { d with evt := { d.evt with due := d.evt.due ||| (1#64 <<< v) } } else d.sendMsi v

/-- Bytes to write to device memory at the end of the step. -/
def Dev.memw (d : Dev) (a : Nat) (bs : List Byte) : Dev := { d with outbox := d.outbox ++ [.write a bs] }

/-! ## Event records (R607 to R610) -/

/-- Either group is halted. -/
def Dev.memHalted (d : Dev) : Bool := d.flag F.MEM_STAT_HALT_A || d.flag F.MEM_STAT_HALT_B

/-- The 32 bytes of an event record (R607). -/
def evtRecord (seq src flags vec time d0 d1 dropped : Nat) : List Byte :=
  let b := leBytes 4 seq ++ leBytes 2 src ++ leBytes 1 flags ++ leBytes 1 vec ++ leBytes 8 time ++ leBytes 4 d0
    ++ leBytes 4 d1 ++ leBytes 4 dropped
  b ++ leBytes 2 (crc16 (b ++ zeros 4)) ++ zeros 2

/-- The number of entries of the event ring. -/
def Dev.evtDepth (d : Dev) : Nat := 2 ^ d.fld F.EVT_RING_SIZE_LOG2

/-- Records written and not released. -/
def Dev.evtUsed (d : Dev) : Nat := serialAhead (d.reg Reg.EVT_RING_RD).toNat (d.reg Reg.EVT_RING_WR).toNat

/-- EV_EVT_RING_OVF. -/
abbrev evRingOvf : Nat := 601

/-- The message of a raising, as bit 7 of its route asks (R611). -/
def Dev.routeMsi (d : Dev) (src : Nat) : Dev :=
  let r := (d.reg (Reg.EVT_ROUTE src)).toNat
  if bitAt r 7 then d.dueMsi (r % 64) else d

/-- Set a source's pending bit and make its message due, writing no record. -/
def Dev.signal (d : Dev) (src : Nat) : Dev := (d.setBit (Reg.EVT_PEND (src / 32)) (src % 32) true).routeMsi src

/-- One more record has been dropped since the last one written. -/
def Dev.noteDrop (d : Dev) : Dev := { d with evt := { d.evt with dropped := satAdd 32 d.evt.dropped 1 } }

/-- The count of dropped records, with its SAT bit; EV_COUNTER_SAT finds no room either. -/
def Dev.countDrop (d : Dev) : Dev :=
  let c := C.EVT_RING_DROP_CNT
  let v := min (cntTop c) (d.cnt c + 1)
  let x := (d.setCnt c v).noteDrop
  if v = cntTop c ∧ d.bit c.sat c.bit = false then ((x.setBit c.sat c.bit true).signal evCounterSat).noteDrop else x

/-- EV_EVT_RING_OVF is raised once for a stretch of drops on a full ring (R610). -/
def Dev.sayFull (d : Dev) : Dev :=
  if d.flag F.EVT_CTL_RING_EN && !d.evt.ovfSaid && decide (d.evtDepth ≤ d.evtUsed) then
    let x := d.signal evRingOvf
    { x with evt := { x.evt with ovfSaid := true } }
  else d

/-- Drop the record of a raising (R610). -/
def Dev.dropRecord (d : Dev) : Dev := d.countDrop.sayFull

/-- A record may be written: the ring is enabled, has room, and memory is not halted (R517, R610). -/
def Dev.ringOpen (d : Dev) : Bool := d.flag F.EVT_CTL_RING_EN && decide (d.evtUsed < d.evtDepth) && !d.memHalted

/-- The bytes of the record of a raising (R607, R610). -/
def Dev.recordOf (d : Dev) (r : Raised) : List Byte :=
  evtRecord (d.reg Reg.EVT_RING_WR).toNat r.src (b2n r.test + 2 * b2n (decide (d.evt.dropped ≠ 0)))
    (d.fld (F.EVT_ROUTE_VECTOR r.src)) d.now r.detail0 r.detail1 d.evt.dropped

/-- Where the next record lies (R609). -/
def Dev.recordAddr (d : Dev) : Nat := d.wide64 Reg.EVT_RING_BASE_LO + (d.reg Reg.EVT_RING_WR).toNat % d.evtDepth * 32

/-- EVT_RING_WR passes the record written, and FULL follows. -/
def Dev.passRecord (d : Dev) : Dev :=
  let x := d.put Reg.EVT_RING_WR (BitVec.ofNat 32 ((d.reg Reg.EVT_RING_WR).toNat + 1))
  x.setFlag F.EVT_STAT_FULL (decide (x.evtUsed = x.evtDepth))

/-- Write the record of a raising to the ring, or drop it: a halted memory has stopped the ring's writer (R517). -/
def Dev.writeRecord (d : Dev) (r : Raised) : Dev :=
  if d.ringOpen then
    let x := (d.memw d.recordAddr (d.recordOf r)).passRecord
    { x with evt := { x.evt with dropped := 0 } }
  else d.dropRecord

/-- The record of a raising, as bit 6 of its route asks (R611). -/
def Dev.routeRecord (d : Dev) (r : Raised) : Dev := if bitAt (d.reg (Reg.EVT_ROUTE r.src)).toNat 6 then d.writeRecord r else d

/-- The event logic takes one raising (R611) of a source 0 to 639 (R605). -/
def Dev.postEvent (d : Dev) (r : Raised) : Dev :=
  if 640 ≤ r.src then d
  else ((d.setBit (Reg.EVT_PEND (r.src / 32)) (r.src % 32) true).routeRecord r).routeMsi r.src

/-- Insert a raising by source number, after those of the same source. -/
def insRaised (r : Raised) : List Raised → List Raised
  | [] => [r]
  | x :: xs => if r.src < x.src then r :: x :: xs else x :: insRaised r xs

/-- The raisings of one step in ascending source number (R606). -/
def sortRaised (l : List Raised) : List Raised := l.foldl (fun acc r => insRaised r acc) []

/-- The event logic takes the raisings of the step. -/
def Dev.settle (d : Dev) : Dev :=
  (sortRaised d.evt.raised).foldl Dev.postEvent { d with evt := { d.evt with raised := [] } }

/-! ## Device memory (R415, R510, R511, R517) -/

/-- Bytes of device memory that the host can reach: the capacity less the top 256 MiB (R415). -/
def devMemSize : Nat := if Config.sixteenGiB then 0x3F0000000 else 0x1F0000000

/-- A range lies wholly within device memory (R415). -/
def inDevMem (a n : Nat) : Bool := decide (a + n ≤ devMemSize)

/-- The group that holds a device address is halted (R504, R509, R517). -/
def Dev.haltedAt (d : Dev) (a : Nat) : Bool :=
  if bitAt a 8 then d.flag F.MEM_STAT_HALT_B else d.flag F.MEM_STAT_HALT_A

/-- A range to set to zero at the end of the step. -/
def Dev.wipe (d : Dev) (a n : Nat) : Dev := { d with outbox := d.outbox ++ [.zero a n] }

/-- The mask of bytes `lo` to `hi - 1` of a burst. -/
def byteMask (lo hi : Nat) : Nat := if lo < hi then 2 ^ hi - 2 ^ lo else 0

/-- Drop the recorded errors of the beats from `b` to `e - 1`. -/
def MemSt.clean (m : MemSt) (b e : Nat) : MemSt := { m with faults := sclear (fun k => decide (b ≤ k ∧ k < e)) m.faults }

/-- A write of bytes `lo` to `hi - 1` of burst `l` passes the write-merge buffer: a whole burst replaces every beat, a part
merges into the burst's line, and a full line leaves as a burst (R510). -/
def MemSt.mergeLine (m : MemSt) (l lo hi : Nat) : MemSt :=
  let old := ((m.lines.find? (·.1 == l)).map (·.2)).getD 0
  let mask := old ||| byteMask lo hi
  let rest := m.lines.filter (·.1 != l)
  if mask = 2 ^ 256 - 1 then { m.clean (l * 16) (l * 16 + 16) with lines := rest }
  else if old = 0 then { m with lines := m.lines ++ [(l, mask)] }
  else { m with lines := m.lines.map fun x => if x.1 = l then (l, mask) else x }

/-- A write of `n` bytes from `a`, burst by burst; `k` bounds the bursts. -/
def MemSt.noteWrite : Nat → MemSt → Nat → Nat → MemSt
  | 0, m, _, _ => m
  | k + 1, m, a, n =>
    if n = 0 then m
    else
      let w := min n (256 - a % 256)
      MemSt.noteWrite k (m.mergeLine (a / 256) (a % 256) (a % 256 + w)) (a + w) (n - w)

/-- The bytes of a write that a group accepts: a halted group accepts none (R517). -/
def Dev.accepted (d : Dev) : Nat → List Byte → List (Nat × Byte)
  | _, [] => []
  | a, b :: bs => if d.haltedAt a then d.accepted (a + 1) bs else (a, b) :: d.accepted (a + 1) bs

/-- Write single bytes. -/
def memPoke (m : List Host.Cell) (l : List (Nat × Byte)) : List Host.Cell :=
  l.foldl (fun m x => memSetByte m x.1 x.2) m

/-- One write of the step reaches device memory. -/
def applyOp (x : List Host.Cell × Dev) (op : MemOp) : List Host.Cell × Dev :=
  match op with
  | .write a bs =>
    let (m, d) := x
    if d.memHalted then (memPoke m (d.accepted a bs), d)
    else (memWrite m a bs, { d with memc := d.memc.noteWrite (bs.length / 256 + 2) a bs.length })
  | .zero a n =>
    let (m, d) := x
    if d.memHalted then x
    else (memZero m a n, { d with memc :=
      { d.memc.clean (a / 16) ((a + n) / 16) with lines := d.memc.lines.filter fun l => !(decide (a ≤ l.1 * 256 ∧ l.1 * 256 < a + n)) } })

/-- The writes of the step reach device memory in order. -/
def flushOut (m : List Host.Cell) (d : Dev) : List Host.Cell × Dev :=
  let (m, d) := d.outbox.foldl applyOp (m, d)
  (m, { d with outbox := [] })

/-- What the part sent in earlier steps is gone. -/
def Dev.begin_ (d : Dev) : Dev :=
  { d with outbox := [], host := { d.host with writes := [] }, peer := { d.peer with sent := [] },
           evt := { d.evt with raised := [] } }

/-- The frame of every step: the work on the part, then its event records, then its writes to device memory. The queue of
commands is no part of it. -/
def State.onDev (s : State) (f : List Host.Cell → Dev → Dev) : State :=
  let r := flushOut s.mem (f s.mem s.dev.begin_).settle
  { pending := s.pending, mem := r.1, dev := r.2 }

/-- The CXL island is out of reset (R584 step 4). -/
def Dev.islandUp (d : Dev) : Bool :=
  !(d.rst.phase == .held || d.rst.phase == .fuseLoad || d.rst.phase == .domains || d.rst.phase == .fuseFailed)

/-- The BARs are answered: the island runs (R584), and the function is in D0 (R430). -/
def Dev.barOpen (d : Dev) : Bool := d.islandUp && !d.host.d3hot

/-- The frame of an access through a BAR, which has no effect while the BARs are not answered. -/
def State.onBar (s : State) (f : List Host.Cell → Dev → Dev) : State := s.onDev fun mem d => if d.barOpen then f mem d else d

/-! ## Parameters (R475 to R478) -/

/-- The key of element `e` of parameter `i`. -/
def pkey (i e : Nat) : Nat := 2 ^ 20 * i + e

/-- The bytes of code `c` of the factory book in the user format (R158, R159). -/
def factoryCode (c : Nat) : Nat :=
  let u := c % 8
  let v := c / 8
  let g1 := 40 + 5 * u
  let g2 := 41 + 5 * v
  let g3 := 42 + 5 * ((u + v) % 8)
  4 + 2 ^ 16 * g1 + 2 ^ 32 * (g1 + g2) + 2 ^ 48 * (g1 + g2 + g3)

/-- The nominal bin table: bin j of 64 at the middle of its sixty-fourth of a coarse period, 1/16 fine units (DESIGN CHOICE, log entry 6). -/
def nominalBins : Nat := leNat ((List.range 64).flatMap fun j => leBytes 2 (64 * j + 32))

/-- The selection that skips every fifth cell (DESIGN CHOICE, log entry 6): 64 of the 80 cells. -/
def nominalCells : Nat := (List.range 80).foldl (fun a c => if c % 5 = 4 then a else a + 2 ^ c) 0

/-- What an element of a parameter reads as when nothing has set it (R497): a register copy takes the register's reset value. `live` gives `slot.groups` and `emit.cal`. -/
def paramDefault (live : Nat → Nat → Nat) (i e : Nat) : Nat :=
  if i = P.slot_seg_group then e % max 1 (live P.slot_groups 0)
  else if i = P.slot_seg_rows then e
  else if i = P.code_group then e
  else if i = P.code_book then factoryCode e
  else if i = P.evt_route then 0xC0 + defaultVector e
  else if i = P.cal_bin_table then nominalBins
  else if i = P.cal_cell_sel then nominalCells
  else if i = P.time_xo_c0 then (Config.xoFactory 0).toNat
  else if i = P.time_xo_c1 then (Config.xoFactory 1).toNat
  else if i = P.time_xo_c2 then (Config.xoFactory 2).toNat
  else if i = P.time_xo_c3 then (Config.xoFactory 3).toNat
  else if i = P.hk_ref_tc then (Config.refTcFactory e).toNat % 256
  else if i = P.out_ring then 2 ^ 96 * [16, 1, 64].getD e 0
  else if i = P.safe_seg_slope then min 65535 (ceilDiv (bits (live P.emit_cal e) 0 16 * 5) 4)
  else if i = P.safe_seg_zero then bits (live P.emit_cal e) 16 16
  else
    match paramParts i e with
    | [] => ((param? i).map (·.dflt)).getD 0
    | ps => ps.foldl (fun a p => a + 2 ^ (8 * p.2) * field (regReset p.1.addr) p.1.lo p.1.width) 0

/-- A live value that was set, or the plain default of a parameter that another's default depends on. -/
def Dev.rawPar (d : Dev) (i e : Nat) : Nat := (slook (pkey i e) d.cfg.live).getD (((param? i).map (·.dflt)).getD 0)

/-- A signed value in a register field narrower than its element is sign-extended to the element (R476, R477). -/
def signFill (i v : Nat) : Nat :=
  if i = P.fe_offset then unsgn 16 (sgn 10 v) else if i = P.kiln_range_scale_ppm then unsgn 16 (sgn 11 v) else v

/-- Bytes `o` on of an element taken from the register fields it copies (R477). -/
def Dev.partsValue (d : Dev) (ps : List (Fld × Nat)) : Nat := ps.foldl (fun a p => a + 2 ^ (8 * p.2) * d.fld p.1) 0

/-- `out.ring[e]` from the registers of stream e, whose base is a pair (R327, R624). -/
def Dev.ringValue (d : Dev) (e : Nat) : Nat :=
  d.wide64 (Reg.ING_S_BASE_LO e) + 2 ^ 64 * (d.reg (Reg.ING_S_SIZE e)).toNat + 2 ^ 96 * d.fld (F.ING_S_CTL_EVERY e)

/-- Set the registers that copy `out.ring[e]`. -/
def Dev.setRing (d : Dev) (e v : Nat) : Dev :=
  let d := (d.putWide (Reg.ING_S_BASE_LO e) (bits v 0 64)).put (Reg.ING_S_BASE_LO e) (BitVec.ofNat 32 v)
  (d.put (Reg.ING_S_SIZE e) (BitVec.ofNat 32 (bits v 64 32))).setFld (F.ING_S_CTL_EVERY e) (bits v 96 16)

/-- The live value of an element: the register fields it copies (R477), or the value set, or its default. -/
def Dev.par (d : Dev) (i e : Nat) : Nat :=
  if i = P.out_ring then d.ringValue e
  else
    match paramParts i e with
    | [] => (slook (pkey i e) d.cfg.live).getD (paramDefault d.rawPar i e)
    | ps => signFill i (d.partsValue ps)

/-- The live value of a signed element. -/
def Dev.parI (d : Dev) (i e : Nat) : Int := sgn (8 * ((param? i).map (·.esize)).getD 4) (d.par i e)

/-- Set the live value of an element. -/
def Dev.setPar (d : Dev) (i e v : Nat) : Dev :=
  if i = P.out_ring then d.setRing e v else
  match paramParts i e with
  | [] => { d with cfg := { d.cfg with live := sput (pkey i e) v d.cfg.live } }
  | ps => ps.foldl (fun d p => d.setFld p.1 (bits v (8 * p.2) p.1.width)) d

/-! ## Domains (R556, R557) -/

/-- Domain `n` is on. -/
def Dev.domOn (d : Dev) (n : Nat) : Bool := d.bit (Reg.PWR_DOM_ON (n / 32)) (n % 32)

/-- Domain `n` takes part: it is on and does not wait for a frame boundary to join (R563). -/
def Dev.joined (d : Dev) (n : Nat) : Bool := d.domOn n && !d.pwr.joining.contains n

/-- Set or clear a domain's bit. -/
def Dev.setDom (d : Dev) (n : Nat) (b : Bool) : Dev := d.setBit (Reg.PWR_DOM_ON (n / 32)) (n % 32) b

/-! ## Scan state (R309) -/

/-- `SCN_STAT.STATE` values. -/
abbrev stStopped : Nat := 0
/-- STARTING. -/
abbrev stStarting : Nat := 1
/-- RUNNING. -/
abbrev stRunning : Nat := 2
/-- HOLDING. -/
abbrev stHolding : Nat := 3
/-- STOPPING. -/
abbrev stStopping : Nat := 4
/-- FAULT. -/
abbrev stFault : Nat := 5

/-- `SCN_STAT.STATE`. -/
def Dev.scanState (d : Dev) : Nat := d.fld F.SCN_STAT_STATE

/-- STATE is STOPPED or FAULT. -/
def Dev.atRest (d : Dev) : Bool := d.scanState == stStopped || d.scanState == stFault

end Sys2Proof.Machine
end

