-- ==== Sys2Proof/Machine/Command.lean ====
section
/-! DEFINITION. Kryroip commands (chapter 15): the opcode table's forms, the queue pairs and their replies, the order of the
checks (R652), the start of a command and the end of an ACCEPTED one. -/

namespace Sys2Proof

/-- The parameter bytes as one number, those beyond PLEN read as zero (R441). -/
def Packet.value (p : Packet) : Nat := p.params.toNat % 2 ^ (8 * p.plen.toNat)

/-- The parameter of `n` bytes at offset `o`. -/
def Packet.u (p : Packet) (o n : Nat) : Nat := Machine.bits p.value (8 * o) (8 * n)

/-- The packet of a command whose opcode the row gives. -/
def Cmd.packet (c : Cmd) (code : Nat) : Packet := ⟨BitVec.ofNat 16 code, c.flags, c.plen, c.tag, c.params⟩

end Sys2Proof

namespace Sys2Proof.Machine

/-! ## Forms of the opcode table (R440, R441, R458) -/

/-- What the opcode tables say of one command: its fields (offset, bytes), its coded fields with the greatest code that is not
reserved, and its marks. -/
structure OpForm where
  code : Nat
  fields : List (Nat × Nat)
  coded : List (Nat × Nat × Nat) := []
  /-- kind A of R443: an ACCEPTED command holds one of the places of R446 -/
  accepts : Bool := false
  single : Bool := false
  abortable : Bool := false
  serial : Bool := false
  deriving DecidableEq, Repr

/-- The opcode tables of R459 to R472, with the layouts of R232, R243, R277 and R278. -/
def opForms : List OpForm := [
  { code := 0x0001, fields := [] },
  { code := 0x0002, fields := [] },
  { code := 0x0003, fields := [] },
  { code := 0x0004, fields := [(0, 2)] },
  { code := 0x0005, fields := [(0, 1), (4, 4)] },
  { code := 0x0101, fields := [] },
  { code := 0x0102, fields := [(0, 8)] },
  { code := 0x0103, fields := [(0, 8)] },
  { code := 0x0104, fields := [(0, 1), (2, 2)], accepts := true, single := true, abortable := true },
  { code := 0x0201, fields := [], accepts := true },
  { code := 0x0202, fields := [], accepts := true },
  { code := 0x0203, fields := [] },
  { code := 0x0204, fields := [], accepts := true },
  { code := 0x0301, fields := [] },
  { code := 0x0302, fields := [] },
  { code := 0x0303, fields := [(0, 1), (1, 1), (2, 1)], coded := [(2, 1, 1)], accepts := true },
  { code := 0x0304, fields := [(0, 1)] },
  { code := 0x0305, fields := [], accepts := true },
  { code := 0x0306, fields := [(0, 1), (1, 1), (2, 1), (3, 1), (4, 2)], coded := [(0, 1, 1), (2, 1, 1)], accepts := true },
  { code := 0x0307, fields := [(0, 1), (1, 1), (2, 2)] },
  { code := 0x0308, fields := [(0, 1)] },
  { code := 0x0309, fields := [(0, 32)], accepts := true },
  { code := 0x0401, fields := [(0, 8)], accepts := true },
  { code := 0x0402, fields := [], accepts := true, serial := true },
  { code := 0x0403, fields := [(0, 2), (2, 2), (4, 4), (8, 2), (10, 1)], accepts := true, single := true, abortable := true },
  { code := 0x0404, fields := [(0, 1), (8, 8), (16, 4)], coded := [(0, 1, 1)], accepts := true, abortable := true },
  { code := 0x0405, fields := [(0, 8)], accepts := true, serial := true },
  { code := 0x0406, fields := [(0, 1), (1, 1), (2, 2), (4, 2), (8, 8), (16, 4), (20, 4)],
    coded := [(0, 1, 2), (1, 1, 1)], accepts := true, single := true, abortable := true },
  { code := 0x0407, fields := [(0, 1), (1, 1), (4, 4), (8, 4)], coded := [(0, 1, 1)], accepts := true, single := true },
  { code := 0x0501, fields := [(0, 1)] },
  { code := 0x0502, fields := [(0, 1), (4, 4), (8, 8)] },
  { code := 0x0503, fields := [(0, 2), (2, 2), (4, 1), (5, 1), (6, 1)] },
  { code := 0x0504, fields := [(0, 1), (1, 1), (2, 2)] },
  { code := 0x0505, fields := [(0, 1), (1, 1), (2, 2), (4, 2), (6, 1), (7, 1), (8, 1), (9, 1), (10, 2)] },
  { code := 0x0506, fields := [(0, 2), (2, 2), (4, 1), (5, 1), (8, 8)], accepts := true, single := true, abortable := true },
  { code := 0x0507, fields := [(0, 2), (2, 2), (4, 1), (5, 1)], accepts := true, single := true },
  { code := 0x0601, fields := [(0, 2), (4, 4), (8, 1)] },
  { code := 0x0602, fields := [(0, 2), (4, 4), (8, 1), (16, 32)], serial := true },
  { code := 0x0603, fields := [(0, 8), (8, 4)], accepts := true, serial := true },
  { code := 0x0604, fields := [(0, 1)], accepts := true, serial := true },
  { code := 0x0605, fields := [(0, 1), (8, 8), (16, 4)], accepts := true, serial := true },
  { code := 0x0606, fields := [(0, 1)], accepts := true, serial := true },
  { code := 0x0607, fields := [(0, 1)], serial := true },
  { code := 0x0608, fields := [], accepts := true, serial := true },
  { code := 0x0609, fields := [(0, 1), (8, 8), (16, 4)], accepts := true, abortable := true },
  { code := 0x0701, fields := [] },
  { code := 0x0702, fields := [(0, 4)], accepts := true, serial := true },
  { code := 0x0703, fields := [(0, 4)], accepts := true, serial := true },
  { code := 0x0704, fields := [(0, 4), (4, 4), (8, 8)], accepts := true, serial := true },
  { code := 0x0801, fields := [] },
  { code := 0x0802, fields := [(0, 8)], accepts := true },
  { code := 0x0803, fields := [] },
  { code := 0x0804, fields := [(0, 1)] },
  { code := 0x0901, fields := [(0, 8), (8, 8), (16, 1), (24, 8)], coded := [(16, 1, 1)], accepts := true, single := true,
    abortable := true },
  { code := 0x0902, fields := [] },
  { code := 0x0903, fields := [(0, 1), (4, 4)] },
  { code := 0x0904, fields := [(0, 8), (8, 8)], accepts := true, single := true, abortable := true },
  { code := 0x0A01, fields := [] },
  { code := 0x0A02, fields := [(0, 1)] },
  { code := 0x0A03, fields := [(0, 1), (1, 1)], coded := [(1, 1, 1)] },
  { code := 0x0B01, fields := [] },
  { code := 0x0B02, fields := [(0, 1)], accepts := true },
  { code := 0x0B03, fields := [] },
  { code := 0x0B04, fields := [(0, 1)] },
  { code := 0x0C01, fields := [(0, 32), (32, 8)], accepts := true, single := true },
  { code := 0x0C02, fields := [(0, 8)], accepts := true },
  { code := 0x0C03, fields := [(0, 1), (8, 8)], accepts := true, single := true },
  { code := 0x0C04, fields := [(0, 8), (8, 4)], accepts := true, single := true },
  { code := 0x0C05, fields := [], accepts := true },
  { code := 0x0C06, fields := [(0, 1), (8, 8)], accepts := true, single := true },
  { code := 0x0D01, fields := [(0, 4), (8, 8), (16, 4)] },
  { code := 0x0D02, fields := [(0, 8)], accepts := true, abortable := true },
  { code := 0x0D03, fields := [(0, 2)] },
  { code := 0x0D04, fields := [(0, 1)] }]

/-- The form of an opcode; none for an opcode outside the tables. -/
def opForm? (code : Nat) : Option OpForm := opForms.find? (·.code == code)

/-- The defined length L of a form (R441). -/
def OpForm.len (f : OpForm) : Nat := f.fields.foldl (fun a x => max a (x.1 + x.2)) 0

/-- The parameter bytes that no field covers. -/
def OpForm.gaps (f : OpForm) (v : Nat) : Nat := f.fields.foldl (fun a x => a - bits a (8 * x.1) (8 * x.2) * 2 ^ (8 * x.1)) v

/-- An event source without a name (R605). -/
def reservedSource (n : Nat) : Bool :=
  decide ((500 ≤ n ∧ n < 520) ∨ (561 ≤ n ∧ n < 564) ∨ (585 ≤ n ∧ n < 588) ∨ (602 ≤ n ∧ n < 620) ∨ (624 ≤ n ∧ n < 632))

/-- Packet form (R441): the format error of a packet, or 0. A byte from L on, a gap between fields, a reserved flag and a reserved
code are all found here. -/
def formError (p : Packet) : Nat :=
  match opForm? p.opcode.toNat with
  | none => 0x0101
  | some f =>
    if p.plen.toNat < f.len ∨ 56 < p.plen.toNat then 0x0102
    else if p.flags.toNat / 4 ≠ 0 ∨ f.gaps p.value ≠ 0 then 0x0103
    else if f.coded.any fun x => decide (x.2.2 < p.u x.1 x.2.1) then 0x0103
    else if p.opcode = 0x0D03#16 ∧ reservedSource (p.u 0 2) then 0x0103
    else 0

/-! ## Queue pairs (R434 to R439) -/

/-- Queue pair `q`. -/
def Dev.pair (d : Dev) (q : Nat) : Pair := sget (fun _ => {}) q d.cmd.pairs

/-- Set queue pair `q`. -/
def Dev.setPair (d : Dev) (q : Nat) (p : Pair) : Dev :=
  { d with cmd := { d.cmd with pairs := sset (fun _ => ({} : Pair)) q p d.cmd.pairs } }

/-- The pair is held in host memory. -/
def Dev.inHost (d : Dev) (q : Nat) : Bool := d.flag (F.CMDQ_Q_CTL_LOC q)

/-- Depths of the submission and completion queues (R434). -/
def Dev.sqDepth (d : Dev) (q : Nat) : Nat := if d.inHost q then 2 ^ d.fld (F.CMDQ_Q_CTL_SQ_LOG2 q) else 256
/-- Depth of the completion queue. -/
def Dev.cqDepth (d : Dev) (q : Nat) : Nat := if d.inHost q then 2 ^ d.fld (F.CMDQ_Q_CTL_CQ_LOG2 q) else 512

/-- Entries of the completion queue that are neither posted and unreleased nor reserved (R438). -/
def Dev.cqFree (d : Dev) (q : Nat) : Nat := d.cqDepth q - serialAhead (d.pair q).cqHead (d.pair q).cqTail - (d.pair q).reserved

/-- The pair runs, the device is not declared failed, and BAR accesses are answered (R430, R435, R455). -/
def Dev.pairLive (d : Dev) (q : Nat) : Bool :=
  d.flag (F.CMDQ_Q_STAT_RUN q) && !d.flag F.CMDQ_STAT_DECLARED && !d.host.d3hot

/-- The bytes of a reply (R442). -/
def Reply.bytes (r : Reply) : List Byte :=
  leBytes 2 r.status ++ leBytes 2 r.opcode ++ leBytes 4 r.tag ++ (r.results ++ zeros 24).take 24

/-! Queue memory in BAR2 (R412, R434): words at their BAR2 offsets. -/

/-- Entry `n` of the submission queue of pair `q`. -/
def sqEntry (q n : Nat) : Nat := 0x80000 + 0x8000 * q + n % 256 * 64
/-- Entry `n` of its completion queue. -/
def cqEntry (q n : Nat) : Nat := 0x84000 + 0x8000 * q + n % 512 * 32

/-- Store `k` words from offset `a`. -/
def Dev.putQueue (d : Dev) (a k v : Nat) : Dev :=
  { d with cmd := { d.cmd with
      qmem := (List.range k).foldl (fun m i => sset (fun _ => 0) (a + 4 * i) (BitVec.ofNat 32 (v / 2 ^ (32 * i))) m) d.cmd.qmem } }

/-- The `k` words from offset `a`. -/
def Dev.queueAt (d : Dev) (a k : Nat) : Nat :=
  (List.range k).foldl (fun v i => v + (sget (fun _ => (0 : Word)) (a + 4 * i) d.cmd.qmem).toNat * 2 ^ (32 * i)) 0

/-- The 64 bytes of a packet as one number (R440). -/
def packetBits (p : Packet) : Nat :=
  p.opcode.toNat + 2 ^ 16 * p.flags.toNat + 2 ^ 24 * p.plen.toNat + 2 ^ 32 * p.tag.toNat + 2 ^ 64 * p.params.toNat

/-- The packet that 64 bytes spell. -/
def packetOf (v : Nat) : Packet :=
  ⟨BitVec.ofNat 16 v, BitVec.ofNat 8 (v / 2 ^ 16), BitVec.ofNat 8 (v / 2 ^ 24), BitVec.ofNat 32 (v / 2 ^ 32), BitVec.ofNat 448 (v / 2 ^ 64)⟩

/-- The host writes a packet to the entry that SQ_TAIL names; host memory is no part of the device. -/
def Dev.writeEntry (d : Dev) (q : Nat) (p : Packet) : Dev :=
  if d.inHost q then d else d.putQueue (sqEntry q (d.pair q).sqTail) 16 (packetBits p)

/-- The host write of a reply to a queue in host memory; none for a queue in BAR2. -/
def Dev.replyWrite (d : Dev) (q : Nat) (r : Reply) : List HostWrite :=
  if d.inHost q then
    [⟨d.wide64 (Reg.CMDQ_Q_CQ_BASE_LO q) + (d.pair q).cqTail % d.cqDepth q * 32, r.bytes⟩]
  else []

/-- EV_CMDQ_DONE of a pair. -/
abbrev evCmdqDone (q : Nat) : Nat := 527 + q

/-- Post a reply: it is written before CQ_TAIL passes it, and an IRQ flag raises the pair's event (R439). A pair in host memory
whose enable was cleared posts none (R424). -/
def Dev.post (d : Dev) (q : Nat) (p : Packet) (status : Nat) (results : List Byte) : Dev :=
  let r : Reply := ⟨status, p.opcode.toNat, p.tag.toNat, results⟩
  let pr := d.pair q
  if pr.silent then d.setPair q { pr with reserved := pr.reserved - 1 } else
  let d := { d with host := { d.host with writes := d.host.writes ++ d.replyWrite q r } }
  let d := if d.inHost q then d else d.putQueue (cqEntry q pr.cqTail) 8 (leNat r.bytes)
  let d := d.setPair q { pr with replies := pr.replies ++ [r], cqTail := (pr.cqTail + 1) % 2 ^ 32, reserved := pr.reserved - 1 }
  if bitAt p.flags.toNat 1 then d.raise (evCmdqDone q) else d

/-- The ACCEPTED commands outstanding, all and of one pair (R446, R474). -/
def Dev.countRunning (d : Dev) (q : Nat) : Nat := (d.cmd.running.filter fun r => r.pair == q && !r.mute).length

/-- The status fields that follow the commands outstanding; RUN clears when a disabled pair has none left (R435). Pairs are
numbered 0 to 15. -/
def Dev.recount (d : Dev) (q : Nat) : Dev :=
  let i := q % 16
  let n := d.countRunning q
  let d := (d.setFld F.CMDQ_STAT_OUTSTANDING d.cmd.running.length).setFld (F.CMDQ_Q_STAT_OUTSTANDING i) n
  if !d.flag (F.CMDQ_Q_CTL_EN i) && n == 0 && (d.pair q).fetched.isEmpty then d.setFlag (F.CMDQ_Q_STAT_RUN i) false else d

/-! ## Starting a command -/

/-- What the checks and the action of a command come to: a refusal, a final reply, or ACCEPTED with a value kept for later. -/
inductive Verdict where
  | refuse (code : Nat) (results : List Byte)
  /-- a refusal found by reading device memory, with what the reading did -/
  | reject (d : Dev) (code : Nat)
  | ok (d : Dev) (results : List Byte)
  | accept (d : Dev) (aux : Nat)
  deriving DecidableEq, Repr

/-- Refuse when a condition holds, else go on with the next check of R652. -/
def refuseIf (c : Bool) (code : Nat) (k : Verdict) : Verdict := if c then .refuse code [] else k

/-- Commands that serve before RESTORED (R447). -/
def servedEarly (op : Nat) : Bool :=
  op / 256 == 0x00 || op / 256 == 0x01 || op / 256 == 0x0D || op == 0x0C01 || op == 0x0C02 || op == 0x0301

/-- Readiness and lifecycle (R447, R599, R600), group 2 of R652: the refusal, or 0. -/
def Dev.readyError (d : Dev) (op : Nat) : Nat :=
  if !d.flag F.GLB_STAT_RESTORED && !servedEarly op then 0x0202
  else
    let lc := d.rst.shadow.lifecycle
    let g := op / 256
    if lc = 0 ∧ ¬(g = 0x00 ∨ g = 0x01 ∨ g = 0x0C ∨ g = 0x0D) then 0x0203
    else if lc = 4 ∧ (op = 0x0201 ∨ op = 0x0402 ∨ op = 0x0604) then 0x0203
    else if lc = 0 ∧ (op = 0x0C01 ∨ op = 0x0C02) then 0x0203
    else if op = 0x0D03 ∧ ¬(lc = 1 ∨ lc = 3) then 0x0203
    else 0

/-- The transitions of R597; DEPLOYED to SERVICE happens at most 16 times. -/
def Dev.transitionOk (d : Dev) (target : Nat) : Bool :=
  match d.rst.shadow.lifecycle with
  | 0 => target == 1
  | 1 => target == 2 || target == 4
  | 2 => (target == 3 && decide (d.rst.fuses.svc < 16)) || target == 4
  | 3 => target == 2 || target == 4
  | _ => false

/-- Group 2 of R652 with the packet: a target that is no transition is refused with 0x0203 too (R597). -/
def Dev.stageError (d : Dev) (p : Packet) : Nat :=
  let e := d.readyError p.opcode.toNat
  if e ≠ 0 then e else if p.opcode = 0x0C03#16 ∧ d.transitionOk (p.u 0 1) = false then 0x0203 else 0

/-- Commands that read device memory through the DMA channels (R520). -/
def usesDma (op : Nat) : Bool :=
  op == 0x0405 || op == 0x0603 || op == 0x0605 || op == 0x0704 || op == 0x0C04 || op == 0x0C03 || op == 0x0C06

/-- Limits (R446, R520), group 3 of R652: the refusal, or 0. -/
def Dev.limitError (d : Dev) (q op : Nat) : Nat :=
  match opForm? op with
  | none => 0
  | some f =>
    if f.single && d.cmd.running.any fun r => r.pkt.opcode.toNat == op then 0x0301
    else if f.serial && d.cmd.running.any fun r => ((opForm? r.pkt.opcode.toNat).map (·.serial)).getD false then 0x0301
    else if f.accepts && (decide (64 ≤ d.cmd.running.length) || decide (8 ≤ d.countRunning q)) then 0x0302
    else if usesDma op && d.fld F.MEM_DMA_STAT_HALTED == 255 then 0x0302
    else 0

/-- The meaning of one opcode: its packet, device memory and the part give a verdict. -/
abbrev Body := Packet → List Host.Cell → Dev → Verdict

/-- The checks of a command in the order of R652, its packet form first. -/
def judge (q : Nat) (p : Packet) (body : Body) (mem : List Host.Cell) (d : Dev) : Verdict :=
  let e1 := formError p
  let e2 := d.stageError p
  let e3 := d.limitError q p.opcode.toNat
  refuseIf (e1 != 0) e1 <| refuseIf (e2 != 0) e2 <| refuseIf (e3 != 0) e3 <| body p mem d

/-- Latency of a first reply, ns (R474). -/
def Dev.latency (d : Dev) (rung : Nat) : Nat := min 65535 ((d.time.ticks - rung) * 2 / 5)

/-- Note the latency of a first reply (R473). -/
def Dev.noteLatency (d : Dev) (q rung : Nat) : Dev :=
  let i := q % 16
  let n := d.latency rung
  let d := (d.setFld (F.CMDQ_Q_ACK_LAT_LAST i) n).setFld (F.CMDQ_Q_ACK_LAT_MAX i) (max n (d.fld (F.CMDQ_Q_ACK_LAT_MAX i)))
  let pr := d.pair q
  d.setPair q { pr with ackMax := max pr.ackMax ((d.time.ticks - rung) * 2 / 5) }

/-- Release the second entry that a command reserved (R438). -/
def Dev.release (d : Dev) (q : Nat) : Dev := d.setPair q { d.pair q with reserved := (d.pair q).reserved - 1 }

/-- EV_SEC_REFUSED. -/
abbrev evSecRefused : Nat := 639

/-- What every refusal leaves, in a first reply or in a completion: 0x01xx is counted (R473), 0x06xx raises EV_SEC_REFUSED (R596). -/
def Dev.countRefused (d : Dev) (code : Nat) : Dev :=
  let d := if code / 256 = 1 then d.bump C.CMDQ_FMT_ERR_CNT else d
  if code / 256 = 6 then d.raise evSecRefused else d

/-- A final refusal: the counters and the event that follow it (R473, R487, R596), the reply. -/
def Dev.refusal (d : Dev) (q : Nat) (p : Packet) (code : Nat) (results : List Byte) : Dev :=
  let d := d.countRefused code
  let d := if p.opcode = 0x0602#16 ∧ (code / 256 = 5 ∨ code = 0x0403) then d.bump C.GLB_CFG_REFUSE_CNT else d
  let d := d.setPair q { d.pair q with nRefused := (d.pair q).nRefused + 1 }
  ((d.post q p code results).release q).recount q

/-- Post the first reply of a command as its verdict says (R443), noting its latency from the doorbell at tick `rung`. -/
def Dev.answer (d : Dev) (q : Nat) (p : Packet) (rung : Nat) (v : Verdict) : Dev :=
  match v with
  | .refuse code results => (d.noteLatency q rung).refusal q p code results
  | .reject d code => (d.noteLatency q rung).refusal q p code []
  | .ok d results => (((d.noteLatency q rung).post q p 0x0000 results).release q).recount q
  | .accept d aux =>
    let d := d.noteLatency q rung
    let d := { d with cmd := { d.cmd with running := d.cmd.running ++ [Running.mk q p false aux] } }
    (d.post q p 0x0001 []).recount q

/-- A command's entry is fetched: SQ_HEAD passes it and two entries of the completion queue are reserved (R438). -/
def Dev.fetchAt (d : Dev) (q : Nat) (w : Waiting) : Dev :=
  let pr := d.pair q
  d.setPair q { pr with sqHead := (pr.sqHead + 1) % 2 ^ 32, reserved := pr.reserved + 2, nFetched := pr.nFetched + 1,
                        fetched := pr.fetched ++ [w] }

/-- One more doorbell has covered commands (R451). -/
def Dev.nextBell (d : Dev) : Dev := { d with cmd := { d.cmd with bells := d.cmd.bells + 1 } }

/-- The host has written the command and rung its doorbell just now: it is covered and fetched at once, where nothing waits
ahead of it and two entries of the completion queue are free. -/
def Dev.submit (d : Dev) (q : Nat) (p : Packet) : Dev :=
  let pr := d.pair q
  if pr.rung.isEmpty && pr.fetched.isEmpty && decide (2 ≤ d.cqFree q) && d.flag (F.CMDQ_Q_CTL_EN q)
      && !d.flag (F.CMDQ_Q_STAT_HALTED q) then
    (((d.writeEntry q p).nextBell).setPair q { pr with sqTail := (pr.sqTail + 1) % 2 ^ 32 }).fetchAt q
      { pkt := p, rung := d.time.ticks, bell := d.cmd.bells }
  else d

/-- A FENCE command waits until every earlier command of its pair has completed (R452). -/
def Dev.fenced (d : Dev) (q : Nat) (p : Packet) : Bool := bitAt p.flags.toNat 0 && decide (d.countRunning q ≠ 0)

/-- The interpreter reaches fetched commands of no defined opcode and refuses them (R453); `k` bounds them. -/
def Dev.refuseUnknown (d : Dev) : Nat → Nat → Dev
  | 0, _ => d
  | k + 1, q =>
    match (d.pair q).fetched with
    | [] => d
    | w :: rest =>
      if (opForm? w.pkt.opcode.toNat).isNone && !d.fenced q w.pkt then
        let d := d.setPair q { d.pair q with fetched := rest }
        ((d.noteLatency q w.rung).refusal q w.pkt 0x0101 []).refuseUnknown k q
      else d

/-- A command of another pair that could start reached the part by an earlier doorbell (R451). One that waits for its fence holds up no
other pair (DEDUCED, log entry 178). -/
def Dev.otherAhead (d : Dev) (q bell : Nat) : Bool :=
  (List.range 16).any fun x => x != q && d.pairLive x && match (d.pair x).fetched with
    | [] => false
    | w :: _ => decide (w.bell < bell) && !d.fenced x w.pkt

/-- The interpreter starts the command at the head of those fetched, when it is `p` and no other pair's comes first. -/
def Dev.startHead (d : Dev) (q : Nat) (p : Packet) (body : Body) (mem : List Host.Cell) : Dev :=
  match (d.pair q).fetched with
  | [] => d
  | w :: rest =>
    if w.pkt = p ∧ d.fenced q p = false ∧ d.otherAhead q w.bell = false then
      let d := d.setPair q { d.pair q with fetched := rest }
      (d.answer q p w.rung (judge q p body mem d)).refuseUnknown rest.length q
    else d

/-- One Kryroip command: the interpreter reaches it in its pair's order. A packet that no doorbell has covered is covered and
fetched first. On a pair that does not run it waits, and nothing changes. -/
def runCmd (code : Nat) (c : Cmd) (body : Body) (mem : List Host.Cell) (d : Dev) : Dev :=
  let p := c.packet code
  if d.pairLive c.pair.val then
    let d := if (d.pair c.pair.val).fetched.any (fun w => w.pkt = p) then d else d.submit c.pair.val p
    d.startHead c.pair.val p body mem
  else d

/-- The fast path judges a command: its form is good, so readiness and the action's own checks remain (R447, R652). -/
def fastJudge (p : Packet) (body : Body) (mem : List Host.Cell) (d : Dev) : Verdict :=
  let e := d.readyError p.opcode.toNat
  refuseIf (e != 0) e (body p mem d)

/-- A well-formed fast-path command acts in hardware and its final reply is posted (R445). -/
def Dev.fastAct (d : Dev) (q : Nat) (p : Packet) (rung : Nat) (body : Body) (mem : List Host.Cell) : Dev :=
  let d := d.setPair q { d.pair q with reserved := (d.pair q).reserved + 2 }
  d.answer q p rung (fastJudge p body mem d)

/-- The pair takes commands: it runs and is neither disabled nor halted. -/
def Dev.pairOpen (d : Dev) (q : Nat) : Bool :=
  d.pairLive q && d.flag (F.CMDQ_Q_CTL_EN q) && !d.flag (F.CMDQ_Q_STAT_HALTED q)

/-- The pair after a doorbell that covers a fast-path command alone: its entry is passed at once where nothing waits ahead. -/
def Dev.fastPair (d : Dev) (q : Nat) (p : Packet) : Pair :=
  let pr := d.pair q
  let n := b2n pr.rung.isEmpty
  { pr with sqTail := (pr.sqTail + 1) % 2 ^ 32, sqHead := (pr.sqHead + n) % 2 ^ 32, nFetched := pr.nFetched + n,
            rung := if pr.rung.isEmpty then [] else pr.rung ++ [{ pkt := p, rung := d.time.ticks, late := true }] }

/-- A fast-path command as a step of its own: a doorbell covers it alone, and it acts at once; a malformed one goes to the
interpreter (R445). -/
def runFast (code : Nat) (c : Cmd) (body : Body) (mem : List Host.Cell) (d : Dev) : Dev :=
  let q := c.pair.val
  let p := c.packet code
  if formError p ≠ 0 then runCmd code c body mem d
  else if d.pairOpen q && decide (2 ≤ d.cqFree q) && decide ((d.pair q).rung.length < d.sqDepth q) then
    ((d.writeEntry q p).setPair q (d.fastPair q p)).fastAct q p d.time.ticks body mem
  else d

/-! ## Ending an ACCEPTED command (R443, R448) -/

/-- The ACCEPTED command of a pair and tag, the oldest first. -/
def Dev.running? (d : Dev) (q tag : Nat) : Option Running :=
  d.cmd.running.find? fun r => r.pair == q && r.pkt.tag.toNat == tag

/-- The oldest ACCEPTED command with an opcode. -/
def Dev.runningOp? (d : Dev) (code : Nat) : Option Running := d.cmd.running.find? fun r => r.pkt.opcode.toNat == code

/-- Post the completion reply of an ACCEPTED command; a muted one ends without it (R457). -/
def Dev.finish (d : Dev) (r : Running) (status : Nat) (results : List Byte) : Dev :=
  let d := { d with cmd := { d.cmd with running := d.cmd.running.erase r } }
  if r.mute then d.recount r.pair
  else ((d.post r.pair r.pkt status results).recount r.pair).refuseUnknown (d.pair r.pair).fetched.length r.pair

/-- An ACCEPTED command that is refused at its end (log entry 41). -/
def Dev.refuseEnd (d : Dev) (r : Running) (status : Nat) (results : List Byte) : Dev := (d.countRefused status).finish r status results

/-- Complete the ACCEPTED command of a pair and tag. -/
def Dev.complete (d : Dev) (q tag status : Nat) (results : List Byte := []) : Dev :=
  match d.running? q tag with
  | some r => d.finish r status results
  | none => d

/-- Complete the command that waits for an operation, where one does. -/
def Dev.completeOwner (d : Dev) (o : Option (Nat × Nat)) (status : Nat) (results : List Byte := []) : Dev :=
  match o with
  | some (q, tag) => d.complete q tag status results
  | none => d

/-- Complete every ACCEPTED command with an opcode. -/
def Dev.completeOp (d : Dev) (code status : Nat) (results : List Byte := []) : Dev :=
  (d.cmd.running.filter fun r => r.pkt.opcode.toNat == code).foldl (fun d r => d.finish r status results) d

/-- The results of a partial-unit refusal: the index of its first failing unit (R454). -/
def unitResults (i : Nat) : List Byte := leBytes 2 i

/-- The results of a parameter refusal: index and element (R454). -/
def paramResults (i e : Nat) : List Byte := leBytes 2 i ++ zeros 2 ++ leBytes 4 e

end Sys2Proof.Machine
end

