-- ==== Sys2Proof/Machine/Shared.lean ====
section
/-! DEFINITION. Event sources by name (R605), and the operations that several chapters share: reports to the safety island, the
end of dwells, the close of the open Ingot, the end of the scan commands that wait. -/

namespace Sys2Proof.Machine

/-! ## Event sources (R605) -/

namespace Ev
/-- EV_SLICE_CLAMP and the others of slice s, in the order of R605. -/
abbrev sliceClamp (s : Nat) : Nat := 6 * s
/-- EV_EMBER_OVF -/
abbrev emberOvf (s : Nat) : Nat := 6 * s + 1
/-- EV_BURNISH_APPLY -/
abbrev burnishApply (s : Nat) : Nat := 6 * s + 2
/-- EV_BURNISH_FAULT -/
abbrev burnishFault (s : Nat) : Nat := 6 * s + 3
/-- EV_KILN_ARENA -/
abbrev kilnArena (s : Nat) : Nat := 6 * s + 4
/-- EV_KILN_GLIST -/
abbrev kilnGlist (s : Nat) : Nat := 6 * s + 5
/-- EV_TAP_OVF of tap group g -/
abbrev tapOvf (g : Nat) : Nat := 384 + 4 * g
/-- EV_TAP_SKIP -/
abbrev tapSkip (g : Nat) : Nat := 385 + 4 * g
/-- EV_TAP_CLIP -/
abbrev tapClip (g : Nat) : Nat := 386 + 4 * g
/-- EV_TAP_CAL -/
abbrev tapCal (g : Nat) : Nat := 387 + 4 * g
/-- EV_ENGINE_TRAP of engine e -/
abbrev engineTrap (e : Nat) : Nat := 416 + e
/-- EV_MEM_UE -/
abbrev memUe : Nat := 480
/-- EV_MEM_DIE -/
abbrev memDie : Nat := 481
/-- EV_MEM_HALT -/
abbrev memHalt : Nat := 482
/-- EV_MEM_DMA_HALT -/
abbrev memDmaHalt : Nat := 483
/-- EV_MEM_SRAM_UE -/
abbrev sramUe : Nat := 484
/-- EV_TURF_UE -/
abbrev turfUe : Nat := 485
/-- EV_ING_BUDGET -/
abbrev ingBudget : Nat := 486
/-- EV_ING_FULL -/
abbrev ingFull : Nat := 487
/-- EV_ING_INCOMPLETE -/
abbrev ingIncomplete : Nat := 488
/-- EV_HIST_DROP -/
abbrev histDrop : Nat := 489
/-- EV_WAVE_STALL -/
abbrev waveStall : Nat := 490
/-- EV_ING_DONE -/
abbrev ingDone : Nat := 491
/-- EV_HIST_DONE -/
abbrev histDone : Nat := 492
/-- EV_WAVE_DONE -/
abbrev waveDone : Nat := 493
/-- EV_CFG_APPLIED -/
abbrev cfgApplied : Nat := 494
/-- EV_STORE_COMMIT -/
abbrev storeCommit : Nat := 495
/-- EV_STORE_FALLBACK -/
abbrev storeFallback : Nat := 496
/-- EV_STORE_WEAR -/
abbrev storeWear : Nat := 497
/-- EV_STORE_LOST -/
abbrev storeLost : Nat := 498
/-- EV_STORE_ABSENT -/
abbrev storeAbsent : Nat := 499
/-- EV_CXL_LINK_CHG -/
abbrev linkChg : Nat := 520
/-- EV_CXL_DEGRADED -/
abbrev degraded : Nat := 521
/-- EV_CXL_RAS_CE -/
abbrev rasCe : Nat := 522
/-- EV_CXL_POISON -/
abbrev poison : Nat := 523
/-- EV_CXL_RAS_UE -/
abbrev rasUe : Nat := 524
/-- EV_CMD_ACK_MISS -/
abbrev ackMiss : Nat := 525
/-- EV_HOST_DECLARED -/
abbrev hostDeclared : Nat := 526
/-- EV_PEER_LANE of lane l -/
abbrev peerLane (l : Nat) : Nat := 544 + l
/-- EV_PEER_PARTNER of lane l -/
abbrev peerPartner (l : Nat) : Nat := 548 + l
/-- EV_PEER_JOIN -/
abbrev peerJoin : Nat := 552
/-- EV_PEER_LOST -/
abbrev peerLost : Nat := 553
/-- EV_PEER_MISMATCH -/
abbrev peerMismatch : Nat := 554
/-- EV_PEER_LIMIT -/
abbrev peerLimit : Nat := 555
/-- EV_PEER_LEADER -/
abbrev peerLeader : Nat := 556
/-- EV_PEER_MASTER -/
abbrev peerMaster : Nat := 557
/-- EV_PEER_DOMAIN -/
abbrev peerDomain : Nat := 558
/-- EV_PEER_GRANT -/
abbrev peerGrant : Nat := 559
/-- EV_PEER_CODE -/
abbrev peerCode : Nat := 560
/-- EV_QUENCH -/
abbrev quench : Nat := 564
/-- EV_SAFE_RELEASE -/
abbrev safeRelease : Nat := 565
/-- EV_ENERGY_VETO -/
abbrev energyVeto : Nat := 566
/-- EV_MOTION_LOST -/
abbrev motionLost : Nat := 567
/-- EV_FIELD_OFF -/
abbrev fieldOff : Nat := 568
/-- EV_FIELD_ON -/
abbrev fieldOn : Nat := 569
/-- EV_SAFE_TEST -/
abbrev safeTest : Nat := 570
/-- EV_RESTART_STUCK -/
abbrev restartStuck : Nat := 571
/-- EV_RESTART_REFUSED -/
abbrev restartRefused : Nat := 572
/-- EV_SAFE_COMMISSIONED -/
abbrev safeCommissioned : Nat := 573
/-- EV_SAFE_CFG_INVALID -/
abbrev safeCfgInvalid : Nat := 574
/-- EV_SCN_SAT -/
abbrev scnSat : Nat := 575
/-- EV_SCN_SOFT -/
abbrev scnSoft : Nat := 576
/-- EV_MIRROR_FAULT -/
abbrev mirrorFault : Nat := 577
/-- EV_BLW_CHAIN -/
abbrev blwChain : Nat := 578
/-- EV_SEG_FAIL -/
abbrev segFail : Nat := 579
/-- EV_SEG_WEAR -/
abbrev segWear : Nat := 580
/-- EV_SEG_SUBST -/
abbrev segSubst : Nat := 581
/-- EV_LAMP_FAULT -/
abbrev lampFault : Nat := 582
/-- EV_LAMP_UNDIAGNOSED -/
abbrev lampUndiagnosed : Nat := 583
/-- EV_CAM_SYNC_LOST -/
abbrev camSyncLost : Nat := 584
/-- EV_HK_OVR -/
abbrev hkOvr : Nat := 588
/-- EV_HK_CLAMP -/
abbrev hkClamp : Nat := 589
/-- EV_HK_OPEN -/
abbrev hkOpen : Nat := 590
/-- EV_THM_SENSOR -/
abbrev thmSensor : Nat := 591
/-- EV_THM_SAFE -/
abbrev thmSafe : Nat := 592
/-- EV_THM_DAMPER -/
abbrev thmDamper : Nat := 593
/-- EV_PLL_UNLOCK -/
abbrev pllUnlock : Nat := 594
/-- EV_XO_TRIM_LIMIT -/
abbrev xoTrimLimit : Nat := 595
/-- EV_TIME_STEP -/
abbrev timeStep : Nat := 596
/-- EV_TIME_HOLDOVER -/
abbrev timeHoldover : Nat := 597
/-- EV_FMEAS_DONE -/
abbrev fmeasDone : Nat := 598
/-- EV_FRAME_WRAP -/
abbrev frameWrap : Nat := 599
/-- EV_PWR_FLOOR -/
abbrev pwrFloor : Nat := 620
/-- EV_PWR_AVS -/
abbrev pwrAvs : Nat := 621
/-- EV_PWR_DOMAIN -/
abbrev pwrDomain : Nat := 622
/-- EV_PWR_STATE -/
abbrev pwrState : Nat := 623
/-- EV_RESET (R604) -/
abbrev reset : Nat := 632
/-- EV_BAK_LOST -/
abbrev bakLost : Nat := 633
/-- EV_FUSE_RESTART -/
abbrev fuseRestart : Nat := 634
/-- EV_BOOT_FALLBACK -/
abbrev bootFallback : Nat := 635
/-- EV_FW_STAGED -/
abbrev fwStaged : Nat := 636
/-- EV_LIFECYCLE -/
abbrev lifecycle : Nat := 637
/-- EV_KEY_REVOKED -/
abbrev keyRevoked : Nat := 638
/-- EV_SEC_REFUSED -/
abbrev secRefused : Nat := 639
end Ev

/-! ## The safety island's causes (R368) -/

namespace Cause
/-- POWERUP -/
abbrev powerup : Nat := 0
/-- STOP -/
abbrev stop : Nat := 1
/-- ENERGY -/
abbrev energy : Nat := 2
/-- MOTION -/
abbrev motion : Nat := 3
/-- MIRROR -/
abbrev mirror : Nat := 4
/-- DISAGREE -/
abbrev disagree : Nat := 5
/-- READBACK -/
abbrev readback : Nat := 6
/-- TEST -/
abbrev test : Nat := 7
/-- INPUT -/
abbrev input : Nat := 8
/-- CLOCK -/
abbrev clock : Nat := 9
/-- INTERNAL -/
abbrev internal : Nat := 10
/-- THERMAL -/
abbrev thermal : Nat := 11
/-- CONFIG -/
abbrev config : Nat := 12
end Cause

/-- A mask with bit `n` set. -/
def orBit (m n : Nat) : Nat := m ||| 2 ^ n

/-- A mask with bit `n` clear. -/
def clrBit (m n : Nat) : Nat := if bitAt m n then m - 2 ^ n else m

/-- A condition of R368 is detected: the off vote of the next engine cycle acts on it (R370). -/
def Dev.detect (d : Dev) (c : Nat) : Dev := { d with safe := { d.safe with detected := orBit d.safe.detected c } }

/-- A condition of R368 persists, or has ended (R393). -/
def Dev.persist (d : Dev) (c : Nat) (on : Bool) : Dev :=
  { d with safe := { d.safe with active := if on then orBit d.safe.active c else clrBit d.safe.active c } }

/-- The Damper level in force (R547). -/
def Dev.damper (d : Dev) : Nat := d.fld F.SCN_STAT_DAMPER

/-! ## Dwells and Ingots -/

/-- Every dwell in progress ends with the shots already fired. -/
def Dev.endDwells (d : Dev) : Dev :=
  { d with kiln := { d.kiln with pixels := d.kiln.pixels.map fun p => { p with ended := true } } }

/-- Staging holds `n` records in closed and open Ingots. -/
def OutSt.staged (o : OutSt) : Nat :=
  (o.closed.foldl (fun a i => a + i.records.length) 0) + ((o.openIngot.map (·.records.length)).getD 0)

/-- Items of a stream that the host owns. -/
def Dev.ringUsed (d : Dev) (s : Nat) : Nat := serialAhead (d.reg (Reg.ING_S_RD s)).toNat (d.reg (Reg.ING_S_WR s)).toNat

/-- The size field of a stream's ring. -/
def Dev.ringSize (d : Dev) (s : Nat) : Nat := (d.reg (Reg.ING_S_SIZE s)).toNat

/-- Staging and stream status (R330, R341). -/
def Dev.outStatus (d : Dev) : Dev :=
  let n := d.out.staged
  let d := d.setFld F.ING_STAT_STAGE_FILL (n / 256)
  let d := d.setFlag F.ING_STAT_STAGE_FULL (decide (131072 ≤ n))
  d.setFlag (F.ING_S_STAT_FULL 0) (!d.out.closed.isEmpty && decide (d.ringSize 0 ≤ d.ringUsed 0))

/-- The open Ingot closes with a CLOSE code (R326). -/
def Dev.closeIngot (d : Dev) (code : Nat) : Dev :=
  match d.out.openIngot with
  | none => d
  | some i => Dev.outStatus { d with out := { d.out with openIngot := none, closed := d.out.closed ++ [{ i with close := code }] } }

/-- Raise the highest Damper level of the open Ingot (R325). -/
def Dev.noteDamper (d : Dev) : Dev :=
  { d with out := { d.out with openIngot := d.out.openIngot.map fun i => { i with damper := max i.damper d.damper } } }

/-! ## Steps (R37, R43) -/

/-- A length of time in ps in the units of device time. -/
def psUnits (ps : Int) : Int := 2 ^ 40 * ps / 400

/-- A step of device time takes effect: time moves, VALID is set, and the step is counted and reported. -/
def Dev.stepNow (d : Dev) (ps : Int) : Dev :=
  let d := { d with time := { d.time with acc := ((d.time.acc : Int) + psUnits ps).toNat, heldStep := none } }
  let d := (d.setFlag F.TIME_STAT_VALID true).setFlag F.TIME_STAT_STEP_PENDING false
  (d.bump C.TIME_STEP_CNT).raise Ev.timeStep

/-- Frames are swept, or a run-in has begun (R43, R47). -/
def Dev.sweeping (d : Dev) : Bool :=
  d.scanState == stRunning || ((d.scanState == stStarting || d.scanState == stHolding) && d.scan.phase == .runIn)

/-- Every dwell that has ended has produced its records, and the Ingot that received them has closed (R43). -/
def Dev.recordsOut (d : Dev) : Bool := d.kiln.pixels.isEmpty && d.out.openIngot.isNone

/-- A step is placed by the scan state (R43). -/
def Dev.placeStep (d : Dev) (ps : Int) : Dev :=
  let hold := { d with time := { d.time with heldStep := some ps } }.setFlag F.TIME_STAT_STEP_PENDING true
  if d.sweeping then hold
  else if d.scanState == stStopped || d.scanState == stStarting || d.recordsOut then d.stepNow ps
  else hold

/-- A held step that STATE, having left RUNNING, places at once: no dwell and no Ingot remains (R43). A step held when lock is lost waits
for the slots to resume, since device time holds its last value (R36). -/
def Dev.placeHeld (d : Dev) : Dev :=
  match d.time.heldStep with
  | some ps => if d.locked && !d.sweeping && d.recordsOut then d.stepNow ps else d
  | none => d

/-- A held step at a frame boundary. -/
def Dev.stepAtFrame (d : Dev) : Dev :=
  match d.time.heldStep with
  | some ps => d.stepNow ps
  | none => d

/-! ## Scan commands that wait (R310 to R313) -/

/-- An outstanding `scan.start` or `scan.resume` ends with 0x0201. -/
def Dev.dropStart (d : Dev) : Dev :=
  let d := (d.completeOp 0x0201 0x0201).completeOp 0x0204 0x0201
  { d with scan := { d.scan with resumeReq := false } }

/-- Scanning has stopped or is held: `turf.hold_max_s` counts from here (R260). -/
def Dev.scanRests (d : Dev) : Dev := { d with turf := { d.turf with stoppedAt := d.turf.stoppedAt.or (some d.time.ticks) } }

/-- Scanning ends in FAULT (R291, R314): the next loop sample drives the amplifier off and both DACs to mid code, no dwell starts
from the next slot boundary, and a stop in progress completes as a stop in FAULT does (R313). -/
def Dev.toFault (d : Dev) : Dev :=
  let stopping := d.scanState == stStopping
  let d := d.dropStart
  let d := (d.setFld F.SCN_STAT_STATE (if stopping then stStopped else stFault)).scanRests
  let d := (d.completeOp 0x0202 0x0000).setFlag F.SCN_STAT_PARKED false
  Dev.placeHeld
    { d with scan := { d.scan with phase := .off, ampOffNext := true, arm := false, pathX := [], pathY := [], faultNext := true,
                                   holdNext := false, stopNext := false, frameTaken := false } }

end Sys2Proof.Machine
end

