-- ==== Sys2Proof/Machine/Output.lean ====
section
/-! DEFINITION. Point records, Ingots and the output streams (chapter 11). -/

namespace Sys2Proof.Machine

/-! ## Rings (R327, R328) -/

/-- The byte stride of a slot of streams 0 and 1. -/
def slotStride (s : Nat) : Nat := if s = 0 then 65600 else 2080

/-- A power of two. -/
def isPow2 (n : Nat) : Bool := n != 0 && n == 2 ^ n.log2

/-- The size of a stream's ring is one R327 allows. -/
def ringSizeOk (s n : Nat) : Bool :=
  if s = 2 then decide (16 ≤ n ∧ n ≤ 262144) else decide (16 ≤ n ∧ n ≤ 65536) && isPow2 n

/-- The bytes a ring occupies. -/
def ringBytes (s n : Nat) : Nat := if s = 2 then 4096 * n else n * slotStride s

/-- The base of a ring is 4 KiB aligned, and the whole ring lies in device memory (R327). -/
def ringBaseOk (s n base : Nat) : Bool := base % 4096 == 0 && inDevMem base (ringBytes s n)

/-- Items between RD and WR leave room on stream `s` (0 or 1) for one more slot. -/
def Dev.slotFree (d : Dev) (s : Nat) : Bool := decide (d.ringUsed s < d.ringSize s)

/-- The ring address of the slot that WR names. -/
def Dev.slotAddr (d : Dev) (s : Nat) : Nat :=
  d.wide64 (Reg.ING_S_BASE_LO s) + (d.reg (Reg.ING_S_WR s)).toNat % max 1 (d.ringSize s) * slotStride s

/-- A stream takes items: it runs and is not halted. -/
def Dev.streamRuns (d : Dev) (s : Nat) : Bool := d.flag (F.ING_S_STAT_RUN s) && !d.flag (F.ING_S_STAT_HALTED s)

/-- The completion interval of a stream has come at item count `n` (R337). -/
def Dev.everyDue (d : Dev) (s n : Nat) : Bool :=
  let e := d.fld (F.ING_S_CTL_EVERY s)
  e != 0 && n % e == 0

/-! ## Ingots (R325, R329) -/

/-- The 64 bytes of an Ingot header: `count` records, `flags` and the CRC of the record bytes. -/
def ingotHeader (i : Ingot) (count flags crc : Nat) : List Byte :=
  let h := leBytes 4 i.seq ++ leBytes 4 i.frame ++ leBytes 8 i.time ++ leBytes 2 count ++ leBytes 1 i.overlay
    ++ leBytes 1 i.damper ++ leBytes 2 i.domain ++ leBytes 2 flags ++ leBytes 4 i.drop ++ leBytes 4 i.budget
    ++ leBytes 2 i.posFirst ++ leBytes 2 i.posLast ++ zeros 20 ++ leBytes 2 1
  h ++ leBytes 2 (crc16 (h ++ zeros 2 ++ leBytes 4 crc)) ++ leBytes 4 crc

/-- The bytes of records. -/
def recordBytes (rs : List (List Word)) : List Byte := rs.flatMap fun r => r.flatMap fun w => leBytes 4 w.toNat

/-- FLAGS of a closed Ingot (R325). -/
def ingotFlags (i : Ingot) : Nat :=
  b2n (!i.incomplete) + 2 * b2n i.incomplete + 4 * b2n (decide (i.drop ≠ 0)) + 8 * i.dir + 16 * i.ysel
    + 32 * b2n i.timeValid + 64 * b2n i.holdover + 256 * i.close

/-- The bytes of a closed Ingot: an incomplete one carries CRC 0 (R333). -/
def ingotBytes (i : Ingot) : List Byte :=
  let rs := recordBytes i.records
  ingotHeader i i.records.length (ingotFlags i) (if i.incomplete then 0 else crc32 rs) ++ rs

/-- The open Ingot's header is written with COUNT = 0 and FLAGS = 0 once a slot is its own (R329). -/
def Dev.headIngot (d : Dev) : Dev :=
  match d.out.openIngot with
  | none => d
  | some i =>
    if i.headed || !d.out.closed.isEmpty || !(d.streamRuns 0 && d.slotFree 0) then d
    else { d.memw (d.slotAddr 0) (ingotHeader i 0 0 0) with out := { d.out with openIngot := some { i with headed := true } } }

/-- A new Ingot for a pixel's records (R325, R326): SEQ is taken, and drops with no Ingot open go to it. -/
def Dev.openIngot (d : Dev) (p : PixelRecs) : Dev :=
  let i : Ingot :=
    { seq := (d.reg Reg.ING_SEQ).toNat, frame := p.frame, time := p.time, overlay := p.overlay, damper := d.damper,
      domain := d.fld F.PEER_DOMAIN_ID, dir := d.fld F.SCN_STAT_DIR, ysel := d.fld F.SCN_STAT_YSEL,
      timeValid := d.flag F.TIME_STAT_VALID, holdover := d.flag F.TIME_STAT_HOLDOVER, opened := d.time.ticks,
      drop := d.out.nextDrop, budget := d.out.nextBudget, posFirst := p.pos, posLast := p.pos }
  let d := d.put Reg.ING_SEQ (d.reg Reg.ING_SEQ + 1)
  Dev.headIngot { d with out := { d.out with openIngot := some i, nextDrop := 0, nextBudget := 0 } }

/-- TOFF of a record time in an Ingot (R320). -/
def toff (t time : Nat) : Int := ((t : Int) - time) / 100 + 1024

/-- The four words of a record with its TOFF set (R319). -/
def withToff (ws : List Word) (t : Nat) : List Word := ws.mapIdx fun i w => if i = 2 then withField w 14 16 t else w

/-- Put a pixel's records into an Ingot. -/
def Ingot.add (i : Ingot) (p : PixelRecs) : Ingot :=
  { i with records := i.records ++ p.words.map fun ws => withToff ws (toff p.time i.time).toNat, posLast := p.pos }

/-- Records enter the open Ingot, which closes first where it holds records of another frame (R22) or they would take it past 4,096 or out
of TOFF's reach, and closes after them when it is full (R323, R326). -/
def Dev.enterIngot (d : Dev) (p : PixelRecs) : Dev :=
  let d := match d.out.openIngot with
    | none => d
    | some i =>
      if i.frame ≠ p.frame then d.closeIngot 1
      else if 4096 < i.records.length + p.words.length then d.closeIngot 0
      else if toff p.time i.time < 0 ∨ 65535 < toff p.time i.time then d.closeIngot 3 else d
  let d := if d.out.openIngot.isNone then d.openIngot p else d
  let d := { d with out := { d.out with openIngot := d.out.openIngot.map fun (i : Ingot) => i.add p } }
  match d.out.openIngot with
  | some i => if 4096 ≤ i.records.length then d.closeIngot 0 else d.outStatus
  | none => d

/-- Records dropped at staging count on the open Ingot or on the next to open (R331). -/
def Dev.dropRecords (d : Dev) (n : Nat) : Dev :=
  if n = 0 then d
  else
    let d := d.bumpBy C.ING_DROP_FULL n
    let d := match d.out.openIngot with
      | some i => { d with out := { d.out with openIngot := some { i with drop := satAdd 32 i.drop n } } }
      | none => { d with out := { d.out with nextDrop := satAdd 32 d.out.nextDrop n } }
    d.sticky Reg.ING_EVT 0 Ev.ingFull

/-- Records removed by the credit (R324). -/
def Dev.budgetRecords (d : Dev) (n : Nat) : Dev :=
  if n = 0 then d
  else
    let d := d.bumpBy C.ING_DROP_BUDGET n
    let d := match d.out.openIngot with
      | some i => { d with out := { d.out with openIngot := some { i with budget := satAdd 32 i.budget n } } }
      | none => { d with out := { d.out with nextBudget := satAdd 32 d.out.nextBudget n } }
    d.sticky Reg.ING_EVT 1 Ev.ingBudget

/-- The records of a pixel reach staging: admitted whole or dropped whole (R331, R332). -/
def Dev.stage (d : Dev) (p : PixelRecs) : Dev :=
  let n := p.words.length
  if n = 0 then d
  else if d.streamRuns 0 && decide (d.out.staged + n ≤ 131072) then d.enterIngot p
  else d.dropRecords n

/-! ## Credit (R324) -/

/-- Powered slices. -/
def Dev.poweredSlices (d : Dev) : Nat := ((List.range 64).filter d.domOn).length

/-- Credit that 1/2^32 records count: the refill of every slice since the last one, 2^-32 records. -/
def Dev.creditGain (d : Dev) : Nat :=
  2 ^ 32 * (d.time.ticks - d.out.refilled) * d.fld F.ING_CTL_REC_RATE / (2500 * max 1 d.poweredSlices)

/-- Refill the credit of every slice up to now. -/
def Dev.refill (d : Dev) : Dev :=
  let g := d.creditGain
  let u := d.out.used.filterMap fun (e : Nat × Nat) => if e.2 ≤ g then none else some (e.1, e.2 - g)
  { d with out := { d.out with refilled := d.time.ticks, used := u } }

/-- Whole records that the credit of a slice holds. -/
def Dev.credit (d : Dev) (s : Nat) : Nat := (4096 * 2 ^ 32 - sget (fun _ => 0) s d.out.used) / 2 ^ 32

/-- Take credits of a slice. -/
def Dev.takeCredit (d : Dev) (s e : Nat) : Dev :=
  { d with out := { d.out with used := sset (fun _ => 0) s (min (4096 * 2 ^ 32) (sget (fun _ => 0) s d.out.used + 2 ^ 32 * e)) d.out.used } }

/-! ## Placement (R329, R330, R337) -/

/-- Write the oldest closed Ingot to the slot that WR names, advance WR and raise the completion event that is due. -/
def Dev.placeIngot (d : Dev) : Dev :=
  match d.out.closed with
  | [] => d
  | i :: rest =>
    if d.flag (F.ING_S_STAT_RUN 0) && !d.flag (F.ING_S_STAT_HALTED 0) && d.slotFree 0 then
      let d := d.memw (d.slotAddr 0) (ingotBytes i)
      let wr := d.reg (Reg.ING_S_WR 0) + 1
      let d := (d.put (Reg.ING_S_WR 0) wr).bumpBy C.ING_REC i.records.length
      let d := (Dev.outStatus { d with out := { d.out with closed := rest } }).headIngot
      if d.everyDue 0 wr.toNat || i.close == 1 || i.close == 4 then d.raise Ev.ingDone else d
    else d

/-- `INGOT_PLACE` (R329). -/
def execIngotPlace (s : State) : Host.Outcome State Fault Refusal := .next (s.onDev fun _ d => d.placeIngot)

/-- `INGOT_TIME_LIMIT` (R326): MAX_US has passed since the open Ingot opened. -/
def execIngotTimeLimit (s : State) : Host.Outcome State Fault Refusal := .next (s.onDev fun _ d => d.closeIngot 2)

/-! ## Histogram export (R334, R335) -/

/-- A pixel lies in the histogram region, in a frame that exports. -/
def Dev.inHistRegion (d : Dev) (row pos : Nat) : Bool :=
  let e := d.fld F.ING_HIST_CFG_EVERY
  e != 0 && (d.reg Reg.TIME_FRAME).toNat % e == 0
    && decide (d.fld F.ING_HIST_ROWS_FIRST ≤ row ∧ row ≤ d.fld F.ING_HIST_ROWS_LAST)
    && decide (d.fld F.ING_HIST_COLS_FIRST ≤ pos / 4 ∧ pos / 4 ≤ d.fld F.ING_HIST_COLS_LAST)

/-- The 2,080 bytes of a histogram record (R335). -/
def histBytes (h : HistRec) : List Byte :=
  let x := leBytes 4 h.frame ++ leBytes 8 h.time ++ leBytes 2 h.row ++ leBytes 2 h.pos ++ leBytes 2 h.wo ++ leBytes 2 h.wc
    ++ leBytes 2 h.bkg ++ leBytes 1 h.shots ++ leBytes 1 h.gen ++ leBytes 1 h.flags ++ leBytes 1 h.overlay
    ++ leBytes 1 h.necho ++ zeros 3
  x ++ leBytes 2 (crc16 (x ++ zeros 2)) ++ (List.range 1024).flatMap fun j => leBytes 2 (sget (fun _ => 0) j h.bins % 4096)

/-- A histogram record is lost (R334). -/
def Dev.dropHist (d : Dev) : Dev := (d.bump C.ING_HIST_DROP_CNT).sticky Reg.ING_EVT 2 Ev.histDrop

/-- Queue a histogram record for export, or drop it (R334). -/
def Dev.queueHist (d : Dev) (h : HistRec) : Dev :=
  if !d.flag (F.ING_S_STAT_RUN 1) then d
  else if d.flag (F.ING_S_STAT_HALTED 1) || decide (64 ≤ d.out.hist.length) || !d.slotFree 1 then d.dropHist
  else { d with out := { d.out with hist := d.out.hist ++ [h] } }

/-- `HIST_RECORD_WRITE` (R334): the oldest queued record goes to stream 1. -/
def execHistRecordWrite (s : State) : Host.Outcome State Fault Refusal :=
  .next (s.onDev fun _ d =>
    match d.out.hist with
    | [] => d
    | h :: rest =>
      let d := { d with out := { d.out with hist := rest } }
      if !d.streamRuns 1 then d
      else if !d.slotFree 1 then d.dropHist
      else
        let d := d.memw (d.slotAddr 1) (histBytes h)
        let wr := d.reg (Reg.ING_S_WR 1) + 1
        let d := d.put (Reg.ING_S_WR 1) wr
        if d.everyDue 1 wr.toNat then d.raise Ev.histDone else d)

/-! ## Streams (R327, R332, R333) -/

/-- A tap. -/
def Dev.tap (d : Dev) (t : Nat) : TapSt := sget (fun _ => {}) t d.taps.taps

/-- Set a tap. -/
def Dev.setTap (d : Dev) (t : Nat) (x : TapSt) : Dev := { d with taps := { d.taps with taps := sset (fun _ => {}) t x d.taps.taps } }

/-- The oldest queued window leaves its tap's FIFO and header queue (R233). -/
def Dev.popWindow (d : Dev) (w : TapWin) : Dev :=
  let x := d.tap w.ladle.tap
  let d := d.setTap w.ladle.tap { x with headers := x.headers - 1, fill := x.fill - w.samples.length }
  { d with taps := { d.taps with queue := d.taps.queue.drop 1 } }

/-- EN of a stream goes from 0 to 1 (R327). -/
def Dev.enableStream (d : Dev) (s : Nat) : Dev :=
  if ringSizeOk s (d.ringSize s) && ringBaseOk s (d.ringSize s) (d.wide64 (Reg.ING_S_BASE_LO s)) then
    let d := (d.setFlag (F.ING_S_CTL_EN s) true).put (Reg.ING_S_STAT s) 1#32
    let d := (d.put (Reg.ING_S_WR s) 0#32).put (Reg.ING_S_RD s) 0#32
    let d := d.setFlag F.ING_STAT_HALT ((List.range 3).any fun t => d.flag (F.ING_S_STAT_HALTED t))
    if s = 2 then { d with out := { d.out with waveItems := 0 } } else d
  else d.setFlag (F.ING_S_STAT_CFG_ERR s) true

/-- Place closed Ingots while a slot is free; `n` bounds them. -/
def Dev.placeAll : Nat → Dev → Dev
  | 0, d => d
  | n + 1, d => Dev.placeAll n d.placeIngot

/-- EN of a stream goes from 1 to 0 (R332). -/
def Dev.disableStream (d : Dev) (s : Nat) : Dev :=
  let d := d.setFlag (F.ING_S_CTL_EN s) false
  let d :=
    if s = 0 then
      let d := d.closeIngot 6
      let d := d.placeAll d.out.closed.length
      let lost := d.out.closed.foldl (fun a i => a + i.records.length) 0
      let d := { d with out := { d.out with closed := [] } }
      d.dropRecords lost
    else if s = 1 then { d with out := { d.out with hist := [] } }
    else d
  (d.setFlag (F.ING_S_STAT_RUN s) false).outStatus

/-- A write of `ING_S_CTL` (R327, R332, R341): EVERY is replaced, and a change of EN starts or stops the stream. -/
def Dev.writeStreamCtl (d : Dev) (s : Nat) (v : Word) : Dev :=
  let was := d.flag (F.ING_S_CTL_EN s)
  let d := d.setFld (F.ING_S_CTL_EVERY s) (bits v.toNat 16 16)
  if bitAt v.toNat 0 && !was then d.enableStream s
  else if !bitAt v.toNat 0 && was then d.disableStream s
  else d

/-- `STREAM_ENABLE` (R327). -/
def execStreamEnable (stream : Fin 3) (value : Word) (s : State) : Host.Outcome State Fault Refusal :=
  .next (s.onBar fun _ d => d.writeStreamCtl stream.val (value ||| 1#32))

/-- `STREAM_DISABLE` (R332). -/
def execStreamDisable (stream : Fin 3) (value : Word) (s : State) : Host.Outcome State Fault Refusal :=
  .next (s.onBar fun _ d => d.writeStreamCtl stream.val (value &&& 0xFFFFFFFE#32))

/-- A host write of RD: it releases items, or is ignored when it moves backwards or past WR (R328). -/
def Dev.writeRingRd (d : Dev) (s : Nat) (v : Word) : Dev :=
  if serialAhead (d.reg (Reg.ING_S_RD s)).toNat v.toNat ≤ d.ringUsed s then (d.put (Reg.ING_S_RD s) v).outStatus.headIngot
  else d.setFlag (F.ING_S_STAT_RD_ERR s) true

/-- `RING_RD_WRITE` (R328). -/
def execRingRdWrite (stream : Fin 3) (value : Word) (s : State) : Host.Outcome State Fault Refusal :=
  .next (s.onBar fun _ d => d.writeRingRd stream.val value)

/-- STORE as the window's slot was prepared (R239, R247). -/
def Ladle.store (l : Ladle) : Nat := bits l.ctl.toNat 1 2

/-- The window's header is written alone (R239). -/
def TapWin.headerOnly (w : TapWin) : Bool := w.ladle.store != 2

/-- 32-byte units of a window record (R328, R336, R239). -/
def TapWin.units (w : TapWin) : Nat := if w.headerOnly then 4 else 4 + (w.samples.length + 15) / 16

/-- Where a record of stream 2 starts: at WR, or at the start of the ring when fewer than 1,152 bytes remain (R336). -/
def Dev.waveStart (d : Dev) : Nat :=
  let n := 128 * d.ringSize 2
  let wr := (d.reg (Reg.ING_S_WR 2)).toNat
  let left := n - wr % max 1 n
  if left * 32 < 1152 then wr + left else wr

/-- A record fits in stream 2: WR − RD with the skip and its own units stays within the ring (R336). -/
def Dev.waveFits (d : Dev) (w : TapWin) : Bool :=
  decide (serialAhead (d.reg (Reg.ING_S_RD 2)).toNat d.waveStart + w.units ≤ d.ringSize 2 * 128)

/-- Stream 2 has published one more item (R337). -/
def Dev.waveItem (d : Dev) : Dev :=
  let k := d.out.waveItems + 1
  let d := { d with out := { d.out with waveItems := k } }
  if d.everyDue 2 k then d.raise Ev.waveDone else d

/-- Items of a stream in progress when the streams stop: an Ingot partly written, a queued histogram, a window record that has its
place (R333). -/
def Dev.inProgress (d : Dev) (s : Nat) : Bool :=
  if s = 0 then (d.out.openIngot.isSome || !d.out.closed.isEmpty) && d.slotFree 0
  else if s = 1 then !d.out.hist.isEmpty && d.slotFree 1
  else (d.taps.queue.head?.map d.waveFits).getD false

/-- The item a stream is writing is published as incomplete, and the stream halts (R333); its completion event follows R337.
For stream 0 the item is the oldest Ingot, and later ones are dropped and counted. -/
def Dev.haltItem (d : Dev) (s : Nat) : Dev :=
  let item := d.out.closed ++ d.out.openIngot.toList
  let first := if s = 2 then BitVec.ofNat 32 d.waveStart else d.reg (Reg.ING_S_WR s)
  let n := if s = 2 then (d.taps.queue.head?.map (·.units)).getD 0 else 1
  let d :=
    if s = 0 then
      match item with
      | [] => d
      | i :: rest =>
        let i := { i with incomplete := true }
        let lost := rest.foldl (fun a j => a + j.records.length) 0
        let d := (d.memw (d.slotAddr 0) (ingotHeader i i.records.length (ingotFlags i) 0)).bumpBy C.ING_REC i.records.length
        Dev.outStatus (Dev.dropRecords { d with out := { d.out with closed := [], openIngot := none } } lost)
    else if s = 1 then
      Nat.repeat Dev.dropHist (d.out.hist.length - 1) { d with out := { d.out with hist := [] } }
    else
      match d.taps.queue with
      | [] => d
      | w :: _ => d.popWindow w
  let wr := first + BitVec.ofNat 32 n
  let d := (d.put (Reg.ING_S_WR s) wr).put (Reg.ING_S_INC s) first
  let d := ((d.setFlag (F.ING_S_STAT_HALTED s) true).bump C.ING_INCOMPLETE_CNT).mark Reg.ING_EVT 4
  let d := d.raise Ev.ingIncomplete
  if s = 2 then d.waveItem
  else if s = 1 then (if d.everyDue 1 wr.toNat then d.raise Ev.histDone else d)
  else if d.everyDue 0 wr.toNat || (item.head?.map fun i => i.close == 1 || i.close == 4).getD false then d.raise Ev.ingDone else d

/-- A memory group halts: every running stream stops at the boundary of its item (R333, R517). -/
def Dev.haltStreams (d : Dev) : Dev :=
  let d := (List.range 3).foldl (fun d s => if d.streamRuns s && d.inProgress s then d.haltItem s else d) d
  let d := (List.range 3).foldl (fun d s =>
    if d.flag (F.ING_S_STAT_RUN s) then d.setFlag (F.ING_S_STAT_HALTED s) true else d) d
  (d.setFlag F.ING_STAT_HALT ((List.range 3).any fun s => d.flag (F.ING_S_STAT_HALTED s))).outStatus

/-! ## Output commands (R464) -/

/-- `out.status`. -/
def bodyOutStatus : Body := fun p _ d =>
  let s := p.u 0 1
  refuseIf (decide (2 < s)) 0x0104 <|
    .ok d (leBytes 4 (d.reg (Reg.ING_S_WR s)).toNat ++ leBytes 4 (d.reg (Reg.ING_S_RD s)).toNat
      ++ leBytes 4 (d.reg (Reg.ING_S_STAT s)).toNat ++ leBytes 4 (d.reg Reg.ING_SEQ).toNat
      ++ leBytes 8 (d.wide64 Reg.ING_DROP_FULL_LO))

/-- `OUT_STATUS` (R464). -/
def execOutStatus (c : Cmd) (s : State) : Host.Outcome State Fault Refusal := .next (s.onDev (runCmd 0x0501 c bodyOutStatus))

/-- `out.ring` (R327). -/
def bodyOutRing : Body := fun p _ d =>
  let s := p.u 0 1
  let size := p.u 4 4
  let base := p.u 8 8
  refuseIf (decide (2 < s)) 0x0104 <| refuseIf (!ringSizeOk s size) 0x0104 <| refuseIf (!ringBaseOk s size base) 0x0105 <|
    refuseIf (d.flag (F.ING_S_CTL_EN s)) 0x0201 <|
    .ok (((d.putWide (Reg.ING_S_BASE_LO s) base).put (Reg.ING_S_SIZE s) (BitVec.ofNat 32 size)).put (Reg.ING_S_BASE_LO s)
      (BitVec.ofNat 32 base)) []

/-- `OUT_RING` (R327). -/
def execOutRing (c : Cmd) (s : State) : Host.Outcome State Fault Refusal := .next (s.onDev (runCmd 0x0502 c bodyOutRing))

/-- `out.hist_region` (R334). -/
def bodyOutHistRegion : Body := fun p _ d =>
  refuseIf (decide (511 < p.u 0 2)) 0x0104 <| refuseIf (decide (511 < p.u 2 2)) 0x0104 <|
    .ok (((d.put Reg.ING_HIST_ROWS (BitVec.ofNat 32 (p.u 0 2 + 2 ^ 16 * p.u 2 2))).put Reg.ING_HIST_COLS
      (BitVec.ofNat 32 (p.u 4 1 + 2 ^ 16 * p.u 5 1))).setFld F.ING_HIST_CFG_EVERY (p.u 6 1)) []

/-- `OUT_HIST_REGION` (R334). -/
def execOutHistRegion (c : Cmd) (s : State) : Host.Outcome State Fault Refusal :=
  .next (s.onDev (runCmd 0x0503 c bodyOutHistRegion))

/-- `out.rate` (R324). -/
def bodyOutRate : Body := fun p _ d =>
  refuseIf (!decide (1 ≤ p.u 0 1 ∧ p.u 0 1 ≤ 48)) 0x0104 <| refuseIf (decide (1 < p.u 1 1)) 0x0104 <|
    refuseIf (!decide (50 ≤ p.u 2 2 ∧ p.u 2 2 ≤ 6000)) 0x0104 <|
    .ok (((d.refill.setFld F.ING_CTL_REC_RATE (p.u 0 1)).setFld F.ING_CTL_EMPTY_REC (p.u 1 1)).setFld F.ING_CTL_MAX_US (p.u 2 2)) []

/-- `OUT_RATE` (R324). -/
def execOutRate (c : Cmd) (s : State) : Host.Outcome State Fault Refusal := .next (s.onDev (runCmd 0x0504 c bodyOutRate))

end Sys2Proof.Machine
end

