-- ==== Sys2Proof/Machine/Memory.lean ====
section
/-! DEFINITION. Device memory and its error correction (chapter 17): the RS codeword by the positions in error of each beat,
die failure and erasure, group halt, the write-merge buffer, Planish passes and the patrol. -/

namespace Sys2Proof.Machine

/-! ## The code (R506) -/

/-- Twice an element of GF(2^16), modulo x^16 + x^12 + x^3 + x + 1: its product with α. -/
def gfDouble (x : Nat) : Nat := if x < 2 ^ 15 then 2 * x else Nat.xor (2 * x) 0x1100B

/-- The product of two elements of GF(2^16): the bits of `b` from `n` - 1 down. -/
def gfMul (a b : Nat) : Nat → Nat
  | 0 => 0
  | n + 1 => Nat.xor (gfDouble (gfMul a (b / 2) n)) (if b % 2 = 1 then a else 0)

/-- The check symbols of data symbols, the first the coefficient of highest degree (DESIGN CHOICE, log entry 180): the remainder of
their division by (x - 1)(x - α) = x^2 + (1 + α) x + α. -/
def checkSymbols (data : List Nat) : Nat × Nat :=
  data.foldl (fun (r : Nat × Nat) s =>
    let q := Nat.xor r.1 s
    (Nat.xor r.2 (gfMul q 3 2), gfDouble q)) (0, 0)

/-- Data symbol `i` of a beat: bytes 2i and 2i + 1. -/
def dataSymbols (beat : List Byte) : List Nat := (List.range 8).map fun i => leNat ((beat.drop (2 * i)).take 2)

/-- The codeword of a beat: eight data symbols and two check symbols, symbol i on channel i of the group. -/
def codeword (beat : List Byte) : List Nat :=
  let s := dataSymbols beat
  let c := checkSymbols s
  s ++ [c.1, c.2]

/-! ## Beats (R506 to R509) -/

/-- What a beat reads as (R507): good, corrected at one symbol position, or uncorrectable. -/
inductive BeatRead where
  | good | corrected (die : Nat) | bad
  deriving DecidableEq, Repr

/-- The group of a 16-byte beat: DPA bit 8 (R509). -/
def beatGroup (b : Nat) : Nat := b / 16 % 2

/-- The lowest bit set among the low `n`. -/
def lowBit : Nat → Nat → Nat
  | 0, _ => 0
  | n + 1, v => if v % 2 = 1 then 0 else 1 + lowBit n (v / 2)

/-- The write-merge buffer covers the whole beat, so its new bytes are what a read returns (R512). -/
def MemSt.covers (m : MemSt) (b : Nat) : Bool :=
  match m.lines.find? (·.1 == b / 16) with
  | some (_, mask) => bits mask (b % 16 * 16) 16 == 65535
  | none => false

/-- Decode one beat in the mode in force (R507): a halted group returns uncorrectable data (R517). -/
def Dev.readBeat (d : Dev) (b : Nat) : BeatRead :=
  if d.haltedAt (b * 16) then .bad
  else if d.memc.covers b then .good
  else
    let f := sget (fun _ => 0) b d.memc.faults
    if d.flag F.MEM_STAT_ERASURE then (if clrBit f (d.fld F.MEM_STAT_ERASED_DIE) = 0 then .good else .bad)
    else if f = 0 then .good
    else if popCount 10 f = 1 then .corrected (lowBit 10 f)
    else .bad

/-- Symbols found in error at this read: they stay in the stored beats until a write replaces them (R508). -/
def Dev.upset (d : Dev) (l : List (Nat × Nat)) : Dev :=
  { d with memc := { d.memc with faults := l.foldl (fun m x =>
      sset (fun _ => 0) x.1 ((sget (fun _ => 0) x.1 m ||| x.2) % 1024) m) d.memc.faults } }

/-! ## What a read counts (R507, R518) -/

/-- A corrected beat is counted (R507). -/
def Dev.noteCorrected (d : Dev) (b die : Nat) : Dev :=
  let k := beatGroup b * 10 + die
  let d := (d.bump (C.MEM_CH_CE_CNT k)).bump C.MEM_CE_CNT
  { d with memc := { d.memc with dieCe := sset (fun _ => 0) k (sget (fun _ => 0) k d.memc.dieCe + 1) d.memc.dieCe } }

/-- One more uncorrectable beat of a group in the 1 ms that ends now (R516). No more than 1,025 can decide a halt (R526). -/
def addUe (now : Nat) (l : List Nat) : List Nat := (now :: l.filter fun t => decide (now < t + 1000000)).take 1025

/-- The uncorrectable beats of a group in the last 1 ms. -/
def MemSt.ueTimes (m : MemSt) (g : Nat) : List Nat := if g = 0 then m.ueA else m.ueB

/-- An uncorrectable beat is counted and reported (R518). -/
def Dev.countUe (d : Dev) (b : Nat) : Dev :=
  let d := (d.bump C.MEM_UE_CNT).putWide Reg.MEM_UE_ADDR_LO (b * 16)
  let d := if d.bit Reg.MEM_EVT 0 then d
    else (d.setBit Reg.MEM_EVT 0 true).raise Ev.memUe (b * 16 % 2 ^ 32) (b * 16 / 2 ^ 32)
  if beatGroup b = 0 then { d with memc := { d.memc with ueA := addUe d.now d.memc.ueA } }
  else { d with memc := { d.memc with ueB := addUe d.now d.memc.ueB } }

/-- More beats of the group than `mem.halt_ue` allows have read uncorrectable within 1 ms (R516). -/
def Dev.manyUe (d : Dev) (g : Nat) : Bool := decide (d.par P.mem_halt_ue 0 < (d.memc.ueTimes g).length)

/-- The beats of `n` bytes from `a` that may read other than good. -/
def Dev.suspectBeats (d : Dev) (a n : Nat) : List Nat :=
  if n = 0 then []
  else if d.memHalted then (List.range ((a + n - 1) / 16 - a / 16 + 1)).map (a / 16 + ·)
  else (d.memc.faults.filter fun f => decide (a / 16 ≤ f.1 ∧ f.1 ≤ (a + n - 1) / 16)).map (·.1)

/-! ## The Planish pass of `mem.scrub` (R522, R523) -/

/-- The 256-byte summary of a pass. -/
def Dev.scrubSummary (d : Dev) (j : ScrubJob) (flags : Nat) : List Byte :=
  let die := if d.flag F.MEM_STAT_ERASURE then d.fld F.MEM_STAT_ERASED_DIE else 0xFF
  let trunc := b2n (decide (16 < j.ue.length))
  let h := leBytes 4 0x4E414C50 ++ leBytes 2 1 ++ leBytes 2 (flags + 8 * trunc + b2n j.repair + die * 256) ++ leBytes 8 j.addr
    ++ leBytes 8 j.upTo ++ leBytes 8 j.started ++ leBytes 4 (min (2 ^ 32 - 1) ((d.now - j.started) / 1000)) ++ leBytes 4 j.ue.length
    ++ leBytes 4 (if j.repair then j.bursts.length else 0)
  let t := (List.range 20).flatMap (fun k => leBytes 4 (j.ce.getD k 0))
    ++ (List.range 16).flatMap (fun k => leBytes 8 (j.ue.getD k (2 ^ 64 - 1)))
  h ++ leBytes 4 (crc32 (h ++ zeros 4 ++ t)) ++ t

/-- The pass reads one beat: it counts what it finds, and with REPAIR a corrected beat is rewritten. -/
def Dev.scanBeat (d : Dev) (b : Nat) : Dev :=
  match d.memc.scrub with
  | none => d
  | some j =>
    match d.readBeat b with
    | .good => d
    | .corrected die =>
      let d := d.noteCorrected b die
      { d with memc := { d.memc with
          scrub := some { j with ce := modAt j.ce (beatGroup b * 10 + die) (· + 1), bursts := if j.bursts.contains (b / 16) then j.bursts else j.bursts ++ [b / 16] },
          faults := if j.repair then sset (fun _ => 0) b 0 d.memc.faults else d.memc.faults } }
    | .bad =>
      let d := d.countUe b
      { d with memc := { d.memc with scrub := some { j with ue := j.ue ++ [b * 16] } } }

/-- `n` bytes of the pass's range have been read. -/
def Dev.scanned (d : Dev) (n : Nat) : Dev :=
  { d with memc := { d.memc with scrub := d.memc.scrub.map fun j => { j with upTo := n } } }

/-- The pass has read on for a while when something else ends it: how far is a free value (log entry 179). -/
def Dev.scanFree (d : Dev) : Dev :=
  match d.memc.scrub with
  | none => d
  | some j =>
    let n := 256 * (d.free 64 % ((j.length - j.upTo) / 256 + 1))
    (((d.suspectBeats (j.addr + j.upTo) n).foldl Dev.scanBeat d).scanned (j.upTo + n)).freeNext

/-- The summary of a pass is written if its address can still be written, and the command ends. -/
def Dev.closeScrub (d : Dev) (flags status : Nat) (result : List Byte) : Dev :=
  match d.memc.scrub with
  | none => d
  | some j =>
    let d := { d with memc := { d.memc with scrub := none } }.setFlag F.MEM_STAT_SCRUB_BUSY false
    let d := if d.haltedAt j.summary || d.haltedAt (j.summary + 255) then d else d.memw j.summary (d.scrubSummary j flags)
    d.complete j.pair j.tag status result

/-! ## Halt and erasure (R514 to R517) -/

/-- A group stops (R517): ring writers stop, the group accepts no further write, and a pass ends where it is. -/
def Dev.stopGroup (d : Dev) (g : Nat) : Dev :=
  ((d.haltStreams.setFlag (if g = 0 then F.MEM_STAT_HALT_A else F.MEM_STAT_HALT_B) true).sticky Reg.MEM_EVT 2 Ev.memHalt).closeScrub
    4 0x0304 []

/-- A group halts, unless it has (R517). -/
def Dev.haltGroup (d : Dev) (g : Nat) : Dev :=
  if d.flag (if g = 0 then F.MEM_STAT_HALT_A else F.MEM_STAT_HALT_B) then d else d.scanFree.stopGroup g

/-- A die is declared failed: both groups enter erasure mode, or halt when another die is already erased (R514, R515). -/
def Dev.declareDie (d : Dev) (die : Nat) : Dev :=
  if d.flag F.MEM_STAT_ERASURE then
    if d.fld F.MEM_STAT_ERASED_DIE = die then d else (d.haltGroup 0).haltGroup 1
  else ((d.setFlag F.MEM_STAT_ERASURE true).setFld F.MEM_STAT_ERASED_DIE die).sticky Reg.MEM_EVT 1 Ev.memDie

/-! ## Reads (R507, R518) -/

/-- An uncorrectable beat is counted and reported (R518); too many in 1 ms halt the group (R516). -/
def Dev.noteUe (d : Dev) (b : Nat) : Dev :=
  let d := d.countUe b
  if d.manyUe (beatGroup b) then d.haltGroup (beatGroup b) else d

/-- Read `n` bytes from `a`: corrected and uncorrectable beats are counted; the answer says whether a beat was uncorrectable. -/
def Dev.readMem (d : Dev) (a n : Nat) : Dev × Bool :=
  (d.suspectBeats a n).foldl (fun (x : Dev × Bool) b =>
    match x.1.readBeat b with
    | .good => x
    | .corrected die => (x.1.noteCorrected b die, x.2)
    | .bad => (x.1.noteUe b, true)) (d, false)

/-- A DMA channel that read an uncorrectable beat halts (R520): the lowest in service. -/
def Dev.haltDma (d : Dev) : Dev :=
  match (List.range 8).find? fun c => !d.bit Reg.MEM_DMA_STAT c with
  | some c => (d.setBit Reg.MEM_DMA_STAT c true).sticky Reg.MEM_EVT 3 Ev.memDmaHalt
  | none => d

/-- Read device memory for a command through a DMA channel: no bytes where a beat is uncorrectable (R520). -/
def Dev.dmaRead (d : Dev) (mem : List Host.Cell) (a n : Nat) : Dev × Option (List Byte) :=
  let r := d.readMem a n
  if r.2 then (r.1.haltDma, none) else (r.1, some (memRead mem a n))

/-! ## Write-merge buffer (R510, R511) -/

/-- One beat of a burst that merges: covered beats and correctable ones come out clean; an uncorrectable beat that is touched
keeps only the bytes written and stays uncorrectable in either mode; an untouched one stays as it was. -/
def Dev.mergeBeat (d : Dev) (l mask k : Nat) : Dev :=
  let b := l * 16 + k
  let m := bits mask (k * 16) 16
  let covered := { d with memc := { d.memc with faults := sset (fun _ => 0) b 0 d.memc.faults } }
  match d.readBeat b with
  | .good => covered
  | .corrected die => covered.noteCorrected b die
  | .bad =>
    if m = 65535 then covered.noteUe b
    else if m = 0 then d.noteUe b
    else
      let d := (List.range 16).foldl (fun (d : Dev) i => if bitAt m i then d else d.memw (b * 16 + i) [0#8]) d
      Dev.noteUe { d with memc := { d.memc with faults := sset (fun _ => 0) b 1023 d.memc.faults } } b

/-- The oldest line of the write-merge buffer leaves it, after a merge read of its burst (R510). -/
def Dev.flushLine (d : Dev) : Dev :=
  match d.memc.lines with
  | [] => d
  | (l, mask) :: rest =>
    let d := { d with memc := { d.memc with lines := rest } }
    if d.haltedAt (l * 256) then d else (List.range 16).foldl (fun d k => d.mergeBeat l mask k) d

/-- `WMB_LINE_FLUSH` (R510). -/
def execWmbLineFlush (upset : List (Nat × Nat)) (s : State) : Host.Outcome State Fault Refusal :=
  .next (s.onDev fun _ d => (d.upset upset).flushLine)

/-! ## Passes (R522 to R524) -/

/-- Rewrite the corrected beats of a range (R511, R522). -/
def Dev.repair (d : Dev) (a n : Nat) : Dev :=
  let fix := (d.suspectBeats a n).filter fun b => match d.readBeat b with | .corrected _ => true | _ => false
  { d with memc := { d.memc with faults := fix.foldl (fun m b => sset (fun _ => 0) b 0 m) d.memc.faults } }

/-- One repairing pass of the patrol over a range (R524). -/
def Dev.pass (d : Dev) (a n : Nat) : Dev :=
  let e := (d.readMem a n).1
  { e with memc := { e.memc with faults := (d.repair a n).memc.faults } }

/-- The scrub pass reads the beats that are left, unless too many uncorrectable ones stop it at one of them. -/
def Dev.scanRest (d : Dev) (b : Nat) : Dev :=
  if d.memc.scrub.isNone then d
  else
    let e := d.scanBeat b
    if e.readBeat b = .bad ∧ e.manyUe (beatGroup b) = true then
      (e.scanned (b / 16 * 256 + 256 - ((e.memc.scrub.map (·.addr)).getD 0))).stopGroup (beatGroup b)
    else e

/-- The scrub pass ends (R523). -/
def Dev.finishScrub (d : Dev) : Dev :=
  match d.memc.scrub with
  | none => d
  | some j =>
    let d := ((d.suspectBeats j.addr j.length).foldl Dev.scanRest d).scanned j.length
    match d.memc.scrub with
    | none => d
    | some j => d.closeScrub 0 0x0000 (leBytes 4 (j.ce.foldl (· + ·) 0) ++ leBytes 4 j.ue.length
        ++ leBytes 4 (min (2 ^ 32 - 1) ((d.now - j.started) / 1000)))

/-- `MEM_SCRUB_COMPLETE` (R523). -/
def execMemScrubComplete (upset : List (Nat × Nat)) (s : State) : Host.Outcome State Fault Refusal :=
  .next (s.onDev fun _ d => (d.upset upset).finishScrub)

/-- The capacity of the dies: device memory and the private area above it (R415). -/
def memCapacity : Nat := devMemSize + 2 ^ 28

/-- The next 64 MiB of the patrol, with repair; progress is reported in 1/65,536 of a period (R524). -/
def Dev.patrolStep (d : Dev) : Dev :=
  let d := d.pass d.memc.patrolAt (2 ^ 26)
  let nxt := 2 ^ 26 + d.memc.patrolAt
  let wrap := decide (memCapacity ≤ nxt)
  let at_ := if wrap then 0 else nxt
  let done := if wrap then min 65535 (d.memc.patrolDone + 1) else d.memc.patrolDone
  let d := { d with memc := { d.memc with patrolAt := at_, patrolDone := done } }
  d.put Reg.MEM_PATROL (BitVec.ofNat 32 (65536 * at_ / memCapacity + 65536 * done))

/-! ## Training and maintenance (R505, R513, R514) -/

/-- The data rate in force (R503, R528). -/
def Dev.showSpeed (d : Dev) : Dev :=
  d.setFld F.MEM_STAT_SPEED (if d.par P.mem_speed 0 = 3200 then 0 else if d.par P.mem_speed 0 = 3733 then 1 else 2)

/-- Training ends, with the wipe where the reset asks for one: the memory becomes active (R418, R513, R525). -/
def Dev.memTrained (d : Dev) (densityOk : Bool) (failed : List (Fin 20)) : Dev :=
  if d.flag F.MEM_STAT_ACTIVE || d.rst.phase != .running then d
  else if !densityOk then (d.haltGroup 0).haltGroup 1
  else
    let d := failed.foldl (fun (d : Dev) c => d.declareDie (c.val % 10)) d
    if d.memHalted then d
    else
      let d := if d.memc.wipeDue then { d.wipe 0 memCapacity with memc := { d.memc with wipeDue := false, faults := [], lines := [] } } else d
      let d := (d.setFlag F.MEM_STAT_ACTIVE true).setFlag F.GLB_STAT_MEM_ACTIVE true
      (d.setFlag F.MEM_STAT_CAP Config.sixteenGiB).showSpeed

/-- `MEM_TRAINING_DONE` (R513). -/
def execMemTrainingDone (densityOk : Bool) (failed : List (Fin 20)) (s : State) : Host.Outcome State Fault Refusal :=
  .next (s.onDev fun _ d => d.memTrained densityOk failed)

/-- `MEM_MAINTENANCE_TICK` (R513): each tracking failure is counted, and two in succession on a channel declare its die failed. -/
def execMemMaintenanceTick (failed : List (Fin 20)) (s : State) : Host.Outcome State Fault Refusal :=
  .next (s.onDev fun _ d =>
    if !d.flag F.MEM_STAT_ACTIVE || d.memHalted then d
    else
      let was := d.memc.trackBad
      let d := { d with memc := { d.memc with trackBad := failed.map (·.val) } }
      failed.foldl (fun (d : Dev) c =>
        let d := d.bump C.MEM_RETRAIN_FAIL_CNT
        if was.contains c.val then d.declareDie (c.val % 10) else d) d)

/-- `DIE_CE_WINDOW` (R514): the second ends; a symbol position with more corrections than the threshold declares its die failed. -/
def execDieCeWindow (s : State) : Host.Outcome State Fault Refusal :=
  .next (s.onDev fun _ d =>
    let above := d.memc.dieCe.filter fun e => decide (d.par P.mem_die_ce_thresh 0 < e.2)
    let d := { d with memc := { d.memc with dieCe := [] } }
    above.foldl (fun (d : Dev) e => d.declareDie (e.1 % 10)) d)

/-- `COMMAND_PATH_PARITY_ERROR` (R516). -/
def execCommandPathParityError (groupB : Bool) (s : State) : Host.Outcome State Fault Refusal :=
  .next (s.onDev fun _ d => d.haltGroup (b2n groupB))

/-- `MEM_DMA_RESUME` (R520): each channel whose bit is written 1 returns to service. -/
def execMemDmaResume (value : Word) (s : State) : Host.Outcome State Fault Refusal :=
  .next (s.onBar fun _ d => d.put Reg.MEM_DMA_STAT (d.reg Reg.MEM_DMA_STAT &&& ~~~value))

/-! ## Memory commands (R468) -/

/-- Two byte ranges overlap. -/
def overlaps (a n b m : Nat) : Bool := decide (a < b + m ∧ b < a + n)

/-- The rings in use: enabled streams, the event ring, the telemetry ring. -/
def Dev.enabledRings (d : Dev) : List (Nat × Nat) :=
  ((List.range 3).filter fun s => d.flag (F.ING_S_CTL_EN s)).map (fun s => (d.wide64 (Reg.ING_S_BASE_LO s), ringBytes s (d.ringSize s)))
    ++ (if d.flag F.EVT_CTL_RING_EN then [(d.wide64 Reg.EVT_RING_BASE_LO, d.evtDepth * 32)] else [])
    ++ (if d.flag F.TEL_STAT_RUN then [(d.tel.addr, d.tel.size)] else [])

/-- A 256-byte-aligned range in device memory (R522). -/
def scrubRangeOk (a n : Nat) : Bool := a % 256 == 0 && n % 256 == 0 && inDevMem a n

/-- `mem.scrub` (R522). -/
def bodyMemScrub : Body := fun p _ d =>
  let a := p.u 0 8
  let n := p.u 8 8
  let sum := p.u 24 8
  refuseIf (!scrubRangeOk a n) 0x0105 <|
    refuseIf (sum % 64 != 0 || !inDevMem sum 256 || overlaps sum 256 a n) 0x0105 <|
    refuseIf d.memHalted 0x0304 <|
    .accept ({ d with memc := { d.memc with scrub := some { addr := a, length := n, repair := p.u 16 1 == 1, summary := sum, pair := 0, tag := p.tag.toNat, started := d.now } } }.setFlag
      F.MEM_STAT_SCRUB_BUSY true) 0

/-- `MEM_SCRUB` (R522). -/
def execMemScrub (c : Cmd) (s : State) : Host.Outcome State Fault Refusal :=
  .next (s.onDev (runCmd 0x0901 c fun p mem d =>
    match bodyMemScrub p mem d with
    | .accept d x => .accept { d with memc := { d.memc with scrub := d.memc.scrub.map fun j => { j with pair := c.pair.val } } } x
    | v => v))

/-- `mem.status`. -/
def bodyMemStatus : Body := fun _ _ d =>
  .ok d (leBytes 4 (d.reg Reg.MEM_CE_CNT).toNat ++ leBytes 4 (d.reg Reg.MEM_UE_CNT).toNat
    ++ leBytes 1 (d.fld F.MEM_STAT_HALT_A + 2 * d.fld F.MEM_STAT_HALT_B))

/-- `MEM_STATUS` (R468). -/
def execMemStatus (c : Cmd) (s : State) : Host.Outcome State Fault Refusal := .next (s.onDev (runCmd 0x0902 c bodyMemStatus))

/-- `mem.patrol` (R524). -/
def bodyMemPatrol : Body := fun p _ d =>
  refuseIf (decide (1 < p.u 0 1)) 0x0104 <| refuseIf (!decide (1 ≤ p.u 4 4 ∧ p.u 4 4 ≤ 720)) 0x0104 <|
    .ok ((d.setFld F.MEM_CTL_PATROL_EN (p.u 0 1)).setFld F.MEM_CTL_PATROL_H (p.u 4 4)) []

/-- `MEM_PATROL` (R524). -/
def execMemPatrol (c : Cmd) (s : State) : Host.Outcome State Fault Refusal := .next (s.onDev (runCmd 0x0903 c bodyMemPatrol))

/-- `mem.wipe` (R525): the range is zeroed when the command completes. -/
def bodyMemWipe : Body := fun p _ d =>
  let a := p.u 0 8
  let n := p.u 8 8
  refuseIf (!scrubRangeOk a n) 0x0105 <|
    refuseIf (d.enabledRings.any fun r => overlaps a n r.1 r.2) 0x0204 <| refuseIf d.memHalted 0x0304 <|
    .accept (d.setFlag F.MEM_STAT_WIPE_BUSY true) 0

/-- `MEM_WIPE` (R525). -/
def execMemWipe (c : Cmd) (s : State) : Host.Outcome State Fault Refusal := .next (s.onDev (runCmd 0x0904 c bodyMemWipe))

end Sys2Proof.Machine
end

