-- ==== Sys2Proof/Machine/Real.lean ====
section
/-! DEFINITION. Square roots, logarithms and powers as integers. The manual writes real functions and states no precision:
these carry 2^-48 of precision before the rounding that a rule asks for (DESIGN CHOICE, log entry 7). -/

namespace Sys2Proof.Machine

/-- The square root rounded down, bit `n` on downwards, from a root `r` already found. -/
def isqrtFrom : Nat → Nat → Nat → Nat
  | 0, _, r => r
  | n + 1, v, r => if (r + 2 ^ n) * (r + 2 ^ n) ≤ v then isqrtFrom n v (r + 2 ^ n) else isqrtFrom n v r

/-- The square root rounded down. -/
def isqrt (v : Nat) : Nat := isqrtFrom (Nat.log2 v / 2 + 1) v 0

/-- The square root rounded to nearest. -/
def rsqrt (v : Nat) : Nat := (isqrt (4 * v) + 1) / 2

/-- One bit of a logarithm after another: `m` lies between 1 and 2, in 2^-60. -/
def log2Bits : Nat → Nat → Nat → Nat
  | 0, _, acc => acc
  | n + 1, m, acc =>
    let q := m * m / 2 ^ 60
    if 2 ^ 61 ≤ q then log2Bits n (q / 2) (2 * acc + 1) else log2Bits n q (2 * acc)

/-- log2 of a/b in 2^-48; zero where either is zero. -/
def log2Fix (a b : Nat) : Int :=
  if a = 0 ∨ b = 0 then 0
  else
    let q := 2 ^ 128 * a / b
    let e := Nat.log2 q
    let m := if 60 ≤ e then q / 2 ^ (e - 60) else q * 2 ^ (60 - e)
    ((e : Int) - 128) * 2 ^ 48 + (log2Bits 48 m 0 : Nat)

/-- ln 2 in 2^-62. -/
def ln2 : Nat := 3196577161300663914

/-- ln of a/b in 2^-48. -/
def lnFix (a b : Nat) : Int := log2Fix a b * (ln2 : Int) / 2 ^ 62

/-- The terms of the series of e^z, z in 2^-60 below 1: `t` is the term before. -/
def expTerms : Nat → Nat → Nat → Nat → Nat
  | 0, _, _, _ => 0
  | n + 1, k, z, t => t + expTerms n (k + 1) z (t * z / (2 ^ 60 * k))

/-- 2^y in 2^-48, for y in 2^-48. -/
def exp2Fix (y : Int) : Nat :=
  let e := y / 2 ^ 48
  let f := (y % 2 ^ 48).toNat
  let m := expTerms 24 1 (f * ln2 / 2 ^ 50) (2 ^ 60)
  if 12 ≤ e then m * 2 ^ (e - 12).toNat else m / 2 ^ (12 - e).toNat

/-- e^y in 2^-48, for y in 2^-48. -/
def expFix (y : Int) : Nat := exp2Fix (2 ^ 62 * y / (ln2 : Int))

/-- π in 2^-60. -/
def piFix : Nat := 3622009729038561421

/-- The terms of the sine series of θ, in 2^-60: `k` is the power of the term `t` before. -/
def sinTerms : Nat → Nat → Int → Int → Int
  | 0, _, _, _ => 0
  | n + 1, k, th, t => t + sinTerms n (k + 2) th (-(t * th / 2 ^ 60 * th / 2 ^ 60) / ((k + 1) * (k + 2) : Nat))

/-- sin(π a / b) in 2^-60, for a at most b. -/
def sinPi (a b : Nat) : Int :=
  let a := min a (b - a)
  let th : Int := (piFix * a / max 1 b : Nat)
  sinTerms 14 1 th th

end Sys2Proof.Machine
end

