-- ==== Sys2Proof/Machine/Time.lean ====
section
/-! DEFINITION. Device time and its discipline (chapter 02): the servo, steps, holdover, ageing, frequency measurement, and the
time commands. -/

namespace Sys2Proof.Machine

/-! ## The source of discipline (R40) -/

/-- A peer master other than this device exists. -/
def Dev.otherMaster (d : Dev) : Bool :=
  match d.peer.master with
  | some m => m != Config.deviceId
  | none => false

/-- `TIME_STAT.ACTIVE_SRC` (R40). -/
def Dev.activeSrc (d : Dev) : Nat :=
  let s := d.fld F.TIME_CTL_SOURCE
  if !d.locked || s == 3 then 3
  else if s == 1 then 1
  else if d.otherMaster then 2
  else if s == 0 then 1 else 3

/-- `TIME_STAT` as a read returns it. -/
def Dev.timeStat (d : Dev) : Word := withField (d.reg Reg.TIME_STAT) 8 2 d.activeSrc

/-! ## The servo (R42, R44) -/

/-- Parts per billion in the units of the rate. -/
def ppbUnits (n : Int) : Int := 2 ^ 40 * n / 1000000000

/-- The rate in ppb. -/
def ratePpb (r : Int) : Int := roundDiv (1000000000 * r) (2 ^ 40)

/-- Put a servo rate in force. -/
def Dev.setRate (d : Dev) (r : Int) : Dev :=
  { d with time := { d.time with rate := r } }.put Reg.TIME_RATE (BitVec.ofInt 32 (ratePpb r))

/-- The slewing branch of the servo: `theta` in ps, `dt` in units of 0.4 ns. -/
def Dev.slew (d : Dev) (theta : Int) (dt : Nat) : Dev :=
  let tau := max 1 (d.par P.time_servo_tau_s 0)
  let lim := ppbUnits (d.par P.time_slew_max_ppb 0)
  let f := clampI (-lim) lim (d.time.fInt + roundDiv (2 ^ 41 * theta * dt) (20 * 10 ^ 21 * tau * tau))
  let d := { d with time := { d.time with fInt := f, heldStep := none } }.setFlag F.TIME_STAT_STEP_PENDING false
  d.setRate (clampI (-lim) lim (roundDiv (2 ^ 40 * theta) (10 ^ 12 * tau) + f))

/-- The integrator of the present stretch of discipline so far: its value over each tick since the last time it was summed (R35). -/
def Dev.learnOn (d : Dev) : Dev :=
  let n := d.time.ticks - d.time.learnAt
  if d.flag F.TIME_STAT_DISCIPLINED then
    { d with time := { d.time with learnSum := d.time.learnSum + d.time.fInt * n, learnLen := d.time.learnLen + n, learnAt := d.time.ticks } }
  else { d with time := { d.time with learnSum := 0, learnLen := 0, learnAt := d.time.ticks } }

/-- The servo applies one offset of `theta` ps (R42). The first offset since the island left reset has dt = 0 (DEDUCED, log entry 8). -/
def Dev.applyOffset (d : Dev) (theta : Int) : Dev :=
  let d := d.learnOn
  let dt := match d.time.lastOffset with
    | some t => d.time.ticks - t
    | none => 0
  let d := { d with time := { d.time with lastOffset := some d.time.ticks } }
  let d := (d.setFlag F.TIME_STAT_HOLDOVER false).setFlag F.TIME_STAT_DISCIPLINED true
  let stepPs : Int := (d.par P.time_step_ns 0 : Nat) * 1000
  if !d.flag F.TIME_STAT_VALID then d.placeStep theta
  else if decide (stepPs ≤ theta) && d.flag F.TIME_CTL_STEP_EN then d.placeStep theta
  else d.slew theta dt

/-- The capture of a `time.mark`: device time at the doorbell less the crossing of 64 ns (R41). -/
def Dev.capture (d : Dev) : Nat := d.now - 64

/-- The servo runs for a capture of `cap` ns with a mark's T_SRC, when host marks are the source applied (R40, R41). -/
def Dev.markServo (d : Dev) (cap tSrc : Nat) : Dev :=
  if d.activeSrc = 1 then d.applyOffset (((tSrc : Int) + d.parI P.time_mark_latency_ns 0 - cap) * 1000) else d

/-- `time.mark` with the capture of its doorbell: it is counted, and the servo runs where it is the last mark of that doorbell (R41). -/
def bodyTimeMark (cap : Nat) (last : Bool) : Body := fun p _ d =>
  let x := d.bump C.TIME_MARK_CNT
  .ok (if last then x.markServo cap (p.u 0 8) else x) (leBytes 8 cap ++ leBytes 4 (d.reg Reg.TIME_RATE).toNat)

/-- `TIME_MARK` (R41): a doorbell covers it alone. -/
def execTimeMark (c : Cmd) (s : State) : Host.Outcome State Fault Refusal :=
  .next (s.onDev (runFast 0x0102 c fun p mem d => bodyTimeMark d.capture true p mem d))

/-! ## Commands (R460) -/

/-- `time.get`. -/
def bodyTimeGet : Body := fun _ _ d =>
  .ok d (leBytes 8 d.now ++ leBytes 4 (d.reg Reg.TIME_RATE).toNat ++ leBytes 4 (d.reg Reg.TIME_XO_TRIM).toNat
    ++ leBytes 2 (d.timeStat.toNat % 1024))

/-- `TIME_GET` (R460). -/
def execTimeGet (c : Cmd) (s : State) : Host.Outcome State Fault Refusal := .next (s.onDev (runCmd 0x0101 c bodyTimeGet))

/-- `time.set` (R38): a step that was held is dropped. -/
def bodyTimeSet : Body := fun p _ d =>
  refuseIf (decide (2 ^ 62 ≤ p.u 0 8)) 0x0104 <| refuseIf (!d.atRest) 0x0201 <|
    .ok ((({ d with time := { d.time with acc := 5 * 2 ^ 39 * p.u 0 8, heldStep := none } }).setFlag F.TIME_STAT_VALID true).setFlag
      F.TIME_STAT_STEP_PENDING false) []

/-- `TIME_SET` (R38). -/
def execTimeSet (c : Cmd) (s : State) : Host.Outcome State Fault Refusal := .next (s.onDev (runCmd 0x0103 c bodyTimeSet))

/-! ## Frequency measurement (R56, R57) -/

/-- `time.fmeas` (R56). -/
def bodyTimeFmeas : Body := fun p _ d =>
  refuseIf (decide (10 < p.u 0 1)) 0x0104 <| refuseIf (!decide (10 ≤ p.u 2 2 ∧ p.u 2 2 ≤ 10000)) 0x0104 <|
    .accept ({ d with time := { d.time with fmeas := some ⟨p.u 0 1, p.u 2 2, [], 0⟩ } }.setFlag F.TIME_STAT_FMEAS_BUSY true) 0

/-- `TIME_FMEAS` (R56). -/
def execTimeFmeas (c : Cmd) (s : State) : Host.Outcome State Fault Refusal := .next (s.onDev (runCmd 0x0104 c bodyTimeFmeas))

/-- The index of a new edge: an interval beyond 1.5 times the running period estimate skips the edges that are missing (R57). The
estimate is the mean of all the intervals so far by index (DESIGN CHOICE, log entry 153). -/
def fmeasIndex (edges : List (Nat × Nat)) (stamp : Nat) : Nat :=
  match edges with
  | [] => 0
  | (i, t) :: _ =>
    match edges.getLast? with
    | some (0, t0) =>
      if 0 < i ∧ t0 < t ∧ 3 * (t - t0) < 2 * (stamp - t) * i then i + (roundDiv ((stamp - t) * i : Nat) (t - t0)).toNat else i + 1
    | _ => i + 1

/-- One rising edge of the measured input, stamped in coarse periods of device time. -/
def Fmeas.edge (m : Fmeas) (stamp : Nat) : Fmeas :=
  let i := fmeasIndex m.edges stamp
  let skipped := match m.edges with
    | [] => 0
    | (j, _) :: _ => i - j - 1
  { m with edges := (i, stamp) :: m.edges, missing := m.missing + skipped }

/-- `FMEAS_EDGE` (R57). -/
def execFmeasEdge (stamp : Nat) (s : State) : Host.Outcome State Fault Refusal :=
  .next (s.onDev fun _ d => { d with time := { d.time with fmeas := d.time.fmeas.map (·.edge stamp) } })

/-- The smallest k with at most 65,536 of `n` edges used. -/
def fmeasSkip : Nat → Nat → Nat
  | 0, _ => 0
  | k + 1, n => if n ≤ 65536 then 0 else 1 + fmeasSkip k ((n + 1) / 2)

/-- The sums of a fit: n, Σi, Σt, Σi², Σit, Σt². -/
def fitSums (l : List (Nat × Nat)) : Nat × Nat × Nat × Nat × Nat × Nat :=
  l.foldl (fun (n, si, st, sii, sit, stt) (i, t) => (n + 1, si + i, st + t, sii + i * i, sit + i * t, stt + t * t)) (0, 0, 0, 0, 0, 0)

/-- The result of a measurement: status and results (R57). The 16-bit USED and MISSING saturate (DESIGN CHOICE, log entry 154). -/
def Fmeas.result (m : Fmeas) : Nat × List Byte :=
  let k := fmeasSkip 64 m.edges.length
  let all := m.edges.reverse
  let t0 := (all.head?.map (·.2)).getD 0
  let used := ((all.mapIdx fun j e => (j, e)).filter fun x => x.1 % 2 ^ k == 0).map fun x => (x.2.1, x.2.2 - t0)
  let (n, si, st, sii, sit, stt) := fitSums used
  let a : Int := (n * sit : Nat) - (si * st : Nat)
  let b := n * sii - si * si
  let c := n * stt - st * st
  if n < 3 ∨ b = 0 ∨ a ≤ 0 then (0x0205, leBytes 8 0 ++ leBytes 8 0 ++ leBytes 4 0 ++ leBytes 2 (min 65535 n) ++ leBytes 2 (min 65535 m.missing))
  else
    let p := (roundDiv (131072 * a) (5 * b)).toNat
    let f := (roundDiv (5 * 10 ^ 15 * (b : Int)) (2 * a.toNat)).toNat
    let r := rsqrt (160000 * (c * b - a.toNat * a.toNat) / (b * n * n))
    (0x0000, leBytes 8 p ++ leBytes 8 f ++ leBytes 4 (min (2 ^ 32 - 1) r) ++ leBytes 2 (min 65535 n) ++ leBytes 2 (min 65535 m.missing))

/-- The gate ends: the result is posted (R57). -/
def Dev.fmeasEnd (d : Dev) : Dev :=
  match d.time.fmeas with
  | none => d
  | some m =>
    let r := m.result
    let d := { d with time := { d.time with fmeas := none } }.setFlag F.TIME_STAT_FMEAS_BUSY false
    (d.completeOp 0x0104 r.1 r.2).raise Ev.fmeasDone

/-- `FMEAS_GATE_END` (R57). -/
def execFmeasGateEnd (s : State) : Host.Outcome State Fault Refusal := .next (s.onDev fun _ d => d.fmeasEnd)

/-! ## Holdover and ageing (R35, R44) -/

/-- Discipline is no longer unbroken: the ageing mean starts afresh (R35). -/
def Dev.breakDiscipline (d : Dev) : Dev :=
  { d with time := { d.time with learnSum := 0, learnLen := 0, learnAt := d.time.ticks } }.setFlag F.TIME_STAT_DISCIPLINED false

/-- No offset for `time.holdover_s` (R44): FREE applies no offset by design and never enters holdover. -/
def Dev.enterHoldover (d : Dev) : Dev :=
  if d.time.lastOffset.isNone then d
  else if d.fld F.TIME_CTL_SOURCE = 3 then d.breakDiscipline
  else if d.flag F.TIME_STAT_HOLDOVER then d
  else
    let d := (d.breakDiscipline.setFlag F.TIME_STAT_HOLDOVER true).raise Ev.timeHoldover
    (d.setRate d.time.fInt).bump C.TIME_HOLDOVER_CNT

/-- `HOLDOVER_TIMEOUT` (R44). -/
def execHoldoverTimeout (s : State) : Host.Outcome State Fault Refusal := .next (s.onDev fun _ d => d.enterHoldover)

/-- The mean of the integrator over the present stretch of discipline, ppb (R35). -/
def Dev.learnMean (d : Dev) : Int := roundDiv (1000000000 * d.learnOn.time.learnSum) (2 ^ 40 * d.learnOn.time.learnLen)

/-- 24 h of unbroken discipline: the mean of the integrator, at most 100 ppb, waits for the next slot boundary (R35). -/
def Dev.ageLearn (d : Dev) : Dev :=
  if d.flag F.TIME_CTL_AGE_LEARN_EN && d.flag F.TIME_STAT_DISCIPLINED && decide (0 < d.learnOn.time.learnLen) then
    { d with time := { d.time with ageMove := some (clampI (-100) 100 d.learnMean), learnSum := 0, learnLen := 0,
                                   learnAt := d.time.ticks } }
  else d

/-- `AGE_LEARN_TIMER` (R35). -/
def execAgeLearnTimer (s : State) : Host.Outcome State Fault Refusal := .next (s.onDev fun _ d => d.ageLearn)

/-- SOURCE has become FREE: device time runs at the integrator value (R40), and HOLDOVER is not set (R44). -/
def Dev.sourceSet (d : Dev) : Dev :=
  if d.fld F.TIME_CTL_SOURCE = 3 then (d.setRate d.time.fInt).setFlag F.TIME_STAT_HOLDOVER false else d

/-- An empty queue: one period of the timing clock passes while the PLL is locked (DESIGN CHOICE, log entry 9). -/
def Dev.idleTick (d : Dev) : Dev := if d.locked then d.advance 1 else d

end Sys2Proof.Machine
end

