-- ==== Sys2Proof/Machine/Store.lean ====
section
/-! DEFINITION. The retained store (chapter 16): the log of blocks and records, commits, garbage collection, wear and erasure. -/

namespace Sys2Proof.Machine

/-! ## Records (R490, R491, R494) -/

/-- The element size of the parameter of a key. -/
def keySize (k : Nat) : Nat := max 1 (((param? (k / 2 ^ 20)).map (·.esize)).getD 4)

/-- Bytes a record takes in its block: header and payload, padded to 32. -/
def LogRec.bytes (r : LogRec) : Nat := 32 + (r.size + 31) / 32 * 32

/-- Elements an ENTRY record holds. -/
def LogRec.count (r : LogRec) : Nat :=
  match r.key with
  | some k => r.size / keySize k
  | none => 0

/-- The ENTRY records of a generation, at most 4,096 bytes of consecutive elements in each (DESIGN CHOICE, log entry 10). -/
def entryRecs (set gen : Nat) (entries : List (Nat × Nat)) : List LogRec :=
  (entries.foldl (fun (acc : List LogRec) e =>
    match acc with
    | r :: rest =>
      match r.key with
      | some k =>
        if k + r.count = e.1 ∧ r.size + keySize k ≤ 4096 then { r with size := r.size + keySize k } :: rest
        else ⟨set, gen, some e.1, keySize e.1⟩ :: r :: rest
      | none => ⟨set, gen, some e.1, keySize e.1⟩ :: r :: rest
    | [] => [⟨set, gen, some e.1, keySize e.1⟩]) []).reverse

/-- One ENTRY record holds every element of another. -/
def LogRec.covers (a b : LogRec) : Bool :=
  match a.key, b.key with
  | some x, some y => a.set == b.set && decide (x ≤ y ∧ y + b.count ≤ x + a.count)
  | _, _ => false

/-- An ENTRY is live while at most one newer generation holds its elements; a MARKER with its generation (R494). -/
def recLive (log : List LogRec) (r : LogRec) : Bool :=
  match r.key with
  | some _ => decide ((log.filter fun x => x.covers r && decide (r.gen < x.gen)).length < 2)
  | none => log.any fun x => x.key.isSome && x.set == r.set && x.gen == r.gen

/-- Every record of the log. -/
def StoreSt.log (st : StoreSt) : List LogRec := st.blocks.flatMap (·.recs)

/-- Bytes in use in a block, its header included. -/
def LogBlock.fill (b : LogBlock) : Nat := 32 + b.recs.foldl (fun a r => a + r.bytes) 0

/-- Free blocks. -/
def StoreSt.freeCount (st : StoreSt) : Nat := (st.blocks.filter fun b => !b.used).length

/-- The free block with the lowest erase count. -/
def StoreSt.nextFree (st : StoreSt) : Option Nat :=
  ((st.blocks.mapIdx fun i b => (i, b)).foldl (fun (acc : Option (Nat × Nat)) x =>
    if x.2.used then acc
    else
      match acc with
      | some (_, e) => if x.2.erases < e then some (x.1, x.2.erases) else acc
      | none => some (x.1, x.2.erases)) none).map (·.1)

/-- Append a record to block `i`. -/
def StoreSt.addTo (st : StoreSt) (i : Nat) (r : LogRec) : StoreSt :=
  { st with head := some i, seq := (st.seq + 1) % 2 ^ 32,
            blocks := modAt st.blocks i fun b => { b with used := true, recs := b.recs ++ [r] } }

/-- Write a record at the head of the log, in a free block where the head block has no room. -/
def StoreSt.writeRec (st : StoreSt) (r : LogRec) : StoreSt :=
  match st.head with
  | some i =>
    if ((st.blocks[i]?).map (·.fill)).getD 65536 + r.bytes ≤ 65536 then st.addTo i r
    else (match st.nextFree with | some j => st.addTo j r | none => st)
  | none => (match st.nextFree with | some j => st.addTo j r | none => st)

/-- Bytes of garbage in a block. -/
def garbage (log : List LogRec) (b : LogBlock) : Nat :=
  b.recs.foldl (fun a r => if recLive log r then a else a + r.bytes) 0

/-- The sets among records. -/
def recSets (l : List LogRec) : List Nat := l.foldl (fun acc r => if acc.contains r.set then acc else acc ++ [r.set]) []

/-- Block `i` is relocated: its kept records go to the head with a MARKER for them, then it is erased (R494). -/
def StoreSt.relocate (st : StoreSt) (i : Nat) (keep : LogRec → Bool) : StoreSt :=
  match st.blocks[i]? with
  | none => st
  | some b =>
    let kept := b.recs.filter keep
    let st := if st.head = some i then { st with head := none } else st
    let st := kept.foldl StoreSt.writeRec st
    let st := (recSets kept).foldl (fun st s => st.writeRec ⟨s, sget (fun _ => 0) s st.gens, none, 8⟩) st
    { st with blocks := modAt st.blocks i fun b => { b with used := false, recs := [], erases := b.erases + 1 } }

/-- The block with the most garbage, other than the head. -/
def StoreSt.worst (st : StoreSt) : Option Nat :=
  let log := st.log
  ((st.blocks.mapIdx fun i b => (i, b)).foldl (fun (acc : Option (Nat × Nat)) x =>
    if !x.2.used || st.head == some x.1 then acc
    else
      let g := garbage log x.2
      match acc with
      | some (_, m) => if m < g then some (x.1, g) else acc
      | none => if 0 < g then some (x.1, g) else none) none).map (·.1)

/-- Garbage collection while fewer than 2 blocks are free (R494); the first number bounds the rounds. -/
def StoreSt.collect : Nat → StoreSt → StoreSt
  | 0, st => st
  | n + 1, st =>
    if 2 ≤ st.freeCount then st
    else
      match st.worst with
      | some i => StoreSt.collect n (st.relocate i (recLive st.log))
      | none => st

/-- Highest and lowest erase counts. -/
def StoreSt.eraseMax (st : StoreSt) : Nat := st.blocks.foldl (fun a b => max a b.erases) 0
/-- Lowest erase count. -/
def StoreSt.eraseMin (st : StoreSt) : Nat := st.blocks.foldl (fun a b => min a b.erases) (st.eraseMax)

/-- Wear levelling: the block with the lowest count is relocated when the counts differ by more than 1,000 (R494). -/
def StoreSt.level (st : StoreSt) : StoreSt :=
  if st.eraseMin + 1000 < st.eraseMax then
    match (st.blocks.findIdx? fun b => b.erases == st.eraseMin) with
    | some i => st.relocate i (recLive st.log)
    | none => st
  else st

/-! ## Values (R492, R495) -/

/-- The store key of an element of a set. -/
def setKey (set k : Nat) : Nat := 2 ^ 40 * set + k

/-- The committed value of an element of a set. -/
def Dev.committed (d : Dev) (set k : Nat) : Option Nat := if d.store.absent then none else slook (setKey set k) d.store.newest

/-- The committed elements of a set, with their values. -/
def Dev.committedSet (d : Dev) (set : Nat) : List (Nat × Nat) :=
  if d.store.absent then [] else (d.store.newest.filter fun e => e.1 / 2 ^ 40 == set).map fun e => (e.1 % 2 ^ 40, e.2)

/-- The set code (R491) that an element is committed with. -/
def paramSetCode (p : Param) : Nat :=
  match p.set with
  | .base => 0
  | .calibration => 16
  | .safety => 17
  | .counters => 18

/-- The committed set an element belongs to. -/
def keySet (k : Nat) : Nat := ((param? (k / 2 ^ 20)).map paramSetCode).getD 0

/-- The committed value of an element in its own set, else its default. -/
def Dev.committedOr (d : Dev) (k : Nat) : Nat :=
  (d.committed (keySet k) k).getD (paramDefault d.rawPar (k / 2 ^ 20) (k % 2 ^ 20))

/-- Register copies of a parameter: every element has a live value. -/
def hasCopies (i : Nat) : Bool := !(paramParts i 0).isEmpty

/-- A parameter belongs to what set code `set` commits: the safety set takes the mirrored ones too (R479). -/
def inSet (set : Nat) (p : Param) : Bool := paramSetCode p == set || (set == 17 && p.mirrored)

/-- The elements that a commit of a set writes, with their live values, in key order: the register copies, and every element that
has been set (DESIGN CHOICE, log entry 10). An overlay's set holds its image. -/
def Dev.setEntries (d : Dev) (set : Nat) : List (Nat × Nat) :=
  if 1 ≤ set ∧ set ≤ 15 then
    (d.cfg.images.filter fun e => e.1 / 2 ^ 40 == set).map fun e => (e.1 % 2 ^ 40, e.2)
  else
    (paramRows.filter (inSet set)).flatMap fun p =>
      if hasCopies p.index then (List.range p.elems).map fun e => (pkey p.index e, d.par p.index e)
      else (d.cfg.live.filter fun e => e.1 / 2 ^ 20 == p.index)

/-- The bytes of live records once a generation has been added. -/
def StoreSt.need (st : StoreSt) (recs : List LogRec) : Nat :=
  let log := st.log
  (log.foldl (fun a r => if recLive log r then a + r.bytes else a) 0) + recs.foldl (fun a r => a + r.bytes) 0

/-- The store cannot take a commit (R495): it is absent, or fewer than 2 blocks would stay free. -/
def Dev.storeFull (d : Dev) (set : Nat) (entries : List (Nat × Nat)) : Bool :=
  d.flag F.GLB_CFG_STAT_ABSENT || decide (d.store.blocks.length < ceilDiv (d.store.need (entryRecs set 0 entries)) 65504 + 2)

/-- The store registers (R500). -/
def Dev.showStore (d : Dev) : Dev :=
  if d.store.absent then d
  else
    let st := d.store
    let log := st.log
    let d := d.put Reg.GLB_STORE_INFO (BitVec.ofNat 32 (st.blocks.length + 65536))
    let d := d.put Reg.GLB_STORE_FREE (BitVec.ofNat 32 (st.freeCount
      + 65536 * (st.blocks.filter fun b => b.recs.any (recLive log)).length))
    let d := (d.put Reg.GLB_STORE_ERASE_MAX (BitVec.ofNat 32 st.eraseMax)).put Reg.GLB_STORE_ERASE_MIN (BitVec.ofNat 32 st.eraseMin)
    if d.par P.store_endurance 0 * 4 ≤ st.eraseMax * 5 then d.sticky Reg.GLB_CFG_EVT 2 Ev.storeWear else d

/-! ## Commits (R492, R493) -/

/-- A commit begins, or waits for those that run (R493). -/
def Dev.startCommit (d : Dev) (set : Nat) (owner : Option (Nat × Nat)) (opcode : Nat) : Dev :=
  { d with cfg := { d.cfg with commits := d.cfg.commits ++ [Commit.mk set (d.setEntries set) owner opcode] } }.setFlag
    F.GLB_CFG_STAT_COMMIT_BUSY true

/-- An automatic commit: nothing is written where the store cannot take it. -/
def Dev.autoCommit (d : Dev) (set : Nat) : Dev := if d.storeFull set (d.setEntries set) then d else d.startCommit set none 0

/-- Elements of a set forgotten. -/
def dropSet (set : Nat) (m : Sparse Nat) : Sparse Nat := sclear (fun k => k / 2 ^ 40 == set) m

/-- The records of a commit are in the log: an erased overlay leaves a VOID, every other commit a generation. -/
def StoreSt.addCommit (st : StoreSt) (c : Commit) : StoreSt :=
  let void := decide (1 ≤ c.set ∧ c.set ≤ 15) && c.entries.isEmpty
  let gen := sget (fun _ => 0) c.set st.gens + 1
  let recs : List LogRec := if void then [⟨c.set, gen, none, 0⟩] else entryRecs c.set gen c.entries ++ [⟨c.set, gen, none, 8⟩]
  let st := recs.foldl (fun (st : StoreSt) r => (st.writeRec r).collect 4) st
  let st := st.level
  if void then { st with newest := dropSet c.set st.newest, before := dropSet c.set st.before, gens := sset (fun _ => 0) c.set 0 st.gens }
  else
    let newest := if 1 ≤ c.set ∧ c.set ≤ 15 then dropSet c.set st.newest else st.newest
    { st with
      gens := sset (fun _ => 0) c.set gen st.gens,
      before := c.entries.foldl (fun m e => match slook (setKey c.set e.1) st.newest with
        | some v => sput (setKey c.set e.1) v m
        | none => m) st.before,
      newest := c.entries.foldl (fun m e => sput (setKey c.set e.1) e.2 m) newest }

/-- The pulse counters of the segments. -/
def Dev.segPulses (d : Dev) : Sparse Wide :=
  (List.range 256).foldl (fun m k => sset (fun _ => 0) k (BitVec.ofNat 64 (d.wide64 (Reg.BLW_SEG_PULSES_LO k))) m) []

/-- The commit at the head of the queue is done: its generation counts, is shown and is reported; its command completes. -/
def Dev.commitDone (d : Dev) (c : Commit) (rest : List Commit) : Dev :=
  let d := { d with store := { d.store.addCommit c with sums := sset (fun _ => 0) c.set (d.free 32) d.store.sums },
                    cfg := { d.cfg with commits := rest } }.freeNext
  let d := if c.set = 18 then { d with store := { d.store with pulses := d.segPulses, paired := d.blw.paired } } else d
  let d := d.put (Reg.GLB_STORE_GEN c.set) (BitVec.ofNat 32 (sget (fun _ => 0) c.set d.store.gens))
  let d := (d.showStore.setFlag F.GLB_CFG_STAT_COMMIT_BUSY (!rest.isEmpty || d.rst.life.isSome)).bump C.GLB_STORE_COMMIT_CNT
  (d.raise Ev.storeCommit).completeOwner c.owner 0x0000

/-! ## Erasure (R498) -/

/-- Erase sets: every block with a record of them is relocated without those records, and a VOID per set closes it. -/
def StoreSt.eraseSets (st : StoreSt) (sets : List Nat) : StoreSt :=
  let hit := ((st.blocks.mapIdx fun i b => (i, b)).filter fun x => x.2.recs.any fun r => sets.contains r.set).map (·.1)
  let st := hit.foldl (fun (st : StoreSt) i => st.relocate i fun r => recLive st.log r && !sets.contains r.set) st
  let st := sets.foldl (fun (st : StoreSt) s => st.writeRec ⟨s, 0, none, 0⟩) st
  sets.foldl (fun (st : StoreSt) s =>
    { st with newest := dropSet s st.newest, before := dropSet s st.before, gens := sset (fun _ => 0) s 0 st.gens,
              safeCheck := if s = 17 then none else st.safeCheck, safeReleased := s != 17 && st.safeReleased,
              pulses := if s = 18 then [] else st.pulses, paired := if s = 18 then [] else st.paired }) st

/-- Sets erased on entry to a lifecycle state. -/
def erasedSets (target : Nat) : List Nat :=
  if target = 3 then List.range 18 else if target = 4 then List.range 19 else []

/-! ## Blobs (R150, R488) -/

/-- The header and items of a blob. -/
def blob (magic time count : Nat) (items : List Byte) : List Byte :=
  let len := 64 + items.length
  let h := leBytes 4 magic ++ leBytes 2 1 ++ leBytes 2 2 ++ leBytes 8 Config.deviceId.toNat ++ leBytes 8 time ++ leBytes 4 len
    ++ leBytes 4 count ++ zeros 28
  let crc := crc32 (h ++ zeros 4 ++ items)
  h ++ leBytes 4 crc ++ items

/-- Pad to a multiple of four bytes. -/
def pad4 (l : List Byte) : List Byte := l ++ zeros ((4 - l.length % 4) % 4)

/-- Items of a blob: one for each parameter that the source lists, its elements from the first to the last, an absent one at its
default. -/
def blobItems (dflt : Nat → Nat → Nat) (entries : List (Nat × Nat)) : Nat × List Byte :=
  let idx := entries.foldl (fun acc e => if acc.contains (e.1 / 2 ^ 20) then acc else acc ++ [e.1 / 2 ^ 20]) ([] : List Nat)
  (idx.length, idx.flatMap fun i =>
    let es := entries.filter fun e => e.1 / 2 ^ 20 == i
    let n := es.foldl (fun a e => max a (e.1 % 2 ^ 20 + 1)) 0
    let sz := keySize (pkey i 0)
    let vals := (List.range n).flatMap fun e => leBytes sz (((es.find? (·.1 == pkey i e)).map (·.2)).getD (dflt i e))
    leBytes 2 i ++ leBytes 2 n ++ leBytes 4 vals.length ++ pad4 vals)

/-- The items of a blob's payload: parameter index, element count and values; none where one is malformed. -/
def parseItems : Nat → List Byte → Option (List (Nat × List Byte))
  | 0, l => if l.isEmpty then some [] else none
  | n + 1, l =>
    if l.length < 8 then none
    else
      let i := leNat (l.take 2)
      let cnt := leNat ((l.drop 2).take 2)
      let len := leNat ((l.drop 4).take 4)
      let padded := (len + 3) / 4 * 4
      let body := l.drop 8
      if body.length < padded then none
      else
        let ok := if i = 0xFFFF then true
          else (match param? i with
            | some p => decide (cnt ≤ p.elems ∧ len = cnt * p.esize)
            | none => false)
        if ok then (parseItems n (body.drop padded)).map fun r => (i, body.take len) :: r else none

/-- The elements of an item. -/
def itemEntries (x : Nat × List Byte) : List (Nat × Nat) :=
  if x.1 = 0xFFFF then []
  else
    let sz := keySize (pkey x.1 0)
    (List.range (x.2.length / sz)).map fun e => (pkey x.1 e, leNat ((x.2.drop (e * sz)).take sz))

/-- What a blob holds, or its refusal (R151, R488): MAGIC, VERSION, REV, LENGTH, items and CRC. -/
def parseBlob (magic : Nat) (l : List Byte) : Except Nat (Nat × List (Nat × Nat)) :=
  if l.length < 64 then .error 0x0106
  else if leNat (l.take 4) ≠ magic ∨ leNat ((l.drop 4).take 2) ≠ 1 ∨ leNat ((l.drop 6).take 2) ≠ 2 then .error 0x0106
  else if leNat ((l.drop 24).take 4) ≠ l.length then .error 0x0106
  else if leNat ((l.drop 60).take 4) ≠ crc32 (putBytes l 60 (zeros 4)) then .error 0x0106
  else
    match parseItems (leNat ((l.drop 28).take 4)) (l.drop 64) with
    | none => .error 0x0106
    | some items => .ok (leNat ((l.drop 8).take 8), items.flatMap itemEntries)

end Sys2Proof.Machine
end

