-- ==== Sys2Proof/Machine/FrontEnd.lean ====
section
/-! DEFINITION. Return inputs, comparators and stamps (chapters 03 and 04): hold-off, over range, thresholds, deferred settings,
the shot start reference, stop windows, the classification of edges and the shot summary. -/

namespace Sys2Proof.Machine

/-! ## Region temperatures (R543, R545) -/

/-- The neighbours of a region. -/
def regionNeighbours (r : Nat) : List Nat :=
  if r < 8 then (if r = 0 then [1, 9] else if r = 7 then [6, 9] else [r - 1, r + 1, 9])
  else if r = 8 then [9, 11] else if r = 9 then [3, 4, 8, 10] else if r = 10 then [9, 11] else [8, 10]

/-- A sensor: 0 to 11 region thermometers, 12 to 31 hot-spot sensors. -/
def Dev.sensor (d : Dev) (n : Nat) : Sensor := sget (fun _ => {}) n d.hk.sensors

/-- A region's temperature, 1/16 °C; a failed thermometer is replaced by its largest valid neighbour (R545). -/
def Dev.regionTemp (d : Dev) (r : Nat) : Int :=
  if d.bit Reg.THM_FAIL r then
    ((regionNeighbours r).filter fun n => !d.bit Reg.THM_FAIL n).foldl (fun (a : Int) n => max a (d.sensor n).t) (-640)
  else (d.sensor r).t

/-- The region of a TDC: the timing island's for the two reference TDCs (R543). -/
def tdcRegion (t : Nat) : Nat := if t < 512 then t / 64 else 8

/-! ## TDCs (R98, R126 to R129) -/

/-- The state of a TDC. -/
def Dev.tdc (d : Dev) (t : Nat) : TdcSt := sget (fun _ => {}) t d.bur.tdcs

/-- Set the state of a TDC. -/
def Dev.setTdc (d : Dev) (t : Nat) (x : TdcSt) : Dev := { d with bur := { d.bur with tdcs := sset (fun _ => {}) t x d.bur.tdcs } }

/-- The position of a bin in its coarse period, 1/16 fine units (R98). -/
def Dev.binPos (d : Dev) (t bin : Nat) : Nat := bits (d.par P.cal_bin_table t) (16 * bin) 16

/-- The time of an edge, 1/16 fine units since the timing island left reset. -/
def Dev.edgeTime (d : Dev) (t coarse bin : Nat) : Nat := 4096 * (d.time.slotStart + coarse) + d.binPos t bin

/-- One more of a key. -/
def tally (k : Nat) (m : Sparse Nat) : Sparse Nat := sset (fun _ => 0) k (sget (fun _ => 0) k m + 1) m

/-- An edge counts in its TDC's block: one bin, and at most one spare window (R129). -/
def Dev.accumulate (d : Dev) (t bin : Nat) (spare : Option (Fin 80)) : Dev :=
  let x := d.tdc t
  let b := x.block
  let b := { b with bins := tally bin b.bins, total := b.total + 1,
                    spare := match spare with
                      | some c => tally c.val b.spare
                      | none => b.spare }
  d.setTdc t { x with block := b }

/-- A slice is held offline by an apply (R140). -/
def Dev.offline (d : Dev) (s : Nat) : Bool := d.flag (F.SLICE_BUR_STAT_OFFLINE s)

/-! ## Channels -/

/-- The timing side of a channel. -/
def Dev.chan (d : Dev) (ch : Nat) : ChanSt := sget (fun _ => {}) ch d.chans

/-- Set the timing side of a channel. -/
def Dev.setChan (d : Dev) (ch : Nat) (c : ChanSt) : Dev := { d with chans := sset (fun _ => ({} : ChanSt)) ch c d.chans }

/-- `SLICE_CH_CFG` in force for a channel (R81). -/
def Dev.chCfg (d : Dev) (ch : Nat) : Word := d.force (Reg.SLICE_CH_CFG (ch / 8) (ch % 8))

/-- The channel is enabled and its slice powered (R65). -/
def Dev.chanOn (d : Dev) (ch : Nat) : Bool := bitAt (d.chCfg ch).toNat 0 && d.domOn (ch / 8)

/-- The comparator's state. -/
def ChanSt.cmp (c : ChanSt) (i : Nat) : CmpSt := if i = 0 then c.lo else if i = 1 then c.mid else c.hi

/-- Set the comparator's state. -/
def ChanSt.setCmp (c : ChanSt) (i : Nat) (x : CmpSt) : ChanSt :=
  if i = 0 then { c with lo := x } else if i = 1 then { c with mid := x } else { c with hi := x }

/-- Hold-off and blanking of a slice in 1/16 fine units (R75, R78). -/
def Dev.holdoffU (d : Dev) (s : Nat) : Nat := 4096 * d.forceFld (F.SLICE_FE_CTL_HOLDOFF s)
/-- Blanking length. -/
def Dev.blankU (d : Dev) (s : Nat) : Nat := 4096 * d.forceFld (F.SLICE_FE_CTL_BLANK s)

/-- Hold-off on one comparator (R76, R77): the state after a crossing, and whether the crossing is an edge. -/
def CmpSt.cross (c : CmpSt) (hold t : Nat) (rise : Bool) : CmpSt × Bool :=
  if rise then
    let blocked := match c.rise with
      | some r => decide (t < r + hold)
      | none => false
    if blocked then ({ c with high := true, skipFall := true }, false)
    else ({ rise := some t, high := true, skipFall := false }, true)
  else ({ c with high := false, skipFall := false }, !c.skipFall)

/-! ## Thresholds (R71, R72) -/

/-- The three codes of a threshold word. -/
def thrCodes (w : Nat) : Nat × Nat × Nat := (bits w 0 10, bits w 10 10, bits w 20 10)

/-- Put thresholds in force, ordered LO ≤ MID ≤ HI; a change of any is marked (R71). -/
def Dev.putThresholds (d : Dev) (ch : Nat) (lo mid hi : Nat) (fixed : Bool) : Dev :=
  let m := max mid lo
  let h := max hi m
  let d := d.put (Reg.SLICE_CH_THR_LIVE (ch / 8) (ch % 8)) (BitVec.ofNat 32 (lo + 2 ^ 10 * m + 2 ^ 20 * h + 2 ^ 31 * b2n fixed))
  if m = mid ∧ h = hi then d else d.mark (Reg.SLICE_CLAMP_STAT (ch / 8)) (8 + ch % 8)

/-- The fixed thresholds come into force where the channel uses them (R72). -/
def Dev.fixThresholds (d : Dev) (ch : Nat) : Dev :=
  if bitAt (d.chCfg ch).toNat 2 then
    let t := thrCodes (d.force (Reg.SLICE_CH_THR_FIX (ch / 8) (ch % 8))).toNat
    d.putThresholds ch t.1 t.2.1 t.2.2 true
  else d

/-- The thresholds of a dwell's sod come into force at its boundary; with a window of the channel still open they wait for the first
boundary without one (R24; DEDUCED, log entry 156). -/
def Dev.sodThresholds (d : Dev) (ch : Nat) (t : Nat × Nat × Nat) : Dev :=
  let c := d.chan ch
  if c.win.isNone then (d.putThresholds ch t.1 t.2.1 t.2.2 false).setChan ch { c with thrNext := none }
  else d.setChan ch { c with thrNext := some t }

/-- Thresholds that waited take effect at a slot boundary, and the dwell in progress has them. -/
def Dev.releaseThresholds (d : Dev) : Dev :=
  (d.chans.filter fun e => e.2.thrNext.isSome && e.2.win.isNone && !d.offline (e.1 / 8)).foldl (fun (d : Dev) e =>
    let ch := e.1
    if bitAt (d.chCfg ch).toNat 2 then d.setChan ch { d.chan ch with thrNext := none }
    else
      let d := d.sodThresholds ch (e.2.thrNext.getD (0, 0, 0))
      let thr := thrCodes (d.reg (Reg.SLICE_CH_THR_LIVE (ch / 8) (ch % 8))).toNat
      { d with kiln := { d.kiln with pixels := d.kiln.pixels.map fun p => if p.row = ch ∧ p.ended = false then { p with thr := thr } else p } }) d

/-! ## Deferred settings (R81 to R83) -/

/-- A write of a register whose change waits for its boundary: the value in force stays until then. -/
def Dev.putHeld (d : Dev) (a : Nat) (v : Word) : Dev :=
  let old := d.force a
  let d := d.put a v
  { d with held := if d.reg a = old then sdel a d.held else sput a old d.held }

/-- A dwell of the channel is in progress, other than one that starts at the present boundary. -/
def Dev.dwelling (d : Dev) (ch : Nat) : Bool :=
  d.kiln.pixels.any fun p => p.row == ch && !p.ended && decide (p.slot0 ≠ d.slotNo)

/-- The boundary suits a change of the channel's settings: no dwell goes on and no window is open (R81), and its slice is
online (R83). -/
def Dev.changeable (d : Dev) (ch : Nat) : Bool := !d.dwelling ch && (d.chan ch).win.isNone && !d.offline (ch / 8)

/-- The boundary suits a change of the slice's settings: it suits every enabled channel (R82). -/
def Dev.sliceChangeable (d : Dev) (s : Nat) : Bool :=
  !d.offline s && (List.range 8).all fun c => !bitAt (d.chCfg (8 * s + c)).toNat 0 || d.changeable (8 * s + c)

/-- A held register of a slice block: the boundary suits it. -/
def Dev.heldReady (d : Dev) (a : Nat) : Bool :=
  let s := (a - 0x080000) / 0x1000
  let o := a % 0x1000
  if 0x100 ≤ o ∧ o < 0x180 then d.changeable (8 * s + (o - 0x100) / 16) else d.sliceChangeable s

/-- At a slot boundary the changes that suit it take effect together (R81, R82). -/
def Dev.releaseHeld (d : Dev) : Dev :=
  let ready := (d.held.filter fun e => d.heldReady e.1).map (·.1)
  let d := { d with held := d.held.filter fun e => !ready.contains e.1 }
  ready.foldl (fun (d : Dev) a =>
    let o := a % 0x1000
    if 0x100 ≤ o ∧ o < 0x180 then d.fixThresholds (8 * ((a - 0x080000) / 0x1000) + (o - 0x100) / 16) else d) d.releaseThresholds

/-- `SLICE_FE_STAT.PENDING` of a slice (R81). -/
def Dev.pendingMask (d : Dev) (s : Nat) : Nat :=
  if (slook (Reg.SLICE_FE_CTL s) d.held).isSome then 255
  else (List.range 8).foldl (fun a c =>
    if (slook (Reg.SLICE_CH_CFG s c) d.held).isSome || (slook (Reg.SLICE_CH_THR_FIX s c) d.held).isSome then a + 2 ^ c else a) 0

/-! ## Fire-echo edges and blanking (R79, R104) -/

/-- The nearest of the edges to a position, within a tolerance; ties go to the earlier. -/
def nearestEdge (pos tol : Nat) (l : List Nat) : Option Nat :=
  l.foldl (fun (acc : Option Nat) (t : Nat) =>
    let dt := absI ((t : Int) - pos)
    if tol < dt then acc
    else
      match acc with
      | some b => if dt < absI ((b : Int) - pos) then some t else acc
      | none => some t) none

/-- The edges assigned to pulses 1 and on, in order (R79). -/
def assignFrom (tref tol : Nat) : List Nat → List Nat → List (Option Nat)
  | [], _ => []
  | p :: ps, free =>
    match nearestEdge (tref + 4096 * p) tol free with
    | some t => some t :: assignFrom tref tol ps (free.erase t)
    | none => none :: assignFrom tref tol ps free

/-- The fire-echo edge of each pulse of a shot whose reference is fixed; none for a missing one (R79). -/
def Shot.assign (s : Shot) (tol : Nat) : List (Option Nat) :=
  match s.tref with
  | none => s.pulses.map fun _ => none
  | some r =>
    let first := if s.refEst then none else some r
    first :: assignFrom r tol s.pulses.tail (if s.refEst then s.echoes else s.echoes.erase r)

/-- The blanking intervals of a shot (R79, R106). -/
def Shot.blanks (s : Shot) (tol len : Nat) : List (Nat × Nat) :=
  match s.tref with
  | none => []
  | some r =>
    if len = 0 then []
    else
      (s.pulses.zip (s.assign tol)).map fun x =>
        let e := if s.refEst then r + 4096 * x.1 else x.2.getD (r + 4096 * x.1)
        (e, e + len)

/-- A pulse at `pos` with its edge so far is decided at a time: its tolerance is over, or no edge can come nearer (R79). -/
def pulseDecided (pos tol now : Nat) (e : Option Nat) : Bool :=
  decide (pos + tol ≤ now) || (match e with
    | some t => decide (pos + absI ((t : Int) - pos) < now)
    | none => false)

/-- The class of an edge at `t` may still change after `now`: the fire-echo edge of a pulse that may cover it is not decided (R79). -/
def Shot.undecided (s : Shot) (tol t now : Nat) : Bool :=
  match s.tref with
  | none => false
  | some r =>
    !s.refEst && (((s.pulses.zip (s.assign tol)).drop 1).any fun x =>
      let pos := r + 4096 * x.1
      decide (pos ≤ t + tol) && !pulseDecided pos tol now x.2)

/-- Tolerance of fire-echo edges, 1/16 fine units. -/
def Dev.refTol (d : Dev) : Nat := 4096 * d.par P.ember_ref_tol 0

/-- The blanking intervals of the present shot on a slice: every slot that fires opens them on every enabled channel (R79). -/
def Dev.blanksOf (d : Dev) (s : Nat) : List (Nat × Nat) :=
  match d.shot with
  | some x => if x.fires || x.suppressed then x.blanks d.refTol (d.blankU s) else []
  | none => []

/-! ## Classification (R110 to R116) -/

/-- The classes of a dropped edge. -/
inductive EdgeClass where
  | precursor | near | window | ovf | accepted
  deriving DecidableEq, Repr

/-- The class of an edge against a window (R110); `full` says the queue is full. -/
def Window.classify (w : Window) (t : Nat) (blanked full : Bool) : EdgeClass :=
  let dt : Int := (t : Int) - w.tref.getD w.base
  if dt ≤ -16 then .precursor
  else if blanked then .near
  else
    let tt := dt.toNat / 16
    if tt < w.wo * 256 ∨ w.wc * 256 ≤ tt then .window
    else if w.cutoff.isSome || full then .ovf
    else .accepted

/-- The stamp word of an edge (R101, R102). -/
def Window.stamp (w : Window) (e : EdgeRec) : Word :=
  let tt := (e.t - w.tref.getD w.base) / 16
  BitVec.ofNat 32 (tt % 2 ^ 24 + 2 ^ 24 * e.cmp + 2 ^ 26 * b2n e.rise + 2 ^ 27 * b2n e.ovr + 2 ^ 28 * b2n w.refEst
    + 2 ^ 29 * b2n (decide (8000 * 256 ≤ tt)))

/-- Saturating tally of LO rising edges. -/
def loTally (n : Nat) (e : EdgeRec) : Nat := if e.cmp = 0 ∧ e.rise then min 255 (n + 1) else n

/-- An LO rising edge opens a dead interval; the fall after the rise at `rose` ends that interval no earlier than its hold-off
(R119). -/
def Window.noteDead (w : Window) (e : EdgeRec) (hold : Nat) (rose : Option Nat) : Window :=
  if e.cmp ≠ 0 then w
  else if e.rise then { w with dead := w.dead ++ [(e.t, e.t + hold)] }
  else { w with dead := w.dead ++ (rose.map fun r => (r, max e.t (r + hold))).toList }

/-- Count a drop or an accepted stamp in the registers. -/
def Dev.countEdge (d : Dev) (s : Nat) (k : EdgeClass) : Dev :=
  match k with
  | .precursor => d.bump (C.SLICE_EM_PRE s)
  | .near => d.bump (C.SLICE_EM_NEAR s)
  | .window => d.bump (C.SLICE_EM_WIN s)
  | .ovf => d.bump (C.SLICE_EM_OVF s)
  | .accepted => d.bump (C.SLICE_EM_ACC s)

/-- The place of a stamp word among stamps of equal T: rising LO, MID, HI, then falling HI, MID, LO (R103). -/
def stampRank (w : Nat) : Nat := if bitAt w 26 then bits w 24 2 else 5 - bits w 24 2

/-- Put a stamp into a queue given newest first: behind the stamps of its slot that R103 places after it. -/
def insStamp (r : StampRec) : List StampRec → List StampRec
  | [] => [r]
  | x :: xs =>
    let a := r.word.toNat
    let b := x.word.toNat
    if x.slot = r.slot ∧ (bits a 0 24 < bits b 0 24 ∨ (bits a 0 24 = bits b 0 24 ∧ stampRank a < stampRank b)) then x :: insStamp r xs
    else r :: x :: xs

/-- One edge against the channel's window: it is classified once, then counted, and stamped where accepted. A falling edge whose
rising edge was dropped in a blanking interval is dropped with it (R80). -/
def Dev.classifyEdge (d : Dev) (ch : Nat) (w : Window) (e : EdgeRec) : Dev :=
  let s := ch / 8
  let c := d.chan ch
  let x := c.cmp e.cmp
  let blanked := (d.blanksOf s).any fun b => decide (b.1 ≤ e.t ∧ e.t < b.2)
  let full := decide (256 ≤ c.queue.length)
  let k := w.classify e.t (blanked || (!e.rise && x.nearRise)) full
  let c := if e.rise then c.setCmp e.cmp { x with nearRise := k == .near } else c
  let c := if e.cmp = 0 ∧ e.rise then
      { c with loStamp := if k = .accepted then some (w.slot, (e.t - w.tref.getD w.base) / 16) else none }
    else c
  let w := w.noteDead e (d.holdoffU s) c.lo.rise
  let d := d.countEdge s k
  match k with
  | .precursor => d.setChan ch { c with win := some { w with preLo := loTally w.preLo e } }
  | .near => d.setChan ch { c with win := some { w with nearLo := loTally w.nearLo e, nearAny := true } }
  | .window => d.setChan ch { c with win := some { w with winLo := loTally w.winLo e } }
  | .accepted =>
    let q := (insStamp ⟨w.slot, w.stamp e⟩ c.queue.reverse).reverse
    d.setChan ch { c with queue := q, hwm := max c.hwm q.length, win := some { w with accN := min 1023 (w.accN + 1) } }
  | .ovf =>
    let first := w.cutoff.isNone
    let cut := w.cutoff.getD ((e.t - w.tref.getD w.base) / 4096)
    let d := d.setChan ch { c with win := some { w with ovfLo := loTally w.ovfLo e, cutoff := some cut } }
    if first then (d.bump (C.SLICE_EM_OVF_SHOT_CNT s)).sticky (Reg.SLICE_EM_STAT s) (ch % 8) (Ev.emberOvf s) else d

/-- The present slot lights a channel: one of its pixels has a shot there. -/
def Dev.lit (d : Dev) (ch : Nat) : Option Pixel :=
  match d.shot with
  | none => none
  | some x => d.kiln.pixels.find? fun p => p.row == ch && p.shots.any fun y => y.slot == x.slot

/-! ## Windows (R107 to R109, R111, R118) -/

/-- The coercion of a window (R107). -/
def coerceWindow (wmax winMin wo wc : Nat) : Nat × Nat :=
  let c := min wc wmax
  let o := min wo (c - 1)
  if c - o < winMin then
    let mid := (o + c) / 2
    let o := mid - winMin / 2
    let c := min wmax (o + winMin)
    (c - winMin, c)
  else (o, c)

/-- The length of the union of intervals within [lo, hi), given in rising order of their starts; `at_` is the end covered so far. -/
def unionLen (lo hi : Nat) : Nat → List (Nat × Nat) → Nat
  | _, [] => 0
  | at_, (a, b) :: rest =>
    let a' := max (max a lo) at_
    let b' := min b hi
    (b' - a') + unionLen lo hi (max at_ b') rest

/-- Insert an interval by its start. -/
def insInterval (x : Nat × Nat) : List (Nat × Nat) → List (Nat × Nat)
  | [] => [x]
  | y :: ys => if x.1 ≤ y.1 then x :: y :: ys else y :: insInterval x ys

/-- DEAD of a window in coarse periods (R119). -/
def Window.deadLen (w : Window) : Nat :=
  let r := w.tref.getD w.base
  let lo := r + 4096 * w.wo
  let hi := r + 4096 * w.wc
  let cut := match w.cutoff with
    | some c => [(r + 4096 * c, hi)]
    | none => []
  ceilDiv (unionLen lo hi 0 ((w.dead ++ cut).foldl (fun acc x => insInterval x acc) [])) 4096

/-- The summary of a window (R118). -/
def Window.summary (w : Window) (xflush : Bool) : Summary :=
  { slot := w.slot, tag := w.tag, accN := w.accN, preLo := w.preLo, nearLo := w.nearLo, winLo := w.winLo, ovfLo := w.ovfLo,
    idleLo := w.idleLo, idleLen := w.idleLen, dead := w.deadLen, cutoff := w.cutoff.getD 0, live := w.wc - w.wo - w.deadLen,
    ovf := w.cutoff.isSome, refEst := w.refEst, suppressed := w.suppressed, xflush := xflush, coerced := w.coerced,
    nearAny := w.nearAny }

/-- A channel's window closes and its summary is posted (R109, R118); an idle interval begins in a slot that does not light the
channel (R111). -/
def Dev.shutWindow (d : Dev) (ch : Nat) : Dev :=
  let c := d.chan ch
  match c.win with
  | none => d
  | some w =>
    let stop := w.tref.getD w.base + 4096 * w.wc
    let dead := w.dead ++ d.blanksOf (ch / 8)
    let dead := if c.lo.high && !c.lo.skipFall then dead ++ [(c.lo.rise.getD stop, stop)] else dead
    let idle := if (d.lit ch).isNone && !(d.shot.map (·.cal)).getD false then some stop else none
    d.setChan ch { c with win := none, summaries := c.summaries ++ [{ w with dead := dead }.summary c.xflush], xflush := false,
                          idleFrom := idle }

/-! ## The place of an edge (R79, R105, R109, R110) -/

/-- The pre-reference buffer keeps 8 edges; an older one was before the reference and is a precursor (R105), which the shot's
summary tallies too (R118). -/
def Dev.bufferEdge (d : Dev) (ch : Nat) (e : EdgeRec) : Dev :=
  let c := d.chan ch
  match c.pre ++ [e] with
  | old :: rest =>
    if rest.length < 8 then d.setChan ch { c with pre := old :: rest }
    else (d.countEdge (ch / 8) .precursor).setChan ch { c with pre := rest, preLo := loTally c.preLo old }
  | [] => d

/-- An edge of the lit slot after its window's close (R110): NEAR in a blanking interval or after a rising edge that was, else outside
the window of the slot's shot. The shot's summary counts it, wherever the summary stands. -/
def Dev.lateEdge (d : Dev) (ch slot : Nat) (e : EdgeRec) : Dev :=
  let c := d.chan ch
  let x := c.cmp e.cmp
  let near := ((d.blanksOf (ch / 8)).any fun b => decide (b.1 ≤ e.t ∧ e.t < b.2)) || (!e.rise && x.nearRise)
  let c := if e.rise then c.setCmp e.cmp { x with nearRise := near } else c
  let d := d.countEdge (ch / 8) (if near then .near else .window)
  let add (m : Summary) : Summary :=
    if m.slot ≠ slot then m
    else if near then { m with nearLo := loTally m.nearLo e, nearAny := true }
    else { m with winLo := loTally m.winLo e }
  let d := d.setChan ch { c with summaries := c.summaries.map add }
  { d with kiln := { d.kiln with pixels := d.kiln.pixels.map fun p =>
      if p.row = ch then { p with shots := p.shots.map fun x => { x with summary := x.summary.map add } } else p } }

/-- An LO rising edge of an idle interval (R111). -/
def Dev.idleEdge (d : Dev) (ch : Nat) (e : EdgeRec) : Dev :=
  if e.cmp = 0 ∧ e.rise ∧ ((d.shot.map (·.cal)).getD false) = false then
    d.setChan ch { d.chan ch with idleLo := (d.chan ch).idleLo + 1 }
  else d

/-- The channel's open window is that of an earlier shot than the present slot's. -/
def Dev.earlierWin (d : Dev) (w : Window) : Bool :=
  match d.shot with
  | some x => w.slot != x.slot
  | none => true

/-- An edge whose class no later event changes finds its shot (R110). -/
def Dev.placeNow (d : Dev) (ch : Nat) (e : EdgeRec) : Dev :=
  let c := d.chan ch
  match c.win with
  | some w =>
    if decide (e.t < w.tref.getD w.base + 4096 * w.wc) || !d.earlierWin w then d.classifyEdge ch w e
    else if (d.lit ch).isSome then d.bufferEdge ch e
    else d.idleEdge ch e
  | none =>
    match d.lit ch, d.shot with
    | some _, some x =>
      if x.tref.isNone then d.bufferEdge ch e
      else d.lateEdge ch x.slot e
    | _, _ => if c.idleFrom.isSome then d.idleEdge ch e else d

/-- Nominal reference B + D (R104, R106). -/
def Dev.nominalRef (d : Dev) (x : Shot) : Nat := x.base + 10240 * d.par P.ember_ref_delay_ns 0

/-- The class of an edge may still change after `now`: a blanking interval is not decided (R79), or the edge lies between B + D and a
reference not yet fixed, which decides whether an earlier window has ended before it (R109). -/
def Dev.edgeOpen (d : Dev) (ch : Nat) (e : EdgeRec) (now : Nat) : Bool :=
  match d.shot, (d.chan ch).win with
  | some x, some w =>
    if x.tref.isNone then
      d.earlierWin w && (d.lit ch).isSome && decide (d.nominalRef x ≤ e.t ∧ e.t < w.tref.getD w.base + 4096 * w.wc)
    else x.fires && decide (d.blankU (ch / 8) ≠ 0) && x.undecided d.refTol e.t now
  | _, _ => false

/-- The first edges of a list whose class is settled by `now`, and the rest. -/
def Dev.settledBy (d : Dev) (ch now : Nat) : List EdgeRec → List EdgeRec × List EdgeRec
  | [] => ([], [])
  | e :: es =>
    if d.edgeOpen ch e now then ([], e :: es)
    else
      let r := d.settledBy ch now es
      (e :: r.1, r.2)

/-- The edges that wait find their shots, up to the first whose class is still open at `now`. -/
def Dev.settleWait (d : Dev) (ch now : Nat) : Dev :=
  let c := d.chan ch
  let r := d.settledBy ch now c.wait
  r.1.foldl (fun (d : Dev) e => d.placeNow ch e) (d.setChan ch { c with wait := r.2 })

/-- Every edge that waits finds its shot. -/
def Dev.drainWait (d : Dev) (ch : Nat) : Dev :=
  let c := d.chan ch
  if c.wait.isEmpty then d else c.wait.foldl (fun (d : Dev) e => d.placeNow ch e) (d.setChan ch { c with wait := [] })

/-- An edge finds its shot (R110), or waits behind one that waits, or for a fire-echo edge that may still come. -/
def Dev.placeEdge (d : Dev) (ch : Nat) (e : EdgeRec) : Dev :=
  let d := if (d.chan ch).wait.isEmpty then d else d.settleWait ch e.t
  let c := d.chan ch
  if !c.wait.isEmpty || d.edgeOpen ch e e.t then d.setChan ch { c with wait := c.wait ++ [e] } else d.placeNow ch e

/-- A channel's window closes with the edges that waited in it. -/
def Dev.closeWindow (d : Dev) (ch : Nat) : Dev := (d.drainWait ch).shutWindow ch

/-- `WINDOW_CLOSE` (R118). -/
def execWindowClose (slice : Fin 64) (ch : Fin 8) (s : State) : Host.Outcome State Fault Refusal :=
  .next (s.onDev fun _ d => d.closeWindow (8 * slice.val + ch.val))

/-- At the reference an earlier window of the channel closes with the edges before it (R109); those from it on are handed back. -/
def Dev.endEarlier (d : Dev) (ch tref : Nat) : Dev × List EdgeRec :=
  let c := d.chan ch
  let r := c.wait.partition fun e => decide (e.t < tref)
  ((r.1.foldl (fun (d : Dev) e => d.placeNow ch e) (d.setChan ch { c with wait := [] })).shutWindow ch, r.2)

/-- The shot reference is fixed: an earlier window of each lit channel closes, the shot's window opens, and the edges buffered
for 3.2 ns are classified against it (R104, R105, R107). IDLE_LEN is rounded down (DESIGN CHOICE, log entry 157). -/
def Dev.openWindow (d : Dev) (ch : Nat) (p : Pixel) (x : Shot) (tref : Nat) : Dev :=
  let r := d.endEarlier ch tref
  let d := r.1
  let s := ch / 8
  let c := d.chan ch
  let win := coerceWindow (if p.twoSlot then 16000 else 8000) (d.par P.ember_win_min 0) p.wo p.wc
  let coerced := win != (p.wo, p.wc)
  let d := if coerced then (d.bump (C.SLICE_EM_WCOERCE_CNT s)).mark (Reg.SLICE_EM_STAT s) 9 else d
  let first := p.slot0 == x.slot
  let carry := match c.lo.rise with
    | some r => if c.lo.high || decide (tref < r + d.holdoffU s) then [(r, r + d.holdoffU s)] else []
    | none => []
  let w : Window := { tag := x.slot % 4, slot := x.slot, base := x.base, tref := some tref, wo := win.1, wc := win.2,
                      idleLo := if first then 0 else min 65535 c.idleLo, idleLen := if first then 0 else min 65535 (c.idleSum / 4096),
                      refEst := x.refEst, suppressed := x.suppressed, coerced := coerced, dead := carry, preLo := c.preLo }
  let d := d.setChan ch { c with win := some w, pre := [], preLo := 0, idleLo := 0, idleSum := 0, idleFrom := none }
  let d := c.pre.foldl (fun (d : Dev) e =>
    match (d.chan ch).win with
    | some w => if 32768 + e.t < tref then (d.countEdge s .precursor).setChan ch { d.chan ch with win := some { w with preLo := loTally w.preLo e } }
        else d.classifyEdge ch w e
    | none => d) d
  r.2.foldl (fun (d : Dev) e => d.placeEdge ch e) d

/-- A window of the present shot whose reference was open takes it (R104, R231, R238). -/
def TapWin.fixRef (w : TapWin) (slot : Nat) (ref : Nat) (est : Bool) : TapWin :=
  if w.fixed || w.ladle.shotSlot != slot then w else { w with ref := ref, refEst := est, fixed := true }

/-- The windows opened before the reference of the present shot was fixed take it. -/
def Dev.fixWindows (d : Dev) (slot ref : Nat) (est : Bool) : Dev :=
  let f (w : TapWin) : TapWin := w.fixRef slot ref est
  { d with taps := { d.taps with taps := d.taps.taps.map fun e => (e.1, { e.2 with capture := e.2.capture.map f }),
                                 queue := d.taps.queue.map f, recent := d.taps.recent.map f } }

/-- The reference of the present shot is fixed at a time. -/
def Dev.fixReference (d : Dev) (tref : Nat) (est : Bool) : Dev :=
  match d.shot with
  | none => d
  | some x =>
    let x := { x with tref := some tref, refEst := est }
    let d := Dev.fixWindows { d with shot := some x } x.slot ((tref - x.base) / 16) est
    let lit := d.kiln.pixels.filter fun p => (p.shots.any fun y => y.slot == x.slot) && !d.offline (p.row / 8)
    let d := lit.foldl (fun (d : Dev) p => d.openWindow p.row p x tref) d
    if est then
      ((List.range 64).filter fun s => lit.any fun p => p.row / 8 == s).foldl
        (fun (d : Dev) s => (d.bump (C.SLICE_EM_NOMREF_CNT s)).mark (Reg.SLICE_EM_STAT s) 8) d
    else d

/-- No fire-echo edge has fixed the reference: the shot uses the nominal one (R104). It is an estimate where emission was expected or
the shot was suppressed (R106); a shot whose codes are all zero expects none. -/
def Dev.refTimeout (d : Dev) : Dev :=
  match d.shot with
  | some x => if x.tref.isNone then d.fixReference (d.nominalRef x) (x.fires || x.suppressed) else d
  | none => d

/-- `REFERENCE_TIMEOUT` (R104, R106). -/
def execReferenceTimeout (s : State) : Host.Outcome State Fault Refusal := .next (s.onDev fun _ d => d.refTimeout)

/-! ## Comparator edges (R66, R68, R76, R110) -/

/-- Mark the edge of a list of edges that is the LO rise at `t`. -/
def markEdge (t : Nat) (l : List EdgeRec) : List EdgeRec := l.map fun e => if e.cmp = 0 ∧ e.rise ∧ e.t = t then { e with ovr := true } else e

/-- Mark the LO rising stamp of a slot at T. -/
def markStamp (x : Nat × Nat) (q : List StampRec) : List StampRec :=
  q.map fun r => if r.slot = x.1 ∧ bits r.word.toNat 0 24 = x.2 ∧ bits r.word.toNat 24 3 = 4 then { r with word := withField r.word 27 1 1 } else r

/-- Mark the LO rising edge of the pulse in progress, wherever it stands: among the edges that wait, in the queue, or in the pulse that
the Kiln forms (R66). -/
def ChanSt.markPulse (c : ChanSt) : ChanSt :=
  let t := c.lo.rise.getD 0
  let c := { c with pre := markEdge t c.pre, wait := markEdge t c.wait, ovrSaid := true }
  match c.loStamp with
  | none => c
  | some x => { c with queue := markStamp x c.queue,
                       openPulse := c.openPulse.map fun p => if p.slot = x.1 ∧ p.tLo = x.2 then { p with ovr := true } else p }

/-- V_t is beyond +600 mV: the LO rising edge of the pulse in progress is marked and counted once, or the next one (R66). -/
def Dev.pulseOver (d : Dev) (ch : Nat) : Dev :=
  let c := d.chan ch
  if !c.lo.high then d.setChan ch { c with ovrNext := true }
  else if c.lo.skipFall || c.ovrSaid then d
  else (d.bump (C.SLICE_OVR_CNT (ch / 8))).setChan ch c.markPulse

/-- V_t returns inside full scale at coarse period `back`: edges are marked for 3 ns from there (R61, R66). -/
def Dev.recoverFrom (d : Dev) (ch t : Nat) (back : Option Nat) : Dev :=
  match back with
  | none => d
  | some k =>
    let b := 4096 * (d.time.slotStart + k)
    let c := d.chan ch
    d.setChan ch { c with recovery := (c.recovery.filter fun r => decide (t < r.2)) ++ [(b, 30720 + b)] }

/-- An edge at `t` falls within a recovery time, of the clamp or of an over-range input (R66, R68). -/
def ChanSt.recovering (c : ChanSt) (t : Nat) : Bool := decide (t < c.clampMark) || c.recovery.any fun r => decide (r.1 ≤ t ∧ t < r.2)

/-- The over-range mark of an edge: its recovery time, and for an LO rise the pulse it opens (R66). A marked LO rise is counted. -/
def Dev.ovrEdge (d : Dev) (ch cmp t : Nat) (rise above : Bool) : Dev × Bool :=
  let c := d.chan ch
  if cmp = 0 ∧ rise then
    let m := above || c.ovrNext || c.recovering t
    let d := d.setChan ch { c with ovrNext := false, ovrSaid := m }
    (if m then d.bump (C.SLICE_OVR_CNT (ch / 8)) else d, m)
  else (if above then d.pulseOver ch else d, c.recovering t)

/-- A slice whose Kiln side is still held in reset, while its domain switches on: the stamp is refused, dropped and counted, and the
next summaries say so (R18, R117). -/
def Dev.refuseStamp (d : Dev) (s : Nat) : Dev :=
  if d.pwr.switchQ.head? = some s then
    let d := (List.range 8).foldl (fun (d : Dev) c => d.setChan (8 * s + c) { d.chan (8 * s + c) with xflush := true }) d
    (d.bump (C.SLICE_EM_XDROP_CNT s)).mark (Reg.SLICE_EM_STAT s) 10
  else d

/-- An edge in being: it counts for calibration (R100), it is marked, and it finds its shot. FALL_EN 0 leaves falls out (R73). -/
def Dev.edge (d : Dev) (ch cmp t : Nat) (rise : Bool) (bin : Nat) (spare : Option (Fin 80)) (above : Bool) : Dev :=
  let c := d.chan ch
  if !rise && !bitAt (d.chCfg ch).toNat 6 then
    d.setChan ch { c with win := c.win.map fun w => w.noteDead ⟨cmp, rise, false, t⟩ (d.holdoffU (ch / 8)) c.lo.rise }
  else
    let r := (d.accumulate ch bin spare).ovrEdge ch cmp t rise above
    r.1.placeEdge ch ⟨cmp, rise, r.2, t⟩

/-- A physical crossing of one comparator: settings, hold-off, and the edge it makes. A slice that an apply holds offline makes none,
but its hold-off runs (R77, R100). -/
def Dev.crossing (d : Dev) (ch cmp : Nat) (rise : Bool) (coarse bin : Nat) (spare : Option (Fin 80)) (above : Option Nat) : Dev :=
  let s := ch / 8
  let cfg := (d.chCfg ch).toNat
  if !bitAt cfg 0 || !d.locked || !bitAt cfg (3 + cmp) then d
  else if !d.domOn s then d.refuseStamp s
  else
    let t := d.edgeTime ch coarse bin
    let d := d.recoverFrom ch t above
    let c := d.chan ch
    let x := (c.cmp cmp).cross (d.holdoffU s) t rise
    let d := d.setChan ch (c.setCmp cmp x.1)
    if !x.2 || d.offline s then d else d.edge ch cmp t rise bin spare above.isSome

/-- `COMPARATOR_EDGE` (R110). -/
def execComparatorEdge (slice : Fin 64) (ch : Fin 8) (cmp : Fin 3) (rise : Bool) (coarse : Nat) (bin : Fin 64)
    (spare : Option (Fin 80)) (above : Option Nat) (s : State) : Host.Outcome State Fault Refusal :=
  .next (s.onDev fun _ d => d.crossing (8 * slice.val + ch.val) cmp.val rise coarse bin.val spare above)

/-- |V_in| exceeds the clamp level at a coarse period and is back inside full scale at another: the sticky flag, the count of the
excursion, and the marking until 10 ns after the return (R67, R68). A pulse in progress is a positive excursion, which R66 marks. -/
def Dev.clamp (d : Dev) (ch coarse back : Nat) : Dev :=
  let s := ch / 8
  let t := 4096 * (d.time.slotStart + coarse)
  let b := 4096 * (d.time.slotStart + max coarse back)
  let c := d.chan ch
  if t < c.clampBack then d.setChan ch { c with clampBack := max c.clampBack b, clampMark := max c.clampMark (102400 + b) }
  else
    let d := d.setChan ch { c with clampBack := b, clampMark := 102400 + b }
    let d := if c.lo.high && d.chanOn ch then d.pulseOver ch else d
    (d.bump (C.SLICE_CLAMP_CNT s)).sticky (Reg.SLICE_CLAMP_STAT s) (ch % 8) (Ev.sliceClamp s)

/-- `CLAMP_EXCURSION` (R68). -/
def execClampExcursion (slice : Fin 64) (ch : Fin 8) (coarse back : Nat) (s : State) : Host.Outcome State Fault Refusal :=
  .next (s.onDev fun _ d => if d.domOn slice.val then d.clamp (8 * slice.val + ch.val) coarse back else d)

/-! ## The slot boundary, timing side -/

/-- At a slot boundary every fire-echo edge of the slot has come: edges that waited find their shots; each channel's idle stretch ends,
and an open window takes over the old shot's blanking (R111, R119). -/
def Dev.chansAtBoundary (d : Dev) (base : Nat) : Dev :=
  let d := d.chans.foldl (fun (d : Dev) e => d.drainWait e.1) d
  { d with chans := (d.chans.map fun e =>
      let c := e.2
      let sum := match c.idleFrom with
        | some t => c.idleSum + (base - t)
        | none => c.idleSum
      (e.1, { c with idleSum := sum, idleFrom := none, pre := [], preLo := 0,
                     win := c.win.map fun w => { w with dead := w.dead ++ d.blanksOf (e.1 / 8) } })).filter fun e => e.2 != {} }

/-- After the new slot's shot is known: channels in a dwell that it does not light start an idle stretch (R111); a dwell that
starts here starts an empty one. -/
def Dev.idleAtBoundary (d : Dev) (base : Nat) (calShot : Bool) : Dev :=
  d.kiln.pixels.foldl (fun (d : Dev) p =>
    if p.ended then d
    else
      let c := d.chan p.row
      if p.slot0 = d.slotNo then d.setChan p.row { c with idleLo := 0, idleSum := 0, idleFrom := none }
      else if (d.lit p.row).isNone && c.win.isNone && !calShot then d.setChan p.row { c with idleFrom := some base }
      else d) d

/-- The stamps that the queues of a slice hold. -/
def Dev.queued (d : Dev) (s : Nat) : Nat := (List.range 8).foldl (fun a c => a + (d.chan (8 * s + c)).queue.length) 0

/-- The Kiln side of a slice is reset: its crossings are flushed and resynchronised (R117). -/
def Dev.flushCrossing (d : Dev) (s : Nat) : Dev :=
  let n := d.queued s
  let d := (List.range 8).foldl (fun (d : Dev) c =>
    let x := d.chan (8 * s + c)
    d.setChan (8 * s + c) { x with queue := [], xflush := true, openPulse := none }) d
  let d := (List.range 8).foldl (fun (d : Dev) c =>
    let t := d.tdc (8 * s + c)
    d.setTdc (8 * s + c) { t with block := { t.block with spoiled := true } }) d
  (d.bumpBy (C.SLICE_EM_XDROP_CNT s) n).mark (Reg.SLICE_EM_STAT s) 10

end Sys2Proof.Machine
end

