-- ==== Sys2Proof/Machine/Burnish.lean ====
section
/-! DEFINITION. Burnish (chapter 05): accumulation blocks, cell selection, bin tables, comparator trims, applies, range zero and
the calibration commands that start them. -/

namespace Sys2Proof.Machine

/-! ## Blocks (R129 to R131) -/

/-- A count of a sparse tally. -/
def tallyOf (m : Sparse Nat) (k : Nat) : Nat := sget (fun _ => 0) k m

/-- The temperature of a region once a housekeeping round has read it. -/
def Dev.knownTemp (d : Dev) (r : Nat) : Option Int := if (d.sensor r).read then some (d.regionTemp r) else none

/-- A new block starts, with the region's present temperature. -/
def Dev.newBlock (d : Dev) (t : Nat) : Dev :=
  d.setTdc t { d.tdc t with block := { start := d.time.ticks, temp0 := d.knownTemp (tdcRegion t) } }

/-- A block is discarded and restarts; slices count it (R130). -/
def Dev.discardBlock (d : Dev) (t : Nat) : Dev :=
  let d := if t < 512 then d.bump (C.SLICE_BUR_DISCARD_CNT (t / 8)) else d
  d.newBlock t

/-- The spike test (R130): a bin above the mean of its two neighbours by the percentage and by 8 × √(N/64). -/
def spiked (pct : Nat) (b : BurBlock) : Bool :=
  (List.range 62).any fun i =>
    let n := tallyOf b.bins (i + 1)
    let m := tallyOf b.bins i + tallyOf b.bins (i + 2)
    decide (m * (100 + pct) < 200 * n ∧ m < 2 * n ∧ 4 * b.total < (2 * n - m) * (2 * n - m))

/-- A temperature difference in 1/16 °C exceeds a limit in 1/256 °C. -/
def tempOver (a b : Int) (limit : Nat) : Bool := decide (limit < 16 * absI (a - b))

/-- Free counts of `n` counters from `k` on that share `left` edges; the last takes the rest where `all` is set. The edges of the RC
oscillator reach no row of the table (DESIGN CHOICE, log entry 11). -/
def Dev.drawCounts (d : Dev) (all : Bool) : Nat → Nat → Nat → Dev × Sparse Nat
  | 0, _, _ => (d, [])
  | n + 1, k, left =>
    let v := if all && n == 0 then left else d.free 23 % (left + 1)
    let (d, m) := d.freeNext.drawCounts all n (k + 1) (left - v)
    (d, if v = 0 then m else (k, v) :: m)

/-- The block of a reference TDC as its oscillator filled it: `burnish.min_events` edges, each in one bin and at most one spare window
(R129, R144). -/
def Dev.refBlock (d : Dev) (t : Nat) : Dev :=
  if t < 512 then d
  else
    let n := d.par P.burnish_min_events 0
    let (d, bins) := d.drawCounts true 64 0 n
    let (d, spare) := d.drawCounts false 80 0 n
    d.setTdc t { d.tdc t with block := { (d.tdc t).block with bins := bins, spare := spare, total := n } }

/-- The present slot is a turnaround slot of a swept frame, with `n` slots left before its calibration shots (R307). -/
def Dev.turnRoom (d : Dev) (n : Nat) : Bool :=
  let i := (d.reg Reg.TIME_SLOT_IN_FRAME).toNat
  decide (d.scan.frameSlots - d.scan.turnSlots ≤ i ∧ i + n + d.par P.scan_cal_slots 0 ≤ d.scan.frameSlots)

/-- The reference TDCs are calibrated in the present slot, with `n` slots to go: they are enabled (R155), and it is a turnaround slot
that carries no calibration shot (R144, R307). -/
def Dev.refTime (d : Dev) (n : Nat) : Bool :=
  d.flag F.KILN_BUR_CTL_REF_EN && d.scanState == stRunning && d.turnRoom n && !((d.shot.map (·.cal)).getD false)

/-- The region's temperature has moved since a block began by more than `burnish.temp_spread` (R130). -/
def Dev.blockMoved (d : Dev) (t : Nat) (b : BurBlock) : Bool :=
  match b.temp0 with
  | some x => tempOver (d.regionTemp (tdcRegion t)) x (d.par P.burnish_temp_spread 0)
  | none => false

/-- A block reaches `burnish.min_events`: it is frozen as the result, or discarded (R129, R130). -/
def Dev.blockEnd (d : Dev) (t : Nat) : Dev :=
  if 512 ≤ t && !d.refTime 1 then d
  else
  let d := d.refBlock t
  let x := d.tdc t
  let b := x.block
  if b.total < d.par P.burnish_min_events 0 then d
  else
    if b.spoiled || d.blockMoved t b || spiked (d.par P.burnish_spike_pct 0) b then d.discardBlock t
    else
      let mean := if b.tempCnt = 0 then d.regionTemp (tdcRegion t) else roundDiv b.tempSum b.tempCnt
      (d.setTdc t { x with result := some ⟨b.bins, b.spare, b.total, d.time.ticks, mean⟩ }).newBlock t

/-- `BURNISH_BLOCK_END` (R129). -/
def execBurnishBlockEnd (tdc : Fin 514) (s : State) : Host.Outcome State Fault Refusal :=
  .next (s.onDev fun _ d => d.blockEnd tdc.val)

/-- `BURNISH_BLOCK_TIMEOUT` (R130). -/
def execBurnishBlockTimeout (tdc : Fin 514) (s : State) : Host.Outcome State Fault Refusal :=
  .next (s.onDev fun _ d => d.discardBlock tdc.val)

/-! ## Slices -/

/-- The apply state of a slice, or of a reference TDC at 64 and 65. -/
def Dev.burSlice (d : Dev) (u : Nat) : BurSlice := sget (fun _ => {}) u d.bur.slices

/-- Set the apply state of a unit. -/
def Dev.setBurSlice (d : Dev) (u : Nat) (x : BurSlice) : Dev :=
  { d with bur := { d.bur with slices := sset (fun _ => ({} : BurSlice)) u x d.bur.slices } }

/-- The region temperature of a unit. -/
def Dev.unitTemp (d : Dev) (u : Nat) : Int := d.regionTemp (if u < 64 then u / 8 else 8)

/-- The TDCs that take part in an apply of a unit: those of the enabled channels (R131), or the reference TDC. -/
def Dev.unitTdcs (d : Dev) (u : Nat) : List Nat :=
  if u < 64 then ((List.range 8).map (8 * u + ·)).filter fun ch => bitAt (d.chCfg ch).toNat 0 else [448 + u]

/-- The result of a TDC is valid for an apply (R131). -/
def Dev.resultValid (d : Dev) (u t : Nat) : Bool :=
  match (d.tdc t).result with
  | some r => decide ((d.burSlice u).lastApply < r.ended) && !tempOver r.temp (d.unitTemp u) (d.par P.burnish_temp_spread 0)
  | none => false

/-- Every enabled TDC of the unit holds a valid result (R139). -/
def Dev.unitReady (d : Dev) (u : Nat) : Bool := (d.unitTdcs u).all (d.resultValid u)

/-! ## Selection, bin table, trims (R132 to R136) -/

/-- The cells of a selection in line order. -/
def selCells (sel : Nat) : List Nat := (List.range 80).filter (bitAt sel)

/-- The hits and the total that give a cell its width, 400 ps × hits / total: those of the block that measured it last, else of the nominal
bin (DESIGN CHOICE, log entry 6). -/
def cellHits (m : Sparse (Nat × Nat)) (c : Nat) : Nat × Nat := sget (fun _ => (1, 64)) c m

/-- The widths of the 80 cells as parts of 400 ps, exact: how many parts make 400 ps, and how many each cell has (R132). -/
structure Widths where
  den : Nat
  num : List Nat
  deriving DecidableEq, Repr

/-- The widths of the cells over their least common denominator. -/
def evenWidths (m : Sparse (Nat × Nat)) : Widths :=
  let l := (List.range 80).map (cellHits m)
  let n := l.foldl (fun a x => Nat.lcm a x.2) 64
  { den := n, num := l.map fun x => x.1 * (n / x.2) }

/-- The width of a cell. -/
def Widths.at (w : Widths) (c : Nat) : Nat := w.num.getD c 0

/-- Hits in the bins before bin `j`. -/
def hitsBefore (r : BurResult) (j : Nat) : Nat := (List.range j).foldl (fun a i => a + tallyOf r.bins i) 0

/-- What a block measures of the cells, over the last measurements (R128, R132): of a selected cell that does not straddle 400 ps, the last
that edges reached, and of a bypassed cell whose input node lies below 400 ps. -/
def measure (sel : Nat) (old : Sparse (Nat × Nat)) (r : BurResult) : Sparse (Nat × Nat) :=
  let cells := selCells sel
  let put (m : Sparse (Nat × Nat)) (c n : Nat) : Sparse (Nat × Nat) := sset (fun _ => (1, 64)) c (n, max 1 r.total) m
  let m := (cells.mapIdx fun j c => (j, c)).foldl (fun m x =>
    let n := tallyOf r.bins x.1
    if r.total ≤ hitsBefore r x.1 + n then m else put m x.2 n) old
  ((List.range 80).filter fun c => !bitAt sel c).foldl (fun m c =>
    if r.total ≤ hitsBefore r (cells.filter (· < c)).length then m else put m c (tallyOf r.spare c)) m

/-- The bin table of a block (R132). -/
def blockTable (r : BurResult) : Nat :=
  leNat ((List.range 64).flatMap fun j =>
    let c := hitsBefore r j
    let p := if r.total ≤ c then 4095 else min 4095 ((4096 * (2 * c + tallyOf r.bins j) + r.total) / (2 * r.total))
    leBytes 2 p)

/-- The bin table of a selection from the widths of its cells (R133). -/
def widthTable (sel : Nat) (w : Widths) : Nat :=
  leNat (((selCells sel).foldl (fun (acc : Nat × List Byte) c =>
    let n := w.at c
    let p := if w.den ≤ acc.1 then 4095 else min 4095 ((4096 * (2 * acc.1 + n) + w.den) / (2 * w.den))
    (acc.1 + n, acc.2 ++ leBytes 2 p)) (0, [])).2)

/-- Deviation of a width from the nominal bin, as a part of the nominal bin over `den`. -/
def Widths.dev (w : Widths) (c : Nat) : Nat := absI ((64 * w.at c : Nat) - (w.den : Int))

/-- Insert a cell by its deviation, after equal ones. -/
def insCell (w : Widths) (c : Nat) : List Nat → List Nat
  | [] => [c]
  | x :: xs => if w.dev c < w.dev x then c :: x :: xs else x :: insCell w c xs

/-- The length of a selection. -/
def selSum (w : Widths) (sel : List Nat) : Nat := sel.foldl (fun a c => a + w.at c) 0

/-- A selection covers a length in 1/256 ps. -/
def covers (w : Widths) (cov : Nat) (sel : List Nat) : Bool := decide (cov * w.den ≤ 102400 * selSum w sel)

/-- The narrowest of cells, lowest number first. -/
def narrowest (w : Widths) (l : List Nat) : Option Nat :=
  l.foldl (fun acc c => match acc with
    | some b => if w.at c < w.at b then some c else acc
    | none => some c) none

/-- The widest of cells, lowest number first. -/
def widest (w : Widths) (l : List Nat) : Option Nat :=
  l.foldl (fun acc c => match acc with
    | some b => if w.at b < w.at c then some c else acc
    | none => some c) none

/-- The swaps of R133 until the selection covers; the number bounds them. -/
def coverSwaps (w : Widths) (cov : Nat) : Nat → List Nat → List Nat
  | 0, sel => sel
  | n + 1, sel =>
    if covers w cov sel then sel
    else
      match narrowest w sel, widest w ((List.range 80).filter fun c => !sel.contains c) with
      | some a, some b => if w.at a < w.at b then coverSwaps w cov n (b :: sel.erase a) else sel
      | _, _ => sel

/-- A mask of cells. -/
def cellMask (l : List Nat) : Nat := l.foldl (fun a c => a + 2 ^ c) 0

/-- The candidate selection (R133). -/
def candidate (w : Widths) (cov : Nat) : Nat :=
  cellMask (coverSwaps w cov 80 (((List.range 80).foldl (fun acc c => insCell w c acc) []).take 64))

/-- dnl of a selection, over `den`: the greatest deviation among its cells that start below 400 ps (R133). -/
def dnl (w : Widths) (sel : Nat) : Nat :=
  ((selCells sel).foldl (fun (acc : Nat × Nat) c =>
    (acc.1 + w.at c, if acc.1 < w.den then max acc.2 (w.dev c) else acc.2)) (0, 0)).2

/-- What an apply of one TDC comes to. -/
structure NewSet where
  set : BurSet
  widths : Sparse (Nat × Nat)
  /-- dnl of the selection that comes into force, in 1/256 rounded down (DESIGN CHOICE, log entry 159) -/
  dnl : Nat
  /-- the candidate failed coverage (R134), a trim was clamped (R136) -/
  coverage : Bool
  trimLimit : Bool
  deriving DecidableEq, Repr

/-- The trim pairs of a comparator. -/
def Dev.trimAcc (d : Dev) (ch cmp : Nat) : TrimAcc := sget (fun _ => {}) (3 * ch + cmp) d.bur.trims

/-- The new trim of a comparator before its clamp (R136). -/
def Dev.trimNew (d : Dev) (ch cmp : Nat) : Int :=
  let m := sgn 6 (bits (d.par P.cal_cmp_trim ch) (8 * cmp) 6)
  let x := d.trimAcc ch cmp
  if d.flag F.KILN_BUR_CTL_TRIM_EN && decide (d.par P.burnish_trim_min_pairs 0 ≤ x.cnt) then m + roundDiv x.sum (64 * x.cnt) else m

/-- The candidate replaces the selection in force (R133): it covers, and the other does not or is worse by the hysteresis. -/
def adopts (w : Widths) (cov hyst cand sel : Nat) : Bool :=
  covers w cov (selCells cand) && (!covers w cov (selCells sel) || decide (256 * dnl w cand + hyst * w.den ≤ 256 * dnl w sel))

/-- The set that an apply loads for a TDC (R132 to R136). -/
def Dev.newSet (d : Dev) (t : Nat) : NewSet :=
  let sel := d.par P.cal_cell_sel t
  let r := (d.tdc t).result.getD ⟨[], [], 1, 0, 0⟩
  let m := measure sel (d.tdc t).widths r
  let w := evenWidths m
  let cov := d.par P.burnish_coverage_ps 0
  let cand := candidate w cov
  let on := d.flag F.KILN_BUR_CTL_SEL_EN
  let swap := on && adopts w cov (d.par P.burnish_sel_hyst 0) cand sel
  let new := if swap then cand else sel
  let trims := (List.range 3).map fun c => if t < 512 then d.trimNew t c else 0
  let trim := (trims.mapIdx fun c m => unsgn 6 (clampI (-32) 31 m) * 2 ^ (8 * c)).foldl (· + ·) 0
  { set := { tdc := t, cellSel := new, binTable := if swap then widthTable cand w else blockTable r, cmpTrim := trim },
    widths := m, dnl := min 255 (256 * dnl w new / w.den), coverage := on && !covers w cov (selCells cand),
    trimLimit := trims.any fun m => decide (m < -32 ∨ 31 < m) }

/-- The set in force for a TDC. -/
def Dev.curSet (d : Dev) (t : Nat) : BurSet :=
  { tdc := t, cellSel := d.par P.cal_cell_sel t, binTable := d.par P.cal_bin_table t,
    cmpTrim := if t < 512 then d.par P.cal_cmp_trim t else 0 }

/-- `SLICE_CH_CMP_TRIM` takes the live trims of a channel. -/
def Dev.showTrims (d : Dev) (ch : Nat) : Dev :=
  d.put (Reg.SLICE_CH_CMP_TRIM (ch / 8) (ch % 8)) (BitVec.ofNat 32 (d.par P.cal_cmp_trim ch))

/-- Load a set for a TDC: the live values, and the trims of a channel in their register. -/
def Dev.loadSet (d : Dev) (x : BurSet) : Dev :=
  let d := (d.setPar P.cal_cell_sel x.tdc x.cellSel).setPar P.cal_bin_table x.tdc x.binTable
  if x.tdc < 512 then (d.setPar P.cal_cmp_trim x.tdc x.cmpTrim).showTrims x.tdc else d

/-! ## Applies (R139 to R144) -/

/-- A slice becomes pending for a reason (R137, R138, R154). -/
def Dev.burPending (d : Dev) (u reason : Nat) : Dev :=
  let d := d.setBurSlice u { d.burSlice u with pending := true }
  if u < 64 then (d.setFlag (F.SLICE_BUR_STAT_PENDING u) true).setFld (F.SLICE_BUR_STAT_REASON u) reason else d

/-- T_last of a unit: the temperature recorded at its last apply, restored or imported, or none (R147, R149). -/
def Dev.lastTemp (d : Dev) (u : Nat) : Option Int := (slook (pkey P.cal_bur_t u) d.cfg.live).map fun v => sgn 16 v

/-- |T_s − T_last| of a unit; a unit without a last temperature counts as furthest. -/
def Dev.burDelta (d : Dev) (u : Nat) : Nat :=
  match d.lastTemp u with
  | some t => absI (d.unitTemp u - t)
  | none => 65536

/-- The request that brings the previous sets of a slice back (R143). -/
def Dev.reverting (d : Dev) (u : Nat) : Option BurRequest := d.bur.requests.find? fun r => r.failed.isSome && r.waiting.contains u

/-- The pending slices that can be applied now, the furthest in temperature first (R139); previous sets that are brought back need no
block. -/
def Dev.burNext (d : Dev) : Option Nat :=
  ((List.range 64).filter fun u => (d.burSlice u).pending && ((d.reverting u).isSome || d.unitReady u) && d.domOn u).foldl (fun acc u =>
    match acc with
    | some b => if d.burDelta b < d.burDelta u then some u else acc
    | none => some u) none

/-- No window of a slice is open (R140). -/
def Dev.sliceQuiet (d : Dev) (s : Nat) : Bool := (List.range 8).all fun c => (d.chan (8 * s + c)).win.isNone

/-- Slots 0 to 47 of the turnaround are reserved for a function-A test, and the present slot is one of them (R307). -/
def Dev.testReserved (d : Dev) : Bool :=
  d.flag F.SCN_STAT_TEST_A && decide ((d.reg Reg.TIME_SLOT_IN_FRAME).toNat < d.scan.frameSlots - d.scan.turnSlots + 48)

/-- No function-A test runs, and the readback of its switches has confirmed them (R29). -/
def Dev.testClear (d : Dev) : Bool := (d.safe.switches.take 2).all fun x => !x.testing && x.gate == x.fb

/-- An apply may begin at the present boundary (R142, R307): outside scanning; in a turnaround with room for it, past a test's
reservation, with no overlay waiting (R23); in the sweep when urgent. It never overlaps a test pulse (R29). -/
def Dev.applyPlace (d : Dev) (u : Nat) : Bool :=
  d.testClear &&
    (if d.scanState ≠ stRunning then true
     else if d.turnRoom 0 then d.turnRoom 13 && !d.testReserved && !d.flag F.GLB_CFG_STAT_PENDING
     else decide ((d.reg Reg.TIME_SLOT_IN_FRAME).toNat < d.scan.frameSlots - d.scan.turnSlots) && d.flag (F.SLICE_BUR_STAT_URGENT u))

/-- The present slot lights no channel of a slice. -/
def Dev.sliceDark (d : Dev) (s : Nat) : Bool := (List.range 8).all fun c => (d.lit (8 * s + c)).isNone

/-- A slice's rows are withheld from the slot that begins at tick `t` (R142): it lies within the 13 slots of an apply that runs, or an
urgent apply in the sweep comes next (DESIGN CHOICE, log entry 160). -/
def Dev.withheld (d : Dev) (s t : Nat) : Bool :=
  match d.bur.apply with
  | some a => a.unit == s && decide (t ≤ a.begun + 100000)
  | none => d.scanState == stRunning && d.flag (F.SLICE_BUR_STAT_URGENT s) && d.burNext == some s

/-- Pixels of a slice whose dwell an apply overlaps carry CAL (R30). -/
def Dev.markApplies (d : Dev) (s : Nat) : Dev :=
  { d with kiln := { d.kiln with pixels := d.kiln.pixels.map fun p => if p.row / 8 = s ∧ p.ended = false then { p with cal := true } else p } }

/-- The result flags of an apply in `SLICE_BUR_CH` or `KILN_BUR_REF_STAT`. -/
def Dev.applyFlags (d : Dev) (t : Nat) (n : NewSet) : Dev :=
  if t < 512 then
    let s := t / 8
    let c := t % 8
    let d := (d.setFld (F.SLICE_BUR_CH_DNL s c) n.dnl).setFlag (F.SLICE_BUR_CH_SEL_CHG s c) (n.set.cellSel != d.par P.cal_cell_sel t)
    let d := (d.setFlag (F.SLICE_BUR_CH_COVERAGE s c) n.coverage).setFlag (F.SLICE_BUR_CH_TRIM_LIMIT s c) n.trimLimit
    if n.coverage || n.trimLimit then d.raise (Ev.burnishFault s) else d
  else d.put Reg.KILN_BUR_REF_STAT (withField (d.reg Reg.KILN_BUR_REF_STAT) (16 * (t - 512) + 8) 8 n.dnl)

/-- The shadow sets of a unit are formed (R140, steps 1 and 2): new ones, or the previous ones of a request that failed (R143). -/
def Dev.formApply (d : Dev) (u : Nat) : Dev × BurApply :=
  let ts := d.unitTdcs u
  let prev := ts.map d.curSet
  match d.reverting u with
  | some r => (d, ⟨u, false, r.done.filter fun x => decide (x.tdc / 8 = u), prev, d.time.ticks⟩)
  | none =>
    let news := ts.map d.newSet
    let d := (ts.zip news).foldl (fun (d : Dev) x => (d.applyFlags x.1 x.2).setTdc x.1 { d.tdc x.1 with widths := x.2.widths }) d
    (d, ⟨u, false, news.map (·.set), prev, d.time.ticks⟩)

/-- An apply begins at a slot boundary: the slice goes offline, its running blocks are discarded (R130), and the dwells that it overlaps
are marked (R30, R140). -/
def Dev.applyStart (d : Dev) (u : Nat) : Dev :=
  if d.bur.apply.isNone && d.locked && decide (d.time.slotClk = 0) && decide (d.burNext = some u) && d.sliceQuiet u && d.sliceDark u
      && d.applyPlace u then
    let (d, a) := d.formApply u
    let d := (((d.unitTdcs u).foldl Dev.discardBlock d).markApplies u).setFlag (F.SLICE_BUR_STAT_OFFLINE u) true
    { d with bur := { d.bur with apply := some a, started := d.bur.started || (d.scanState == stRunning && d.turnRoom 0) } }
  else d

/-- `BURNISH_APPLY_START` (R140). -/
def execBurnishApplyStart (slice : Fin 64) (s : State) : Host.Outcome State Fault Refusal :=
  .next (s.onDev fun _ d => d.applyStart slice.val)

/-- `REF_TDC_APPLY` (R144): a reference apply begins at a boundary of a turnaround, clear of its calibration shots; it takes no slice
offline. -/
def execRefTdcApply (chainL : Bool) (s : State) : Host.Outcome State Fault Refusal :=
  .next (s.onDev fun _ d =>
    let u := if chainL then 65 else 64
    if d.bur.refApply.isNone && d.locked && decide (d.time.slotClk = 0) && (d.burSlice u).pending && d.unitReady u && d.refTime 13 then
      let (d, a) := d.formApply u
      let d := (d.unitTdcs u).foldl Dev.discardBlock d
      { d with bur := { d.bur with refApply := some a } }.setFlag
        (if chainL then F.KILN_BUR_REF_ACT_L_OFFLINE else F.KILN_BUR_REF_ACT_E_OFFLINE) true
    else d)

/-- Shadow and live sets switch at one instant (R140, step 3). -/
def Dev.applySwitch (d : Dev) : Dev :=
  let load (d : Dev) (o : Option BurApply) : Dev :=
    match o with
    | some a => if a.switched then d else a.shadow.foldl Dev.loadSet d
    | none => d
  let d := load (load d d.bur.apply) d.bur.refApply
  { d with bur := { d.bur with apply := d.bur.apply.map fun a => { a with switched := true },
                               refApply := d.bur.refApply.map fun a => { a with switched := true } } }

/-- `BURNISH_APPLY_SWITCH` (R140). -/
def execBurnishApplySwitch (s : State) : Host.Outcome State Fault Refusal := .next (s.onDev fun _ d => d.applySwitch)

/-- A request has no slice left: it completes, with its refusal where a slice could not be applied (R143). -/
def Dev.requestEnd (d : Dev) (r : BurRequest) : Dev :=
  match r.failed with
  | none => d.complete r.pair r.tag 0x0000
  | some u => d.complete r.pair r.tag 0x0501 (unitResults u)

/-- The requests after a change of those that wait: those with no slice left complete. -/
def Dev.putRequests (d : Dev) (rs : List BurRequest) : Dev :=
  (rs.filter fun r => r.waiting.isEmpty).foldl Dev.requestEnd
    { d with bur := { d.bur with requests := rs.filter fun r => !r.waiting.isEmpty } }

/-- A slice of a `cal.burnish` request is applied, or has its previous set again. -/
def Dev.requestDone (d : Dev) (a : BurApply) : Dev :=
  d.putRequests (d.bur.requests.map fun r =>
    if r.waiting.contains a.unit then
      { r with waiting := r.waiting.erase a.unit, done := if r.failed.isSome then r.done else r.done ++ a.prev }
    else r)

/-- Device time in ns when the timing island's clock read `t`, at the rate in force. -/
def Dev.nowAt (d : Dev) (t : Nat) : Nat :=
  2 * ((d.time.acc : Int) + ((t : Int) - d.time.ticks) * (2 ^ 40 + d.time.rate)).toNat / (5 * 2 ^ 40)

/-- The end of a switched apply at A + 40 µs (R140, step 5): times and temperatures are recorded, and new blocks start. -/
def Dev.applyDone (d : Dev) (a : BurApply) : Dev :=
  let u := a.unit
  let t := d.unitTemp u
  let d := d.setBurSlice u { lastApply := a.begun + 100000 }
  let d := (d.unitTdcs u).foldl Dev.newBlock d
  let d := d.setPar P.cal_bur_t u (unsgn 16 t)
  let d := { d with bur := { d.bur with applied := true } }
  if u < 64 then
    let d := { d with bur := { d.bur with apply := none, trims := sclear (fun k => k / 24 == u) d.bur.trims } }
    let d := (d.setFlag (F.SLICE_BUR_STAT_OFFLINE u) false).setFlag (F.SLICE_BUR_STAT_PENDING u) false
    let d := (d.setFlag (F.SLICE_BUR_STAT_URGENT u) false).setFld (F.SLICE_BUR_STAT_DEFER u) 0
    let d := (d.bump (C.SLICE_BUR_APPLY_CNT u)).putWide (Reg.SLICE_BUR_LAST_LO u) (d.nowAt (a.begun + 100000))
    let d := (d.put (Reg.SLICE_BUR_LAST_TEMP u) (BitVec.ofNat 32 (unsgn 16 t))).raise (Ev.burnishApply u)
    d.requestDone a
  else
    let d := { d with bur := { d.bur with refApply := none } }
    (d.setFlag (if u = 65 then F.KILN_BUR_REF_ACT_L_OFFLINE else F.KILN_BUR_REF_ACT_E_OFFLINE) false).bump C.KILN_BUR_REF_APPLY_CNT

/-- `BURNISH_APPLY_END` (R140): every apply that has switched ends. -/
def execBurnishApplyEnd (s : State) : Host.Outcome State Fault Refusal :=
  .next (s.onDev fun _ d =>
    let finish (d : Dev) (o : Option BurApply) : Dev :=
      match o with
      | some a => if a.switched then d.applyDone a else d
      | none => d
    finish (finish d d.bur.apply) d.bur.refApply)

/-- A pending slice waits no longer. -/
def Dev.burCancel (d : Dev) (u : Nat) : Dev :=
  (d.setBurSlice u { d.burSlice u with pending := false, frames := 0 }).setFlag (F.SLICE_BUR_STAT_PENDING u) false

/-- A slice is off and cannot be applied (R143): of a request that waits for it, the slices already applied become pending for their
previous sets, and the others are not applied (DESIGN CHOICE, log entry 161). -/
def Dev.burnishFail (d : Dev) (u : Nat) : Dev :=
  let hit := d.bur.requests.filter fun r => r.waiting.contains u
  if hit.isEmpty then d
  else
    let fail (r : BurRequest) : BurRequest :=
      if r.failed.isSome then { r with waiting := r.waiting.erase u }
      else { r with waiting := ((r.done.map fun x => x.tdc / 8).eraseDups).filter d.domOn, failed := some u }
    let rs := d.bur.requests.map fun r => if r.waiting.contains u then fail r else r
    let d := (hit.filter fun r => r.failed.isNone).foldl (fun (d : Dev) r => r.waiting.foldl Dev.burCancel d) d
    let d := (rs.filter fun r => r.failed.isSome).foldl (fun (d : Dev) r => r.waiting.foldl (fun (d : Dev) v => d.burPending v 1) d) d
    d.putRequests rs

/-- `cal.burnish` (R143). -/
def bodyCalBurnish (q : Nat) : Body := fun p _ d =>
  let slices := (List.range 64).filter (bitAt (p.u 0 8))
  match slices.find? fun u => !d.domOn u || (d.unitTdcs u).isEmpty || !d.unitReady u with
  | some u => .refuse 0x0501 (unitResults u)
  | none =>
    if slices.isEmpty then .ok d []   -- DESIGN CHOICE, log entry 162
    else
      let d := slices.foldl (fun (d : Dev) u => d.burPending u 1) d
      .accept { d with bur := { d.bur with requests := d.bur.requests ++ [⟨q, p.tag.toNat, slices, [], none⟩] } } 0

/-- `CAL_BURNISH` (R143). -/
def execCalBurnish (c : Cmd) (s : State) : Host.Outcome State Fault Refusal :=
  .next (s.onDev (runCmd 0x0401 c (bodyCalBurnish c.pair.val)))

/-- The comparison of temperatures in a housekeeping round (R137, R142, R149); `first` is the first normal round. -/
def Dev.burnishRound (d : Dev) (first : Bool) : Dev :=
  (List.range 66).foldl (fun (d : Dev) u =>
    let x := d.burSlice u
    let on := if 64 ≤ u then d.flag F.KILN_BUR_CTL_REF_EN else d.domOn u
    let moved := match d.lastTemp u with
      | some t => tempOver (d.unitTemp u) t (d.par P.burnish_delta_t 0)
      | none => first
    let d := if on && d.flag F.KILN_BUR_CTL_AUTO_EN && moved && !x.pending then d.burPending u 0 else d
    let urgent := match d.lastTemp u with
      | some t => tempOver (d.unitTemp u) t (d.par P.burnish_delta_urgent 0)
      | none => false
    if decide (u < 64) && (d.burSlice u).pending && urgent && !d.flag (F.SLICE_BUR_STAT_URGENT u) then
      (d.setFlag (F.SLICE_BUR_STAT_URGENT u) true).setFld (F.SLICE_BUR_STAT_REASON u) 2
    else d) d

/-- A frame passes for pending slices (R142, R154). -/
def Dev.burnishFrame (d : Dev) : Dev :=
  (List.range 64).foldl (fun (d : Dev) u =>
    let x := d.burSlice u
    if x.pending then
      let d := (d.setBurSlice u { x with frames := x.frames + 1 }).setFld (F.SLICE_BUR_STAT_DEFER u) (min 255 (x.frames + 1))
      if d.par P.burnish_defer_max_frames 0 < x.frames + 1 && !d.flag (F.SLICE_BUR_STAT_URGENT u) then
        (d.setFlag (F.SLICE_BUR_STAT_URGENT u) true).setFld (F.SLICE_BUR_STAT_REASON u) 2
      else d
    else d) d

/-- The region temperatures of a round enter the blocks that run (R131). -/
def Dev.blockTemps (d : Dev) : Dev :=
  { d with bur := { d.bur with tdcs := d.bur.tdcs.map fun e =>
      let t := d.regionTemp (tdcRegion e.1)
      (e.1, { e.2 with block := { e.2.block with temp0 := e.2.block.temp0.or (some t), tempSum := e.2.block.tempSum + t,
                                                 tempCnt := e.2.block.tempCnt + 1 } }) } }

/-- The Burnish entries of the calibration set (R149). -/
def Dev.burnishEntries (d : Dev) : List (Nat × Nat) :=
  (d.setEntries 16).filter fun e =>
    let i := e.1 / 2 ^ 20
    i == P.cal_cmp_trim || i == P.cal_cell_sel || i == P.cal_bin_table || i == P.cal_bur_t

/-- `BURNISH_COMMIT_TIMER` (R149). -/
def execBurnishCommitTimer (s : State) : Host.Outcome State Fault Refusal :=
  .next (s.onDev fun _ d =>
    let e := d.burnishEntries
    if d.par P.burnish_commit_period_h 0 = 0 || !d.bur.applied || d.storeFull 16 e then d
    else { d with cfg := { d.cfg with commits := d.cfg.commits ++ [Commit.mk 16 e none 0] } }.setFlag F.GLB_CFG_STAT_COMMIT_BUSY true)

/-! ## Range zero (R146) -/

/-- `cal.range_zero` (R146). -/
def bodyCalRangeZero : Body := fun p _ d =>
  let a := p.u 0 2
  let b := p.u 2 2
  refuseIf (decide (511 < a)) 0x0104 <| refuseIf (decide (511 < b ∨ b < a)) 0x0104 <| refuseIf (decide (p.u 8 2 < 64)) 0x0104 <|
    refuseIf (d.scanState != stRunning) 0x0201 <|
    .accept { d with bur := { d.bur with rangeZero := some { rowFirst := a, rowLast := b, dist := p.u 4 4, shots := p.u 8 2,
                                                             col := p.u 10 1 } } } 0

/-- `CAL_RANGE_ZERO` (R146). -/
def execCalRangeZero (c : Cmd) (s : State) : Host.Outcome State Fault Refusal := .next (s.onDev (runCmd 0x0403 c bodyCalRangeZero))

/-- What a row of a range-zero measurement has gathered. -/
def RangeZero.row (z : RangeZero) (r : Nat) : Int × Nat × Nat := sget (fun _ => (0, 0, 0)) r z.sums

/-- A dwell at the measured column adds its best echo (R146). -/
def RangeZero.add (z : RangeZero) (r fired : Nat) (te : Option Int) : RangeZero :=
  let (s, n, m) := z.row r
  match te with
  | some t => { z with sums := sset (fun _ => (0, 0, 0)) r (s + t * fired, n + fired, m + fired) z.sums }
  | none => { z with sums := sset (fun _ => (0, 0, 0)) r (s, n + fired, m) z.sums }

/-- A row has its shots. -/
def RangeZero.full (z : RangeZero) (r : Nat) : Bool := decide (z.shots ≤ (z.row r).2.1)

/-- The rows of the measurement. -/
def RangeZero.rows (z : RangeZero) : List Nat := (List.range (z.rowLast + 1 - z.rowFirst)).map (z.rowFirst + ·)

/-- A row gives a value: complete, with an echo in at least half of its fired shots (R146). -/
def RangeZero.good (z : RangeZero) (r : Nat) : Bool := z.full r && decide ((z.row r).2.1 ≤ 2 * (z.row r).2.2)

/-- The measurement ends (R146): z0 of each good row, the mean temperature, and the completion. `burnish.rz_t0` stays where no
housekeeping round fell within the measurement (DESIGN CHOICE, log entry 163). -/
def Dev.rangeZeroEnd (d : Dev) (z : RangeZero) : Dev :=
  let good := z.rows.filter z.good
  let bad := z.rows.filter fun r => !z.good r
  let flight := roundDiv ((z.dist : Int) * 5000000000000) 4684257156250
  let d := good.foldl (fun (d : Dev) r =>
    let x := z.row r
    d.setPar P.cal_range_zero r (unsgn 16 (clampI (-32768) 32767 (roundDiv x.1 x.2.2 - flight)))) d
  let d := if z.tempCnt = 0 then d else d.setPar P.burnish_rz_t0 0 (unsgn 16 (roundDiv z.tempSum z.tempCnt))
  let d := { d with bur := { d.bur with rangeZero := none } }
  d.completeOp 0x0403 0x0000 (leBytes 2 good.length ++ leBytes 2 bad.length ++ leBytes 2 (bad.head?.getD 0xFFFF))

/-- `RANGE_ZERO_COMPLETE` (R146). -/
def execRangeZeroComplete (s : State) : Host.Outcome State Fault Refusal :=
  .next (s.onDev fun _ d =>
    match d.bur.rangeZero with
    | some z => if z.rows.all z.full || decide (65536 ≤ z.frames) then d.rangeZeroEnd z else d
    | none => d)

/-- The slice temperatures of a round enter the range-zero measurement. -/
def Dev.rangeZeroTemps (d : Dev) : Dev :=
  { d with bur := { d.bur with rangeZero := d.bur.rangeZero.map fun z =>
      ((List.range 64).filter fun s => decide (z.rowFirst / 8 ≤ s ∧ s ≤ z.rowLast / 8)).foldl (fun (z : RangeZero) s =>
        { z with tempSum := z.tempSum + d.unitTemp s, tempCnt := z.tempCnt + 1 }) z } }

/-! ## Calibration blobs (R148, R150, R151) -/

/-- `cal.commit` (R148). -/
def bodyCalCommit (q : Nat) : Body := fun p _ d =>
  refuseIf (d.storeFull 16 (d.setEntries 16)) 0x0303 <| .accept (d.startCommit 16 (some (q, p.tag.toNat)) 0x0402) 0

/-- `CAL_COMMIT` (R148). -/
def execCalCommit (c : Cmd) (s : State) : Host.Outcome State Fault Refusal :=
  .next (s.onDev (runCmd 0x0402 c (bodyCalCommit c.pair.val)))

/-- Every element of the calibration set with its live or committed value. -/
def Dev.calEntries (d : Dev) (committed : Bool) : List (Nat × Nat) :=
  (paramRows.filter (inSet 16)).flatMap fun p => (List.range p.elems).map fun e =>
    (pkey p.index e, if committed then d.committedOr (pkey p.index e) else d.par p.index e)

/-- The calibration blob (R150). -/
def Dev.calBlob (d : Dev) (committed : Bool) : List Byte :=
  let x := blobItems (fun _ _ => 0) (d.calEntries committed)
  blob 0x58424C43 d.now x.1 x.2

/-- The length of the calibration blob: header, and per parameter its item header and padded values. -/
def calBlobLen : Nat :=
  64 + (paramRows.filter (inSet 16)).foldl (fun a p => a + 8 + (p.elems * p.esize + 3) / 4 * 4) 0

/-- `cal.export` (R150): the blob is written when the command completes. -/
def bodyCalExport : Body := fun p _ d =>
  refuseIf (p.u 8 8 % 64 != 0 || !inDevMem (p.u 8 8) calBlobLen) 0x0105 <|
    if p.u 16 4 < calBlobLen then .refuse 0x0104 (leBytes 4 calBlobLen) else .accept d 0

/-- `CAL_EXPORT` (R150). -/
def execCalExport (c : Cmd) (s : State) : Host.Outcome State Fault Refusal := .next (s.onDev (runCmd 0x0404 c bodyCalExport))

/-- The export finishes: the blob is in device memory (R150). -/
def Dev.exportDone (d : Dev) (r : Running) : Dev :=
  let b := d.calBlob (bitAt (r.pkt.u 0 1) 0)
  (d.memw (r.pkt.u 8 8) b).finish r 0x0000 (leBytes 4 b.length ++ b.drop 60 |>.take 8)

end Sys2Proof.Machine
end

