-- ==== Sys2Proof/Machine/Emitter.lean ====
section
/-! DEFINITION. Coded firing and the Bellows chains (chapter 06): frames, writes and CTRL words, bring-up and faults, energy codes,
segments and spares, fire-echo checks, illuminator lamps. -/

namespace Sys2Proof.Machine

/-! ## Chains -/

/-- A chain: E, or L when the flag is set. -/
def Dev.chain (d : Dev) (l : Bool) : Chain := if l then d.blw.l else d.blw.e

/-- Set a chain. -/
def Dev.setChain (d : Dev) (l : Bool) (c : Chain) : Dev :=
  { d with blw := if l then { d.blw with l := c } else { d.blw with e := c } }

/-- The chain is up. -/
def Dev.chainUp (d : Dev) (l : Bool) : Bool := d.flag (if l then F.BLW_STAT_L_UP else F.BLW_STAT_E_UP)

/-! ## Words (R164, R165) -/

/-- One bit step of CRC-8, polynomial 0x07 (R164). -/
def crc8Step : Nat → Nat → Nat
  | 0, c => c
  | n + 1, c => crc8Step n (if 0x80 ≤ c then (c * 2 % 0x100) ^^^ 0x07 else c * 2)

/-- CRC-8 over bits [39:8] of a word, the most significant first (R164). -/
def crc8 (w : Nat) : Nat := [32, 24, 16, 8].foldl (fun c o => crc8Step 8 (c ^^^ bits w o 8)) 0

/-- The word that a frame carries for driver `n`: its CTRL word, or FIRE or NOP with a write. A page that a NOP ignores is sent as 0. -/
def Frame.word (f : Frame) (n : Nat) : BitVec 40 :=
  let body := match f.ctrl.find? fun w => w.driver == n with
    | some w => 2 ^ 39 + 2 ^ 37 * b2n w.rw + 2 ^ 32 * (w.reg % 32) + 2 ^ 16 * (w.value % 65536)
    | none =>
      let op := if f.units.contains n then 2 ^ 38 + 2 ^ 34 * f.page else 0
      match f.writes.find? fun w => w.seg / 16 == n with
      | some w => op + 2 ^ 33 + 2 ^ 29 * w.page + 2 ^ 25 * (w.seg % 16) + 2 ^ 9 * w.code
      | none => op
  let body := body + 2 ^ 8 * b2n f.ft
  BitVec.ofNat 40 (body + crc8 body)

/-- The words of a frame for `n` drivers, driver 0 first. -/
def Frame.words (f : Frame) (n : Nat) : List (BitVec 40) := (List.range n).map f.word

/-- The left-aligned code of a channel in a page. Page 8 of chain E holds the calibration pattern, which the manual does not give:
free values (R176, DESIGN CHOICE, log entry 13). -/
def Chain.code (c : Chain) (page seg : Nat) : Nat :=
  if page = 8 ∧ c.calSeed ≠ 0 ∧ c.calZero.contains seg = false then (Config.freeValue (c.calSeed + seg)).toNat % 2 ^ 16 / 2 ^ (16 - c.res) * 2 ^ (16 - c.res)
  else sget (fun _ => 0) (page * 256 + seg) c.pages

/-- The channel's bit in ENABLE of its driver. -/
def Chain.enabled (c : Chain) (seg : Nat) : Bool := bitAt (sget (fun _ => 0) (seg / 16) c.enable) (seg % 16)

/-- Queue a code write, in place of one for the same page and channel; none where the code is already in force (R178). -/
def Chain.want (c : Chain) (page seg code : Nat) : Chain :=
  let q := c.queue.filter fun w => !(w.page == page && w.seg == seg)
  { c with queue := if c.code page seg = code then q else q ++ [CodeWrite.mk page seg code] }

/-- The order of R178: reductions first, then the larger change, then the lower channel. -/
def Chain.before (c : Chain) (a b : CodeWrite) : Bool :=
  let da : Int := (a.code : Int) - c.code a.page a.seg
  let db : Int := (b.code : Int) - c.code b.page b.seg
  if decide (da < 0) != decide (db < 0) then decide (da < 0)
  else if absI da ≠ absI db then decide (absI db < absI da) else decide (a.seg < b.seg)

/-- The write that the next frame carries for a driver: at most one (R178). -/
def Chain.pick (c : Chain) (driver : Nat) : Option CodeWrite :=
  (c.queue.filter fun w => w.seg / 16 == driver).foldl (fun (acc : Option CodeWrite) w =>
    match acc with
    | none => some w
    | some b => if c.before w b then some w else some b) none

/-- The CTRL word that goes to a driver next. -/
def Chain.pickCtrl (c : Chain) (driver : Nat) : Option CtrlWord := c.ctrl.find? fun w => w.driver == driver

/-- A frame is formed: a driver gets its CTRL word where CTRL words may go, else the first of its writes; both leave their queues. -/
def Chain.form (c : Chain) (slot : Nat) (units : List Nat) (page pulses : Nat) (ctrlOk : Bool) : Frame × Chain :=
  let ctrl := if ctrlOk then (List.range c.drivers).filterMap c.pickCtrl else []
  let ctrl := ctrl.filter fun w => !units.contains w.driver
  let writes := ((List.range c.drivers).filter fun n => !ctrl.any fun w => w.driver == n).filterMap c.pick
  ({ slot := slot, units := units, page := page, pulses := pulses, writes := writes, ctrl := ctrl },
   { c with queue := c.queue.filter fun w => !writes.contains w, ctrl := ctrl.foldl (fun l w => l.erase w) c.ctrl })

/-- A frame is committed: the toggle inverts, the codes it fires are those in force, and its writes act after the shot (R164, R165, R167,
R168). A START leaves the shot before it in `prev` until the next START on chain L. -/
def Chain.commit (c : Chain) (l : Bool) (f : Frame) : Chain :=
  let segs := (List.range 256).filter fun k => f.units.contains (k / 16) && c.code f.page k != 0
  let f := { f with ft := !c.ft, segs := segs }
  let pages := f.writes.foldl (fun m w => sset (fun _ => 0) (w.page * 256 + w.seg) w.code m) c.pages
  let zero := (f.writes.filter fun w => !l && w.page == 8 && w.code == 0).map (·.seg)
  let put (reg : Nat) (m : Sparse Nat) : Sparse Nat :=
    f.ctrl.foldl (fun m w => if w.rw && w.reg == reg then sset (fun _ => 0) w.driver w.value m else m) m
  let prev := if l && (c.last.map (·.units.isEmpty)).getD true then c.prev else c.last
  { c with ft := f.ft, pages := pages, enable := put 3 c.enable, units := put 6 c.units, calZero := zero ++ c.calZero, prev := prev,
           last := some f, shifted := none, awaiting := true, sent := [f.words c.drivers] }

/-- A frame that is discarded gives its writes and CTRL words back. What the next frame then shifts out is the discarded frame, so that
readback is not awaited (R171). -/
def Chain.discard (c : Chain) : Chain :=
  match c.shifted with
  | none => { c with nopNext := true }
  | some f =>
    let back := f.writes.filter fun w => !c.queue.any fun x => x.page == w.page && x.seg == w.seg
    { c with shifted := none, nopNext := true, awaiting := false, queue := back ++ c.queue, ctrl := f.ctrl ++ c.ctrl }

/-! ## Segment states (R179 to R183) -/

/-- `BLW_SEG_STAT.STATE` values. -/
abbrev segOk : Nat := 0
/-- OPEN -/
abbrev segOpen : Nat := 1
/-- SHORT -/
abbrev segShort : Nat := 2
/-- WORN -/
abbrev segWorn : Nat := 3
/-- SPARE_IDLE -/
abbrev segSpareIdle : Nat := 4
/-- REPLACED -/
abbrev segReplaced : Nat := 5
/-- SPARE_ACTIVE -/
abbrev segSpareActive : Nat := 6

/-- The state of a segment. -/
def Dev.segState (d : Dev) (k : Nat) : Nat := d.fld (F.BLW_SEG_STAT_STATE k)

/-- The segment may be given energy: it has not failed and is neither replaced nor idle. -/
def Dev.segFires (d : Dev) (k : Nat) : Bool :=
  d.segState k == segOk || d.segState k == segWorn || d.segState k == segSpareActive

/-- The pairings of `emit.spare`: spare and primary (R182, DESIGN CHOICE, log entry 14); an element that pairs a segment with itself is none. -/
def Dev.pairings (d : Dev) : List (Nat × Nat) :=
  ((List.range 32).map fun i => (d.par P.emit_spare i % 256, d.par P.emit_spare i / 256)).filter fun x => x.1 != x.2

/-- The spare of a primary. -/
def Dev.spareOf (d : Dev) (k : Nat) : Option Nat := (d.pairings.find? fun x => x.2 == k).map (·.1)

/-- A substitution is scheduled for the next turnaround (R183). -/
def Dev.schedule (d : Dev) (x : Subst) : Dev := { d with blw := { d.blw with subst := d.blw.subst ++ [x] } }

/-- `emit.auto_subst`: a primary that became OPEN or WORN is replaced by its idle spare (R183). -/
def Dev.autoSubst (d : Dev) (k : Nat) : Dev :=
  match d.spareOf k with
  | some sp =>
    if d.par P.emit_auto_subst 0 = 1 ∧ d.segState sp = segSpareIdle ∧ d.blw.subst.all (fun x => x.primary != k) then
      d.schedule ⟨k, sp, false, none, false⟩
    else d
  | none => d

/-- Code 0 for a channel in every page; in page 8 of chain E where its code there is a free value (R179, R182). -/
def Chain.zero (c : Chain) (l : Bool) (k : Nat) : Chain :=
  (List.range 16).foldl (fun (c : Chain) p =>
    if p = 8 ∧ l = false ∧ c.calSeed ≠ 0 then
      (if c.calZero.contains k || c.queue.any (fun w => w.page == 8 && w.seg == k) then c
       else { c with queue := c.queue ++ [CodeWrite.mk 8 k 0] })
    else c.want p k 0) c

/-- Code 0 in every page (R179). -/
def Dev.clearCodes (d : Dev) (l : Bool) (k : Nat) : Dev := d.setChain l ((d.chain l).zero l k)

/-- The groups of segments have changed: the codes left in the pages of former groups become 0 (R176). -/
def Dev.regroup (d : Dev) : Dev :=
  let c := d.blw.e
  let keys := (c.pages.map fun e => (e.1 / 256, e.1 % 256)) ++ c.queue.map fun w => (w.page, w.seg)
  let old := keys.filter fun x => decide (x.1 < 8) && d.par P.slot_seg_group x.2 != x.1
  d.setChain false (old.foldl (fun (c : Chain) x => c.want x.1 x.2 0) c)

/-- The channel is removed from ENABLE: a CTRL word writes what remains (R165, R179, R188). -/
def Dev.dropEnable (d : Dev) (l : Bool) (k : Nat) : Dev :=
  let c := d.chain l
  let n := k / 16
  let queued := (c.ctrl.filter fun w => w.driver == n && w.rw && w.reg == 3).getLast?
  let now := (queued.map (·.value)).getD (sget (fun _ => 0) n c.enable)
  let rest := c.ctrl.filter fun w => !(w.driver == n && w.rw && w.reg == 3)
  d.setChain l { c with ctrl := rest ++ [CtrlWord.mk n true 3 (clrBit now (k % 16)) none] }

/-- A segment becomes OPEN or SHORT (R179). -/
def Dev.failSeg (d : Dev) (k st : Nat) : Dev :=
  let old := d.segState k
  if old = st ∨ old = segShort then d
  else
    let d := ((d.setFld (F.BLW_SEG_STAT_STATE k) st).clearCodes false k).raise Ev.segFail
    let d := if st = segShort then d.dropEnable false k else d
    if st = segOpen then d.autoSubst k else d

/-- Unexpected emission (R174), with the segment where one is identified. -/
def Dev.unexpected (d : Dev) (seg : Option Nat) : Dev :=
  let d := d.bump C.BLW_E_UNEXP_CNT
  let d := match seg with
    | some k =>
      let was := d.segState k
      let d := d.failSeg k segShort
      if was = segShort then d.raise Ev.segFail else d
    | none => d.raise Ev.segFail
  d.detect Cause.internal

/-- Wear of a segment after `n` more pulses, or none (R180, R181). -/
def Dev.wear (d : Dev) (k n : Nat) : Dev :=
  let v := (d.wide64 (Reg.BLW_SEG_PULSES_LO k) + n) % 2 ^ 64
  let d := d.putWide (Reg.BLW_SEG_PULSES_LO k) v
  let lim := d.par P.emit_wear_limit 0
  if lim = 0 then d.setFld (F.BLW_SEG_STAT_WEAR k) 0
  else
    let pct := min 255 (100 * v / (1000000000 * lim))
    let d := d.setFld (F.BLW_SEG_STAT_WEAR k) pct
    let said := sget (fun _ => false) k d.blw.wearSaid
    let d := if d.par P.emit_wear_warn_pct 0 ≤ pct ∧ said = false then
        { d with blw := { d.blw with wearSaid := sset (fun _ => false) k true d.blw.wearSaid } }.raise Ev.segWear
      else d
    if 100 ≤ pct ∧ (d.segState k = segOk ∨ d.segState k = segSpareActive) then
      (d.setFld (F.BLW_SEG_STAT_STATE k) segWorn).autoSubst k
    else d

/-- The counts or the limits have changed otherwise: WEAR of every segment follows (R181). -/
def Dev.wearAll (d : Dev) : Dev := (List.range 256).foldl (fun (d : Dev) k => d.wear k 0) d

/-- The pairings have changed, or the part has started: partners, the substitutions kept, and idle spares with code 0 in every page
(R182, R183). -/
def Dev.spareRefresh (d : Dev) : Dev :=
  let prs := d.pairings
  (List.range 256).foldl (fun (d : Dev) k =>
    let partner : Option Nat := match prs.find? fun (x : Nat × Nat) => x.1 == k with
      | some x => some x.2
      | none => (prs.find? fun (x : Nat × Nat) => x.2 == k).map (·.1)
    let st := d.segState k
    let kept := d.blw.paired
    let new := if st = segOpen ∨ st = segShort then st
      else if prs.any (fun (x : Nat × Nat) => x.1 == k) then
        (if kept.any (fun (y : Nat × Nat) => y.2 == k) then (if st = segWorn then segWorn else segSpareActive) else segSpareIdle)
      else if kept.any (fun (y : Nat × Nat) => y.1 == k && prs.contains (y.2, y.1)) then segReplaced
      else if st = segWorn then segWorn else segOk
    let d := if new = segSpareIdle ∧ st ≠ segSpareIdle then d.clearCodes false k else d
    (d.setFld (F.BLW_SEG_STAT_PARTNER k) (partner.getD 255)).setFld (F.BLW_SEG_STAT_STATE k) new) d

/-! ## Energy codes (R177) -/

/-- SLOPE, ZERO and TC of a segment. -/
def Dev.calRec (d : Dev) (k : Nat) : Nat × Nat × Int :=
  let v := d.par P.emit_cal k
  (bits v 0 16, bits v 16 16, sgn 8 (bits v 32 8))

/-- 64,000 times the temperature factor f. -/
def Dev.tempFactor (d : Dev) (k : Nat) : Int :=
  let i := d.par P.emit_temp_input 0
  if i = 255 then 64000
  else 64000 + (d.calRec k).2.2 * (sget (fun _ => (400 : Int)) i d.hk.good - 400)

/-- The left-aligned code of a segment for a request of `e` nJ and a code of `n` pulses (R177). A factor that is not positive leaves
the result unstated: a free value (DESIGN CHOICE, log entry 12). -/
def Dev.energyCode (d : Dev) (k e n : Nat) : Nat :=
  let (slope, z, _) := d.calRec k
  let f := d.tempFactor k
  let b := d.blw.e.res
  let e := min e (d.par P.emit_e_max 0)
  if e = 0 ∨ slope = 0 ∨ d.segFires k = false then 0
  else if f ≤ 0 then d.free b * 2 ^ (16 - b)
  else
    let c16 := z + 65536 * 64000 * e / (max 1 n * slope * f.toNat)
    min (2 ^ b - 1) (c16 / 2 ^ (16 - b)) * 2 ^ (16 - b)

/-- Units of E_used in one nJ: R177 then gives a whole number of them. -/
abbrev energyOne : Nat := 65536 * 64000

/-- E_used of a segment that fires code `c` with `n` pulses, in 1/`energyOne` nJ (R177). -/
def Dev.energyUsed (d : Dev) (k c n : Nat) : Nat :=
  let (slope, z, _) := d.calRec k
  if c = 0 then 0 else (((n * (c - z) * slope : Nat) : Int) * d.tempFactor k).toNat

/-- A request for a segment: its code change is queued for its group page (R177, R178). -/
def Dev.requestEnergy (d : Dev) (k e n : Nat) : Dev :=
  let page := d.par P.slot_seg_group k
  let code := d.energyCode k e n
  let d := if d.tempFactor k ≤ 0 then d.freeNext else d
  { d.setChain false (d.blw.e.want page k code) with
    blw := { (d.setChain false (d.blw.e.want page k code)).blw with request := sset (fun _ => 0) k e d.blw.request } }

/-! ## The code in use (R157 to R160) -/

/-- Positions of the pulses of a code in grid units. -/
def codePulses (entry : Nat) : List Nat := (List.range (min 8 (bits entry 0 16))).map fun i => if i = 0 then 0 else bits entry (16 * i) 16

/-- The entry of a code in the book in use. -/
def Dev.bookEntry (d : Dev) (c : Nat) : Nat := if d.par P.code_book_sel 0 = 1 then d.par P.code_book c else factoryCode c

/-- The pulses of a group's code. -/
def Dev.groupPulses (d : Dev) (g : Nat) : List Nat := codePulses (d.bookEntry (d.par P.code_group g))

/-! ## Chain faults and bring-up (R172, R175) -/

/-- Commands that wait for a chain end with 0x0204. -/
def Dev.dropChainOwners (d : Dev) (l : Bool) : Dev :=
  let c := d.chain l
  let words := c.ctrl ++ (c.shifted.map (·.ctrl)).getD [] ++ (if c.awaiting then (c.last.map (·.ctrl)).getD [] else [])
  let d := words.foldl (fun (d : Dev) w => d.completeOwner w.owner 0x0204) d
  if l then d
  else
    let d := d.blw.subst.foldl (fun (d : Dev) x => d.completeOwner x.owner 0x0204) d
    { d with blw := { d.blw with subst := [] } }

/-- The lamps of chain L are off: no code is in force (R189), and no state is known (DESIGN CHOICE, log entry 166). -/
def Dev.lampsOff (d : Dev) : Dev :=
  (List.range 256).foldl (fun (d : Dev) k => if d.reg (Reg.BLW_LAMP_STAT k) = 0#32 then d else d.put (Reg.BLW_LAMP_STAT k) 0#32) d

/-- A chain enters fault (R172). -/
def Dev.chainFault (d : Dev) (l : Bool) : Dev :=
  let d := d.dropChainOwners l
  let d := (d.setFlag (if l then F.BLW_STAT_L_FAULT else F.BLW_STAT_E_FAULT) true).setFlag
    (if l then F.BLW_STAT_L_UP else F.BLW_STAT_E_UP) false
  let c := d.chain l
  let d := d.setChain l { c with bringup := false, shifted := none, awaiting := false, ctrl := [], fails := [] }
  let d := d.raise Ev.blwChain
  if l then d.lampsOff else d.detect Cause.internal

/-- R170 holds of a number of drivers at a clock code. -/
def frameFits (drivers clk : Nat) : Bool :=
  decide (500 + 40 * drivers * (500 / (25 * 2 ^ clk)) ≤ 3200)

/-- An enable bit goes from 0 to 1: the bring-up starts with the clock and resolution of the register (R175). In RETIRED chain E stays
down (R599). -/
def Dev.chainEnable (d : Dev) (l : Bool) : Dev :=
  let en := if l then F.BLW_CTL_L_EN else F.BLW_CTL_E_EN
  if d.flag en then d
  else
    let d := d.setFlag en true
    if l = false ∧ d.rst.shadow.lifecycle = 4 then d
    else
      let c : Chain := { bringup := true, clk := d.fld (if l then F.BLW_CTL_L_CLK else F.BLW_CTL_E_CLK),
                         res := d.fld (if l then F.BLW_CTL_L_RES else F.BLW_CTL_E_RES) }
      let d := d.setChain l c
      if l = false ∧ frameFits (d.par P.blw_e_drivers 0) c.clk = false then d.chainFault false else d

/-- An enable bit is written 0: the chain stops and its fault state clears (R172). -/
def Dev.chainDisable (d : Dev) (l : Bool) : Dev :=
  let en := if l then F.BLW_CTL_L_EN else F.BLW_CTL_E_EN
  if !d.flag en then d
  else
    let d := (d.dropChainOwners l).setFlag en false
    let d := (d.setFlag (if l then F.BLW_STAT_L_UP else F.BLW_STAT_E_UP) false).setFlag
      (if l then F.BLW_STAT_L_FAULT else F.BLW_STAT_E_FAULT) false
    let d := d.setChain l {}
    if l then d.lampsOff else d

/-- `CHAIN_ENABLE` (R175). -/
def execChainEnable (chainL : Bool) (s : State) : Host.Outcome State Fault Refusal := .next (s.onBar fun _ d => d.chainEnable chainL)

/-- `CHAIN_DISABLE` (R172). -/
def execChainDisable (chainL : Bool) (s : State) : Host.Outcome State Fault Refusal := .next (s.onBar fun _ d => d.chainDisable chainL)

/-! ## Lamps (R184 to R188) -/

/-- MHz of a clock code. -/
def clkMhz (clk : Nat) : Nat := 25 * 2 ^ clk

/-- A camera input. -/
def Dev.cam (d : Dev) (s : Nat) : CamSt := sget (fun _ => {}) s d.blw.cams

/-- Set a camera input. -/
def Dev.setCam (d : Dev) (s : Nat) (c : CamSt) : Dev := { d with blw := { d.blw with cams := sset (fun _ => {}) s c d.blw.cams } }

/-- The smallest number of exposures that brings a period to 500 µs. -/
def everyM (mean : Nat) : Nat := max 1 (ceilDiv 1250000 (max 1 mean))

/-- The START period of a source in ticks of 0.4 ns; none where it is unknown or off (R185, R186). -/
def Dev.sourcePeriod (d : Dev) (src : Nat) : Option Nat :=
  if src = 8 then some (2500000000 / max 1 (d.par P.lamp_freq_hz 0))
  else if src < 8 then
    let c := d.cam src
    if c.periods.isEmpty then none
    else
      let mean := c.periods.foldl (· + ·) 0 / c.periods.length
      some (mean * everyM mean)
  else none

/-- A period fits in 65,535 units of 2^u clocks. -/
def periodFits (p clk u : Nat) : Bool := decide (p * clkMhz clk ≤ 65535 * 2500 * 2 ^ u)

/-- The smallest u with which every period fits; `n` bounds it. -/
def leastUnit : Nat → Nat → Nat → Nat → Nat
  | 0, u, _, _ => u
  | n + 1, u, p, clk => if periodFits p clk u then u else leastUnit n (u + 1) p clk

/-- The period of a lamp's source. -/
def Dev.lampPeriod (d : Dev) (k : Nat) : Option Nat := d.sourcePeriod (d.par P.lamp_src k)

/-- u of a driver: UNIT is one register of the driver, so its longest period decides (DEDUCED, log entry 15). -/
def Dev.driverUnit (d : Dev) (n : Nat) : Nat :=
  let p := (List.range 16).foldl (fun a j => max a ((d.lampPeriod (16 * n + j)).getD 0)) 0
  leastUnit 15 0 p d.blw.l.clk

/-- The on-time of a lamp in ticks, as numerator over 2^b × 32,768 (R185). -/
def Dev.lampOnNum (d : Dev) (k p : Nat) : Nat :=
  let b := d.blw.l.res
  let q := d.par P.lamp_duty k / 2 ^ (16 - b)
  min (q * d.par P.lamp_cal k * p) (32768 * 2 ^ b * (p - 2500))

/-- The on-time code of a lamp, in units of its driver (R185). -/
def Dev.lampCode (d : Dev) (k u : Nat) : Nat :=
  match d.lampPeriod k with
  | none => 0
  | some p => (roundDiv (d.lampOnNum k p * clkMhz d.blw.l.clk) (32768 * 2500 * 2 ^ d.blw.l.res * 2 ^ u)).toNat % 2 ^ 16

/-- The on-time of a code in ticks. -/
def Dev.codeTicks (d : Dev) (k code : Nat) : Nat :=
  2500 * 2 ^ sget (fun _ => 0) (k / 16) d.blw.l.units * code / clkMhz d.blw.l.clk

/-- The code that a 4 µs on-time needs on a driver. -/
def Dev.diagCode (d : Dev) (k : Nat) : Nat :=
  ceilDiv (10000 * clkMhz d.blw.l.clk) (2500 * 2 ^ sget (fun _ => 0) (k / 16) d.blw.l.units)

/-- A lamp's page, and the code it is to have there: 0 for a lamp that is off or SHORT. -/
def Dev.lampWant (d : Dev) (k : Nat) : Nat × Nat :=
  let src := d.par P.lamp_src k
  let u := d.driverUnit (k / 16)
  if 8 < src ∨ d.fld (F.BLW_LAMP_STAT_STATE k) = 3 ∨ d.blw.l.drivers ≤ k / 16 then (src, 0) else (src, d.lampCode k u)

/-- The state register of a lamp follows its code (R194): OFF without one, OK until a diagnosis says otherwise. -/
def Dev.showLamp (d : Dev) (k code : Nat) : Dev :=
  let st := d.fld (F.BLW_LAMP_STAT_STATE k)
  let st := if st = 3 then 3 else if code = 0 then 0 else if st = 0 then 1 else st
  let d := (d.setFld (F.BLW_LAMP_STAT_ON_CODE k) code).setFld (F.BLW_LAMP_STAT_STATE k) st
  d.setFlag (F.BLW_LAMP_STAT_STRETCH k) (code != 0 && decide (d.codeTicks k code < 10000))

/-- Every page but one gives a lamp code 0, and its own page the code it is to have. -/
def Dev.wantLamp (d : Dev) (k : Nat) : Dev :=
  let w := d.lampWant k
  d.setChain true ((List.range 9).foldl (fun (c : Chain) p => c.want p k (if p = w.1 then w.2 else 0)) d.blw.l)

/-- The code in force of a lamp: that of its source's page. -/
def Dev.lampCodeNow (d : Dev) (k : Nat) : Nat := if d.par P.lamp_src k ≤ 8 then d.blw.l.code (d.par P.lamp_src k) k else 0

/-- A frame is committed on chain L: the lamps that it writes show their codes in force (R194). -/
def Dev.commitL (d : Dev) (c : Chain) (f : Frame) : Dev :=
  f.writes.foldl (fun (d : Dev) w => d.showLamp w.seg (d.lampCodeNow w.seg)) (d.setChain true (c.commit true f))

/-- A frame goes out on chain L when something waits and no status is outstanding: a NOP frame with writes and CTRL words (R164,
DESIGN CHOICE, log entry 16). -/
def Dev.pumpL (d : Dev) : Dev :=
  let c := d.blw.l
  if d.chainUp true && !c.awaiting && (!c.queue.isEmpty || !c.ctrl.isEmpty) then
    let x := c.form d.slotNo [] 0 0 true
    d.commitL x.2 x.1
  else d

/-- Lamp settings or periods have changed: units, codes and states follow (R185). -/
def Dev.refreshLamps (d : Dev) : Dev :=
  if d.chainUp true then
    let d := (List.range d.blw.l.drivers).foldl (fun (d : Dev) n =>
      let u := d.driverUnit n
      let c := d.blw.l
      let rest := c.ctrl.filter fun w => !(w.driver == n && w.rw && w.reg == 6)
      d.setChain true { c with ctrl := if sget (fun _ => 0) n c.units = u then rest else rest ++ [CtrlWord.mk n true 6 u none] }) d
    let ks := List.range (16 * d.blw.l.drivers)
    (ks.foldl (fun (d : Dev) k => d.showLamp k (d.lampCodeNow k)) (ks.foldl Dev.wantLamp d)).pumpL
  else d

/-! ## The end of a bring-up (R175, R176, R184) -/

/-- The registers of the drivers found. -/
def Dev.putDrivers (d : Dev) (l : Bool) (drivers : List (BitVec 16 × BitVec 16)) : Dev :=
  (List.range 16).foldl (fun (d : Dev) n =>
    let a := if l then Reg.BLW_L_DRV n else Reg.BLW_E_DRV n
    match drivers[n]? with
    | some x => d.put a (BitVec.ofNat 32 (x.1.toNat + 2 ^ 16 * (x.2.toNat % 32) + 2 ^ 24))
    | none => d.put a 0#32) d

/-- ENABLE of each driver: its channels, without those that are SHORT. -/
def Dev.enableMasks (d : Dev) (l : Bool) (drivers : List (BitVec 16 × BitVec 16)) : Sparse Nat :=
  (drivers.mapIdx fun n x => (n, x.2.toNat)).foldl (fun m x =>
    let ok (j : Nat) : Bool := decide (j < x.2)
      && (if l then d.fld (F.BLW_LAMP_STAT_STATE (16 * x.1 + j)) != 3 else d.segState (16 * x.1 + j) != segShort)
    sset (fun _ => 0) x.1 ((List.range 16).foldl (fun a j => if ok j then a + 2 ^ j else a) 0) m) []

/-- The frames of step 5 of a bring-up: RES, PAGECLR 0x00FF, ENABLE, and UNIT on chain L (R165, R175). -/
def Chain.setup (c : Chain) (l : Bool) : List Frame :=
  let each (reg : Nat) (v : Nat → Nat) : Frame :=
    { slot := 0, units := [], page := 0, pulses := 0, ctrl := (List.range c.drivers).map fun n => CtrlWord.mk n true reg (v n) none }
  [each 2 fun _ => c.res, each 8 fun _ => 0xFF, each 3 fun n => sget (fun _ => 0) n c.enable]
    ++ (if l then [each 6 fun n => sget (fun _ => 0) n c.units] else [])

/-- The frames that carry the queued writes, one after another; the number bounds them. -/
def Chain.drain : Nat → Chain → List Frame × Chain
  | 0, c => ([], c)
  | n + 1, c =>
    if c.queue.isEmpty then ([], c)
    else
      let x := c.form 0 [] 0 0 false
      let pages := x.1.writes.foldl (fun m w => sset (fun _ => 0) (w.page * 256 + w.seg) w.code m) c.pages
      let y := Chain.drain n { x.2 with pages := pages }
      (x.1 :: y.1, y.2)

/-- The words of frames whose toggles alternate and end at 0: the parity of the frames before is not stated (DESIGN CHOICE, log
entry 167). -/
def framesSent (n : Nat) (fs : List Frame) : List (List (BitVec 40)) :=
  fs.mapIdx fun i f => { f with ft := (fs.length - 1 - i) % 2 == 1 }.words n

/-- The segments whose code in page 8 is 0 as in every page: the failed ones and the idle spares (R179, R182). -/
def Dev.deadSegs (d : Dev) : List Nat :=
  (List.range 256).filter fun k => d.segState k == segOpen || d.segState k == segShort || d.segState k == segSpareIdle

/-- A bring-up ends: the count and the classes of the drivers put the chain up or in fault (R175). Chain E starts with code 0 in
every group page, and page 8 takes free values; chain L starts with the units and codes of its lamps. -/
def Dev.bringupDone (d : Dev) (l : Bool) (count : Nat) (drivers : List (BitVec 16 × BitVec 16)) : Dev :=
  let c := d.chain l
  if !c.bringup then d
  else
    let d := d.setFld (if l then F.BLW_STAT_L_DRV else F.BLW_STAT_E_DRV) count
    let found := drivers.take count
    if count = 17 ∨ count ≠ d.par (if l then P.blw_l_drivers else P.blw_e_drivers) 0 then d.chainFault l
    else
      let d := d.putDrivers l found
      let cls := if l then 2 else 1
      if found.length ≠ count ∨ found.any (fun x => decide (x.1.toNat / 256 ≠ cls)) then d.chainFault l
      else
        let seed := d.freeCtr + 1
        let c := { c with bringup := false, drivers := count, enable := d.enableMasks l found, calSeed := if l then 0 else seed,
                          calZero := if l then [] else d.deadSegs }
        let d := if l then d else { d with freeCtr := seed + 256 }
        let d := (d.setChain l c).setFlag (if l then F.BLW_STAT_L_UP else F.BLW_STAT_E_UP) true
        if l then
          let units := (List.range count).foldl (fun m n => sset (fun _ => 0) n (d.driverUnit n) m) []
          let d := (List.range (16 * count)).foldl Dev.wantLamp (d.setChain true { c with units := units })
          let x := d.blw.l.drain d.blw.l.queue.length
          let d := d.setChain true { x.2 with sent := framesSent count (x.2.setup true ++ x.1) }
          (List.range (16 * count)).foldl (fun (d : Dev) k => d.showLamp k (d.lampCodeNow k)) d
        else d.setChain false { c with sent := framesSent count (c.setup false) }

/-- `CHAIN_BRINGUP_DONE` (R175). -/
def execChainBringupDone (chainL : Bool) (count : Nat) (drivers : List (BitVec 16 × BitVec 16)) (s : State) :
    Host.Outcome State Fault Refusal := .next (s.onDev fun _ d => d.bringupDone chainL count drivers)

/-! ## Chain E at a slot boundary (R170, R171) -/

/-- The chain E latch is suppressed: by a Quench, `emit.stop` or `scan.hold` (R21, R171). -/
def Dev.latchHeld (d : Dev) : Bool := d.safe.latchOff || d.blw.stopReq || d.blw.holdReq

/-- The frame of the next slot is shifted during the present one: the drivers to fire, their page and the pulses of their code;
CTRL words go only where `ctrlOk` (R170). A FAULT read asked for becomes two CTRL reads, low byte and high byte (R165, R179). -/
def Dev.shiftE (d : Dev) (units : List Nat) (page pulses : Nat) (ctrlOk : Bool) : Dev :=
  if !d.chainUp false || d.latchHeld then d
  else
    let c := d.blw.e
    let reads := if ctrlOk then d.blw.readFault.filter (· < 16) else []
    let c := { c with ctrl := c.ctrl ++ reads.flatMap fun n => [CtrlWord.mk n false 4 0 none, CtrlWord.mk n false 4 1 none] }
    let d := if ctrlOk then { d with blw := { d.blw with readFault := d.blw.readFault.filter (16 ≤ ·) } } else d
    let x := c.form (d.slotNo + 1) (if c.nopNext then [] else units) page pulses (ctrlOk && !c.nopNext)
    d.setChain false { x.2 with shifted := some x.1, nopNext := false }

/-- The boundary of a slot on chain E: a shifted frame is committed, or discarded while a suppression holds. -/
def Dev.commitE (d : Dev) : Dev :=
  let held := d.latchHeld
  let d := d.setFlag F.BLW_STAT_E_SUPPRESSED held
  if !d.chainUp false then d
  else if held then d.setChain false d.blw.e.discard
  else
    match d.blw.e.shifted with
    | some f => d.setChain false (d.blw.e.commit false f)
    | none => d

/-- Channels of the last commit that fire: coded and enabled. -/
def Chain.emitting (c : Chain) : List Nat :=
  match c.last with
  | some f => f.segs.filter c.enabled
  | none => []

/-- A shot has ended: missing fire-echo edges, FE_LOST and the reference delay (R79, R173). -/
def Dev.endShot (d : Dev) (x : Shot) : Dev :=
  if !x.fires then d
  else
    let missing := ((x.assign d.refTol).filter (·.isNone)).length
    let d := d.bumpBy C.BLW_E_FE_MISS_CNT missing
    let no := if x.echoes.isEmpty then min 16 (d.blw.noEcho + 1) else 0
    let d := d.setFlag F.BLW_STAT_FE_LOST (no == 16)
    let dly := x.echoes.head?.map fun t => (t - x.base) / 16
    let all := (dly :: d.blw.dlys).take 65536
    let got := all.filterMap id
    let mean := (roundDiv (got.foldl (· + ·) 0 : Nat) got.length).toNat
    let hi := got.foldl max 0
    let lo := got.foldl min hi
    let d := { d with blw := { d.blw with noEcho := no, dlys := all } }
    (d.setFld F.BLW_E_REF_DLY_MEAN (min 65535 mean)).setFld F.BLW_E_REF_DLY_SPREAD (min 65535 (hi - lo))

/-! ## Fire-echo edges (R104, R173, R174) -/

/-- A fire-echo edge of chain E: unexpected emission outside its time (R174). One that the reference may still take fixes it, though it
comes later than R174 allows a code to last (R104). -/
def Dev.fireEcho (d : Dev) (coarse bin : Nat) : Dev :=
  let t := d.edgeTime 512 coarse bin
  match d.shot with
  | none => d
  | some x =>
    let last := x.pulses.getLast?.getD 0
    if d.flag F.BLW_STAT_E_SUPPRESSED || !x.fires || decide (t < x.base) then d.unexpected none
    else
      let late := decide (x.base + 4096 * last + 512000 < t)
      let d := if late then d.unexpected none else d
      if late && !(x.tref.isNone && decide (t ≤ d.nominalRef x + d.refTol)) then d
      else
      let d := { d with shot := some { x with echoes := x.echoes ++ [t] } }
      if x.tref.isNone && decide (t ≤ d.nominalRef x + d.refTol) then d.fixReference t false else d

/-- `FIRE_ECHO_EDGE` (R104). -/
def execFireEchoEdge (coarse : Nat) (bin : Fin 64) (s : State) : Host.Outcome State Fault Refusal :=
  .next (s.onDev fun _ d => if d.locked then d.fireEcho coarse bin.val else d)

/-! ## Status words (R166, R172, R174, R179, R188) -/

/-- A status word passes the check of R172. -/
def statusOk (w : Nat) (ft : Bool) : Bool := bits w 38 2 == 3 && bits w 0 8 == crc8 w && bitAt w 36 == ft

/-- The segments of driver `n` that the shot before commanded are checked against FIRED (R174, R179, R180). -/
def Dev.checkFired (d : Dev) (n fired : Nat) (f : Frame) : Dev :=
  if !f.units.contains n then d
  else (List.range 16).foldl (fun (d : Dev) j =>
    let k := 16 * n + j
    let hit := bitAt fired j
    if f.segs.contains k then
      if hit then
        { d.wear k f.pulses with blw := { (d.wear k f.pulses).blw with misses := sset (fun _ => 0) k 0 d.blw.misses } }
      else if d.segFires k && d.blw.e.enabled k then
        let m := sget (fun _ => 0) k d.blw.misses + 1
        let d := { d with blw := { d.blw with misses := sset (fun _ => 0) k (min 255 m) d.blw.misses } }
        if d.par P.emit_fail_shots 0 ≤ m then d.failSeg k segOpen else d
      else d
    else if hit then d.unexpected (some k) else d) d

/-- A lamp counts as diagnosed, or UNKNOWN, in the `lamp.diagnose` commands that wait for it; a command with nothing left to wait
for completes (R187, R188, R462). -/
def Dev.lampSettled (d : Dev) (k : Nat) (unknown : Bool) : Dev :=
  let ds := d.blw.diag.map fun x =>
    if x.waiting.contains k then
      { x with waiting := x.waiting.filter (· != k), diagnosed := x.diagnosed + b2n (!unknown), unknown := x.unknown + b2n unknown }
    else x
  let done := ds.filter fun x => x.waiting.isEmpty
  let d := { d with blw := { d.blw with diag := ds.filter fun x => !x.waiting.isEmpty } }
  done.foldl (fun (d : Dev) x => d.complete x.pair x.tag 0x0000 (leBytes 2 x.diagnosed ++ leBytes 2 x.unknown)) d

/-- A lamp. -/
def Dev.lamp (d : Dev) (k : Nat) : LampSt := sget (fun _ => {}) k d.blw.lamps

/-- Set a lamp. -/
def Dev.setLamp (d : Dev) (k : Nat) (x : LampSt) : Dev := { d with blw := { d.blw with lamps := sset (fun _ => {}) k x d.blw.lamps } }

/-- The lamps that the START before commanded for at least 4 µs are diagnosed from FIRED (R187, R188). -/
def Dev.checkLamps (d : Dev) (n fired : Nat) (f : Frame) : Dev :=
  (f.segs.filter fun k => k / 16 == n).foldl (fun (d : Dev) k =>
    let long := f.page == 15 || decide (10000 ≤ d.codeTicks k (d.fld (F.BLW_LAMP_STAT_ON_CODE k)))
    if !long || d.fld (F.BLW_LAMP_STAT_STATE k) == 3 then d
    else
      let d := d.setFld (F.BLW_LAMP_STAT_STATE k) (if bitAt fired (k % 16) then 1 else 2)
      let d := d.setLamp k { d.lamp k with due := false, testing := false, reported := false }
      d.lampSettled k false) d

/-- A driver's FAULT byte has come: each channel flagged is SHORT (R179, R188). -/
def Dev.faultByte (d : Dev) (l : Bool) (n high resp : Nat) : Dev :=
  (List.range 8).foldl (fun (d : Dev) j =>
    let k := 16 * n + 8 * high + j
    if !bitAt resp j then d
    else if l then
      if d.fld (F.BLW_LAMP_STAT_STATE k) = 3 then d
      else
        let d := (d.setFld (F.BLW_LAMP_STAT_STATE k) 3).dropEnable true k
        let d := ((d.wantLamp k).setLamp k {}).raise Ev.lampFault
        d.lampSettled k false
    else d.failSeg k segShort) d

/-- What a good status word of driver `n` says: temperature and supply bits, over-current, the response to a CTRL word, and FIRED. -/
def Dev.goodStatus (d : Dev) (l : Bool) (n w : Nat) (last : Frame) (prev : Option Frame) : Dev :=
  let ovt := if l then F.BLW_L_DRV_OVT n else F.BLW_E_DRV_OVT n
  let uv := if l then F.BLW_L_DRV_UV n else F.BLW_E_DRV_UV n
  let d := (d.setFlag ovt (bitAt w 18)).setFlag uv (bitAt w 17)
  let id := if l then 16 + n else n
  let d := if bitAt w 19 && !d.blw.readFault.contains id then
      { d with blw := { d.blw with readFault := d.blw.readFault ++ [id] } } else d
  let d := (last.ctrl.filter fun x => x.driver == n).foldl (fun (d : Dev) x =>
    let d := d.completeOwner x.owner 0x0000 (leBytes 1 (bits w 8 8) ++ leBytes 1 (bits w 16 1))
    if x.rw = false ∧ x.reg = 4 ∧ x.owner = none ∧ bitAt w 16 then d.faultByte l n (x.value % 2) (bits w 8 8) else d) d
  match prev with
  | some f => if l then d.checkLamps n (bits w 20 16) f else d.checkFired n (bits w 20 16) f
  | none => d

/-- A status word fails the check: it counts, its CTRL words go again, a lamp under test stays due; returns whether this makes four
frames in a row (R172). -/
def Dev.badStatus (d : Dev) (l : Bool) (n : Nat) (last : Frame) : Dev × Bool :=
  let d := d.bump (if l then C.BLW_L_RB_ERR_CNT else C.BLW_E_RB_ERR_CNT)
  let c := d.chain l
  let k := sget (fun _ => 0) n c.fails + 1
  let c := { c with fails := sset (fun _ => 0) n k c.fails, ctrl := (last.ctrl.filter fun x => x.driver == n) ++ c.ctrl }
  (d.setChain l c, decide (4 ≤ k))

/-- The status words of the last committed frame have come back, the last driver's first (R166, R172). A word that does not come
fails the check. -/
def Dev.statusReceived (d : Dev) (l : Bool) (words : List Nat) : Dev :=
  let c := d.chain l
  match c.last with
  | none => d
  | some last =>
    if !d.chainUp l || !c.awaiting then d
    else
      let n := c.drivers
      let d := d.setChain l { c with awaiting := false }
      let r := (List.range n).foldl (fun (r : Dev × Bool) i =>
        let w := words.getD (n - 1 - i) 0
        if statusOk w last.ft then
          let d := r.1.setChain l { r.1.chain l with fails := sset (fun _ => 0) i 0 (r.1.chain l).fails }
          (d.goodStatus l i w last c.prev, r.2)
        else
          let x := r.1.badStatus l i last
          (x.1, r.2 || x.2)) (d, false)
      let d := r.1
      if r.2 then d.chainFault l
      else if l then
        let reads := d.blw.readFault.filter (16 ≤ ·)
        let c := d.blw.l
        let d := { d with blw := { d.blw with readFault := d.blw.readFault.filter (· < 16) } }
        let asks := reads.flatMap fun i => [CtrlWord.mk (i - 16) false 4 0 none, CtrlWord.mk (i - 16) false 4 1 none]
        (d.setChain true { c with ctrl := c.ctrl ++ asks }).pumpL
      else d

/-- `CHAIN_STATUS_RECEIVED` (R172). -/
def execChainStatusReceived (chainL : Bool) (words : List (BitVec 40)) (s : State) : Host.Outcome State Fault Refusal :=
  .next (s.onDev fun _ d => d.statusReceived chainL (words.map (·.toNat)))

/-! ## Substitution (R183) -/

/-- One substitution takes place: the codes are queued, the states change and the pairing is kept for the counters set. After a revert
the primary is OK, whatever it was (DESIGN CHOICE, log entry 164). -/
def Dev.substitute (d : Dev) (x : Subst) : Dev :=
  let g := d.par P.slot_seg_group x.primary
  let n := (d.groupPulses g).length
  let e := sget (fun _ => 0) x.primary d.blw.request
  if x.revert then
    if d.segState x.spare = segSpareActive ∨ d.blw.paired.contains (x.primary, x.spare) then
      let d := (d.setFld (F.BLW_SEG_STAT_STATE x.spare) segSpareIdle).setFld (F.BLW_SEG_STAT_STATE x.primary) segOk
      let d := { d with blw := { d.blw with paired := d.blw.paired.filter (· != (x.primary, x.spare)) } }
      (((d.setChain false (d.blw.e.want g x.spare 0)).requestEnergy x.primary e n).raise Ev.segSubst)
    else d
  else if d.segState x.spare = segSpareIdle then
    let d := (d.setFld (F.BLW_SEG_STAT_STATE x.spare) segSpareActive).setFld (F.BLW_SEG_STAT_STATE x.primary) segReplaced
    let d := { d with blw := { d.blw with paired := d.blw.paired ++ [(x.primary, x.spare)] } }
    (((d.setChain false (d.blw.e.want g x.primary 0)).requestEnergy x.spare e n).raise Ev.segSubst)
  else d

/-- The turnaround has begun: the substitutions that wait take place. -/
def Dev.runSubst (d : Dev) : Dev :=
  let todo := d.blw.subst.filter (!·.done)
  let d := { d with blw := { d.blw with subst := d.blw.subst.map fun x => { x with done := true } } }
  todo.foldl Dev.substitute d

/-- The turnaround is over, or scanning has left it: their commands complete. -/
def Dev.endSubst (d : Dev) : Dev :=
  let fin := d.blw.subst.filter (·.done)
  let d := { d with blw := { d.blw with subst := d.blw.subst.filter (!·.done) } }
  fin.foldl (fun (d : Dev) x => d.completeOwner x.owner 0x0000) d

/-! ## Commands of the emitter group (R462) -/

/-- `emit.stop` (R21): the latch is suppressed from the next slot boundary. -/
def bodyEmitStop : Body := fun _ _ d =>
  .ok { d with blw := { d.blw with stopReq := true } } (leBytes 8 (d.slotNo + 1))

/-- `EMIT_STOP` (R21). -/
def execEmitStop (c : Cmd) (s : State) : Host.Outcome State Fault Refusal := .next (s.onDev (runFast 0x0301 c bodyEmitStop))

/-- `emit.resume`. -/
def bodyEmitResume : Body := fun _ _ d => .ok { d with blw := { d.blw with stopReq := false } } []

/-- `EMIT_RESUME` (R462). -/
def execEmitResume (c : Cmd) (s : State) : Host.Outcome State Fault Refusal := .next (s.onDev (runCmd 0x0302 c bodyEmitResume))

/-- `emit.substitute` (R183). A revert needs a substitution in force (DEDUCED, log entry 17). -/
def bodyEmitSubstitute (q : Nat) : Body := fun p _ d =>
  let pr := p.u 0 1
  let sp := p.u 1 1
  let rev := p.u 2 1 == 1
  refuseIf (!d.pairings.contains (sp, pr)) 0x0104 <| refuseIf (!d.chainUp false) 0x0204 <|
    refuseIf (if rev then !d.blw.paired.contains (pr, sp) else d.segState sp != segSpareIdle) 0x0204 <|
    .accept (d.schedule ⟨pr, sp, rev, some (q, p.tag.toNat), false⟩) 0

/-- `EMIT_SUBSTITUTE` (R183). -/
def execEmitSubstitute (c : Cmd) (s : State) : Host.Outcome State Fault Refusal :=
  .next (s.onDev (runCmd 0x0303 c (bodyEmitSubstitute c.pair.val)))

/-- `emit.seg_status`. -/
def bodyEmitSegStatus : Body := fun p _ d =>
  let k := p.u 0 1
  let c := d.blw.e
  .ok d (leBytes 4 (d.reg (Reg.BLW_SEG_STAT k)).toNat ++ leBytes 8 (d.wide64 (Reg.BLW_SEG_PULSES_LO k))
    ++ leBytes 2 (c.code (d.par P.slot_seg_group k) k / 2 ^ (16 - c.res)))

/-- `EMIT_SEG_STATUS` (R462). -/
def execEmitSegStatus (c : Cmd) (s : State) : Host.Outcome State Fault Refusal :=
  .next (s.onDev (runCmd 0x0304 c bodyEmitSegStatus))

/-- `emit.count_commit` (R180). -/
def bodyEmitCountCommit (q : Nat) : Body := fun p _ d =>
  refuseIf (d.storeFull 18 (d.setEntries 18)) 0x0303 <| .accept (d.startCommit 18 (some (q, p.tag.toNat)) 0x0305) 0

/-- `EMIT_COUNT_COMMIT` (R180). -/
def execEmitCountCommit (c : Cmd) (s : State) : Host.Outcome State Fault Refusal :=
  .next (s.onDev (runCmd 0x0305 c (bodyEmitCountCommit c.pair.val)))

/-- `SEG_COUNT_COMMIT_TIMER` (R180): `emit.count_commit_h` has passed. -/
def execSegCountCommitTimer (s : State) : Host.Outcome State Fault Refusal := .next (s.onDev fun _ d => d.autoCommit 18)

/-- `emit.drv_ctrl` (R165). -/
def bodyEmitDrvCtrl (q : Nat) : Body := fun p _ d =>
  let l := p.u 0 1 == 1
  let n := p.u 1 1
  let rw := p.u 2 1 == 1
  let reg := p.u 3 1
  let absent := decide (d.fld (if l then F.BLW_STAT_L_DRV else F.BLW_STAT_E_DRV) ≤ n)
  refuseIf ((rw && reg != 5) || absent || decide (31 < reg)) 0x0104 <| refuseIf (!d.chainUp l) 0x0204 <|
    let c := d.chain l
    let d := d.setChain l { c with ctrl := c.ctrl ++ [CtrlWord.mk n rw reg (p.u 4 2) (some (q, p.tag.toNat))] }
    .accept (if l then d.pumpL else d) 0

/-- `EMIT_DRV_CTRL` (R165). -/
def execEmitDrvCtrl (c : Cmd) (s : State) : Host.Outcome State Fault Refusal :=
  .next (s.onDev (runCmd 0x0306 c (bodyEmitDrvCtrl c.pair.val)))

/-- `lamp.set`. -/
def bodyLampSet : Body := fun p _ d =>
  let src := p.u 1 1
  refuseIf (decide (8 < src ∧ src ≠ 255)) 0x0104 <| refuseIf (!d.chainUp true) 0x0204 <|
    .ok ((d.setPar P.lamp_src (p.u 0 1) src).setPar P.lamp_duty (p.u 0 1) (p.u 2 2)).refreshLamps []

/-- `LAMP_SET` (R462). -/
def execLampSet (c : Cmd) (s : State) : Host.Outcome State Fault Refusal := .next (s.onDev (runCmd 0x0307 c bodyLampSet))

/-- `lamp.status`. -/
def bodyLampStatus : Body := fun p _ d =>
  let k := p.u 0 1
  .ok d (leBytes 4 (d.reg (Reg.BLW_LAMP_STAT k)).toNat ++ leBytes 4 (min (2 ^ 32 - 1) (((d.lampPeriod k).getD 0) * 2 / 5)))

/-- `LAMP_STATUS` (R462). -/
def execLampStatus (c : Cmd) (s : State) : Host.Outcome State Fault Refusal := .next (s.onDev (runCmd 0x0308 c bodyLampStatus))

/-- Lamps of a mask. -/
def maskLamps (m : Nat) : List Nat := (List.range 256).filter (bitAt m)

/-- `lamp.diagnose` (R187): the masked lamps are due now. -/
def bodyLampDiagnose (q : Nat) : Body := fun p _ d =>
  refuseIf (!d.chainUp true) 0x0204 <|
    let ks := maskLamps (p.u 0 32)
    let d := ks.foldl (fun (d : Dev) k => d.setLamp k { d.lamp k with due := true }) d
    if ks.isEmpty then .accept d 1
    else .accept { d with blw := { d.blw with diag := d.blw.diag ++ [LampDiag.mk ks 0 0 q p.tag.toNat] } } 0

/-- `LAMP_DIAGNOSE` (R187). With no lamp in the mask the completion follows at once. -/
def execLampDiagnose (c : Cmd) (s : State) : Host.Outcome State Fault Refusal :=
  .next (s.onDev fun mem d =>
    let d := runCmd 0x0309 c (bodyLampDiagnose c.pair.val) mem d
    (d.cmd.running.filter fun r => r.pkt.opcode.toNat == 0x0309 && r.aux == 1).foldl
      (fun (d : Dev) r => d.finish r 0x0000 (leBytes 2 0 ++ leBytes 2 0)) d)

/-! ## Cameras and lamp timing (R184, R186, R187, R188) -/

/-- The mean of the last periods of an input. -/
def CamSt.mean (c : CamSt) : Nat := c.periods.foldl (· + ·) 0 / max 1 c.periods.length

/-- The START of page `s` that serves an exposure predicted at `t`: `lamp.sync_delay_ns` from it, in 0.2 ns (R186). -/
def Dev.startAt (d : Dev) (s : Nat) (t : Nat) : Int := 2 * (t : Int) + 5 * d.parI P.lamp_sync_delay_ns s

/-- A CAM_SYNC edge: an exposure start updates the mean of the last 8 periods, and places the START of the next exposure where it is one
that is served (R186). The first edge after a loss resynchronises. -/
def Dev.camEdge (d : Dev) (s : Nat) (level : Bool) (stamp : Nat) : Dev :=
  if level != bitAt (d.par P.lamp_sync_pol 0) s then d
  else
    let c := d.cam s
    let periods := match c.last with
      | some t => if c.lost then c.periods else ((stamp - t) :: c.periods).take 8
      | none => c.periods
    let c : CamSt := { last := some stamp, periods := periods, count := c.count + 1, lost := false }
    let start := if periods.isEmpty || c.count % everyM c.mean != 0 then none else some (d.startAt s (stamp + c.mean))
    (d.setCam s { c with start := start }).refreshLamps

/-- `CAM_SYNC_EDGE` (R186), stamped in coarse periods of device time. -/
def execCamSyncEdge (input : Fin 8) (level : Bool) (stamp : Nat) (s : State) : Host.Outcome State Fault Refusal :=
  .next (s.onDev fun _ d => d.camEdge input.val level stamp)

/-- `CAM_SYNC_LOST` (R186): no edge for 3 periods; the source goes on at its last period, the next exposure a period on. -/
def execCamSyncLost (input : Fin 8) (s : State) : Host.Outcome State Fault Refusal :=
  .next (s.onDev fun _ d =>
    let c := d.cam input.val
    if c.periods.isEmpty || c.lost then d
    else
      let p := c.periods.headD 0
      let t := c.last.getD 0 + 3 * p
      (d.setCam input.val { c with lost := true, last := some t, start := some (d.startAt input.val (t + p)) }).raise Ev.camSyncLost)

/-- A START of page `s` is due: of a camera's page where one is placed, of page 8 at any time (R184, R186). -/
def Dev.startDue (d : Dev) (s : Nat) : Bool := decide (s = 8) || (decide (s < 8) && (d.cam s).start.isSome)

/-- A START of a camera's page has been committed: the next is placed by the next exposure, or, of a source that is lost, at its last
period. -/
def Dev.startNext (d : Dev) (s : Nat) : Dev :=
  if s = 8 then d
  else
    let c := d.cam s
    let p := c.periods.headD 0
    d.setCam s { c with start := if c.lost then c.start.map fun t => t + 2 * (p * everyM p : Nat) else none }

/-- A START of a page is committed: one write per driver rides along (R164, R184). -/
def Dev.startLamps (d : Dev) (page : Nat) : Dev :=
  let c := d.blw.l
  let x := c.form d.slotNo (List.range c.drivers) page 1 false
  d.commitL x.2 x.1

/-- `LAMP_START_COMMIT` (R184, R186): every 1,024th period of a lamp whose on-time is shorter than 4 µs is due for diagnosis. -/
def execLampStartCommit (page : Fin 16) (s : State) : Host.Outcome State Fault Refusal :=
  .next (s.onDev fun _ d =>
    if !d.chainUp true || !d.startDue page.val then d
    else
      let d := (d.startNext page.val).startLamps page.val
      let lit := ((d.blw.l.last.map (·.segs)).getD []).filter fun k =>
        decide (d.codeTicks k (d.fld (F.BLW_LAMP_STAT_ON_CODE k)) < 10000)
      lit.foldl (fun (d : Dev) k =>
        let x := d.lamp k
        let n := (x.periods + 1) % 1024
        d.setLamp k { x with periods := n, due := x.due || n == 0 }) d)

/-- `LAMP_DIAG_GAP` (R187): a gap of the source begins. Page 15 holds 4 µs for every lamp of the source then due, and is started; a
gap during a chain L reference apply is passed over and counted (R144). -/
def execLampDiagGap (source : Fin 9) (s : State) : Host.Outcome State Fault Refusal :=
  .next (s.onDev fun _ d =>
    let due := (List.range (16 * d.blw.l.drivers)).filter fun k => (d.lamp k).due && d.par P.lamp_src k == source.val
    if !d.chainUp true || due.isEmpty then d
    else if d.flag F.KILN_BUR_REF_ACT_L_OFFLINE then
      d.setFld F.KILN_BUR_REF_ACT_L_SKIP (min (2 ^ F.KILN_BUR_REF_ACT_L_SKIP.width - 1) (d.fld F.KILN_BUR_REF_ACT_L_SKIP + 1))
    else
      let c := d.blw.l
      let pages := sclear (fun k => k / 256 == 15) c.pages
      let pages := due.foldl (fun m k => sset (fun _ => 0) (15 * 256 + k) (d.diagCode k) m) pages
      let d := d.setChain true { c with pages := pages }
      let d := due.foldl (fun (d : Dev) k => d.setLamp k { d.lamp k with testing := true }) d
      d.startLamps 15)

/-- `LAMP_DIAG_TIMEOUT` (R188): a due lamp has found no gap in 2 s. It is due again with its next 1,024th period (DESIGN CHOICE, log
entry 165). -/
def execLampDiagTimeout (lamp : Fin 256) (s : State) : Host.Outcome State Fault Refusal :=
  .next (s.onDev fun _ d =>
    let x := d.lamp lamp.val
    if !x.due || x.testing then d
    else
      let d := d.setFld (F.BLW_LAMP_STAT_STATE lamp.val) 4
      let d := d.setLamp lamp.val { x with due := false, reported := true }
      let d := if x.reported then d else d.raise Ev.lampUndiagnosed
      d.lampSettled lamp.val true)

/-! ## Code checks (R159, R161) -/

/-- Differences between the pulses of two codes. -/
def pulseDiffs (a b : List Nat) : List Int := a.flatMap fun (x : Nat) => b.map fun (y : Nat) => (x : Int) - y

/-- The largest number of pulses of `a` within one grid unit of pulses of `b` under any shift: a shift places some pulse of `a` on
the edge of some window. -/
def crossMax (a b : List Nat) : Nat :=
  let shifts := (pulseDiffs a b).flatMap fun x => [x - 1, x, x + 1]
  shifts.foldl (fun m s => max m ((a.filter fun (x : Nat) => b.any fun (y : Nat) => decide (absI ((x : Int) - y - s) ≤ 1)).length)) 0

/-- The codes in use. -/
def Dev.codesInUse (d : Dev) : List Nat :=
  (List.range (d.par P.slot_groups 0)).foldl (fun acc g => if acc.contains (d.par P.code_group g) then acc else acc ++ [d.par P.code_group g]) []

/-- The smallest gap of a code. -/
def minGap (l : List Nat) : Nat := (l.zip l.tail).foldl (fun a x => min a (x.2 - x.1)) 1024

/-- The bytes of the book in use. -/
def Dev.bookBytes (d : Dev) : List Byte := (List.range 64).flatMap fun c => leBytes 16 (d.bookEntry c)

/-- `BLW_CODE_CHK` (R159, R161). -/
def Dev.codeChk (d : Dev) : Word :=
  let use := d.codesInUse
  let xmax := use.foldl (fun m a => use.foldl (fun m b => if a = b then m
    else max m (crossMax (codePulses (d.bookEntry a)) (codePulses (d.bookEntry b)))) m) 0
  let gap := use.foldl (fun m a => min m (minGap (codePulses (d.bookEntry a)))) 1024
  let clash := (List.range 64).any fun s => d.domOn s && decide (gap ≤ d.forceFld (F.SLICE_FE_CTL_HOLDOFF s))
  BitVec.ofNat 32 (min 15 xmax + d.par P.code_book_sel 0 * 16 + 32 * b2n clash + 2 ^ 16 * crc16 d.bookBytes)

end Sys2Proof.Machine
end

