-- ==== Sys2Proof/Machine/Kiln.lean ====
section
/-! DEFINITION. The Kiln (chapter 07, with the pulse stage of chapter 04): draining of stamps, pulse descriptors, code matching,
histograms, peaks, centroid, range, width, intensity, confidence and class. -/

namespace Sys2Proof.Machine

/-! ## Settings of a pixel (R203) -/

/-- Parameters that a pixel takes at the first shot of its dwell: those of the Kiln (R203) and those of its sod update (R275). -/
def kilnSnap : List Nat :=
  [P.ember_win_min, P.kiln_group_max, P.kiln_peak_min, P.kiln_peak_sigma, P.kiln_cent_gate, P.kiln_pulse_fwhm_ps, P.kiln_int_level,
   P.kiln_int_thresh, P.kiln_norm_range_m, P.kiln_norm_energy_nj, P.kiln_retro_mv, P.kiln_int_support, P.kiln_mp_span_m,
   P.kiln_mp_ratio, P.kiln_fog_width_ps, P.kiln_wx_range_m, P.kiln_wx_spread_ps, P.kiln_wx_support, P.kiln_ext_width_ps, P.emit_e_max] ++ (List.range 37).map (0x0D00 + ·)

/-- Key of the `SLICE_EM_CTL` word and of the `SLICE_CH_CFG` word among a pixel's settings. -/
abbrev snapEmCtl : Nat := 2 ^ 40
/-- The channel configuration word. -/
abbrev snapChCfg : Nat := 2 ^ 40 + 1
/-- The front-end control word. -/
abbrev snapFeCtl : Nat := 2 ^ 40 + 2
/-- HOLDOFF of a front-end control word. -/
def feHoldoff (w : Nat) : Nat := bits w 0 8
/-- BLANK of a front-end control word. -/
def feBlank (w : Nat) : Nat := bits w 8 6

/-- The settings of a pixel of row `ch` at the present boundary. -/
def Dev.snapshot (d : Dev) (ch : Nat) : List (Nat × Nat) :=
  kilnSnap.map (fun i => (i, d.par i 0)) ++
    [(snapEmCtl, (d.force (Reg.SLICE_EM_CTL (ch / 8))).toNat), (snapChCfg, (d.chCfg ch).toNat),
     (snapFeCtl, (d.force (Reg.SLICE_FE_CTL (ch / 8))).toNat)]

/-- A setting of a pixel. -/
def Pixel.get (p : Pixel) (i : Nat) : Nat := ((p.par.find? fun x => x.1 == i).map (·.2)).getD 0

/-- The window of a pixel after coercion (R107). -/
def Pixel.win (p : Pixel) : Nat × Nat := coerceWindow (if p.twoSlot then 16000 else 8000) (p.get P.ember_win_min) p.wo p.wc

/-- The width of a coarse histogram bin, fine units (R202). -/
def Pixel.binW (p : Pixel) : Nat := if p.win.2 ≤ 8000 then 2048 else 4096

/-- FALL_EN of the pixel's channel. -/
def Pixel.fallEn (p : Pixel) : Bool := bitAt (p.get snapChCfg) 6

/-! ## Pixels in flight -/

/-- Change the pixels that satisfy a condition. -/
def Dev.modPixels (d : Dev) (f : Pixel → Pixel) : Dev := { d with kiln := { d.kiln with pixels := d.kiln.pixels.map f } }

/-- The pixel of a row that has a shot in a slot. -/
def Dev.pixelOf (d : Dev) (ch slot : Nat) : Option Pixel :=
  d.kiln.pixels.find? fun p => p.row == ch && p.shots.any fun y => y.slot == slot

/-- Put a pixel back after a change. -/
def Dev.putPixel (d : Dev) (p : Pixel) : Dev := d.modPixels fun x => if x.row == p.row && x.slot0 == p.slot0 then p else x

/-- Change one shot of a pixel. -/
def Pixel.modShot (p : Pixel) (slot : Nat) (f : DwellShot → DwellShot) : Pixel :=
  { p with shots := p.shots.map fun x => if x.slot = slot then f x else x }

/-- Records of the group store of a slice in use (R197). -/
def Dev.groupsUsed (d : Dev) (s : Nat) : Nat :=
  (d.kiln.pixels.filter fun p => p.row / 8 == s).foldl (fun a p => a + p.groups.length) 0

/-- Frames of a slice in use (R195). -/
def Dev.framesUsed (d : Dev) (s : Nat) : Nat := (d.kiln.pixels.filter fun p => p.row / 8 == s && p.hasFrame).length

/-- `SLICE_KILN_OCC` follows the pixels in flight (R218). -/
def Dev.showOcc (d : Dev) (s : Nat) : Dev :=
  let f := d.framesUsed s
  let d := (d.setFld (F.SLICE_KILN_OCC_FRAMES s) f).setFld (F.SLICE_KILN_OCC_FRAMES_HWM s) (max f (d.fld (F.SLICE_KILN_OCC_FRAMES_HWM s)))
  d.setFld (F.SLICE_KILN_OCC_GROUPS_HWM s) (max (d.groupsUsed s) (d.fld (F.SLICE_KILN_OCC_GROUPS_HWM s)))

/-! ## Pulse descriptors (R120, R121) -/

/-- The correction of the walk table for a time over threshold, linear between its 400 ps entries (R121). -/
def walkTable (lut tot : Nat) : Nat :=
  let i := tot / 256
  let a := bits lut (16 * min i 31) 16
  if 31 ≤ i then a
  else
    let b := bits lut (16 * (i + 1)) 16
    (roundDiv ((a : Int) * (256 - tot % 256) + (b : Int) * (tot % 256)) 256).toNat

/-- The threshold code of a level among LO, MID and HI. -/
def thrOf (t : Nat × Nat × Nat) (l : Nat) : Nat := if l = 0 then t.1 else if l = 1 then t.2.1 else t.2.2

/-- The corrected time of a pulse (R121). -/
def correct (walk : Bool) (lut : Nat) (thr : Nat × Nat × Nat) (noWalk : Bool) (tLo level tL tot : Nat) : Nat :=
  if !walk || noWalk then tLo
  else
    let a := thr.1
    let b := thrOf thr level
    let tc : Int := if 0 < level ∧ a < b then (tLo : Int) - roundDiv ((a : Int) * ((tL : Int) - tLo)) (b - a)
      else (tLo : Int) - walkTable lut tot
    (max tc (max 0 ((tLo : Int) - 2048))).toNat

/-- A pulse closes, with its LO falling stamp or without one: its descriptor goes to its shot (R120). A level that rose inside the
pulse and has no falling stamp there leaves ToT_L unstated: a free value (DESIGN CHOICE, log entry 18). -/
def Dev.closePulse (d : Dev) (ch : Nat) (fall : Option Nat) : Dev :=
  let c := d.chan ch
  match c.openPulse with
  | none => d
  | some o =>
    let d := d.setChan ch { c with openPulse := none }
    match d.pixelOf ch o.slot with
    | none => d
    | some p =>
      let noWalk := fall.isNone || !p.fallEn
      let level := o.rises.foldl (fun a x => max a x.1) 0
      let tL := ((o.rises.find? fun x => x.1 == level).map (·.2)).getD o.tLo
      let tot := (fall.getD o.tLo) - o.tLo
      let lFall := (o.falls.find? fun x => x.1 == level && decide (tL ≤ x.2)).map (·.2)
      let open_ := decide (level ≠ 0) && !noWalk && lFall.isNone
      let totL := if level = 0 then tot else if open_ then d.free 16 else (lFall.getD tL) - tL
      let d := if open_ then d.freeNext else d
      let walk := bitAt (p.get snapEmCtl) 2
      let q : Pulse :=
        { slot := o.slot, tc := correct walk (d.par P.ember_walk_lut (ch / 8)) p.thr noWalk o.tLo level tL tot,
          totLo := tot, level := level, totL := totL, ovr := o.ovr, noWalk := noWalk, slot2 := o.slot2 }
      d.putPixel (p.modShot o.slot fun x => { x with pulses := x.pulses ++ [q] })

/-- One stamp drained from a channel's queue (R120). -/
def Dev.takeStamp (d : Dev) (ch : Nat) (r : StampRec) : Dev :=
  let w := r.word.toNat
  let t := bits w 0 24
  let cmp := bits w 24 2
  let ovr := bitAt w 27
  let stale := match (d.chan ch).openPulse with
    | some o => o.slot != r.slot
    | none => false
  let d := if stale then d.closePulse ch none else d
  let d := match d.pixelOf ch r.slot with
    | some p => if bitAt w 26 && !ovr && !bitAt w 28 then
        d.putPixel (p.modShot r.slot fun x => { x with rises := x.rises ++ [(cmp, t)] }) else d
    | none => d
  let c := d.chan ch
  if bitAt w 26 then
    if cmp = 0 then
      let d := d.closePulse ch none
      d.setChan ch { d.chan ch with openPulse := some { slot := r.slot, tLo := t, ovr := ovr, slot2 := bitAt w 29 } }
    else
      d.setChan ch { c with openPulse := c.openPulse.map fun o => { o with rises := o.rises ++ [(cmp, t)], ovr := o.ovr || ovr } }
  else if cmp = 0 then
    let d := d.setChan ch { c with openPulse := c.openPulse.map fun o => { o with ovr := o.ovr || ovr } }
    d.closePulse ch (some t)
  else
    d.setChan ch { c with openPulse := c.openPulse.map fun o => { o with falls := o.falls ++ [(cmp, t)], ovr := o.ovr || ovr } }

/-! ## Matching (R198 to R202) -/

/-- Pulse offsets of a shot in fine units (R198). -/
def Shot.offsets (x : Shot) (tol : Nat) : List Nat :=
  if x.refEst then x.pulses.map (256 * ·)
  else
    (x.pulses.zip (x.assign tol)).map fun y =>
      match x.tref, y.2 with
      | some r, some e => (roundDiv ((e : Int) - r) 16).toNat
      | _, _ => 256 * y.1

/-- Insert a descriptor by its corrected time. -/
def insPulse (q : Pulse) : List Pulse → List Pulse
  | [] => [q]
  | x :: xs => if q.tc < x.tc then q :: x :: xs else x :: insPulse q xs

/-- The descriptor nearest a time within a tolerance, ties to the earlier. -/
def nearPulse (at_ : Int) (tol : Nat) (l : List Pulse) : Option Pulse :=
  l.foldl (fun (acc : Option Pulse) q =>
    let e := absI ((q.tc : Int) - at_)
    if tol < e then acc
    else
      match acc with
      | none => some q
      | some b => if e < absI ((b.tc : Int) - at_) then some q else acc) none

/-- The members that pulse index `i` of the code gives descriptor `q`: each with its offset. -/
def membersAt (offs : List Nat) (tol : Nat) (q : Pulse) (rest : List Pulse) (i : Nat) : List (Pulse × Nat) :=
  let pi := offs.getD i 0
  (q, pi) :: (offs.drop (i + 1)).filterMap fun (pj : Nat) =>
    (nearPulse ((q.tc : Int) - pi + pj) tol rest).map fun x => (x, pj)

/-- The best pulse index for a descriptor: the first with the most members. -/
def bestMembers (offs : List Nat) (tol : Nat) (q : Pulse) (rest : List Pulse) : List (Pulse × Nat) :=
  ((List.range offs.length).map (membersAt offs tol q rest)).foldl (fun a b => if a.length < b.length then b else a) []

/-- The matcher over the descriptors of a shot in order of t_c: its groups and its unmatched descriptors (R199); `n` bounds the
descriptors. A group consumes each of its members once: a second descriptor with the same contents stays. -/
def matchShot (offs : List Nat) (tol k : Nat) : Nat → List Pulse → List (List (Pulse × Nat)) × List Pulse
  | 0, _ => ([], [])
  | _, [] => ([], [])
  | n + 1, q :: rest =>
    let m := bestMembers offs tol q rest
    if 0 < m.length ∧ k ≤ m.length then
      let r := matchShot offs tol k n ((m.tail.map (·.1)).foldl List.erase rest)
      (m :: r.1, r.2)
    else
      let r := matchShot offs tol k n rest
      (r.1, q :: r.2)

/-- The record of a group (R197, R200); `tg` is its time. A member without a falling stamp has ToT 0 and counts in the means. -/
def groupRec (m : List (Pulse × Nat)) (tg shot : Nat) (refEst : Bool) : Group :=
  let qs := m.map (·.1)
  let level := qs.foldl (fun a q => min a q.level) 2
  let at_ := qs.filter fun q => q.level == level
  { tg := tg, m := m.length, level := level, ovr := qs.any (·.ovr), refEst := refEst, shot := shot, noWalk := qs.any (·.noWalk),
    totLo := min 4095 (roundDiv (qs.foldl (fun a q => a + q.totLo) 0 : Nat) (8 * qs.length)).toNat,
    totL := if level = 0 then 0
      else min 4095 (roundDiv (at_.foldl (fun a q => a + q.totL) 0 : Nat) (8 * at_.length)).toNat }

/-- A group enters the histogram, and the group store where there is room (R197, R200, R202). -/
def Dev.addGroup (d : Dev) (ch slot shot : Nat) (refEst : Bool) (m : List (Pulse × Nat)) : Dev :=
  let s := ch / 8
  match d.pixelOf ch slot with
  | none => d
  | some p =>
    let tol := bits p.ctl.toNat 4 11
    let t : Int := roundDiv (m.foldl (fun (a : Int) x => a + ((x.1.tc : Int) - x.2)) 0) m.length
    let w := p.win
    let d := d.bump (C.SLICE_KILN_GROUP s)
    if t < (w.1 * 256 : Nat) - (tol : Int) ∨ (w.2 * 256 : Nat) ≤ t then
      (d.bump (C.SLICE_KILN_GOUT_CNT s)).mark (Reg.SLICE_KILN_STAT s) 2
    else
      let tg := t.toNat
      let bin := tg / p.binW
      let p : Pixel := { p with hist := sset (fun _ => 0) bin (sget (fun _ => 0) bin p.hist + m.length) p.hist }
      if p.groups.length < p.get P.kiln_group_max ∧ d.groupsUsed s < 4096 then
        (d.putPixel { p with groups := p.groups ++ [groupRec m tg shot refEst] }).showOcc s
      else
        ((d.putPixel p).bump (C.SLICE_KILN_GLIST_DROP_CNT s)).sticky (Reg.SLICE_KILN_STAT s) 1 (Ev.kilnGlist s)

/-- Unmatched descriptors of a shot: strong ones are interference (R201). -/
def Dev.addUnmatched (d : Dev) (ch slot : Nat) (l : List Pulse) : Dev :=
  let s := ch / 8
  match d.pixelOf ch slot with
  | none => d
  | some p =>
    let strong := (l.filter fun q => decide (p.get P.kiln_int_level ≤ q.level)).length
    ((d.putPixel { p with interference := p.interference + strong }).bumpBy (C.SLICE_KILN_UNM s) l.length).bumpBy (C.SLICE_KILN_INT s) strong

/-- The descriptors of a shot are matched once its summary is consumed (R198, R199); those of a suppressed shot count as unmatched
(R201). A pixel without a frame forms no groups (R196). -/
def Dev.matchOf (d : Dev) (ch : Nat) (sm : Summary) : Dev :=
  match d.pixelOf ch sm.slot with
  | none => d
  | some p =>
    match p.shots.find? fun x => x.slot == sm.slot with
    | none => d
    | some x =>
      let qs := x.pulses.foldl (fun acc q => insPulse q acc) []
      if sm.suppressed then d.addUnmatched ch sm.slot qs
      else if !p.hasFrame then d
      else
        let offs := match d.shot with
          | some y => if y.slot = sm.slot then y.offsets d.refTol else x.offsets
          | none => x.offsets
        let k := min (bits p.ctl.toNat 0 4) offs.length
        let r := matchShot offs (bits p.ctl.toNat 4 11) k qs.length qs
        let shot := (p.shots.findIdx? fun y => y.slot == sm.slot).getD 0
        let d := r.1.foldl (fun (d : Dev) m => d.addGroup ch sm.slot shot sm.refEst m) d
        d.addUnmatched ch sm.slot r.2

/-! ## Draining (R113, R118) -/

/-- The oldest summary of a channel is consumed once its shot's last stamp has been drained (R118). -/
def Dev.takeSummary (d : Dev) (ch : Nat) : Dev :=
  let c := d.chan ch
  match c.summaries with
  | [] => d
  | sm :: rest =>
    if c.queue.any fun r => r.slot == sm.slot then d
    else
      let d := d.setChan ch { c with summaries := rest }
      let d := match (d.chan ch).openPulse with
        | some o => if o.slot = sm.slot then d.closePulse ch none else d
        | none => d
      let d := match d.pixelOf ch sm.slot with
        | some p => d.putPixel (p.modShot sm.slot fun x => { x with summary := some sm, suppressed := sm.suppressed })
        | none => d
      d.matchOf ch sm

/-- One position of the round robin of a slice (R113). -/
def Dev.drain (d : Dev) (s : Nat) : Dev :=
  let i := sget (fun _ => 0) s d.kiln.turn
  let ch := 8 * s + i
  let d := { d with kiln := { d.kiln with turn := sset (fun _ => 0) s ((i + 1) % 8) d.kiln.turn } }
  let c := d.chan ch
  let d := match c.queue with
    | [] => d
    | r :: rest => (d.setChan ch { c with queue := rest }).takeStamp ch r
  d.takeSummary ch

/-- `EMBER_DRAIN` (R113). -/
def execEmberDrain (slice : Fin 64) (s : State) : Host.Outcome State Fault Refusal :=
  .next (s.onDev fun _ d => if d.domOn slice.val then d.drain slice.val else d)

/-! ## Peaks (R204, R205) -/

/-- A dwell's shots that were not suppressed. -/
def Pixel.fired (p : Pixel) : List DwellShot := p.shots.filter fun x => !x.suppressed

/-- Contents of a bin, 0 outside the window. -/
def Pixel.bin (p : Pixel) (i : Int) : Nat :=
  let w := p.win
  let lo : Int := (w.1 * 256 / p.binW : Nat)
  let hi : Int := ((w.2 * 256 - 1) / p.binW : Nat)
  if lo ≤ i ∧ i ≤ hi then sget (fun _ => 0) i.toNat p.hist else 0

/-- S3 of a bin. -/
def Pixel.s3 (p : Pixel) (i : Int) : Nat := p.bin (i - 1) + p.bin i + p.bin (i + 1)

/-- Insert in descending order. -/
def insDesc (v : Nat) : List Nat → List Nat
  | [] => [v]
  | x :: xs => if x < v then v :: x :: xs else x :: insDesc v xs

/-- The background level b in 1/16 counts: the mean of the bins of the window without the 16 largest (R204). -/
def Pixel.bkg (p : Pixel) : Nat :=
  let w := p.win
  let lo := w.1 * 256 / p.binW
  let hi := (w.2 * 256 - 1) / p.binW
  let inside := (p.hist.filter fun e => decide (lo ≤ e.1 ∧ e.1 ≤ hi)).map (·.2)
  let top := (inside.foldl (fun acc v => insDesc v acc) []).take 16
  (roundDiv (16 * (inside.foldl (· + ·) 0 - top.foldl (· + ·) 0) : Nat) (hi + 1 - lo - 16)).toNat

/-- K(i) > K(j) in the order of R204. -/
def keyLt (a b : Nat × Nat) : Bool := decide (a.1 < b.1) || (a.1 == b.1 && decide (a.2 < b.2))

/-- E of a bin in 1/16 counts. -/
def Pixel.e16 (p : Pixel) (i : Nat) : Int := 16 * (p.s3 i : Int) - 3 * p.bkg

/-- A bin is a candidate (R204). -/
def Pixel.isCandidate (p : Pixel) (i : Nat) : Bool :=
  let k (j : Int) : Nat × Nat := (p.s3 j, p.bin j)
  let e := p.e16 i
  let sg := p.get P.kiln_peak_sigma
  keyLt (k ((i : Int) - 1)) (k i) && !keyLt (k i) (k ((i : Int) + 1)) && decide (16 * (p.get P.kiln_peak_min : Int) ≤ e)
    && decide (0 ≤ e ∧ ((sg * sg * 3 * p.bkg : Nat) : Int) ≤ e * e * 16)

/-- Bins at or beside a bin that holds something. -/
def Pixel.liveBins (p : Pixel) : List Nat :=
  ((p.hist.flatMap fun e => [e.1 - 1, e.1, e.1 + 1]).foldl (fun acc v => if acc.contains v then acc else insDesc v acc) []).reverse

/-- Insert a candidate in descending order of E, ties to the lower bin. -/
def insCand (x : Int × Nat) : List (Int × Nat) → List (Int × Nat)
  | [] => [x]
  | y :: ys => if y.1 < x.1 then x :: y :: ys else y :: insCand x ys

/-- The candidates taken: at most four, none within one bin of one taken before (R205). -/
def Pixel.peaks (p : Pixel) : List Nat :=
  let all := (p.liveBins.filter p.isCandidate).map fun i => (p.e16 i, i)
  let sorted := all.foldl (fun acc x => insCand x acc) []
  sorted.foldl (fun acc x => if acc.length < 4 && acc.all (fun j => decide (1 < absI ((j : Int) - x.2))) then acc ++ [x.2] else acc) []

/-! ## Zoom, centroid and the echo (R206 to R211) -/

/-- Listed groups in bins i − 1 to i + 1. -/
def Pixel.near (p : Pixel) (i : Nat) : List Group :=
  p.groups.filter fun g => decide (absI ((g.tg / p.binW : Nat) - (i : Int)) ≤ 1)

/-- ΣM over groups. -/
def sumM (l : List Group) : Nat := l.foldl (fun a g => a + g.m) 0

/-- The M-weighted mean of group times, rounded. -/
def meanT (l : List Group) : Int := roundDiv (l.foldl (fun a g => a + g.m * g.tg) 0 : Nat) (sumM l)

/-- The zoom centre of a candidate. -/
def Pixel.zoomCentre (p : Pixel) (i : Nat) : Int := if (p.near i).isEmpty then (i * p.binW + p.binW / 2 : Nat) else meanT (p.near i)

/-- Zoom bin `j`. -/
def Pixel.zoom (p : Pixel) (cz : Int) (j : Int) : Nat :=
  if j < 0 ∨ 63 < j then 0
  else sumM (p.groups.filter fun g => decide (cz - 1024 + 32 * j ≤ g.tg ∧ (g.tg : Int) < cz - 992 + 32 * j))

/-- The gate centre of a candidate (R206). -/
def Pixel.gate (p : Pixel) (cz : Int) : Int :=
  let z := (List.range 64).map fun (j : Nat) => p.zoom cz j
  let t (j : Nat) : Nat := (if j = 0 then 0 else z.getD (j - 1) 0) + z.getD j 0 + z.getD (j + 1) 0
  let best := (List.range 64).foldl (fun a j => if t a < t j then j else a) 0
  cz - 1024 + 32 * (best : Int) + 16

/-- K of R208 for a scale in ppm. -/
def rangeScale (ppm : Int) : Nat := (roundDiv (1571775882 * (1000000 + ppm)) 100000000).toNat

/-- t_rz of an echo time on a row (R145). -/
def Dev.zeroed (d : Dev) (row : Nat) (te : Int) : Int :=
  let s := row / 8
  te - d.parI P.cal_range_zero row - roundDiv (d.parI P.cal_range_zero_tc s * (d.unitTemp s - d.parI P.burnish_rz_t0 0)) 256

/-- The range in 0.25 mm units (R208). -/
def rangeOf (k : Nat) (trz : Int) : Nat := if trz ≤ 0 then 0 else (roundDiv (trz * k) (2 ^ 24)).toNat

/-- The level that occurs most often, ties to the higher (R209). -/
def modeLevel (l : List Group) : Nat :=
  let n (v : Nat) : Nat := (l.filter fun g => g.level == v).length
  [2, 1, 0].foldl (fun a v => if n a < n v then v else a) 2

/-- Units of an amplitude in one mV. -/
abbrev ampOne : Nat := 2 ^ 24

/-- What R209 gives an echo. -/
structure WidthAmp where
  /-- width in 0.4 ns units and in whole ps, amplitude in 1/`ampOne` mV -/
  width : Nat
  ps : Nat
  amp : Nat
  /-- the rule states no result: LO at 0 mV under a higher level -/
  open_ : Bool := false
  deriving DecidableEq, Repr

/-- An exponent held to a size whose power passes every bound that the rules put on it. -/
def boundExp (y : Int) : Int := min y (100 * 2 ^ 48)

/-- Width and amplitude of an echo from its groups (R209). The highest level crossed is the highest L of the groups. -/
def widthAmp (p : Pixel) (c : List Group) : WidthAmp :=
  let h (l : Nat) : Nat := 150 * 2 ^ 16 * thrOf p.thr l
  let timed := p.fallEn && c.any fun g => !g.noWalk
  let l := modeLevel c
  let u := c.filter fun g => g.level == l
  let n := u.length
  let sLo := u.foldl (fun a g => a + g.totLo * g.totLo) 0
  let sL := u.foldl (fun a g => a + g.totL * g.totL) 0
  if !timed then { width := 0, ps := 0, amp := h (c.foldl (fun a g => max a g.level) 0) }
  else if 0 < l ∧ h 0 < h l ∧ sL < sLo then
    if h 0 = 0 then { width := 0, ps := 0, amp := 0, open_ := true }
    else
      let r := lnFix (h l) (h 0)
      let y := r * sLo / ((sLo - sL : Nat) : Int)
      let num := 23548 * 23548 * 15625 * 2 ^ 48 * (sLo - sL)
      let den := 10 ^ 10 * n * 8 * max 1 r.toNat
      { width := min 255 ((isqrt (4 * num / (160000 * den)) + 1) / 2), ps := isqrt (num / den),
        amp := h 0 * expFix (boundExp y) / 2 ^ 48 }
  else
    let f := p.get P.kiln_pulse_fwhm_ps
    let y : Int := ((15625 * 23548 * 23548 * 2 ^ 48 * sLo : Nat) : Int) / ((100 * 10 ^ 8 * 8 * n * f * f : Nat) : Int)
    { width := min 255 ((2 * f + 400) / 800), ps := f, amp := h 0 * expFix (boundExp y) / 2 ^ 48 }

/-- Intensity in 0.25 mV units (R210): `amp` in 1/`ampOne` mV, `range` in 0.25 mm, `used` the sum of E_used over `n` shots in
1/`energyOne` nJ. -/
def intensity (p : Pixel) (amp range used n : Nat) : Nat :=
  if bitAt p.ctl.toNat 16 then
    if used = 0 then 0
    else
      let r := 4000 * p.get P.kiln_norm_range_m
      min 4095 (roundDiv (4 * amp * range * range * p.get P.kiln_norm_energy_nj * energyOne * n : Nat) (ampOne * r * r * used)).toNat
  else min 4095 (roundDiv (4 * amp : Nat) ampOne).toNat

/-- Confidence of an echo (R211): `s3` of its candidate, support `sup` of `n`. -/
def confidence (e16 : Int) (s3 sup n : Nat) (low : Bool) : Nat :=
  let c := min 63 (isqrt ((e16.toNat * sup) ^ 2 / (max 1 (n * n) * (s3 + 1))))
  if low then min c 31 else c

/-- An echo before its class, with the support and spread that the class needs. -/
structure EchoRaw where
  echo : Echo
  sup : Nat
  /-- M-weighted square sum about c_z and ΣM, for σ_g (R207) -/
  sq : Nat
  mass : Nat
  deriving DecidableEq, Repr

/-- The echo of a candidate bin (R206 to R211). Where R209 states no amplitude, width and amplitude are free values (DESIGN CHOICE, log entry 19). -/
def Dev.echoOf (d : Dev) (p : Pixel) (i : Nat) : EchoRaw :=
  let cz := p.zoomCentre i
  let g := p.gate cz
  let cent := p.groups.filter fun x => decide (absI ((x.tg : Int) - g) ≤ p.get P.kiln_cent_gate)
  let near := p.near i
  let fallback := cent.isEmpty
  let te := if fallback then g else meanT cent
  let used := if fallback then near else cent
  let fired := p.fired
  let n := fired.length
  let sup := ((List.range p.shots.length).filter fun k =>
    near.any (fun x => x.shot == k) && ((p.shots[k]?).map fun x => !x.suppressed).getD false).length
  let sq := if near.length < 2 then 0 else near.foldl (fun a x => a + x.m * (absI ((x.tg : Int) - cz)) ^ 2) 0
  let wa := widthAmp p used
  let wa := if wa.open_ then { wa with width := d.free 8, ps := d.free 16, amp := d.free 36 } else wa
  let range := min (2 ^ 22 - 1) (rangeOf p.rangeK (d.zeroed p.row te))
  let used_ := fired.foldl (fun a x => a + x.eUsed) 0
  { echo :=
      { te := te, range := range, ampMv := (roundDiv wa.amp ampOne).toNat, amp := wa.amp, width := wa.width, widthPs := wa.ps,
        intensity := intensity p wa.amp range used_ n,
        conf := confidence (p.e16 i) (p.s3 i) sup n (fallback || cent.any (·.refEst)), cls := 0,
        sat := used.any (·.ovr), e16 := (p.e16 i).toNat, bin := i },
    sup := sup, sq := sq, mass := sumM near }

/-! ## Classes (R212) -/

/-- The pixel carries INT (R213). -/
def Pixel.int_ (p : Pixel) : Bool := decide (p.get P.kiln_int_thresh ≤ p.interference)

/-- The class of an echo, `before` the nearer echoes with their classes (R212). -/
def classOf (p : Pixel) (n : Nat) (before : List Echo) (x : EchoRaw) : Nat :=
  let e := x.echo
  if e.sat ∨ p.get P.kiln_retro_mv * ampOne ≤ e.amp then 5
  else if p.int_ ∧ 2 ≤ n ∧ x.sup * 256 < p.get P.kiln_int_support * n then 7
  else if before.any fun b => b.cls == 5 && decide (b.range < e.range ∧ e.range - b.range ≤ 4000 * p.get P.kiln_mp_span_m
      ∧ e.amp * 256 < p.get P.kiln_mp_ratio * b.amp) then 6
  else if p.get P.kiln_fog_width_ps ≤ e.widthPs ∧ p.get P.kiln_wx_support * n ≤ x.sup * 256 then 4
  else if e.range < 4000 * p.get P.kiln_wx_range_m
      ∧ ((p.get P.kiln_wx_spread_ps) ^ 2 * 256 * max 1 x.mass ≤ x.sq * 625 ∨ x.sup * 256 < p.get P.kiln_wx_support * n) then 3
  else if p.get P.kiln_ext_width_ps ≤ e.widthPs then 2
  else 1

/-- Insert an echo in rising order of t_e. -/
def insEcho (x : EchoRaw) : List EchoRaw → List EchoRaw
  | [] => [x]
  | y :: ys => if x.echo.te < y.echo.te then x :: y :: ys else y :: insEcho x ys

/-- The echoes of a pixel in their order, with their classes; none without a frame (R196, R205, R212). -/
def Dev.pixelEchoes (d : Dev) (p : Pixel) : List Echo :=
  if !p.hasFrame then []
  else
    let raw := (p.peaks.map (d.echoOf p)).foldl (fun acc x => insEcho x acc) []
    raw.foldl (fun (acc : List Echo) x => acc ++ [{ x.echo with cls := classOf p p.fired.length acc x }]) []

/-- Some echo of the pixel took free values: the next draw is another. -/
def Dev.echoFree (d : Dev) (p : Pixel) : Dev := if p.thr.1 = 0 ∧ p.hasFrame then d.freeNext else d

/-! ## Flags (R112, R115, R213) -/

/-- A shot of the dwell was cut off. -/
def Pixel.ovf (p : Pixel) : Bool := p.shots.any fun x => (x.summary.map (·.ovf)).getD false
/-- A shot of the dwell dropped an edge as NEAR. -/
def Pixel.nearFlag (p : Pixel) : Bool := p.shots.any fun x => (x.summary.map (·.nearAny)).getD false
/-- A summary carried XFLUSH. -/
def Pixel.xflush (p : Pixel) : Bool := p.shots.any fun x => (x.summary.map (·.xflush)).getD false
/-- n_fired is less than the requested dwell, DWELL_M1 + 1 of the sod served. -/
def Pixel.lowShot (p : Pixel) : Bool := decide (p.fired.length < p.dwell)

/-- The dwell is over and every summary of its shots has been consumed. -/
def Pixel.ready (p : Pixel) : Bool := p.ended && p.shots.all fun x => x.summary.isSome

/-- CRC-16 of the classifier table over its entries in the order of R216 (R212). -/
def Dev.classId (d : Dev) : Nat :=
  let rows := [P.kiln_retro_mv, P.kiln_int_support, P.kiln_mp_span_m, P.kiln_mp_ratio, P.kiln_fog_width_ps, P.kiln_wx_range_m,
    P.kiln_wx_spread_ps, P.kiln_wx_support, P.kiln_ext_width_ps]
  crc16 (rows.flatMap fun i => leBytes (((param? i).map (·.esize)).getD 0) (d.par i 0))

end Sys2Proof.Machine
end

