-- ==== Sys2Proof/Machine/Taps.lean ====
section
/-! DEFINITION. Waveform taps (chapter 08): calibration records, Ladle allocation, capture, measurements, window records, links and
verdicts, trim pairs, and `cal.tap`. -/

namespace Sys2Proof.Machine

/-! ## Calibration records (R223, R248) -/

/-- GAIN of a tap in a range. -/
def Dev.tapGain (d : Dev) (t : Nat) (x2 : Bool) : Nat := d.fld (if x2 then F.TAP_T_CAL_X2_GAIN t else F.TAP_T_CAL_X1_GAIN t)
/-- OFFSET, 1/16 LSB. -/
def Dev.tapOffset (d : Dev) (t : Nat) (x2 : Bool) : Int := d.fldI (if x2 then F.TAP_T_CAL_X2_OFFSET t else F.TAP_T_CAL_X1_OFFSET t)
/-- DELAY, fine units. -/
def Dev.tapDelay (d : Dev) (t : Nat) (x2 : Bool) : Int := d.fldI (if x2 then F.TAP_T_DELAY_X2 t else F.TAP_T_DELAY_X1 t)

/-- A calibrated sample as an integer over `voltDen` mV: full scale 600 mV over 2,048 codes in the ×1 range, half of it in ×2
(R86, R223, DEDUCED, log entry 20). -/
def volt (code gain : Nat) (offset : Int) : Int := (16 * sgn 12 code - offset) * (gain * 75 : Nat)

/-- The denominator of `volt`. -/
def voltDen (x2 : Bool) : Nat := if x2 then 2 ^ 28 else 2 ^ 27

/-! ## Taps and Ladles -/

/-- The settling delay in samples (R87, R224). -/
def Dev.settleSamples (d : Dev) : Nat := ceilDiv (d.par P.fe_xbar_settle_ns 0 * 5) 2

/-- A candidate of the allocator (R227): its channel, effective priority, whether a host region raised it, the highest region that
contains the pixel, the predicted echoes in fine units after the shot reference, whether they allow ×2, its pixel and shot. -/
structure TapCand where
  ch : Nat
  pri : Nat
  host : Bool
  region : Option Nat
  first : Option Int
  last : Int
  x2 : Bool
  wo : Nat
  lastPulse : Nat
  pos : Nat
  shot : Nat
  shotSlot : Nat
  deriving DecidableEq, Repr

/-- What R225 places for a candidate: first sample, samples needed, moved later. -/
structure Placing where
  k : Nat
  need : Nat
  late : Bool
  deriving DecidableEq, Repr

/-- Placement from the predicted echoes, or at the start of the stop window (R225). -/
def Dev.placeWindow (d : Dev) (c : TapCand) : Placing :=
  let ref : Int := (d.par P.ember_ref_delay_ns 0 * 640 : Nat)
  let az : Int × Int := match c.first with
    | none => (ref + (c.wo * 256 : Nat), ref + (c.wo * 256 : Nat) + (d.par P.tap_win_default 0 * 256 : Nat))
    | some t => (ref + t - (d.par P.tap_pre_ns 0 * 640 : Nat),
        ref + c.last + (c.lastPulse * 256 : Nat) + (d.par P.tap_post_ns 0 * 640 : Nat))
  let k := az.1 / 256
  let late := decide (k < d.settleSamples)
  let k := if late then d.settleSamples else k.toNat
  { k := k, need := ((az.2 + 255) / 256 - k).toNat, late := late }

/-- Length of a window: a multiple of 32, cut at the end of the slot (R224, R225); none below 32 samples. -/
def cutLen (k len slotEnd : Nat) : Option (Nat × Bool) :=
  if k + len ≤ slotEnd then some (len, false) else if k + 32 ≤ slotEnd then some (slotEnd - k, true) else none

/-- The length that a need gives. -/
def needLen (need : Nat) : Nat := min 512 (max 32 (32 * ceilDiv need 32))

/-- Fixed length of a host region in samples, where it has one. -/
def Dev.regionLen (d : Dev) (r : Option Nat) : Option Nat :=
  match r with
  | some r => if d.fld (F.TAP_REQ_CFG_LEN32 r) = 0 then none else some (32 * d.fld (F.TAP_REQ_CFG_LEN32 r))
  | none => none

/-- The range of a candidate: chosen by R230 unless its region fixes it. -/
def Dev.candX2 (d : Dev) (c : TapCand) : Bool :=
  match c.region with
  | some r => if d.fld (F.TAP_REQ_CFG_RANGE r) = 0 then c.x2 else d.fld (F.TAP_REQ_CFG_RANGE r) == 2
  | none => c.x2

/-- The first Ladle of a candidate on a tap, or none where its cut length would fall below 32. -/
def Dev.ladle0 (d : Dev) (c : TapCand) (slot slotEnd t : Nat) : Option Ladle :=
  let w := d.placeWindow c
  match cutLen w.k ((d.regionLen c.region).getD (needLen w.need)) slotEnd with
  | none => none
  | some (len, short) =>
    some { tap := t, ch := c.ch, x2 := d.candX2 c, kOpen := w.k, len := len, slot := slot, shotSlot := c.shotSlot, pos := c.pos,
           shot := c.shot, ord := 0, late := w.late, short := short, host := c.host, calw := false, ctl := d.reg Reg.TAP_CTL }

/-- The second Ladle of a candidate whose need exceeds 512 (R229). -/
def Dev.ladle1 (d : Dev) (c : TapCand) (slot slotEnd t : Nat) : Option Ladle :=
  let w := d.placeWindow c
  if w.need ≤ 512 then none
  else
    match cutLen (w.k + 512) (needLen (w.need - 512)) slotEnd with
    | none => none
    | some (len, short) =>
      some { tap := t, ch := c.ch, x2 := d.candX2 c, kOpen := w.k + 512, len := len, slot := slot, shotSlot := c.shotSlot, pos := c.pos,
             shot := c.shot, ord := 1, late := w.late, short := short, host := c.host, calw := false, ctl := d.reg Reg.TAP_CTL }

/-- The age of a channel at a slot (R228). -/
def Dev.tapAge (d : Dev) (slot ch : Nat) : Nat := min 65535 (slot - sget (fun _ => 0) ch d.taps.lastLadle)

/-- Rank: higher priority, larger age, lower channel (R228). -/
def Dev.ranksBefore (d : Dev) (slot : Nat) (a b : TapCand) : Bool :=
  if a.pri ≠ b.pri then decide (b.pri < a.pri)
  else if d.tapAge slot a.ch ≠ d.tapAge slot b.ch then decide (d.tapAge slot b.ch < d.tapAge slot a.ch)
  else decide (a.ch < b.ch)

/-- Insert a candidate by rank. -/
def Dev.insTapCand (d : Dev) (slot : Nat) (c : TapCand) : List TapCand → List TapCand
  | [] => [c]
  | x :: xs => if d.ranksBefore slot c x then c :: x :: xs else x :: d.insTapCand slot c xs

/-- The tap's group is powered and not withheld. -/
def Dev.tapGroupOk (d : Dev) (t : Nat) : Bool :=
  bitAt (d.fld F.TAP_STAT_GRP_ON) (t / 8) && bitAt (d.fld F.TAP_STAT_GRP_AVAIL) (t / 8)

/-- A tap's header queue is full, with the header that the tap's window of the present slot will take (R228, R234). -/
def Dev.headersFull (d : Dev) (t : Nat) : Bool :=
  decide (8 ≤ (d.tap t).headers + b2n ((d.tap t).capture.isSome || d.taps.ladles.any fun l => l.tap == t))

/-- The channels of these Ladles restart their ages (R228). -/
def Dev.restartAges (d : Dev) (ls : List Ladle) : Dev :=
  { d with taps := { d.taps with lastLadle := ls.foldl (fun m l => sset (fun _ => 0) l.ch l.slot m) d.taps.lastLadle } }

/-- Give taps to candidates in order; returns the Ladles, the candidates without one, the taps left. -/
def Dev.giveTaps (d : Dev) (form : TapCand → Nat → Option Ladle) : List TapCand → List Nat → List Ladle × List TapCand × List Nat
  | [], ts => ([], [], ts)
  | c :: cs, [] =>
    let r := d.giveTaps form cs []
    (r.1, c :: r.2.1, r.2.2)
  | c :: cs, t :: ts =>
    match form c t with
    | some l =>
      let r := d.giveTaps form cs ts
      (l :: r.1, r.2.1, r.2.2)
    | none => d.giveTaps form cs (t :: ts)

/-- The Ladles of the next slot from its candidates (R227 to R229). A candidate whose cut window would be too short is left without a
tap. -/
def Dev.allocate (d : Dev) (cands : List TapCand) (slot slotEnd : Nat) : Dev :=
  if !d.flag F.TAP_CTL_EN || d.taps.cal.isSome then d
  else
    let asked := cands.filter fun c => decide (1 ≤ c.pri)
    let able := asked.filter fun c => (d.ladle0 c slot slotEnd 0).isSome
    let order := able.foldl (fun acc c => d.insTapCand slot c acc) []
    let groupTaps := (List.range 64).filter d.tapGroupOk
    let withheld := (groupTaps.filter d.headersFull).length
    let r := d.giveTaps (fun c t => d.ladle0 c slot slotEnd t) order (groupTaps.filter fun t => !d.headersFull t)
    let served := order.filter fun c => r.1.any fun l => l.ch == c.ch
    let r2 := d.giveTaps (fun c t => d.ladle1 c slot slotEnd t) (served.filter fun c => decide (512 < (d.placeWindow c).need)) r.2.2
    let d := (d.bumpBy C.TAP_UNSERVED_CNT (asked.length - r.1.length)).bumpBy C.TAP_WITHHELD_CNT withheld
    ({ d with taps := { d.taps with next := r.1 ++ r2.1 } }).restartAges r.1

/-! ## Capture (R233 to R235) -/

/-- A tap group's sticky flag of one kind (0 OVF, 1 SKIP, 2 CLIP, 3 CALF) is set; its event follows a change from 0 to 1 (R235,
R246). -/
def Dev.tapFlag (d : Dev) (kind g : Nat) : Dev := d.sticky Reg.TAP_EVT_STAT (8 * kind + g) (Ev.tapOvf g + kind)

/-- A window that waits for the writer, with its number: one per Ladle, in the order of their ends (R239, DEDUCED, log entry 21). -/
def Dev.queueWindow (d : Dev) (w : TapWin) : Dev :=
  let w := { w with seq := d.taps.seq }
  let d := { d with taps := { d.taps with seq := (d.taps.seq + 1) % 2 ^ 32 } }
  let d := if w.ladle.calw || w.skip then d else { d with taps := { d.taps with recent := d.taps.recent ++ [w] } }
  if w.ladle.store = 0 then d
  else
    let x := d.tap w.ladle.tap
    let d := d.setTap w.ladle.tap { x with headers := x.headers + 1, fill := x.fill + w.samples.length }
    { d with taps := { d.taps with queue := d.taps.queue ++ [w] } }

/-- The reference of a window's shot relative to the boundary of the window's slot, fine units, whether it is nominal, and whether it
is fixed as the window opens; otherwise `fixWindows` fills it in. -/
def Dev.windowRef (d : Dev) (l : Ladle) : Int × Bool × Bool :=
  let own := match d.shot with
    | some x => if x.slot = l.shotSlot then some ((((x.tref.getD (d.nominalRef x)) - x.base) / 16 : Nat), x.refEst, x.tref.isSome) else none
    | none => none
  let r := match own with
    | some x => x
    | none =>
      match (d.pixelOf l.ch l.shotSlot).bind (fun (p : Pixel) => p.shots.find? fun (y : DwellShot) => y.slot == l.shotSlot) with
      | some (y : DwellShot) => (y.refU / 16, y.refEst, true)
      | none => (d.par P.ember_ref_delay_ns 0 * 640, true, true)
  ((r.1 : Int) - (8000 * 256 * (l.slot - l.shotSlot) : Nat), r.2)

/-- The shot of a window was suppressed (R231). -/
def Dev.windowSupp (d : Dev) (l : Ladle) : Bool :=
  let own := match d.shot with
    | some x => x.slot == l.shotSlot && x.suppressed
    | none => false
  own || (((d.pixelOf l.ch l.shotSlot).bind (fun (p : Pixel) => p.shots.find? fun (y : DwellShot) => y.slot == l.shotSlot)).map fun (y : DwellShot) => y.suppressed).getD false

/-- A window record as its window opens. -/
def Dev.blankWin (d : Dev) (l : Ladle) (dead : Nat) : TapWin :=
  let r := d.windowRef l
  { ladle := l, seq := 0, frame := (d.reg Reg.TIME_FRAME).toNat, ovf := false, skip := false, clip := false, supp := d.windowSupp l,
    refEst := r.2.1, noPed := false, dead := dead, ref := r.1, fixed := r.2.2, gain := d.tapGain l.tap l.x2, offset := d.tapOffset l.tap l.x2,
    delay := d.tapDelay l.tap l.x2, base := 0, noise := 0, ped := 0, area := 0, peak := 0, peakT := 0, rise := 0, fwhm := 0, npk := 0,
    nclip := 0, peaks := [], samples := [] }

/-- A window opens: it is captured, or skipped where an earlier one was truncated and the FIFO has no room for it (R234). -/
def Dev.openTap (d : Dev) (t : Nat) : Dev :=
  match d.taps.ladles.find? fun l => l.tap == t with
  | none => d
  | some l =>
    let d := { d with taps := { d.taps with ladles := d.taps.ladles.erase l } }
    let x := d.tap t
    let open_ := d.time.slotStart + l.kOpen
    let dead := match x.lastEnd with
      | some e => min 65535 (open_ - e)
      | none => 65535
    let d := d.put (Reg.TAP_T_LAST t) (BitVec.ofNat 32 (l.ch + 512 * b2n l.x2 + 2 ^ 16 * dead))
    if x.skipping && decide (1024 < x.fill + l.len) then
      let d := ((d.bump (C.TAP_T_SKIP_CNT t)).tapFlag 1 (t / 8))
      d.queueWindow { d.blankWin l dead with skip := true }
    else (d.setTap t { x with capture := some (d.blankWin l dead), openAt := open_ }).bump C.TAP_WIN

/-- `TAP_WINDOW_OPEN` (R234). -/
def execTapWindowOpen (tap : Fin 64) (s : State) : Host.Outcome State Fault Refusal :=
  .next (s.onDev fun _ d => if d.locked then d.openTap tap.val else d)

/-! ## Measurements (R236, R237) -/

/-- A code is a limit code. -/
def isLimit (c : Nat) : Bool := c == 2047 || c == 2048

/-- Sample words: the code, with CLIP on a limit code and on the two samples after one (R222). -/
def sampleWords (codes : List Nat) : List Nat :=
  codes.mapIdx fun i c =>
    let clip := isLimit c || (1 ≤ i && isLimit (codes.getD (i - 1) 0)) || (2 ≤ i && isLimit (codes.getD (i - 2) 0))
    c + 4096 * b2n clip

/-- The middle of sorted values: the mean of the two middle ones of an even number. -/
def median (l : List Int) : Int × Nat :=
  let n := l.length
  if n = 0 then (0, 1) else if n % 2 = 1 then (l.getD (n / 2) 0, 1) else (l.getD (n / 2 - 1) 0 + l.getD (n / 2) 0, 2)

/-- Insert in rising order. -/
def insAsc (v : Int) : List Int → List Int
  | [] => [v]
  | x :: xs => if v < x then v :: x :: xs else x :: insAsc v xs

/-- Walk from index `i` down the leading side while the samples do not rise; `n` bounds the walk. -/
def walkDown (u : List Int) : Nat → Nat → Nat
  | 0, i => i
  | n + 1, i => if 1 ≤ i ∧ u.getD (i - 1) 0 ≤ u.getD i 0 then walkDown u n (i - 1) else i

/-- Walk from index `i` up the trailing side while the samples do not rise. -/
def walkUp (u : List Int) : Nat → Nat → Nat
  | 0, i => i
  | n + 1, i => if i + 1 < u.length ∧ u.getD (i + 1) 0 ≤ u.getD i 0 then walkUp u n (i + 1) else i

/-- The crossing of a level between two neighbouring samples, in 2^-16 sample after the first. -/
def between (a b lvl10 : Int) : Int := if a = b then 0 else (lvl10 - 10 * a) * 65536 / (10 * (b - a))

/-- The leading crossing of `tenths`/10 of the peak at `i`, 2^-16 sample, sought down to its neighbouring minimum (R236). -/
def leadCross (u : List Int) (i tenths : Nat) : Option Int :=
  let lvl := u.getD i 0 * tenths
  let lo := walkDown u u.length i
  ((List.range (i - lo)).map (fun j => i - 1 - j)).findSome? fun j =>
    if 10 * u.getD j 0 < lvl ∧ lvl ≤ 10 * u.getD (j + 1) 0 then some ((j : Int) * 65536 + between (u.getD j 0) (u.getD (j + 1) 0) lvl) else none

/-- The trailing crossing. -/
def trailCross (u : List Int) (i tenths : Nat) : Option Int :=
  let lvl := u.getD i 0 * tenths
  let hi := walkUp u u.length i
  ((List.range (hi - i)).map (i + ·)).findSome? fun j =>
    if lvl ≤ 10 * u.getD j 0 ∧ 10 * u.getD (j + 1) 0 < lvl then some ((j : Int) * 65536 + between (u.getD j 0) (u.getD (j + 1) 0) lvl) else none

/-- An interval of two crossings in 25 ps units, 0 where one is missing. -/
def spanOf (a b : Option Int) : Nat :=
  match a, b with
  | some x, some y => (roundDiv (y - x) 4096).toNat
  | _, _ => 0

/-- The position of a peak refined by a parabola, in 1/16 sample (R236). -/
def refine (u : List Int) (i : Nat) : Nat :=
  if i = 0 ∨ u.length ≤ i + 1 then 16 * i
  else
    let a := u.getD (i - 1) 0
    let b := u.getD i 0
    let c := u.getD (i + 1) 0
    let den := 2 * b - a - c
    if den ≤ 0 then 16 * i else (16 * (i : Int) + roundDiv (8 * (c - a)) den.toNat).toNat

/-- A peak goes before another when it is higher, or as high and earlier. -/
def insPeak (u : List Int) (i : Nat) : List Nat → List Nat
  | [] => [i]
  | x :: xs => if u.getD x 0 < u.getD i 0 then i :: x :: xs else x :: insPeak u i xs

/-- The peaks found, highest first: of two less than 4 samples apart the smaller is dropped (R236). -/
def findPeaks (u : List Int) (noise2 : Nat) (bn sigma : Nat) : List Nat :=
  let n := u.length
  let top := (List.range n).filter fun i =>
    decide (1 ≤ i ∧ i + 1 < n) && decide (u.getD (i - 1) 0 ≤ u.getD i 0 ∧ u.getD (i + 1) 0 < u.getD i 0)
      && decide (0 ≤ u.getD i 0 ∧ ((sigma * sigma * noise2 : Nat) : Int) ≤ u.getD i 0 * u.getD i 0 * 256 * bn)
  (top.foldl (fun acc i => insPeak u i acc) []).foldl (fun (acc : List Nat) (i : Nat) =>
    if acc.all fun (j : Nat) => decide (4 ≤ absI ((i : Int) - j)) then acc ++ [i] else acc) []

/-- The measurements of a captured window (R236, R237): `bn` samples of baseline, threshold `sigma` in 1/16. -/
def measureWin (w : TapWin) (bn sigma : Nat) : TapWin :=
  let v := w.samples.map fun x => volt (x % 4096) w.gain w.offset
  let n := v.length
  let bn := max 1 (min bn n)
  let den := voltDen w.ladle.x2
  let sb := (v.take bn).foldl (· + ·) 0
  let u : List Int := v.map fun (x : Int) => (bn : Int) * x - sb
  let ud := bn * den
  let noise2 := (u.take bn).foldl (fun a x => a + absI x * absI x) 0
  let best := (List.range n).foldl (fun b i => if u.getD b 0 < u.getD i 0 then i else b) 0
  let height (i : Nat) : Nat := (roundDiv (u.getD i 0 * 32) ud).toNat
  let rise (i : Nat) : Nat := spanOf (leadCross u i 1) (leadCross u i 9)
  let fwhm (i : Nat) : Nat := spanOf (leadCross u i 5) (trailCross u i 5)
  let pks := findPeaks u noise2 bn sigma
  let listed := (pks.take 8).foldl (fun acc (i : Nat) => insAsc (i : Int) acc) []
  let firstBig := ((pks.foldl (fun acc (i : Nat) => insAsc (i : Int) acc) []).find? fun i => decide (u.getD best 0 ≤ 2 * u.getD i.toNat 0))
  let until_ := match firstBig with
    | some i => match leadCross u i.toNat 1 with
      | some c => ((c + 65535) / 65536).toNat
      | none => 0
    | none => 0
  let quiet := ((u.take until_).drop bn).foldl (fun acc x => insAsc x acc) []
  let noPed := decide (quiet.length < 8)
  let med := median quiet
  { w with
    base := roundDiv (sb * 32) ud, noise := rsqrt (1024 * noise2 / (max 1 (bn * ud * ud))),
    area := roundDiv (u.foldl (· + ·) 0 * 32) ud, peak := height best, peakT := refine u best, rise := rise best, fwhm := fwhm best,
    ped := if noPed then 0 else roundDiv (med.1 * 32) (med.2 * ud), noPed := noPed,
    npk := min 255 pks.length, peaks := listed.map fun i => ⟨refine u i.toNat, height i.toNat, fwhm i.toNat, rise i.toNat⟩ }

/-! ## `cal.tap` (R243 to R246), sums -/

/-- Sum and count of a unit. -/
def CalTap.sum (c : CalTap) (u : Nat) : Int × Nat := sget (fun _ => (0, 0)) u c.sums

/-- The unit needs more samples. -/
def CalTap.open_ (c : CalTap) (u : Nat) : Bool := decide ((c.sum u).2 < c.samples)

/-- The units of a running calibration: taps of the mask, or channels. -/
def CalTap.units (c : CalTap) : List Nat :=
  if c.step = 2 then (List.range c.count).map (c.channel + ·) else (List.range 64).filter (bitAt c.mask)

/-- A CALW window adds its samples to its unit: raw codes, or calibrated voltages over `voltDen` for CH_OFFSET; no unit takes more
than SAMPLES. -/
def Dev.addCal (d : Dev) (w : TapWin) : Dev :=
  match d.taps.cal with
  | none => d
  | some c =>
    let u := if c.step = 2 then w.ladle.ch else w.ladle.tap
    let s := c.sum u
    let xs := w.samples.take (c.samples - s.2)
    let add := xs.foldl (fun (a : Int) x => a + (if c.step = 2 then volt (x % 4096) w.gain w.offset else sgn 12 x)) 0
    { d with taps := { d.taps with cal := some { c with sums := sset (fun _ => (0, 0)) u (s.1 + add, s.2 + xs.length) c.sums } } }

/-- A window ends with the codes it sampled: those the FIFO has room for are stored (R234), measured (R236) and queued. -/
def Dev.endTap (d : Dev) (t : Nat) (codes : List Nat) : Dev :=
  let x := d.tap t
  match x.capture with
  | none => d
  | some w =>
    let l := w.ladle
    if codes.length ≠ l.len then d
    else
      let room := 1024 - x.fill
      let ovf := decide (room < l.len)
      let words := (sampleWords codes).take room
      let nclip := (words.filter fun w => decide (4096 ≤ w)).length
      let d := d.setTap t { x with capture := none, skipping := x.skipping || ovf,
                                   lastEnd := some (x.openAt + words.length) }
      let d := if ovf then (d.bump (C.TAP_T_OVF_CNT t)).tapFlag 0 (t / 8) else d
      let d := if nclip = 0 then d else (d.bump (C.TAP_T_CLIP_CNT t)).tapFlag 2 (t / 8)
      let w := { w with ovf := ovf, clip := nclip != 0, nclip := min 255 nclip, samples := words }
      let w := measureWin w (d.par P.tap_base_n 0) (d.par P.tap_pk_sigma 0)
      let d := if l.calw then d.addCal w else d
      d.queueWindow w

/-- `TAP_WINDOW_END` (R236): as many codes as the window has samples; any other number is no end of this window. -/
def execTapWindowEnd (tap : Fin 64) (codes : List (BitVec 12)) (s : State) : Host.Outcome State Fault Refusal :=
  .next (s.onDev fun _ d => d.endTap tap.val (codes.map (·.toNat)))

/-! ## The waveform stream (R238, R239, R336) -/

/-- The 128 bytes of a window header (R238). -/
def TapWin.header (w : TapWin) : List Byte :=
  let l := w.ladle
  let flags := b2n w.ovf + 2 * b2n w.skip + 4 * b2n w.clip + 8 * b2n w.supp + 16 * b2n w.refEst + 32 * b2n l.late + 64 * b2n l.short
    + 128 * b2n l.host + 256 * b2n w.noPed + 512 * b2n l.calw
  let a := leBytes 4 w.seq ++ leBytes 4 w.frame ++ leBytes 8 l.slot ++ leBytes 2 l.ch ++ leBytes 2 l.pos
    ++ leBytes 1 (l.shot % 64 + 64 * l.ord) ++ leBytes 1 (l.tap + 64 * b2n l.x2) ++ leBytes 2 flags ++ leBytes 2 l.kOpen
    ++ leBytes 2 l.len ++ leBytes 2 w.samples.length ++ leBytes 2 w.dead ++ leBytes 4 (unsgn 24 w.ref) ++ leBytes 2 w.gain
    ++ leBytes 2 (unsgn 16 w.offset) ++ leBytes 2 (unsgn 16 w.delay) ++ leBytes 2 (unsgn 16 (clampI (-32768) 32767 w.base))
    ++ leBytes 2 (min 65535 w.noise) ++ leBytes 2 (unsgn 16 (clampI (-32768) 32767 w.ped)) ++ leBytes 4 (unsgn 32 w.area)
    ++ leBytes 2 (min 65535 w.peak) ++ leBytes 2 (min 65535 w.peakT) ++ leBytes 2 (min 65535 w.rise) ++ leBytes 2 (min 65535 w.fwhm)
    ++ leBytes 1 w.npk ++ leBytes 1 w.nclip
  let ps := w.peaks.flatMap fun p => leBytes 2 p.t ++ leBytes 2 (min 65535 p.a) ++ leBytes 2 p.fwhm ++ leBytes 2 p.rise
  let ps := (ps ++ zeros 64).take 64
  a ++ leBytes 2 (crc16 (a ++ zeros 2 ++ ps)) ++ ps

/-- The bytes of a record, padded to 32. -/
def TapWin.bytes (w : TapWin) (headerOnly : Bool) : List Byte :=
  if headerOnly then w.header
  else
    let b := w.header ++ w.samples.flatMap fun x => leBytes 2 x
    b ++ zeros ((32 - b.length % 32) % 32)

/-- The header of a window waits for the reference of its shot (R104). -/
def Dev.headerOpen (d : Dev) (w : TapWin) : Bool := !w.fixed && (d.shot.map (·.slot)) == some w.ladle.shotSlot

/-- The tap writer: the oldest window record goes to stream 2 once it fits; until then the writer waits (R336). A halt of memory holds
it back (R233), and a stream that does not run discards the record (R332). -/
def Dev.writeWave (d : Dev) : Dev :=
  match d.taps.queue with
  | [] => d
  | w :: _ =>
    if !d.flag (F.ING_S_STAT_RUN 2) then d.popWindow w
    else if d.flag (F.ING_S_STAT_HALTED 2) || d.memHalted || d.headerOpen w then d
    else if !d.waveFits w then (d.setFlag (F.ING_S_STAT_FULL 2) true).sticky Reg.ING_EVT 3 Ev.waveStall
    else
      let at_ := d.waveStart
      let d := d.memw (d.wide64 (Reg.ING_S_BASE_LO 2) + at_ * 32 % (d.ringSize 2 * 128 * 32)) (w.bytes w.headerOnly)
      let d := ((d.put (Reg.ING_S_WR 2) (BitVec.ofNat 32 (at_ + w.units))).setFlag (F.ING_S_STAT_FULL 2) false).popWindow w
      d.waveItem

/-- `WAVE_RECORD_WRITE` (R336). -/
def execWaveRecordWrite (s : State) : Host.Outcome State Fault Refusal := .next (s.onDev fun _ d => d.writeWave)

/-! ## Links, verdicts, trim pairs (R136, R240 to R242) -/

/-- Time of sample `i` of a window after the shot reference, fine units (R240). -/
def TapWin.timeOf (w : TapWin) (sixteenths : Int) : Int := 256 * (w.ladle.kOpen : Int) + 16 * sixteenths + w.delay - w.ref

/-- The captured windows of a pixel. -/
def Dev.windowsOf (d : Dev) (p : Pixel) : List TapWin :=
  d.taps.recent.filter fun w => w.ladle.ch == p.row && !w.samples.isEmpty && p.shots.any fun (y : DwellShot) => y.slot == w.ladle.shotSlot

/-- The window that an echo time links to: the highest shot index, then ORD 0 (R240). -/
def linkOf (ws : List TapWin) (te : Int) : Option TapWin :=
  (ws.filter fun w => decide (w.timeOf 0 ≤ te ∧ te ≤ w.timeOf (16 * ((w.samples.length : Int) - 1)))).foldl (fun (acc : Option TapWin) w =>
    match acc with
    | none => some w
    | some b =>
      if b.ladle.shot < w.ladle.shot ∨ (b.ladle.shot = w.ladle.shot ∧ w.ladle.ord < b.ladle.ord) then some w else some b) none

/-- The verdict of a linked echo (R242): `tes` the echo times of the pixel, `nearest` that no nearer echo is linked to the window,
`offs` the code offsets of the window's shot. -/
def Dev.verdict (d : Dev) (p : Pixel) (w : TapWin) (te : Int) (tes : List Int) (nearest : Bool) (offs : List Nat) : Option Nat :=
  if w.ovf || w.skip || w.clip || w.supp || w.refEst || w.gain == 0 then none
  else
    let last := offs.getLast?.getD 0
    let pk := w.peaks.map fun x => (w.timeOf x.t, x.fwhm)
    let mine (ts : List Int) (t : Int) : Bool := ts.any fun e => offs.any fun o => decide (absI (t - (e + (o : Int))) ≤ 640)
    let stray := (pk.filter fun x => decide (te - 1280 ≤ x.1 ∧ x.1 ≤ te + last + 1280) && !mine tes x.1).length
    let wide := (pk.filter fun x => mine [te] x.1).foldl (fun a x => max a x.2) 0
    if nearest ∧ (d.par P.tap_fog_ped 0 * w.noise : Nat) ≤ 16 * w.ped then some 4
    else if d.par P.tap_wx_stray 0 ≤ stray then some 3
    else if p.get P.kiln_ext_width_ps ≤ wide * 25 then some 2
    else some 1

/-- Offsets of the shot a window belongs to. -/
def Pixel.offsetsAt (p : Pixel) (slot : Nat) : List Nat := ((p.shots.find? fun (y : DwellShot) => y.slot == slot).map (·.offsets)).getD []

/-- For each echo of a pixel: its link and its verdict, where VERDICT_EN was set as the window's slot was prepared (R242, R247). -/
def Dev.links (d : Dev) (p : Pixel) (es : List Echo) : List (Option TapWin × Option Nat) :=
  let ws := d.windowsOf p
  let ls := es.map fun e => linkOf ws e.te
  es.mapIdx fun i e =>
    match ls.getD i none with
    | none => (none, none)
    | some w =>
      let nearest := ((ls.take i).all fun x => x != some w)
      (some w, if bitAt w.ladle.ctl.toNat 3 then d.verdict p w e.te (es.map (·.te)) nearest (p.offsetsAt w.ladle.shotSlot) else none)

/-- Trim pairs of a pixel's windows in ×1 range with the accepted rising stamps of their shots (R136). -/
def Dev.trimPairs (d : Dev) (p : Pixel) : Dev :=
  if !d.flag F.KILN_BUR_CTL_TRIM_EN then d
  else
    ((d.windowsOf p).filter fun w => !w.ladle.x2 && w.gain != 0).foldl (fun (d : Dev) w =>
      let v := w.samples.map fun x => volt (x % 4096) w.gain w.offset
      let rises := ((p.shots.find? fun (y : DwellShot) => y.slot == w.ladle.shotSlot).map (·.rises)).getD []
      rises.foldl (fun (d : Dev) r =>
        let at_ := (r.2 : Int) - w.timeOf 0
        let i := at_ / 256
        if at_ < 0 ∨ (v.length : Int) ≤ i + 1 then d
        else
          let a := v.getD i.toNat 0
          let b := v.getD (i.toNat + 1) 0
          if b - a < 4 * 2 ^ 27 ∨ 24 * 2 ^ 27 < b - a then d
          else
            let x := a + (b - a) * (at_ % 256) / 256
            let e := roundDiv x (2 ^ 19) - (thrOf p.thr r.1 * 150 : Nat)
            let k := 3 * p.row + r.1
            let acc := d.trimAcc p.row r.1
            { d with bur := { d.bur with trims := sset (fun _ => {}) k { sum := acc.sum + e, cnt := acc.cnt + 1 } d.bur.trims } }) d) d

/-- A pixel is complete: its windows are no longer held for linking. -/
def Dev.dropWindows (d : Dev) (p : Pixel) : Dev :=
  let gone := d.windowsOf p
  { d with taps := { d.taps with recent := d.taps.recent.filter fun w => !gone.contains w } }

/-! ## Host regions (R232, R248) -/

/-- The fields of a region are in range. -/
def regionOk (prio r0 r1 c0 c1 range len32 : Nat) : Bool :=
  decide (prio ≤ 15 ∧ r0 ≤ r1 ∧ r1 ≤ 511 ∧ c0 ≤ c1 ∧ c1 ≤ 255 ∧ range ≤ 2 ∧ len32 ≤ 16)

/-- Write a region; PRIO 0 clears it. -/
def Dev.putRegion (d : Dev) (r prio r0 r1 c0 c1 range len32 frames : Nat) : Dev :=
  if prio = 0 then ((d.put (Reg.TAP_REQ_ROWS r) 0#32).put (Reg.TAP_REQ_COLS r) 0#32).put (Reg.TAP_REQ_CFG r) 0#32
  else ((d.put (Reg.TAP_REQ_ROWS r) (BitVec.ofNat 32 (r0 + 2 ^ 16 * r1))).put (Reg.TAP_REQ_COLS r) (BitVec.ofNat 32 (c0 + 2 ^ 16 * c1))).put
    (Reg.TAP_REQ_CFG r) (BitVec.ofNat 32 (prio + 2 ^ 4 * range + 2 ^ 6 * len32 + 2 ^ 16 * frames))

/-- `out.tap_request` (R232). -/
def bodyOutTapRequest : Body := fun p _ d =>
  let r := p.u 0 1
  refuseIf (decide (15 < r)) 0x0104 <|
    refuseIf (!regionOk (p.u 1 1) (p.u 2 2) (p.u 4 2) (p.u 6 1) (p.u 7 1) (p.u 8 1) (p.u 9 1)) 0x0104 <|
      .ok (d.putRegion r (p.u 1 1) (p.u 2 2) (p.u 4 2) (p.u 6 1) (p.u 7 1) (p.u 8 1) (p.u 9 1) (p.u 10 2)) []

/-- `OUT_TAP_REQUEST` (R232). -/
def execOutTapRequest (c : Cmd) (s : State) : Host.Outcome State Fault Refusal :=
  .next (s.onDev (runCmd 0x0505 c bodyOutTapRequest))

/-- A host write of a region register acts on that region; values that `out.tap_request` would refuse leave it unchanged (R248,
R622). `offset` is the BAR0 offset. -/
def Dev.writeRegion (d : Dev) (offset : Nat) (v : Word) : Dev :=
  let o := offset - Reg.TAP_REQ_ROWS 0
  let r := o / 16
  if offset < Reg.TAP_REQ_ROWS 0 ∨ 16 ≤ r ∨ 12 ≤ o % 16 ∨ o % 4 ≠ 0 then d
  else
    let n := v.toNat
    let rows := if o % 16 = 0 then n else (d.reg (Reg.TAP_REQ_ROWS r)).toNat
    let cols := if o % 16 = 4 then n else (d.reg (Reg.TAP_REQ_COLS r)).toNat
    let cfg := if o % 16 = 8 then n else (d.reg (Reg.TAP_REQ_CFG r)).toNat
    let ok := regionOk (bits cfg 0 4) (bits rows 0 9) (bits rows 16 9) (bits cols 0 8) (bits cols 16 8) (bits cfg 4 2) (bits cfg 6 5)
    let masked := if o % 16 = 0 then BitVec.ofNat 32 (bits n 0 9 + bits n 16 9 * 2 ^ 16)
      else if o % 16 = 4 then BitVec.ofNat 32 (bits n 0 8 + bits n 16 8 * 2 ^ 16)
      else BitVec.ofNat 32 (bits n 0 11 + bits n 16 16 * 2 ^ 16)
    if o % 16 = 8 ∧ bits n 0 4 = 0 then d.putRegion r 0 0 0 0 0 0 0 0
    else if ok then d.put offset masked
    else d.bump C.GLB_BAD_VALUE_CNT

/-- `TAP_REQ_WRITE` (R248). -/
def execTapReqWrite (offset : Nat) (value : Word) (s : State) : Host.Outcome State Fault Refusal :=
  .next (s.onBar fun _ d => d.writeRegion offset value)

/-- The highest region that contains a pixel, and its priority (R227). -/
def Dev.regionOf (d : Dev) (row col : Nat) : Option (Nat × Nat) :=
  ((List.range 16).filter fun r =>
    d.fld (F.TAP_REQ_CFG_PRIO r) != 0 && decide (d.fld (F.TAP_REQ_ROWS_FIRST r) ≤ row ∧ row ≤ d.fld (F.TAP_REQ_ROWS_LAST r)
      ∧ d.fld (F.TAP_REQ_COLS_FIRST r) ≤ col ∧ col ≤ d.fld (F.TAP_REQ_COLS_LAST r))).foldl (fun (acc : Option (Nat × Nat)) r =>
    match acc with
    | none => some (r, d.fld (F.TAP_REQ_CFG_PRIO r))
    | some b => if b.2 < d.fld (F.TAP_REQ_CFG_PRIO r) then some (r, d.fld (F.TAP_REQ_CFG_PRIO r)) else some b) none

/-- A frame boundary for the regions that count frames (R250). -/
def Dev.regionsFrame (d : Dev) : Dev :=
  (List.range 16).foldl (fun (d : Dev) r =>
    let n := d.fld (F.TAP_REQ_CFG_FRAMES r)
    if n = 0 then d else if n = 1 then d.putRegion r 0 0 0 0 0 0 0 0 else d.setFld (F.TAP_REQ_CFG_FRAMES r) (n - 1)) d

/-! ## `cal.tap` (R243 to R246) -/

/-- Half the full scale and 95 % of it, µV. -/
def halfScale (x2 : Bool) : Nat := if x2 then 150000 else 300000

/-- V_t at the tap for an applied voltage, µV (R63, R244). -/
def Dev.appliedVt (d : Dev) (ch : Nat) (vin : Int) : Int :=
  let c := d.force (Reg.SLICE_CH_CFG (ch / 8) (ch % 8))
  (if bitAt c.toNat 1 then -vin else vin) - sgn 10 (field c 16 10) * 125

/-- `cal.tap` (R243, R244). -/
def bodyCalTap (q : Nat) : Body := fun p _ d =>
  let step := p.u 0 1
  let x2 := p.u 1 1 == 1
  let ch := p.u 2 2
  let cnt := p.u 4 2
  let mask := p.u 8 8
  let n := p.u 20 4
  let vin := sgn 32 (p.u 16 4)
  let bad := if step = 2 then x2 || cnt == 0 || decide (512 < ch + cnt) else cnt != 0 || decide (511 < ch)
  refuseIf (bad || !decide (4096 ≤ n ∧ n ≤ 1048576)) 0x0104 <|
    let held := match d.taps.zero with
      | some z => if z.channel = ch ∧ z.x2 = x2 ∧ z.mask = mask then some z.vz else none
      | none => none
    let vf := d.appliedVt ch vin
    let span := match held with
      | some vz => decide (absI (vf - vz) < halfScale x2 ∨ 2 * halfScale x2 * 95 < absI vf * 100
          ∨ 2 * halfScale x2 * 95 < absI vz * 100)
      | none => false
    refuseIf (step == 1 && span) 0x0104 <| refuseIf (!d.atRest) 0x0201 <|
      refuseIf (step == 1 && held.isNone) 0x0204 <|
      let c : CalTap :=
        { step := step, x2 := x2, channel := ch, count := cnt, mask := mask, vin := vf, samples := n, pair := q, tag := p.tag.toNat }
      .accept ({ d with taps := { d.taps with next := [], cal := some c } }.setFlag F.TAP_STAT_CAL_BUSY true) 0

/-- `CAL_TAP` (R243). -/
def execCalTap (c : Cmd) (s : State) : Host.Outcome State Fault Refusal := .next (s.onDev (runCmd 0x0406 c (bodyCalTap c.pair.val)))

/-- Taps that a calibration may use: powered, and for CH_OFFSET with a gain in ×1. -/
def Dev.calPool (d : Dev) (c : CalTap) : List Nat :=
  (List.range 64).filter fun t => bitAt (d.fld F.TAP_STAT_GRP_ON) (t / 8)
    && (if c.step = 2 then d.tapGain t false != 0 else bitAt c.mask t && c.open_ t)

/-- Those with room for a header (R228). -/
def Dev.calTaps (d : Dev) (c : CalTap) : List Nat := (d.calPool c).filter fun t => !d.headersFull t

/-- Taps withheld from a calibration because their header queue is full. -/
def Dev.calWithheld (d : Dev) (c : CalTap) : Nat := ((d.calPool c).filter d.headersFull).length

/-- The Ladles that a running calibration allocates for the next slot (R243): the channel through at most two taps, or one channel
after another through a tap each. -/
def Dev.calLadles (d : Dev) : Dev :=
  match d.taps.cal with
  | none => d
  | some c =>
    let ts := d.calTaps c
    let prs := if c.step = 2 then (c.units.filter c.open_).zip ts else (ts.take 2).map fun t => (c.channel, t)
    let slot := d.slotNo + 1
    let ls : List Ladle := prs.map fun x =>
      { tap := x.2, ch := x.1, x2 := c.x2, kOpen := d.settleSamples, len := 512, slot := slot, shotSlot := slot, pos := 0, shot := 0,
        ord := 0, late := false, short := false, host := false, calw := true, ctl := d.reg Reg.TAP_CTL }
    ({ d.bumpBy C.TAP_WITHHELD_CNT (d.calWithheld c) with taps := { d.taps with next := ls } }).restartAges ls

/-- A unit of the calibration can be measured. -/
def Dev.calUnitOk (d : Dev) (c : CalTap) (u : Nat) : Bool :=
  if c.step = 2 then (List.range 64).any fun t => bitAt (d.fld F.TAP_STAT_GRP_ON) (t / 8) && d.tapGain t false != 0
  else bitAt (d.fld F.TAP_STAT_GRP_ON) (u / 8)

/-- What FULL gives a tap: GAIN and OFFSET, none where g lies outside 0.875 to 1.125 (R244). -/
def fullCal (z : CalZero) (c : CalTap) (t : Nat) : Option (Nat × Int) :=
  let f := c.sum t
  let s := sget (fun _ => (0, 0)) t z.sums
  let lsb := if c.x2 then 512 else 256
  let dx := f.1 * s.2 - s.1 * f.2
  let num := (c.vin - z.vz) * lsb * (f.2 * s.2 : Nat)
  let den := 75000 * dx
  let (num, den) := if den < 0 then (-num, -den) else (num, den)
  if den = 0 ∨ 8 * num < 7 * den ∨ 9 * den < 8 * num then none
  else
    let gain := (roundDiv (32768 * num) den.toNat).toNat
    let off := roundDiv (16 * (75000 * s.1 * num - z.vz * lsb * den * s.2)) (75000 * s.2 * num.toNat)
    some (gain, off)

/-- The trim change of a channel in codes (R245): the mean voltage over `voltDen` of ×1, in 0.125 mV. -/
def trimChange (c : CalTap) (ch : Nat) : Int :=
  let s := c.sum ch
  roundDiv (s.1 * 8) (2 ^ 27 * s.2)

/-- The results of `cal.tap`. -/
def calTapResults (done firstFail worst : Nat) : List Byte := leBytes 2 done ++ leBytes 2 firstFail ++ leBytes 4 worst

/-- Every unit is measured: the values are applied or refused as a whole (R244 to R246). -/
def Dev.calTapEnd (d : Dev) (c : CalTap) : Dev :=
  let us := c.units
  let off := us.filter fun u => !d.calUnitOk c u
  let zero := d.taps.zero
  let trim (ch : Nat) : Int := sgn 10 (d.fld (F.SLICE_CH_CFG_OFFSET (ch / 8) (ch % 8))) + trimChange c ch
  let bad (u : Nat) : Bool :=
    if c.step = 0 then false
    else if c.step = 1 then (match zero with
      | some z => (fullCal z c u).isNone
      | none => true)
    else decide (trim u < -512 ∨ 511 < trim u)
  let fails := us.filter fun u => off.contains u || bad u
  let worst := us.foldl (fun a u =>
    max a (if off.contains u then 0
      else if c.step = 2 then absI (trimChange c u)
      else
        let g := if c.step = 1 then (match zero with
          | some z => ((fullCal z c u).map (·.1)).getD (d.tapGain u c.x2)
          | none => d.tapGain u c.x2) else d.tapGain u c.x2
        absI ((g : Int) - 32768))) 0
  let d := { d with taps := { d.taps with cal := none } }.setFlag F.TAP_STAT_CAL_BUSY false
  let d := if c.step = 2 then d else fails.foldl (fun (d : Dev) t => d.tapFlag 3 (t / 8)) d
  let res := calTapResults (us.length - off.length) (fails.head?.getD 65535) worst
  if fails.isEmpty then
    let d := if c.step = 0 then { d with taps := { d.taps with zero := some ⟨c.channel, c.x2, c.mask, c.vin, c.sums⟩ } }
      else if c.step = 1 then us.foldl (fun (d : Dev) t =>
        match zero.bind fun z => fullCal z c t with
        | some x => d.put (if c.x2 then Reg.TAP_T_CAL_X2 t else Reg.TAP_T_CAL_X1 t) (BitVec.ofNat 32 (x.1 % 65536 + unsgn 16 x.2 * 65536))
        | none => d) d
      else us.foldl (fun (d : Dev) ch =>
        let a := Reg.SLICE_CH_CFG (ch / 8) (ch % 8)
        d.putHeld a (withField (d.reg a) 16 10 (unsgn 10 (trim ch)))) d
    d.complete c.pair c.tag 0x0000 res
  else d.complete c.pair c.tag (if c.step = 2 then 0x0502 else 0x0503) res

/-- `CAL_TAP_COMPLETE` (R246): it ends when every unit that can be measured has its samples. -/
def execCalTapComplete (s : State) : Host.Outcome State Fault Refusal :=
  .next (s.onDev fun _ d =>
    match d.taps.cal with
    | some c => if c.units.all fun u => !c.open_ u || !d.calUnitOk c u then d.calTapEnd c else d
    | none => d)

end Sys2Proof.Machine
end

