-- ==== Sys2Proof/Machine/Turf.lean ====
section
/-! DEFINITION. The Turf store (chapter 09): sods, reads that charge, ageing, the ash estimator, the laws of an update, and the
host's access. -/

namespace Sys2Proof.Machine

/-! ## Sods (R251 to R253) -/

/-- Index of the sod of a row and a column (R251). -/
def sodIndex (row col : Nat) : Nat := row * 256 + col

/-- Turf bank `b` is on (R252, R280). -/
def Dev.bankOn (d : Dev) (b : Nat) : Bool := d.domOn (84 + b)

/-- The bank of a sod. -/
def sodBank (i : Nat) : Nat := i / 8192

/-- Word `w` of sod `i`. -/
def Dev.sodWord (d : Dev) (i w : Nat) : Word := sget (fun _ => 0#32) (12 * i + w) d.turf.sods

/-- The twelve words of a sod. -/
def Dev.sod (d : Dev) (i : Nat) : List Word := (List.range 12).map (d.sodWord i)

/-- Write one word of a sod; a bank that is off keeps nothing (R280). -/
def Dev.putSodWord (d : Dev) (i w : Nat) (v : Word) : Dev :=
  if d.bankOn (sodBank i) then { d with turf := { d.turf with sods := sset (fun _ => 0#32) (12 * i + w) v d.turf.sods } } else d

/-- A field of a word list. -/
def wordField (l : List Word) (w lo n : Nat) : Nat := field (l.getD w 0#32) lo n

/-- G_now (R257). -/
def Dev.gNow (d : Dev) : Nat := (d.reg Reg.TIME_FRAME).toNat % 256

/-- The age of a generation (R258). -/
def Dev.ageOf (d : Dev) (gen : Nat) : Nat := (d.gNow + 256 - gen % 256) % 256

/-- The age of sod `i`. -/
def Dev.sodAge (d : Dev) (i : Nat) : Nat := d.ageOf (field (d.sodWord i 5) 18 8)

/-- A sod is stale (R258). -/
def Dev.sodStale (d : Dev) (i : Nat) : Bool :=
  let f := (d.sodWord i 6).toNat
  !bitAt f 0 || bitAt f 1 || decide (96 ≤ d.sodAge i)

/-! ## Threshold law (R266) -/

/-- A setting of an update: the value taken at the dwell's first shot (R275). -/
abbrev Setting := Nat → Nat

/-- The threshold codes of an ash value in 1/64 mV, as word 0 of a sod (R266). The step of the codes is 150/256 mV. -/
def thresholdLaw (g : Setting) (ash : Nat) : Nat :=
  let code (k lo hi : Nat) : Nat := clampN lo hi (ceilDiv (k * ash) 600)
  code (g P.turf_k_lo) (g P.turf_lo_min) (g P.turf_lo_max)
    + code (g P.turf_k_mid) (g P.turf_mid_min) 1023 * 2 ^ 10
    + code (g P.turf_k_hi) (g P.turf_hi_min) 1023 * 2 ^ 20

/-! ## Reads (R261, R274) -/

/-- The greatest window close of a slice: 16,000 where two-slot windows are allowed (R108). -/
def Dev.twoSlotOk (d : Dev) (s : Nat) : Bool := decide (d.forceFld (F.SLICE_EM_CTL_TWO_SLOT_EN s) = 1) && decide (2 ≤ d.par P.slot_groups 0)

/-- The acquisition settings of a row, as words 0 to 11; word 4 is served as it stands (R261). -/
def Dev.acqWords (d : Dev) (row : Nat) (w4 : Word) : List Word :=
  let ash := if d.flag (F.TURF_ROW_ASH_VALID row) then d.fld (F.TURF_ROW_ASH_ASH row) else (d.par P.turf_acq_ash_mv 0 + 2) / 4
  let wmax := if d.twoSlotOk (row / 8) then 16000 else 8000
  [BitVec.ofNat 32 (thresholdLaw (fun i => d.par i 0) ash), BitVec.ofNat 32 (2 ^ 16 * wmax), BitVec.ofNat 32 ash,
   BitVec.ofNat 32 (d.par P.turf_acq_energy_nj 0 * 2 ^ 16), w4,
   BitVec.ofNat 32 (d.par P.turf_acq_dwell 0 - 1 + d.par P.turf_tp_acq 0 * 2 ^ 6), 0, 0, 0, 0, 0, 0]

/-- A read of sod `i` serves acquisition settings (R261). -/
def Dev.servesAcq (d : Dev) (i : Nat) : Bool := d.flag F.TURF_CTL_ACQ_ALL || d.sodStale i

/-- Number of the current safety window modulo 64 (R274). -/
def Dev.winNo (d : Dev) : Nat := d.safe.window % 64

/-- The charge of a read: `used` is E_used in 1/`energyOne` nJ, charged in units of 4 nJ rounded up (R274). -/
def Dev.chargeSod (d : Dev) (i used : Nat) : Dev :=
  let w := d.sodWord i 4
  let old := if field w 24 6 = d.winNo then field w 0 24 else 0
  d.putSodWord i 4 (BitVec.ofNat 32 (satAdd 24 old (ceilDiv used (4 * energyOne)) + 2 ^ 24 * d.winNo))

/-- What a read-and-charge serves: the words, whether they are acquisition settings, and the generation read. -/
structure SodRead where
  words : List Word
  acq : Bool
  gen : Nat
  deriving DecidableEq, Repr

/-- A read-and-charge of the direction of a lit row (R261, R274). -/
def Dev.readCharge (d : Dev) (row col used : Nat) : Dev × SodRead :=
  let i := sodIndex row col
  let d := d.chargeSod i used
  let gen := field (d.sodWord i 5) 18 8
  if d.servesAcq i then (d.bump C.TURF_ACQ, ⟨d.acqWords row (d.sodWord i 4), true, gen⟩)
  else (d, ⟨d.sod i, false, gen⟩)

/-- Zero in words 0 to 3 and 5 to 11, then CLR, GEN and DSLOT; word 4 is not changed (R278). -/
def Dev.clearSod (d : Dev) (i : Nat) : Dev :=
  if d.bankOn (sodBank i) then
    let m := sclear (fun k => decide (12 * i ≤ k ∧ k < 12 * i + 12 ∧ k ≠ 12 * i + 4)) d.turf.sods
    let d := { d with turf := { d.turf with sods := m } }
    ((d.putSodWord i 5 (BitVec.ofNat 32 (2 ^ 18 * d.gNow))).putSodWord i 6 4#32).putSodWord i 10 (BitVec.ofNat 32 (d.slotNo % 2 ^ 24))
  else d

/-- A read finds an uncorrectable byte of the store (R279): `b` is its byte number, 48 bytes to a sod. -/
def Dev.sodUe (d : Dev) (b : Nat) : Dev :=
  let i := b / 48
  if 131072 ≤ i ∨ d.bankOn (sodBank i) = false then d
  else
    let d := (d.bump C.TURF_UE_CNT).raise Ev.turfUe
    if b % 48 / 4 = 4 then d.putSodWord i 4 (BitVec.ofNat 32 (0xFFFFFF + 2 ^ 24 * d.winNo)) else d.clearSod i

/-- A Turf bank loses its contents when it is switched off: its sods read zero when it is on again (R280). -/
def Dev.dropBank (d : Dev) (b : Nat) : Dev :=
  { d with turf := { d.turf with sods := sclear (fun k => k / 98304 == b) d.turf.sods } }

/-! ## Ageing (R259, R260) -/

/-- Change word 6 of `n` sods from sod `i` on, in one pass over the store; counts the sods whose word changes. `f` gives the
new word from the index and words 5 and 6. -/
def mapFlags (f : Nat → Word → Word → Word) : Nat → Nat → Sparse Word → Nat × Sparse Word
  | 0, _, l => (0, l)
  | n + 1, i, l =>
    let p := l.span fun e => decide (e.1 < 12 * i + 6)
    let w5 := ((p.1.find? fun e => e.1 == 12 * i + 5).map (·.2)).getD 0#32
    let here := p.2.takeWhile fun e => e.1 == 12 * i + 6
    let w6 := (here.head?.map (·.2)).getD 0#32
    let rest := p.2.drop here.length
    let v := f i w5 w6
    let r := mapFlags f n (i + 1) rest
    (r.1 + b2n (v != w6), p.1 ++ (if v = 0#32 then r.2 else (12 * i + 6, v) :: r.2))

/-- The ageing sweep of one frame (R259). -/
def Dev.ageSweep (d : Dev) : Dev :=
  let f (i : Nat) (w5 w6 : Word) : Word :=
    if d.bankOn (sodBank i) && decide (96 ≤ d.ageOf (field w5 18 8)) then w6 ||| 2#32 else w6
  let r := mapFlags f 4096 (d.gNow % 32 * 4096) d.turf.sods
  { d with turf := { d.turf with sods := r.2 } }.bumpBy C.TURF_STALE_CNT r.1

/-- Every sod is marked stale (R260). -/
def Dev.sweepAll (d : Dev) : Dev :=
  let r := mapFlags (fun i _ w6 => if d.bankOn (sodBank i) then w6 ||| 2#32 else w6) 131072 0 d.turf.sods
  { d with turf := { d.turf with sods := r.2 } }

/-- Scanning starts or resumes: after more than `turf.hold_max_s` stopped or held, every sod is marked, which takes 0.5 ms
(R260). The time counts from the reset, or from the last sweep, until a sweep begins. -/
def Dev.wakeTurf (d : Dev) : Dev :=
  match d.turf.stoppedAt with
  | none => d
  | some t =>
    if 2500000000 * d.par P.turf_hold_max_s 0 < d.time.ticks - t then
      let d := d.sweepAll.setFlag F.TURF_STAT_SWEEP_ALL true
      { d with scan := { d.scan with sweepAllEnd := some (1250000 + d.time.ticks) } }
    else d

/-- The marking of R260 completes when its time has passed. -/
def Dev.sweepAllDone (d : Dev) : Dev :=
  match d.scan.sweepAllEnd with
  | some t => if t ≤ d.time.ticks then { d.setFlag F.TURF_STAT_SWEEP_ALL false with scan := { d.scan with sweepAllEnd := none } } else d
  | none => d

/-! ## Ash (R263 to R265) -/

/-- The accumulators and the estimate of a sod. -/
structure Ash where
  ash : Nat
  n : Nat
  t : Nat
  code : Nat
  satv : Bool
  deriving DecidableEq, Repr

/-- n_s, tau_s and sat_s of a shot summary (R263): `blank` is m × BLANK, `len` the length of the window in force. -/
def shotSample (frac holdoff slots blank len : Nat) (x : Summary) : Nat × Nat × Bool :=
  let full := x.idleLen = 65535
  let n := (if full then 0 else x.idleLo) + x.preLo + x.winLo
  let tau := (if full then 0 else x.idleLen) + (slots - len - blank)
  (n, tau, x.ovf || x.idleLo == 65535 || x.preLo == 255 || x.winLo == 255 || decide (frac * tau ≤ n * holdoff * 256))

/-- The square of 64 times the level h of a code in mV, over 2 ln of a ratio: numerator and denominator, `ln` in 2^-48. -/
def levelOver (code : Nat) (ln : Int) : Nat × Nat := (code * code * 22500 * 2 ^ 48, 32 * max 1 ln.toNat)

/-- The saturated step (R264). -/
def ashSaturated (g : Setting) (holdoff : Nat) (a : Ash) : Ash :=
  let nu0 := g P.turf_nu0_mhz
  let q := levelOver a.code (lnFix (nu0 * holdoff) 2500)
  let bound := if 3000 < nu0 * holdoff then (isqrt (4 * q.1 / q.2) + 1) / 2 else 0
  let up := (roundDiv (a.ash * g P.turf_ash_sat_up : Nat) 16).toNat
  { a with ash := clampN 1 65535 (min (1023 * 64) (max up bound)), n := 0, t := 0, satv := true }

/-- The rate step (R265). The second part says that the sample was saturated. -/
def ashRate (g : Setting) (holdoff : Nat) (a : Ash) : Ash × Bool :=
  let live : Int := (16 * a.t : Nat) - (a.n * holdoff : Nat)
  let n2 := max (2 * a.n) 1
  let nu0 := g P.turf_nu0_mhz
  if live ≤ 0 ∨ (6 * nu0 * live.toNat ≤ 12500 * n2) then (ashSaturated g holdoff a, true)
  else
    let q := levelOver a.code (lnFix (nu0 * live.toNat) (1250 * n2))
    let l := log2Fix a.ash 1
    let ls := log2Fix q.1 q.2 / 2
    let sh := if l < ls then g P.turf_ash_up_shift else g P.turf_ash_down_shift
    let y := l + (ls - l) / 2 ^ sh
    ({ a with ash := clampN 1 65535 ((exp2Fix y + 2 ^ 47) / 2 ^ 48), n := 0, t := 0, satv := false }, false)

/-- The ash step of a dwell (R263 to R265), with whether its sample was saturated. No sample, saturated or not, is formed while the
code in force is 0. -/
def ashStep (g : Setting) (p : Pixel) (holdoff blank : Nat) (a : Ash) : Ash × Bool :=
  let w := p.win
  let slots := if w.2 ≤ 8000 then 8000 else 16000
  let xs := p.shots.filterMap fun (x : DwellShot) =>
    x.summary.map (shotSample (g P.turf_sat_frac) holdoff slots (x.offsets.length * blank) (w.2 - w.1))
  let a := if p.thr.1 = a.code then a else { a with n := 0, t := 0, code := p.thr.1 }
  let a := { a with n := satAdd 16 a.n (xs.foldl (fun s x => s + x.1) 0),
                    t := satAdd 16 a.t (xs.foldl (fun s x => s + x.2.1) 0 / 16) }
  if a.code = 0 then (a, false)
  else if xs.any (·.2.2) then (ashSaturated g holdoff a, true)
  else if (g P.turf_ash_min_n ≤ a.n ∨ g P.turf_ash_tmax_us * 10000 ≤ a.t * 64) then ashRate g holdoff a
  else (a, false)

/-! ## Echo slots and the laws of the next visit (R268 to R273) -/

/-- One stored echo. -/
structure EchoSlot where
  t : Nat
  amp : Nat
  cls : Nat
  conf : Nat
  sat : Bool
  deriving DecidableEq, Repr

/-- The stored form of an echo (R253, R268). -/
def Echo.slot (e : Echo) : EchoSlot :=
  ⟨min (2 ^ 22 - 1) e.te.toNat, min 1023 e.ampMv, e.cls, e.conf, e.sat⟩

/-- The echoes that an update stores: the lowest- and the highest-indexed of classes 1 to 6 (R268). -/
def storedEchoes (es : List Echo) : List EchoSlot :=
  match es.filter fun (e : Echo) => decide (1 ≤ e.cls ∧ e.cls ≤ 6) with
  | [] => []
  | [x] => [x.slot]
  | x :: y :: r => [x.slot, ((y :: r).getLast?.getD y).slot]

/-- Half of word 8 for a slot. -/
def slotBits (x : EchoSlot) : Nat := x.cls + 2 ^ 4 * x.conf + b2n x.sat * 2 ^ 10 + 2 ^ 11

/-- The window of the next visit and PROBE (R269). -/
def nextWindow (g : Setting) (wmax probe : Nat) (st : List EchoSlot) : Nat × Nat × Nat :=
  match st with
  | [] => (0, wmax, 0)
  | x :: r =>
    let last := (r.head?.map (·.t)).getD x.t
    if st.any (fun e => (e.cls == 1 || e.cls == 2) && decide (g P.turf_win_conf ≤ e.conf)) && decide (probe < g P.turf_win_probe) then
      (x.t / 256 - g P.turf_win_pre, min wmax (last / 256 + g P.turf_win_post), probe + 1)
    else (0, wmax, 0)

/-- The lowest confidence of the stored echoes. -/
def minConf (st : List EchoSlot) : Nat := st.foldl (fun a e => min a e.conf) 63

/-- The dwell law (R270): `n` is the present dwell. -/
def dwellLaw (g : Setting) (low wx : Bool) (n : Nat) (st : List EchoSlot) : Nat :=
  if low then n
  else if st.isEmpty then g P.turf_dwell_noecho
  else if minConf st < g P.turf_conf_lo then min (g P.turf_dwell_max) (2 * n)
  else if g P.turf_conf_hi ≤ minConf st ∧ wx = false then max (g P.turf_dwell_min) (n / 2)
  else n

/-- The energy law (R271). -/
def energyLaw (g : Setting) (e : Nat) (st : List EchoSlot) : Nat :=
  if st.any fun x => x.sat || decide (g P.turf_amp_hi_mv ≤ x.amp) then max (g P.turf_e_min_nj) (e / 2)
  else if st.isEmpty ∨ minConf st < g P.turf_conf_lo then min (g P.emit_e_max) (ceilDiv (e * g P.turf_e_up) 16)
  else e

/-- The tap priority (R272): the largest value among the conditions that hold. -/
def tapPrio (g : Setting) (wx multi edge low acq : Bool) (tally : Nat) : Nat :=
  [(wx, P.turf_tp_wx), (multi, P.turf_tp_multi), (edge, P.turf_tp_edge), (low, P.turf_tp_lowconf), (decide (16 ≤ tally), P.turf_tp_int),
   (acq, P.turf_tp_acq)].foldl (fun a x => if x.1 then max a (g x.2) else a) 0

/-- The edge test (R272): the sod of the column before is not stale, has an echo, and differs by more than the edge step. -/
def Dev.edgeTest (d : Dev) (g : Setting) (p : Pixel) (st : List EchoSlot) : Bool :=
  let col := p.pos / 4
  match st.head? with
  | none => false
  | some x =>
    let i := sodIndex p.row (col - 1)
    decide (0 < col) && !d.sodStale i && bitAt (d.sodWord i 8).toNat 11
      && decide (256 * g P.turf_edge_cp < absI ((field (d.sodWord i 7) 0 22 : Int) - x.t))

/-! ## Updates (R256, R262, R275) -/

/-- What an update writes to sod words 0 to 3 and 5 to 11. -/
abbrev SodUpdate := List Word

/-- A word with a field replaced, in a word list. -/
def setWordField (l : List Word) (w lo n v : Nat) : List Word := modAt l w fun x => withField x lo n v

/-- The update of a visit (R261 to R273, R275): `es` its echoes, `wxTap` a waveform verdict of 3 or 4. It starts from the acquisition
settings where its read served them, and else from the stored words.
A visit without a frame, or with every shot suppressed, changes only the ash fields, the thresholds, GEN, DSLOT and the flags. The
second part says whether the ash sample was saturated. -/
def Dev.formUpdate (d : Dev) (p : Pixel) (miss : Bool) (es : List Echo) (wxTap : Bool) : List Word × Bool :=
  let g : Setting := p.get
  let w := if p.acq then p.sod else d.sod (sodIndex p.row (p.pos / 4))
  let fe := p.get snapFeCtl
  let a0 : Ash := ⟨wordField w 2 0 16, wordField w 2 16 16, wordField w 3 0 16, wordField w 11 0 10, bitAt (w.getD 6 0).toNat 3⟩
  let a := ashStep g p (feHoldoff fe) (feBlank fe) a0
  let part := miss || p.fired.isEmpty
  let st := storedEchoes es
  let wx := !part && (wxTap || st.any fun x => x.cls == 3 || x.cls == 4)
  let edge := !part && d.edgeTest g p st
  let w := modAt w 0 fun _ => BitVec.ofNat 32 (thresholdLaw g a.1.ash)
  let w := modAt w 2 fun _ => BitVec.ofNat 32 (a.1.ash + 2 ^ 16 * a.1.n)
  let w := setWordField w 3 0 16 a.1.t
  let w := setWordField w 11 0 10 a.1.code
  let noEcho := if part then wordField w 6 8 4 else if st.isEmpty then satAdd 4 (wordField w 6 8 4) 1 else 0
  let flags := 1 + b2n a.1.satv * 2 ^ 3 + b2n wx * 2 ^ 4 + b2n edge * 2 ^ 5 + b2n miss * 2 ^ 6 + 2 ^ 8 * noEcho
  let w := modAt w 6 fun _ => BitVec.ofNat 32 flags
  let w := modAt w 10 fun _ => BitVec.ofNat 32 (p.slot0 % 2 ^ 24)
  let w := setWordField w 5 18 8 d.gNow
  if part then (w, a.2)
  else
    let tally := min 255 (wordField w 5 10 8 - wordField w 5 10 8 / 8 + min 255 p.interference)
    let win := nextWindow g (if p.twoSlot then 16000 else 8000) (wordField w 5 26 3) st
    let low := !st.isEmpty && decide (minConf st < g P.turf_conf_lo)
    let w := modAt w 1 fun _ => BitVec.ofNat 32 (win.1 + 2 ^ 16 * win.2.1)
    let w := setWordField w 3 16 16 (energyLaw g (wordField w 3 16 16) st)
    let dwell := dwellLaw g p.lowShot wx (wordField w 5 0 6 + 1) st
    let prio := tapPrio g wx (decide (2 ≤ es.length)) edge low p.acq tally
    let w := modAt w 5 fun _ => BitVec.ofNat 32 (dwell - 1 + 2 ^ 6 * prio + 2 ^ 10 * tally + 2 ^ 18 * d.gNow + 2 ^ 26 * win.2.2)
    let s0 := st.head?
    let s1 := st.tail.head?
    let time (x : Option EchoSlot) : Word := (x.map fun (e : EchoSlot) => BitVec.ofNat 32 (e.t + 2 ^ 22 * e.amp)).getD 0#32
    if st.isEmpty then (modAt w 8 fun x => withField (withField x 11 1 0) 27 1 0, a.2)
    else
      let w := modAt w 7 fun _ => time s0
      let w := modAt w 8 fun _ => BitVec.ofNat 32 ((s0.map slotBits).getD 0 + (s1.map slotBits).getD 0 * 2 ^ 16)
      (modAt w 9 fun _ => time s1, a.2)

/-- The Damper's dwell cap (R305). -/
def dwellCap (level : Nat) : Nat := if level = 0 then 64 else if level = 1 then 16 else if level = 2 then 8 else 4

/-- An update's new dwell is recorded as a demand of its column; `SCN_COL_PLAN` shows it under the Damper's cap (R297). -/
def Dev.noteDemand (d : Dev) (col dwell : Nat) : Dev :=
  let v := max (sget (fun _ => 0) col d.scan.demand) dwell
  { d with scan := { d.scan with demand := sset (fun _ => 0) col v d.scan.demand } }.setFld (F.SCN_COL_PLAN_D col) (min v (dwellCap d.damper))

/-- The bank takes an update: it is discarded when its dwell started at or before DSLOT, and else written, with its saturated ash
sample counted, and its ash goes to the row (R256, R262, R264). A bank that is off takes none (R280). -/
def Dev.writeUpdate (d : Dev) (row col slot0 : Nat) (w : List Word) (sat : Bool) : Dev :=
  let i := sodIndex row col
  let f := (d.sodWord i 6).toNat
  let ahead := (2 ^ 24 + slot0 - field (d.sodWord i 10) 0 24) % 2 ^ 24
  if d.bankOn (sodBank i) = false then d
  else if (bitAt f 0 || bitAt f 2) && decide (d.sodAge i < 96) && (ahead == 0 || decide (2 ^ 23 ≤ ahead)) then d.bump C.TURF_LATE_CNT
  else
    let d := if sat then d.bump C.TURF_ASHSAT_CNT else d
    let d := [0, 1, 2, 3, 5, 6, 7, 8, 9, 10, 11].foldl (fun (d : Dev) k => d.putSodWord i k (w.getD k 0#32)) d
    let d := (d.setFld (F.TURF_ROW_ASH_ASH row) (wordField w 2 0 16)).setFlag (F.TURF_ROW_ASH_VALID row) true
    (d.noteDemand col (wordField w 5 0 6 + 1)).bump C.TURF_UPD

/-- The update of a finished dwell (R254, R263); it is discarded while updates are off (R275). -/
def Dev.updateSod (d : Dev) (p : Pixel) (miss : Bool) (es : List Echo) (wxTap : Bool) : Dev :=
  let u := d.formUpdate p miss es wxTap
  if d.flag F.TURF_CTL_UPD_EN then d.writeUpdate p.row (p.pos / 4) p.slot0 u.1 u.2 else d

/-! ## Host access (R276 to R278) -/

/-- A snapshot of one sod (R276). -/
def Dev.snapshotSod (d : Dev) (v : Word) : Dev :=
  let i := field v 0 17
  let d := d.put Reg.TURF_RD_IDX (BitVec.ofNat 32 i)
  let d := (d.sod i).zipIdx.foldl (fun (d : Dev) (x : Word × Nat) => d.put (Reg.TURF_RD_DATA x.2) x.1) d
  d.put Reg.TURF_RD_STAT (BitVec.ofNat 32 (1 + b2n (d.servesAcq i) * 2 + d.sodAge i * 2 ^ 8))

/-- `TURF_RD_IDX_WRITE` (R276): the snapshot is one indivisible read, complete within the step. -/
def execTurfRdIdxWrite (value : Word) (s : State) : Host.Outcome State Fault Refusal :=
  .next (s.onBar fun _ d => d.snapshotSod value)

/-- The rectangle of a `turf.dump` or `turf.clear`. -/
def turfJob (p : Packet) (q : Nat) : TurfJob :=
  { rowFirst := p.u 0 2, rowLast := p.u 2 2, colFirst := p.u 4 1, colLast := p.u 5 1, addr := p.u 8 8, pair := q, tag := p.tag.toNat }

/-- The rectangle is in order and in range. -/
def TurfJob.ok (j : TurfJob) : Bool := decide (j.rowFirst ≤ j.rowLast ∧ j.rowLast ≤ 511 ∧ j.colFirst ≤ j.colLast)

/-- Indices of the sods of the rectangle, row-major. -/
def TurfJob.indices (j : TurfJob) : List Nat :=
  (List.range (j.rowLast + 1 - j.rowFirst)).flatMap fun r =>
    (List.range (j.colLast + 1 - j.colFirst)).map fun c => sodIndex (j.rowFirst + r) (j.colFirst + c)

/-- Bytes that a dump writes. -/
def TurfJob.size (j : TurfJob) : Nat := (j.rowLast + 1 - j.rowFirst) * (j.colLast + 1 - j.colFirst) * 48

/-- `turf.dump` (R277). -/
def bodyTurfDump (q : Nat) : Body := fun p _ d =>
  let j := turfJob p q
  refuseIf (!j.ok) 0x0104 <| refuseIf (j.addr % 64 != 0 || !inDevMem j.addr j.size) 0x0105 <|
    .accept ({ d with turf := { d.turf with dump := some j } }.setFlag F.TURF_STAT_DUMP_BUSY true) 0

/-- `TURF_DUMP` (R277). -/
def execTurfDump (c : Cmd) (s : State) : Host.Outcome State Fault Refusal := .next (s.onDev (runCmd 0x0506 c (bodyTurfDump c.pair.val)))

/-- A dump reads its next `n` sods, each at one instant (R277). -/
def Dev.dumpRead (d : Dev) (j : TurfJob) (n : Nat) : TurfJob :=
  let is := (j.indices.drop (j.words.length / 12)).take n
  if is.isEmpty then j else { j with first := j.first.or (some (d.gNow, d.slotNo)), words := j.words ++ is.flatMap d.sod }

/-- The sods that a running dump reads between two slot boundaries: at most 12, which is 4,000,000 in a second. The manual leaves open
how many the spare capacity allows: a free value (DESIGN CHOICE, log entry 22). -/
def Dev.dumpAtSlot (d : Dev) : Dev :=
  match d.turf.dump with
  | none => d
  | some j => { d.freeNext with turf := { d.turf with dump := some (d.dumpRead j (d.free 8 % 13)) } }

/-- The last sod of the dump is written (R277): those not read before are read now. -/
def Dev.dumpDone (d : Dev) : Dev :=
  match d.turf.dump with
  | none => d
  | some j =>
    let j := d.dumpRead j j.indices.length
    let at_ := j.first.getD (d.gNow, d.slotNo)
    let b := j.words.flatMap fun w => leBytes 4 w.toNat
    let d := ({ d with turf := { d.turf with dump := none } }.setFlag F.TURF_STAT_DUMP_BUSY false).memw j.addr b
    d.complete j.pair j.tag 0x0000 (leBytes 4 b.length ++ leBytes 1 at_.1 ++ leBytes 1 d.gNow ++ zeros 2 ++ leBytes 8 at_.2)

/-- `TURF_DUMP_COMPLETE` (R277). -/
def execTurfDumpComplete (s : State) : Host.Outcome State Fault Refusal := .next (s.onDev fun _ d => d.dumpDone)

/-- `turf.clear` (R278). -/
def bodyTurfClear (q : Nat) : Body := fun p _ d =>
  let j := turfJob p q
  refuseIf (!j.ok) 0x0104 <|
    .accept ({ d with turf := { d.turf with clear := some j } }.setFlag F.TURF_STAT_CLEAR_PEND true) 0

/-- `TURF_CLEAR` (R278). -/
def execTurfClear (c : Cmd) (s : State) : Host.Outcome State Fault Refusal := .next (s.onDev (runCmd 0x0507 c (bodyTurfClear c.pair.val)))

/-- The slot boundary after a `turf.clear`: every sod of the rectangle is cleared, and the command completes (R278). -/
def Dev.clearAtBoundary (d : Dev) : Dev :=
  match d.turf.clear with
  | none => d
  | some j =>
    let d := j.indices.foldl Dev.clearSod d
    ({ d with turf := { d.turf with clear := none } }.setFlag F.TURF_STAT_CLEAR_PEND false).complete j.pair j.tag 0x0000

end Sys2Proof.Machine
end

