-- ==== Sys2Proof/Machine/Scan.lean ====
section
/-! DEFINITION. The mirror and the frame (chapter 10): the loop, the setpoint paths, the column plan, and start, hold, resume and
stop. -/

namespace Sys2Proof.Machine

/-! ## Block-floating stages (R287) -/

/-- A value divided by 2^sh, rounded to nearest with ties away from zero. -/
def roundAway (v : Int) (sh : Nat) : Int :=
  let a := (v.natAbs + 2 ^ (sh - 1)) / 2 ^ sh
  if v < 0 then -(a : Int) else a

/-- The value of mantissa `i` of a stage in 2^-72: m × 2^(x − 32). -/
def Stage.val (s : Stage) (i : Nat) : Int := s.m.getD i 0 * 2 ^ (s.exp + 40)

/-- A mantissa fits 16 bits. -/
def fits16 (v : Int) : Bool := decide (-32768 ≤ v ∧ v ≤ 32767)

/-- The least exponent at which every value fits, with its mantissas; saturated at 63 (R287, R288). Values are in 2^-72. -/
def normStage (l : List Int) : Stage × Bool :=
  match (List.range 64).find? fun x => l.all fun v => fits16 (roundAway v (x + 40)) with
  | some x => ({ exp := x, m := l.map fun v => roundAway v (x + 40) }, false)
  | none => ({ exp := 63, m := l.map fun v => clampI (-32768) 32767 (roundAway v 103) }, true)

/-- A coefficient held in 1/256, in its own block-floating form. -/
def coefOf (v : Nat) : Int × Nat :=
  let s := (normStage [(v : Int) * 2 ^ 64]).1
  (s.m.getD 0 0, s.exp)

/-- A coefficient times mantissa `m` of a stage with exponent `x`, exact, in 2^-72. -/
def coefTimes (c : Int × Nat) (m : Int) (x : Nat) : Int := c.1 * m * 2 ^ (c.2 + x + 8)

/-! ## Setpoint paths (R294, R296, R310, R311) -/

/-- Position of a stretch at tick `t`, 1/65,536 code. -/
def Seg.at_ (g : Seg) (t : Nat) : Int :=
  let l : Int := max 1 g.len
  let u : Int := max 0 (min (t - g.t0) g.len)
  match g.shape with
  | .line => g.x0 + roundDiv ((g.x1 - g.x0) * u) l.toNat
  | .hermite =>
    let h00 := 2 * u ^ 3 - 3 * u ^ 2 * l + l ^ 3
    let h01 := 3 * u ^ 2 * l - 2 * u ^ 3
    let h10 := u ^ 3 - 2 * u ^ 2 * l + u * l ^ 2
    let h11 := u ^ 3 - u ^ 2 * l
    roundDiv (8000 * (h00 * g.x0 + h01 * g.x1) + (h10 * g.v0 + h11 * g.v1) * l) (8000 * l ^ 3).toNat
  | .cosine => g.x0 + roundDiv ((g.x1 - g.x0) * (sinPi u.toNat (2 * l.toNat)) ^ 2) (2 ^ 120)

/-- Velocity of a stretch at tick `t`, 1/65,536 code per 8,000 ticks; at rest past its end. -/
def Seg.vel (g : Seg) (t : Nat) : Int :=
  let l : Int := max 1 g.len
  let u : Int := max 0 (min (t - g.t0) g.len)
  match g.shape with
  | .line => roundDiv (8000 * (g.x1 - g.x0)) l.toNat
  | .hermite =>
    roundDiv (8000 * (6 * u ^ 2 - 6 * u * l) * (g.x0 - g.x1) + ((3 * u ^ 2 - 4 * u * l + l ^ 2) * g.v0 + (3 * u ^ 2 - 2 * u * l) * g.v1) * l)
      (l ^ 3).toNat
  | .cosine => roundDiv (4000 * (g.x1 - g.x0) * (piFix : Int) * sinPi u.toNat l.toNat) (2 ^ 120 * l.toNat)

/-- The stretch in force at tick `t`: the last that has begun. -/
def segAt (p : List Seg) (t : Nat) : Option Seg := (p.filter fun g => decide (g.t0 ≤ t)).getLast?.or p.head?

/-- The setpoint of a path at tick `t`, going on at its end velocity past its end, as a sample that leads the schedule finds it at the
end of a sweep (R295, DEDUCED, log entry 25); none without a path. -/
def pathAt (p : List Seg) (t : Nat) : Option Int :=
  (segAt p t).map fun g => g.at_ t + roundDiv (g.vel t * (t - g.t0 - g.len : Nat)) 8000

/-- A new path after an old one: a setpoint that lags the schedule finds the stretch that the old path was in before (R295). -/
def followOn (old new : List Seg) : List Seg :=
  match new.head? with
  | some g => ((segAt old (g.t0 - 1)).filter fun o => decide (o.t0 < g.t0)).toList ++ new
  | none => new

/-- A path that rests at a position. -/
def restPath (t : Nat) (x : Int) : List Seg := [{ shape := .line, t0 := t, len := 1, x0 := x, x1 := x }]

/-- The apex of a turnaround curve, in ticks from its start (R296): where its velocity is zero. -/
def apexTicks (len : Nat) (v0 v1 : Int) : Nat :=
  let a : Int := v0.natAbs
  let b : Int := if v0 < 0 then -v1 else v1
  let den := 2 * a + b + (isqrt (a * a + a * b + b * b).toNat : Nat)
  if den ≤ 0 then 0 else min len (len * a.toNat / den.toNat)

/-! ## Geometry and the column plan (R293 to R299) -/

/-- Columns of a frame (R293). -/
def Dev.columns (d : Dev) : Nat := d.par P.slot_positions 0 / max 1 (d.par P.scan_subcols 0)

/-- The edge of column `c` of `n`, position codes (R294). -/
def Dev.colEdge (d : Dev) (n c : Nat) : Int :=
  let a := d.parI P.scan_x_first 0
  a + roundDiv ((c : Int) * (d.parI P.scan_x_last 0 - a)) n

/-- Function B is in use (R380). -/
def Dev.fnB (d : Dev) : Bool := d.flag F.SAFE_STAT_COMMISSIONED && d.par P.safe_b_en 0 == 1

/-- The frame length that the Damper leaves (R305). -/
def Dev.frameLen (d : Dev) : Nat :=
  let n := d.par P.slot_frame_slots 0
  if 6 ≤ d.damper ∧ d.fnB = false then min (2 * n) 62500 else n

/-- The columns in decreasing demand, ties to the lower (R298). -/
def insCol (dem : List Nat) (c : Nat) : List Nat → List Nat
  | [] => [c]
  | x :: xs => if dem.getD x 0 < dem.getD c 0 then c :: x :: xs else x :: insCol dem c xs

/-- A column may take one more unit under the slope limit `rho`, in 1/16 (R298). -/
def slopeOk (rho : Nat) (n : List Nat) (c : Nat) : Bool :=
  let ok (o : Option Nat) : Bool := match o with
    | some v => decide (16 * (n.getD c 0 + 1) ≤ rho * v)
    | none => true
  ok (if c = 0 then none else n[c - 1]?) && ok n[c + 1]?

/-- One unit more for the columns in turn that may take it, while units remain. -/
def raiseCols (may : List Nat → Nat → Bool) (order : List Nat) (x : List Nat × Nat) : List Nat × Nat :=
  order.foldl (fun x c => if 0 < x.2 ∧ may x.1 c then (modAt x.1 c (· + 1), x.2 - 1) else x) x

/-- The rounds of the plan, until none raises a column; the first number bounds them. -/
def planRounds (may : List Nat → Nat → Bool) (order : List Nat) : Nat → List Nat × Nat → List Nat × Nat
  | 0, x => x
  | k + 1, x =>
    let y := raiseCols may order x
    if y.2 = x.2 then x else planRounds may order k y

/-- The plan (R298): units of each of `c` columns from `u` units. -/
def planOf (rho u c : Nat) (dem : List Nat) : List Nat :=
  let order := (List.range c).foldl (fun acc x => insCol dem x acc) []
  let a := planRounds (fun n x => decide (n.getD x 0 < dem.getD x 0) && slopeOk rho n x) order (u + 1) (List.replicate c 1, u - c)
  let b := (a.1.map (· + a.2 / max 1 c), a.2 % max 1 c)
  let e := raiseCols (slopeOk rho) order b
  (raiseCols (fun _ _ => true) order e).1

/-- Units of a sweep (R298). -/
def Dev.sweepUnits (d : Dev) : Nat :=
  (d.frameLen - d.par P.slot_turn_slots 0) / max 1 (d.par P.scan_subcols 0 * d.par P.slot_groups 0)

/-- The plan for a list of demands under the parameters in force. -/
def Dev.makePlan (d : Dev) (dem : List Nat) : List Nat := planOf (d.par P.scan_slope_ratio 0) d.sweepUnits d.columns dem

/-- The plan computed last, made again when the frame's form has changed since. -/
def Dev.planDue (d : Dev) : List Nat :=
  let n := d.scan.planNext
  if n.length = d.columns ∧ n.foldl (· + ·) 0 = d.sweepUnits then n else d.makePlan d.scan.demandPrev

/-- The demands for the plan after the present frame (R297). -/
def Dev.demands (d : Dev) : List Nat :=
  (List.range d.columns).map fun c =>
    if d.flag F.SCN_CTL_PLAN_EN then
      min (dwellCap d.damper) ((slook c d.scan.demand).getD (d.scan.demandPrev.getD c 64))
    else 64

/-- The plan is computed when the turnaround begins, from the demands gathered until then (R297, R298). -/
def Dev.computePlan (d : Dev) : Dev :=
  let dem := d.demands
  { d with scan := { d.scan with demandPrev := dem, demand := [], planNext := d.makePlan dem } }

/-- The uniform demands of the first frame after `scan.start` (R297). -/
def Dev.uniformPlan (d : Dev) : Dev :=
  let dem := List.replicate d.columns 64
  { d with scan := { d.scan with demandPrev := dem, demand := [], planNext := d.makePlan dem } }

/-- The frame number of the coming frame boundary. -/
def Dev.nextFrame (d : Dev) : Nat := ((d.reg Reg.TIME_FRAME).toNat + 1) % 2 ^ 32

/-- The columns of a frame in sweep order (R294, R299). -/
def sweepOrder (rev : Bool) (n : Nat) : List Nat := if rev then (List.range n).reverse else List.range n

/-- Ticks of one unit. -/
def Dev.unitTicks (d : Dev) : Nat := 8000 * d.par P.scan_subcols 0 * d.par P.slot_groups 0

/-- The stretches of a sweep that begins at tick `t` (R294). -/
def Dev.sweepPath (d : Dev) (rev : Bool) (n : List Nat) (t : Nat) : List Seg :=
  let k := n.length
  ((sweepOrder rev k).foldl (fun (x : Nat × List Seg) c =>
    let len := n.getD c 0 * d.unitTicks
    let a := 65536 * d.colEdge k c
    let b := 65536 * d.colEdge k (c + 1)
    let g : Seg := { shape := .line, t0 := x.1, len := len, x0 := if rev then b else a, x1 := if rev then a else b }
    (x.1 + len, x.2 ++ [g])) (t, [])).2

/-- First edge and first velocity of a sweep. -/
def Dev.sweepStart (d : Dev) (rev : Bool) (n : List Nat) : Int × Int :=
  match (d.sweepPath rev n 0).head? with
  | some g => (g.x0, g.vel 0)
  | none => (0, 0)

/-- The Y line of a frame, 1/65,536 code (R294). -/
def Dev.yOf (d : Dev) (frame : Nat) : Int := d.parI P.scan_y_set (frame / 2 % 2) * 65536

/-- Slots of a run-in (R310). -/
def Dev.runInSlots (d : Dev) : Nat := ceilDiv (d.par P.slot_turn_slots 0) 2

/-! ## Paths of the scan states -/

/-- Both axes go on along new paths. -/
def Dev.setPaths (d : Dev) (x y : List Seg) : Dev :=
  { d with scan := { d.scan with pathX := followOn d.scan.pathX x, pathY := followOn d.scan.pathY y } }

/-- Both setpoints leave for a position on a raised cosine over `scan.ramp_ms` (R310, R313). -/
def Dev.rampTo (d : Dev) (x0 y0 x1 y1 : Int) : Dev :=
  let t := d.time.ticks
  let len := 2500000 * d.par P.scan_ramp_ms 0
  d.setPaths [{ shape := .cosine, t0 := t, len := len, x0 := x0, x1 := x1 }] [{ shape := .cosine, t0 := t, len := len, x0 := y0, x1 := y1 }]

/-- The setpoints at the present tick, the measured position without a path. -/
def Dev.setpoints (d : Dev) : Int × Int :=
  ((pathAt d.scan.pathX d.time.ticks).getD (65536 * d.scan.posX), (pathAt d.scan.pathY d.time.ticks).getD (65536 * d.scan.posY))

/-- The start of the run-in of the next sweep (R310). -/
def Dev.runInStart (d : Dev) : Int :=
  let f := d.nextFrame
  let e := d.sweepStart (f % 2 == 1) d.planDue
  e.1 - roundDiv (e.2 * d.runInSlots) 2

/-! ## Starting (R310) -/

/-- `scan.start`; `PWR_STAT.STATE` IDLE lacks a prerequisite (R560). Every record credit is full again (R324). -/
def bodyScanStart : Body := fun _ _ d =>
  refuseIf (!d.atRest) 0x0201 <| refuseIf (!d.locked || d.fld F.PWR_STAT_STATE == 1) 0x0204 <|
  refuseIf (!d.chainUp false && d.par P.emit_e_max 0 != 0) 0x0204 <|
    let d := (d.wakeTurf.setFld F.SCN_STAT_STATE stStarting).uniformPlan
    let d := d.rampTo (65536 * d.scan.posX) (65536 * d.scan.posY) d.runInStart (d.yOf d.nextFrame)
    .accept { d with out := { d.out with used := [], refilled := d.time.ticks }, scan := { d.scan with
      phase := .ramp, stE := { m := [0, 0, 0, 0] }, stP := {}, stI := {}, stD := {}, stU := {}, coef := [], alpha := [],
      clipX := false, clipY := false, late := 0, overran := false, overruns := 0, trackX := 0, trackY := 0, settleFrom := none,
      mirAmpEn := true, ampOffNext := false } } 0

/-- `SCAN_START` (R310). -/
def execScanStart (c : Cmd) (s : State) : Host.Outcome State Fault Refusal := .next (s.onDev (runCmd 0x0201 c bodyScanStart))

/-- `SCAN_RAMP_END` (R310): the loop waits for the settle condition at the end of the ramp. -/
def execScanRampEnd (s : State) : Host.Outcome State Fault Refusal :=
  .next (s.onDev fun _ d =>
    if d.scan.phase = .ramp then { d with scan := { d.scan with phase := .settle, settleFrom := none, trackX := 0, trackY := 0 } } else d)

/-- The settle condition has held for `scan.settle_ms` (R310). -/
def Dev.settled (d : Dev) : Bool :=
  match d.scan.settleFrom with
  | some t => decide (2500000 * d.par P.scan_settle_ms 0 ≤ d.scan.posTick - t)
  | none => false

/-- A run-in may begin (R310, R312). -/
def Dev.runInReady (d : Dev) : Bool :=
  d.scan.sweepAllEnd.isNone && d.flag F.TIME_STAT_PHASE_LOCK && !d.scan.stopNext && !d.scan.holdNext
    && ((d.scan.phase == .settle && d.settled) || (d.scan.phase == .parked && d.scanState == stHolding && d.scan.resumeReq))

/-- The run-in begins at the present slot's boundary and ends ceil(T/2) slots later; ARM is raised (R310, R312, R366). -/
def Dev.beginRunIn (d : Dev) : Dev :=
  let d := d.sweepAllDone
  if d.runInReady then
    let f := d.nextFrame
    let r := d.runInSlots
    let e := d.sweepStart (f % 2 == 1) d.planDue
    let x := d.setpoints
    let t := d.time.slotStart
    let len := 8000 * r + d.time.slotLen - 8000
    let d := d.setPaths [{ shape := .hermite, t0 := t, len := len, x0 := x.1, x1 := e.1, v0 := 0, v1 := e.2 }]
      [{ shape := .hermite, t0 := t, len := len, x0 := x.2, x1 := d.yOf f, v0 := 0, v1 := 0 }]
    let d := d.setFlag F.SCN_STAT_PARKED false
    { d with scan := { d.scan with phase := .runIn, runInLeft := r, arm := true, grants := [], endedUnits := [], subKey := none }, blw := { d.blw with holdReq := false } }
  else d

/-- `RUN_IN_START` (R310). -/
def execRunInStart (s : State) : Host.Outcome State Fault Refusal := .next (s.onDev fun _ d => d.beginRunIn)

/-! ## Mirror faults (R291) -/

/-- A mirror fault. -/
def Dev.mirrorFault (d : Dev) : Dev :=
  if d.atRest then d
  else
    let d := (d.detect Cause.mirror).toFault
    ((d.mark Reg.SCN_EVT 11).bump C.SCN_MFAULT_CNT).raiseReg Ev.mirrorFault Reg.SCN_EVT

/-- `MIRROR_SETTLE_TIMEOUT` (R291). -/
def execMirrorSettleTimeout (s : State) : Host.Outcome State Fault Refusal :=
  .next (s.onDev fun _ d => if d.scan.phase == .settle && !d.settled then d.mirrorFault else d)

/-! ## The loop (R286 to R292, R295) -/

/-- The coefficients take effect where a load is due (R292). -/
def Dev.loadCoefs (d : Dev) : Dev :=
  if d.scan.coef.isEmpty then
    let c (i a : Nat) : Int × Nat := coefOf (d.par i a)
    { d with scan := { d.scan with
      coef := [c P.scan_kp 0, c P.scan_ki 0, c P.scan_kd 0, c P.scan_kp 1, c P.scan_ki 1, c P.scan_kd 1],
      alpha := [d.par P.scan_d_alpha 0, d.par P.scan_d_alpha 1] } }
  else d

/-- A saturated stage or a clamped DAC sets its sticky bit (R288). -/
def Dev.loopFlag (d : Dev) (on : Bool) (bit : Nat) : Dev := if on then d.sticky Reg.SCN_EVT bit Ev.scnSat else d

/-- One axis at a stage: the kept value of an abandoned axis, or the new one. -/
def pick (late : Nat) (axis : Nat) (old new : Int) : Int := if bitAt late axis then old else new

/-- The loop computes one sample: setpoints in 1/65,536 code, positions in codes, and the axes abandoned (R286, R290). -/
def Dev.loopStep (d : Dev) (rx ry yx yy : Int) (late : Nat) : Dev :=
  let d := d.loadCoefs
  let s := d.scan
  let co (i : Nat) : Int × Nat := s.coef.getD i (0, 0)
  let er (i : Nat) : Int := if i = 0 then rx * 2 ^ 56 - 2 ^ 72 * yx else ry * 2 ^ 56 - 2 ^ 72 * yy
  let e := normStage [pick late 0 (s.stE.val 0) (er 0), pick late 1 (s.stE.val 1) (er 1),
                      pick late 0 (s.stE.val 2) (s.stE.val 0), pick late 1 (s.stE.val 3) (s.stE.val 1)]
  let m (i : Nat) : Int := e.1.m.getD i 0
  let p := normStage ([0, 1].map fun i => pick late i (s.stP.val i) (coefTimes (co (3 * i)) (m i) e.1.exp))
  let clip (i : Nat) : Bool := if i = 0 then s.clipX else s.clipY
  let i_ := normStage ([0, 1].map fun i => pick late i (s.stI.val i)
    (if clip i then s.stI.val i else s.stI.val i + coefTimes (co (3 * i + 1)) (m i) e.1.exp))
  let dd := normStage ([0, 1].map fun i =>
    let a : Nat := s.alpha.getD i 0
    pick late i (s.stD.val i)
      (((a : Int) * s.stD.val i + (256 - (a : Int)) * coefTimes (co (3 * i + 2)) (m i - m (i + 2)) e.1.exp) / 256))
  let u := normStage ([0, 1].map fun i => pick late i (s.stU.val i) (p.1.val i + i_.1.val i + dd.1.val i))
  let dac (i : Nat) : Int := roundAway (u.1.val i) 72 + 32768
  let out (i : Nat) (f : Fld) : Nat := if bitAt late i then d.fld f else (clampI 0 65535 (dac i)).toNat
  let above (i : Nat) : Bool := !bitAt late i && decide (dac i < 0 ∨ 65535 < dac i)
  let err (i : Nat) : Int := clampI (-32768) 32767 (roundAway (e.1.val i) 72)
  let cx := if bitAt late 0 then s.clipX else above 0
  let cy := if bitAt late 1 then s.clipY else above 1
  let dx := out 0 F.SCN_MIR_DAC_X
  let dy := out 1 F.SCN_MIR_DAC_Y
  let d := { d with scan := { s with stE := e.1, stP := p.1, stI := i_.1, stD := dd.1, stU := u.1, clipX := cx, clipY := cy } }
  let d := (d.setFld F.SCN_MIR_DAC_X dx).setFld F.SCN_MIR_DAC_Y dy
  let d := (d.setFld F.SCN_MIR_ERR_X (unsgn 16 (err 0))).setFld F.SCN_MIR_ERR_Y (unsgn 16 (err 1))
  let d := d.put Reg.SCN_MIR_EXP (BitVec.ofNat 32
    (e.1.exp + 2 ^ 6 * p.1.exp + 2 ^ 12 * i_.1.exp + 2 ^ 18 * dd.1.exp + 2 ^ 24 * u.1.exp))
  let d := [e.2, p.2, i_.2, dd.2, u.2].zipIdx.foldl (fun (d : Dev) (x : Bool × Nat) => d.loopFlag x.1 x.2) d
  (d.loopFlag (above 0) 5).loopFlag (above 1) 6

/-- The error of an axis at the last sample, in codes. -/
def Dev.loopErr (d : Dev) (axis : Nat) : Nat := (roundAway (d.scan.stE.val axis) 72).natAbs

/-- The settle condition, the fault limit and the telemetry sums at a sample (R291, R310, R617). -/
def Dev.watchErr (d : Dev) (tick : Nat) : Dev :=
  let tol := d.par P.scan_track_tol 0
  let lim := d.par P.scan_track_fault 0
  let ex := d.loopErr 0
  let ey := d.loopErr 1
  let from_ := if ex ≤ tol ∧ ey ≤ tol then d.scan.settleFrom.or (some tick) else none
  let watched := (d.scanState == stStarting && d.scan.phase != .ramp) || d.scanState == stRunning || d.scanState == stHolding
  let tx := if watched && decide (lim < ex) then d.scan.trackX + 1 else 0
  let ty := if watched && decide (lim < ey) then d.scan.trackY + 1 else 0
  let d := { d with tel := { d.tel with rmsXSum := d.tel.rmsXSum + ex * ex, rmsYSum := d.tel.rmsYSum + ey * ey, rmsCnt := d.tel.rmsCnt + 1 } }
  let d := { d with scan := { d.scan with settleFrom := if d.scan.phase == .settle then from_ else d.scan.settleFrom,
                                          trackX := tx, trackY := ty } }
  if 16 ≤ tx ∨ 16 ≤ ty then d.mirrorFault else d

/-- The next column edge of the sweep: its tick and position, and whether the sweep rises. -/
def ScanSt.lagEdge (s : ScanSt) : Option (Nat × Int × Bool) :=
  ((s.pathX.filter fun g => g.shape == .line)[s.lagNext - 1]?).map fun g =>
    (if s.lagNext = 0 then g.t0 else g.t0 + g.len, if s.lagNext = 0 then g.x0 else g.x1, decide (g.x0 ≤ g.x1))

/-- The column edges that the measured position, in 1/65,536 code, crossed between two samples, in sweep order; the first number bounds
them (R295). -/
def ScanSt.crossEdges : Nat → ScanSt → Nat × Int → Nat × Int → ScanSt
  | 0, s, _, _ => s
  | k + 1, s, p, q =>
    match s.lagEdge with
    | none => s
    | some (t, x, up) =>
      if (if up then x ≤ q.2 else q.2 ≤ x) then
        let at_ : Int := if (if up then p.2 < x else x < p.2) then p.1 + (x - p.2) * ((q.1 : Int) - p.1) / (q.2 - p.2) else p.1
        ScanSt.crossEdges k { s with lagNext := s.lagNext + 1, lagSum := s.lagSum + (at_ - t), lagCnt := s.lagCnt + 1 } p q
      else s

/-- At the start of a sweep, the crossing of its first edge among the samples before it (R295). -/
def ScanSt.crossPast (s : ScanSt) : ScanSt :=
  let l := s.past.reverse.map fun x => (x.1, 65536 * x.2)
  (l.zip l.tail).foldl (fun (s : ScanSt) x =>
    let into := match s.lagEdge with
      | some (_, e, up) => if up then decide (x.1.2 < e) else decide (e < x.1.2)
      | none => false
    if s.lagNext = 0 ∧ into = true then s.crossEdges 1 x.1 x.2 else s) s

/-- The lags of the sweep are published (R295). -/
def Dev.publishLag (d : Dev) : Dev :=
  if d.scan.lagCnt = 0 then d
  else
    let v := unsgn 16 (clampI (-32768) 32767 (roundDiv d.scan.lagSum (25 * d.scan.lagCnt)))
    let d := d.setFld (if d.flag F.SCN_STAT_DIR then F.SCN_LAG_REV else F.SCN_LAG_FWD) v
    { d with scan := { d.scan with lagNext := 0, lagSum := 0, lagCnt := 0 } }

/-- Ticks of the sub-column phase φ of the frame in force (R295). -/
def Dev.phaseTicks (d : Dev) : Int := d.parI P.scan_subcol_phase_ns (b2n (d.flag F.SCN_STAT_DIR)) * 5 / 2

/-- The setpoints at tick `t`. A sample that leads the schedule finds the next sweep past the end of its turnaround or run-in (R286,
R295). -/
def Dev.leadPoints (d : Dev) (t : Nat) : Option Int × Option Int :=
  let end_ := (d.scan.pathX.getLast?.map fun g => g.t0 + g.len).getD 0
  if (d.scan.phase == .turn || d.scan.phase == .runIn) && decide (end_ ≤ t) then
    (pathAt (d.sweepPath (d.nextFrame % 2 == 1) d.planDue end_) t, some (d.yOf d.nextFrame))
  else (pathAt d.scan.pathX t, pathAt d.scan.pathY t)

/-- A loop sample: the amplifier goes off where that is due; else both axes are computed, and an axis written later than 3.6 µs is
abandoned (R285, R286, R289 to R291). -/
def Dev.loopSample (d : Dev) (yx yy : Int) (tick latX latY : Nat) : Dev :=
  let d := if d.scan.ampOffNext then
      { d with scan := { d.scan with ampOffNext := false, mirAmpEn := false } }.put Reg.SCN_MIR_DAC 0x80008000#32
    else d
  let at_ (d : Dev) : Dev :=
    { d with scan := { d.scan with posX := yx, posY := yy, posTick := tick, past := ((tick, yx) :: d.scan.past).take 16 } }
  if d.atRest || !d.scan.mirAmpEn then at_ d
  else
    let late := b2n (decide (3600 < latX)) + 2 * b2n (decide (3600 < latY))
    let d := { d with scan := { d.scan with late := late, overruns := if d.scan.overran then d.scan.overruns else 0, overran := false } }
    let t := ((tick : Int) + d.phaseTicks).toNat
    let r := d.leadPoints t
    let d := d.loopStep (r.1.getD (65536 * yx)) (r.2.getD (65536 * yy)) yx yy late
    let d := if bitAt late 1 then d
      else (d.setFld F.SCN_MIR_LAT_LAST (min 65535 latY)).setFld F.SCN_MIR_LAT_MAX (max (min 65535 latY) (d.fld F.SCN_MIR_LAT_MAX))
    let d := if d.scan.phase == .sweep || d.scan.phase == .turn then
        { d with scan := d.scan.crossEdges 260 (d.scan.posTick, 65536 * d.scan.posX) (tick, 65536 * yx) } else d
    (at_ d).watchErr tick

/-- `LOOP_SAMPLE` (R286): the two position codes, the tick of the sample, and the delays of the two writes in ns. While chain 0 or 1
settles no sample comes, and the loop holds (R534). -/
def execLoopSample (yx yy : BitVec 16) (tick latX latY : Nat) (s : State) : Host.Outcome State Fault Refusal :=
  .next (s.onDev fun _ d =>
    if bits (d.fld F.HK_STAT_SETTLING) 0 2 = 0 then d.loopSample yx.toInt yy.toInt tick latX latY else d)

/-- `LOOP_OVERRUN` (R290): counted once for the sample; four in a row are a mirror fault (R291). -/
def execLoopOverrun (axisX axisY : Bool) (s : State) : Host.Outcome State Fault Refusal :=
  .next (s.onDev fun _ d =>
    if (axisX && bitAt d.scan.late 0) || (axisY && bitAt d.scan.late 1) then
      let n := d.scan.overruns + 1
      let d := ({ d with scan := { d.scan with late := 0, overran := true, overruns := n } }.mark Reg.SCN_EVT 7).bump C.SCN_OVERRUN_CNT
      if 4 ≤ n then d.mirrorFault else d
    else d)

/-! ## Hold, resume and stop (R311 to R314) -/

/-- The present stretch is a turnaround curve short of its apex: the path on to the apex and at rest there (R311). -/
def Dev.apexPath (d : Dev) : Option (List Seg) :=
  if d.scan.phase == .turn then
    match segAt d.scan.pathX d.time.ticks with
    | some g =>
      let a := g.t0 + apexTicks g.len g.v0 g.v1
      if d.time.ticks ≤ a then some (g :: restPath a (g.at_ a)) else none
    | none => none
  else none

/-- τ of R311 in slots: the idle slots of the plan in force, or of the plan that is due, and the turnaround slots. -/
def Dev.parkSlots (d : Dev) : Nat :=
  let turn := d.par P.slot_turn_slots 0
  if d.scan.phase == .sweep || d.scan.phase == .turn then d.scan.idleSlots + turn
  else d.frameLen - d.par P.slot_groups 0 * d.par P.scan_subcols 0 * d.planDue.foldl (· + ·) 0

/-- The mirror parks (R311): on to the apex of the turnaround, or off its path to rest at x + vτ/4 after τ/2. -/
def Dev.park (d : Dev) : Dev :=
  let t := d.time.ticks
  let tau := 8000 * d.parkSlots
  let x := d.setpoints
  let v := ((segAt d.scan.pathX t).map fun g => g.vel t).getD 0
  let px := d.apexPath.getD
    [{ shape := .hermite, t0 := t, len := tau / 2, x0 := x.1, x1 := x.1 + roundDiv (v * tau) 32000, v0 := v, v1 := 0 }]
  let py := if d.scan.phase == .turn || d.scan.phase == .runIn || d.scan.phase == .ramp then d.scan.pathY
    else followOn d.scan.pathY (restPath t x.2)
  let d := { d with scan := { d.scan with pathX := followOn d.scan.pathX px, pathY := py } }
  { d with scan := { d.scan with phase := .parking } }.setFlag F.SCN_STAT_PARKED false

/-- A parked mirror that stops ramps to the centre (R313). -/
def Dev.centre (d : Dev) : Dev :=
  let x := d.setpoints
  let d := d.rampTo x.1 x.2 (roundDiv ((d.parI P.scan_x_first 0 + d.parI P.scan_x_last 0) * 65536) 2) 0
  { d with scan := { d.scan with phase := .stopRamp } }.setFlag F.SCN_STAT_PARKED false

/-- A hold or a stop acts at a slot boundary: dwells end, nothing prepared fires, ARM is withdrawn and the mirror parks (R311,
R313, R366). -/
def Dev.actHold (d : Dev) : Dev :=
  let stop := d.scan.stopNext
  let was := d.scan.phase
  let d := d.endDwells
  let d := { d with blw := { d.blw with holdReq := true },
                    scan := { d.scan with holdNext := false, stopNext := false, arm := false, prep := none, grants := [], endedUnits := [],
                                          subKey := none, frameTaken := false } }
  let d := if stop then d.dropStart.setFld F.SCN_STAT_STATE stStopping else (d.setFld F.SCN_STAT_STATE stHolding).scanRests
  if was == .parked then (if stop then d.centre else d)
  else if was == .parking || was == .stopRamp then d
  else d.park

/-- `scan.hold` (R311, R312). -/
def bodyScanHold : Body := fun _ _ d =>
  refuseIf (d.scanState != stRunning && d.scanState != stHolding) 0x0201 <|
    let r := leBytes 8 (d.slotNo + 1)
    if d.scanState = stRunning then .ok { d with scan := { d.scan with holdNext := true } } r
    else if d.scan.resumeReq then
      let d := d.completeOp 0x0204 0x0201
      .ok { d with scan := { d.scan with resumeReq := false, holdNext := d.scan.phase == .runIn } } r
    else .ok d r

/-- `SCAN_HOLD` (R311). -/
def execScanHold (c : Cmd) (s : State) : Host.Outcome State Fault Refusal := .next (s.onDev (runFast 0x0203 c bodyScanHold))

/-- Thermal safe state acts as `scan.hold` (R314). -/
def Dev.thermalHold (d : Dev) : Dev :=
  if d.scanState = stRunning then { d with scan := { d.scan with holdNext := true } }
  else if d.scanState = stHolding ∧ d.scan.resumeReq then
    let d := d.completeOp 0x0204 0x0201
    { d with scan := { d.scan with resumeReq := false, holdNext := d.scan.phase == .runIn } }
  else d

/-- `scan.resume` (R312, R314). -/
def bodyScanResume : Body := fun _ _ d =>
  refuseIf (d.scanState != stHolding || d.flag F.THM_STAT_SAFE) 0x0201 <|
    let d := d.wakeTurf
    .accept { d with scan := { d.scan with resumeReq := true } } 0

/-- `SCAN_RESUME` (R312). -/
def execScanResume (c : Cmd) (s : State) : Host.Outcome State Fault Refusal := .next (s.onDev (runCmd 0x0204 c bodyScanResume))

/-- `scan.stop` (R313). -/
def bodyScanStop : Body := fun _ _ d =>
  if d.scanState = stStopped then .ok d []
  else if d.scanState = stFault then .ok (d.setFld F.SCN_STAT_STATE stStopped) []
  else .accept (if d.scanState = stStopping then d else { d with scan := { d.scan with stopNext := true } }) 0

/-- `SCAN_STOP` (R313). -/
def execScanStop (c : Cmd) (s : State) : Host.Outcome State Fault Refusal := .next (s.onDev (runCmd 0x0202 c bodyScanStop))

/-- `MIRROR_PARKED` (R311): in a stop the ramp to the centre follows (R313). -/
def execMirrorParked (s : State) : Host.Outcome State Fault Refusal :=
  .next (s.onDev fun _ d =>
    if d.scan.phase == .parking then
      if d.scanState = stStopping then d.centre
      else { d with scan := { d.scan with phase := .parked } }.setFlag F.SCN_STAT_PARKED true
    else d)

/-- `STOP_RAMP_END` (R313). -/
def execStopRampEnd (s : State) : Host.Outcome State Fault Refusal :=
  .next (s.onDev fun _ d =>
    if d.scan.phase == .stopRamp then
      let d := ((d.setFld F.SCN_STAT_STATE stStopped).put Reg.SCN_MIR_DAC 0x80008000#32).scanRests
      { d with scan := { d.scan with phase := .off, mirAmpEn := false, pathX := [], pathY := [] } }.completeOp 0x0202 0x0000
    else d)

/-! ## Frames (R294, R298) -/

/-- A frame boundary is due at the coming slot boundary: the frame or the run-in ends there. -/
def Dev.frameDue (d : Dev) : Bool :=
  !d.scan.holdNext && !d.scan.stopNext
    && ((d.scanState == stRunning && decide (d.scan.frameSlots ≤ d.fld F.TIME_SLOT_IN_FRAME_SLOT + 1))
      || (d.scan.phase == .runIn && d.scan.runInLeft == 1))

/-- The demand gathered for a column so far, or kept from the plan before (R297). -/
def Dev.gathered (d : Dev) (c : Nat) : Nat :=
  match slook c d.scan.demand with
  | some v => min v (dwellCap d.damper)
  | none => d.scan.demandPrev.getD c 0

/-- The plan that a frame runs under is shown, with the demand gathered for the next (R316, R318). -/
def Dev.showPlan (d : Dev) : Dev :=
  (List.range 256).foldl (fun (d : Dev) c =>
    d.put (Reg.SCN_COL_PLAN c) (BitVec.ofNat 32 (d.scan.plan.getD c 0 + 2 ^ 16 * min 255 (d.gathered c)))) d

/-- The sweep of a new frame begins at the present tick (R51, R294, R298, R310, R312). -/
def Dev.beginSweep (d : Dev) : Dev :=
  let d := d.publishLag
  let f := d.nextFrame
  let n := d.planDue
  let rev := f % 2 == 1
  let len := d.frameLen
  let turn := d.par P.slot_turn_slots 0
  let g := d.par P.slot_groups 0
  let k := d.par P.scan_subcols 0
  let idle := len - turn - g * k * n.foldl (· + ·) 0
  let d := (d.setFld F.SCN_STAT_STATE stRunning).setFlag F.SCN_STAT_DIR rev
  let d := ((d.setFld F.SCN_STAT_YSEL (f / 2 % 2)).setFld F.SCN_STAT_IDLE idle).setFlag F.SCN_STAT_TEST_A false
  let d := d.setPaths (d.sweepPath rev n d.time.ticks) (restPath d.time.ticks (d.yOf f))
  let d := { d with scan := { d.scan with
    phase := .sweep, plan := n, planNext := n, frameSlots := len, turnSlots := turn, idleSlots := idle, groups := g, subcols := k,
    turned := false, frameTaken := true, resumeReq := false, lagNext := 0, lagSum := 0,
    lagCnt := 0 } }
  let d := { d with scan := d.scan.crossPast, turf := { d.turf with stoppedAt := none } }
  ((d.put Reg.TIME_FRAME (BitVec.ofNat 32 f)).showPlan.completeOp 0x0201 0x0000).completeOp 0x0204 0x0000

/-- The turnaround begins: the next plan is computed, and X and Y turn (R294, R296, R298). New coefficients take effect at its first
loop sample (R292). -/
def Dev.beginTurn (d : Dev) : Dev :=
  let d := d.computePlan
  let t := d.time.slotStart
  let len := 8000 * (d.scan.idleSlots + d.scan.turnSlots) + d.time.slotLen - 8000
  let f := d.nextFrame
  let ve := (d.scan.pathX.getLast?.map fun g => (g.x1, g.vel (g.t0 + g.len))).getD (0, 0)
  let vs := d.sweepStart (f % 2 == 1) d.planDue
  let y := d.yOf (d.reg Reg.TIME_FRAME).toNat
  let gx : Seg := { shape := .hermite, t0 := t, len := len, x0 := ve.1, x1 := vs.1, v0 := ve.2, v1 := vs.2 }
  let gy : Seg := { shape := .hermite, t0 := t, len := len, x0 := y, x1 := d.yOf f }
  { d with scan := { d.scan with
    phase := .turn, turned := true, pathX := d.scan.pathX ++ [gx], pathY := followOn d.scan.pathY [gy], coef := [], grants := [],
    endedUnits := [], subKey := none } }

/-- A stretch that has not ended at tick `t` ends later or sooner. -/
def Seg.stretch (g : Seg) (t : Nat) (by_ : Int) : Seg := if t < g.t0 + g.len then { g with len := ((g.len : Int) + by_).toNat } else g

/-- The last stretch of a path is stretched. -/
def stretchLast (p : List Seg) (t : Nat) (by_ : Int) : List Seg := modAt p (p.length - 1) fun g => g.stretch t by_

/-- The X path of a mirror that parks, with its turnaround curve or its own curve to rest trimmed: the apex and the rest follow
(R311). -/
def stretchPark (p : List Seg) (t : Nat) (by_ : Int) : List Seg :=
  match p.reverse with
  | r :: g :: before =>
    if r.shape == .line then
      if t < r.t0 then
        let g := g.stretch t by_
        let a := g.t0 + apexTicks g.len g.v0 g.v1
        before.reverse ++ g :: restPath a (g.at_ a)
      else p
    else modAt p (p.length - 1) fun g =>
      let g' := g.stretch t by_
      { g' with x1 := g.x0 + roundDiv (g.v0 * (2 * g'.len : Nat)) 32000 }
  | _ => p

/-- A trimmed slot of a turnaround or of a run-in, or of a mirror that parks, moves the end of its curves (R47, R296, R311). -/
def Dev.stretchPaths (d : Dev) (by_ : Int) : Dev :=
  let t := d.time.ticks
  let along (x : List Seg) : Dev := { d with scan := { d.scan with pathX := x, pathY := stretchLast d.scan.pathY t by_ } }
  match d.scan.phase with
  | .turn => along (stretchLast d.scan.pathX t by_)
  | .runIn => along (stretchLast d.scan.pathX t by_)
  | .parking => along (stretchPark d.scan.pathX t by_)
  | _ => d

end Sys2Proof.Machine
end

