-- ==== Sys2Proof/Machine/Housekeeping.lean ====
section
/-! DEFINITION. Housekeeping (chapter 18): decimation chains, syncs, sense inputs and their curves, `cal.hk`, the temperature rounds
with the sensor tests, the Damper and thermal safe state. -/

namespace Sys2Proof.Machine

/-! ## Decimation chains (R531 to R536) -/

/-- Ratio of a preset (R532). -/
def hkRatio (p : Nat) : Nat := if p = 0 then 80 else if p = 1 then 800 else if p = 2 then 8000 else 80000

/-- Order of a preset. -/
def hkOrder (p : Nat) : Nat := if p = 0 then 4 else if p = 1 then 3 else 2

/-- Outputs that a preset suppresses after a reset. -/
def hkSettle (p : Nat) : Nat := if p = 0 then 8 else if p = 1 then 7 else 6

/-- A quotient rounded to nearest, ties away from zero. -/
def divAway (a : Int) (b : Nat) : Int :=
  let q : Nat := (2 * a.natAbs + b) / (2 * max 1 b)
  if a < 0 then -(q : Int) else q

/-- Decimation chain `c`. -/
def Dev.hkChain (d : Dev) (c : Nat) : HkChain := sget (fun _ => {}) c d.hk.chains

/-- Set decimation chain `c`. -/
def Dev.setHkChain (d : Dev) (c : Nat) (x : HkChain) : Dev :=
  { d with hk := { d.hk with chains := sset (fun _ => ({} : HkChain)) c x d.hk.chains } }

/-- A chain is reset: its outputs are suppressed for the settling count and m is zero (R534, R535). -/
def Dev.chainReset (d : Dev) (c : Nat) : Dev :=
  let d := d.setHkChain c { settling := hkSettle (d.fld (F.HK_CHAIN_CFG_PRESET c)) }
  (d.setFlag (F.HK_CHAIN_OUT_VALID c) false).setBit Reg.HK_STAT c true

/-- A new `HK_CHAIN_CFG` word, where the one before was `old`: DC_SHIFT within its limits, a chain reset on a change of source or
preset (R551, R553). -/
def Dev.chainCfgSet (d : Dev) (c : Nat) (old : Word) : Dev :=
  let d := d.setFld (F.HK_CHAIN_CFG_DC_SHIFT c) (clampN 4 16 (d.fld (F.HK_CHAIN_CFG_DC_SHIFT c)))
  if field old 0 4 = field (d.reg (Reg.HK_CHAIN_CFG c)) 0 4 then d else d.chainReset c

/-- One integrator after another takes a sample, modulo 2^48. -/
def cicIntegrate : List Nat → Nat → List Nat
  | [], _ => []
  | i :: is, x => let v := (i + x) % 2 ^ 48; v :: cicIntegrate is v

/-- One comb after another: the new delays and the last difference. -/
def cicComb : List Nat → Nat → List Nat × Nat
  | [], x => ([], x)
  | c :: cs, x =>
    let r := cicComb cs ((2 ^ 48 + x - c) % 2 ^ 48)
    (x :: r.1, r.2)

/-- The samples of one block pass a chain of order `n`: the chain and the word before the DC stage, with its SAT (R532, R533). -/
def HkChain.block (h : HkChain) (preset : Nat) (codes : List (BitVec 12)) : HkChain × Int × Bool :=
  let n := hkOrder preset
  let integ := codes.foldl (fun (l : List Nat) (x : BitVec 12) => cicIntegrate l (unsgn 48 x.toInt)) (h.integ.take n)
  let c := cicComb (h.comb.take n) (integ.getLast?.getD 0)
  let y := sgn 48 c.2
  let f (i : Nat) : Int := h.fir.getD i 0
  let v := divAway (16 * (y - 6 * f 0 + 42 * f 1 - 6 * f 2 + f 3)) (32 * hkRatio preset ^ n)
  ({ h with integ := integ ++ zeros0 (4 - n), comb := c.1 ++ zeros0 (4 - n), fir := (y :: h.fir).take 4 },
    clampI (-32768) 32767 v, decide (v < -32768 ∨ 32767 < v))
where
  /-- Unused stages. -/
  zeros0 (k : Nat) : List Nat := List.replicate k 0

/-- The DC-blocking stage on chains 4 to 7 (R535): the new m, and the word with its SAT. -/
def dcStage (h : HkChain) (freeze : Bool) (shift : Nat) (x : Int) : HkChain × Int × Bool :=
  let y := divAway (2 ^ 24 * x - h.dc) (2 ^ 24)
  (if freeze then h else { h with dc := h.dc + roundDiv (2 ^ 24 * x - h.dc) (2 ^ shift) },
    clampI (-32768) 32767 y, decide (y < -32768 ∨ 32767 < y))

/-- A limit code of converter `c` (R529). -/
def Dev.overRange (d : Dev) (c : Nat) (codes : List (BitVec 12)) : Dev :=
  if codes.any fun x => decide (x.toInt = -2048 ∨ x.toInt = 2047) then d.sticky Reg.HK_EVT c Ev.hkOvr else d

/-- What ZERO or FULL has gathered of its samples. -/
def CalHk.add (c : CalHk) (sum : Int) (n : Nat) : CalHk := { c with sum := c.sum + sum, cnt := c.cnt + n }

/-- The codes that a measurement still needs. -/
def CalHk.take (c : CalHk) (codes : List (BitVec 12)) : CalHk :=
  let l := codes.take (c.samples - c.cnt)
  c.add (l.foldl (fun (a : Int) (x : BitVec 12) => a + x.toInt) 0) l.length

/-- Raw codes for a running `cal.hk` on a direct input (R542): the first that complete its number of samples. -/
def Dev.calDirect (d : Dev) (input : Nat) (codes : List (BitVec 12)) : Dev :=
  { d with hk := { d.hk with cal := d.hk.cal.map fun (c : CalHk) => if c.input = input then c.take codes else c } }

/-! ## `cal.hk` (R542) -/

/-- The LSB of an input in µV, as a fraction (R537, R645). -/
def hkLsb (input : Nat) : Nat × Nat := if input < 4 then (15625, 32) else (1000, 1)

/-- Full scale of an input, µV (R537, R645). -/
def hkFullScale (input : Nat) : Nat := if input < 4 then 1000000 else 2048000

/-- Two voltages differ by half the full scale and lie within 95 % of it. -/
def hkSpanOk (input : Nat) (vf vz : Int) : Bool :=
  let fs := hkFullScale input
  decide (fs ≤ 2 * absI (vf - vz) ∧ 100 * absI vf ≤ 95 * fs ∧ 100 * absI vz ≤ 95 * fs)

/-- GAIN and OFFSET of an input, none where g lies outside 0.875 to 1.125 (R244, R542). -/
def hkGain (z : Int × Nat × Int) (c : CalHk) : Option (Nat × Int) :=
  let lsb := hkLsb c.input
  let num := (c.vin - z.2.2) * (c.cnt * z.2.1 * lsb.2 : Nat)
  let den := (c.sum * (z.2.1 : Nat) - z.1 * (c.cnt : Nat)) * (lsb.1 : Nat)
  let (num, den) := if den < 0 then (-num, -den) else (num, den)
  if den = 0 ∨ 8 * num < 7 * den ∨ 9 * den < 8 * num then none
  else
    let gain := (roundDiv (32768 * num) den.toNat).toNat
    let off := roundDiv (16 * (z.1 * (lsb.1 : Nat) * num - z.2.2 * (lsb.2 : Nat) * den * (z.2.1 : Nat))) (z.2.1 * lsb.1 * num.toNat)
    some (gain, off)

/-- The measurement has its samples: ZERO holds the mean, FULL sets the coefficients or is refused with 0x0104 (R542). -/
def Dev.calHkEnd (d : Dev) : Dev :=
  match d.hk.cal with
  | none => d
  | some c =>
    if c.cnt < c.samples then d
    else
      let d := { d with hk := { d.hk with cal := none } }
      let cur := d.par P.hk_cal c.input
      let res (v : Nat) : List Byte := leBytes 4 v
      if c.step = 0 then
        let d := { d with hk := { d.hk with zeros := sput c.input (c.sum, c.cnt, c.vin) d.hk.zeros } }
        d.complete c.pair c.tag 0x0000 (res cur)
      else
        match (slook c.input d.hk.zeros).bind fun z => hkGain z c with
        | some x =>
          let v := x.1 % 65536 + 65536 * unsgn 16 (clampI (-32768) 32767 x.2)
          (d.setPar P.hk_cal c.input v).complete c.pair c.tag 0x0000 (res v)
        | none => (d.countRefused 0x0104).complete c.pair c.tag 0x0104 (res cur)

/-- `cal.hk` (R542). -/
def bodyCalHk (q : Nat) : Body := fun p _ d =>
  let step := p.u 0 1
  let input := p.u 1 1
  let vin := sgn 32 (p.u 4 4)
  let n := p.u 8 4
  let held := slook input d.hk.zeros
  let span := match held with
    | some z => !hkSpanOk input vin z.2.2
    | none => false
  refuseIf (decide (35 < input) || n == 0 || (step == 1 && span)) 0x0104 <|
    refuseIf (decide (input < 4) && !d.atRest) 0x0201 <| refuseIf (step == 1 && held.isNone) 0x0204 <|
    .accept { d with hk := { d.hk with cal := some { step := step, input := input, vin := vin, samples := n, pair := q,
                                                     tag := p.tag.toNat } } } 0

/-- `CAL_HK` (R542). -/
def execCalHk (c : Cmd) (s : State) : Host.Outcome State Fault Refusal := .next (s.onDev (runCmd 0x0407 c (bodyCalHk c.pair.val)))

/-- One output of a chain (R529 to R535). The codes of every converter pass its fixed chain, which watches for limit codes. -/
def Dev.chainOutput (d : Dev) (c : Nat) (codes : List (BitVec 12)) : Dev :=
  let src := d.fld (F.HK_CHAIN_CFG_SRC c)
  let d := if c < 4 then d.overRange src codes else d
  let r := (d.hkChain c).block (d.fld (F.HK_CHAIN_CFG_PRESET c)) codes
  let (h, y, sat) := if 4 ≤ c ∧ d.flag (F.HK_CHAIN_CFG_DC_EN c) = true then
      let x := dcStage r.1 (d.flag (F.HK_CHAIN_CFG_DC_FREEZE c)) (d.fld (F.HK_CHAIN_CFG_DC_SHIFT c)) r.2.1
      (x.1, x.2.1, r.2.2 || x.2.2)
    else r
  let d := if c < 4 then (d.calDirect c codes).calHkEnd else d
  if 0 < h.settling then (d.setHkChain c { h with settling := h.settling - 1 })
  else
    let d := (d.setHkChain c h).setBit Reg.HK_STAT c false
    let d := (d.setFld (F.HK_CHAIN_OUT_OUT c) (unsgn 16 y)).setFlag (F.HK_CHAIN_OUT_SAT c) sat
    d.setFlag (F.HK_CHAIN_OUT_VALID c) true

/-- `HK_CHAIN_OUTPUT` (R533): the R samples of the chain's source since its output before. Another number of samples is no output. -/
def execHkChainOutput (chain : Fin 8) (codes : List (BitVec 12)) (s : State) : Host.Outcome State Fault Refusal :=
  .next (s.onDev fun _ d =>
    if d.domOn 144 && codes.length == hkRatio (d.fld (F.HK_CHAIN_CFG_PRESET chain.val)) then d.chainOutput chain.val codes else d)

/-! ## The sense scan (R537 to R541) -/

/-- A sense input is in the scan. -/
def Dev.senseEn (d : Dev) (i : Nat) : Bool := d.flag (F.HK_SENSE_CFG_EN i)

/-- The next enabled input after `i`, in ascending order and round again; the input itself where it is alone. -/
def Dev.senseNext (d : Dev) (i : Nat) : Nat :=
  (((List.range 32).map fun k => (i + 1 + k) % 32).find? d.senseEn).getD i

/-- The scan begins at the lowest enabled input. -/
def Dev.senseRestart (d : Dev) : Dev :=
  { d.setFld F.HK_STAT_SENSE_CUR (((List.range 32).find? d.senseEn).getD 0) with hk := { d.hk with tripped := false } }

/-- A new configuration of sense input `i`, where the one before was `old`: its limits (R553), SETTLING, and a conversion in progress
of it begins again (R541, R551). A reserved curve is refused: the field keeps its value (R538). -/
def Dev.senseCfgSet (d : Dev) (i : Nat) (old : Word) : Dev :=
  let d := d.setFld (F.HK_SENSE_CFG_EXC i) (min 100 (d.fld (F.HK_SENSE_CFG_EXC i)))
  let d := d.setFld (F.HK_SENSE_CFG_SETTLE_US i) (clampN 1 1000 (d.fld (F.HK_SENSE_CFG_SETTLE_US i)))
  let d := if 12 < d.fld (F.HK_SENSE_CFG_CURVE i) then d.setFld (F.HK_SENSE_CFG_CURVE i) (field old 0 4) else d
  if d.reg (Reg.HK_SENSE_CFG i) = old then d
  else
    let d := d.put (Reg.HK_SENSE_WORD i) 0x00040000#32
    if d.fld F.HK_STAT_SENSE_CUR = i then { d with hk := { d.hk with tripped := false } } else d

/-- A sync (R536): all chains and the averager are reset at the first common trigger at least 100 ns later; its device time. -/
def Dev.hkSync (d : Dev) : Dev × Nat :=
  let n := (d.time.ticks + 250 + 124) / 125 * 125 - d.time.ticks
  let t := ((d.time.acc : Int) + n * (2 ^ 40 + d.time.rate)).toNat * 2 / (5 * 2 ^ 40)
  let d := (List.range 8).foldl Dev.chainReset d
  ((d.putWide Reg.HK_SYNC_TIME_LO t).senseRestart, t)

/-- `hk.sync`. -/
def bodyHkSync : Body := fun _ _ d => .ok d.hkSync.1 (leBytes 8 d.hkSync.2)

/-- `HK_SYNC` (R536). -/
def execHkSync (c : Cmd) (s : State) : Host.Outcome State Fault Refusal := .next (s.onDev (runCmd 0x0A01 c bodyHkSync))

/-- `SYNC_IN_EDGE` (R536). -/
def execSyncInEdge (s : State) : Host.Outcome State Fault Refusal :=
  .next (s.onDev fun _ d => if d.flag F.HK_CTL_SYNC_EN && d.domOn 144 then d.hkSync.1 else d)

/-- `hk.read` (R541). -/
def bodyHkRead : Body := fun p _ d =>
  let i := p.u 0 1
  refuseIf (decide (31 < i)) 0x0104 <|
    let w := d.reg (Reg.HK_SENSE_WORD i)
    .ok d (leBytes 2 (field w 0 16) ++ leBytes 1 (field w 16 3) ++ zeros 5 ++ leBytes 8 (sget (fun _ => 0) i d.hk.sampled))

/-- `HK_READ` (R541). -/
def execHkRead (c : Cmd) (s : State) : Host.Outcome State Fault Refusal := .next (s.onDev (runCmd 0x0A02 c bodyHkRead))

/-- `hk.dc_freeze` (R535). -/
def bodyHkDcFreeze : Body := fun p _ d =>
  refuseIf (p.u 0 1 % 16 != 0) 0x0104 <|
    .ok (((List.range 8).filter (bitAt (p.u 0 1))).foldl (fun (d : Dev) c => d.setFlag (F.HK_CHAIN_CFG_DC_FREEZE c) (p.u 1 1 == 1)) d) []

/-- `HK_DC_FREEZE` (R535). -/
def execHkDcFreeze (c : Cmd) (s : State) : Host.Outcome State Fault Refusal := .next (s.onDev (runCmd 0x0A03 c bodyHkDcFreeze))

/-! ## Curves (R538) -/

/-- The calibrated mean voltage of an input, in mV as a fraction: `sum` of `n` codes. -/
def Dev.senseVolt (d : Dev) (i : Nat) (sum : Int) (n : Nat) : Int × Nat :=
  let c := d.par P.hk_cal (4 + i)
  ((16 * sum - sgn 16 (bits c 16 16) * n) * (bits c 0 16 : Nat), 16 * 32768 * n)

/-- A word within its range (R538). -/
def senseSat (v : Int) : Int := clampI (-32768) 32766 v

/-- A fraction rounded to nearest, with the sign taken from its denominator; none where that is zero. -/
def fracRound (a b : Int) : Option Int := if b = 0 then none else if b < 0 then some (roundDiv (-a) b.natAbs) else some (roundDiv a b.toNat)

/-- The resistance of a platinum element over R0, times 10^15 × 2^20, at `h`/32 °C (Callendar–Van Dusen, IEC 60751). -/
def ptRatio (h : Int) : Int :=
  10 ^ 15 * 2 ^ 20 + 39083 * 10 ^ 8 * h * 2 ^ 15 - 5775 * 10 ^ 5 * h ^ 2 * 2 ^ 10 - (if h < 0 then 4183 * (h - 3200) * h ^ 3 else 0)

/-- The greatest word from `lo` on, below `lo + 2^n`, whose lower edge a resistance a/b Ω over `r0` reaches. -/
def ptSearch (a : Int) (b r0 : Nat) : Nat → Int → Int
  | 0, lo => lo
  | n + 1, lo =>
    let mid := lo + 2 ^ n
    if (r0 * b : Nat) * ptRatio (2 * mid - 1) ≤ a * (10 ^ 15 * 2 ^ 20) then ptSearch a b r0 n mid else ptSearch a b r0 n lo

/-- A β curve: 16 times the temperature for a resistance a/b Ω; none without a logarithm. -/
def ntcWord (beta r25 a b : Nat) : Option Int :=
  if a = 0 then none
  else
    let x : Int := 100 * 2 ^ 48 * beta + 29815 * lnFix a (b * r25)
    fracRound (16 * 29815 * beta * 2 ^ 48 * 100 - 27315 * 16 * x) (100 * x)

/-- An IEEE 754 single in 2^-149; none for an infinity or a NaN. -/
def single (w : Nat) : Option Int :=
  let e := bits w 23 8
  let m := bits w 0 23
  let v : Int := if e = 0 then m else (2 ^ 23 + m : Nat) * 2 ^ (e - 1)
  if e = 255 then none else some (if bitAt w 31 then -v else v)

/-- The Steinhart–Hart curve with coefficients A, B and C. -/
def shWord (a b c : Option Int) (rn rd : Nat) : Option Int :=
  match a, b, c with
  | some a, some b, some c =>
    if rn = 0 then none
    else
      let l := lnFix rn rd
      let x := 2 ^ 144 * a + b * l * 2 ^ 96 + c * l ^ 3
      fracRound (16 * 2 ^ 293 * 100 - 27315 * 16 * x) (100 * x)
  | _, _, _ => none

/-- A user polynomial in V volts, n/d, with its six coefficients from the constant on. -/
def polyWord (cs : List (Option Int)) (n : Int) (d : Nat) : Option Int :=
  if cs.any Option.isNone then none
  else
    let v := (cs.mapIdx fun k c => (c.getD 0) * n ^ k * (d : Int) ^ (5 - k)).foldl (· + ·) 0
    some (roundDiv (16 * v) (2 ^ 149 * d ^ 5))

/-- The word of a conversion (R538); none where the manual states no result. -/
def Dev.senseWord (d : Dev) (i : Nat) (sum : Int) (n : Nat) : Option Int :=
  let v := d.senseVolt i sum n
  let cfgExc := d.fld (F.HK_SENSE_CFG_EXC i)
  let c := d.fld (F.HK_SENSE_CFG_CURVE i)
  let curve := if cfgExc = 0 ∧ c ≤ 8 then 0 else c
  let rn := 100000 * v.1 - (d.par P.hk_lead_mohm i * (v.2 * cfgExc) : Nat)
  let rd := 1000 * v.2 * cfgExc
  let ntc (beta r25 : Nat) : Option Int := if rn ≤ 0 then none else ntcWord beta r25 rn.toNat rd
  match curve with
  | 0 => some (roundDiv (16 * v.1) v.2)
  | 1 => some (ptSearch rn rd 100 16 (-32768))
  | 2 => some (ptSearch rn rd 1000 16 (-32768))
  | 3 => ntc 3435 10000
  | 4 => ntc 3950 10000
  | 5 => ntc 4050 47000
  | 6 => ntc 4250 100000
  | 7 => ntc 3892 2252
  | 8 => if rn ≤ 0 then none
         else shWord (single (d.par P.hk_sh 0)) (single (d.par P.hk_sh 1)) (single (d.par P.hk_sh 2)) rn.toNat rd
  | k => polyWord ((List.range 6).map fun j => single (bits (d.par P.hk_poly (k - 9)) (32 * j) 32)) v.1 (1000 * v.2)

/-- CLAMP and OPEN set the bits of an input, each with its event, and count conversions (R539, R540, R552). -/
def Dev.senseFlags (d : Dev) (i : Nat) (clamp open_ : Bool) : Dev :=
  let d := if clamp then (d.sticky Reg.HK_CLAMP_STAT i Ev.hkClamp).bump C.HK_CLAMP_CNT else d
  if open_ then (d.sticky Reg.HK_OPEN_STAT i Ev.hkOpen).bump C.HK_OPEN_CNT else d

/-- The word of input `i` is formed and stored (R537 to R541): `sum` of the R codes of its preset. -/
def Dev.senseStore (d : Dev) (i : Nat) (sum : Int) (clamp : Bool) : Dev :=
  let n := hkRatio (d.fld (F.HK_SENSE_CFG_PRESET i))
  let open_ := d.hk.tripped && d.fld (F.HK_SENSE_CFG_EXC i) != 0
  let d := d.senseFlags i clamp open_
  let (d, w) := if open_ then (d, 0x7FFF) else
    match d.senseWord i sum n with
    | some v => (d, unsgn 16 (senseSat v))
    | none => (d.freeNext, d.free 16)
  let d := d.put (Reg.HK_SENSE_WORD i) (BitVec.ofNat 32 (w + 2 ^ 16 * b2n open_ + 2 ^ 17 * b2n clamp))
  { d with hk := { d.hk with sampled := sset (fun _ => 0) i d.now d.hk.sampled,
                             good := if open_ then d.hk.good else sset (fun _ => 400) i (sgn 16 w) d.hk.good } }

/-- The sense input that a running `cal.hk` measures, with its excitation off (R542). -/
def Dev.senseCal (d : Dev) : Option Nat := d.hk.cal.bind fun c => if 4 ≤ c.input then some (c.input - 4) else none

/-- A sense conversion reaches its sampling instant. A running `cal.hk` on a sense input takes the conversions of that input, and the
scan waits. -/
def Dev.senseEnd (d : Dev) (sum : Int) (clamp : Bool) : Dev :=
  match d.senseCal with
  | some i =>
    let n := hkRatio (d.fld (F.HK_SENSE_CFG_PRESET i))
    Dev.calHkEnd { d with hk := { d.hk with cal := d.hk.cal.map fun c => c.add sum n } }
  | none =>
    if d.flag F.HK_CTL_SENSE_EN then
      let i := d.fld F.HK_STAT_SENSE_CUR
      let d := if d.senseEn i then d.senseStore i sum clamp else d
      { d.setFld F.HK_STAT_SENSE_CUR (d.senseNext i) with hk := { d.hk with tripped := false } }
    else d

/-- `SENSE_CONVERSION_END` (R537). -/
def execSenseConversionEnd (sum : Int) (clamp : Bool) (s : State) : Host.Outcome State Fault Refusal :=
  .next (s.onDev fun _ d => if d.domOn 144 then d.senseEnd sum clamp else d)

/-- `COMPLIANCE_TRIP` (R540): the detector watches the source while excitation is on. -/
def execComplianceTrip (s : State) : Host.Outcome State Fault Refusal :=
  .next (s.onDev fun _ d =>
    let i := d.fld F.HK_STAT_SENSE_CUR
    if d.flag F.HK_CTL_SENSE_EN && d.senseEn i && d.senseCal.isNone && d.fld (F.HK_SENSE_CFG_EXC i) != 0 then { d with hk := { d.hk with tripped := true } }
    else d)

/-! ## Sensors (R543 to R545) -/

/-- The home region of a hot-spot sensor (R543). -/
def spotHome (h : Nat) : Nat := if h < 4 then 11 else if h < 12 then h - 4 else if h < 16 then 8 else 2 * (h - 16)

/-- A value is put into a rising list. -/
def insInt (v : Int) : List Int → List Int
  | [] => [v]
  | x :: xs => if v ≤ x then v :: x :: xs else x :: insInt v xs

/-- The median, the mean of the middle two of an even number; none of no values. -/
def medianI (l : List Int) : Option Int :=
  let s := l.foldl (fun acc v => insInt v acc) []
  if l.isEmpty then none else some (roundDiv (s.getD ((s.length - 1) / 2) 0 + s.getD (s.length / 2) 0) 2)

/-- A sensor has failed: 0 to 11 region thermometers, 12 to 31 hot-spot sensors. -/
def Dev.sensorFailed (d : Dev) (n : Nat) : Bool := d.bit Reg.THM_FAIL n

/-- A sensor's reading is in use: read, and not failed. -/
def Dev.sensorValid (d : Dev) (n : Nat) : Bool := (d.sensor n).read && !d.sensorFailed n

/-- The reference of a sensor (R545). -/
def Dev.sensorRef (d : Dev) (n : Nat) : Option Int :=
  if n < 12 then medianI (((regionNeighbours n).filter d.sensorValid).map fun r => (d.sensor r).t)
  else if d.sensorValid (spotHome (n - 12)) then some (d.sensor (spotHome (n - 12))).t else none

/-- A sensor is read: temperature and raw count. A failed sensor is excluded until the next reset. -/
def Dev.readSensor (d : Dev) (n : Nat) (x : BitVec 16 × Nat) : Dev :=
  if d.sensorFailed n then d
  else
    let o := d.sensor n
    let v : Sensor := { o with read := true, t := x.1.toInt, raw := x.2, same := if o.read && o.raw == x.2 then o.same + 1 else 1 }
    { d with hk := { d.hk with sensors := sset (fun _ => ({} : Sensor)) n v d.hk.sensors } }

/-- The tests of one sensor read in this round (R545): its new failing counts. -/
def Dev.testSensor (d : Dev) (n : Nat) : Sensor :=
  let o := d.sensor n
  let off := match d.sensorRef n with
    | some r => decide (240 < absI (o.t - r))
    | none => false
  { o with range := if o.t < -880 ∨ 2400 < o.t then o.range + 1 else 0, ref := if off then o.ref + 1 else 0 }

/-- A sensor fails after three failing reads, or when its raw count stands past its 52nd read (R545). -/
def Sensor.fails (x : Sensor) : Bool := decide (3 ≤ x.range ∨ 3 ≤ x.ref ∨ 53 ≤ x.same)

/-- Every sensor read in the round is tested before any reading is used; a sensor excluded sets HOLD (R545, R548). -/
def Dev.testRound (d : Dev) (ns : List Nat) : Dev :=
  let live := ns.filter fun n => !d.sensorFailed n
  let res := live.map fun n => (n, d.testSensor n)
  let d := res.foldl (fun (d : Dev) (x : Nat × Sensor) =>
    { d with hk := { d.hk with sensors := sset (fun _ => ({} : Sensor)) x.1 x.2 d.hk.sensors } }) d
  res.foldl (fun (d : Dev) (x : Nat × Sensor) =>
    if x.2.fails then
      let d := (d.setBit Reg.THM_FAIL x.1 true).sticky Reg.THM_EVT 0 Ev.thmSensor
      let d := if x.1 < 12 then d.setFlag (F.THM_REGION_FAILED x.1) true else d
      d.setFlag F.THM_STAT_HOLD true
    else d) d

/-- T_MAX over the valid sensors of a list; unchanged where none is valid. -/
def Dev.setTMax (d : Dev) (ns : List Nat) : Dev :=
  match (ns.filter d.sensorValid).map fun n => (d.sensor n).t with
  | [] => d
  | t :: ts => d.setFld F.THM_STAT_T_MAX (unsgn 16 (ts.foldl max t))

/-- T_MAX, 1/16 °C. -/
def Dev.tMax (d : Dev) : Int := d.fldI F.THM_STAT_T_MAX

/-! ## What a round updates (R32 to R34, R546) -/

/-- t_xo, 1/16 °C (R32, R541, R544); 25 °C until a first reading: DESIGN CHOICE, log entry 185. -/
def Dev.tXo (d : Dev) (fast : Bool) : Int :=
  let i := d.par P.time_xo_temp_input 0
  if i < 32 then sget (fun _ => (400 : Int)) i d.hk.good
  else if fast then
    match ([24, 25, 26, 27].filter d.sensorValid).map fun n => (d.sensor n).t with
    | [] => 400
    | t :: ts => ts.foldl max t
  else d.regionTemp 8

/-- The crystal trim of a round (R32 to R34): at most 20 ppb away at the next slot boundary. -/
def Dev.xoTrim (d : Dev) (fast : Bool) : Dev :=
  if d.flag F.TIME_CTL_XO_COMP_EN then
    let x := d.tXo fast - 400
    let c0 := d.parI P.time_xo_c0 0
    let c1 := d.parI P.time_xo_c1 0
    let c2 := d.parI P.time_xo_c2 0
    let c3 := d.parI P.time_xo_c3 0
    let err := roundDiv (4096 * c0 + c1 * 256 * x + c2 * 16 * x ^ 2 + c3 * x ^ 3) (256 * 4096) + d.parI P.time_xo_age_ppb 0
    let lim := decide (err < -90000 ∨ 90000 < err)
    let d := if lim && !d.flag F.TIME_STAT_XO_TRIM_LIMIT then d.raise Ev.xoTrimLimit else d
    let d := d.setFlag F.TIME_STAT_XO_TRIM_LIMIT lim
    let cur := sgn 32 (d.reg Reg.TIME_XO_TRIM).toNat
    { d with time := { d.time with trimNext := some (cur + clampI (-20) 20 (clampI (-90000) 90000 (-err) - cur)) } }
  else d

/-- The threshold reference trim of each slice, 1/1,024 LSB (R546). -/
def Dev.refTrims (d : Dev) : Dev :=
  let trims := (List.range 64).foldl (fun (m : Sparse Int) s =>
    if (d.sensor (s / 8)).read then sset (fun _ => 0) s (divAway (d.parI P.hk_ref_tc s * (d.regionTemp (s / 8) - 400)) 16) m
    else m) d.hk.refTrim
  { d with hk := { d.hk with refTrim := trims } }

/-! ## Damper and thermal safe state (R547 to R549) -/

/-- The level in force follows L, `thm.damper_min` and thermal safe state; a change is reported and counted (R547). -/
def Dev.setDamper (d : Dev) : Dev :=
  let old := d.damper
  let new := if d.flag F.THM_STAT_SAFE then 7 else max (d.fld F.THM_STAT_LEVEL) (d.par P.thm_damper_min 0)
  if new = old then d
  else
    let d := ((d.setFld F.SCN_STAT_DAMPER new).setFld F.THM_STAT_IN_FORCE new).raise Ev.thmDamper
    let d := if old < new then d.bump C.THM_LEVEL_CNT else d
    d.noteDamper

/-- The entry temperature of level L, 1/16 °C (R547). -/
def damperUp (l : Nat) : Int := 1920 + 12 * ((l : Int) - 1)

/-- The thermal level after a round (R547); `ms` is the round's period. -/
def Dev.levelRound (d : Dev) (ms : Nat) : Dev :=
  let l := d.fld F.THM_STAT_LEVEL
  let held := d.hk.levelMs + ms
  let new := if l < 7 ∧ damperUp (l + 1) ≤ d.tMax then l + 1
    else if 0 < l ∧ d.tMax < damperUp l - 32 ∧ 1000 ≤ held ∧ d.flag F.THM_STAT_HOLD = false then l - 1
    else l
  let d := { d with hk := { d.hk with levelMs := if new = l then held else 0 } }
  (d.setFld F.THM_STAT_LEVEL new).setDamper

/-- Which round runs (R544). -/
def Dev.roundMode (d : Dev) : Dev :=
  d.setFlag F.THM_STAT_FAST_ROUND (!d.flag F.GLB_STAT_RESTORED || d.flag F.THM_STAT_SAFE || d.flag F.THM_CTL_FAST)

/-- `PWR_STAT.STATE` takes a value; each change is reported (R575). -/
def Dev.setPwrState (d : Dev) (v : Nat) : Dev :=
  if d.fld F.PWR_STAT_STATE = v then d else (d.setFld F.PWR_STAT_STATE v).raise Ev.pwrState

/-- SAFE_MIN, once no transition of `pwr.state` runs: the governor stands at its minimum (R559, R561, R566). -/
def Dev.enterSafeMin (d : Dev) : Dev :=
  if d.pwr.target.isSome || d.fld F.PWR_STAT_STATE == 2 then d
  else
    let d := { d with pwr := { d.pwr with from_ := d.fld F.PWR_STAT_STATE, lowTicks := 0, overTicks := 0 } }
    let d := d.setPwrState 2
    if d.flag F.PWR_STAT_AVS_FAULT then d else d.setFld F.PWR_VF_V (d.par P.pwr_v_min_mv 0)

/-- Failed hot-spot sensors. -/
def Dev.failedSpots (d : Dev) : Nat := popCount 20 (d.fld F.THM_FAIL_HOT)

/-- Entry to thermal safe state (R549). -/
def Dev.thermalSafe (d : Dev) (onTemp : Bool) : Dev :=
  if d.flag F.THM_STAT_SAFE then (if onTemp then d else { d with hk := { d.hk with safeOnTemp := false } })
  else
    let d := ({ d with hk := { d.hk with safeOnTemp := onTemp } }.setFlag F.THM_STAT_SAFE true).bump C.THM_SAFE_CNT
    let d := (d.sticky Reg.THM_EVT 1 Ev.thmSafe).detect Cause.thermal
    let d := ((d.persist Cause.thermal true).thermalHold.setDamper).roundMode
    d.enterSafeMin

/-- The conditions of R549 after a round. -/
def Dev.safeRound (d : Dev) : Dev :=
  let n := if 2032 ≤ d.tMax then d.hk.hotRounds + 1 else 0
  let d := { d with hk := { d.hk with hotRounds := n } }
  let d := if 2 ≤ d.failedSpots then d.thermalSafe false else d
  if 3 ≤ n then d.thermalSafe true else d

/-- The end of thermal safe state: the power state goes back, and the level in force with it (R549, R559). -/
def Dev.thermalSafeEnd (d : Dev) : Dev :=
  let d := { d with hk := { d.hk with safeOnTemp := false, hotRounds := 0 } }.setFlag F.THM_STAT_SAFE false
  let d := (d.persist Cause.thermal false).roundMode.setDamper
  if d.fld F.PWR_STAT_STATE = 2 then d.setPwrState d.pwr.from_ else d

/-- `THERMAL_SAFE_EXIT` (R549): only a safe state entered on temperature ends before a reset. -/
def execThermalSafeExit (s : State) : Host.Outcome State Fault Refusal :=
  .next (s.onDev fun _ d =>
    if d.flag F.THM_STAT_SAFE && d.hk.safeOnTemp && decide (d.tMax < 1840) then d.thermalSafeEnd else d)

/-- `DAMPER_HOLD_EXPIRY` (R548). -/
def execDamperHoldExpiry (s : State) : Host.Outcome State Fault Refusal :=
  .next (s.onDev fun _ d => d.setFlag F.THM_STAT_HOLD false)

/-! ## Rounds (R544) -/

/-- The normal round. -/
def Dev.normalRound (d : Dev) (regions spots : List (BitVec 16 × Nat)) : Dev :=
  let h := d.hk.hotNext
  let ns := List.range 12 ++ [12 + h, 12 + (h + 1) % 20]
  let d := (ns.zip (regions ++ spots)).foldl (fun (d : Dev) (x : Nat × BitVec 16 × Nat) => d.readSensor x.1 x.2) d
  let d := { d with hk := { d.hk with hotNext := (h + 2) % 20 } }.testRound ns
  let d := (List.range 12).foldl (fun (d : Dev) r => d.setFld (F.THM_REGION_TEMP r) (unsgn 16 (d.regionTemp r))) d
  let d := (d.setTMax (List.range 12)).refTrims.xoTrim false
  let d := d.burnishRound d.hk.burnishCheck
  let d := { d with hk := { d.hk with burnishCheck := false } }.blockTemps.rangeZeroTemps
  (d.levelRound 10).safeRound

/-- A round has ended: what a telemetry record says of it (R616, R617). -/
def Dev.endRound (d : Dev) : Dev := { d with tel := { d.tel with paceRound := d.tel.paceMax, paceMax := 0, roundTime := d.now } }

/-- The fast round: only the hot-spot sensors and T_MAX, with the compensation and the Damper (R544, R546, R547). -/
def Dev.fastRound (d : Dev) (spots : List (BitVec 16 × Nat)) : Dev :=
  let ns := (List.range 20).map (12 + ·)
  let d := (ns.zip spots).foldl (fun (d : Dev) (x : Nat × BitVec 16 × Nat) => d.readSensor x.1 x.2) d
  let d := ((d.testRound ns).setTMax ns).refTrims.xoTrim true
  (d.levelRound 1).safeRound

/-- `HK_ROUND` (R544): the twelve region thermometers and the two hot-spot sensors in turn, each with its raw count. -/
def execHkRound (regions spots : List (BitVec 16 × Nat)) (s : State) : Host.Outcome State Fault Refusal :=
  if regions.length = 12 ∧ spots.length = 2 then
    .next (s.onDev fun _ d => if d.domOn 144 && !d.flag F.THM_STAT_FAST_ROUND then (d.normalRound regions spots).endRound else d)
  else .fault .illFormed

/-- `FAST_ROUND` (R544). -/
def execFastRound (spots : List (BitVec 16 × Nat)) (s : State) : Host.Outcome State Fault Refusal :=
  if spots.length = 20 then
    .next (s.onDev fun _ d => if d.domOn 144 && d.flag F.THM_STAT_FAST_ROUND then (d.fastRound spots).endRound else d)
  else .fault .illFormed

/-! ## Commands (R470) -/

/-- A temperature in °C as a signed byte. -/
def celsius (t : Int) : Nat := unsgn 8 (clampI (-128) 127 (roundDiv t 16))

/-- `thm.status`. -/
def bodyThmStatus : Body := fun _ _ d =>
  .ok d (leBytes 2 (d.fld F.THM_STAT_T_MAX) ++ leBytes 1 d.damper
    ++ leBytes 1 (d.fld F.THM_STAT_SAFE + 2 * d.fld F.THM_STAT_FAST_ROUND) ++ leBytes 4 (d.fld F.THM_FAIL_HOT)
    ++ (List.range 12).flatMap fun r => leBytes 1 (celsius (d.fldI (F.THM_REGION_TEMP r))))

/-- `THM_STATUS` (R470). -/
def execThmStatus (c : Cmd) (s : State) : Host.Outcome State Fault Refusal := .next (s.onDev (runCmd 0x0B03 c bodyThmStatus))

/-- `thm.damper_min` (R547). -/
def bodyThmDamperMin : Body := fun p _ d =>
  refuseIf (decide (7 < p.u 0 1)) 0x0104 <| .ok (d.setPar P.thm_damper_min 0 (p.u 0 1)).setDamper []

/-- `THM_DAMPER_MIN` (R547). -/
def execThmDamperMin (c : Cmd) (s : State) : Host.Outcome State Fault Refusal := .next (s.onDev (runCmd 0x0B04 c bodyThmDamperMin))

end Sys2Proof.Machine
end

