-- ==== Sys2Proof/Machine/Peer.lean ====
section
/-! DEFINITION. The peer link (chapter 12): lanes, discovery, election, time transfer, codes and phase. -/

namespace Sys2Proof.Machine

/-! ## Lanes and links (R345 to R348) -/

/-- The lanes of the link that lane `l` belongs to (R345). -/
def linkLanes (mode l : Nat) : List Nat :=
  if mode = 2 then [0, 1, 2, 3]
  else if mode = 1 then (if l < 2 then [0, 1] else [2, 3])
  else if mode = 3 ∧ l < 2 then [0, 1]
  else [l]

/-- The lanes of the link of lane `l` under `PEER_CTL.LANE_MODE`. -/
def Dev.link (d : Dev) (l : Nat) : List Nat := linkLanes (d.fld F.PEER_CTL_LANE_MODE) l

/-- The link of lane `l`, named by its lowest lane. -/
def Dev.linkHead (d : Dev) (l : Nat) : Nat := (d.link l).headD l

/-- Every link, by its lowest lane. -/
def Dev.linkHeads (d : Dev) : List Nat := (List.range 4).filter fun l => d.linkHead l == l

/-- State of a lane (R360). -/
def Dev.laneState (d : Dev) (l : Nat) : Nat := d.fld (F.PEER_LANE_STAT_STATE l)

/-- A lane's state changes, with its event (R348). -/
def Dev.setLane (d : Dev) (l v : Nat) : Dev :=
  if d.laneState l = v then d else (d.setFld (F.PEER_LANE_STAT_STATE l) v).raise (Ev.peerLane l)

/-- State of a lane's transmit half (R348): it has nothing to align, so it is ALIGNED with its receive half, and UP while its partner
is known (DEDUCED, log entry 23). -/
def Dev.txState (d : Dev) (l : Nat) : Nat :=
  if d.laneState l < 2 then d.laneState l else if (slook l d.peer.facing).isSome then 3 else 2

/-- The links that carry messages: those whose halves are at least ALIGNED. -/
def Dev.openLinks (d : Dev) : List Nat := d.linkHeads.filter fun l => decide (2 ≤ d.txState l)

/-- A map with the value of a key, or without the key. -/
def sopt (k : Nat) (v : Option α) (l : Sparse α) : Sparse α :=
  match v with
  | some x => sput k x l
  | none => sdel k l

/-- The partner at a lane's receive half changes, with its event (R348). A transmit half that faced the former partner faces none until
the next ANNOUNCE tells. -/
def Dev.setPartner (d : Dev) (l : Nat) (p : Option Wide) : Dev :=
  let old := slook l d.peer.partners
  if old = p then d
  else
    let gone := old.isSome && slook l d.peer.facing == old
    { d with peer := { d.peer with partners := sopt l p d.peer.partners,
                                   facing := if gone then sdel l d.peer.facing else d.peer.facing } }.raise (Ev.peerPartner l)

/-- The partner at a lane's transmit half, with the event of a change to or from a pod other than the one at the receive half. -/
def Dev.setFacing (d : Dev) (l : Nat) (p : Option Wide) : Dev :=
  let old := slook l d.peer.facing
  let rx := slook l d.peer.partners
  if old = p then d
  else
    let d := { d with peer := { d.peer with facing := sopt l p d.peer.facing } }
    if (p.isSome && p != rx) || (old.isSome && old != rx) then d.raise (Ev.peerPartner l) else d

/-- A message leaves. -/
def Dev.sendPeer (d : Dev) (m : PeerMsg) : Dev := { d with peer := { d.peer with sent := d.peer.sent ++ [m] } }

/-! ## The domain (R349 to R351) -/

/-- The identity of the book in use (R159). -/
def Dev.bookId (d : Dev) : Nat := crc16 d.bookBytes

/-- This pod as a member. -/
def Dev.selfMember (d : Dev) : Member :=
  { id := Config.deviceId, rank := d.peer.rank, valid := d.flag F.TIME_STAT_VALID, bookId := 0, version := 1, seq := d.peer.annSeq,
    claim := (List.range (d.par P.slot_groups 0)).map fun g => d.par P.code_group g,
    claimPhase := min 15 (d.par P.time_slot_phase_ns 0 / 200),
    codes := (List.range (d.par P.slot_groups 0)).map fun g => d.par P.code_group g,
    phase := min 15 (d.par P.time_slot_phase_ns 0 / 200) }

/-- `PEER_STAT.PHASE` shows the phase index in force (R360). -/
def Dev.showPhase (d : Dev) : Dev := d.setFld F.PEER_STAT_PHASE d.selfMember.phase

/-- The key that ranks the members (R350). -/
def Member.key (m : Member) : Nat := 2 ^ 64 * m.rank + m.id.toNat

/-- A pod with another book or another ANNOUNCE version (R350). -/
def Member.foreign (book : Nat) (m : Member) : Bool := m.bookId != book || m.version != 1

/-- Hops from this pod: none for itself, else one more than the fewest received. -/
def Member.hops (m : Member) : Nat :=
  match m.via with
  | [] => 0
  | e :: l => 1 + l.foldl (fun a x => min a x.2.1) e.2.1

/-- Insert a pod in key order. -/
def insMember (m : Member) : List Member → List Member
  | [] => [m]
  | x :: l => if m.key ≤ x.key then m :: x :: l else x :: insMember m l

/-- This pod and the pods that are not FOREIGN, in key order. -/
def Dev.ranked (d : Dev) : List Member :=
  let book := d.bookId
  (d.peer.pods.filter fun m => !m.foreign book).foldl (fun l m => insMember m l) [d.selfMember]

/-- The members, in key order: the 16 lowest keys (R350). -/
def Dev.memberList (d : Dev) : List Member := if d.flag F.PEER_CTL_EN then d.ranked.take 16 else []

/-- A member's index, 0x1F for none. -/
def memberIndex (l : List Member) (p : Option Wide) : Nat :=
  match p with
  | none => 0x1F
  | some id => match l.findIdx? fun m => m.id == id with
    | some i => i
    | none => 0x1F

/-- The partner's lane whose transmit half faces lane `l`: the lane id received in its markers (R344). -/
def Dev.farLane (d : Dev) (l : Nat) : Nat := d.fld (F.PEER_LANE_STAT_REMOTE_LANE l)

/-- The partner at the receive half of lane `l` sees this pod at the receive half of the lane it sends on, or at any lane of an
aggregated link: both halves face it (R348). -/
def Dev.twoWay (d : Dev) (l : Nat) : Bool :=
  match slook l d.peer.partners with
  | some id => d.peer.pods.any fun m => m.id == id
      && (if (d.link l).length = 1 then m.seesUs.contains (d.farLane l) else !m.seesUs.isEmpty)
  | none => false

/-- A pod's receive half on its lane `r` faces a lane of a two-way link of this pod. -/
def Dev.faced (d : Dev) (id : Wide) (r : Nat) : Bool :=
  (List.range 4).any fun l => d.twoWay l && slook l d.peer.partners == some id && ((d.link l).length != 1 || d.farLane l == r)

/-- The partner at the transmit half of each lane: the receive half's where the link is two-way; else the pods that see this pod
at a lane that faces no two-way link, in key order, on the other lanes in order (DEDUCED, log entry 23). -/
def Dev.txPartners (d : Dev) : List (Option Wide) :=
  let rest := (d.peer.pods.foldl (fun l m => insMember m l) []).flatMap fun m =>
    (m.seesUs.filter fun r => !d.faced m.id r).map fun _ => m.id
  let heads := d.linkHeads.filter fun l => decide (2 ≤ d.laneState l) && !d.twoWay l
  (List.range 4).map fun l =>
    if d.twoWay l then slook l d.peer.partners
    else match heads.findIdx? (· == d.linkHead l) with
      | some i => rest[i]?
      | none => none

/-- The link of the upstream partner: the two-way link whose partner has the fewest hops to the master, ties to the lower key (R352). -/
def Dev.upstream (d : Dev) : Option Nat :=
  match d.peer.master with
  | none => none
  | some id =>
    if id = Config.deviceId then none
    else match d.peer.pods.find? fun m => m.id == id with
      | none => none
      | some m =>
        let cost (l : Nat) : Nat :=
          match slook l d.peer.partners with
          | some p => match d.peer.pods.find? fun x => x.id == p with
            | some x => 2 ^ 70 * ((slook l m.via).map (·.1)).getD 15 + x.key
            | none => 2 ^ 80
          | none => 2 ^ 80
        let ok := d.openLinks.filter fun l => d.twoWay l && (slook l m.via).isSome
          && (match slook l d.peer.partners with
            | some p => d.peer.members.contains p
            | none => false)
        ok.foldl (fun (b : Option Nat) l =>
          match b with
          | none => some l
          | some x => if cost l < cost x then some l else some x) none

/-- The entries of the member table: the members in key order, and after them the FOREIGN pods, which are listed but are no members
(R350; the place of a FOREIGN pod is the model's, DESIGN CHOICE, log entry 173). -/
def Dev.listed (d : Dev) : List Member :=
  let book := d.bookId
  let ms := d.memberList
  if d.flag F.PEER_CTL_EN then
    (ms ++ (d.peer.pods.filter fun m => m.foreign book).foldl (fun l m => insMember m l) []).take 16
  else ms

/-- The registers show the domain (R359, R360). -/
def Dev.showDomain (d : Dev) : Dev :=
  let ms := d.memberList
  let listed := d.listed
  let lead := d.flag F.PEER_CTL_EN && d.peer.leader == some Config.deviceId
  let master := d.flag F.PEER_CTL_EN && d.peer.master == some Config.deviceId
  let up := d.upstream
  let d := (d.setFlag F.PEER_STAT_LEADER lead).setFlag F.PEER_STAT_MASTER master
  let d := (d.setFlag F.PEER_STAT_NO_MASTER (d.flag F.PEER_CTL_EN && d.peer.master.isNone)).setFld F.PEER_STAT_MEMBERS ms.length
  let d := (d.setFld F.PEER_STAT_UPSTREAM (up.getD 0)).setFlag F.PEER_STAT_UP_VALID up.isSome
  let tx := d.txPartners
  let d := (List.range 4).foldl (fun (d : Dev) l => d.setFacing l (tx.getD l none)) d
  let d := (List.range 4).foldl (fun (d : Dev) l =>
    let d := d.setFlag (F.PEER_LANE_STAT_TWO_WAY l) (d.twoWay l)
    let d := d.setFld (F.PEER_LANE_STAT_RX_MEMBER l) (memberIndex ms (slook l d.peer.partners))
    d.setFld (F.PEER_LANE_STAT_TX_MEMBER l) (memberIndex ms (tx.getD l none))) d
  (List.range 16).foldl (fun (d : Dev) i =>
    match listed[i]? with
    | none => (d.putWide (Reg.PEER_MEM_ID_LO i) 0).put (Reg.PEER_MEM_STAT i) 0
    | some m =>
      let d := d.putWide (Reg.PEER_MEM_ID_LO i) m.id.toNat
      d.put (Reg.PEER_MEM_STAT i) (BitVec.ofNat 32 (m.rank + 4 * b2n m.valid + 8 + 16 * min 15 m.hops + 256 * m.phase))) d

/-- The order in which free phase indexes are given. -/
def phaseOrder : List Nat := [0, 8, 4, 12, 2, 10, 6, 14, 1, 9, 5, 13, 3, 11, 7, 15]

/-- The codes granted for one member's claims, 0xFF for none, and the codes taken after it. -/
def grantCodes (pool : Nat) : List Nat → List Nat → List Nat × List Nat
  | [], taken => ([], taken)
  | c :: l, taken =>
    let g := if bitAt pool c && !taken.contains c then some c else (List.range 64).find? fun i => bitAt pool i && !taken.contains i
    let r := grantCodes pool l (taken ++ g.toList)
    (g.getD 0xFF :: r.1, r.2)

/-- The grants of the members in key order. -/
def grantAll (pool : Nat) : List Member → List Nat → List Nat → List Member
  | [], _, _ => []
  | m :: l, taken, ptaken =>
    let r := grantCodes pool m.claim taken
    let ph := if !ptaken.contains m.claimPhase then m.claimPhase
      else (phaseOrder.find? fun p => !ptaken.contains p).getD m.claimPhase
    { m with codes := r.1, phase := ph } :: grantAll pool l r.2 (ptaken ++ [ph])

/-- The grants as the leader works them out from the claims it has. -/
def Dev.grants (d : Dev) : List Member :=
  grantAll (d.par P.peer_code_pool 0) (d.memberList.filter fun m => !m.claim.isEmpty) [] []

/-- The members' grants are recorded. -/
def Dev.noteGrants (d : Dev) (gs : List (Wide × List Nat × Nat)) : Dev :=
  let pods := d.peer.pods.map fun m => match gs.find? fun g => g.1 == m.id with
    | some g => { m with codes := g.2.1, phase := g.2.2 }
    | none => m
  { d with peer := { d.peer with pods := pods } }

/-- A claim that its grant does not meet. -/
def Member.conflict (m : Member) : Bool := m.codes != m.claim || m.phase != m.claimPhase

/-- The leader works the grants out and reports the conflicts that it finds (R355, R356). -/
def Dev.recomputeGrants (d : Dev) : Dev :=
  let gs := d.grants
  let old := d.peer.pods
  let d := d.noteGrants (gs.map fun m => (m.id, m.codes, m.phase))
  let found := gs.any fun m => m.conflict && (old.find? fun x => x.id == m.id).map (fun x => (x.codes, x.phase)) != some (m.codes, m.phase)
  if found then d.mark Reg.PEER_EVT 2 else d

/-- A CLAIM reaches the leader: it works the grants out and owes a GRANT (R355). -/
def Dev.leadClaim (d : Dev) : Dev :=
  if d.peer.leader = some Config.deviceId then
    let d := d.recomputeGrants
    { d with peer := { d.peer with grantDue := true } }
  else d

/-- A CLAIM is sent: the codes that the pod fires, its phase index and the result of the last grant (R355, R356). The leader's own
CLAIM is one that arrives at the leader. -/
def Dev.sendClaim (d : Dev) : Dev :=
  let me := d.selfMember
  let d := d.sendPeer (.claim ⟨Config.deviceId, me.claim.map (Fin.ofNat 64), Fin.ofNat 16 me.claimPhase, d.peer.claimResult⟩)
  { d with peer := { d.peer with claimResult := none } }.leadClaim

/-- A pending grant is discarded (R356). -/
def Dev.dropGrant (d : Dev) : Dev :=
  { d with
    peer := { d.peer with pendingGrant := none, grantTaken := false }
    cfg := { d.cfg with waiting := d.cfg.waiting.filter fun c => decide (c.by_ ≠ .peerGrant) } }

/-- Pods whose event is due are reported once: FOREIGN, or past the 16th key, this pod too (R350). -/
def Dev.reportPods (d : Dev) : Dev :=
  let book := d.bookId
  let out := (d.ranked.drop 16).map (·.id)
  let d := if out.contains Config.deviceId && !d.peer.saidLimit then
      { d.mark Reg.PEER_EVT 1 with peer := { d.peer with saidLimit := true } }.raiseReg Ev.peerLimit Reg.PEER_EVT
    else d
  d.peer.pods.foldl (fun (d : Dev) m =>
    let set (d : Dev) (f : Member → Member) : Dev :=
      { d with peer := { d.peer with pods := d.peer.pods.map fun x => if x.id = m.id then f x else x } }
    let d := if m.foreign book && !m.saidMismatch then
        (set (d.mark Reg.PEER_EVT 0) fun x => { x with saidMismatch := true }).raiseReg Ev.peerMismatch Reg.PEER_EVT
      else d
    if out.contains m.id && !m.saidLimit then
      (set (d.mark Reg.PEER_EVT 1) fun x => { x with saidLimit := true }).raiseReg Ev.peerLimit Reg.PEER_EVT
    else d) d

/-- The members after a change: joins and removals are counted and reported (R349). -/
def Dev.diffMembers (d : Dev) : Dev :=
  let now := (d.memberList.map (·.id)).filter fun i => decide (i ≠ Config.deviceId)
  let old := d.peer.members
  let tell (src : Nat) (d : Dev) (i : Wide) : Dev :=
    (d.bump C.PEER_MEMBER_CHG_CNT).raise src (i.toNat % 2 ^ 32) (i.toNat / 2 ^ 32)
  let d := (now.filter fun i => !old.contains i).foldl (tell Ev.peerJoin) d
  let d := (old.filter fun i => !now.contains i).foldl (tell Ev.peerLost) d
  let changed := now != old
  { d with peer := { d.peer with members := now, grantDue := d.peer.grantDue || changed } }

/-- The domain id (R351). -/
def Dev.domainId (d : Dev) : Nat :=
  if d.peer.members.isEmpty then 0
  else match d.peer.leader with
    | some i => if i.toNat % 2 ^ 16 = 0 then 0xFFFF else i.toNat % 2 ^ 16
    | none => 0

/-- The leader and the master follow the members (R351). -/
def Dev.elect (d : Dev) : Dev :=
  let ms := d.memberList
  let leader := ms.head?.map (·.id)
  let master := (ms.find? (·.valid)).map (·.id)
  let newLead := decide (leader ≠ d.peer.leader)
  let newMaster := decide (master ≠ d.peer.master)
  let d := { d with peer := { d.peer with leader := leader, master := master } }
  let d : Dev := if newLead then d.dropGrant.raise Ev.peerLeader else d
  let d : Dev := if newMaster then d.raise Ev.peerMaster else d
  let id : Nat := Dev.domainId d
  if d.fld F.PEER_DOMAIN_ID = id then d
  else
    let d := ((d.setFld F.PEER_DOMAIN_ID id).raise Ev.peerDomain).closeIngot 5
    if id = 0 then d.setFlag F.PEER_STAT_CODE_SHARED false else d

/-- A change of upstream partner starts a new series of exchanges. -/
def Dev.watchUpstream (old : Option Nat) (d : Dev) : Dev :=
  if d.upstream = old then d else { d with peer := { d.peer with delays := [] } }

/-- A pod joins a domain when it was alone, or when a pod that was no member with it leads it now: it sends a CLAIM (R355). -/
def Dev.claimOnJoin (old : List Wide) (d : Dev) : Dev :=
  let joined := match d.peer.leader with
    | some i => i != Config.deviceId && !old.contains i
    | none => false
  if !d.peer.members.isEmpty && (old.isEmpty || joined) then d.sendClaim else d

/-- The domain is worked out again after a change. -/
def Dev.refreshDomain (d : Dev) : Dev :=
  let up := d.upstream
  let old := d.peer.members
  Dev.showDomain (Dev.claimOnJoin old (Dev.watchUpstream up (Dev.elect (Dev.diffMembers (Dev.reportPods d)))))

/-! ## Lanes leave UP -/

/-- Lanes hunt again: what they received is gone. -/
def PeerSt.unalign (p : PeerSt) (ls : List Nat) : PeerSt :=
  let al := sclear (fun k => ls.contains k) p.aligned
  { p with aligned := al, segments := sclear (fun k => ls.contains k) p.segments, stripes := sclear (fun k => ls.contains k) p.stripes }

/-- A link leaves UP or ALIGNED for state `v`, lane `l` of it for DOWN where its domain goes off: its partner is gone,
and the members reached through it alone are removed (R348, R349). -/
def Dev.linkTo (d : Dev) (l v : Nat) (off : Bool := false) : Dev :=
  let ls := (d.link l).filter fun x => decide (d.laneState x ≠ 0)
  let wasUp := ls.any fun x => d.laneState x == 3
  let d := ls.foldl (fun (d : Dev) x => (d.setLane x (if off && x == l then 0 else v)).setPartner x none) d
  let d := if v = 1 then { d with peer := d.peer.unalign ls } else d
  let h := d.linkHead l
  if wasUp then
    let pods := d.peer.pods.map fun m => { m with via := sdel h m.via }
    { d with peer := { d.peer with pods := pods.filter fun m => !m.via.isEmpty } }.refreshDomain
  else if d.flag F.PEER_CTL_EN then d.showDomain
  else d

/-- Every lane goes DOWN, and with them the pods that were reached through them. -/
def Dev.lanesDown (d : Dev) : Dev :=
  let d := (List.range 4).foldl (fun (d : Dev) l => (d.setLane l 0).setPartner l none) d
  { d with peer := { d.peer.unalign [0, 1, 2, 3] with pods := [] } }.refreshDomain

/-- A lane's domain goes off: the lane is DOWN and its link restarts. -/
def Dev.laneOff (d : Dev) (l : Nat) : Dev :=
  let d := d.linkTo l 1 true
  { d with peer := { d.peer with aligned := sdel l d.peer.aligned } }

/-- The link is enabled: the pod is alone in its domain, its own leader, and its own master if its time is valid. -/
def Dev.peerStart (d : Dev) : Dev :=
  let d := { d with peer := { d.peer with rank := d.par P.peer_rank 0, leader := some Config.deviceId,
                                          master := if d.flag F.TIME_STAT_VALID then some Config.deviceId else none } }
  let d := (List.range 4).foldl (fun (d : Dev) l => if d.domOn (139 + l) then d.setLane l 1 else d) d
  d.showDomain

/-- The link is disabled: the domain is gone. -/
def Dev.peerStop (d : Dev) : Dev :=
  let d := { d.dropGrant with peer := { sent := d.peer.sent, annSeq := d.peer.annSeq, exchNo := d.peer.exchNo, grantNo := d.peer.grantNo } }
  (d.put Reg.PEER_STAT (withField 0 12 4 (d.fld F.PEER_STAT_PHASE))).showDomain

/-- `PEER_CTL` takes a new value (R348, R356): EN moves the lanes between DOWN and HUNT; another LANE_MODE makes other links, which
start from HUNT (DESIGN CHOICE, log entry 24). -/
def Dev.setPeerCtl (d : Dev) (v : Word) : Dev :=
  let was := d.flag F.PEER_CTL_EN
  let en := bitAt v.toNat 0
  let remode := was && en && field v 2 2 != d.fld F.PEER_CTL_LANE_MODE
  let d := if was && !en then d.lanesDown
    else if remode then d.linkHeads.foldl (fun (d : Dev) l => d.linkTo l 1) d
    else d
  let d := d.put Reg.PEER_CTL v
  let d := if bitAt v.toNat 4 then d else d.dropGrant
  if en && !was then d.peerStart else if was && !en then d.peerStop else if remode then d.showDomain else d

/-! ## Alignment (R346, R347) -/

/-- The received lane ids of a link are 0 to w − 1 with no repeat. -/
def idsOk (ids : List Nat) : Bool := (List.range ids.length).all fun i => ids.contains i

/-- A receive lane has seen 32 consecutive valid headers. -/
def Dev.laneAligned (d : Dev) (l remote : Nat) (skewOk : Bool) : Dev :=
  if d.laneState l ≠ 1 then d
  else
    let d := { d with peer := { d.peer with aligned := sput l remote d.peer.aligned } }.setFld (F.PEER_LANE_STAT_REMOTE_LANE l) remote
    let ls := d.link l
    let ids := ls.filterMap fun x => slook x d.peer.aligned
    if ids.length = ls.length ∧ (ls.length = 1 ∨ (idsOk ids = true ∧ skewOk = true)) then
      Dev.showDomain (ls.foldl (fun (d : Dev) x => d.setLane x 2) d)
    else d

/-- LANE_ALIGNED (R346). -/
def execLaneAligned (lane remote : Fin 4) (skewOk : Bool) (s : State) : Host.Outcome State Fault Refusal :=
  .next (s.onDev fun _ d => d.laneAligned lane.val remote.val skewOk)

/-- A lane that was aligned has seen 4 consecutive invalid headers. -/
def Dev.laneLost (d : Dev) (l : Nat) : Dev :=
  if d.laneState l = 0 ∨ (slook l d.peer.aligned).isNone then d else (d.bump C.PEER_LOSS_CNT).linkTo l 1

/-- LANE_ALIGNMENT_LOST (R346). -/
def execLaneAlignmentLost (lane : Fin 4) (s : State) : Host.Outcome State Fault Refusal := .next (s.onDev fun _ d => d.laneLost lane.val)

/-- First reply of `peer.lane_reset` (R467). -/
def bodyPeerLaneReset : Body := fun p _ d =>
  let m := p.u 0 1
  refuseIf (decide (15 < m)) 0x0104
    (.ok ((List.range 4).foldl (fun (d : Dev) l => if bitAt m l && d.laneState l != 0 then d.linkTo l 1 else d) d) [])

/-- PEER_LANE_RESET (R348). -/
def execPeerLaneReset (c : Cmd) (s : State) : Host.Outcome State Fault Refusal := .next (s.onDev (runCmd 0x0804 c bodyPeerLaneReset))

/-! ## Blocks (R344) -/

/-- A block of the link `h`: of a message type, a segment of the message being received; any other ends that message. -/
def Dev.segment (d : Dev) (h t : Nat) (payload : List Byte) : Dev :=
  let m :=
    if t < 2 ∨ 5 < t then sdel h d.peer.segments
    else match slook h d.peer.segments with
    | some x => if x.1 = t ∧ (payload.headD 0).toNat ≠ 0 then sput h (t, x.2 ++ [payload]) d.peer.segments
                else sput h (t, [payload]) d.peer.segments
    | none => sput h (t, [payload]) d.peer.segments
  { d with peer := { d.peer with segments := m } }

/-- The payload of a link from those of its lanes in lane-id order, one byte per lane in turn (R347). -/
def striped (payloads : List (List Byte)) : List Byte :=
  (List.range 60).flatMap fun i => payloads.map fun p => p.getD i 0

/-- Lane `l` has received a block, none for one that was discarded. When every lane of its link has, their payloads make one block of
the link; where the lanes differ in type or one was discarded, it is lost (DEDUCED, log entry 174). -/
def Dev.stripe (d : Dev) (l : Nat) (b : Option (Nat × List Byte)) : Dev :=
  let ls := d.link l
  let got := sput l b d.peer.stripes
  let have_ := ls.filterMap fun x => slook x got
  if have_.length < ls.length then { d with peer := { d.peer with stripes := got } }
  else
    let d := { d with peer := { d.peer with stripes := sclear (fun k => ls.contains k) d.peer.stripes } }
    let ids := (List.range 4).flatMap fun i => ls.filter fun x => d.farLane x == i
    let bs := ids.filterMap fun x => (slook x got).getD none
    match bs with
    | [] => d
    | b :: _ => if bs.length = ls.length ∧ bs.all (fun x => x.1 == b.1) then d.segment (d.linkHead l) b.1 (striped (bs.map (·.2))) else d

/-- A block of 64 characters received on an aligned lane (R344, R346). -/
def Dev.peerBlock (d : Dev) (l : Nat) (marker violation : Bool) (chars : List Byte) : Dev :=
  let n (i : Nat) : Nat := (chars.getD i 0).toNat
  if d.laneState l < 2 then d
  else if violation || n 0 != 0xBC || crc16 ((chars.drop 1).take 61) != n 62 + 256 * n 63 then
    (d.bump C.PEER_CRC_ERR_CNT).stripe l none
  else if marker then (if n 2 < 4 then d.setFld (F.PEER_LANE_STAT_REMOTE_LANE l) (n 2) else d)
  else if 1 ≤ n 1 ∧ n 1 ≤ 5 then d.stripe l (some (n 1, (chars.drop 2).take 60))
  else (d.bump C.PEER_CRC_ERR_CNT).stripe l (some (1, (chars.drop 2).take 60))

/-- PEER_BLOCK_RECEIVED (R344). -/
def execPeerBlockReceived (lane : Fin 4) (marker violation : Bool) (chars : List Byte) (s : State) : Host.Outcome State Fault Refusal :=
  if chars.length = 64 then .next (s.onDev fun _ d => d.peerBlock lane.val marker violation chars) else .fault .illFormed

/-! ## Discovery (R348 to R351) -/

/-- The pods that this pod sees at its lane halves: receive halves 0 to 3, transmit halves 4 to 7. -/
def Dev.halves (d : Dev) : List (Fin 8 × Wide) :=
  (d.peer.partners.filter fun x => x.1 < 4).map (fun x => (Fin.ofNat 8 x.1, x.2))
    ++ (d.peer.facing.filter fun x => x.1 < 4).map fun x => (Fin.ofNat 8 (x.1 + 4), x.2)

/-- ANNOUNCE_TIMER: an ANNOUNCE of this pod on every open half. -/
def Dev.announce (d : Dev) : Dev :=
  if d.flag F.PEER_CTL_EN then
    let d := { d with peer := { d.peer with rank := d.par P.peer_rank 0, annSeq := (d.peer.annSeq + 1) % 2 ^ 16 } }.refreshDomain
    let a : Announce := ⟨1, Config.deviceId, Fin.ofNat 4 d.peer.rank, d.flag F.TIME_STAT_VALID, BitVec.ofNat 16 d.bookId,
      BitVec.ofNat 16 d.peer.annSeq, 0, d.halves⟩
    d.openLinks.foldl (fun (d : Dev) l => d.sendPeer (.announce l a)) d
  else d

/-- ANNOUNCE_TIMER (R349). -/
def execAnnounceTimer (s : State) : Host.Outcome State Fault Refusal := .next (s.onDev fun _ d => d.announce)

/-- Sequence number `b` is ahead of `a` in serial-number arithmetic modulo 2^16. -/
def seqNew (a b : Nat) : Bool :=
  let x := (2 ^ 16 + b - a % 2 ^ 16) % 2 ^ 16
  decide (0 < x ∧ x < 2 ^ 15)

/-- A pod after an ANNOUNCE of it that is new. A link that brought none of its last three ANNOUNCEs no longer reaches it (DESIGN CHOICE,
log entry 175). -/
def heardPod (old : Option Member) (h : Nat) (a : Announce) : Member :=
  let m : Member := old.getD { id := a.origin, rank := 0, valid := false, bookId := 0, version := 0, seq := 0 }
  { m with rank := a.rank.val, valid := a.valid, bookId := a.bookId.toNat, version := a.version, seq := a.seq.toNat,
           seesUs := (a.seen.filter fun x => x.1.val < 4 && x.2 == Config.deviceId).map (·.1.val),
           via := sput h (a.hops.val, a.seq.toNat) (m.via.filter fun x => !seqNew ((x.2.2 + 2) % 2 ^ 16) a.seq.toNat) }

/-- The links on which an ANNOUNCE that came in on link `h` is forwarded: every other half, which on a lane by itself that faces
another pod than it hears is the transmit half of that lane too (R348, R349). -/
def Dev.forwardOn (d : Dev) (h : Nat) : List Nat :=
  d.openLinks.filter fun l => l != h || ((d.link l).length == 1 && !d.twoWay l)

/-- An ANNOUNCE of another origin: the domain follows, and it is forwarded once on every other open half. -/
def Dev.hearPod (d : Dev) (h : Nat) (a : Announce) : Dev :=
  let old := d.peer.pods.find? fun m => m.id == a.origin
  let fresh := match old with
    | some m => seqNew m.seq a.seq.toNat
    | none => true
  if a.hops.val = 15 then d
  else if fresh then
    let m := heardPod old h a
    let pods := if old.isSome then d.peer.pods.map fun x => if x.id = m.id then m else x else d.peer.pods ++ [m]
    let d := { d with peer := { d.peer with pods := pods } }.refreshDomain
    if a.hops.val + 1 < 15 then
      (d.forwardOn h).foldl (fun (d : Dev) l =>
        d.sendPeer (.announce l { a with hops := Fin.ofNat 16 (a.hops.val + 1) })) d
    else d
  else
    let pods := d.peer.pods.map fun x => if x.id = a.origin then { x with via := sput h (a.hops.val, a.seq.toNat) x.via } else x
    { d with peer := { d.peer with pods := pods } }.refreshDomain

/-- An ANNOUNCE arrives on lane `l`. -/
def Dev.announced (d : Dev) (l : Nat) (a : Announce) : Dev :=
  let h := d.linkHead l
  if d.flag F.PEER_CTL_EN && decide (2 ≤ d.laneState l) then
    let ls := d.link l
    let d := if a.hops.val = 0 ∧ a.origin ≠ Config.deviceId then
        ls.foldl (fun (d : Dev) x => d.setPartner x (some a.origin)) d else d
    let d := ls.foldl (fun (d : Dev) x => d.setLane x 3) d
    if a.origin = Config.deviceId then d.showDomain else d.hearPod h a
  else d

/-- ANNOUNCE_RECEIVED (R349). -/
def execAnnounceReceived (lane : Fin 4) (a : Announce) (s : State) : Host.Outcome State Fault Refusal :=
  .next (s.onDev fun _ d => d.announced lane.val a)

/-- PARTNER_TIMEOUT (R348). -/
def execPartnerTimeout (lane : Fin 4) (s : State) : Host.Outcome State Fault Refusal :=
  .next (s.onDev fun _ d => if d.laneState lane.val = 3 then d.linkTo lane.val 2 else d)

/-- A pod is removed. -/
def Dev.dropPod (d : Dev) (id : Wide) : Dev :=
  if d.peer.pods.any fun m => m.id == id then
    { d with peer := { d.peer with pods := d.peer.pods.filter fun m => m.id != id } }.refreshDomain
  else d

/-- MEMBER_TIMEOUT (R349). -/
def execMemberTimeout (id : BitVec 64) (s : State) : Host.Outcome State Fault Refusal := .next (s.onDev fun _ d => d.dropPod id)

/-! ## Time transfer (R352) -/

/-- A TIME exchange is started with the downstream partner of lane `l`. -/
def Dev.startExchange (d : Dev) (l : Nat) : Dev :=
  let h := d.linkHead l
  let down := match slook h d.peer.partners with
    | some p => d.peer.members.contains p
    | none => false
  if d.flag F.PEER_CTL_EN && d.laneState h == 3 && d.twoWay h && down && d.upstream != some h && d.peer.master.isSome then
    let n := (d.peer.exchNo + 1) % 2 ^ 16
    { d with peer := { d.peer with exchNo := n } }.sendPeer (.time h n d.nowPs none)
  else d

/-- TIME_EXCHANGE_TICK (R352). -/
def execTimeExchangeTick (lane : Fin 4) (s : State) : Host.Outcome State Fault Refusal :=
  .next (s.onDev fun _ d => d.startExchange lane.val)

/-- Twice the median: the mean of the middle two of an even count. -/
def median2 (l : List Int) : Int :=
  let s := l.foldl (fun a x => insInt x a) []
  s.getD ((s.length - 1) / 2) 0 + s.getD (s.length / 2) 0

/-- A completed exchange with the upstream partner: this pod answered its TIME block with t2 and t3; then its delay and offset in ps
count (R352). How t4 comes back to the follower is left open: the command brings it (DESIGN CHOICE, log entry 176). -/
def Dev.exchange (d : Dev) (l : Nat) (x : TimeExchange) : Dev :=
  if d.upstream = some (d.linkHead l) then
    let d := d.sendPeer (.time (d.linkHead l) x.number x.t1 (some (x.t2, x.t3)))
    let up : Int := (x.t4 : Int) - x.t3
    let dn : Int := (x.t2 : Int) - x.t1
    let delay := (up + dn).fdiv 2
    let theta := (up - dn).fdiv 2 + d.parI P.peer_asym_ps (d.linkHead l)
    let bad := !d.peer.delays.isEmpty && decide (40000 < (2 * delay - median2 d.peer.delays).natAbs)
    let d := { d with peer := { d.peer with delays := (delay :: d.peer.delays).take 16 } }
    if bad || d.activeSrc != 2 then d
    else
      let d := d.applyOffset theta
      let d := d.put Reg.PEER_OFFSET (BitVec.ofInt 32 (clampI (-2 ^ 31) (2 ^ 31 - 1) (roundDiv theta 100)))
      d.put Reg.PEER_DELAY (BitVec.ofInt 32 (clampI 0 (2 ^ 32 - 1) (roundDiv delay 100)))
  else d

/-- TIME_BLOCK_RECEIVED (R352). -/
def execTimeBlockReceived (lane : Fin 4) (x : TimeExchange) (s : State) : Host.Outcome State Fault Refusal :=
  .next (s.onDev fun _ d => d.exchange lane.val x)

/-! ## Codes and phase (R355) -/

/-- A CLAIM arrives. -/
def Dev.claimed (d : Dev) (c : Claim) : Dev :=
  let book := d.bookId
  if d.flag F.PEER_CTL_EN && d.peer.pods.any fun m => m.id == c.origin && !m.foreign book then
    let pods := d.peer.pods.map fun m => if m.id = c.origin then
      { m with claim := c.codes.map (·.val), claimPhase := c.phase.val } else m
    let d : Dev := { d with peer := { d.peer with pods := pods } }
    if d.peer.leader = some Config.deviceId then d.leadClaim.showDomain else d
  else d

/-- CLAIM_RECEIVED (R355). -/
def execClaimReceived (c : Claim) (s : State) : Host.Outcome State Fault Refusal := .next (s.onDev fun _ d => d.claimed c)

/-! ## Commands (R467) -/

/-- First reply of `peer.status`. -/
def bodyPeerStatus : Body := fun _ _ d =>
  .ok d (leBytes 4 (d.reg Reg.PEER_STAT).toNat ++ leBytes 4 (d.reg Reg.PEER_DOMAIN).toNat ++ leBytes 4 (d.reg Reg.PEER_OFFSET).toNat
    ++ leBytes 4 (d.reg Reg.PEER_DELAY).toNat ++ leBytes 8 ((d.peer.leader.map (·.toNat)).getD 0))

/-- PEER_STATUS (R467). -/
def execPeerStatus (c : Cmd) (s : State) : Host.Outcome State Fault Refusal := .next (s.onDev (runCmd 0x0801 c bodyPeerStatus))

/-- The code ids of a member: as granted, or as claimed before any grant. -/
def Member.codeIds (m : Member) : List Nat := if m.codes.isEmpty then m.claim else m.codes

/-- An entry of the member table, 32 bytes. -/
def memberEntry (stat : Nat) (book : Nat) (m : Option Member) : List Byte :=
  match m with
  | none => zeros 16 ++ (List.range 8).flatMap (fun _ => leBytes 1 0xFF) ++ zeros 8
  | some m => leBytes 8 m.id.toNat ++ leBytes 4 stat ++ leBytes 2 (if m.id = Config.deviceId then book else m.bookId) ++ zeros 2
      ++ (List.range 8).flatMap (fun k => leBytes 1 (m.codeIds.getD k 0xFF)) ++ zeros 8

/-- The member table. -/
def Dev.memberTable (d : Dev) : List Byte :=
  let ms := d.listed
  let book := d.bookId
  (List.range 16).flatMap fun i => memberEntry (d.reg (Reg.PEER_MEM_STAT i)).toNat book ms[i]?

/-- First reply of `peer.members`. -/
def bodyPeerMembers : Body := fun p _ d =>
  let a := p.u 0 8
  refuseIf (!inDevMem a 512) 0x0105 (.accept d 0)

/-- PEER_MEMBERS (R467). -/
def execPeerMembers (c : Cmd) (s : State) : Host.Outcome State Fault Refusal := .next (s.onDev (runCmd 0x0802 c bodyPeerMembers))

/-- `peer.members` ends: the table is written. -/
def Dev.peerMembersEnd (d : Dev) (r : Running) : Dev :=
  (d.memw (r.pkt.u 0 8) d.memberTable).finish r 0x0000 (leBytes 1 d.memberList.length)

/-- First reply of `peer.reclaim`. -/
def bodyPeerReclaim : Body := fun _ _ d => refuseIf (!d.flag F.PEER_CTL_EN) 0x0204 (.ok d.sendClaim [])

/-- PEER_RECLAIM (R355). -/
def execPeerReclaim (c : Cmd) (s : State) : Host.Outcome State Fault Refusal := .next (s.onDev (runCmd 0x0803 c bodyPeerReclaim))

end Sys2Proof.Machine
end

