-- ==== Sys2Proof/Machine/Power.lean ====
section
/-! DEFINITION. Power (chapter 19): which domains are on, switching them, the power states, the governor and AVSBus. -/

namespace Sys2Proof.Machine

/-! ## What is to be on (R557) -/

/-- The cluster that serves a slice (R14). -/
def clusterOf (s : Nat) : Nat := (3 * s + 2) / 16

/-- A domain's power-good failed since the last reset (R564). -/
def Dev.domFailed (d : Dev) (n : Nat) : Bool := d.bit (Reg.PWR_DOM_FAIL (n / 32)) (n % 32)

/-- The state whose domains are wanted: the target of a transition, the state SAFE_MIN came from, or the state (R559). -/
def Dev.wantState (d : Dev) : Nat :=
  match d.pwr.target with
  | some t => t
  | none => if d.fld F.PWR_STAT_STATE = 2 then d.pwr.from_ else d.fld F.PWR_STAT_STATE

/-- The switched units of scanning may be on: restored, and RUN. -/
def Dev.wantsRun (d : Dev) : Bool := d.flag F.GLB_STAT_RESTORED && d.wantState == 0

/-- Slice `s` is enabled by `pwr.slice_en`. -/
def Dev.sliceEn (d : Dev) (s : Nat) : Bool := bitAt (d.par P.pwr_slice_en 0) s

/-- Cluster `c` is to be on. -/
def Dev.wantsCluster (d : Dev) (c : Nat) : Bool :=
  d.wantsRun && !d.domFailed (72 + c) && (decide (d.damper < 7) || c % 2 == 0)
    && (List.range 64).any fun s => clusterOf s == c && d.sliceEn s

/-- Slice `s` is to be on: a unit that needs a failed domain stays off (R564). -/
def Dev.wantsSlice (d : Dev) (s : Nat) : Bool :=
  d.sliceEn s && d.wantsCluster (clusterOf s) && !d.domFailed s && !d.domFailed (100 + clusterOf s) && !d.domFailed (84 + s / 4)

/-- Domain `n` of those that a power state switches is to be on. -/
def Dev.wants (d : Dev) (n : Nat) : Bool :=
  if n < 64 then d.wantsSlice n
  else if n < 72 then d.wantsRun && !d.domFailed n && bitAt (d.par P.pwr_tap_en 0) (n - 64) && decide (d.damper < 5)
  else if n < 84 then d.wantsCluster (n - 72)
  else if n < 100 then (List.range 4).any fun k => d.wantsSlice (4 * (n - 84) + k)
  else if n < 112 then d.wantsCluster (n - 100) && !d.domFailed n
  else decide (139 ≤ n ∧ n < 144) && d.flag F.PEER_CTL_EN && !d.domFailed n

/-- The order of R563: arena banks, clusters, Turf banks, slices, tap groups; the peer controller before its lanes. -/
def switchOrder : List Nat :=
  ((List.range 12).map (100 + ·)) ++ ((List.range 12).map (72 + ·)) ++ ((List.range 16).map (84 + ·)) ++ List.range 64
    ++ ((List.range 8).map (64 + ·)) ++ [143, 139, 140, 141, 142]

/-! ## Switching (R562 to R564) -/

/-- Domains are switching on. -/
def Dev.showSwitching (d : Dev) : Dev := d.setFlag F.PWR_STAT_SWITCHING (!d.pwr.switchQ.isEmpty)

/-- A slice that goes off loses its state: the crossings are flushed, its dwells and its Burnish blocks are gone (R562). The next
summary of each channel carries XFLUSH (R117). -/
def Dev.sliceOff (d : Dev) (s : Nat) : Dev :=
  let d := d.flushCrossing s
  let d := (List.range 8).foldl (fun (d : Dev) c => (d.setChan (8 * s + c) { xflush := true }).setTdc (8 * s + c) {}) d
  { d with
    kiln := { d.kiln with pixels := d.kiln.pixels.filter fun p => p.row / 8 != s, turn := sdel s d.kiln.turn },
    bur := { d.bur with trims := sclear (fun k => k / 24 == s) d.bur.trims } }.burnishFail s

/-- A window of tap group `g` is open. -/
def Dev.groupOpen (d : Dev) (g : Nat) : Bool := d.taps.taps.any fun e => e.1 / 8 == g && e.2.capture.isSome

/-- The tap groups in the allocation (R228, R249): a group that is to go off leaves it at the first slot boundary at which none of its
taps has a window open (R231). -/
def Dev.showTapGroups (d : Dev) : Dev :=
  let on := (List.range 8).foldl (fun a g =>
    if d.joined (64 + g) && (d.wants (64 + g) || !d.cfg.waiting.isEmpty || (d.groupOpen g && bitAt (d.fld F.TAP_STAT_GRP_ON) g))
    then a + 2 ^ g else a) 0
  let avail := if d.damper < 4 then 255 else if d.damper = 4 then 15 else 0
  (d.setFld F.TAP_STAT_GRP_ON on).setFld F.TAP_STAT_GRP_AVAIL avail

/-- A tap group that goes off loses its state. -/
def Dev.tapGroupOff (d : Dev) (g : Nat) : Dev :=
  let d := { d with taps := { d.taps with taps := sclear (fun t => t / 8 == g) d.taps.taps,
                                          ladles := d.taps.ladles.filter fun l => l.tap / 8 != g,
                                          next := d.taps.next.filter fun l => l.tap / 8 != g } }
  d.showTapGroups

/-- Domain `n` goes off. The credits of the slices are filled up to now at the number of powered slices before (R324). -/
def Dev.switchOff (d : Dev) (n : Nat) : Dev :=
  if d.domOn n = false then d
  else
    let d := (if n < 64 then d.refill else d).setDom n false
    let d := { d with pwr := { d.pwr with joining := d.pwr.joining.erase n } }
    if n < 64 then d.sliceOff n
    else if n < 72 then d.tapGroupOff (n - 64)
    else if 84 ≤ n ∧ n < 100 then (d.dropBank (n - 84)).setBit Reg.TURF_BANK_ON (n - 84) false
    else if 139 ≤ n ∧ n < 143 then d.laneOff (n - 139)
    else d

/-- A switch-off waits: for the apply that runs on the slice (R141); for the slot boundary at which a tap group leaves the allocation,
and for its Ladles, which are captured once prepared (R231); and a cluster, a Turf bank or an arena bank for the last of its slices
that goes off (R557). -/
def Dev.offBlocked (d : Dev) (n : Nat) : Bool :=
  if n < 64 then (match d.bur.apply with
    | some a => a.unit == n
    | none => false)
  else if n < 72 then d.locked && (bitAt (d.fld F.TAP_STAT_GRP_ON) (n - 64) || d.groupOpen (n - 64)
    || (d.taps.ladles ++ d.taps.next).any fun l => l.tap / 8 == n - 64)
  else if n < 84 then (List.range 64).any fun s => clusterOf s == n - 72 && d.domOn s
  else if n < 100 then (List.range 4).any fun k => d.domOn (4 * (n - 84) + k)
  else if n < 112 then (List.range 64).any fun s => clusterOf s == n - 100 && d.domOn s
  else false

/-- The domains of a list that are on and not wanted go off, or wait. -/
def Dev.dropUnwanted (d : Dev) (ns : List Nat) : Dev :=
  ns.foldl (fun (d : Dev) n =>
    if d.domOn n && !d.wants n then
      if d.offBlocked n then { d with pwr := { d.pwr with offWait := n :: d.pwr.offWait.erase n } } else d.switchOff n
    else { d with pwr := { d.pwr with offWait := d.pwr.offWait.erase n } }) d

/-- The domains of a list that are wanted and off begin to switch on, in the order of R563. -/
def Dev.queueWanted (d : Dev) (ns : List Nat) : Dev :=
  let q := d.pwr.switchQ.filter fun n => decide (112 ≤ n ∧ ¬(139 ≤ n ∧ n < 144)) || d.wants n
  let new := ns.filter fun n => d.wants n && !d.domOn n && !q.contains n
  Dev.showSwitching { d with pwr := { d.pwr with switchQ := q ++ new } }

/-- A two-phase change has ended its prepare phase and waits for its boundary: what it checked stays as it was (R484). -/
def Dev.offsHeld (d : Dev) : Bool := !d.cfg.waiting.isEmpty

/-- The domains follow what is wanted of them (R563). -/
def Dev.retarget (d : Dev) : Dev :=
  let d := if d.offsHeld then d else d.dropUnwanted switchOrder.reverse
  d.queueWanted switchOrder

/-- The tap groups follow at a slot boundary (R231, R305), and switch-offs that waited. -/
def Dev.retargetTaps (d : Dev) : Dev :=
  let ns := (List.range 8).map (64 + ·)
  let d := if d.offsHeld then d else d.dropUnwanted (ns ++ d.pwr.offWait.reverse)
  if ns.any fun n => d.wants n && !d.domOn n then d.queueWanted ns else d

/-- Every domain that a slice or tap group needs is usable (R563). -/
def Dev.needsOn (d : Dev) (n : Nat) : Bool :=
  if n < 64 then d.domOn n && d.domOn (72 + clusterOf n) && d.domOn (100 + clusterOf n) && d.domOn (84 + n / 4) else d.domOn n

/-- Slices and tap groups that became usable take part from this frame boundary (R563). -/
def Dev.joinFrame (d : Dev) : Dev :=
  { d with pwr := { d.pwr with joining := d.pwr.joining.filter fun n => !d.needsOn n } }

/-- The drop counter of the crossings that end in domain `n`, other than those of the Ember queues (R633): tap capture, housekeeping
samples and the chain ports at the timing island, and the memory, CXL and peer islands. Between fabric domains there is no crossing. -/
def domDrops (n : Nat) : Option Cnt :=
  if 64 ≤ n ∧ n < 72 then some C.TIME_XDROP_CNT
  else if 112 ≤ n ∧ n < 134 then some C.MEM_XDROP_CNT
  else if 134 ≤ n ∧ n < 139 then some C.CMDQ_XDROP_CNT
  else if 139 ≤ n ∧ n < 144 then some C.PEER_XDROP_CNT
  else if n = 144 ∨ n = 145 then some C.TIME_XDROP_CNT
  else none

/-- A slice's crossings are resynchronised as its domain comes on: the entries lost are counted, and the next summary of each channel
carries XFLUSH (R16, R117). -/
def Dev.resyncSlice (d : Dev) (s flushed : Nat) : Dev :=
  let d := (List.range 8).foldl (fun (d : Dev) c => d.setChan (8 * s + c) { d.chan (8 * s + c) with xflush := true }) d
  (d.bumpBy (C.SLICE_EM_XDROP_CNT s) flushed).mark (Reg.SLICE_EM_STAT s) 10

/-- The initialisation of domain `n` has ended: the domain is usable (R562). `flushed` is the entries that its crossings lost (R16). -/
def Dev.switchOn (d : Dev) (n flushed : Nat) : Dev :=
  let d := (if n < 64 then d.refill else d).setDom n true
  let d := match domDrops n with
    | some c => d.bumpBy c flushed
    | none => d
  if n < 64 then
    let d := { d with pwr := { d.pwr with joining := d.pwr.joining ++ [n] } }.resyncSlice n flushed
    let d := (List.range 8).foldl (fun (d : Dev) c => (d.showTrims (8 * n + c)).newBlock (8 * n + c)) d
    match d.lastTemp n with
    | some t => if tempOver (d.unitTemp n) t (d.par P.burnish_delta_t 0) then d.burPending n 0 else d
    | none => d
  else if n < 72 then { d with pwr := { d.pwr with joining := d.pwr.joining ++ [n] } }
  else if 84 ≤ n ∧ n < 100 then d.setBit Reg.TURF_BANK_ON (n - 84) true
  else if 139 ≤ n ∧ n < 143 then d.setLane (n - 139) 1
  else if n = 144 then (List.range 8).foldl Dev.chainReset d
  else d

/-- Every domain of the present step of the reset sequence has been tried: the PLL is next (R584). -/
def Dev.domainsDone (d : Dev) : Dev :=
  if d.rst.phase = .domains ∧ d.pwr.switchQ.isEmpty then { d with rst := { d.rst with phase := .pll } } else d

/-- Changes that waited for their domains complete (R564). -/
def Dev.poweringDone (d : Dev) : Dev :=
  if d.pwr.switchQ.isEmpty then
    d.cfg.powering.foldl (fun (d : Dev) (p : Powering) =>
      match p.by_ with
      | .command q tag => d.complete q tag 0x0000 p.results
      | _ => d) { d with cfg := { d.cfg with powering := [] } }
  else d

/-- The domain that is switching on becomes usable, and the next begins. -/
def Dev.switchDone (d : Dev) (flushed : Nat) : Dev :=
  match d.pwr.switchQ with
  | [] => d
  | n :: rest =>
    let d := ({ d with pwr := { d.pwr with switchQ := rest } }.switchOn n flushed).showSwitching
    d.domainsDone.poweringDone

/-- `DOMAIN_SWITCH_ON_DONE` (R562). -/
def execDomainSwitchOnDone (flushed : Nat) (s : State) : Host.Outcome State Fault Refusal :=
  .next (s.onDev fun _ d => d.switchDone flushed)

/-- Changes that switch a failed domain on are refused: the values before them stand again (R564). -/
def Dev.poweringFail (d : Dev) (n : Nat) : Dev :=
  d.cfg.powering.foldl (fun (d : Dev) (p : Powering) =>
    let d := p.olds.foldl (fun (d : Dev) (x : Nat × Nat) => d.setPar (x.1 / 2 ^ 20) (x.1 % 2 ^ 20) x.2) d
    let d := d.bump C.GLB_CFG_REFUSE_CNT
    match p.by_ with
    | .command q tag => d.complete q tag 0x0507 (unitResults n)
    | _ => d) { d with cfg := { d.cfg with powering := [] } }

/-- A `pwr.state` whose domain fails is refused, and the state before it stands (R564). -/
def Dev.pwrStateFail (d : Dev) (n : Nat) : Dev :=
  match d.pwr.target with
  | none => d
  | some _ =>
    let d := { d with pwr := { d.pwr with target := none } }
    let d := d.completeOp 0x0B02 0x0507 (unitResults n)
    if d.flag F.THM_STAT_SAFE then d.enterSafeMin else d

/-- The domain that is switching on has no power-good: it is left off until the next reset (R564). -/
def Dev.switchFail (d : Dev) : Dev :=
  match d.pwr.switchQ with
  | [] => d
  | n :: rest =>
    let d := { d with pwr := { d.pwr with switchQ := rest } }.setBit (Reg.PWR_DOM_FAIL (n / 32)) (n % 32) true
    let d := (d.bump C.PWR_DOM_FAIL_CNT).sticky Reg.PWR_EVT 2 Ev.pwrDomain
    ((d.poweringFail n).pwrStateFail n).retarget.domainsDone

/-- `POWER_GOOD_TIMEOUT` (R564). -/
def execPowerGoodTimeout (s : State) : Host.Outcome State Fault Refusal := .next (s.onDev fun _ d => d.switchFail)

/-! ## Power states (R559 to R561) -/

/-- `pwr.state` (R560). -/
def bodyPwrState : Body := fun p _ d =>
  let v := p.u 0 1
  let cur := d.pwr.target.getD (d.fld F.PWR_STAT_STATE)
  refuseIf (decide (2 ≤ v)) 0x0104 <| refuseIf (d.fld F.PWR_STAT_STATE == 2) 0x0201 <| refuseIf (v == 1 && !d.atRest) 0x0201 <|
    if d.pwr.target.isNone && v == cur then .ok d []
    else .accept (Dev.retarget { d with pwr := { d.pwr with target := some v } }) 0

/-- `PWR_STATE` (R560). -/
def execPwrState (c : Cmd) (s : State) : Host.Outcome State Fault Refusal := .next (s.onDev (runCmd 0x0B02 c bodyPwrState))

/-- Every domain of the new state is on and usable, or off: the state is entered (R560, R561). -/
def Dev.pwrStateDone (d : Dev) : Dev :=
  match d.pwr.target with
  | none => d
  | some v =>
    if d.pwr.switchQ.isEmpty && d.pwr.offWait.isEmpty then
      let d := ({ d with pwr := { d.pwr with target := none } }.setPwrState v).completeOp 0x0B02 0x0000
      if d.flag F.THM_STAT_SAFE then d.enterSafeMin else d
    else d

/-- `PWR_STATE_COMPLETE` (R560). -/
def execPwrStateComplete (s : State) : Host.Outcome State Fault Refusal := .next (s.onDev fun _ d => d.pwrStateDone)

/-- `pwr.status`. -/
def bodyPwrStatus : Body := fun _ _ d =>
  .ok d (leBytes 1 (d.fld F.PWR_STAT_STATE) ++ zeros 1 ++ leBytes 2 (d.fld F.PWR_VF_V) ++ leBytes 4 (d.reg Reg.PWR_POWER).toNat)

/-- `PWR_STATUS` (R470). -/
def execPwrStatus (c : Cmd) (s : State) : Host.Outcome State Fault Refusal := .next (s.onDev (runCmd 0x0B01 c bodyPwrStatus))

/-! ## Governor (R565 to R569) -/

/-- A domain whose fields of `PWR_CTL` changed: V_FIX stays within its limits (R575). -/
def Dev.pwrCtlSet (d : Dev) : Dev :=
  d.setFld F.PWR_CTL_V_FIX (clampN (d.par P.pwr_v_min_mv 0) (d.par P.pwr_v_max_mv 0) (d.fld F.PWR_CTL_V_FIX))

/-- Some powered sensor's pace over its floor exceeds `pct` per cent. -/
def paceOver (pace : List (Option (BitVec 16))) (pct : Nat) : Bool :=
  (pace.mapIdx fun i x => match x with
    | some v => decide (pct * (Config.paceFloor i).toNat < 100 * v.toNat)
    | none => false).any id

/-- Every powered sensor's pace over its floor stays below `pct` per cent. -/
def paceBelow (pace : List (Option (BitVec 16))) (pct : Nat) : Bool :=
  (pace.mapIdx fun i x => match x with
    | some v => decide (100 * v.toNat < pct * (Config.paceFloor i).toNat)
    | none => true).all id

/-- For how many periods the pace has stood where R565 and R568 ask for it. -/
def Dev.countPace (d : Dev) (pace : List (Option (BitVec 16))) : Dev :=
  let margin := d.par P.pwr_pace_margin_pct 0
  let held := decide (d.par P.pwr_v_max_mv 0 ≤ d.fld F.PWR_VF_V) || d.flag F.PWR_STAT_AVS_FAULT
  { d with pwr := { d.pwr with
      lowTicks := if paceBelow pace (97 - margin) then d.pwr.lowTicks + 1 else 0,
      underTicks := if paceBelow pace (100 - margin) then d.pwr.underTicks + 1 else 0,
      overTicks := if paceOver pace 100 && held && d.fld F.PWR_STAT_STATE != 2 then d.pwr.overTicks + 1 else 0 } }

/-- FLOOR_LOST is set and cleared (R568). In SAFE_MIN the floor does not apply (R566). -/
def Dev.watchFloor (d : Dev) : Dev :=
  let d := if 10 < d.pwr.overTicks ∧ d.flag F.PWR_STAT_FLOOR_LOST = false then
      ((d.setFlag F.PWR_STAT_FLOOR_LOST true).bump C.PWR_FLOOR_CNT).sticky Reg.PWR_EVT 0 Ev.pwrFloor
    else d
  if 100 ≤ d.pwr.underTicks then d.setFlag F.PWR_STAT_FLOOR_LOST false else d

/-- The governor steps the fabric voltage (R565). -/
def Dev.govern (d : Dev) (pace : List (Option (BitVec 16))) : Dev :=
  if d.flag F.PWR_STAT_SWITCHING then d
  else if paceOver pace (100 - d.par P.pwr_pace_margin_pct 0) then
    d.setFld F.PWR_VF_V (min (d.par P.pwr_v_max_mv 0) (d.fld F.PWR_VF_V + 5))
  else if 100 ≤ d.pwr.lowTicks then d.setFld F.PWR_VF_V (max (d.par P.pwr_v_min_mv 0) (d.fld F.PWR_VF_V - 5))
  else d

/-- The pace readings are shown, with the floors of production test (R574). -/
def Dev.showPace (d : Dev) (pace : List (Option (BitVec 16))) : Dev :=
  (pace.mapIdx fun i x => (i, x)).foldl (fun (d : Dev) (x : Nat × Option (BitVec 16)) =>
    let now := match x.2 with
      | some v => v.toNat
      | none => field (d.reg (Reg.PWR_PACE x.1)) 0 16
    d.put (Reg.PWR_PACE x.1) (BitVec.ofNat 32 (now + 2 ^ 16 * (Config.paceFloor x.1).toNat))) d

/-- The greatest pace over its floor in the present housekeeping round, 1/4,096 (R617). -/
def Dev.notePace (d : Dev) (pace : List (Option (BitVec 16))) : Dev :=
  let m := (pace.mapIdx fun i x => match x with
    | some v => 4096 * v.toNat / max 1 (Config.paceFloor i).toNat
    | none => 0).foldl max d.tel.paceMax
  { d with tel := { d.tel with paceMax := m } }

/-- One period of the governor (R565, R566): it first runs at the end of restore (R570), and an AVSBus fault holds v (R569). -/
def Dev.governorTick (d : Dev) (pace : List (Option (BitVec 16))) : Dev :=
  let d := (d.showPace pace).notePace pace
  if !d.flag F.GLB_STAT_RESTORED then d
  else
  let d := (d.countPace pace).watchFloor
  if d.flag F.PWR_STAT_AVS_FAULT then d
  else if d.fld F.PWR_STAT_STATE = 2 then d.setFld F.PWR_VF_V (d.par P.pwr_v_min_mv 0)
  else if d.flag F.PWR_CTL_GOV_EN then d.govern pace
  else d.setFld F.PWR_VF_V (d.fld F.PWR_CTL_V_FIX)

/-- `GOVERNOR_TICK` (R565): the cycle time of each of the 16 sensors, none for one without power. -/
def execGovernorTick (pace : List (Option (BitVec 16))) (s : State) : Host.Outcome State Fault Refusal :=
  if pace.length = 16 then .next (s.onDev fun _ d => d.governorTick pace) else .fault .illFormed

/-- An AVSBus fault begins or lasts (R569). -/
def Dev.avsFault (d : Dev) : Dev :=
  if d.flag F.PWR_STAT_AVS_FAULT then d
  else ((d.setFlag F.PWR_STAT_AVS_FAULT true).bump C.PWR_AVS_ERR_CNT).sticky Reg.PWR_EVT 1 Ev.pwrAvs

/-- One read-back of voltage and current (R569, R571): the model of the other rails is not stated, and its share is a free value that
leaves the sum within the maximum of the power budget where the fabric rail's power does (log entry 114). -/
def Dev.avsReadback (d : Dev) (bad : Bool) (mv mA : BitVec 16) : Dev :=
  if bad then
    let n := d.pwr.avsFails + 1
    let d := { d with pwr := { d.pwr with avsFails := n } }
    if 3 ≤ n then d.avsFault else d
  else
    let off := decide (25 < absI ((mv.toNat : Int) - d.fld F.PWR_VF_V))
    let twice := off && d.pwr.avsOff
    let d := { d with pwr := { d.pwr with avsFails := 0, avsOff := off } }.setFld F.PWR_VF_READBACK mv.toNat
    let fabric := mv.toNat * mA.toNat / 1000
    let d := (d.put Reg.PWR_POWER (BitVec.ofNat 32 (fabric + d.free 31 % (46001 - min 46000 fabric)))).freeNext
    if twice then d.avsFault else if off then d else d.setFlag F.PWR_STAT_AVS_FAULT false

/-- `AVS_READBACK` (R569). -/
def execAvsReadback (frameBad : Bool) (mv mA : BitVec 16) (s : State) : Host.Outcome State Fault Refusal :=
  .next (s.onDev fun _ d => d.avsReadback frameBad mv mA)

end Sys2Proof.Machine
end

