-- ==== Sys2Proof/Machine/Safety.lean ====
section
/-! DEFINITION. The safety island (chapter 13): outputs A and B, Quench and its lock, the eye-energy accountant, motion supervision,
the protective field, test pulses, STOP and RESTART, and commissioning. -/

namespace Sys2Proof.Machine

/-! ## The safety set (R395 to R397) -/

/-- The value of element `e` of a parameter in `n` little-endian bytes. -/
def Dev.parBytes (d : Dev) (p : Param) : List Byte := (List.range p.elems).flatMap fun e => leBytes p.esize (d.par p.index e)

/-- The mirrored parameters of the safety image, in its order (R395). -/
def mirroredOrder : List Nat :=
  [P.slot_seg_rows, P.slot_frame_slots, P.slot_positions, P.scan_subcols, P.scan_x_first, P.scan_x_last]

/-- The safety image (R397). -/
def Dev.safetyImage (d : Dev) : List Byte :=
  let body := (paramsSafe ++ paramsSafe1).flatMap d.parBytes ++ (mirroredOrder.filterMap param?).flatMap d.parBytes
  leBytes 4 0x46534B57 ++ leBytes 2 1 ++ leBytes 2 2 ++ leBytes 4 (16 + body.length) ++ zeros 4 ++ body

/-- `SAFE_CHECK_LIVE` (R397). -/
def Dev.checkLive (d : Dev) : Nat := crc32 d.safetyImage

/-! ## Limits in force (R371, R376, R377) -/

/-- The device is commissioned. -/
def Dev.commissioned (d : Dev) : Bool := d.flag F.SAFE_STAT_COMMISSIONED

/-- The safety window L, slots. -/
def Dev.winSlots (d : Dev) : Nat := if d.commissioned then max 1 (d.par P.safe_win_slots 0) else 31250

/-- The budget of a direction in 4 nJ units. -/
def Dev.eBudget (d : Dev) : Nat := if d.commissioned then d.par P.safe_e_dir_nj 0 / 4 else 250

/-- The energy of a segment for one shot, nJ. -/
def Dev.eSegMax (d : Dev) : Nat := if d.commissioned then d.par P.safe_e_seg_nj 0 else 250

/-- SLOPE_S and ZERO_S of a segment. -/
def Dev.segLimit (d : Dev) (k : Nat) : Nat × Nat :=
  if d.commissioned then (d.par P.safe_seg_slope k, d.par P.safe_seg_zero k)
  else (ceilDiv (bits (d.par P.emit_cal k) 0 16 * 5) 4, bits (d.par P.emit_cal k) 16 16)

/-- The soft limit of the scheduler, 4 nJ units (R376). -/
def Dev.eSoft (d : Dev) : Nat := 4 * d.eBudget / 5

/-- The window of a slot opens: accounts start again when the window number changes (R371, R372). -/
def Dev.windowAt (d : Dev) (slot : Nat) : Dev :=
  let w := slot / d.winSlots
  if w = d.safe.window then d else { d with safe := { d.safe with window := w, accounts := [] } }

/-- `SAFETY_WINDOW_BOUNDARY` (R371): at the coming slot boundary. -/
def execSafetyWindowBoundary (s : State) : Host.Outcome State Fault Refusal :=
  .next (s.onDev fun _ d => if d.locked then d.windowAt (d.slotNo + 1) else d)

/-! ## Switches (R365, R388, R390) -/

/-- A switch. -/
def Dev.switch (d : Dev) (i : Nat) : SafeSwitch := d.safe.switches.getD i {}

/-- Change a switch, with the bits of `SAFE_IN` that show it. -/
def Dev.setSwitch (d : Dev) (i : Nat) (x : SafeSwitch) : Dev :=
  let d := { d with safe := { d.safe with switches := setAt d.safe.switches i x } }
  (d.setBit Reg.SAFE_IN (8 + i) x.gate).setBit Reg.SAFE_IN (4 + i) x.fb

/-- Command a gate: a readback that followed the command follows it on. -/
def Dev.setGate (d : Dev) (i : Nat) (on : Bool) : Dev :=
  let x := d.switch i
  d.setSwitch i { x with gate := on, fb := if x.fb == x.gate then on else x.fb }

/-- Both gates of an output; tests of it end or are forgotten when it goes off. -/
def Dev.setPair2 (d : Dev) (b on : Bool) : Dev :=
  let i := if b then 2 else 0
  let d := (d.setGate i on).setGate (i + 1) on
  if on then d
  else (d.setSwitch i { d.switch i with due := false }).setSwitch (i + 1) { d.switch (i + 1) with due := false }

/-- The test timers of an output start, half an interval apart (R366, R388). -/
def Dev.startTimers (d : Dev) (b : Bool) : Dev :=
  let i := if b then 2 else 0
  let ms := d.par (if b then P.safe_b_test_ms else P.safe_a_test_ms) 0
  (d.setSwitch i { d.switch i with since := 0, due := false, testing := false }).setSwitch (i + 1)
    { d.switch (i + 1) with since := 50 * ms, due := false, testing := false }

/-! ## Output states (R366, R367, R381) -/

/-- OFF_LOCK, READY, ON and TEST of output A. -/
def Dev.aState (d : Dev) : Nat := d.fld F.SAFE_STAT_A_STATE

/-- The state of output B. -/
def Dev.bState (d : Dev) : Nat := d.fld F.SAFE_STAT_B_STATE

/-- Output A is ON, TEST included. -/
def Dev.aOn (d : Dev) : Bool := d.aState == 2 || d.aState == 3

/-- Output B is ON, TEST included. -/
def Dev.bOn (d : Dev) : Bool := d.bState == 4 || d.bState == 5

/-- Quench lock is set. -/
def Dev.quenchLock (d : Dev) : Bool := d.flag F.SAFE_STAT_LOCK

/-- Both STOP inputs are high. -/
def Dev.stopsHigh (d : Dev) : Bool := d.safe.stop1.high && d.safe.stop2.high

/-- Output B enters a state, with its gates and events (R381, R403). -/
def Dev.setB (d : Dev) (v : Nat) : Dev :=
  let was := d.bOn
  let on := v == 4 || v == 5
  let d := d.setFld F.SAFE_STAT_B_STATE v
  if was == on then d
  else if on then (((d.setPair2 true true).startTimers true).sticky Reg.SAFE_EVT 5 Ev.fieldOn)
  else (d.setPair2 true false).sticky Reg.SAFE_EVT 4 Ev.fieldOff

/-- Output B goes to OFF_FIELD: clear frames count from here (R384 to R386). -/
def Dev.fieldOff (d : Dev) : Dev :=
  let d := d.setB 2
  { d with safe := { d.safe with clearFrames := 0 } }

/-- Output A follows ARM, the lock and the STOP inputs; DISARM ends the wait for a turnaround (R366, R367). -/
def Dev.outputA (d : Dev) : Dev :=
  let d := { d with safe := { d.safe with waitTurn := d.safe.waitTurn && d.scan.arm } }
  if !d.safe.running || d.quenchLock then d
  else
    let d := if d.aState = 0 then d.setFld F.SAFE_STAT_A_STATE 1 else d
    if d.aState = 1 ∧ d.scan.arm = true ∧ d.stopsHigh = true ∧ d.safe.waitTurn = false then
      let d := ((d.setFld F.SAFE_STAT_A_STATE 2).setPair2 false true).startTimers false
      { d with safe := { d.safe with still := 0, outTravel := 0, overCur := 0, optBad := 0 } }.setFld F.SAFE_MOTION_STATE 1
    else if d.aOn && !d.scan.arm then
      (((d.setFld F.SAFE_STAT_A_STATE 1).setPair2 false false)).setFld F.SAFE_MOTION_STATE 0
    else d

/-- Output B follows whether function B is in use (R380). -/
def Dev.outputB (d : Dev) : Dev :=
  if !d.safe.running then d
  else if !d.fnB then (if d.bState = 0 then d else d.setB 0)
  else if d.quenchLock then (if d.bState = 1 then d else d.setB 1)
  else if d.bState = 0 ∨ d.bState = 1 then d.fieldOff
  else d

/-! ## Quench (R368 to R370) -/

/-- The lowest cause of a mask. -/
def firstCause (m : Nat) : Nat := ((List.range 13).find? (bitAt m)).getD 31

/-- EV_QUENCH with its details (R608), as its flag changes from 0 to 1. -/
def Dev.quenchEvent (d : Dev) : Dev :=
  if d.bit Reg.SAFE_EVT 0 then d
  else (d.setBit Reg.SAFE_EVT 0 true).raise Ev.quench (d.reg Reg.SAFE_CAUSE).toNat (d.reg Reg.SAFE_STAT).toNat

/-- Quench lock is set with causes, the first of them recorded where none stands (R368, R369); a Quench that sets it counts, a lock set
again from its record does not (R401). -/
def Dev.lockWith (d : Dev) (causes first : Nat) (counts : Bool) : Dev :=
  let was := d.quenchLock
  let d := d.setFld F.SAFE_CAUSE_CAUSE (d.fld F.SAFE_CAUSE_CAUSE ||| causes)
  if was then d
  else
    let d := ((d.setFld F.SAFE_CAUSE_FIRST first).setFlag F.SAFE_STAT_LOCK true).putWide Reg.SAFE_LOCK_TIME_LO d.now
    (if counts then d.bump C.SAFE_QUENCH_CNT else d).setFld F.SAFE_STAT_A_STATE 0

/-- A Quench at its instant: the lock, both outputs off, and the chain E latch suppressed from the next slot boundary on (R368). -/
def Dev.quenchNow (d : Dev) (causes : Nat) : Dev :=
  let was := d.quenchLock
  let d := (d.lockWith causes (firstCause causes) true).setPair2 false false
  let d := if bitAt causes Cause.motion then (d.setFld F.SAFE_MOTION_STATE 2).sticky Reg.SAFE_EVT 3 Ev.motionLost
    else if d.fld F.SAFE_MOTION_STATE = 1 then d.setFld F.SAFE_MOTION_STATE 0 else d
  let d := { d with safe := { d.safe with latchOff := true } }.outputB
  if was then d else d.quenchEvent

/-! ## The engine cycle (R361 to R363) -/

/-- One engine cycle: the conditions detected act, and the outputs follow. -/
def Dev.safetyCycle (d : Dev) (disagree clockBad configBad : Bool) : Dev :=
  let d := { d with safe := { d.safe with switches := d.safe.switches.map fun (x : SafeSwitch) => { x with since := x.since + 1 } } }
  if !d.safe.running then d
  else
    let d := ((d.persist Cause.disagree disagree).persist Cause.clock clockBad).persist Cause.config configBad
    let seen := d.safe.detected ||| (if disagree then 2 ^ Cause.disagree else 0) ||| (if clockBad then 2 ^ Cause.clock else 0)
      ||| (if configBad then 2 ^ Cause.config else 0)
    let d := { d with safe := { d.safe with detected := 0 } }
    let d := if seen = 0 then d else d.quenchNow seen
    d.outputA.outputB

/-- `SAFETY_CYCLE` (R361): whether the two engines disagree, whether a CLOCK fault of R363 is seen, and whether the CRC of the safety
set fails. -/
def execSafetyCycle (disagree clockBad configBad : Bool) (s : State) : Host.Outcome State Fault Refusal :=
  .next (s.onDev fun _ d => d.safetyCycle disagree clockBad configBad)

/-! ## The accountant (R371 to R375) -/

/-- Units charged to each direction of a segment, and whether its energy passes the limit of one segment. -/
def Dev.segCharge (d : Dev) (k code n : Nat) : Nat × Bool :=
  let l := d.segLimit k
  let e := n * (code - l.2) * l.1
  (ceilDiv e 262144, decide (65536 * d.eSegMax < e))

/-- The columns charged for an X position (R374). -/
def Dev.chargedColumns (d : Dev) (x : Int) : List Nat :=
  let n := d.columns
  let g : Int := d.par P.safe_guard 0
  let sg : Int := if d.parI P.scan_x_first 0 ≤ d.parI P.scan_x_last 0 then 1 else -1
  (List.range n).filter fun c =>
    (c == 0 || decide (-g ≤ sg * (x - d.colEdge n c))) && (c + 1 == n || decide (sg * (x - d.colEdge n (c + 1)) ≤ g))

/-- The rows that a segment lights. -/
def Dev.segRows (d : Dev) (k : Nat) : List Nat := [2 * d.par P.slot_seg_rows k, 2 * d.par P.slot_seg_rows k + 1]

/-- The account of a direction for the window of a slot. -/
def Dev.account (d : Dev) (slot dir : Nat) : Nat :=
  if slot / d.winSlots = d.safe.window then sget (fun _ => 0) dir d.safe.accounts else 0

/-- Charges summed by direction. -/
def sumCharges (l : List (Nat × Nat)) : Sparse Nat :=
  l.foldl (fun m x => sset (fun _ => 0) x.1 (sget (fun _ => 0) x.1 m + x.2) m) []

/-- The accountant decides the shot of the frame shifted for the next slot (R373 to R375). -/
def Dev.accountant (d : Dev) : Dev :=
  if d.safe.decided then d
  else
    match d.blw.e.shifted with
    | none => d
    | some f =>
      let segs := (List.range 256).filter fun k => f.units.contains (k / 16) && d.blw.e.code f.page k != 0
      let cols := d.chargedColumns (d.safe.xs.headD 0)
      let qs := segs.map fun k => (k, d.segCharge k (d.blw.e.code f.page k) f.pulses)
      let charges := sumCharges (qs.flatMap fun x => (d.segRows x.1).flatMap fun r => cols.map fun c => (r * 256 + c, x.2.1))
      let veto := qs.any (fun x => x.2.2) || charges.any fun x => decide (d.eBudget < d.account f.slot x.1 + x.2)
      let d := { d with safe := { d.safe with decided := true, charges := if veto then [] else charges } }
      if veto then ((d.bump C.SAFE_VETO_CNT).sticky Reg.SAFE_EVT 2 Ev.energyVeto).quenchNow (2 ^ Cause.energy) else d

/-- `ACCOUNTANT_DECISION` (R375). -/
def execAccountantDecision (s : State) : Host.Outcome State Fault Refusal := .next (s.onDev fun _ d => d.accountant)

/-- A commit charges its shot; a shot that is not committed is not charged (R375). -/
def Dev.chargeCommit (d : Dev) (committed : Bool) : Dev :=
  let acc := if committed then
      d.safe.charges.foldl (fun m x => sset (fun _ => 0) x.1 (sget (fun _ => 0) x.1 m + x.2) m) d.safe.accounts
    else d.safe.accounts
  { d with safe := { d.safe with accounts := acc, charges := [], decided := false } }

/-! ## Motion (R378, R379) -/

/-- Consecutive samples of 4 µs with a condition. -/
def runLen (n : Nat) (on : Bool) : Nat := if on then n + 1 else 0

/-- One sample of the island's own converters. -/
def Dev.motionSample (d : Dev) (x opt cur : Int) : Dev :=
  let s := d.safe
  let xs := (x :: s.xs).take 26
  let fast : Bool := match xs[25]? with
    | some x0 => decide (d.par P.safe_v_min 0 ≤ absI (x - x0) * 10)
    | none => false
  let still := runLen s.still (!fast)
  let out := runLen s.outTravel (decide (x < d.parI P.safe_travel_lo 0 ∨ d.parI P.safe_travel_hi 0 < x))
  let above := runLen s.overCur (decide (d.par P.safe_i_max 0 < absI cur))
  let off := absI (4096 * x - d.parI P.safe_opt_gain 0 * opt - 4096 * d.parI P.safe_opt_offset 0)
  let bad := runLen s.optBad (decide (4096 * d.par P.safe_opt_tol 0 < off))
  let d := { d with safe := { s with xs := xs, still := still, outTravel := out, overCur := above, optBad := bad } }
  let d := d.setFld F.SAFE_MOTION_STILL (min 65535 (still * 4 / 10))
  if d.aOn && decide (d.par P.safe_still_max_us 0 < still * 4 ∨ 100 < (out - 1) * 4 ∨ 1000 < (above - 1) * 4 ∨ 1000 < (bad - 1) * 4) then
    d.detect Cause.motion
  else d

/-- `SAFETY_MOTION_SAMPLE` (R379). -/
def execSafetyMotionSample (x opt current : BitVec 16) (s : State) : Host.Outcome State Fault Refusal :=
  .next (s.onDev fun _ d => d.motionSample x.toInt opt.toInt current.toInt)

/-! ## STOP and RESTART (R392 to R394) -/

/-- A STOP channel takes a level. -/
def Dev.stopPin (d : Dev) (ch : Nat) (level : Bool) (us : Nat) : Dev :=
  let f (p : SafePin) : SafePin := if level then { p with high := true, rose := us } else { p with high := false, fell := some us }
  let d := if ch = 0 then { d with safe := { d.safe with stop1 := f d.safe.stop1 } } else { d with safe := { d.safe with stop2 := f d.safe.stop2 } }
  let d := d.setBit Reg.SAFE_IN ch (!level)
  if d.safe.stop1.high = d.safe.stop2.high ∧ d.safe.restart1.high = d.safe.restart2.high then d.persist Cause.input false else d

/-- `STOP_INPUT_CHANGE` (R392): the level and the island's time in µs. -/
def execStopInputChange (ch : Fin 2) (level : Bool) (us : Nat) (s : State) : Host.Outcome State Fault Refusal :=
  .next (s.onDev fun _ d => d.stopPin ch.val level us)

/-- `STOP_FILTER_EXPIRY` (R392). -/
def execStopFilterExpiry (ch : Fin 2) (s : State) : Host.Outcome State Fault Refusal :=
  .next (s.onDev fun _ d => if (if ch = 0 then d.safe.stop1 else d.safe.stop2).high then d else d.detect Cause.stop)

/-- `INPUT_DISCREPANCY_TIMEOUT` (R392, R393). -/
def execInputDiscrepancyTimeout (restart : Bool) (s : State) : Host.Outcome State Fault Refusal :=
  .next (s.onDev fun _ d =>
    let differ := if restart then d.safe.restart1.high != d.safe.restart2.high else d.safe.stop1.high != d.safe.stop2.high
    if differ then
      let d := (d.detect Cause.input).persist Cause.input true
      if restart then { d with safe := { d.safe with pressBad := true } } else d
    else d)

/-- A switch's readback matches its gate, or a test pulse excuses it (R390, R393). -/
def SafeSwitch.ok (x : SafeSwitch) : Bool := x.testing || x.fb == x.gate

/-- Every active cause has cleared (R393): STOP high, readbacks matching, no persisting condition, the PLL locked and chain E without
fault. -/
def Dev.causesClear (d : Dev) : Bool :=
  d.stopsHigh && d.safe.switches.all SafeSwitch.ok && d.safe.active == 0 && d.safe.detected == 0 && d.locked
    && !d.flag F.BLW_STAT_E_FAULT

/-- Quench lock is released (R386, R393). -/
def Dev.releaseLock (d : Dev) : Dev :=
  let d := (d.put Reg.SAFE_CAUSE 0x001F0000#32).setFlag F.SAFE_STAT_LOCK false
  let d := (d.setFld F.SAFE_STAT_A_STATE 1).setFld F.SAFE_MOTION_STATE 0
  let d := { d with safe := { d.safe with waitTurn := d.scan.arm } }
  let d := if d.fnB then d.fieldOff else d
  (d.bump C.SAFE_RESTART_CNT).sticky Reg.SAFE_EVT 1 Ev.safeRelease

/-- A valid press of RESTART takes effect (R393). -/
def Dev.pressed (d : Dev) : Dev :=
  if !d.safe.running then d
  else if d.quenchLock then
    if d.causesClear then d.releaseLock else d.sticky Reg.SAFE_EVT 8 Ev.restartRefused
  else if d.bState = 3 then d.setB 4
  else d

/-- Two times lie within `lim` µs of each other. -/
def within (a b lim : Nat) : Bool := decide (a ≤ b + lim ∧ b ≤ a + lim)

/-- Both channels have returned high: the press meets R393; both were low together for 100 ms, and neither for more than 5 s. -/
def SafeSt.validPress (s : SafeSt) : Bool :=
  match s.restart1.fell, s.restart2.fell with
  | some a, some b =>
    !s.pressBad && within a b 50000 && within s.restart1.rose s.restart2.rose 50000
      && decide (max a b + 100000 ≤ min s.restart1.rose s.restart2.rose ∧ s.restart1.rose ≤ a + 5000000 ∧ s.restart2.rose ≤ b + 5000000)
  | _, _ => false

/-- A RESTART channel takes a level. -/
def Dev.restartPin (d : Dev) (ch : Nat) (level : Bool) (us : Nat) : Dev :=
  let s := d.safe
  let idle := s.restart1.high && s.restart2.high
  let s := if idle && !level then
      { s with restart1 := { s.restart1 with fell := none }, restart2 := { s.restart2 with fell := none }, pressBad := false }
    else s
  let p := if ch = 0 then s.restart1 else s.restart2
  let again := !level && p.high && p.fell.isSome
  let p : SafePin := if level then { p with high := true, rose := us } else { p with high := false, fell := some us }
  let s := { s with pressBad := s.pressBad || again }
  let s := if ch = 0 then { s with restart1 := p } else { s with restart2 := p }
  let d := { d with safe := s }.setBit Reg.SAFE_IN (2 + ch) (!level)
  let d := if s.restart1.high = s.restart2.high ∧ s.stop1.high = s.stop2.high then d.persist Cause.input false else d
  if s.restart1.high && s.restart2.high && !idle then
    let held := d.flag F.SAFE_STAT_RESTART_HELD
    let d := d.setFlag F.SAFE_STAT_RESTART_HELD false
    if s.validPress && !held then d.pressed else d
  else d

/-- `RESTART_INPUT_CHANGE` (R393). -/
def execRestartInputChange (ch : Fin 2) (level : Bool) (us : Nat) (s : State) : Host.Outcome State Fault Refusal :=
  .next (s.onDev fun _ d => d.restartPin ch.val level us)

/-- `RESTART_STUCK` (R394): a channel has been low for more than 5 s. -/
def execRestartStuck (s : State) : Host.Outcome State Fault Refusal :=
  .next (s.onDev fun _ d =>
    if d.safe.restart1.high && d.safe.restart2.high then d
    else ({ d with safe := { d.safe with pressBad := true } }.setFlag F.SAFE_STAT_RESTART_HELD true).sticky Reg.SAFE_EVT 7 Ev.restartStuck)

/-! ## Test pulses and readback (R388 to R391) -/

/-- A test pulse of a switch begins: its gate goes off, the output is in TEST. -/
def Dev.beginTest (d : Dev) (i : Nat) : Dev :=
  let d := d.setGate i false
  let d := d.setSwitch i { d.switch i with testing := true, due := false }
  if i < 2 then d.setFld F.SAFE_STAT_A_STATE 3 else d.setFld F.SAFE_STAT_B_STATE 5

/-- The switch of an output that is due and has waited longest. -/
def Dev.dueSwitch (d : Dev) (i : Nat) : Option Nat :=
  let a := d.switch i
  let b := d.switch (i + 1)
  if a.due && (!b.due || decide (b.since ≤ a.since)) then some i else if b.due then some (i + 1) else none

/-- A function-A test is due (R307, R388). -/
def Dev.testADue (d : Dev) : Bool := d.aState == 2 && (d.dueSwitch 0).isSome

/-- The due test of function A begins. -/
def Dev.beginTestA (d : Dev) : Dev :=
  if d.aState = 2 then (match d.dueSwitch 0 with
    | some i => d.beginTest i
    | none => d) else d

/-- `TEST_PULSE_DUE` (R388): function A waits for its turnaround or slot boundary; function B begins at once, one switch at a time. -/
def execTestPulseDue (sw : Fin 4) (s : State) : Host.Outcome State Fault Refusal :=
  .next (s.onDev fun _ d =>
    let on := if sw.val < 2 then d.aOn else d.bOn
    if on && !(d.switch sw.val).testing then
      let d := d.setSwitch sw.val { d.switch sw.val with due := true }
      if 2 ≤ sw.val ∧ d.bState = 4 then d.beginTest sw.val else d
    else d)

/-- A failed or overdue test (R389). -/
def Dev.testFail (d : Dev) : Dev := ((d.detect Cause.test).bump C.SAFE_TEST_FAIL_CNT).sticky Reg.SAFE_EVT 6 Ev.safeTest

/-- A test pulse ends (R388 to R391): after a demand to switch off the gate stays off, and the readback alone decides. -/
def Dev.endTest (d : Dev) (i : Nat) (offSeen onSeen : Bool) : Dev :=
  let x := d.switch i
  if !x.testing then d
  else
    let on := if i < 2 then d.aOn else d.bOn
    let d := d.setSwitch i { x with testing := false }
    let pass := offSeen && (!on || onSeen)
    let d := if on then
        let d := d.setGate i true
        let d := if i < 2 then d.setFld F.SAFE_STAT_A_STATE 2 else d.setFld F.SAFE_STAT_B_STATE 4
        let y := d.switch (if i < 2 then 1 - i else 5 - i)
        if 2 ≤ i ∧ y.due = true then d.beginTest (5 - i) else d
      else d
    if pass then d.setSwitch i { d.switch i with since := 0 } else d.testFail

/-- `TEST_PULSE_END` (R388): whether the readback read off and read on again within its deadlines. -/
def execTestPulseEnd (sw : Fin 4) (offSeen onSeen : Bool) (s : State) : Host.Outcome State Fault Refusal :=
  .next (s.onDev fun _ d => d.endTest sw.val offSeen onSeen)

/-- `TEST_OVERDUE` (R389). -/
def execTestOverdue (sw : Fin 4) (s : State) : Host.Outcome State Fault Refusal :=
  .next (s.onDev fun _ d => if (if sw.val < 2 then d.aOn else d.bOn) then d.testFail else d)

/-- `READBACK_MISMATCH` (R390). -/
def execReadbackMismatch (sw : Fin 4) (s : State) : Host.Outcome State Fault Refusal :=
  .next (s.onDev fun _ d =>
    let x := d.switch sw.val
    if x.testing then d else (d.setSwitch sw.val { x with fb := !x.gate }).detect Cause.readback)

/-! ## The protective field (R380 to R386) -/

/-- The clear range of a direction, cm; 0 where it is not monitored. The positions of a column share it (R293, R380). -/
def Dev.clearRange (d : Dev) (row pos : Nat) : Nat := d.par P.safe_field (sodIndex row (pos / 4))

/-- The number of position `i` of a row, in rising order (R293). -/
def Dev.posAt (d : Dev) (i : Nat) : Nat :=
  let s := max 1 (d.par P.scan_subcols 0)
  i / s * 4 + i % s * (4 / s)

/-- A pixel result infringes (R383). -/
def Dev.infringes (d : Dev) (c : PixelCopy) : Bool :=
  let z := d.clearRange c.row c.pos
  z != 0 && (c.nFired == 0 || c.ovf || c.echoes.any fun (e : Nat × Nat × Nat) =>
    bitAt (d.par P.safe_b_class_mask 0) e.2.1 && decide (d.par P.safe_b_conf_min 0 ≤ e.2.2) && decide (0 < e.1 ∧ e.1 ≤ 40 * z))

/-- The island receives the next pixel-result copy; one with a CRC error counts as missing (R382). -/
def Dev.copyReceived (d : Dev) (ok : Bool) : Dev :=
  match d.safe.copies with
  | [] => d
  | c :: rest =>
    let d := { d with safe := { d.safe with copies := rest } }
    if ok && d.fnB then
      { d with safe := { d.safe with results := sput (1024 * c.row + c.pos) (d.infringes c) d.safe.results,
                                     batch := if d.safe.batch.contains c.row then d.safe.batch else d.safe.batch ++ [c.row] } }
    else d

/-- `PIXEL_COPY_RECEIVED` (R382). -/
def execPixelCopyReceived (crcOk : Bool) (s : State) : Host.Outcome State Fault Refusal :=
  .next (s.onDev fun _ d => d.copyReceived crcOk)

/-- A position of a row infringes; a monitored position without a result does so once the frame has ended (R383). -/
def Dev.posBad (d : Dev) (row : Nat) (ended : Bool) (pos : Nat) : Bool :=
  match slook (1024 * row + pos) d.safe.results with
  | some b => b
  | none => ended && d.clearRange row pos != 0

/-- The infringing runs of a row (R384). -/
def Dev.rowRuns (d : Dev) (ended : Bool) (row : Nat) : Nat :=
  let n := d.par P.slot_positions 0
  let m := d.par P.safe_b_m 0
  ((List.range (n + 1 - m)).filter fun p =>
    decide (d.par P.safe_b_n 0 ≤ ((List.range m).filter fun k => d.posBad row ended (d.posAt (p + k))).length)).length

/-- An infringing run takes output B to OFF_FIELD from ON, OFF_INTERLOCK or TEST (R384). -/
def Dev.infringe (d : Dev) : Dev :=
  let d := { d with safe := { d.safe with infringed := true } }
  if 3 ≤ d.bState then d.fieldOff.bump C.SAFE_INFR_CNT else d

/-- `FIELD_BATCH_CLOSE` (R384). -/
def execFieldBatchClose (s : State) : Host.Outcome State Fault Refusal :=
  .next (s.onDev fun _ d =>
    if d.fnB then
      let bad := d.safe.batch.any fun r => decide (0 < d.rowRuns false r)
      let d := { d with safe := { d.safe with batch := [] } }
      if bad then d.infringe else d
    else d)

/-- The rows with monitored directions. -/
def Dev.monitoredRows (d : Dev) : List Nat :=
  (List.range 512).filter fun r => d.cfg.live.any fun e =>
    e.1 / 2 ^ 20 == P.safe_field && e.1 % 2 ^ 20 / 256 == r && e.2 != 0

/-- Infringing runs of the frame that ends, and its missing pixels (R385). -/
def Dev.fieldCounts (d : Dev) : Nat × Nat :=
  let n := d.par P.slot_positions 0
  let rows := d.monitoredRows
  (rows.foldl (fun (a : Nat) r => a + d.rowRuns true r) 0,
   rows.foldl (fun (a : Nat) r => a + ((List.range n).filter fun p =>
      d.clearRange r (d.posAt p) != 0 && (slook (1024 * r + d.posAt p) d.safe.results).isNone).length) 0)

/-- Output B leaves OFF_FIELD after clear frames (R386). -/
def Dev.fieldClear (d : Dev) : Dev :=
  if d.bState != 2 || d.quenchLock then d
  else if d.par P.safe_b_restart 0 == 0 then d.setB 3
  else if d.par P.safe_b_clear_frames 0 ≤ d.safe.clearFrames then d.setB 4 else d

/-- What is left of a frame that a hold, a stop or a fault cut short is dropped as the next frame begins. -/
def Dev.fieldFresh (d : Dev) : Dev := { d with safe := { d.safe with results := [], batch := [], infringed := false, clearFrames := 0 } }

/-- The frame that ends at a frame boundary is checked (R385, R386). -/
def Dev.fieldFrame (d : Dev) : Dev :=
  if !d.fnB then { d with safe := { d.safe with results := [], batch := [], infringed := false } }
  else
    let x := d.fieldCounts
    let d := d.put Reg.SAFE_B_FRAME (d.reg Reg.TIME_FRAME)
    let d := (d.setFld F.SAFE_B_LAST_RUNS (min 65535 x.1)).setFld F.SAFE_B_LAST_MISSING (min 65535 x.2)
    let d := if 0 < x.1 then d.infringe else d
    let clear := x.2 == 0 && !d.safe.infringed
    let n := if clear then d.safe.clearFrames + 1 else 0
    let d := { d with safe := { d.safe with results := [], batch := [], infringed := false, clearFrames := n } }
    if clear then d.fieldClear else d

/-- `FRAME_MISSING_TIMEOUT` (R385). -/
def execFrameMissingTimeout (s : State) : Host.Outcome State Fault Refusal :=
  .next (s.onDev fun _ d => if d.fnB && decide (3 ≤ d.bState) then d.fieldOff else d)

/-! ## Frame and turnaround boundaries of the outputs (R367, R388) -/

/-- At a frame boundary a Quench's suppression ends, once the lock is clear and both function-A readbacks confirm (R367). -/
def Dev.liftLatch (d : Dev) : Dev :=
  if d.safe.latchOff && !d.quenchLock && d.aOn && (d.switch 0).fb && (d.switch 1).fb then { d with safe := { d.safe with latchOff := false } }
  else d

/-- At the start of a turnaround output A goes on after a release under ARM (R367). -/
def Dev.safetyTurn (d : Dev) : Dev := Dev.outputA { d with safe := { d.safe with waitTurn := false } }

/-- At slot 0 of a turnaround a test of function A that is due takes its reservation and begins (R307, R388). -/
def Dev.reserveTest (d : Dev) : Dev := (d.setFlag F.SCN_STAT_TEST_A d.testADue).beginTestA

/-! ## Restore and commissioning (R398 to R400) -/

/-- The island checks the restored safety set: `committed` is the check value stored with it, none where no set is committed; `valid`
says that the restored set is the one committed (R400). A lock recorded at the reset is set again (R578). -/
def Dev.safetyStart (d : Dev) : Dev :=
  let d := { d with safe := { d.safe with running := true, window := d.slotNo / d.winSlots } }
  let had := d.store.safeCheck.isSome && !d.store.safeReleased
  let good := had && d.store.safeCheck == some d.checkLive
  let d := if good then (d.setFlag F.SAFE_STAT_COMMISSIONED true).put Reg.SAFE_CHECK (BitVec.ofNat 32 (d.store.safeCheck.getD 0)) else d
  let d := if had && !good then d.sticky Reg.SAFE_EVT 10 Ev.safeCfgInvalid else d
  let power := good && d.par P.safe_start_mode 0 == 0
  let mask := if power then 2 ^ Cause.powerup else 0
  let d := match d.rst.lockRecord with
    | some (causes, first) => (d.lockWith (causes ||| mask) first power).quenchEvent
    | none => if power then (d.lockWith mask Cause.powerup true).quenchEvent else d
  let d := { d with rst := { d.rst with lockRecord := none }, safe := { d.safe with latchOff := d.quenchLock } }
  d.outputA.outputB

/-- A safety parameter is out of its range, or a relation of R399 fails. -/
def Dev.safetyInvalid (d : Dev) : Bool :=
  (paramsSafe ++ paramsSafe1).any (fun p =>
    p.index != P.safe_field && (List.range p.elems).any fun e =>
      decide ((if p.lo < 0 then d.parI p.index e else (d.par p.index e : Int)) < p.lo
        ∨ p.hi < (if p.lo < 0 then d.parI p.index e else (d.par p.index e : Int))))
    || decide (d.par P.safe_b_m 0 < d.par P.safe_b_n 0) || decide (d.parI P.safe_travel_hi 0 ≤ d.parI P.safe_travel_lo 0)

/-- `safety.commission` (R398, R399). -/
def bodySafetyCommission (q : Nat) : Body := fun p _ d =>
  refuseIf d.safetyInvalid 0x0404 <| refuseIf (!d.atRest) 0x0402 <| refuseIf d.commissioned 0x0403 <|
  refuseIf (d.storeFull 17 (d.setEntries 17)) 0x0303 <| refuseIf (p.u 0 4 != d.checkLive) 0x0401 <|
    .accept (d.startCommit 17 (some (q, p.tag.toNat)) 0x0702) 0

/-- `SAFETY_COMMISSION` (R398). -/
def execSafetyCommission (c : Cmd) (s : State) : Host.Outcome State Fault Refusal :=
  .next (s.onDev (runCmd 0x0702 c (bodySafetyCommission c.pair.val)))

/-- The safety set has been committed (R398): the check value, COMMISSIONED and Quench lock with cause POWERUP. -/
def Dev.commissionDone (d : Dev) : Dev :=
  let v := d.checkLive
  let d := { d with store := { d.store with safeCheck := some v, safeReleased := false } }.put Reg.SAFE_CHECK (BitVec.ofNat 32 v)
  let d := (d.setFlag F.SAFE_STAT_COMMISSIONED true).windowAt d.slotNo
  (d.quenchNow (2 ^ Cause.powerup)).sticky Reg.SAFE_EVT 9 Ev.safeCommissioned

/-- `safety.release` (R398, R399). -/
def bodySafetyRelease (q : Nat) : Body := fun p _ d =>
  refuseIf (!d.atRest) 0x0402 <| refuseIf (!d.commissioned) 0x0405 <| refuseIf (d.storeFull 17 []) 0x0303 <|
    refuseIf (p.u 0 4 != (d.reg Reg.SAFE_CHECK).toNat) 0x0401 <|
    .accept ({ d with cfg := { d.cfg with commits := d.cfg.commits ++ [Commit.mk 17 [] (some (q, p.tag.toNat)) 0x0703] } }.setFlag
      F.GLB_CFG_STAT_COMMIT_BUSY true) 0

/-- `SAFETY_RELEASE` (R398). -/
def execSafetyRelease (c : Cmd) (s : State) : Host.Outcome State Fault Refusal :=
  .next (s.onDev (runCmd 0x0703 c (bodySafetyRelease c.pair.val)))

/-- The release is stored: the built-in limits return, and output B is OFF_UNUSED (R377, R398). -/
def Dev.releaseDone (d : Dev) : Dev :=
  let d := { d with store := { d.store with safeReleased := true } }.setFlag F.SAFE_STAT_COMMISSIONED false
  (d.windowAt d.slotNo).outputB

/-- `safety.status`. -/
def bodySafetyStatus : Body := fun _ _ d =>
  .ok d (leBytes 4 (withField (withField (d.reg Reg.SAFE_STAT) 11 1 (d.par P.safe_b_restart 0)) 12 1 (d.par P.safe_start_mode 0)).toNat
    ++ leBytes 4 (d.reg Reg.SAFE_CAUSE).toNat ++ leBytes 4 (d.reg Reg.SAFE_CHECK).toNat ++ leBytes 4 d.checkLive
    ++ leBytes 8 (d.wide64 Reg.SAFE_LOCK_TIME_LO))

/-- `SAFETY_STATUS` (R466). -/
def execSafetyStatus (c : Cmd) (s : State) : Host.Outcome State Fault Refusal := .next (s.onDev (runCmd 0x0701 c bodySafetyStatus))

/-- `safety.field_load` (R466): the entries are read when the command completes. -/
def bodySafetyFieldLoad : Body := fun p _ d =>
  refuseIf (decide (131072 < p.u 0 4 + p.u 4 4)) 0x0104 <| refuseIf (!inDevMem (p.u 8 8) (2 * p.u 4 4)) 0x0105 <|
    refuseIf d.commissioned 0x0403 <| .accept d 0

/-- `SAFETY_FIELD_LOAD` (R466). -/
def execSafetyFieldLoad (c : Cmd) (s : State) : Host.Outcome State Fault Refusal := .next (s.onDev (runCmd 0x0704 c bodySafetyFieldLoad))

/-- The entries are loaded, and the command completes with `SAFE_CHECK_LIVE`. -/
def Dev.fieldLoadDone (d : Dev) (mem : List Host.Cell) (r : Running) : Dev :=
  if d.commissioned then d.finish r 0x0403 []
  else
    let first := r.pkt.u 0 4
    let addr := r.pkt.u 8 8
    let d := (List.range (r.pkt.u 4 4)).foldl (fun (d : Dev) i => d.setPar P.safe_field (first + i) (memLE mem (addr + 2 * i) 2)) d
    d.finish r 0x0000 (leBytes 4 d.checkLive)

end Sys2Proof.Machine
end

