-- ==== Sys2Proof/Machine/Hooks.lean ====
section
/-! DEFINITION. Writes of BAR0 registers (chapter 22): which fields take the value, and what each register's write brings about.
Queue pairs (R435), the declaration of failure (R455) and the event ring (R609) are here too. -/

namespace Sys2Proof.Machine

/-! ## Ending an outstanding command early (R449, R455) -/

/-- The work of an abortable command ends: bytes already written stay as written. -/
def Dev.stopWork (d : Dev) (r : Running) : Dev :=
  let op := r.pkt.opcode.toNat
  if op = 0x0104 then { d with time := { d.time with fmeas := none } }.setFlag F.TIME_STAT_FMEAS_BUSY false
  else if op = 0x0403 then { d with bur := { d.bur with rangeZero := none } }
  else if op = 0x0406 then { d with taps := { d.taps with cal := none } }.setFlag F.TAP_STAT_CAL_BUSY false
  else if op = 0x0506 then { d with turf := { d.turf with dump := none } }.setFlag F.TURF_STAT_DUMP_BUSY false
  else if op = 0x0901 then d.scanFree.closeScrub 2 0x0206 []
  else if op = 0x0904 then d.setFlag F.MEM_STAT_WIPE_BUSY false
  else d

/-- The command is marked abortable in its table. -/
def Running.abortable (r : Running) : Bool := ((opForm? r.pkt.opcode.toNat).map (·.abortable)).getD false

/-- The reply of an outstanding command is discarded (R429, R455). -/
def Dev.muteAll (d : Dev) : Dev :=
  { d with cmd := { d.cmd with running := d.cmd.running.map fun r => { r with mute := true } } }

/-- The declared state is entered (R455). -/
def Dev.declare (d : Dev) : Dev :=
  let d : Dev := { d with blw := { d.blw with stopReq := true } }
  let d := if d.scanState = stRunning then { d with scan := { d.scan with holdNext := true } } else d
  let d := d.muteAll
  let d := (d.cmd.running.filter Running.abortable).foldl (fun (d : Dev) r => (d.stopWork r).finish r 0x0206 []) d
  ((d.setFlag F.CMDQ_STAT_DECLARED true).bump C.CMDQ_DECL_CNT).raise Ev.hostDeclared

/-- A write of `CMDQ_DECLARE`: any other value is ignored. -/
def Dev.writeDeclare (d : Dev) (v : Word) : Dev := if v = 0x4641494C#32 then d.declare else d

/-- CMDQ_DECLARE (R455). -/
def execCmdqDeclare (value : Word) (s : State) : Host.Outcome State Fault Refusal := .next (s.onBar fun _ d => d.writeDeclare value)

/-! ## Queue pairs (R435) -/

/-- Queue pairs may lie in host memory (R424). -/
def Dev.hostQueues (d : Dev) : Bool := if d.flag F.GLB_HOST_MODE then d.host.busMaster else d.host.cacheEnable

/-- The checks of an enable. -/
def Dev.queueOk (d : Dev) (q : Nat) : Bool :=
  d.flag F.CMDQ_STAT_READY && (!d.inHost q ||
    (d.wide64 (Reg.CMDQ_Q_SQ_BASE_LO q) % 4096 == 0 && d.wide64 (Reg.CMDQ_Q_CQ_BASE_LO q) % 4096 == 0
      && decide (4 ≤ d.fld (F.CMDQ_Q_CTL_SQ_LOG2 q) ∧ d.fld (F.CMDQ_Q_CTL_SQ_LOG2 q) ≤ 12)
      && decide (d.fld (F.CMDQ_Q_CTL_SQ_LOG2 q) ≤ d.fld (F.CMDQ_Q_CTL_CQ_LOG2 q) ∧ d.fld (F.CMDQ_Q_CTL_CQ_LOG2 q) ≤ 13)
      && d.hostQueues))

/-- EN goes from 0 to 1: the pair starts, or CFG_ERR is set. -/
def Dev.enableQueue (d : Dev) (q : Nat) : Dev :=
  if d.queueOk q then
    let d := (d.setFlag (F.CMDQ_Q_CTL_EN q) true).setFlag (F.CMDQ_Q_STAT_CFG_ERR q) false
    let d := (d.setFlag (F.CMDQ_Q_STAT_RUN q) true).setFlag (F.CMDQ_Q_STAT_HALTED q) false
    d.setPair q { d.pair q with sqTail := 0, sqHead := 0, cqTail := 0, cqHead := 0, rung := [], replies := [], silent := false }
  else d.setFlag (F.CMDQ_Q_STAT_CFG_ERR q) true

/-- EN goes from 1 to 0: fetching stops, and what was not fetched is never executed. -/
def Dev.disableQueue (d : Dev) (q : Nat) : Dev :=
  let d := d.setFlag (F.CMDQ_Q_CTL_EN q) false
  (d.setPair q { d.pair q with rung := [] }).recount q

/-! ## Event ring (R609) -/

/-- RING_EN goes from 0 to 1. -/
def Dev.enableEvtRing (d : Dev) : Dev :=
  let b := d.wide64 Reg.EVT_RING_BASE_LO
  if b % 4096 = 0 ∧ inDevMem b (32 * d.evtDepth) = true then
    let d := (d.setFlag F.EVT_CTL_RING_EN true).put Reg.EVT_STAT 1#32
    let d := (d.put Reg.EVT_RING_WR 0#32).put Reg.EVT_RING_RD 0#32
    { d with evt := { d.evt with ovfSaid := false } }
  else d.setFlag F.EVT_STAT_CFG_ERR true

/-- A write of `EVT_CTL`: the holdoff is stored within its limits, and a change of RING_EN starts or stops the ring. -/
def Dev.writeEvtCtl (d : Dev) (v : Word) : Dev :=
  let was := d.flag F.EVT_CTL_RING_EN
  let d := d.setFld F.EVT_CTL_HOLDOFF_US (min 1000 (field v 16 10))
  if bitAt v.toNat 0 && !was then d.enableEvtRing
  else if !bitAt v.toNat 0 && was then
    ((d.setFlag F.EVT_CTL_RING_EN false).setFlag F.EVT_STAT_RUN false).setFlag F.EVT_STAT_FULL false
  else d

/-- EVT_RING_ENABLE (R609). -/
def execEvtRingEnable (value : Word) (s : State) : Host.Outcome State Fault Refusal :=
  .next (s.onBar fun _ d => d.writeEvtCtl (value ||| 1#32))

/-- A host write of `EVT_RING_RD`: it releases records, or is ignored when it moves backwards or past WR (R328, R609). -/
def Dev.writeEvtRd (d : Dev) (v : Word) : Dev :=
  if serialAhead (d.reg Reg.EVT_RING_RD).toNat v.toNat ≤ d.evtUsed then
    let d := d.put Reg.EVT_RING_RD v
    if d.evtUsed < d.evtDepth then
      { d.setFlag F.EVT_STAT_FULL false with evt := { d.evt with ovfSaid := false } }
    else d
  else d.setFlag F.EVT_STAT_RD_ERR true

/-- EVT_RING_RD_WRITE (R609). -/
def execEvtRingRdWrite (value : Word) (s : State) : Host.Outcome State Fault Refusal := .next (s.onBar fun _ d => d.writeEvtRd value)

/-! ## Fields of a write (R620, R622) -/

/-- What one RW field takes of a write: its new value, and whether the write was out of range. -/
def takeField (f : FieldRow) (old v : Nat) : Nat × Bool :=
  match f.rng with
  | .any => (v, false)
  | .keep lo hi => if lo ≤ v ∧ v ≤ hi then (v, false) else (old, true)
  | .clamp lo hi => (clampN lo hi v, false)
  | .clampSigned lo hi => (unsgn f.width (clampI lo hi (sgn f.width v)), false)

/-- The register value after a write of `v`, and how many fields were out of range. -/
def mergeFields (fs : List FieldRow) (old v : Word) : Word × Nat :=
  fs.foldl (fun (x : Word × Nat) f =>
    if f.acc = .rw then
      let r := takeField f (field old f.lo f.width) (field v f.lo f.width)
      (withField x.1 f.lo f.width r.1, x.2 + b2n r.2)
    else x) (old, 0)

/-- The register value after a write of `v`; fields out of range are counted. -/
def Dev.merge (d : Dev) (a : Nat) (v : Word) : Word × Dev :=
  match regRow? a with
  | none => (d.reg a, d)
  | some r =>
    let m := mergeFields r.fields (d.reg a) v
    (m.1, if m.2 = 0 then d else d.bumpBy C.GLB_BAD_VALUE_CNT m.2)

/-! ## What a write brings about -/

/-- `CMDQ_Q_CTL`: placement and depths ignore a write while EN is 1. -/
def Dev.writeQueueCtl (d : Dev) (q : Nat) (v : Word) : Dev :=
  if d.flag (F.CMDQ_Q_CTL_EN q) then
    if bitAt v.toNat 0 then d else d.disableQueue q
  else
    let m := d.merge (Reg.CMDQ_Q_CTL q) (withField v 0 1 0)
    let d := m.2.put (Reg.CMDQ_Q_CTL q) m.1
    if bitAt v.toNat 0 then d.enableQueue q else d

/-- QUEUE_ENABLE (R435). -/
def execQueueEnable (pair : Fin 16) (value : Word) (s : State) : Host.Outcome State Fault Refusal :=
  .next (s.onBar fun _ d => d.writeQueueCtl pair.val (value ||| 1#32))

/-- QUEUE_DISABLE (R435). -/
def execQueueDisable (pair : Fin 16) (value : Word) (s : State) : Host.Outcome State Fault Refusal :=
  .next (s.onBar fun _ d => d.writeQueueCtl pair.val (value &&& 0xFFFFFFFE#32))

/-- `SLICE_CH_CFG`: LO stays enabled while MID or HI is, and the flag says so (R73). -/
def Dev.writeChCfg (d : Dev) (a : Nat) (v : Word) : Dev :=
  let s := (a - 0x080000) / 0x1000
  let c := (a % 0x1000 - 0x100) / 16
  if !bitAt v.toNat 3 && (bitAt v.toNat 4 || bitAt v.toNat 5) then
    (d.mark (Reg.SLICE_CLAMP_STAT s) (8 + c)).putHeld a (withField v 3 1 1)
  else d.putHeld a v

/-- `BLW_CTL`: an E_CLK that breaks R170 keeps its value and is counted; the enables start and stop the chains (R172, R175). -/
def Dev.writeBlwCtl (d : Dev) (v : Word) : Dev :=
  let bad := !frameFits (d.par P.blw_e_drivers 0) (field v 2 2)
  let v1 := if bad then withField v 2 2 (d.fld F.BLW_CTL_E_CLK) else v
  let d := if bad then d.bump C.GLB_BAD_VALUE_CNT else d
  let d := d.put Reg.BLW_CTL (withField v1 0 2 (field (d.reg Reg.BLW_CTL) 0 2))
  let d := if bitAt v.toNat 0 then d.chainEnable false else d.chainDisable false
  if bitAt v.toNat 1 then d.chainEnable true else d.chainDisable true

/-- `GLB_APERTURE`: an aperture that would leave device memory is ignored (R423). -/
def Dev.writeAperture (d : Dev) (v : Word) : Dev :=
  let b := field v 0 8
  if 2 ^ 28 * (b + 1) ≤ devMemSize then (d.put Reg.GLB_APERTURE (BitVec.ofNat 32 b)).setFlag F.GLB_HOST_APERTURE_ERR false
  else d.setFlag F.GLB_HOST_APERTURE_ERR true

/-- APERTURE_WRITE (R423). -/
def execApertureWrite (value : Word) (s : State) : Host.Outcome State Fault Refusal := .next (s.onBar fun _ d => d.writeAperture value)

/-- A part that may be tested: MANUFACTURE or SERVICE (R544). -/
def Dev.testable (d : Dev) : Bool := d.rst.shadow.lifecycle == 1 || d.rst.shadow.lifecycle == 3

/-- Whether the base, size or control fields of a ring ignore a write now: its enable is 1 (R327, R435, R618). -/
def Dev.ringLocked (d : Dev) (a : Nat) : Bool :=
  ((List.range 3).any fun s => d.flag (F.ING_S_CTL_EN s)
      && (a == Reg.ING_S_BASE_LO s || a == Reg.ING_S_BASE_HI s || a == Reg.ING_S_SIZE s))
    || ((List.range 16).any fun q => d.flag (F.CMDQ_Q_CTL_EN q)
      && (a == Reg.CMDQ_Q_SQ_BASE_LO q || a == Reg.CMDQ_Q_SQ_BASE_HI q || a == Reg.CMDQ_Q_CQ_BASE_LO q || a == Reg.CMDQ_Q_CQ_BASE_HI q))
    || (d.flag F.EVT_CTL_RING_EN && (a == Reg.EVT_RING_BASE_LO || a == Reg.EVT_RING_BASE_HI || a == Reg.EVT_RING_SIZE))

/-- Enables that the write of `TIME_CTL`, `HK_CTL`, `THM_CTL`, `PWR_CTL`, `PEER_CTL` and their like act on, after the fields are merged:
`old` is the value before. -/
def Dev.settleWrite (d : Dev) (a : Nat) (old : Word) : Dev :=
  if a = Reg.TIME_CTL then (if field old 0 2 = d.fld F.TIME_CTL_SOURCE then d else d.sourceSet)
  else if a = Reg.HK_CTL then (if !bitAt old.toNat 0 && d.flag F.HK_CTL_SENSE_EN then d.senseRestart else d)
  else if a = Reg.THM_CTL then d.roundMode
  else if a = Reg.PWR_CTL then d.pwrCtlSet
  else if Reg.HK_CHAIN_CFG 0 ≤ a ∧ a < Reg.HK_CHAIN_CFG 8 then d.chainCfgSet ((a - Reg.HK_CHAIN_CFG 0) / 4) old
  else if Reg.HK_SENSE_CFG 0 ≤ a ∧ a < Reg.HK_SENSE_CFG 32 then d.senseCfgSet ((a - Reg.HK_SENSE_CFG 0) / 8) old
  else d

/-- Registers of a slice whose change waits for its boundary (R81, R82). -/
def heldReg (a : Nat) : Bool :=
  let o := a % 0x1000
  decide (0x080000 ≤ a ∧ a < 0x0C0000) && (o == 0 || o == 0x20 || o == 0x28 || (decide (0x100 ≤ o ∧ o < 0x180) && o % 16 == 4))

/-- Channel configurations. -/
def chCfgReg (a : Nat) : Bool := decide (0x080000 ≤ a ∧ a < 0x0C0000 ∧ 0x100 ≤ a % 0x1000 ∧ a % 0x1000 < 0x180) && a % 16 == 0

/-- The fields of a plain register take a write. -/
def Dev.writeFields (d : Dev) (a : Nat) (v : Word) : Dev :=
  let old := d.reg a
  let m := d.merge a v
  if chCfgReg a then m.2.writeChCfg a m.1
  else if heldReg a then m.2.putHeld a m.1
  else if a = Reg.BLW_CTL then m.2.writeBlwCtl m.1
  else if a = Reg.PEER_CTL then
    let d := m.2.setPeerCtl m.1
    if field old 0 1 = field m.1 0 1 then d else d.retarget
  else if a = Reg.ING_CTL then m.2.refill.put a m.1
  else (m.2.put a m.1).settleWrite a old

/-- A host write of a BAR0 register that is not W1C. Reserved offsets, RO and RC registers ignore it. -/
def Dev.writeReg (d : Dev) (a : Nat) (v : Word) : Dev :=
  match regRow? a with
  | none => d
  | some r =>
    if d.ringLocked a then d
    else if r.half = .lo then (if r.fields.any (·.acc == .rw) then d.put a v else d)
    else if r.half = .hi then (if r.fields.any (·.acc == .rw) then d.putWide (a - 4) ((d.reg (a - 4)).toNat + 2 ^ 32 * v.toNat) else d)
    else if a = Reg.CMDQ_DECLARE then d.writeDeclare v
    else if Reg.CMDQ_Q_CTL 0 ≤ a ∧ a < Reg.CMDQ_Q_CTL 16 ∧ a % 0x20 = 0 then d.writeQueueCtl ((a - Reg.CMDQ_Q_CTL 0) / 0x20) v
    else if a = Reg.EVT_CTL then d.writeEvtCtl v
    else if a = Reg.EVT_RING_RD then d.writeEvtRd v
    else if Reg.ING_S_CTL 0 ≤ a ∧ a < Reg.ING_S_CTL 3 ∧ a % 0x40 = 0 then d.writeStreamCtl ((a - Reg.ING_S_CTL 0) / 0x40) v
    else if Reg.ING_S_CTL 0 ≤ a ∧ a < Reg.ING_S_CTL 3 ∧ a % 0x40 = 0x18 then d.writeRingRd ((a - Reg.ING_S_CTL 0) / 0x40) v
    else if Reg.TAP_REQ_ROWS 0 ≤ a ∧ a < Reg.TAP_REQ_ROWS 16 then d.writeRegion a v
    else if a = Reg.TURF_RD_IDX then d.snapshotSod v
    else if a = Reg.GLB_APERTURE then d.writeAperture v
    else if a = Reg.THM_CTL ∧ d.testable = false then d
    else if Reg.HK_CHAIN_CFG 0 ≤ a ∧ a < Reg.HK_CHAIN_CFG 4 then d
    else if r.fields.any (·.acc == .rw) then d.writeFields a v
    else d

/-- PEER_ENABLE (R348). -/
def execPeerEnable (value : Word) (s : State) : Host.Outcome State Fault Refusal :=
  .next (s.onBar fun _ d => d.writeReg Reg.PEER_CTL value)

end Sys2Proof.Machine
end

