-- ==== Sys2Proof/Machine/Settings.lean ====
section
/-! DEFINITION. Configuration (chapter 16): values of parameters, two-phase changes, overlays and blobs, commits, and the grants
that the peer link applies through them (R356). -/

namespace Sys2Proof.Machine

/-! ## Values in force -/

/-- Put values in place with none of their effects: what the checks of a prepare phase look at. -/
def Dev.assume_ (d : Dev) (drops : List Nat) (ts : List (Nat × Nat)) : Dev :=
  let d := { d with cfg := { d.cfg with live := d.cfg.live.filter fun e => !drops.contains e.1 } }
  ts.foldl (fun (d : Dev) t => d.setPar (t.1 / 2 ^ 20) (t.1 % 2 ^ 20) t.2) d

/-- Elements of `slot.seg_group` that follow a change of `slot.groups`: those with no committed value that the change does not
name (R49). -/
def Dev.groupDrops (d : Dev) (drops : List Nat) (ts : List (Nat × Nat)) : List Nat :=
  if (d.assume_ drops ts).par P.slot_groups 0 != d.par P.slot_groups 0 then
    ((d.cfg.live.map (·.1)).filter fun k => k / 2 ^ 20 == P.slot_seg_group && (d.committed 0 k).isNone && !ts.any fun t => t.1 == k)
  else []

/-- The part as the changes that wait will leave it (R487). -/
def Dev.ahead (d : Dev) : Dev := d.cfg.waiting.foldl (fun (e : Dev) c => e.assume_ c.drops c.targets) d

/-- The registers that a parameter element is the retained copy of, each once. -/
def partAddrs (ps : List (Fld × Nat)) : List Nat := ps.foldl (fun l x => if l.contains x.1.addr then l else l ++ [x.1.addr]) []

/-- The word of register `a` with the fields of an element's value. -/
def partWord (ps : List (Fld × Nat)) (v a : Nat) (old : Word) : Word :=
  (ps.filter fun x => x.1.addr == a).foldl (fun w x => withField w x.1.lo x.1.width (bits v (8 * x.2) x.1.width)) old

/-- A register is written by the host. -/
def hostReg (a : Nat) : Bool :=
  match regRow? a with
  | some r => r.fields.any (·.acc == .rw)
  | none => false

/-- An element takes a value, with what its register's write brings about (R477). The base and size of a running stream stay. DELAY of
`tap.cal` takes a value only at MANUFACTURE (R223) and stays otherwise (DESIGN CHOICE, log entry 170). -/
def Dev.setLive (d : Dev) (k v : Nat) : Dev :=
  let i := k / 2 ^ 20
  let e := k % 2 ^ 20
  if i = P.out_ring then
    if d.flag (F.ING_S_CTL_EN e) then d.setFld (F.ING_S_CTL_EVERY e) (bits v 96 16) else d.setRing e v
  else
    match paramParts i e with
    | [] => d.setPar i e v
    | ps => (partAddrs ps).foldl (fun (d : Dev) a =>
        if i = P.tap_cal ∧ a = Reg.TAP_T_DELAY e ∧ d.rst.shadow.lifecycle ≠ 1 then d else
        let w := partWord ps v a (d.reg a)
        if hostReg a then d.writeFields a w else d.put a w) d

/-- What follows when elements of these parameters have changed. -/
def Dev.afterChange (d : Dev) (is : List Nat) : Dev :=
  let d := if is.contains P.thm_damper_min then d.setDamper else d
  let d := if is.contains P.slot_groups || is.contains P.slot_seg_group then d.regroup else d
  let d := if is.contains P.emit_spare then d.spareRefresh else d
  let d := if is.contains P.emit_wear_limit || is.contains P.emit_wear_warn_pct then d.wearAll else d
  let d := if [P.lamp_freq_hz, P.lamp_src, P.lamp_duty, P.lamp_cal].any is.contains then d.refreshLamps else d
  let d := if is.contains P.pwr_slice_en || is.contains P.pwr_tap_en then d.retarget else d
  let d := if is.contains P.time_slot_phase_ns then d.showPhase else d
  if (is.contains P.code_group || is.contains P.time_slot_phase_ns || is.contains P.slot_groups) && d.flag F.PEER_CTL_EN && !d.peer.members.isEmpty then d.sendClaim
  else d

/-! ## Checks of one value (R476, R499 and the parameter tables) -/

/-- A value as its parameter reads it. -/
def paramInt (p : Param) (v : Nat) : Int := if p.signed then sgn (8 * p.esize) v else v

/-- The values that a table lists one by one, and those of `lamp.src` that R184 names (DEDUCED, log entry 184). -/
def listedOk (i v : Nat) : Bool :=
  if i = P.store_clk_mhz then [50, 100, 200].contains v
  else if i = P.mem_speed then [3200, 3733, 4266].contains v
  else if i = P.scan_subcols then [1, 2, 4].contains v
  else if i = P.tap_win_default then v % 32 == 0
  else if i = P.time_xo_temp_input || i = P.emit_temp_input then decide (v ≤ 31) || v == 255
  else if i = P.lamp_src then decide (v ≤ 8) || v == 255
  else true

/-- The register fields of a copied register with a range that is not coerced take the value. -/
def copyOk (i e v : Nat) : Bool :=
  let ps := paramParts i e
  (partAddrs ps).all fun a =>
    match regRow? a with
    | none => true
    | some r =>
      let w := partWord ps v a r.reset
      (mergeFields r.fields r.reset w).2 == 0

/-- The mask of the bits that the host may write in a register. -/
def rwMask (a : Nat) : Nat :=
  match regRow? a with
  | none => 0
  | some r => r.fields.foldl (fun m f => if f.acc = .rw then m ||| (2 ^ f.width - 1) * 2 ^ f.lo else m) 0

/-- A value sets a reserved bit or a reserved encoding of its element (R8): a bit that no field of the registers it copies takes, a bit
between the trims of `cal.cmp_trim` (R96), STORE 0b11 of `tap.ctl` (R247). -/
def reservedSet (i e v : Nat) : Bool :=
  if i = P.cal_cmp_trim then v &&& 0x3F3F3F != v
  else if i = P.out_ring then false
  else
    (i == P.tap_ctl && bits v 1 2 == 3) || (paramParts i e).any fun x =>
      let w := bits v (8 * x.2) x.1.width * 2 ^ x.1.lo
      w &&& rwMask x.1.addr != w

/-- The code of a value that is no encoding of its parameter, or none: a reserved one (R8), a curve of `hk.sense_cfg` that the manual
names (R538). -/
def formatError (i e v : Nat) : Option Nat :=
  if i = P.hk_sense_cfg ∧ 13 ≤ bits v 0 4 then some 0x0104 else if reservedSet i e v then some 0x0103 else none

/-- An element's value lies in its range. -/
def valueOk (p : Param) (e v : Nat) : Bool :=
  decide (p.lo ≤ paramInt p v ∧ paramInt p v ≤ p.hi) && listedOk p.index v && copyOk p.index e v

/-- A code of the user format is valid (R157, R159). -/
def codeValid (gap entry : Nat) : Bool :=
  let n := bits entry 0 16
  let ps := codePulses entry
  let diffs := ps.zipIdx.flatMap fun (x : Nat × Nat) => (ps.drop (x.2 + 1)).map fun (y : Nat) => (y : Int) - x.1
  decide (2 ≤ n ∧ n ≤ 8) && decide (bits entry (16 * n) (16 * (8 - n)) = 0)
    && (ps.zip ps.tail).all (fun (x : Nat × Nat) => decide (x.1 + gap ≤ x.2)) && decide (ps.getLastD 0 ≤ 639)
    && decide (diffs.eraseDups.length = diffs.length)

/-! ## Relations -/

/-- The relations between parameters that the manual states: the parameters that take part, and whether the relation holds. -/
def Dev.relations (e : Dev) : List (List Nat × Bool) :=
  let g := e.par P.slot_groups 0
  let pos := e.par P.slot_positions 0
  let sub := e.par P.scan_subcols 0
  let turn := e.par P.slot_turn_slots 0
  let s := e.par P.slot_frame_slots 0 - turn
  let two := (List.range 64).any fun x => bitAt (e.par P.ember_ctl x) 1
  [([P.slot_positions, P.slot_groups, P.slot_frame_slots, P.slot_turn_slots], decide (pos * g ≤ s)),
   ([P.slot_positions, P.scan_subcols], pos % max 1 sub == 0 && decide (pos / max 1 sub ≤ 256)),
   ([P.scan_cal_slots, P.slot_turn_slots], decide (e.par P.scan_cal_slots 0 + 48 ≤ turn)),
   ([P.code_group, P.slot_groups, P.ember_ctl],
     !two || (List.range g).all fun x => x == (x + 1) % g || e.par P.code_group x != e.par P.code_group ((x + 1) % g)),
   ([P.code_min_gap, P.code_book_sel, P.code_group, P.slot_groups],
     (List.range g).all fun x => codeValid (e.par P.code_min_gap 0) (e.bookEntry (e.par P.code_group x))),
   ([P.blw_e_drivers, P.blw_ctl], frameFits (e.par P.blw_e_drivers 0) (e.fld F.BLW_CTL_E_CLK)),
   ([P.scan_x_first, P.scan_x_last], e.par P.scan_x_first 0 != e.par P.scan_x_last 0),
   ([P.scan_track_tol, P.scan_track_fault], decide (e.par P.scan_track_tol 0 ≤ e.par P.scan_track_fault 0)),
   ([P.turf_lo_min, P.turf_lo_max], decide (e.par P.turf_lo_min 0 ≤ e.par P.turf_lo_max 0)),
   ([P.turf_dwell_min, P.turf_dwell_max], decide (e.par P.turf_dwell_min 0 ≤ e.par P.turf_dwell_max 0)),
   ([P.turf_conf_lo, P.turf_conf_hi], decide (e.par P.turf_conf_lo 0 < e.par P.turf_conf_hi 0)),
   ([P.pwr_v_min_mv, P.pwr_v_max_mv], decide (e.par P.pwr_v_min_mv 0 ≤ e.par P.pwr_v_max_mv 0)),
   ([P.safe_b_n, P.safe_b_m], decide (e.par P.safe_b_n 0 ≤ e.par P.safe_b_m 0)),
   ([P.safe_travel_lo, P.safe_travel_hi], decide (e.parI P.safe_travel_lo 0 < e.parI P.safe_travel_hi 0))]

/-- The first segment that breaks R49: its group is not one of G, or its rows are lit by another group. -/
def badSegment (g : Nat) (groups rows : List Nat) : Option Nat :=
  let l := groups.zip rows
  (List.range 256).find? fun k =>
    match l[k]? with
    | none => false
    | some x => decide (g ≤ x.1) || (l.take k).any fun y => y.2 == x.2 && y.1 != x.1

/-- The first spare that breaks R182. -/
def Dev.badSpare (e : Dev) (groups rows : List Nat) : Option Nat :=
  let ps := e.pairings
  (ps.zipIdx.find? fun x =>
    let s := x.1.1
    let p := x.1.2
    s / 16 != p / 16 || groups[s]? != groups[p]? || rows[s]? != rows[p]?
      || (ps.take x.2).any fun y => y.1 == s || y.2 == s || y.1 == p || y.2 == p).map (·.1.1)

/-- A member of the safety set, mirrored ones included. -/
def safetyMember (i : Nat) : Bool :=
  match param? i with
  | some p => p.set == .safety || p.mirrored
  | none => false

/-- The refusal of R49 or R182, where a parameter that takes part changes. -/
def Dev.unitCheck (e : Dev) (is : List Nat) : Option (Nat × List Byte) :=
  if !([P.slot_groups, P.slot_seg_group, P.slot_seg_rows, P.emit_spare].any is.contains) then none
  else
    let g := e.par P.slot_groups 0
    let groups := (List.range 256).map fun k => e.par P.slot_seg_group k
    let rows := (List.range 256).map fun k => e.par P.slot_seg_rows k
    match badSegment g groups rows with
    | some k => some (0x0504, unitResults k)
    | none =>
      if (List.range g).any fun x => !groups.contains x then some (0x0508, paramResults P.slot_seg_group 0)
      else (e.badSpare groups rows).map fun k => (0x0504, unitResults k)

/-- The prepare phase (R484) in the order of R652: the refusal of a set of targets, or none. `fmt` is set where a code book's error
is a format error (R159). -/
def Dev.prepareCheck (d : Dev) (drops : List Nat) (ts : List (Nat × Nat)) (fmt : Bool) : Option (Nat × List Byte) :=
  let at_ (k : Nat) : List Byte := paramResults (k / 2 ^ 20) (k % 2 ^ 20)
  match ts.findSome? fun t => formatError (t.1 / 2 ^ 20) (t.1 % 2 ^ 20) t.2 with
  | some c => some (c, [])
  | none =>
  let bad := ts.find? fun t => match param? (t.1 / 2 ^ 20) with
    | some p => !valueOk p (t.1 % 2 ^ 20) t.2
    | none => true
  match bad with
  | some t => some (0x0508, at_ t.1)
  | none =>
    let now := d.ahead
    let drops := drops ++ now.groupDrops drops ts
    let e := now.assume_ drops ts
    let keys := ts.map (·.1) ++ drops
    let is := keys.map (· / 2 ^ 20)
    match ts.find? fun t => t.1 / 2 ^ 20 == P.code_book && !codeValid (e.par P.code_min_gap 0) t.2 with
    | some t => some (if fmt then 0x0106 else 0x0508, at_ t.1)
    | none =>
      match e.relations.find? fun r => !r.2 && r.1.any is.contains with
      | some r => some (0x0508, at_ ((keys.find? fun k => r.1.contains (k / 2 ^ 20)).getD 0))
      | none =>
        if d.commissioned && keys.any fun k => safetyMember (k / 2 ^ 20)
            && e.par (k / 2 ^ 20) (k % 2 ^ 20) != d.par (k / 2 ^ 20) (k % 2 ^ 20) then some (0x0403, [])
        else e.unitCheck is

/-! ## Application (R485 to R487) -/

/-- PENDING and PEND_OVERLAY follow the changes that wait. -/
def Dev.showPending (d : Dev) : Dev :=
  let d := d.setFlag F.GLB_CFG_STAT_PENDING (!d.cfg.waiting.isEmpty)
  d.setFld F.GLB_CFG_STAT_PEND_OVERLAY (((d.cfg.waiting.filterMap (·.overlay)).getLast?).getD 0)

/-- A change holds a class-F element. -/
def hasClassF (keys : List Nat) : Bool :=
  keys.any fun k => match param? (k / 2 ^ 20) with
    | some p => p.cls == .f
    | none => false

/-- A grant is in force (R356, R357). -/
def Dev.grantDone (d : Dev) : Dev :=
  match d.peer.pendingGrant with
  | none => d
  | some g =>
    let d := { d with peer := { d.peer with pendingGrant := none, claimResult := some true } }
    (d.setFld F.PEER_DOMAIN_GRANT g.number).raise Ev.peerGrant

/-- A change takes effect in every unit; `frame` is the first frame under it. The command that asked completes, once the domains that
it switches on are usable (R564). -/
def Dev.applyChange (d : Dev) (c : Change) (frame : Nat) : Dev :=
  let drops := c.drops ++ d.groupDrops c.drops c.targets
  let keys := c.targets.map (·.1) ++ drops
  let olds := (keys.filter fun k => k / 2 ^ 20 == P.pwr_slice_en || k / 2 ^ 20 == P.pwr_tap_en).map fun k =>
    (k, d.par (k / 2 ^ 20) (k % 2 ^ 20))
  let before := d.pwr.switchQ
  let d := { d with cfg := { d.cfg with live := d.cfg.live.filter fun e => !drops.contains e.1 } }
  let d := c.targets.foldl (fun (d : Dev) t => d.setLive t.1 t.2) d
  let d := match c.overlay with
    | some k => d.setFld F.GLB_CFG_STAT_OVERLAY k
    | none => d
  let d := if c.by_ = .peerGrant then d.grantDone else d
  let d := d.afterChange (keys.map (· / 2 ^ 20))
  let d := (d.bump C.GLB_CFG_APPLY_CNT).raise Ev.cfgApplied
  let results := if c.overlay.isSome then leBytes 4 frame else []
  if !olds.isEmpty && d.pwr.switchQ != before then
    { d with cfg := { d.cfg with powering := d.cfg.powering ++ [⟨c.by_, olds, results⟩] } }
  else
    match c.by_ with
    | .command q tag => d.complete q tag 0x0000 results
    | _ => d

/-- The frame that follows the present one. -/
def Dev.nextFrameNo (d : Dev) : Nat := ((d.reg Reg.TIME_FRAME).toNat + 1) % 2 ^ 32

/-- A change has ended its prepare phase: it waits for a frame boundary, or takes effect at once (R485). -/
def Dev.placeChange (d : Dev) (c : Change) : Dev :=
  if hasClassF (c.targets.map (·.1) ++ c.drops) && !d.atRest then
    Dev.showPending { d with cfg := { d.cfg with waiting := d.cfg.waiting ++ [{ c with prepared := d.time.ticks }] } }
  else d.applyChange c d.nextFrameNo

/-- The changes that wait and may take effect at a frame boundary now: 1 ms after their prepare phases, and no apply of a slice has
started in the turnaround (R485). -/
def Dev.dueChanges (d : Dev) : List Change :=
  if d.bur.started then [] else d.cfg.waiting.takeWhile fun c => decide (2500000 + c.prepared ≤ d.time.ticks)

/-- Changes take effect in the order in which their prepare phases ended (R487). -/
def Dev.applyAll (d : Dev) (cs : List Change) (frame : Nat) : Dev :=
  let d := { d with cfg := { d.cfg with waiting := d.cfg.waiting.drop cs.length } }
  (cs.foldl (fun (d : Dev) c => d.applyChange c frame) d).showPending

/-- The frame boundary of frame `frame` (R485). -/
def Dev.commitWaiting (d : Dev) (frame : Nat) : Dev :=
  let d := d.applyAll d.dueChanges frame
  { d with bur := { d.bur with started := false } }

/-- Scanning has stopped: no frame boundary will come, and what waits takes effect. -/
def Dev.commitAtRest (d : Dev) : Dev :=
  if d.atRest && !d.cfg.waiting.isEmpty then d.applyAll d.cfg.waiting d.nextFrameNo else d

/-! ## Elements that belong to the peer link (R482) -/

/-- `code.group` and `time.slot_phase_ns`, while the link owns them. -/
def Dev.peerOwned (d : Dev) (k : Nat) : Bool :=
  d.flag F.PEER_CTL_CODE_MODE && (k / 2 ^ 20 == P.code_group || k / 2 ^ 20 == P.time_slot_phase_ns)

/-! ## cfg.get and cfg.set (R465, R487) -/

/-- First reply of `cfg.get`. -/
def bodyCfgGet : Body := fun p _ d =>
  let i := p.u 0 2
  let e := p.u 4 4
  let src := p.u 8 1
  match param? i with
  | none => .refuse 0x0104 []
  | some r =>
    if r.elems ≤ e ∨ 16 < src then .refuse 0x0104 []
    else
      let k := pkey i e
      let v : Option Nat := if src = 0 then some (d.par i e)
        else if src = 1 then d.committed 0 k
        else slook (setKey (src - 1) k) d.cfg.images
      match v with
      | none => .ok d []
      | some v => .ok d (leBytes 1 r.esize ++ zeros 7 ++ leBytes 16 (v % 2 ^ (8 * r.esize)))

/-- CFG_GET (R465). -/
def execCfgGet (c : Cmd) (s : State) : Host.Outcome State Fault Refusal := .next (s.onDev (runCmd 0x0601 c bodyCfgGet))

/-- `cfg.set`: its prepare runs before the reply. -/
def bodyCfgSet : Body := fun p _ d =>
  let i := p.u 0 2
  let e := p.u 4 4
  match param? i with
  | none => .refuse 0x0104 []
  | some r =>
    if r.elems ≤ e ∨ p.u 8 1 ≠ r.esize ∨ 32 < r.esize then .refuse 0x0104 []
    else
      let k := pkey i e
      let v := p.u 16 r.esize
      if d.peerOwned k then .refuse 0x0508 (paramResults i e)
      else
        match d.prepareCheck [] [(k, v)] false with
        | some x => .refuse x.1 x.2
        | none => .ok (d.placeChange { by_ := .setCommand, targets := [(k, v)], overlay := none, prepared := d.time.ticks }) []

/-- CFG_SET (R487). -/
def execCfgSet (c : Cmd) (s : State) : Host.Outcome State Fault Refusal := .next (s.onDev (runCmd 0x0602 c bodyCfgSet))

/-! ## Accepted changes (R484) -/

/-- An accepted change begins its prepare phase. -/
def Dev.startPrepare (d : Dev) (q : Nat) (p : Packet) (overlay : Option Nat) : Dev :=
  { d with cfg := { d.cfg with preparing := some { by_ := .command q p.tag.toNat, targets := [], overlay := overlay, prepared := 0 } } }

/-- First reply of `cfg.load`: the blob is read in the prepare phase. -/
def bodyCfgLoad (q : Nat) : Body := fun p _ d => refuseIf (!inDevMem (p.u 0 8) (p.u 8 4)) 0x0105 (.accept (d.startPrepare q p none) 0)

/-- CFG_LOAD (R488). -/
def execCfgLoad (c : Cmd) (s : State) : Host.Outcome State Fault Refusal := .next (s.onDev (runCmd 0x0603 c (bodyCfgLoad c.pair.val)))

/-- First reply of `cfg.overlay_apply`. -/
def bodyOverlayApply (q : Nat) : Body := fun p _ d =>
  refuseIf (decide (15 < p.u 0 1)) 0x0104 <| refuseIf (d.cfg.imageBad.contains (p.u 0 1)) 0x0106 <|
    .accept (d.startPrepare q p (some (p.u 0 1))) 0

/-- CFG_OVERLAY_APPLY (R481). -/
def execCfgOverlayApply (c : Cmd) (s : State) : Host.Outcome State Fault Refusal :=
  .next (s.onDev (runCmd 0x0606 c (bodyOverlayApply c.pair.val)))

/-- First reply of `cfg.revert`. -/
def bodyCfgRevert (q : Nat) : Body := fun p _ d => .accept (d.startPrepare q p none) 0

/-- CFG_REVERT (R483). -/
def execCfgRevert (c : Cmd) (s : State) : Host.Outcome State Fault Refusal := .next (s.onDev (runCmd 0x0608 c (bodyCfgRevert c.pair.val)))

/-- First reply of `cal.import`. -/
def bodyCalImport (q : Nat) : Body := fun p _ d =>
  refuseIf (!inDevMem (p.u 0 8) 64) 0x0105 <| refuseIf (!d.atRest) 0x0201 <| .accept (d.startPrepare q p none) 0

/-- CAL_IMPORT (R151). -/
def execCalImport (c : Cmd) (s : State) : Host.Outcome State Fault Refusal := .next (s.onDev (runCmd 0x0405 c (bodyCalImport c.pair.val)))

/-- The elements of overlay image `k`, with their values; the base has no image. -/
def Dev.image (d : Dev) (k : Nat) : List (Nat × Nat) :=
  if k = 0 then [] else (d.cfg.images.filter fun e => e.1 / 2 ^ 40 == k).map fun e => (e.1 % 2 ^ 40, e.2)

/-- Targets and drops of elements that return to their committed value (R481). -/
def Dev.homeTargets (d : Dev) (ks : List Nat) : List (Nat × Nat) × List Nat :=
  let has (k : Nat) : Bool := (d.committed (keySet k) k).isSome || hasCopies (k / 2 ^ 20)
  ((ks.filter has).map fun k => (k, d.committedOr k), ks.filter fun k => !has k)

/-- What `cfg.overlay_apply` of image `k` aims at (R481). -/
def Dev.overlayTargets (d : Dev) (k : Nat) : List (Nat × Nat) × List Nat :=
  let new := d.image k
  let old := ((d.image (d.fld F.GLB_CFG_STAT_OVERLAY)).map (·.1)).filter fun x => !new.any fun y => y.1 == x
  let h := d.homeTargets old
  (h.1 ++ new, h.2)

/-- What `cfg.revert` aims at (R483). -/
def Dev.revertTargets (d : Dev) : List (Nat × Nat) × List Nat :=
  let img := (d.image (d.fld F.GLB_CFG_STAT_OVERLAY)).filter fun e => keySet e.1 == 0
  let regs := (paramRows.filter fun p => p.set == .base && hasCopies p.index).flatMap fun p => (List.range p.elems).map (pkey p.index)
  let live := (d.cfg.live.map (·.1)).filter fun k => keySet k == 0
  let comm := ((d.committedSet 0).map (·.1)).filter fun k => !live.contains k
  let ks := (regs ++ live ++ comm).filter fun k => !img.any fun y => y.1 == k
  let h := d.homeTargets ks
  (h.1 ++ img, h.2)

/-- The magic number of a configuration blob. -/
abbrev cfgMagic : Nat := 0x47464343
/-- The magic number of a calibration blob. -/
abbrev calMagic : Nat := 0x58424C43

/-- What a change that is read from device memory aims at, or its refusal: `cal.import` (R151) and `cfg.load` (R488). -/
def Dev.blobTargets (d : Dev) (mem : List Host.Cell) (r : Running) : Dev × Except Nat (List (Nat × Nat)) :=
  let cal := r.pkt.opcode == 0x0405#16
  let a := r.pkt.u 0 8
  let n := if cal then memLE mem (a + 24) 4 else r.pkt.u 8 4
  if !inDevMem a n || decide (2 ^ 22 + 64 < n) then (d, .error 0x0106)
  else
    match d.dmaRead mem a n with
    | (d, none) => (d, .error 0x0106)
    | (d, some l) =>
      (d, match parseBlob (if cal then calMagic else cfgMagic) l with
        | .error e => .error e
        | .ok (dev, ts) =>
          if cal then
            if ts.any fun t => keySet t.1 != 16 then .error 0x0106
            else if dev ≠ Config.deviceId.toNat then .error 0x0603
            else if !d.atRest then .error 0x0201
            else .ok ts
          else if ts.any fun t => keySet t.1 == 16 then .error 0x0106
          else .ok ts)

/-- A prepare phase ends in a refusal: nothing changes. -/
def Dev.refuseChange (d : Dev) (r : Running) (code : Nat) (results : List Byte) : Dev :=
  ({ d with cfg := { d.cfg with preparing := none } }.bump C.GLB_CFG_REFUSE_CNT).refuseEnd r code results

/-- Every slice becomes pending when an import is in force (R151, R154). -/
def Dev.importPending (d : Dev) : Dev := (List.range 64).foldl (fun (d : Dev) s => d.burPending s 3) d

/-- The prepare phase of the change that is prepared ends. -/
def Dev.prepareEnd (d : Dev) (mem : List Host.Cell) : Dev :=
  match d.cfg.preparing with
  | none => d
  | some c =>
    match d.cmd.running.find? fun r => c.by_ == .command r.pair r.pkt.tag.toNat with
    | none => { d with cfg := { d.cfg with preparing := none } }
    | some r =>
      let op := r.pkt.opcode.toNat
      let x : Dev × Except Nat (List (Nat × Nat) × List Nat) :=
        if op = 0x0606 then (d, .ok (d.overlayTargets (c.overlay.getD 0)))
        else if op = 0x0608 then (d, .ok d.revertTargets)
        else
          let b := d.blobTargets mem r
          (b.1, match b.2 with
            | .error e => .error e
            | .ok ts => .ok (ts, []))
      match x.2 with
      | .error e => x.1.refuseChange r e []
      | .ok (ts, drops) =>
        let skip := ts.any (fun t => d.peerOwned t.1) || drops.any d.peerOwned
        let ts := ts.filter fun t => !d.peerOwned t.1
        let drops := drops.filter fun k => !d.peerOwned k
        match x.1.prepareCheck drops ts (op != 0x0608) with
        | some f => x.1.refuseChange r f.1 f.2
        | none =>
          let d := { x.1 with cfg := { x.1.cfg with preparing := none } }
          let d := if skip then d.mark Reg.GLB_CFG_EVT 0 else d
          let d := d.placeChange { c with targets := ts, drops := drops }
          if op = 0x0405 then d.importPending else d

/-- PREPARE_PHASE_END (R484). -/
def execPreparePhaseEnd (s : State) : Host.Outcome State Fault Refusal := .next (s.onDev fun mem d => d.prepareEnd mem)

/-! ## Overlay images and commits (R480, R492, R495) -/

/-- First reply of `cfg.overlay_write`: the blob is read as the command completes. -/
def bodyOverlayWrite : Body := fun p _ d =>
  refuseIf (!decide (1 ≤ p.u 0 1 ∧ p.u 0 1 ≤ 15)) 0x0104 <| refuseIf (!inDevMem (p.u 8 8) (p.u 16 4)) 0x0105 <| .accept d 0

/-- CFG_OVERLAY_WRITE (R480). -/
def execCfgOverlayWrite (c : Cmd) (s : State) : Host.Outcome State Fault Refusal := .next (s.onDev (runCmd 0x0605 c bodyOverlayWrite))

/-- The namespaces `cfg` and `store`, the calibration and the counters set have no place in an overlay. -/
def overlayBars (k : Nat) : Bool := keySet k == 16 || keySet k == 18 || decide (k / 2 ^ 20 < 0x100)

/-- Bytes of values. -/
def valueBytes (ts : List (Nat × Nat)) : Nat := ts.foldl (fun a t => a + keySize t.1) 0

/-- The refusal of an image, or none: an invalid code book entry is named (R159); a change of a locked safety set is refused
(R395). -/
def Dev.imageError (d : Dev) (ts : List (Nat × Nat)) : Option (Nat × List Byte) :=
  if 2 ^ 17 < valueBytes ts then some (0x0104, [])
  else if ts.any fun t => overlayBars t.1 then some (0x0106, [])
  else
    match ts.find? fun t => t.1 / 2 ^ 20 == P.code_book && !codeValid (d.par P.code_min_gap 0) t.2 with
    | some t => some (0x0106, paramResults (t.1 / 2 ^ 20) (t.1 % 2 ^ 20))
    | none =>
      if d.commissioned && ts.any fun t => safetyMember (t.1 / 2 ^ 20) && t.2 != d.par (t.1 / 2 ^ 20) (t.1 % 2 ^ 20) then some (0x0403, [])
      else none

/-- `cfg.overlay_write` ends: the image replaces the one before it whole. -/
def Dev.overlayWriteEnd (d : Dev) (mem : List Host.Cell) (r : Running) : Dev :=
  let k := r.pkt.u 0 1
  match d.dmaRead mem (r.pkt.u 8 8) (r.pkt.u 16 4) with
  | (d, none) => d.refuseEnd r 0x0106 []
  | (d, some l) =>
    match (if 2 ^ 22 + 64 < l.length then Except.error 0x0106 else parseBlob cfgMagic l) with
    | .error e => d.refuseEnd r e []
    | .ok (_, ts) =>
      match d.imageError ts with
      | some x => d.refuseEnd r x.1 x.2
      | none =>
        let images := ts.foldl (fun m t => sput (setKey k t.1) t.2 m) (dropSet k d.cfg.images)
        { d with cfg := { d.cfg with images := images, imageBad := d.cfg.imageBad.filter (· != k) } }.finish r 0x0000 []

/-- `cfg.overlay_erase`. -/
def bodyOverlayErase : Body := fun p _ d =>
  let k := p.u 0 1
  refuseIf (!decide (1 ≤ k ∧ k ≤ 15)) 0x0104 <| refuseIf (d.fld F.GLB_CFG_STAT_OVERLAY == k) 0x0204 <|
    .ok { d with cfg := { d.cfg with images := dropSet k d.cfg.images, imageBad := d.cfg.imageBad.filter (· != k) } } []

/-- CFG_OVERLAY_ERASE (R480). -/
def execCfgOverlayErase (c : Cmd) (s : State) : Host.Outcome State Fault Refusal := .next (s.onDev (runCmd 0x0607 c bodyOverlayErase))

/-- First reply of `cfg.commit`. -/
def bodyCfgCommit (q : Nat) : Body := fun p _ d =>
  let k := p.u 0 1
  refuseIf (decide (15 < k)) 0x0104 <| refuseIf (d.storeFull k (d.setEntries k)) 0x0303 <|
    .accept (d.startCommit k (some (q, p.tag.toNat)) 0x0604) 0

/-- CFG_COMMIT (R492). -/
def execCfgCommit (c : Cmd) (s : State) : Host.Outcome State Fault Refusal := .next (s.onDev (runCmd 0x0604 c (bodyCfgCommit c.pair.val)))

/-- The commit at the head of the queue is written; a commission or a release then takes effect (R398, R492). -/
def Dev.storeCommitEnd (d : Dev) : Dev :=
  match d.cfg.commits with
  | [] => d
  | c :: rest =>
    let v := d.checkLive
    let d := if c.opcode = 0x0702 then d.commissionDone else if c.opcode = 0x0703 then d.releaseDone else d
    if c.opcode = 0x0702 then
      (d.commitDone { c with owner := none } rest).completeOwner c.owner 0x0000 (leBytes 4 v)
    else if c.opcode = 0x0703 then
      let d := { d with cfg := { d.cfg with commits := rest } }
      (d.setFlag F.GLB_CFG_STAT_COMMIT_BUSY (!rest.isEmpty || d.rst.life.isSome)).completeOwner c.owner 0x0000
    else d.commitDone c rest

/-- STORE_COMMIT_COMPLETE (R492). -/
def execStoreCommitComplete (s : State) : Host.Outcome State Fault Refusal := .next (s.onDev fun _ d => d.storeCommitEnd)

/-! ## cfg.dump (R488) -/

/-- The code of an effect class (R478). -/
def classCode : EffectClass → Nat
  | .i => 0
  | .d => 1
  | .f => 2
  | .b => 3
  | .s => 4

/-- The code of a set in the directory. -/
def setCode : ParamSet → Nat
  | .base => 0
  | .calibration => 1
  | .safety => 2
  | .counters => 3

/-- A directory entry, 48 bytes. -/
def dirEntry (p : Param) : List Byte :=
  let name := (p.name.toList.map fun c => BitVec.ofNat 8 c.toNat).take 32
  let flags := b2n p.signed + 2 * b2n (!overlayBars (pkey p.index 0)) + 4 * b2n (hasCopies p.index || p.index == P.out_ring) + 8 * b2n p.mirrored
  leBytes 2 p.index ++ leBytes 2 p.esize ++ leBytes 4 p.elems ++ leBytes 1 (classCode p.cls) ++ leBytes 1 (setCode p.set)
    ++ leBytes 1 flags ++ leBytes 1 p.scale ++ zeros 4 ++ name ++ zeros (32 - name.length)

/-- The directory item. -/
def directory : List Byte :=
  let b := paramRows.flatMap dirEntry
  leBytes 2 0xFFFF ++ leBytes 2 paramRows.length ++ leBytes 4 b.length ++ b

/-- What a dump of a source lists. -/
def Dev.dumpEntries (d : Dev) (src : Nat) : List (Nat × Nat) :=
  if src = 0 then
    (paramRows.filter fun p => (p.set == .base || p.set == .safety) && p.index != P.safe_field).flatMap fun p =>
      (List.range p.elems).map fun e => (pkey p.index e, d.par p.index e)
  else if src = 1 then d.committedSet 0
  else d.image (src - 1)

/-- The blob of a dump. -/
def Dev.dumpBlob (d : Dev) (src : Nat) : List Byte :=
  let it := blobItems (paramDefault d.rawPar) (d.dumpEntries src)
  blob cfgMagic d.now (it.1 + 1) (directory ++ it.2)

/-- First reply of `cfg.dump`. -/
def bodyCfgDump : Body := fun p _ d =>
  let src := p.u 0 1
  refuseIf (decide (16 < src)) 0x0104 <|
    let n := (d.dumpBlob src).length
    refuseIf (!inDevMem (p.u 8 8) n) 0x0105 <| refuseIf (decide (p.u 16 4 < n)) 0x0104 <| .accept d 0

/-- CFG_DUMP (R488). -/
def execCfgDump (c : Cmd) (s : State) : Host.Outcome State Fault Refusal := .next (s.onDev (runCmd 0x0609 c bodyCfgDump))

/-- `cfg.dump` ends: the blob is written; one that has grown past MAX is refused. -/
def Dev.cfgDumpEnd (d : Dev) (r : Running) : Dev :=
  let b := d.dumpBlob (r.pkt.u 0 1)
  if r.pkt.u 16 4 < b.length ∨ inDevMem (r.pkt.u 8 8) b.length = false then d.refuseEnd r 0x0104 []
  else (d.memw (r.pkt.u 8 8) b).finish r 0x0000 (leBytes 4 b.length ++ (b.drop 60).take 4)

/-! ## Grants (R355 to R357) -/

/-- A grant to this pod: with CODE_MODE 1 it becomes a two-phase change; with CODE_MODE 0 a conflict is only reported. A code that
the pool could not give leaves the pod firing its own. -/
def Dev.takeGrant (d : Dev) (leader : Wide) (number : Nat) (codes : List Nat) (phase : Nat) : Dev :=
  let me := d.selfMember
  let g := d.par P.slot_groups 0
  let pairs := (List.range g).map fun i => (codes.getD i 0xFF, me.claim.getD i 0)
  let missing := pairs.any fun x => x.1 == 0xFF
  let clash := pairs.any fun x => x.1 != x.2
  let share (d : Dev) (on : Bool) : Dev :=
    if on then
      (d.setFlag F.PEER_STAT_CODE_SHARED true).raise Ev.peerCode
    else d.setFlag F.PEER_STAT_CODE_SHARED false
  if d.flag F.PEER_CTL_CODE_MODE then
    let d := share d missing
    let ts := (pairs.zipIdx.filter fun x => x.1.1 != 0xFF).map fun x => (pkey P.code_group x.2, x.1.1)
    let ts := ts ++ [(pkey P.time_slot_phase_ns 0, 200 * phase)]
    let d := { d.dropGrant with peer := { d.dropGrant.peer with pendingGrant := some ⟨leader, number, codes, phase⟩, grantTaken := true } }
    match d.prepareCheck [] ts false with
    | some _ =>
      let d := { d with peer := { d.peer with pendingGrant := none, claimResult := some false } }
      (d.mark Reg.PEER_EVT 3).bump C.GLB_CFG_REFUSE_CNT
    | none => d.placeChange { by_ := .peerGrant, targets := ts, overlay := none, prepared := d.time.ticks }
  else
    let d := if clash || phase != me.claimPhase then d.mark Reg.PEER_EVT 2 else d
    share d clash

/-- A GRANT arrives from the leader. -/
def Dev.granted (d : Dev) (g : GrantMsg) : Dev :=
  if d.flag F.PEER_CTL_EN && d.peer.leader == some g.leader && g.leader != Config.deviceId
      && !(d.peer.grantTaken && d.peer.grantNo == g.number.toNat) then
    let code (x : Option (Fin 64)) : Nat := (x.map (·.val)).getD 0xFF
    let d := d.noteGrants (g.members.map fun m => (m.1, m.2.1.map code, m.2.2.val))
    let d : Dev := { d with peer := { d.peer with grantNo := g.number.toNat, grantTaken := true } }
    let d := match g.members.find? fun m => m.1 == Config.deviceId with
      | some m => d.takeGrant g.leader g.number.toNat (m.2.1.map code) m.2.2.val
      | none => d
    d.showDomain
  else d

/-- GRANT_RECEIVED (R356). -/
def execGrantReceived (g : GrantMsg) (s : State) : Host.Outcome State Fault Refusal := .next (s.onDev fun _ d => d.granted g)

/-- The leader sends its grants with a new number, and takes its own. -/
def Dev.sendGrant (d : Dev) : Dev :=
  if d.flag F.PEER_CTL_EN && d.peer.grantDue && d.peer.leader == some Config.deviceId then
    let d := d.recomputeGrants
    let gs := d.grants
    let n := (d.peer.grantNo + 1) % 2 ^ 16
    let code (c : Nat) : Option (Fin 64) := if c < 64 then some (Fin.ofNat 64 c) else none
    let d : Dev := { d with peer := { d.peer with grantNo := n, grantDue := false } }
    let d := if d.peer.members.isEmpty then d
      else d.sendPeer (.grant ⟨Config.deviceId, BitVec.ofNat 16 n, gs.map fun m => (m.id, m.codes.map code, Fin.ofNat 16 m.phase)⟩)
    let d := match gs.find? fun m => m.id == Config.deviceId with
      | some m => d.takeGrant Config.deviceId n m.codes m.phase
      | none => d
    d.showDomain
  else { d with peer := { d.peer with grantDue := false } }

/-- GRANT_SEND (R355). -/
def execGrantSend (s : State) : Host.Outcome State Fault Refusal := .next (s.onDev fun _ d => d.sendGrant)

end Sys2Proof.Machine
end

