-- ==== Sys2Proof/Machine/Reset.lean ====
section
/-! DEFINITION. Resets (chapter 20): what a reset keeps, its sources and their counters in the backup domain, and the release that
begins the reset sequence. -/

namespace Sys2Proof.Machine

/-! ## What a reset does (R577 to R579) -/

/-- Source codes of R576. -/
abbrev srcPowerOn : Nat := 0
/-- RESET_N -/
abbrev srcResetN : Nat := 1
/-- PERST -/
abbrev srcPerst : Nat := 2
/-- HOT_RESET -/
abbrev srcHot : Nat := 3
/-- WATCHDOG -/
abbrev srcWatchdog : Nat := 4
/-- SAFETY -/
abbrev srcSafety : Nat := 5
/-- THERMAL -/
abbrev srcThermal : Nat := 6
/-- SOFTWARE -/
abbrev srcSoftware : Nat := 7

/-- A source that makes a cold reset whatever the state of the part (R576). -/
def coldSource (src : Nat) : Bool := src == srcPowerOn || src == srcResetN || src == srcSafety || src == srcThermal

/-- A reset keeps the register: the backup domain always, the crossing drop counters when it is warm (R578). -/
def keepsReg (cold : Bool) (a : Nat) : Bool :=
  match (regRow? a).map (fun r => r.keep) with
  | some Keep.backup => true
  | some Keep.warm => !cold
  | _ => false

/-- The lines of the write-merge buffer reach their bursts before the dies enter self-refresh (R525). -/
def Dev.drainLines (d : Dev) : Dev := d.memc.lines.foldl (fun (d : Dev) _ => d.flushLine) d

/-- The memory state after a reset: a warm one keeps the stored errors and a wipe still owed. -/
def MemSt.afterReset (m : MemSt) (cold : Bool) : MemSt :=
  if cold then {} else { faults := m.faults, wipeDue := m.wipeDue }

/-- The level of an input pin outlives a reset. -/
def SafePin.afterReset (p : SafePin) : SafePin := { high := p.high }

/-- The safety island after a reset, with its input pins at their levels. -/
def SafeSt.afterReset (s : SafeSt) : SafeSt :=
  { stop1 := s.stop1.afterReset, stop2 := s.stop2.afterReset, restart1 := s.restart1.afterReset, restart2 := s.restart2.afterReset }

/-- The record of Quench lock (R578): the lock at the instant of the reset; a record that waits for a restore stays. -/
def Dev.lockNow (d : Dev) : Option (Nat × Nat) :=
  if d.quenchLock then some (d.fld F.SAFE_CAUSE_CAUSE, d.fld F.SAFE_CAUSE_FIRST) else d.rst.lockRecord

/-- Reset, boot and security state after a reset: the phase is held, a change recorded as pending waits for the next boot (R598). -/
def RstSt.afterReset (r : RstSt) (cold : Bool) (lock : Option (Nat × Nat)) (ph : BootPhase) : RstSt :=
  { phase := ph, asserted := r.asserted, cold := cold, fuseFails := r.fuseFails, pinsLoaded := r.pinsLoaded, fuses := r.fuses, shadow := r.shadow,
    lockRecord := lock, bakLost := r.bakLost, fuseSeen := r.fuseSeen, life := r.life.map fun c => { c with owner := none },
    slots := r.slots, preferred := r.preferred, running := r.running, staged := r.staged,
    stagedSlot := r.stagedSlot }

/-- The state of the part after a reset takes hold (R578): SRAM, registers, islands start again. -/
def Dev.afterReset (d : Dev) (cold : Bool) (lock : Option (Nat × Nat)) (ph : BootPhase) : Dev :=
  { regs := d.regs.filter fun e => keepsReg cold e.1,
    freeCtr := d.freeCtr, outbox := d.outbox, store := d.store,
    host := { writes := d.host.writes },
    memc := d.memc.afterReset cold,
    safe := d.safe.afterReset,
    rst := d.rst.afterReset cold lock ph }

/-- `RST_CAUSE` at a reset from `src`: a source that joins a reset already held adds its bit (R577, R603). -/
def Dev.causeWord (d : Dev) (src : Nat) (cold lc : Bool) : Nat :=
  let held := d.rst.phase == .held
  let srcs := orBit (if held then d.fld F.RST_CAUSE_SRC else 0) src
  let lc := lc || (held && d.flag F.RST_CAUSE_LC)
  srcs + 2 ^ 8 * lowBit 8 srcs + 2 ^ 11 * b2n cold + 2 ^ 12 * b2n d.rst.bakLost + 2 ^ 13 * b2n lc

/-- The stamps that the Ember queues lose in the flush of a reset are counted (R16, R117). -/
def Dev.countQueued (d : Dev) : Dev :=
  ((d.chans.filter fun e => !e.2.queue.isEmpty).map fun e => e.1).foldl (fun (d : Dev) ch =>
    d.bumpBy (C.SLICE_EM_XDROP_CNT (ch / 8)) (d.chan ch).queue.length) d

/-- A reset source asserts (R576 to R579). `lc` marks the end of a lifecycle change, which is cold (R598). -/
def Dev.resetBy (d : Dev) (src : Nat) (lc : Bool := false) : Dev :=
  let cold := coldSource src || lc || d.memHalted || d.flag F.GLB_CTL_COLD_NEXT || (d.rst.phase == .held && d.rst.cold)
  let d := d.bump (C.RST_SRC_CNT src)
  let d := if d.rst.phase = .fuseLoad then d.bump C.RST_FUSE_RESTART_CNT else d
  let ph := if d.rst.phase = .fuseFailed ∧ src ≠ srcPowerOn then BootPhase.fuseFailed else .held
  let d := d.put Reg.RST_CAUSE (BitVec.ofNat 32 (d.causeWord src cold lc))
  d.drainLines.countQueued.settle.afterReset cold d.lockNow ph

/-- A source that holds the reset as long as it stays asserted. -/
def Dev.hold (d : Dev) (src : Nat) : Dev := { d with rst := { d.rst with asserted := orBit d.rst.asserted src } }

/-- The source has released. -/
def Dev.unhold (d : Dev) (src : Nat) : Dev := { d with rst := { d.rst with asserted := clrBit d.rst.asserted src } }

/-- The source stays asserted. -/
def Dev.holding (d : Dev) (src : Nat) : Bool := bitAt d.rst.asserted src

/-- The Hearth cores run (R584 step 7). -/
def Dev.cores (d : Dev) : Bool := d.rst.phase == .running && d.flag F.CMDQ_STAT_READY

/-! ## Sources -/

/-- POWER_ON_RESET (R576): a main rail leaves its range. -/
def execPowerOnReset (s : State) : Host.Outcome State Fault Refusal := .next (s.onDev fun _ d =>
  let d := d.resetBy srcPowerOn
  { d with rst := { d.rst with fuseFails := 0, pinsLoaded := false } })

/-- RESET_N_ASSERT (R580). -/
def execResetNAssert (s : State) : Host.Outcome State Fault Refusal :=
  .next (s.onDev fun _ d => if d.holding srcResetN then d else (d.resetBy srcResetN).hold srcResetN)

/-- RESET_N_RELEASE (R580): the time held is written, and raises the longest. -/
def execResetNRelease (ms : Nat) (s : State) : Host.Outcome State Fault Refusal :=
  .next (s.onDev fun _ d =>
    if d.holding srcResetN then
      let t := min ms (2 ^ 32 - 1)
      let d := d.setFld F.RST_HELD_LAST t
      (d.setFld F.RST_HELD_MAX (max t (d.fld F.RST_HELD_MAX))).unhold srcResetN
    else d)

/-- PERST_ASSERT (R576). -/
def execPerstAssert (s : State) : Host.Outcome State Fault Refusal :=
  .next (s.onDev fun _ d => if d.holding srcPerst then d else (d.resetBy srcPerst).hold srcPerst)

/-- PERST_RELEASE (R427): the reset may end, and the CXL island starts training when it leaves reset. -/
def execPerstRelease (s : State) : Host.Outcome State Fault Refusal := .next (s.onDev fun _ d => d.unhold srcPerst)

/-- WATCHDOG_EXPIRY (R576): the firmware that runs misses its watchdog. -/
def execWatchdogExpiry (s : State) : Host.Outcome State Fault Refusal :=
  .next (s.onDev fun _ d => if d.cores then d.resetBy srcWatchdog else d)

/-- SAFETY_RESET_TIMER (R576): a DISAGREE or CLOCK condition still persists with Quench lock set. -/
def execSafetyResetTimer (s : State) : Host.Outcome State Fault Refusal :=
  .next (s.onDev fun _ d =>
    if d.quenchLock && (bitAt d.safe.active Cause.disagree || bitAt d.safe.active Cause.clock) then d.resetBy srcSafety else d)

/-- SOFTWARE_RESET_TIMER (R459): 100 µs after the reply of `sys.reset`. -/
def execSoftwareResetTimer (s : State) : Host.Outcome State Fault Refusal :=
  .next (s.onDev fun _ d => if d.rst.softDue then d.resetBy srcSoftware else d)

/-- LIFECYCLE_RESET_TIMER (R598): a cold software reset ends the change. -/
def execLifecycleResetTimer (s : State) : Host.Outcome State Fault Refusal :=
  .next (s.onDev fun _ d => if d.rst.lifeResetDue then d.resetBy srcSoftware true else d)

/-- VBAK_LOSS (R581, R648): with the main supplies absent, the backup domain loses its contents. It starts again at zero with the
power-on reset that ends the absence. -/
def execVbakLoss (s : State) : Host.Outcome State Fault Refusal :=
  .next (s.onDev fun _ d =>
    if d.rst.phase = .held ∧ bitAt (d.fld F.RST_CAUSE_SRC) srcPowerOn = true then
      let d : Dev := { d with regs := d.regs.filter fun e => (regRow? e.1).map (fun r => r.keep) != some Keep.backup,
                              rst := { d.rst with lockRecord := none, bakLost := true, fuseSeen := 0 } }
      (d.put Reg.RST_CAUSE 0x1801#32).bump (C.RST_SRC_CNT srcPowerOn)
    else d)

/-! ## Release (R584) -/

/-- Entries lost in the flush of the crossings are counted (R16, R633). -/
def Dev.countFlushed (d : Dev) (ns : List Nat) : Dev :=
  (List.zip [C.TIME_XDROP_CNT, C.CMDQ_XDROP_CNT, C.MEM_XDROP_CNT, C.PEER_XDROP_CNT, C.SAFE_XDROP_CNT, C.RST_XDROP_CNT] ns).foldl
    (fun (d : Dev) x => d.bumpBy x.1 x.2) d

/-- RESET_RELEASE (R584): the last source releases and the fuse load begins. -/
def execResetRelease (flushed : List Nat) (s : State) : Host.Outcome State Fault Refusal :=
  if flushed.length = 6 then
    .next (s.onDev fun _ d =>
      if d.rst.phase = .held ∧ d.rst.asserted = 0 then
        { d.countFlushed flushed with rst := { d.rst with phase := .fuseLoad } }
      else d)
  else .fault .illFormed

end Sys2Proof.Machine
end

