-- ==== Sys2Proof/Machine/Link.lean ====
section
/-! DEFINITION. The host link (chapter 14): link-up and retraining, the HDM window and the aperture onto device memory, function-level
reset and power states, MSI-X messages that wait, and the errors that the link reports. -/

namespace Sys2Proof.Machine

/-! ## Link (R406, R407, R428) -/

/-- CXL mode. -/
def Dev.cxlMode (d : Dev) : Bool := !d.flag F.GLB_HOST_MODE

/-- The link report of `GLB_HOST`. -/
def Dev.setLink (d : Dev) (rate : Fin 6) (width : Nat) : Dev := (d.setFld F.GLB_HOST_RATE rate.val).setFld F.GLB_HOST_WIDTH width

/-- A rate or width below what both sides support is reported once per link-up. -/
def Dev.noteDegraded (d : Dev) (degraded : Bool) : Dev :=
  if degraded && !d.host.degradedSaid then
    { d with host := { d.host with degradedSaid := true } }.raise Ev.degraded
  else d

/-- CXL needs 8 GT/s and x4 (R405). -/
def carriesCxl (rate : Fin 6) (width : Nat) : Bool := decide (2 ≤ rate.val ∧ 4 ≤ width)

/-- What a link configuration carries: CXL over the standard 256-byte flit at 64 GT/s or the 68-byte flit below, or PCIe only (R405). -/
inductive LinkForm where
  | flit256 | flit68 | pcie
  deriving DecidableEq, Repr

/-- The form of a link at a rate and a width (R405). -/
def linkForm (rate : Fin 6) (width : Nat) : LinkForm :=
  if carriesCxl rate width then (if rate = 5 then .flit256 else .flit68) else .pcie

/-- A configuration request is answered. -/
def Dev.answersConfig (d : Dev) : Bool := d.host.linkUp && !d.host.retryStatus

/-! ## Configuration space (R408 to R411) -/

/-- The identity in configuration space (R408). -/
structure ConfigIdent where
  vendor : Nat := 0x1F6B
  device : Nat := 0x5120
  revision : Nat := 0x02
  classCode : Nat := 0x120000
  subVendor : Nat
  subId : Nat
  headerType : Nat := 0
  interruptPin : Nat := 0
  deriving DecidableEq, Repr

/-- The identity of the one function (R408): the subsystem IDs from the fuse map, or their values when unfused. -/
def configIdent : ConfigIdent :=
  match Config.subsystem with
  | some x => { subVendor := x.1.toNat, subId := x.2.toNat }
  | none => { subVendor := 0x1F6B, subId := 0x0000 }

/-- The structures of the capability lists (R409). -/
inductive Capability where
  | powerManagement | pciExpress | msix | aer | dataLinkFeature | physicalLayer | laneMargining | doe | dvsecCxlDevice | dvsecFlexBus
  | dvsecRegisterLocator
  deriving DecidableEq, Repr

/-- The structures present in CXL mode and in PCIe-only mode (R409). -/
def capabilities (cxl : Bool) : List Capability :=
  [.powerManagement, .pciExpress, .msix, .aer, .dataLinkFeature, .physicalLayer, .laneMargining]
    ++ if cxl then [.doe, .dvsecCxlDevice, .dvsecFlexBus, .dvsecRegisterLocator] else []

/-- DVSEC 0x0000 as configuration reads find it (R409, R415, R418): its capabilities, Range 1 and the host's enables. -/
structure CxlDvsec where
  cacheCapable : Bool := true
  memCapable : Bool := true
  hdmCount : Nat := 1
  cxlResetCapable : Bool := false
  range1Size : Nat
  /-- Memory_Active. -/
  memoryActive : Bool
  /-- Memory_Active_Timeout, s. -/
  activeTimeout : Nat := 1
  cacheEnable : Bool
  memEnable : Bool
  deriving DecidableEq, Repr

/-- DVSEC 0x0000, absent in PCIe-only mode (R409). -/
def Dev.cxlDvsec (d : Dev) : Option CxlDvsec :=
  if d.answersConfig && d.cxlMode then
    some { range1Size := devMemSize, memoryActive := d.flag F.MEM_STAT_ACTIVE, cacheEnable := d.host.cacheEnable,
           memEnable := d.host.memEnable }
  else none

/-- The capabilities of the component registers in BAR4 (R414). -/
inductive ComponentCap where
  | cxlRas | cxlLink | hdmDecoder | biDecoder
  deriving DecidableEq, Repr

/-- The capability array at offset 0x1000 of BAR4; in PCIe-only mode the component registers are absent (R409, R414). -/
def componentCaps (cxl : Bool) : List ComponentCap := if cxl then [.cxlRas, .cxlLink, .hdmDecoder, .biDecoder] else []

/-- Size of BAR0, BAR2 or BAR4, and whether it is prefetchable (R411). -/
def barShape (cxl : Bool) (bar : Nat) : Nat × Bool :=
  match bar with
  | 0 => (2 ^ 21, false)
  | 1 => (2 ^ 20, false)
  | _ => if cxl then (2 ^ 16, false) else (2 ^ 28, true)

/-- The base register of a BAR as two dwords: a 64-bit memory BAR (the attribute bits as PCI has them, PRESUMED, log entry 177). -/
def Dev.barWords (d : Dev) (bar : Nat) : Nat := d.host.barBases.getD bar 0 + 4 + 8 * b2n (barShape d.cxlMode bar).2

/-- What a configuration read of the header finds at offset `off`, none while it receives retry status or where the manual gives the
dword no contents; the fields stand where PCI has them (PRESUMED, log entry 177). -/
def Dev.configRead (d : Dev) (off : Nat) : Option Nat :=
  if !d.answersConfig then none
  else
    match off with
    | 0x00 => some (configIdent.vendor + 2 ^ 16 * configIdent.device)
    | 0x08 => some (configIdent.revision + 2 ^ 8 * configIdent.classCode)
    | 0x0C => some (2 ^ 16 * configIdent.headerType)
    | 0x10 => some (d.barWords 0 % 2 ^ 32)
    | 0x14 => some (d.barWords 0 / 2 ^ 32)
    | 0x18 => some (d.barWords 1 % 2 ^ 32)
    | 0x1C => some (d.barWords 1 / 2 ^ 32)
    | 0x20 => some (d.barWords 2 % 2 ^ 32)
    | 0x24 => some (d.barWords 2 / 2 ^ 32)
    | 0x2C => some (configIdent.subVendor + 2 ^ 16 * configIdent.subId)
    | 0x30 => some 0
    | 0x3C => some (2 ^ 8 * configIdent.interruptPin)
    | _ => none

/-- The base of a BAR is written: a multiple of its size. -/
def Dev.setBarBase (d : Dev) (bar : Nat) (v : Nat) : Dev :=
  { d with host := { d.host with barBases := setAt d.host.barBases bar (v - v % (barShape d.cxlMode bar).1) } }

/-- The CDAT (R410). -/
def cdat : Cdat :=
  { dsmas := [⟨0, devMemSize, false, false⟩],
    dslbis := [.readLatency 400, .writeLatency 400, .readBandwidth 120, .writeBandwidth 120] }

/-- Configuration requests stop receiving retry status: the CDAT is built (R410, R427). -/
def Dev.endRetry (d : Dev) : Dev := { d with host := { d.host with retryStatus := false, cdat := some cdat } }

/-- A request to the DOE mailbox (R409, R410): Discovery names the protocols, Table Access reads the CDAT; another protocol is not
supported and finds no answer (R433). -/
def Dev.doeRequest (d : Dev) (p : DoeProtocol) : Dev :=
  if (capabilities d.cxlMode).contains .doe then
    let r := match p with
      | .discovery => some (DoeReply.protocols [.discovery, .cdatTable])
      | .cdatTable => d.host.cdat.map DoeReply.table
      | .other => none
    { d with host := { d.host with doe := r } }
  else d

/-- The host clears status bits of AER and CXL RAS by writing 1, in the order: AER correctable, RAS correctable, poison, address, cache,
poisoned TLP, internal (R432). -/
def Dev.clearErrors (d : Dev) (v : Nat) : Dev :=
  let h := d.host
  { d with host := { h with aerCorrectable := h.aerCorrectable && !bitAt v 0, rasCorrectable := h.rasCorrectable && !bitAt v 1,
                            rasPoison := h.rasPoison && !bitAt v 2, rasAddress := h.rasAddress && !bitAt v 3,
                            rasCache := h.rasCache && !bitAt v 4, aerPoisoned := h.aerPoisoned && !bitAt v 5,
                            aerInternal := h.aerInternal && !bitAt v 6 } }

/-! ## Link-up (R406, R407, R428) -/

/-- The CXL PHY quads outside the width negotiated at link-up are switched off; the reset that ends the link switches them on again
(R558, R584). -/
def Dev.trimQuads (d : Dev) (width : Nat) : Dev :=
  (List.range 4).foldl (fun (d : Dev) q => if width ≤ 4 * q then d.switchOff (134 + q) else d) d

/-- LINK_UP (R406): the mode is fixed at the first link-up after the reset; after a hot reset no retry status follows (R428). -/
def execLinkUp (cxl : Bool) (rate : Fin 6) (width : Nat) (degraded : Bool) (s : State) : Host.Outcome State Fault Refusal :=
  .next (s.onDev fun _ d =>
    if d.islandUp && !d.host.linkUp then
      let hot := d.fld F.RST_CAUSE_PRIMARY == srcHot
      let d := if d.host.modeFixed then d else d.setFlag F.GLB_HOST_MODE (!(cxl && carriesCxl rate width))
      let d : Dev := { d with host := { d.host with linkUp := true, modeFixed := true, degradedSaid := false } }
      let d := if hot then d.endRetry else d
      ((d.setLink rate width).noteDegraded degraded).trimQuads width
    else d)

/-- The link goes down without a hot reset: it takes the hot-reset path and counts as one (R428). -/
def Dev.linkDown (d : Dev) : Dev := if d.host.linkUp then d.resetBy srcHot else d

/-- LINK_RETRAIN (R407): a retrain that cannot carry CXL in CXL mode takes the link down (R406). -/
def execLinkRetrain (rate : Fin 6) (width : Nat) (degraded : Bool) (s : State) : Host.Outcome State Fault Refusal :=
  .next (s.onDev fun _ d =>
    if !d.host.linkUp then d
    else if d.cxlMode && !carriesCxl rate width then d.linkDown
    else if d.fld F.GLB_HOST_RATE = rate.val ∧ d.fld F.GLB_HOST_WIDTH = width then d.noteDegraded degraded
    else ((d.setLink rate width).raise Ev.linkChg).noteDegraded degraded)

/-- HOT_RESET (R428): the link receives a hot reset, or goes down. -/
def execHotReset (linkDown : Bool) (s : State) : Host.Outcome State Fault Refusal :=
  .next (s.onDev fun _ d => if linkDown then d.linkDown else if d.host.linkUp then d.resetBy srcHot else d)

/-! ## HDM window (R415 to R420) -/

/-- The conditions on which a commit is refused (R416). -/
def Dev.commitOk (d : Dev) (size ways : Nat) (bi : Bool) : Bool :=
  size == devMemSize && ways == 1 && bi && d.host.biEnable && d.flag F.MEM_STAT_ACTIVE

/-- HDM_COMMIT (R416): a decoder that Lock On Commit holds does not change. -/
def execHdmCommit (base size ways : Nat) (bi lock : Bool) (s : State) : Host.Outcome State Fault Refusal :=
  .next (s.onBar fun _ d =>
    if !(d.answersConfig && d.cxlMode) || (d.host.committed && d.host.locked) then d
    else if d.commitOk size ways bi then
      { d with host := { d.host with committed := true, notCommitted := false, locked := lock,
                                     hdmBase := base - base % 2 ^ 28, hdmSize := size } }
    else { d with host := { d.host with committed := false, notCommitted := true } })

/-- The device address of a host address inside the committed decoder (R417). -/
def Dev.dpa? (d : Dev) (hpa : Nat) : Option Nat :=
  if d.host.committed && decide (d.host.hdmBase ≤ hpa ∧ hpa < d.host.hdmBase + d.host.hdmSize) then some (hpa - d.host.hdmBase) else none

/-- Requests of CXL.mem reach the part (R417, R428). -/
def Dev.cxlMem (d : Dev) : Bool := d.host.linkUp && d.cxlMode && d.host.memEnable

/-- EV_CXL_RAS_UE for a request outside the committed decoder (R431). -/
def Dev.rasOutside (d : Dev) : Dev := { d with host := { d.host with rasAddress := true } }.raise Ev.rasUe

/-- `8 n` bytes that the manual leaves open: the data of a poisoned line (DESIGN CHOICE, log entry 1). -/
def Dev.freeBytes (d : Dev) : Nat → List Byte
  | 0 => []
  | n + 1 => leBytes 8 (d.free 64) ++ d.freeNext.freeBytes n

/-- A host read of `n` bytes at `a`: an uncorrectable codeword returns poison (R431, R518). -/
def Dev.hostRead (d : Dev) (mem : List Host.Cell) (a n : Nat) : Dev × Bool :=
  let r := d.readMem a n
  if r.2 then
    let bs := (r.1.freeBytes (n / 8 + 1)).take n
    ({ r.1 with freeCtr := r.1.freeCtr + n / 8 + 1, host := { r.1.host with lastRead := some ⟨bs, true⟩ } }.raise Ev.poison, true)
  else ({ r.1 with host := { r.1.host with lastRead := some ⟨memRead mem a n, false⟩ } }, false)

/-- CXL_MEM_READ (R419, R431): one line of 64 bytes. -/
def execCxlMemRead (hpa : Nat) (upset : List (Nat × Nat)) (s : State) : Host.Outcome State Fault Refusal :=
  .next (s.onDev fun mem d =>
    if !d.cxlMem then d
    else
      match d.dpa? hpa with
      | none => d.rasOutside
      | some a =>
        let r := (d.upset upset).hostRead mem (a - a % 64) 64
        if r.2 then
          let log := if r.1.host.rasPoison then r.1.host.headerLog else hpa - hpa % 64
          { r.1 with host := { r.1.host with rasPoison := true, headerLog := log } }
        else r.1)

/-- Write the enabled bytes of a list. -/
def Dev.writeEnabled (d : Dev) (a : Nat) (en : BitVec 64) (bs : List Byte) : Dev :=
  if en = BitVec.allOnes 64 then d.memw a bs
  else (List.range 64).foldl (fun (d : Dev) i => if en.getLsbD i then d.memw (a + i) [bs.getD i 0#8] else d) d

/-- CXL_MEM_WRITE (R419, R432): a full line replaces its contents. -/
def execCxlMemWrite (hpa : Nat) (data : BitVec 512) (enables : BitVec 64) (s : State) : Host.Outcome State Fault Refusal :=
  .next (s.onDev fun _ d =>
    if !d.cxlMem then d
    else
      match d.dpa? hpa with
      | none => d.rasOutside
      | some a => d.writeEnabled (a - a % 64) enables (leBytes 64 data.toNat))

/-- The aperture of PCIe-only mode reaches device memory. -/
def Dev.apertureOpen (d : Dev) : Bool := d.answersConfig && !d.cxlMode && d.flag F.MEM_STAT_ACTIVE

/-- APERTURE_ACCESS (R423, R431): a read, or a write with one byte for each of `length`. -/
def execApertureAccess (offset : Nat) (length : Nat) (write : Option (List Byte)) (upset : List (Nat × Nat)) (s : State) :
    Host.Outcome State Fault Refusal :=
  if write.all fun bs => bs.length == length then
    .next (s.onBar fun mem d =>
      if !d.apertureOpen || decide (2 ^ 28 < offset + length) then d
      else
        let a := 2 ^ 28 * (d.reg Reg.GLB_APERTURE).toNat + offset
        match write with
        | some bs => d.memw a bs
        | none =>
          let r := (d.upset upset).hostRead mem a length
          if r.2 then { r.1 with host := { r.1.host with aerPoisoned := true } } else r.1)
  else .fault .illFormed

/-! ## Messages (R425, R426, R611) -/

/-- Messages that wait in the PBA are sent where nothing masks them now; those in a holdoff are sent at its end. -/
def Dev.sendPending (d : Dev) : Dev :=
  (List.range 64).foldl (fun (d : Dev) v => if d.host.pba.getLsbD v && d.msiOpen v then d.dueMsi v else d) d

/-- Set the entry of a vector in the MSI-X table. -/
def Dev.setMsix (d : Dev) (v : Nat) (e : MsixEntry) : Dev :=
  { d with host := { d.host with msix := sset (fun _ => ({} : MsixEntry)) v e d.host.msix } }

/-- A hold on messages is removed. -/
def Dev.unmask (d : Dev) (what : Unmask) : Dev :=
  match what with
  | .vector v => d.setMsix v.val { d.msix v.val with masked := false }
  | .function => { d with host := { d.host with msixMask := false } }
  | .msixEnable => { d with host := { d.host with msixEnable := true } }
  | .busMaster => { d with host := { d.host with busMaster := true } }

/-- MSIX_UNMASK (R425, R426): the vector's mask lies in BAR2, the others in configuration space. -/
def execMsixUnmask (what : Unmask) (s : State) : Host.Outcome State Fault Refusal :=
  .next (s.onDev fun _ d =>
    if !d.answersConfig then d
    else
      match what with
      | .vector v => if d.host.d3hot then d else (d.unmask (.vector v)).sendPending
      | w => (d.unmask w).sendPending)

/-- MSIX_HOLDOFF_EXPIRY (R611): one message for the raisings in the holdoff. -/
def execMsixHoldoffExpiry (vector : Fin 64) (s : State) : Host.Outcome State Fault Refusal :=
  .next (s.onDev fun _ d =>
    let v := vector.val
    if d.evt.hold.getLsbD v then
      let due := d.evt.due.getLsbD v
      let d : Dev := { d with evt := { d.evt with hold := d.evt.hold &&& ~~~(1#64 <<< v), due := d.evt.due &&& ~~~(1#64 <<< v) } }
      if due then d.sendMsi v else d
    else d)

/-! ## Function level (R424, R428 to R430) -/

/-- The registers of the queue pairs take their reset values. -/
def queueReg (a : Nat) : Bool := decide (Reg.CMDQ_Q_CTL 0 ≤ a ∧ a < Reg.CMDQ_Q_CTL 16)

/-- Queue pairs are reset: commands not started are discarded, and those that run end without a reply (R428, R429). -/
def Dev.resetQueues (d : Dev) : Dev :=
  { d.muteAll with
      regs := d.regs.filter fun e => !queueReg e.1,
      wide := d.wide.filter fun e => !queueReg e.1,
      cmd := { d.muteAll.cmd with pairs := [], qmem := [] } }

/-- Host-interface state that a function-level reset returns to its start (R428); it ends the declared state (R456). -/
def Dev.functionReset (d : Dev) : Dev :=
  let d := d.resetQueues.setFlag F.CMDQ_STAT_DECLARED false
  let h := d.host
  { d with host := { h with d3hot := false, barBases := [0, 0, 0], doe := none, busMaster := false, msixEnable := false, msixMask := false, msix := [], pba := 0#64,
                            aerCorrectable := false, aerPoisoned := false, aerInternal := false },
           evt := { d.evt with due := 0#64 } }

/-- FLR (R429). -/
def execFlr (s : State) : Host.Outcome State Fault Refusal :=
  .next (s.onDev fun _ d => if d.answersConfig then d.functionReset else d)

/-- D3HOT_ENTRY (R430). -/
def execD3hotEntry (s : State) : Host.Outcome State Fault Refusal :=
  .next (s.onDev fun _ d => if d.answersConfig then { d with host := { d.host with d3hot := true } } else d)

/-- D0_RETURN (R430): messages that fell due are pending, and leave where nothing masks them. -/
def execD0Return (s : State) : Host.Outcome State Fault Refusal :=
  .next (s.onDev fun _ d =>
    if d.answersConfig && d.host.d3hot then { d with host := { d.host with d3hot := false } }.sendPending else d)

/-- A pair in host memory stops fetching, and posts no further reply. -/
def Dev.haltHostPair (d : Dev) (q : Nat) : Dev :=
  if d.inHost q && d.flag (F.CMDQ_Q_STAT_RUN q) then
    (d.setFlag (F.CMDQ_Q_STAT_HALTED q) true).setPair q { d.pair q with silent := true }
  else d

/-- The enable that the mode in force asks for is gone: pairs in host memory stop (R424). -/
def Dev.haltHostPairs (d : Dev) : Dev := if d.hostQueues then d else (List.range 16).foldl Dev.haltHostPair d

/-- Cache_Enable or Bus Master Enable takes the value 0. -/
def Dev.clearEnable (d : Dev) (busMaster : Bool) : Dev :=
  let d : Dev := if busMaster then { d with host := { d.host with busMaster := false } }
    else { d with host := { d.host with cacheEnable := false } }
  d.haltHostPairs

/-- ENABLE_BIT_CLEARED (R424). -/
def execEnableBitCleared (busMaster : Bool) (s : State) : Host.Outcome State Fault Refusal :=
  .next (s.onDev fun _ d => if d.answersConfig then d.clearEnable busMaster else d)

/-! ## Errors of the link (R431) -/

/-- Poison in the fetch of a queue in host memory: the entry is discarded and the pair stops. -/
def Dev.queuePoison (d : Dev) (q : Nat) : Dev :=
  if d.inHost q && d.flag (F.CMDQ_Q_STAT_RUN q) && d.cxlMode then
    let pr := d.pair q
    let n := b2n (!pr.rung.isEmpty)
    let d := d.setPair q { pr with rung := pr.rung.tail, sqHead := (pr.sqHead + n) % 2 ^ 32 }
    { (d.setFlag (F.CMDQ_Q_STAT_HALTED q) true) with host := { d.host with rasCache := true } }.raise Ev.rasUe
  else d

/-- CXL_LINK_ERROR (R431): an island parity error takes the link down. -/
def execCxlLinkError (e : LinkError) (s : State) : Host.Outcome State Fault Refusal :=
  .next (s.onDev fun _ d =>
    if !d.host.linkUp then d
    else
      match e with
      | .receiver => { d with host := { d.host with aerCorrectable := true } }.raise Ev.rasCe
      | .linkCrc => { d with host := { d.host with rasCorrectable := true } }.raise Ev.rasCe
      | .cachePoison q => d.queuePoison q.val
      | .outsideDecoder => d.rasOutside
      | .islandParity => ({ d with host := { d.host with aerInternal := true } }.raise Ev.rasUe).linkDown)

end Sys2Proof.Machine
end

