-- ==== Sys2Proof/Machine/Boot.lean ====
section
/-! DEFINITION. The reset sequence from the fuse load to RESTORED (chapters 02, 16 and 20), engine traps and the patrol (chapter 17), and
the thermal reset (chapter 18). -/

namespace Sys2Proof.Machine

/-! ## Fuse load and PLL (R582, R584, R36) -/

/-- Domains that a reset switches on, in number order (R557, R584). -/
def resetDomains : List Nat := (List.range 27).map (112 + ·) ++ [144, 145]

/-- The fuse load ends: the shadows take the array where the digest matches, else the load restarts, up to 8 times. -/
def Dev.fuseLoaded (d : Dev) (digestOk : Bool) : Dev :=
  if d.rst.phase ≠ .fuseLoad then d
  else if digestOk then
    let d := (d.setFld F.RST_STAT_FUSE_RETRY (min 7 d.rst.fuseFails)).setFlag F.RST_STAT_FUSE_FAIL false
    Dev.showSwitching { d with rst := { d.rst with shadow := d.rst.fuses, fuseFails := 0, pinsLoaded := true, phase := .domains },
                               pwr := { d.pwr with switchQ := resetDomains } }
  else
    let n := d.rst.fuseFails + 1
    let d := { d with rst := { d.rst with fuseFails := n } }.bump C.RST_FUSE_RESTART_CNT
    if 8 ≤ n then { d with rst := { d.rst with phase := .fuseFailed } }.setFlag F.RST_STAT_FUSE_FAIL true else d

/-- FUSE_LOAD_DONE (R582). -/
def execFuseLoadDone (digestOk : Bool) (s : State) : Host.Outcome State Fault Refusal := .next (s.onDev fun _ d => d.fuseLoaded digestOk)

/-- A pin that is not an input (R583): the forced states of the gates, the chains and the mirror outlast the reset until their block
drives them; every other group has its internal pull-down before the first complete load after a power-on, and its fuse-map entry
from then on until the reset sequence hands it to its block (DESIGN CHOICE, log entry 138). A chain's CLK and DAT are its block's from
step 1 of the bring-up, and its LAT from step 2; when step 2 begins is a free value (log entry 183). TDO is high-impedance but in
MANUFACTURE and SERVICE (R635). -/
def Dev.pinState (d : Dev) (g : PinGroup) : PinState :=
  match g with
  | .gate k => if (d.switch k.val).gate then .high else .low
  | .chain l => if (d.chain l).bringup || d.chainUp l then .block else .low
  | .chainLat l => if d.chainUp l ∨ ((d.chain l).bringup = true ∧ d.free 1 = 1) then .block else .low
  | .mirAmp => if d.scan.mirAmpEn then .high else .low
  | .mirDac => if d.scan.mirAmpEn then .block else .midCode
  | .tdo =>
    if !d.rst.pinsLoaded then .pullDown
    else if d.rst.phase = .running ∨ d.rst.phase = .noImage then (if d.testable then .block else .highZ)
    else Config.tdoEntry
  | .other n =>
    if !d.rst.pinsLoaded then .pullDown
    else if d.rst.phase = .running ∨ d.rst.phase = .noImage then .block
    else Config.pinEntry n

/-- The slot that begins at lock: nothing was prepared for it. -/
def Dev.emptyShot (d : Dev) : Shot :=
  { slot := d.slotNo, group := 0, base := 4096 * d.time.ticks, fires := false, suppressed := true, pulses := [] }

/-- The PLL locks: slot boundaries begin, or resume with the number after the last one (R36; DEDUCED from R45, log entry 158). -/
def Dev.lockPll (d : Dev) : Dev :=
  if d.locked || !(d.rst.phase == .pll || d.rst.phase == .running || d.rst.phase == .noImage) then d
  else
    let d := if d.rst.phase = .pll then { d with rst := { d.rst with phase := .running } }
      else d.putWide Reg.TIME_SLOT_LO (d.slotNo + 1)
    let d := ((d.setFlag F.TIME_STAT_LOCK true).persist Cause.internal (d.flag F.BLW_STAT_E_FAULT)).placeHeld
    { d with time := { d.time with slotLen := 8000, slotClk := 0, slotStart := d.time.ticks }, shot := some d.emptyShot }

/-- PLL_LOCK (R36). -/
def execPllLock (s : State) : Host.Outcome State Fault Refusal := .next (s.onDev fun _ d => d.lockPll)

/-- Lock is lost: the report to the safety island, the end of scanning, and device time at its last value. -/
def Dev.unlockPll (d : Dev) : Dev :=
  if !d.locked then d
  else
    let d := (d.setFlag F.TIME_STAT_LOCK false).setFlag F.TIME_STAT_VALID false
    let d := (d.bump C.TIME_UNLOCK_CNT).raise Ev.pllUnlock
    let d := (d.detect Cause.internal).persist Cause.internal true
    let d := d.endDwells
    let d := if d.atRest then d else d.toFault
    { d with shot := none }

/-- PLL_UNLOCK (R36). -/
def execPllUnlock (s : State) : Host.Outcome State Fault Refusal := .next (s.onDev fun _ d => d.unlockPll)

/-! ## Boot (R585 to R590) -/

/-- The header bytes of the image in a slot. -/
def Dev.header (d : Dev) (slot : Nat) : List Byte := (((d.rst.slots[slot]?).bind (·.header)).getD (Config.factoryHeader slot))

/-- FW_VER of a header (R586). -/
def headerVer (h : List Byte) : Nat := leNat ((h.drop 4).take 4)

/-- KEY_SLOT of a header. -/
def headerKey (h : List Byte) : Nat := leNat ((h.drop 12).take 1)

/-- The result of a slot that the boot ROM tries: what it reads there, and the checks against the fuses (R587). -/
def Dev.slotResult (d : Dev) (slot : Nat) (read : Fin 9) : Nat :=
  if d.store.absent || read.val == 0 then 2
  else if read.val ≠ 1 then read.val
  else if bitAt d.rst.shadow.revoked (headerKey (d.header slot)) then 5
  else if headerVer (d.header slot) / 65536 < d.rst.shadow.floor then 8
  else 1

/-- The boot ends (R588, R589). -/
def Dev.boot (d : Dev) (a b : Fin 9) : Dev :=
  if d.rst.phase ≠ .running ∨ d.flag F.CMDQ_STAT_READY = true then d
  else
    let p := d.rst.preferred
    let o := 1 - p
    let res (s : Nat) : Nat := d.slotResult s (if s = 0 then a else b)
    let first := res p
    let second := if first = 1 then 0 else res o
    let back := decide (first ≠ 1 ∧ second = 1)
    let d := d.put Reg.SEC_BOOT_STAT (BitVec.ofNat 32
      ((if p = 0 then first + 16 * second else second + 16 * first) + 256 * b2n back))
    let d := if first = 1 then d else d.bump C.RST_BOOT_FAIL_CNT
    let d := { d with rst := { d.rst with fellBack := back } }
    if first = 1 ∨ second = 1 then
      let run := if first = 1 then p else o
      let d := { d with rst := { d.rst with running := run } }.endRetry
      (d.setFlag F.CMDQ_STAT_READY true).put Reg.SEC_FW_VER (BitVec.ofNat 32 (headerVer (d.header run)))
    else { d with rst := { d.rst with phase := .noImage } }

/-- FIRMWARE_VERIFIED (R588): `a` and `b` are what the boot ROM reads in the slots, coded as in `SEC_BOOT_STAT`. -/
def execFirmwareVerified (a b : Fin 9) (s : State) : Host.Outcome State Fault Refusal := .next (s.onDev fun _ d => d.boot a b)

/-! ## Lifecycle (R597, R598) -/

/-- Steps 3 to 5 of a lifecycle change: sets are erased, fuses burned, the pending record cleared (R598). -/
def Dev.lifecycleEnd (d : Dev) (c : LifeChange) : Dev :=
  let st := d.store.eraseSets (erasedSets c.target)
  let f := d.rst.fuses
  let f : Fuses := { f with lifecycle := c.target, seq := f.seq + 1, svc := if c.target = 3 then f.svc + 1 else f.svc,
                            identity := f.identity || c.target == 1 }
  let d : Dev := { d with store := st, rst := { d.rst with fuses := f, life := none } }
  let d := (erasedSets c.target).foldl (fun (d : Dev) s => d.put (Reg.GLB_STORE_GEN s) 0#32) d
  let d := d.showStore.setFlag F.GLB_CFG_STAT_COMMIT_BUSY (!d.cfg.commits.isEmpty)
  (d.completeOwner c.owner 0x0000).raise Ev.lifecycle

/-! ## Restore (R496, R497) -/

/-- The parameter key of a named element. -/
def elementKey (x : Nat × Nat × Nat) : Nat := setKey x.1 (pkey x.2.1 x.2.2)

/-- What the log gives: an element whose newest generation is unreadable takes the one before it; one with neither has none. -/
def StoreSt.readBack (st : StoreSt) (older lost : List Nat) : StoreSt :=
  { st with newest := st.newest.filterMap fun e =>
      if lost.contains e.1 then none
      else if older.contains e.1 then (slook e.1 st.before).map fun v => (e.1, v)
      else some e }

/-- Elements that had a committed value and have none that can be read. -/
def StoreSt.gone (st : StoreSt) (older lost : List Nat) : List Nat :=
  (st.newest.filter fun e => lost.contains e.1 || (older.contains e.1 && (slook e.1 st.before).isNone)).map (·.1)

/-- Step 1: the log is read. -/
def Dev.readLog (d : Dev) (absent : Bool) (crcErrors : Nat) (older lost : List Nat) : Dev :=
  let d := { d with store := { d.store with absent := absent } }
  if absent then (d.setFlag F.GLB_CFG_STAT_ABSENT true).raise Ev.storeAbsent
  else
    let gone := d.store.gone older lost
    let fell := d.store.newest.any fun e => older.contains e.1 && (slook e.1 d.store.before).isSome
    let d := d.bumpBy C.GLB_STORE_CRC_ERR_CNT crcErrors
    let d := { d with store := d.store.readBack older lost }
    let d := if fell then d.sticky Reg.GLB_CFG_EVT 1 Ev.storeFallback else d
    let code (s : Nat) : Nat := if s = 0 then 0 else if s < 16 then 1 else s - 14
    let d := gone.foldl (fun (d : Dev) k => d.setBit Reg.GLB_CFG_STAT (16 + code (k / 2 ^ 40)) true) d
    let d := if gone.isEmpty then d else d.raise Ev.storeLost
    let d := (List.range 19).foldl (fun (d : Dev) s => d.put (Reg.GLB_STORE_GEN s) (BitVec.ofNat 32 (sget (fun _ => 0) s d.store.gens))) d
    d.showStore

/-- The committed elements of a set take their places, but for register copies. -/
def Dev.restoreSet (d : Dev) (set : Nat) : Dev :=
  ((d.committedSet set).filter fun e => !hasCopies (e.1 / 2 ^ 20)).foldl (fun (d : Dev) e => d.setPar (e.1 / 2 ^ 20) (e.1 % 2 ^ 20) e.2) d

/-- Every retained register copy takes its committed value or its default (R497, R626). -/
def Dev.loadCopies (d : Dev) (set : ParamSet) : Dev :=
  (paramRows.filter fun p => (hasCopies p.index || p.index == P.out_ring) && p.set == set).foldl (fun (d : Dev) p =>
    (List.range p.elems).foldl (fun (d : Dev) e => d.setLive (pkey p.index e) (d.committedOr (pkey p.index e))) d) d

/-- Step 3: pulse counts and pairings. -/
def Dev.loadCounters (d : Dev) : Dev :=
  if d.store.absent then d
  else
    let d := d.store.pulses.foldl (fun (d : Dev) e => d.putWide (Reg.BLW_SEG_PULSES_LO e.1) e.2.toNat) (d.restoreSet 18)
    { d with blw := { d.blw with paired := d.store.paired } }

/-- Step 5: the overlay images, and the one named by `cfg.boot_overlay` as at a stopped device. -/
def Dev.loadOverlays (d : Dev) : Dev :=
  let d := if d.store.absent then d
    else { d with cfg := { d.cfg with images := d.store.newest.filter fun e => decide (1 ≤ e.1 / 2 ^ 40 ∧ e.1 / 2 ^ 40 ≤ 15) } }
  let k := d.par P.cfg_boot_overlay 0
  if (d.image k).isEmpty then d
  else
    let x := d.overlayTargets k
    let ts := x.1.filter fun t => !d.peerOwned t.1
    let drops := x.2.filter fun t => !d.peerOwned t
    match d.prepareCheck drops ts true with
    | some _ => d
    | none => d.applyChange { by_ := .setCommand, targets := ts, drops := drops, overlay := some k, prepared := 0 } d.nextFrameNo

/-- Step 6: the safety set. While its commission stands, the mirrored parameters come from it (R479). The defaults that follow
`emit.cal` are fixed here (R396). -/
def Dev.loadSafety (d : Dev) : Dev :=
  let keep := d.store.safeCheck.isSome && !d.store.safeReleased
  let es := (d.committedSet 17).filter fun e => keep || keySet e.1 == 17
  let d := es.foldl (fun (d : Dev) e => d.setPar (e.1 / 2 ^ 20) (e.1 % 2 ^ 20) e.2) d
  let d := (List.range 256).foldl (fun (d : Dev) e =>
    (d.setPar P.safe_seg_slope e (d.par P.safe_seg_slope e)).setPar P.safe_seg_zero e (d.par P.safe_seg_zero e)) d
  d.safetyStart

/-- The rollback floor rises to the security version of an image that comes to RESTORED from the preferred slot (R590). -/
def Dev.raiseFloor (d : Dev) : Dev :=
  let v := headerVer (d.header d.rst.running) / 65536
  if d.rst.running = d.rst.preferred ∧ d.rst.fuses.floor < v then
    { d with rst := { d.rst with fuses := { d.rst.fuses with floor := min 64 v } } }
  else d

/-- Step 7 and what follows RESTORED: RUN, the rounds, and the events that record the reset (R557, R604). -/
def Dev.restored (d : Dev) : Dev :=
  let d := (d.setFlag F.GLB_STAT_RESTORED true).setFld F.PWR_VF_V 800
  let d := { d with hk := { d.hk with burnishCheck := true } }
  let d := (d.retarget.roundMode).raise Ev.reset (d.reg Reg.RST_CAUSE).toNat (d.reg Reg.RST_STAT).toNat
  let d := if d.rst.bakLost then d.raise Ev.bakLost else d
  let d := if (d.reg Reg.RST_FUSE_RESTART_CNT).toNat ≠ d.rst.fuseSeen then d.raise Ev.fuseRestart else d
  let d := if d.rst.fellBack then d.raise Ev.bootFallback else d
  let d := { d with rst := { d.rst with bakLost := false, fuseSeen := (d.reg Reg.RST_FUSE_RESTART_CNT).toNat } }
  (if d.flag F.THM_STAT_SAFE then d.enterSafeMin else d).raiseFloor

/-- A pending lifecycle change is completed before step 2 (R498, R598); device memory is wiped with it (R525). -/
def Dev.resumeLife (d : Dev) : Dev :=
  match d.rst.life with
  | some c => ((d.lifecycleEnd c).wipe 0 memCapacity)
  | none => d

/-- The whole restore. -/
def Dev.restore (d : Dev) (absent : Bool) (crcErrors : Nat) (older lost : List (Nat × Nat × Nat)) : Dev :=
  if d.rst.phase ≠ .running ∨ d.flag F.CMDQ_STAT_READY = false ∨ d.flag F.GLB_STAT_RESTORED = true
      ∨ (d.flag F.MEM_STAT_ACTIVE || d.memHalted) = false then d
  else
    let d := (d.readLog absent crcErrors (older.map elementKey) (lost.map elementKey)).resumeLife
    let d := { d with cfg := { d.cfg with live := [] } }
    let d := ((d.restoreSet 16).loadCopies .calibration).loadCounters
    let d := (d.restoreSet 0).loadCopies .base
    let d := if d.flag F.MEM_STAT_ACTIVE then d.showSpeed else d
    let d := d.afterChange [P.thm_damper_min, P.emit_spare, P.emit_wear_limit, P.lamp_src, P.time_slot_phase_ns]
    d.loadOverlays.loadSafety.restored

/-- RESTORE (R496): `older` and `lost` name the elements (set code, parameter index, element) whose newest generation, or whose both
generations, cannot be read. -/
def execRestore (absent : Bool) (crcErrors : Nat) (older lost : List (Nat × Nat × Nat)) (s : State) :
    Host.Outcome State Fault Refusal := .next (s.onDev fun _ d => d.restore absent crcErrors older lost)

/-! ## Engines and SRAM (R519, R521, R524) -/

/-- Engine `e` runs (R13, R556, R630). -/
def Dev.engineOn (d : Dev) (e : Nat) : Bool :=
  if e < 48 then d.domOn (72 + e / 4)
  else if e < 60 then d.domOn 145
  else if e < 62 then d.safe.running
  else d.flag F.CMDQ_STAT_READY

/-- An engine traps: it is reloaded, but for the fourth trap in 10 s, which resets the part. -/
def Dev.trap (d : Dev) (e : Nat) : Dev :=
  let old := (sget (fun _ => ([] : List Nat)) e d.memc.traps).filter fun t => decide (d.now < 10000000000 + t)
  let l := (old ++ [d.now]).drop (old.length - 3)
  let d := { d with memc := { d.memc with traps := sset (fun _ => ([] : List Nat)) e l d.memc.traps } }.bump C.MEM_TRAP_CNT
  let d := d.setFld (F.GLB_ENG_STAT_TRAPS e) (min 255 (d.fld (F.GLB_ENG_STAT_TRAPS e) + 1))
  if l.length < 4 then (d.setFld (F.GLB_ENG_STAT_STATE e) 2).raiseReg (Ev.engineTrap e) (Reg.GLB_ENG_STAT e)
  else ((d.setFld (F.GLB_ENG_STAT_STATE e) 3).raiseReg (Ev.engineTrap e) (Reg.GLB_ENG_STAT e)).resetBy srcWatchdog

/-- An uncorrectable SRAM byte is counted and reported (R521). -/
def Dev.noteSramUe (d : Dev) : Dev := (d.bump C.MEM_SRAM_UE_CNT).sticky Reg.MEM_EVT 4 Ev.sramUe

/-- Engine `e` may trap: it runs, and is not already stopped. -/
def Dev.canTrap (d : Dev) (e : Nat) : Bool := d.engineOn e && d.fld (F.GLB_ENG_STAT_STATE e) == 0

/-- ENGINE_TRAP (R519): an uncorrectable beat at a device address, or an uncorrectable byte of the engine's local memory. Engines 60 to
63 never read device memory. -/
def execEngineTrap (engine : Fin 64) (dpa : Option Nat) (s : State) : Host.Outcome State Fault Refusal :=
  .next (s.onDev fun _ d =>
    let e := engine.val
    if !d.canTrap e then d
    else
      match dpa with
      | some a => if e < 60 then (d.noteUe (a / 16)).trap e else d
      | none => d.noteSramUe.trap e)

/-- ENGINE_RELOAD_DONE (R519). -/
def execEngineReloadDone (engine : Fin 64) (s : State) : Host.Outcome State Fault Refusal :=
  .next (s.onDev fun _ d =>
    if d.fld (F.GLB_ENG_STAT_STATE engine.val) = 2 then d.setFld (F.GLB_ENG_STAT_STATE engine.val) 0 else d)

/-- What a read of SRAM finds takes effect by region (R521). -/
def Dev.sramFind (d : Dev) (f : SramFind) : Dev :=
  match f with
  | .corrected => d.bump C.MEM_SRAM_CE_CNT
  | .engineByte e => if d.canTrap e.val then d.noteSramUe.trap e.val else d
  | .overlayByte k =>
    let d := d.noteSramUe
    if k.val = 0 then d
    else { d with cfg := { d.cfg with images := dropSet k.val d.cfg.images, imageBad := k.val :: d.cfg.imageBad.erase k.val } }
  | .sodByte b => d.noteSramUe.sodUe b

/-- PATROL_PASS (R524): the patrol pauses while a scrub runs, and has nothing to read in a halted memory. -/
def execPatrolPass (upset : List (Nat × Nat)) (sram : List SramFind) (s : State) : Host.Outcome State Fault Refusal :=
  .next (s.onDev fun _ d =>
    if d.flag F.MEM_CTL_PATROL_EN && d.flag F.MEM_STAT_ACTIVE && d.flag F.CMDQ_STAT_READY && !d.flag F.MEM_STAT_SCRUB_BUSY && !d.memHalted then
      sram.foldl Dev.sramFind (d.upset upset).patrolStep
    else d)

/-! ## Thermal reset (R550) -/

/-- The comparisons of the always-on domain: 4 in a row at 130 °C or above on one sensor raise the reset, which lasts until every
sensor reads below 115 °C. -/
def Dev.compareSpots (d : Dev) (ts : List Int) : Dev :=
  let good := (List.range 20).filter fun i => !bitAt (d.fld F.THM_FAIL_HOT) i
  if d.holding srcThermal then
    if good.all fun i => decide (ts.getD i 0 < 1840) then d.unhold srcThermal else d
  else
    let m := good.foldl (fun (m : Sparse Nat) i =>
      sset (fun _ => 0) i (if 2080 ≤ ts.getD i 0 then sget (fun _ => 0) i m + 1 else 0) m) d.hk.overTemp
    let d := { d with hk := { d.hk with overTemp := m } }
    if m.any fun e => decide (4 ≤ e.2) then (d.resetBy srcThermal).hold srcThermal else d

/-- HOTSPOT_COMPARE (R550): the readings of the 20 hot-spot sensors, 1/16 °C. -/
def execHotspotCompare (spots : List (BitVec 16)) (s : State) : Host.Outcome State Fault Refusal :=
  if spots.length = 20 then .next (s.onDev fun _ d => d.compareSpots (spots.map BitVec.toInt)) else .fault .illFormed

end Sys2Proof.Machine
end

