-- ==== Sys2Proof/Machine/Security.lean ====
section
/-! DEFINITION. Security (chapter 20): images and their checks, key slots, tokens, lifecycle changes, identity and attestation. -/

namespace Sys2Proof.Machine

/-! ## Images (R586, R587, R591) -/

/-- The largest payload. -/
def payloadMax : Nat := 1976 * 1024

/-- The fixed fields of a header stand as R586 states: MAGIC, LENGTH, zero in every reserved byte. -/
def headerShape (h : List Byte) : Bool :=
  h.length == 8192 && leNat (h.take 4) == 0x4D495752 && decide (leNat ((h.drop 8).take 4) ≤ payloadMax)
    && decide (headerKey h ≤ 1) && ((h.drop 13).take 3).all (· == 0#8) && (h.drop 0x1C83).all (· == 0#8)

/-- The signer's key is the one fused for KEY_SLOT, and the signature covers the header before it. -/
def headerSigned (h : List Byte) : Bool :=
  let pk := (h.drop 0x50).take 2592
  Config.sha3 pk == Config.sha3 (Config.slotKey (headerKey h)) && Config.verify pk (h.take 0xA70) ((h.drop 0xA70).take 4627)

/-- The payload's digest stands in the header. -/
def payloadOk (img : List Byte) : Bool :=
  (Config.sha3 ((img.drop 8192).take (leNat ((img.drop 8).take 4)))).toNat == leNat ((img.drop 16).take 64)

/-- The refusal of an image for staging, or 0: revocation and the floor act at once (R591, R592). -/
def Dev.imageRefusal (d : Dev) (img : List Byte) : Nat :=
  let h := img.take 8192
  if !headerShape h || decide (img.length < 8192 + leNat ((h.drop 8).take 4)) then 0x0106
  else if !headerSigned h || !payloadOk img then 0x0601
  else if bitAt d.rst.fuses.revoked (headerKey h) then 0x0602
  else if headerVer h / 65536 < d.rst.fuses.floor then 0x0604
  else 0

/-- First checks of `sec.fw_stage` (R591). -/
def bodyFwStage (q : Nat) : Body := fun p mem d =>
  let a := p.u 0 8
  let n := p.u 8 4
  refuseIf (!inDevMem a n) 0x0105 <| refuseIf (!decide (8192 ≤ n ∧ n ≤ 8192 + payloadMax)) 0x0106 <|
    match d.dmaRead mem a n with
    | (d, none) => .reject d 0x0106
    | (d, some img) =>
      let e := d.imageRefusal img
      if e ≠ 0 then .reject d e
      else .accept { d with rst := { d.rst with staging := some (⟨some (img.take 8192)⟩, q, p.tag.toNat) } } 0

/-- SEC_FW_STAGE (R591). -/
def execSecFwStage (c : Cmd) (s : State) : Host.Outcome State Fault Refusal := .next (s.onDev (runCmd 0x0C04 c (bodyFwStage c.pair.val)))

/-- The staged image stands in the slot that does not run. -/
def Dev.staged (d : Dev) : Dev :=
  match d.rst.staging with
  | none => d
  | some (img, q, tag) =>
    let to_ := 1 - d.rst.running
    let d := { d with rst := { d.rst with staging := none, staged := true, stagedSlot := to_,
                                          slots := setAt d.rst.slots to_ img } }
    (d.complete q tag 0x0000 (leBytes 4 (headerVer (d.header to_)))).raise Ev.fwStaged

/-- FW_STAGE_COMPLETE (R591). -/
def execFwStageComplete (s : State) : Host.Outcome State Fault Refusal := .next (s.onDev fun _ d => d.staged)

/-- First checks of `sec.fw_activate`. -/
def bodyFwActivate : Body := fun _ _ d => refuseIf (!d.rst.staged) 0x0204 (.accept d 0)

/-- SEC_FW_ACTIVATE (R591). -/
def execSecFwActivate (c : Cmd) (s : State) : Host.Outcome State Fault Refusal := .next (s.onDev (runCmd 0x0C05 c bodyFwActivate))

/-- `sec.fw_activate` ends: the staged slot is preferred. -/
def Dev.activateEnd (d : Dev) (r : Running) : Dev :=
  { d with rst := { d.rst with preferred := if d.rst.staged then d.rst.stagedSlot else d.rst.preferred, staged := false } }.finish r 0x0000 []

/-! ## Tokens (R596) -/

/-- A token is 4,659 bytes. -/
def tokenLen : Nat := 0x20 + 4627

/-- The token's signature verifies under a key slot in service other than `not_`. -/
def Dev.tokenSigned (d : Dev) (t : List Byte) (not_ : Nat) : Bool :=
  (List.range 2).any fun k => k != not_ && !bitAt d.rst.fuses.revoked k
    && Config.verify (Config.slotKey k) (t.take 0x20) ((t.drop 0x20).take 4627)

/-- The token names this action, target, device and sequence. -/
def Dev.tokenMatches (d : Dev) (t : List Byte) (action target : Nat) : Bool :=
  leNat ((t.drop 6).take 1) == action && leNat ((t.drop 7).take 1) == target
    && leNat ((t.drop 8).take 8) == Config.deviceId.toNat && leNat ((t.drop 16).take 4) == d.rst.fuses.seq

/-- The refusal of a token, or 0. -/
def Dev.tokenRefusal (d : Dev) (t : List Byte) (action target not_ : Nat) : Nat :=
  if leNat (t.take 4) ≠ 0x4E4B4F54 ∨ leNat ((t.drop 4).take 2) ≠ 1 ∨ leNat ((t.drop 20).take 12) ≠ 0 then 0x0106
  else if !d.tokenSigned t not_ then 0x0601
  else if !d.tokenMatches t action target then 0x0605
  else 0

/-- Read and check a token. -/
def Dev.withToken (d : Dev) (mem : List Host.Cell) (a action target not_ : Nat) (k : Dev → Verdict) : Verdict :=
  match d.dmaRead mem a tokenLen with
  | (d, none) => .reject d 0x0106
  | (d, some t) =>
    let e := d.tokenRefusal t action target not_
    if e ≠ 0 then .reject d e else k d

/-! ## Lifecycle (R597, R598) -/

/-- First checks of `sec.lifecycle`; the pending change is recorded. -/
def bodyLifecycle (q : Nat) : Body := fun p mem d =>
  let a := p.u 8 8
  let v := p.u 0 1
  refuseIf (!inDevMem a tokenLen) 0x0105 <| refuseIf (d.scanState != stStopped) 0x0201 <|
    d.withToken mem a 1 v 2 fun d =>
      .accept ({ d with rst := { d.rst with life := some ⟨v, some (q, p.tag.toNat)⟩ } }.setFlag F.GLB_CFG_STAT_COMMIT_BUSY true) 0

/-- SEC_LIFECYCLE (R598). -/
def execSecLifecycle (c : Cmd) (s : State) : Host.Outcome State Fault Refusal := .next (s.onDev (runCmd 0x0C03 c (bodyLifecycle c.pair.val)))

/-- LIFECYCLE_CHANGE_DONE (R598): the erasure has ended, and the reset that follows is due. -/
def execLifecycleChangeDone (s : State) : Host.Outcome State Fault Refusal :=
  .next (s.onDev fun _ d =>
    match d.rst.life with
    | some c =>
      let d := d.lifecycleEnd c
      { d with rst := { d.rst with lifeResetDue := true } }
    | none => d)

/-! ## Key slots (R592) -/

/-- A slot holds a valid image that is signed under key slot `k`. -/
def Dev.bootable (d : Dev) (k : Nat) : Bool :=
  (List.range 2).any fun s => headerShape (d.header s) && headerKey (d.header s) == k && headerSigned (d.header s)
    && decide (d.rst.fuses.floor ≤ headerVer (d.header s) / 65536)

/-- First checks of `sec.key_revoke`. -/
def bodyKeyRevoke : Body := fun p mem d =>
  let k := p.u 0 1
  let a := p.u 8 8
  refuseIf (decide (1 < k) || bitAt d.rst.fuses.revoked k || bitAt d.rst.fuses.revoked (1 - k) || !d.bootable (1 - k)) 0x0104 <|
    refuseIf (!inDevMem a tokenLen) 0x0105 <| d.withToken mem a 2 k k fun d => .accept d k

/-- SEC_KEY_REVOKE (R592). -/
def execSecKeyRevoke (c : Cmd) (s : State) : Host.Outcome State Fault Refusal := .next (s.onDev (runCmd 0x0C06 c bodyKeyRevoke))

/-- `sec.key_revoke` ends: the fuse is burned, and the token has served. -/
def Dev.revokeEnd (d : Dev) (r : Running) : Dev :=
  let f := d.rst.fuses
  let d := { d with rst := { d.rst with fuses := { f with revoked := orBit f.revoked r.aux, seq := f.seq + 1 } } }
  (d.finish r 0x0000 []).raise Ev.keyRevoked

/-! ## Identity and attestation (R593 to R595) -/

/-- First checks of `sec.id_cert`. -/
def bodyIdCert : Body := fun p _ d => refuseIf (!inDevMem (p.u 0 8) Config.idCertificate.length) 0x0105 (.accept d 0)

/-- SEC_ID_CERT (R594). -/
def execSecIdCert (c : Cmd) (s : State) : Host.Outcome State Fault Refusal := .next (s.onDev (runCmd 0x0C02 c bodyIdCert))

/-- `sec.id_cert` ends: a certificate whose digest does not match is not copied. -/
def Dev.idCertEnd (d : Dev) (r : Running) : Dev :=
  let cert := Config.idCertificate
  if Config.sha3 cert = Config.certDigest then
    (d.memw (r.pkt.u 0 8) cert).finish r 0x0000 (leBytes 4 cert.length)
  else d.refuseEnd r 0x0601 []

/-- Bytes of evidence. -/
def evidenceLen : Nat := 4883

/-- GEN and SUM of the newest MARKER of every set. -/
def Dev.markers (d : Dev) : List Byte :=
  (List.range 19).flatMap fun s =>
    let g := if d.store.absent then 0 else sget (fun _ => 0) s d.store.gens
    leBytes 4 g ++ leBytes 4 (if g = 0 then 0 else sget (fun _ => 0) s d.store.sums)

/-- Evidence bytes 0x00 to 0xFF (R595). -/
def Dev.evidence (d : Dev) (nonce : Nat) : List Byte :=
  let lc := d.rst.shadow.lifecycle
  let flags := b2n d.commissioned + 2 * b2n (d.bit Reg.SEC_BOOT_STAT 8) + 4 * (d.rst.shadow.revoked % 4)
  leBytes 4 0x54415345 ++ leBytes 2 1 ++ leBytes 1 lc ++ leBytes 1 d.rst.running ++ leBytes 8 Config.deviceId.toNat
    ++ leBytes 8 d.now ++ leBytes 4 (d.reg Reg.SEC_FW_VER).toNat ++ leBytes 4 d.rst.fuses.floor ++ leBytes 32 nonce
    ++ leBytes 64 (Config.sha3 ((d.header d.rst.running).take 0x1C83)).toNat ++ leBytes 64 (Config.sha3 d.markers).toNat
    ++ leBytes 4 (if d.commissioned then (d.reg Reg.SAFE_CHECK).toNat else 0) ++ leBytes 4 flags
    ++ leBytes 4 (d.reg Reg.RST_CAUSE).toNat ++ zeros 52

/-- First checks of `sec.attest`. -/
def bodyAttest : Body := fun p _ d => refuseIf (!inDevMem (p.u 32 8) evidenceLen) 0x0105 (.accept d 0)

/-- SEC_ATTEST (R595). -/
def execSecAttest (c : Cmd) (s : State) : Host.Outcome State Fault Refusal := .next (s.onDev (runCmd 0x0C01 c bodyAttest))

/-- `sec.attest` ends: the evidence and its signature are written. -/
def Dev.attestEnd (d : Dev) (r : Running) : Dev :=
  let e := d.evidence (r.pkt.u 0 32)
  (d.memw (r.pkt.u 32 8) (e ++ (Config.attestSignature e ++ zeros 4627).take 4627)).finish r 0x0000 (leBytes 4 evidenceLen)

end Sys2Proof.Machine
end

