-- ==== Sys2Proof/Machine/Slots.lean ====
section
/-! DEFINITION. Slots (chapters 01, 02 and 10): the slot boundary with its fixed order, the preparation of the next slot, the frame
boundary, the turnaround, and the completion of a pixel. -/

namespace Sys2Proof.Machine

/-! ## The next slot's place in its frame (R48, R293, R299) -/

/-- Where a sweep slot stands: column, sub-column, units of the column, opportunity (R299, R301). -/
structure Spot where
  col : Nat
  sub : Nat
  units : Nat
  opp : Nat
  deriving DecidableEq, Repr

/-- The place of sweep slot `u` under a plan with `k` sub-columns and `g` groups; none in the idle slots and after (R299). -/
def spotOf (plan : List Nat) (k g : Nat) (rev : Bool) (u : Nat) : Option Spot :=
  ((sweepOrder rev plan.length).foldl (fun (x : Option Spot × Nat) c =>
    let n := plan.getD c 0
    let len := k * g * n
    match x.1 with
    | some _ => x
    | none =>
      if x.2 < len then
        let j := x.2 / max 1 (g * n)
        (some { col := c, sub := if rev then k - 1 - j else j, units := n, opp := x.2 % max 1 (g * n) / max 1 g }, 0)
      else (none, x.2 - len)) (none, u)).1

/-- What the next slot is. -/
inductive SlotKind where
  | sweep (at_ : Spot) | idle | turn | cal | other
  deriving DecidableEq, Repr

/-- The kind of the next slot; `due` says that its boundary is a frame boundary (R51, R307). -/
def Dev.nextKind (d : Dev) (due : Bool) : SlotKind :=
  if due then
    match spotOf d.planDue (d.par P.scan_subcols 0) (d.par P.slot_groups 0) (d.nextFrame % 2 == 1) 0 with
    | some x => .sweep x
    | none => .idle
  else if d.scanState = stRunning then
    let u := d.fld F.TIME_SLOT_IN_FRAME_SLOT + 1
    if d.scan.frameSlots ≤ u + d.par P.scan_cal_slots 0 then .cal
    else if d.scan.frameSlots ≤ u + d.scan.turnSlots then .turn
    else
      match spotOf d.scan.plan d.scan.subcols d.scan.groups (d.flag F.SCN_STAT_DIR) u with
      | some x => .sweep x
      | none => .idle
  else .other

/-- The group of a slot (R48). -/
def Dev.groupOf (d : Dev) (slot : Nat) : Nat := (slot + d.par P.slot_group_phase 0) % max 1 (d.par P.slot_groups 0)

/-! ## Values in force at the next boundary (R53, R485) -/

/-- The changes that take effect at the end of the present slot, where that is a frame boundary. -/
def Dev.nextChanges (d : Dev) : List Change :=
  Dev.dueChanges { d with time := { d.time with ticks := d.time.ticks + (d.time.slotLen - d.time.slotClk) } }

/-- Targets of changes but for the rings, which take no part in the preparation of a slot. -/
def slotTargets (cs : List Change) : List (Nat × Nat) := (cs.flatMap (·.targets)).filter fun t => t.1 / 2 ^ 20 != P.out_ring

/-- The part with the values and the domains in force at the coming frame boundary. -/
def Dev.foresee (d : Dev) : Dev :=
  let cs := d.nextChanges
  (cs.foldl (fun (e : Dev) c => e.assume_ (c.drops ++ e.groupDrops c.drops c.targets) (slotTargets [c])) d).joinFrame

/-- The values and the domains of the present slot stand again. -/
def Dev.unforesee (d old : Dev) : Dev :=
  let as_ := (slotTargets old.nextChanges).flatMap fun t => partAddrs (paramParts (t.1 / 2 ^ 20) (t.1 % 2 ^ 20))
  as_.foldl (fun (d : Dev) a => d.put a (old.reg a)) { d with cfg := old.cfg, pwr := old.pwr }

/-! ## Units, grants and reads (R300 to R306) -/

/-- The segments of driver `n` in group `g`. -/
def Dev.unitSegs (d : Dev) (g n : Nat) : List Nat :=
  ((List.range 16).map (16 * n + ·)).filter fun k => d.par P.slot_seg_group k == g

/-- The slice of a segment's rows (R49). -/
def Dev.segSlice (d : Dev) (k : Nat) : Nat := d.par P.slot_seg_rows k / 4

/-- The tick of the next slot boundary. -/
def Dev.nextStart (d : Dev) : Nat := d.time.ticks + (d.time.slotLen - d.time.slotClk)

/-- The rows of a unit whose slice is on and takes part (R300). -/
def Dev.ownRows (d : Dev) (segs : List Nat) : List Nat :=
  ((segs.filter fun k => d.joined (d.segSlice k)).flatMap d.segRows).eraseDups

/-- The rows of a unit that read sods in the next slot: no apply withholds their slice from it (R142, R306). -/
def Dev.unitRows (d : Dev) (segs : List Nat) : List Nat := (d.ownRows segs).filter fun r => !d.withheld (r / 8) d.nextStart

/-- The dwell a direction asks for, without a charge; a range-zero measurement takes the Damper cap (R146, R301). -/
def Dev.askedDwell (d : Dev) (row col : Nat) : Nat :=
  let zero := match d.bur.rangeZero with
    | some z => decide (z.rowFirst ≤ row ∧ row ≤ z.rowLast) && z.col == col
    | none => false
  let i := sodIndex row col
  if zero then dwellCap d.damper
  else if d.servesAcq i then d.par P.turf_acq_dwell 0
  else field (d.sodWord i 5) 0 6 + 1

/-- First opportunity of a unit (R301). -/
def firstOpp (x : Spot) (grant : Nat) : Nat := (x.units - grant) / 2

/-- The grant of a unit in a sub-column, formed anew under the cap in force until its first opportunity has come (R301, R305; DEDUCED,
log entry 171); each pixel that the Damper cap lowers is counted once (R305). -/
def Dev.grantUnit (d : Dev) (key : Nat) (rows : List Nat) (x : Spot) : Dev :=
  if ((slook key d.scan.grants).map (·.2)).getD false then d
  else
    let cap := dwellCap d.damper
    let asks := rows.map fun r => (r, min (d.askedDwell r x.col) x.units)
    let g := asks.foldl (fun a n => max a (min n.2 cap)) 0
    let begun := decide (0 < g ∧ firstOpp x g ≤ x.opp)
    let d := { d with scan := { d.scan with grants := sput key (g, begun) d.scan.grants } }
    let cut := (asks.filter fun n => begun && decide (cap < n.2) && !d.scan.cutRows.contains n.1).map (·.1)
    if cut.isEmpty then d
    else (({ d with scan := { d.scan with cutRows := cut ++ d.scan.cutRows } }).bumpBy C.SCN_DAMP_CUT_CNT cut.length).mark Reg.SCN_EVT 10

/-- A unit fires at an opportunity (R301, R303). -/
def Dev.unitFires (d : Dev) (key : Nat) (x : Spot) : Bool :=
  let g := ((slook key d.scan.grants).map (·.1)).getD 0
  !d.scan.endedUnits.contains key && decide (firstOpp x g ≤ x.opp ∧ x.opp < firstOpp x g + g)

/-- The slot of the last shot that a unit is granted. -/
def Dev.unitUntil (d : Dev) (key : Nat) (x : Spot) (groups : Nat) : Nat :=
  let g := ((slook key d.scan.grants).map (·.1)).getD 0
  d.slotNo + 1 + (firstOpp x g + g - 1 - x.opp) * groups

/-- E_used that the slot commits for a row, in 1/`energyOne` nJ: the codes in force of the segments that light it (R177, R274). -/
def Dev.rowEnergy (d : Dev) (g n row : Nat) : Nat :=
  ((List.range 256).filter fun k => d.par P.slot_seg_group k == g && d.par P.slot_seg_rows k == row / 2).foldl
    (fun a k => a + d.energyUsed k (d.blw.e.code g k) n) 0

/-- The rows of the slot are read and charged, in order (R261, R274). -/
def Dev.readRows (d : Dev) (g n col : Nat) : List Nat → Dev × List PrepRow
  | [] => (d, [])
  | r :: rs =>
    let e := d.rowEnergy g n r
    let x := d.readCharge r col e
    let y := x.1.readRows g n col rs
    (y.1, ⟨r, x.2.words, x.2.acq, x.2.gen, e, 0⟩ :: y.2)

/-- E_WIN of a direction exceeds the soft limit (R303). -/
def Dev.overSoft (d : Dev) (row col : Nat) : Bool := decide (d.eSoft < field (d.sodWord (sodIndex row col) 4) 0 24)

/-- A unit is withheld at the soft limit: its dwells end with the shots already fired (R303). -/
def Dev.withhold (d : Dev) (key : Nat) (rows : List Nat) : Dev :=
  let n := d.slotNo
  let d := { d with scan := { d.scan with endedUnits := key :: d.scan.endedUnits } }
  let d := d.modPixels fun p => if rows.contains p.row && !p.ended then { p with until_ := min p.until_ n } else p
  (d.bump C.SCN_SOFT_CNT).sticky Reg.SCN_EVT 9 Ev.scnSoft

/-- E_shot of a segment is the larger E_REQ of its rows (R302). -/
def Dev.requestSeg (d : Dev) (rows : List PrepRow) (n k : Nat) : Dev :=
  let mine := rows.filter fun r => (d.segRows k).contains r.row
  if mine.isEmpty then d else d.requestEnergy k (mine.foldl (fun a r => max a (wordField r.words 3 16 16)) 0) n

/-- E_shot of a segment whose slice is off is 0, whatever its unit does (R300). -/
def Dev.requestOff (d : Dev) (n k : Nat) : Dev := if d.joined (d.segSlice k) then d else d.requestEnergy k 0 n

/-- The sweep slot's preparation: grants, reads and charges, the soft limit, and the energies requested (R300 to R306). A unit whose every
segment has code 0 is sent NOP, and its rows receive no shot (R300, R301). -/
def Dev.prepareSweep (d : Dev) (x : Spot) (groups subcols : Nat) : Dev :=
  let slot := d.slotNo + 1
  let g := d.groupOf slot
  let pulses := d.groupPulses g
  let n := pulses.length
  let key := (x.col, x.sub)
  let d := if d.scan.subKey = some key then d
    else { d with scan := { d.scan with subKey := some key, grants := [], endedUnits := [], cutRows := [] } }
  if d.flag F.SCN_CTL_TRACK_EN && decide (d.par P.scan_track_tol 0 < max (d.loopErr 0) (d.loopErr 1)) then
    let d := { d with scan := { d.scan with prep := none } }
    (d.bump C.SCN_TRACK_SKIP_CNT).mark Reg.SCN_EVT 8
  else
    let us := ((List.range 16).map fun m => (m, d.unitSegs g m)).filter fun u => !u.2.isEmpty
    let d := us.foldl (fun (d : Dev) u => d.grantUnit (g * 16 + u.1) (d.ownRows u.2) x) d
    let d := (us.flatMap (·.2)).foldl (fun (d : Dev) k => d.requestOff n k) d
    let us := us.filter fun u => d.unitFires (g * 16 + u.1) x && !(d.unitRows u.2).isEmpty
    let rows := (us.flatMap fun u => d.unitRows u.2).eraseDups
    let r := d.readRows g n x.col rows
    let d := r.1
    let soft := us.filter fun u => (d.unitRows u.2).any fun row => d.overSoft row x.col
    let d := soft.foldl (fun (d : Dev) u => d.withhold (g * 16 + u.1) (d.unitRows u.2)) d
    let us := us.filter fun u => !soft.any fun y => y.1 == u.1
    let coded := us.filter fun u => u.2.any fun k => d.blw.e.code g k != 0
    let untilOf (row : Nat) : Nat := coded.foldl (fun (a : Nat) u =>
      if (d.unitRows u.2).contains row then max a (d.unitUntil (g * 16 + u.1) x groups) else a) 0
    let lit := (r.2.filter fun y => decide (0 < untilOf y.row)).map fun y => { y with until_ := untilOf y.row }
    let d := us.foldl (fun (d : Dev) u => u.2.foldl (fun (d : Dev) k => d.requestSeg r.2 n k) d) d
    let p : Prep := { slot := slot, group := g, pos := x.col * 4 + x.sub * (4 / max 1 subcols), cal := false, units := coded.map (·.1),
                      pulses := pulses, rows := lit }
    { d with scan := { d.scan with prep := some p } }

/-! ## Tap candidates (R225 to R230) -/

/-- The echoes that a sod predicts inside a window, with amplitude and SAT: times in fine units. -/
def predicted (ws : List Word) (win : Nat × Nat) : List (Nat × Nat × Bool) :=
  let w8 := (ws.getD 8 0#32).toNat
  let a := if bitAt w8 11 then [(wordField ws 7 0 22, wordField ws 7 22 10, bitAt w8 10)] else []
  let b := if bitAt w8 27 then [(wordField ws 9 0 22, wordField ws 9 22 10, bitAt w8 26)] else []
  (a ++ b).filter fun e => decide (win.1 * 256 ≤ e.1 ∧ e.1 < win.2 * 256)

/-- The stop window that a row takes from the words served, or from its fixed window (R107). -/
def Dev.windowFor (d : Dev) (row : Nat) (ws : List Word) : Nat × Nat :=
  let s := row / 8
  if d.forceFld (F.SLICE_EM_CTL_WIN_SRC s) = 1 then (d.forceFld (F.SLICE_EM_WIN_FIX_OPEN s), d.forceFld (F.SLICE_EM_WIN_FIX_CLOSE s))
  else (wordField ws 1 0 16, wordField ws 1 16 16)

/-- The window of a row after coercion (R107, R108). -/
def Dev.coercedFor (d : Dev) (row : Nat) (ws : List Word) : Nat × Nat :=
  let w := d.windowFor row ws
  coerceWindow (if d.twoSlotOk (row / 8) then 16000 else 8000) (d.par P.ember_win_min 0) w.1 w.2

/-- A candidate from predicted echoes `es`, their times less `shift` fine units (R226, R227, R230). -/
def Dev.tapCand (d : Dev) (row pos shot shotSlot lastPulse wo shift : Nat) (ws : List Word) (es : List (Nat × Nat × Bool)) : TapCand :=
  let prio := wordField ws 5 6 4
  let reg := d.regionOf row (pos / 4)
  let host := match reg with
    | some r => decide (prio < r.2)
    | none => false
  let ts := es.map fun e => (e.1 : Int) - shift
  { ch := row, pri := max prio ((reg.map (·.2)).getD 0), host := host, region := reg.map (·.1),
    first := ts.head?.map fun t => ts.foldl min t, last := ts.foldl max (ts.headD 0),
    x2 := !es.isEmpty && es.all fun e => decide (e.2.1 < d.par P.tap_x2_below_mv 0) && !e.2.2,
    wo := wo, lastPulse := lastPulse, pos := pos, shot := shot, shotSlot := shotSlot }

/-- The candidates among the rows that the next slot lights: echoes of a window's second slot are served one slot later (R226). -/
def Dev.litCands (d : Dev) (p : Prep) : List TapCand :=
  p.rows.filterMap fun r =>
    let w := d.coercedFor r.row r.words
    let es := predicted r.words w
    let near := es.filter fun e => decide (e.1 < 2048000)
    if es.isEmpty || !near.isEmpty then
      let shots := ((d.kiln.pixels.find? fun q => q.row == r.row && !q.ended && q.pos == p.pos).map (·.shots.length)).getD 0
      some (d.tapCand r.row p.pos shots p.slot (p.pulses.getLast?.getD 0) w.1 0 r.words near)
    else none

/-- The candidates carried over from the present slot (R226). -/
def Dev.carriedCands (d : Dev) : List TapCand :=
  match d.shot with
  | none => []
  | some x =>
    (d.kiln.pixels.filter fun p => p.twoSlot && !d.offline (p.row / 8) && d.joined (p.row / 8)).filterMap fun p =>
      match p.shots.findIdx? fun y => y.slot == x.slot with
      | none => none
      | some i =>
        let far := (predicted p.sod p.win).filter fun e => decide (2048000 ≤ e.1)
        if far.isEmpty then none
        else some (d.tapCand p.row p.pos i x.slot (x.pulses.getLast?.getD 0) p.win.1 2048000 p.sod far)

/-- The Ladles of the next slot; a turnaround slot may be 64 periods short (R224, R243). -/
def Dev.prepareTaps (d : Dev) (sweep : Bool) : Dev :=
  let d := { d with taps := { d.taps with next := [] } }
  let lit := match d.scan.prep with
    | some p => if p.cal then [] else d.litCands p
    | none => []
  let d := d.allocate (lit ++ d.carriedCands) (d.slotNo + 1) (if sweep then 8000 else 7936)
  if d.taps.cal.isSome then d.calLadles else d

/-! ## Preparation of the next slot (R20, R170, R300, R308) -/

/-- The next slot is prepared, with the values in force at its boundary. -/
def Dev.prepareIn (d : Dev) (due : Bool) : Dev :=
  let slot := d.slotNo + 1
  let none_ : Dev := { d with scan := { d.scan with prep := none } }
  match d.nextKind due with
  | .sweep x =>
    let d := if due then d.prepareSweep x (d.par P.slot_groups 0) (d.par P.scan_subcols 0)
      else d.prepareSweep x d.scan.groups d.scan.subcols
    let d := d.prepareTaps true
    match d.scan.prep with
    | some p => d.shiftE p.units p.group p.pulses.length false
    | none => d.shiftE [] 0 0 false
  | .idle => (none_.prepareTaps true).shiftE [] 0 0 false
  | .cal =>
    let g := d.groupOf slot
    let ps := d.groupPulses g
    let all := List.range d.blw.e.drivers
    let p : Prep := { slot := slot, group := g, pos := 0, cal := true, units := all, pulses := ps, rows := [] }
    let d : Dev := { d with scan := { d.scan with prep := some p } }
    (d.prepareTaps false).shiftE all 8 ps.length false
  | .turn => (none_.prepareTaps false).shiftE [] 0 0 true
  | .other => (none_.prepareTaps false).shiftE [] 0 0 false

/-- The next slot is prepared (R20): where a frame begins with it, under the values of that frame. -/
def Dev.prepareNext (d : Dev) : Dev := if d.frameDue then (d.foresee.prepareIn true).unforesee d else d.prepareIn false

/-! ## The shot of the slot that opens (R21, R104, R106, R195, R203) -/

/-- A dwell starts on a row: what it takes from its sod and from the settings in force (R24, R72, R107, R196, R203). -/
def Dev.startDwell (d : Dev) (pos : Nat) (r : PrepRow) : Dev :=
  let s := r.row / 8
  let d := if bitAt (d.chCfg r.row).toNat 2 then d.fixThresholds r.row
    else
      d.sodThresholds r.row (thrCodes (r.words.getD 0 0#32).toNat)
  let has := decide (d.framesUsed s < 64)
  let w := d.windowFor r.row r.words
  let p : Pixel :=
    { row := r.row, pos := pos, slot0 := d.slotNo, frame := (d.reg Reg.TIME_FRAME).toNat, hasFrame := has,
      overlay := d.fld F.GLB_CFG_STAT_OVERLAY, sod := r.words, acq := r.acq, gen := r.gen, dwell := wordField r.words 5 0 6 + 1,
      thr := thrCodes (d.reg (Reg.SLICE_CH_THR_LIVE s (r.row % 8))).toNat, wo := w.1, wc := w.2, twoSlot := d.twoSlotOk s,
      ctl := d.reg (Reg.SLICE_KILN_CTL s), par := d.snapshot r.row, rangeK := rangeScale (d.parI P.kiln_range_scale_ppm 0),
      until_ := r.until_ }
  let d := d.modPixels fun q => if q.row = r.row then { q with ended := true } else q
  let d : Dev := { d with kiln := { d.kiln with pixels := d.kiln.pixels ++ [p] } }
  let d := d.showOcc s
  if has then d else (d.bump (C.SLICE_KILN_ARENA_MISS_CNT s)).sticky (Reg.SLICE_KILN_STAT s) 0 (Ev.kilnArena s)

/-- A lit row receives the shot of the present slot, in a dwell that goes on or one that starts; a row of a slice held offline does
not (R306). -/
def Dev.lightRow (d : Dev) (pos : Nat) (suppressed : Bool) (r : PrepRow) : Dev :=
  if d.offline (r.row / 8) then d else
  let on (q : Pixel) : Bool := q.row == r.row && !q.ended
  let d := if d.kiln.pixels.any fun q => on q && q.pos == pos then d else d.startDwell pos r
  let x : DwellShot := { slot := d.slotNo, time := d.now, suppressed := suppressed, offsets := [], eUsed := r.eUsed }
  d.modPixels fun q => if on q then { q with shots := q.shots ++ [x], until_ := max q.until_ r.until_ } else q

/-- Chain E committed a frame for the present slot. -/
def Dev.committedNow (d : Dev) : Option Frame := d.blw.e.last.filter fun f => f.slot == d.slotNo && d.chainUp false && !d.latchHeld

/-- The slot that opens: chain E commits, the accountant charges, and the lit rows receive the shot. A shot is suppressed where the
latch is held, and where the first commit after a suppression carries NOP words in place of its units (R106, R170, R171, R375). -/
def Dev.openShot (d : Dev) (base : Nat) : Dev :=
  let d := d.commitE
  let f := d.committedNow
  let d := d.chargeCommit f.isSome
  let fires := match f with
    | some f => !f.segs.isEmpty
    | none => false
  let prep := d.scan.prep.filter fun p => p.slot == d.slotNo
  let d := { d with scan := { d.scan with prep := none } }
  match prep with
  | none => { d with shot := some { slot := d.slotNo, group := d.groupOf d.slotNo, base := base, fires := fires, suppressed := false, pulses := [] } }
  | some p =>
    let nop := match f with
      | some f => f.units.isEmpty && !p.units.isEmpty
      | none => false
    let sup := (p.cal || !p.rows.isEmpty) && (d.latchHeld || nop)
    let d := p.rows.foldl (fun (d : Dev) r => d.lightRow p.pos sup r) d
    { d with shot := some { slot := d.slotNo, group := p.group, base := base, fires := fires, suppressed := sup, cal := p.cal, pulses := p.pulses } }

/-- The slot of a shot has ended: its fire-echo edges are judged, and each dwell keeps what matching needs of it (R173, R198). -/
def Dev.closeShot (d : Dev) : Dev :=
  let d := d.refTimeout
  match d.shot with
  | none => d
  | some x =>
    let offs := x.offsets d.refTol
    let ref := (x.tref.getD (d.nominalRef x)) - x.base
    let d := d.modPixels fun p => p.modShot x.slot fun y => { y with offsets := offs, refU := ref, refEst := x.refEst }
    d.endShot x

/-- Dwells whose last shot's slot has ended are over. -/
def Dev.endSpent (d : Dev) : Dev := d.modPixels fun p => if p.until_ < d.slotNo then { p with ended := true } else p

/-! ## Phase, trims and ageing at a boundary (R33, R35, R46, R47) -/

/-- The error of the boundary at the present device time, ps: the nearest target time lies this far before it. -/
def Dev.phaseError (d : Dev) : Int :=
  let e := ((d.nowPs : Int) - d.par P.time_slot_phase_ns 0 * 1000) % 3200000
  if 1600000 < e then e - 3200000 else e

/-- The present slot may be trimmed: a turnaround or run-in slot, or any slot while no frame is swept (R47). -/
def Dev.trimmable (d : Dev) : Bool :=
  d.scanState != stRunning || decide (d.scan.frameSlots - d.scan.turnSlots ≤ d.fld F.TIME_SLOT_IN_FRAME_SLOT)

/-- The slot length that brings the next boundary nearest to its target at the rate in force, in coarse periods (R47). -/
def Dev.wantedLen (d : Dev) (e : Int) : Int := roundDiv ((3200000 - e) * 2 ^ 40) (400 * (2 ^ 40 + d.time.rate)).toNat

/-- The phase error is published, and the slot's length is chosen to reduce it. -/
def Dev.phaseAtSlot (d : Dev) : Dev :=
  let e := d.phaseError
  let d := (d.put Reg.TIME_PHASE_ERR (BitVec.ofInt 32 e)).setFlag F.TIME_STAT_PHASE_LOCK (decide (absI e < 400))
  let by_ : Int := if d.trimmable then clampI (-64) 64 (d.wantedLen e - 8000) else 0
  let d := { d with time := { d.time with slotLen := (8000 + by_).toNat } }
  if by_ = 0 then d else d.stretchPaths by_

/-- The crystal trim that waits takes effect (R33). -/
def Dev.trimAtSlot (d : Dev) : Dev :=
  match d.time.trimNext with
  | some v => { d with time := { d.time with trimNext := none } }.put Reg.TIME_XO_TRIM (BitVec.ofInt 32 v)
  | none => d

/-- The ageing move that waits takes effect: the trim term and the integrator change against each other by the same amount, which the
range of the term may cut short (R35). -/
def Dev.ageAtSlot (d : Dev) : Dev :=
  match d.time.ageMove with
  | none => d
  | some m =>
    let old := d.parI P.time_xo_age_ppb 0
    let age := clampI (-100000) 100000 (old - m)
    let moved := ppbUnits (old - age)
    let d := (d.setPar P.time_xo_age_ppb 0 (unsgn 32 age)).learnOn
    let d := { d with time := { d.time with ageMove := none, fInt := d.time.fInt - moved } }
    (d.setRate (d.time.rate - moved)).autoCommit 18

/-! ## Frame boundary (R22, R51, R55) -/

/-- Every dwell ended by a hold, a stop or a fault has produced its records: the open Ingot closes (R326). -/
def Dev.scanLeft (d : Dev) : Dev := if d.scanState != stRunning && d.kiln.pixels.isEmpty then d.closeIngot 4 else d

/-- Device time comes to the end of the present slot. -/
def Dev.toBoundary (d : Dev) : Dev := d.advance (d.time.slotLen - d.time.slotClk)

/-- One more frame for a range-zero measurement (R146). -/
def Dev.rangeZeroFrame (d : Dev) : Dev :=
  { d with bur := { d.bur with rangeZero := d.bur.rangeZero.map fun z => { z with frames := z.frames + 1 } } }

/-- A frame begins: a held step, the Ingots of the frame before, the field of that frame, the changes that wait, the sweep, and the
work of each frame (R22, R43, R51, R55, R259, R385, R485). -/
def Dev.beginFrame (d : Dev) : Dev :=
  let was := d.scanState == stRunning
  let d := d.stepAtFrame.closeIngot 1
  let d := if was then d.fieldFrame else d.fieldFresh
  let d := d.endSubst
  let d := (d.commitWaiting d.nextFrameNo).beginSweep
  let d := if d.reg Reg.TIME_FRAME = 0#32 then d.raise Ev.frameWrap else d
  let d := d.ageSweep.regionsFrame.joinFrame.retarget
  d.burnishFrame.rangeZeroFrame.liftLatch

/-- `FRAME_BOUNDARY` (R51): the boundary that ends a frame or a run-in; its slot boundary follows at the same instant. -/
def execFrameBoundary (s : State) : Host.Outcome State Fault Refusal :=
  .next (s.onDev fun _ d => if d.locked && d.frameDue && !d.scan.frameTaken then d.toBoundary.beginFrame else d)

/-! ## Turnaround (R298, R307) -/

/-- A turnaround is due: the last column interval of the sweep has ended. -/
def Dev.turnDue (d : Dev) : Bool :=
  d.scanState == stRunning && !d.scan.turned
    && decide (d.scan.frameSlots - d.scan.turnSlots - d.scan.idleSlots ≤ d.fld F.TIME_SLOT_IN_FRAME_SLOT)

/-- The turnaround begins with its idle slots: the plan of the next frame, the curves, output A, and substitutions. -/
def Dev.startTurn (d : Dev) : Dev := d.beginTurn.safetyTurn.runSubst

/-- `TURNAROUND_START` (R298). -/
def execTurnaroundStart (s : State) : Host.Outcome State Fault Refusal :=
  .next (s.onDev fun _ d => if d.locked && d.turnDue then d.startTurn else d)

/-! ## Slot boundary (R21, R45) -/

/-- What holds, stops and faults do at a slot boundary (R21, R291, R311, R313). -/
def Dev.actWaiting (d : Dev) : Dev :=
  let d := if d.scan.holdNext || d.scan.stopNext then d.actHold else d
  if d.scan.faultNext then
    let d := d.endDwells
    { d with scan := { d.scan with faultNext := false, prep := none, grants := [], endedUnits := [], subKey := none } }
  else d

/-- The slot counts go on (R45, R51, R310). -/
def Dev.countSlot (d : Dev) : Dev :=
  let d := d.putWide Reg.TIME_SLOT_LO (d.slotNo + 1)
  let i := d.fld F.TIME_SLOT_IN_FRAME_SLOT
  let d := if d.scan.frameTaken then d.setFld F.TIME_SLOT_IN_FRAME_SLOT 0
    else if d.scanState = stRunning then d.setFld F.TIME_SLOT_IN_FRAME_SLOT (i + 1) else d
  { d with time := { d.time with slotStart := d.time.ticks, slotClk := 0 },
           scan := { d.scan with frameTaken := false, runInLeft := d.scan.runInLeft - 1 } }

/-- What the boundary opens: settings that waited, the shot, the taps, and the outputs of the safety island. -/
def Dev.openSlot (d : Dev) : Dev :=
  let base := 4096 * d.time.slotStart
  let d := d.endSpent.releaseHeld.showTapGroups.retargetTaps
  let d := ((d.windowAt d.slotNo).openShot base)
  let d := d.idleAtBoundary base ((d.shot.map (·.cal)).getD false)
  let d := { d with taps := { d.taps with ladles := d.taps.next, next := [] } }
  let d := d.outputA
  if d.scanState != stRunning then d.beginTestA
  else if d.fld F.TIME_SLOT_IN_FRAME_SLOT + d.scan.turnSlots == d.scan.frameSlots then d.reserveTest else d

/-- What follows a boundary in the open: trims, steps, clears, and changes that wait for no frame. -/
def Dev.settleSlot (d : Dev) : Dev :=
  let d := d.trimAtSlot.ageAtSlot.placeHeld.phaseAtSlot
  let d := d.clearAtBoundary.dumpAtSlot.sweepAllDone.commitAtRest.scanLeft
  if d.scanState != stRunning then d.endSubst else d

/-- A slot boundary (R45), in the order of R21. A frame boundary, a turnaround or an accountant decision whose own row has not come is
made up for. -/
def Dev.slotBoundary (d : Dev) (found : List SramFind) : Dev :=
  let d := if d.turnDue then d.startTurn else d
  let d := d.accountant.toBoundary.actWaiting
  let d := if d.frameDue && !d.scan.frameTaken then d.beginFrame else d
  let d := d.closeShot.chansAtBoundary (4096 * d.time.ticks)
  let d := d.countSlot.openSlot.settleSlot
  (found.foldl Dev.sramFind d).prepareNext

/-- `SLOT_BOUNDARY` (R45): slot boundaries exist while the PLL is locked. `found` is what the reads of this boundary find in SRAM. -/
def execSlotBoundary (found : List SramFind) (s : State) : Host.Outcome State Fault Refusal :=
  .next (s.onDev fun _ d => if d.locked then d.slotBoundary found else d)

/-! ## Pixels (R19, R213, R214, R319 to R324, R334) -/

/-- A verdict replaces a class of 1 to 4 (R212, R242). -/
def Echo.judged (e : Echo) (v : Option Nat) : Echo :=
  match v with
  | some v => if 1 ≤ e.cls ∧ e.cls ≤ 4 then { e with cls := v } else e
  | none => e

/-- The flags that every record of a pixel carries (R321), as bits of words 0 to 3. -/
structure PixelFlags where
  wx : Bool
  multi : Bool
  edge : Bool
  deriving DecidableEq, Repr

/-- The words of a record without TOFF: an echo with its index, or the empty record (R319, R323). -/
def recordWords (p : Pixel) (f : PixelFlags) (i : Nat) (e : Option Echo) (tap pf : Bool) (twin : Nat) : List Word :=
  let x (g : Echo → Nat) : Nat := (e.map g).getD 0
  let sat := (e.map (·.sat)).getD false
  [BitVec.ofNat 32 (x (·.range) + 2 ^ 22 * i + 2 ^ 24 * x (·.cls) + 2 ^ 28 * b2n p.ovf + 2 ^ 29 * b2n sat + 2 ^ 30 * b2n p.cal
      + 2 ^ 31 * b2n p.nearFlag),
   BitVec.ofNat 32 (p.row + 2 ^ 9 * p.pos + 2 ^ 19 * x (·.intensity) + 2 ^ 31 * b2n p.acq),
   BitVec.ofNat 32 (x (·.width) + 2 ^ 8 * x (·.conf) + 2 ^ 30 * b2n p.int_ + 2 ^ 31 * b2n tap),
   BitVec.ofNat 32 (twin + 2 ^ 12 * (p.overlay % 16) + 2 ^ 16 * p.gen + 2 ^ 24 * b2n f.wx + 2 ^ 25 * b2n pf + 2 ^ 26 * b2n p.lowShot
      + 2 ^ 27 * b2n f.multi + 2 ^ 28 * b2n f.edge)]

/-- The indices kept of echoes with these confidences when only `n` credits are left: the highest, ties to the lower index (R324). -/
def keepBest (confs : List Nat) (n : Nat) : List Nat :=
  let better (i j : Nat) : Bool := decide (confs.getD j 0 < confs.getD i 0) || (confs.getD j 0 == confs.getD i 0 && decide (i < j))
  (List.range confs.length).filter fun i => decide (((List.range confs.length).filter fun j => better j i).length < n)

/-- TAP and TWIN of an echo (R241, R321). -/
def Dev.tapOf (_d : Dev) (l : Option TapWin × Option Nat) : Bool × Nat :=
  match l.1 with
  | some w => (l.2.isSome, if w.ladle.store = 0 then 0xFFF else w.ladle.shot * 2 + w.ladle.ord)
  | none => (false, 0xFFF)

/-- PF of a range (R321). -/
def Dev.pfOf (d : Dev) (p : Pixel) (range : Nat) : Bool :=
  let z := d.clearRange p.row p.pos
  d.fnB && z != 0 && decide (range ≤ 40 * z)

/-- The records of a pixel by echo (R319, R323): confidence and words. -/
def Dev.pixelWords (d : Dev) (p : Pixel) (f : PixelFlags) (es : List Echo) (ls : List (Option TapWin × Option Nat)) : List (Nat × List Word) :=
  if es.isEmpty then
    if d.flag F.ING_CTL_EMPTY_REC then [(0, recordWords p f 0 none false false 0xFFF)] else []
  else es.mapIdx fun i e =>
    let t := d.tapOf (ls.getD i (none, none))
    (e.conf, recordWords p f i (some e) t.1 (d.pfOf p e.range) t.2)

/-- The record time of a pixel, ns: the boundary of the last shot of its dwell (R320). -/
def Pixel.time (p : Pixel) : Nat := (p.shots.getLast?.map (·.time)).getD 0

/-- The records take credit and enter staging (R324, R331); an uncorrectable byte of staging drops them (R521). -/
def Dev.emitRecords (d : Dev) (p : Pixel) (ws : List (Nat × List Word)) (stagingUe : Bool) : Dev :=
  let s := p.row / 8
  let d := d.refill
  let keep := keepBest (ws.map (·.1)) (d.credit s)
  let out := keep.filterMap fun i => (ws[i]?).map (·.2)
  let d := (d.takeCredit s out.length).budgetRecords (ws.length - out.length)
  if stagingUe && !out.isEmpty then d.noteSramUe.dropRecords out.length
  else d.stage { time := p.time, frame := p.frame, pos := p.pos, overlay := p.overlay, words := out }

/-- The histogram is exported where its region asks for it (R334, R335). -/
def Dev.exportHist (d : Dev) (p : Pixel) (necho : Nat) : Dev :=
  if d.inHistRegion p.row p.pos then
    let w := p.win
    d.queueHist { frame := p.frame, time := p.time, row := p.row, pos := p.pos, wo := w.1, wc := w.2, bkg := p.bkg,
                  shots := p.fired.length, gen := p.gen,
                  flags := b2n (p.binW == 4096) + 2 * b2n p.ovf + 4 * b2n p.cal + 8 * b2n p.acq, overlay := p.overlay % 16,
                  necho := necho, bins := p.hist }
  else d

/-- The best echo of a dwell, by confidence, ties to the lower index. -/
def bestEcho (es : List Echo) : Option Echo :=
  es.foldl (fun (a : Option Echo) e => match a with
    | some b => if b.conf < e.conf then some e else a
    | none => some e) none

/-- A dwell at the measured column enters a range-zero measurement (R146). -/
def Dev.rangeZeroPixel (d : Dev) (p : Pixel) (es : List Echo) : Dev :=
  let add (z : RangeZero) : RangeZero :=
    if z.rowFirst ≤ p.row ∧ p.row ≤ z.rowLast ∧ p.pos / 4 = z.col ∧ z.full p.row = false then
      z.add p.row p.fired.length ((bestEcho es).map (·.te))
    else z
  { d with bur := { d.bur with rangeZero := d.bur.rangeZero.map add } }

/-- The results of a pixel that had its frame: records, histogram, trim pairs, and the copy to the safety island (R214, R382). -/
def Dev.pixelResults (d : Dev) (p : Pixel) (es : List Echo) (ls : List (Option TapWin × Option Nat)) (edge stagingUe : Bool) : Dev :=
  let s := p.row / 8
  let final := es.mapIdx fun i e => e.judged (ls.getD i (none, none)).2
  let f : PixelFlags := { wx := final.any (fun (e : Echo) => e.cls == 3 || e.cls == 4), multi := decide (2 ≤ es.length), edge := edge }
  let ws := d.pixelWords p f final ls
  let d := (d.rangeZeroPixel p es).trimPairs p
  let d := if d.fnB then
      { d with safe := { d.safe with copies := d.safe.copies ++
          [⟨p.row, p.pos, p.fired.length, p.ovf, final.map fun (e : Echo) => (e.range, e.cls, e.conf)⟩] } }
    else d
  let d := (d.bump (C.SLICE_KILN_PIX s)).bumpBy (C.SLICE_KILN_ECHO s) es.length
  (d.exportHist p es.length).emitRecords p ws stagingUe

/-- A pixel whose dwell is over and whose summaries have come is completed (R19): its results, its sod update, and the end of its
frame. A pixel without a frame, or whose frame is uncorrectable, gives no result (R196, R521). -/
def Dev.completePixel (d : Dev) (p : Pixel) (arenaUe stagingUe : Bool) : Dev :=
  let bad := arenaUe && p.hasFrame
  let d := if bad then d.noteSramUe else d
  let q : Pixel := if bad then { p with hasFrame := false } else p
  let es := d.pixelEchoes q
  let ls := d.links q es
  let d := d.echoFree q
  let wxTap := ls.any fun l => l.2 == some 3 || l.2 == some 4
  let edge := bitAt ((d.formUpdate q (!q.hasFrame) es wxTap).1.getD 6 0#32).toNat 5
  let d := if q.hasFrame then d.pixelResults q es ls edge stagingUe else d
  let d := (d.updateSod q (!q.hasFrame) es wxTap).dropWindows q
  let d := { d with kiln := { d.kiln with pixels := d.kiln.pixels.filter fun x => !(x.row == p.row && x.slot0 == p.slot0) } }
  (d.showOcc (p.row / 8)).scanLeft

/-- `PIXEL_COMPLETE` (R19): the oldest pixel that is ready. -/
def execPixelComplete (arenaUe stagingUe : Bool) (s : State) : Host.Outcome State Fault Refusal :=
  .next (s.onDev fun _ d =>
    match d.kiln.pixels.find? Pixel.ready with
    | some p => d.completePixel p arenaUe stagingUe
    | none => d)

end Sys2Proof.Machine
end

