-- ==== Sys2Proof/Machine/Registers.lean ====
section
/-! DEFINITION. Accesses to the BARs (chapters 14, 21 and 22): what a register reads as, the reads that change something, the
writes that clear bits, and a write of any register, of BAR2 and of the configuration bits. -/

namespace Sys2Proof.Machine

/-! ## What a register reads as (R620, R624, R625) -/

/-- A 64-bit value as a read of its LO half snapshots it. -/
def Dev.view64 (d : Dev) (lo : Nat) : Nat :=
  if lo = Reg.TIME_NOW_LO then d.now
  else if lo = Reg.PEER_ID_LO ∨ lo = Reg.SEC_DEVICE_ID_LO then Config.deviceId.toNat
  else d.wide64 lo

/-- `SLICE_EM_CH`: the queue of a slice that is off reads empty (R124, R625). -/
def Dev.emChView (d : Dev) (s c : Nat) : Word :=
  let x := d.chan (8 * s + c)
  BitVec.ofNat 32 ((if d.domOn s then x.queue.length else 0) + 2 ^ 16 * x.hwm)

/-- Progress of a TDC's block, in 1/256 of `burnish.min_events` (R154). -/
def Dev.burFill (d : Dev) (t : Nat) : Nat := min 255 (256 * (d.tdc t).block.total / max 1 (d.par P.burnish_min_events 0))

/-- `SLICE_BUR_CH` (R154). -/
def Dev.burChView (d : Dev) (s c : Nat) : Word :=
  let t := 8 * s + c
  withField (withField (d.reg (Reg.SLICE_BUR_CH s c)) 0 8 (if d.domOn s then d.burFill t else 0)) 16 1 (b2n (d.resultValid s t))

/-- `KILN_BUR_REF_ACT` (R155). -/
def Dev.refActView (d : Dev) : Word :=
  withField (d.reg Reg.KILN_BUR_REF_ACT) 2 4
    (b2n (d.burSlice 64).pending + 2 * b2n (d.burSlice 65).pending + 4 * b2n (d.resultValid 64 512) + 8 * b2n (d.resultValid 65 513))

/-- `KILN_BUR_REF_STAT` (R155). -/
def Dev.refStatView (d : Dev) : Word := withField (withField (d.reg Reg.KILN_BUR_REF_STAT) 0 8 (d.burFill 512)) 16 8 (d.burFill 513)

/-- The registers of a slice. -/
def Dev.sliceView (d : Dev) (a : Nat) : Word :=
  let s := (a - 0x080000) / 0x1000
  let o := a % 0x1000
  if o = 0x004 then BitVec.ofNat 32 (d.pendingMask s)
  else if 0x200 ≤ o ∧ o < 0x220 then d.emChView s ((o - 0x200) / 4)
  else if 0x380 ≤ o ∧ o < 0x3A0 then d.burChView s ((o - 0x380) / 4)
  else if o = 0x408 ∧ d.domOn s = false then withField (d.reg a) 0 7 0
  else d.reg a

/-- `SAFE_STAT` (R402). -/
def Dev.safeStatView (d : Dev) : Word :=
  withField (withField (d.reg Reg.SAFE_STAT) 11 1 (d.par P.safe_b_restart 0)) 12 1 (d.par P.safe_start_mode 0)

/-- ms since the last passed test of a switch, saturating (R401). -/
def Dev.testAge (d : Dev) (i : Nat) : Nat := min 65535 ((d.switch i).since / 100)

/-- `GLB_STAT` (R629). -/
def Dev.glbStatView (d : Dev) : Word :=
  let x := withField (d.reg Reg.GLB_STAT) 1 1 (d.fld F.CMDQ_STAT_READY)
  withField (withField (withField x 2 1 (d.fld F.MEM_STAT_ACTIVE)) 3 1 (d.fld F.SAFE_STAT_COMMISSIONED)) 4 1 (d.fld F.SAFE_STAT_LOCK)

/-- `GLB_ENG_STAT` of engine `e` (R630). -/
def Dev.engView (d : Dev) (e : Nat) : Word :=
  let x := d.reg (Reg.GLB_ENG_STAT e)
  if field x 0 2 = 0 then withField x 0 2 (b2n (d.engineOn e)) else x

/-- `SEC_STAT` (R603). -/
def Dev.secStatView (d : Dev) : Word :=
  let r := d.rst
  BitVec.ofNat 32 (r.shadow.lifecycle + 2 ^ 3 * r.running + 2 ^ 4 * r.preferred + 2 ^ 5 * b2n r.staged + 2 ^ 6 * r.shadow.revoked
    + 2 ^ 8 * b2n r.shadow.identity + 2 ^ 9 * b2n r.life.isSome)

/-- What a BAR0 register reads as: those that follow the rest of the part, the halves of pairs, and what is stored. -/
def Dev.view (d : Dev) (a : Nat) : Word :=
  if 0x080000 ≤ a ∧ a < 0x0C0000 ∧ ((regRow? a).map (·.half)) ≠ some .lo then d.sliceView a
  else if ((regRow? a).map (·.half)) = some .lo then BitVec.ofNat 32 (d.view64 a)
  else if a = Reg.TIME_STAT then d.timeStat
  else if a = Reg.KILN_BUR_REF_ACT then d.refActView
  else if a = Reg.KILN_BUR_REF_STAT then d.refStatView
  else if a = Reg.KILN_RANGE_K then BitVec.ofNat 24 (rangeScale (d.parI P.kiln_range_scale_ppm 0)) |>.setWidth 32
  else if a = Reg.KILN_CLASS_ID then (if d.flag F.GLB_STAT_RESTORED then BitVec.ofNat 32 d.classId else 0#32)
  else if a = Reg.BLW_CODE_CHK then (if d.flag F.GLB_STAT_RESTORED then d.codeChk else 0#32)
  else if a = Reg.TURF_STAT then withField (d.reg a) 0 8 d.gNow
  else if a = Reg.SCN_SOFT_E then (if d.safe.running then BitVec.ofNat 32 (d.eSoft + 2 ^ 24 * (d.safe.window % 64)) else 0#32)
  else if a = Reg.SAFE_STAT then d.safeStatView
  else if a = Reg.SAFE_CHECK_LIVE then (if d.safe.running then BitVec.ofNat 32 d.checkLive else 0#32)
  else if a = Reg.SAFE_WIN then (if d.safe.running then
      withField (withField 0#32 (F.SAFE_WIN_SLOTS).lo (F.SAFE_WIN_SLOTS).width d.winSlots)
        (F.SAFE_WIN_WIN_NO).lo (F.SAFE_WIN_WIN_NO).width (d.safe.window % 64)
    else 0#32)
  else if a = Reg.SAFE_E_BUDGET then (if d.safe.running then BitVec.ofNat 32 d.eBudget else 0#32)
  else if a = Reg.SAFE_TEST_A then BitVec.ofNat 32 (d.testAge 0 + 2 ^ 16 * d.testAge 1)
  else if a = Reg.SAFE_TEST_B then BitVec.ofNat 32 (d.testAge 2 + 2 ^ 16 * d.testAge 3)
  else if a = Reg.CMDQ_STAT then withField (d.reg a) 1 1 (d.fld F.GLB_STAT_RESTORED)
  else if a = Reg.CMDQ_DECLARE then 0#32
  else if a = Reg.MEM_WMB_STAT then BitVec.ofNat 32 (min 8192 d.memc.lines.length + 2 ^ 14 * b2n (decide (8192 < d.memc.lines.length)))
  else if Reg.HK_CAL 0 ≤ a ∧ a < Reg.HK_CAL 36 then BitVec.ofNat 32 (d.par P.hk_cal ((a - Reg.HK_CAL 0) / 4))
  else if a = Reg.SEC_STAT then d.secStatView
  else if a = Reg.SEC_FLOOR then BitVec.ofNat 32 d.rst.fuses.floor
  else if a = Reg.SEC_SEQ then BitVec.ofNat 32 d.rst.fuses.seq
  else if a = Reg.SEC_SVC then BitVec.ofNat 32 d.rst.fuses.svc
  else if a = Reg.GLB_STAT then d.glbStatView
  else if Reg.GLB_ENG_STAT 0 ≤ a ∧ a < Reg.GLB_ENG_STAT 64 then d.engView ((a - Reg.GLB_ENG_STAT 0) / 4)
  else d.reg a

/-! ## Reads that change something (R11, R624) -/

/-- Data returned for a register read. -/
def Dev.returned (d : Dev) (v : Word) : Dev := { d with host := { d.host with regRead := v } }

/-- A read of the LO half of a pair: bits [31:0] are returned, and HI takes bits [63:32] in the same snapshot. -/
def Dev.readLo (d : Dev) (a : Nat) : Dev :=
  let v := d.view64 a
  (d.put (a + 4) (BitVec.ofNat 32 (v / 2 ^ 32))).returned (BitVec.ofNat 32 v)

/-- `PAIR_LO_READ` (R624). -/
def execPairLoRead (addr : Nat) (s : State) : Host.Outcome State Fault Refusal :=
  .next (s.onBar fun _ d => if (regRow? addr).any (·.half == .lo) then d.readLo addr else d)

/-- Clear the RC fields of a register. -/
def Dev.clearRc (d : Dev) (a : Nat) (fs : List FieldRow) : Dev :=
  let s := (a - 0x080000) / 0x1000
  if Reg.SLICE_EM_CH 0 0 ≤ a ∧ a < 0x0C0000 ∧ 0x200 ≤ a % 0x1000 ∧ a % 0x1000 < 0x220 then
    let ch := 8 * s + (a % 0x1000 - 0x200) / 4
    d.setChan ch { d.chan ch with hwm := 0 }
  else d.put a ((fs.filter (·.acc == .rc)).foldl (fun w f => withField w f.lo f.width 0) (d.reg a))

/-- `RC_FIELD_READ` (R11): the read returns the register and clears its RC fields. -/
def execRcFieldRead (addr : Nat) (s : State) : Host.Outcome State Fault Refusal :=
  .next (s.onBar fun _ d =>
    match regRow? addr with
    | some r => if r.fields.any (·.acc == .rc) then (d.returned (d.view addr)).clearRc addr r.fields else d
    | none => d)

/-! ## Writes that clear bits (R11, R611, R614, R623) -/

/-- The W1C bits of a register. -/
def w1cMask (fs : List FieldRow) : Word :=
  (fs.filter (·.acc == .w1c)).foldl (fun w f => withField w f.lo f.width (2 ^ f.width - 1)) 0#32

/-- A W1C write of a register. -/
def Dev.clearBits (d : Dev) (a : Nat) (fs : List FieldRow) (v : Word) : Dev := d.put a (d.reg a &&& ~~~(v &&& w1cMask fs))

/-- `EVT_PEND_CLEAR` (R611). -/
def execEvtPendClear (word : Fin 20) (value : Word) (s : State) : Host.Outcome State Fault Refusal :=
  .next (s.onBar fun _ d => d.put (Reg.EVT_PEND word.val) (d.reg (Reg.EVT_PEND word.val) &&& ~~~value))

/-- A W1C write of a SAT register: each counter whose set SAT bit is written 1 becomes zero, and the bit clears (R614). -/
def Dev.clearSat (d : Dev) (cs : List Cnt) (v : Word) : Dev :=
  (cs.filter fun c => bitAt v.toNat c.bit && d.bit c.sat c.bit).foldl (fun d c => (d.setCnt c 0).setBit c.sat c.bit false) d

/-- `SAT_BIT_CLEAR` (R614). -/
def execSatBitClear (addr : Nat) (value : Word) (s : State) : Host.Outcome State Fault Refusal :=
  .next (s.onBar fun _ d =>
    match satCounters addr with
    | some cs => d.clearSat cs value
    | none => d)

/-- The register holds sticky bits: W1C fields that are no SAT bits. -/
def stickyReg (a : Nat) (r : RegRow) : Bool := (satCounters a).isNone && r.fields.any (·.acc == .w1c)

/-- `STICKY_BIT_CLEAR` (R623). -/
def execStickyBitClear (addr : Nat) (value : Word) (s : State) : Host.Outcome State Fault Refusal :=
  .next (s.onBar fun _ d =>
    match regRow? addr with
    | some r => if stickyReg addr r then d.clearBits addr r.fields value else d
    | none => d)

/-! ## Doorbells (R436 to R438, R445) -/

/-- A well-formed `time.mark`. -/
def isMark (p : Packet) : Bool := p.opcode == 0x0102#16 && formError p == 0

/-- The fast path takes a packet: a well-formed `time.mark` with the capture of its doorbell, `scan.hold` or `emit.stop`. -/
def fastBody (p : Packet) (cap : Nat) (last : Bool) : Option Body :=
  if formError p ≠ 0 then none
  else if p.opcode = 0x0102#16 then some (bodyTimeMark cap last)
  else if p.opcode = 0x0203#16 then some bodyScanHold
  else if p.opcode = 0x0301#16 then some bodyEmitStop
  else none

/-- The doorbell's commands: those in queue memory, or those that the host memory of the pair holds. -/
def Dev.coveredBy (d : Dev) (q n : Nat) (host : List Packet) : List Packet :=
  let t := (d.pair q).sqTail
  (List.range n).map fun i =>
    if d.inHost q then host.getD i (packetOf (leNat ((({ d with freeCtr := d.freeCtr + 8 * i }).freeBytes 8)))) else packetOf (d.queueAt (sqEntry q (t + i)) 16)

/-- The commands of a doorbell are examined in order: those of the fast path act, where two entries of the completion queue are
free. Every mark has the capture `cap` of the doorbell, and the last well-formed one runs the servo (R41; DEDUCED, log entry 155). -/
def Dev.examine (d : Dev) (q cap : Nat) (mem : List Host.Cell) : List Packet → Dev
  | [] => d
  | p :: ps =>
    let last := isMark p && !ps.any isMark
    let act (d : Dev) : Dev × Bool :=
      match fastBody p cap last with
      | some b => if 2 ≤ d.cqFree q then (d.fastAct q p d.time.ticks b mem, true) else (d, false)
      | none => (d, false)
    let r := act d
    let pr := r.1.pair q
    (r.1.setPair q { pr with rung := pr.rung ++ [⟨p, d.time.ticks, d.cmd.bells, r.2, cap, last⟩] }).examine q cap mem ps

/-- A write of `CMDQ_DB_SQ_TAIL` (R437). The commands that a pair covers while it does not take commands are never executed. -/
def Dev.ringSq (d : Dev) (q : Nat) (tail : Word) (host : List Packet) (mem : List Host.Cell) : Dev :=
  if d.flag F.CMDQ_STAT_DECLARED then d
  else
    let pr := d.pair q
    let n := serialAhead pr.sqTail tail.toNat
    if n < 2 ^ 31 ∧ serialAhead pr.sqHead tail.toNat ≤ d.sqDepth q then
      let ps := d.coveredBy q n host
      let d : Dev := if d.inHost q then { d with freeCtr := d.freeCtr + 8 * n } else d
      let d := d.setPair q { pr with sqTail := tail.toNat }
      if d.pairOpen q then (d.examine q d.capture mem ps).nextBell else d
    else (d.mark (Reg.CMDQ_Q_EVT q) 0).bump C.CMDQ_DB_ERR_CNT

/-- `SQ_DOORBELL` (R437): for a pair in host memory, `covered` is what its entries hold. -/
def execSqDoorbell (pair : Fin 16) (tail : Word) (covered : List Packet) (s : State) : Host.Outcome State Fault Refusal :=
  .next (s.onBar fun mem d => d.ringSq pair.val tail covered mem)

/-- A write of `CMDQ_DB_CQ_HEAD` (R437). -/
def Dev.ringCq (d : Dev) (q : Nat) (head : Word) : Dev :=
  if d.flag F.CMDQ_STAT_DECLARED then d
  else
    let pr := d.pair q
    let n := serialAhead pr.cqHead head.toNat
    if n ≤ serialAhead pr.cqHead pr.cqTail then d.setPair q { pr with cqHead := head.toNat, replies := pr.replies.drop n }
    else d.mark (Reg.CMDQ_Q_EVT q) 1

/-- `CQ_HEAD_WRITE` (R437). -/
def execCqHeadWrite (pair : Fin 16) (head : Word) (s : State) : Host.Outcome State Fault Refusal :=
  .next (s.onBar fun _ d => d.ringCq pair.val head)

/-- One covered entry is fetched (R438): an entry that the fast path has answered passes; one whose queue memory is uncorrectable is
refused (R521); a fast-path command that waited for free entries acts now. -/
def Dev.fetch (d : Dev) (q : Nat) (ue : Bool) (mem : List Host.Cell) : Dev :=
  let pr := d.pair q
  match pr.rung with
  | [] => d
  | w :: rest =>
    if w.late then d.setPair q { pr with rung := rest, sqHead := (pr.sqHead + 1) % 2 ^ 32, nFetched := pr.nFetched + 1 }
    else if d.cqFree q < 2 then d
    else
      let d := d.setPair q { pr with rung := rest }
      if ue && !d.inHost q then
        let d := (d.fetchAt q w).noteSramUe
        let d := d.setPair q { d.pair q with fetched := (d.pair q).fetched.dropLast }
        (d.noteLatency q w.rung).refusal q w.pkt 0x0106 []
      else
        match fastBody w.pkt w.cap w.last with
        | some b =>
          let d := d.setPair q { d.pair q with sqHead := (pr.sqHead + 1) % 2 ^ 32, nFetched := pr.nFetched + 1 }
          d.fastAct q w.pkt w.rung b mem
        | none => (d.fetchAt q w).refuseUnknown 16384 q

/-- `COMMAND_FETCH` (R438). -/
def execCommandFetch (pair : Fin 16) (queueUe : Bool) (s : State) : Host.Outcome State Fault Refusal :=
  .next (s.onDev fun mem d => if d.pairOpen pair.val then d.fetch pair.val queueUe mem else d)

/-- The oldest command of a pair that waits for its first reply and whose deadline runs (R444): a FENCE has no deadline before its
condition is met. The mark says that its deadline has been counted. -/
def Dev.missOne (d : Dev) (q : Nat) : List Waiting → Option (List Waiting)
  | [] => none
  | w :: rest =>
    if bitAt w.pkt.flags.toNat 0 && decide (d.countRunning q ≠ 0) then none
    else if w.late then (d.missOne q rest).map (w :: ·)
    else some ({ w with late := true } :: rest)

/-- A deadline is missed. -/
def Dev.ackMiss (d : Dev) (q : Nat) : Dev :=
  let pr := d.pair q
  match d.missOne q pr.fetched with
  | none => d
  | some l =>
    let d := (d.setPair q { pr with fetched := l, nMiss := pr.nMiss + 1 }).bump C.CMDQ_ACK_MISS_CNT
    let said := d.bit (Reg.CMDQ_Q_EVT q) 2
    let d := d.mark (Reg.CMDQ_Q_EVT q) 2
    if said then d else d.raise Ev.ackMiss q (d.reg (Reg.CMDQ_Q_ACK_LAT q)).toNat

/-- `ACK_DEADLINE_MISS` (R444). -/
def execAckDeadlineMiss (pair : Fin 16) (s : State) : Host.Outcome State Fault Refusal :=
  .next (s.onDev fun _ d => if d.pairLive pair.val then d.ackMiss pair.val else d)

/-! ## Any register (R412, R413, R620) -/

/-- A write of one 32-bit register of BAR0. -/
def Dev.write0 (d : Dev) (a : Nat) (v : Word) : Dev :=
  match satCounters a with
  | some cs => d.clearSat cs v
  | none =>
    match regRow? a with
    | some r => if stickyReg a r then d.clearBits a r.fields v else d.writeReg a v
    | none => d

/-- A write of one word of the MSI-X table: the entry's address, data and mask (R412, R425). -/
def Dev.writeMsix (d : Dev) (a : Nat) (v : Word) : Dev :=
  let n := (a - 0x10000) / 16
  let e := d.msix n
  match a % 16 / 4 with
  | 0 => d.setMsix n { e with addr := BitVec.ofNat 64 (2 ^ 32 * (e.addr.toNat / 2 ^ 32) + v.toNat) }
  | 1 => d.setMsix n { e with addr := BitVec.ofNat 64 (e.addr.toNat % 2 ^ 32 + 2 ^ 32 * v.toNat) }
  | 2 => d.setMsix n { e with data := v }
  | _ => (d.setMsix n { e with masked := bitAt v.toNat 0 }).sendPending

/-- A write of one word of BAR2: doorbells, MSI-X table, queue memory; other offsets are reserved. -/
def Dev.write2 (d : Dev) (a : Nat) (v : Word) (mem : List Host.Cell) : Dev :=
  if a < 0x10000 then
    if a % 0x1000 = 0 then d.ringSq (a / 0x1000) v [] mem
    else if a % 0x1000 = 0xC then d.ringCq (a / 0x1000) v
    else d
  else if a < 0x10400 then d.writeMsix a v
  else if 0x80000 ≤ a ∧ a < 0x100000 then d.putQueue a 1 v.toNat
  else d

/-- A write of `size` bytes through a BAR of `top` bytes: 4 or 8 bytes, naturally aligned; any other is counted (R413). -/
def Dev.writeBar (d : Dev) (top a size : Nat) (v : Wide) (one : Dev → Nat → Word → Dev) : Dev :=
  if top ≤ a then d
  else if (size = 4 ∨ size = 8) ∧ a % size = 0 then
    let d := one d a (BitVec.ofNat 32 v.toNat)
    if size = 8 then one d (a + 4) (BitVec.ofNat 32 (v.toNat / 2 ^ 32)) else d
  else d.bump C.GLB_BAD_ACCESS_CNT

/-- A write of a configuration bit (R416, R417, R424 to R426). In PCIe-only mode the bits of the CXL structures are absent (R409). -/
def Dev.writeCfg (d : Dev) (b : CfgBit) (on : Bool) : Dev :=
  if !d.cxlMode && (b == .memEnable || b == .biEnable || b == .cacheEnable) then d
  else match b with
  | .memEnable => { d with host := { d.host with memEnable := on } }
  | .biEnable => { d with host := { d.host with biEnable := on } }
  | .cacheEnable => if on then { d with host := { d.host with cacheEnable := true } } else d.clearEnable false
  | .busMaster => if on then (d.unmask .busMaster).sendPending else d.clearEnable true
  | .msixEnable => if on then (d.unmask .msixEnable).sendPending else { d with host := { d.host with msixEnable := false } }
  | .msixFunctionMask => if on then { d with host := { d.host with msixMask := true } } else (d.unmask .function).sendPending

/-- A register write. Configuration space answers in D3hot; the BARs do not (R430). -/
def Dev.writeAny (d : Dev) (t : RegTarget) (size : Nat) (v : Wide) (mem : List Host.Cell) : Dev :=
  match t with
  | .bar0 a => if d.barOpen then d.writeBar 0x200000 a size v Dev.write0 else d
  | .bar2 a => if d.barOpen then d.writeBar 0x100000 a size v fun d a v => d.write2 a v mem else d
  | .config b => if d.answersConfig then d.writeCfg b (v.getLsbD 0) else d
  | .barBase b => if d.answersConfig then d.setBarBase b.val v.toNat else d
  | .doe p => if d.answersConfig then d.doeRequest p else d
  | .errorStatus => if d.answersConfig then d.clearErrors v.toNat else d

/-- `REGISTER_WRITE` (R620, R622). -/
def execRegisterWrite (target : RegTarget) (size : Nat) (value : Wide) (s : State) : Host.Outcome State Fault Refusal :=
  .next (s.onDev fun mem d => d.writeAny target size value mem)

end Sys2Proof.Machine
end

