-- ==== Sys2Proof/Machine/System.lean ====
section
/-! DEFINITION. The system, telemetry and debug groups (R459, R472, R616, R617), and the completion of commands that read or write
device memory (R448). -/

namespace Sys2Proof.Machine

/-! ## System group (R459) -/

/-- `sys.nop`. -/
def bodySysNop : Body := fun _ _ d => .ok d []

/-- SYS_NOP (R459). -/
def execSysNop (c : Cmd) (s : State) : Host.Outcome State Fault Refusal := .next (s.onDev (runCmd 0x0001 c bodySysNop))

/-- `sys.ident`. -/
def bodySysIdent : Body := fun _ _ d =>
  .ok d (leBytes 1 2 ++ leBytes 1 d.rst.shadow.lifecycle ++ leBytes 1 (if Config.sixteenGiB then 16 else 8)
    ++ leBytes 1 (d.fld F.GLB_HOST_MODE) ++ leBytes 4 (d.reg Reg.SEC_FW_VER).toNat ++ leBytes 8 Config.deviceId.toNat ++ leBytes 2 d.bookId)

/-- SYS_IDENT (R459). -/
def execSysIdent (c : Cmd) (s : State) : Host.Outcome State Fault Refusal := .next (s.onDev (runCmd 0x0002 c bodySysIdent))

/-- `sys.status`. -/
def bodySysStatus : Body := fun _ _ d =>
  .ok d (leBytes 1 d.scanState ++ leBytes 1 (field d.safeStatView 0 8) ++ leBytes 1 d.damper
    ++ leBytes 1 (d.fld F.GLB_STAT_RESTORED + 2 * d.fld F.TIME_STAT_VALID + 4 * d.fld F.BLW_STAT_E_UP + 8 * d.fld F.BLW_STAT_L_UP)
    ++ leBytes 4 (d.reg Reg.TIME_FRAME).toNat ++ leBytes 8 d.now ++ leBytes 2 (d.fld F.THM_STAT_T_MAX)
    ++ leBytes 1 (d.fld F.CMDQ_STAT_OUTSTANDING))

/-- SYS_STATUS (R459). -/
def execSysStatus (c : Cmd) (s : State) : Host.Outcome State Fault Refusal := .next (s.onDev (runCmd 0x0003 c bodySysStatus))

/-- `sys.reset`: the software reset follows the reply by 100 µs; 0x0301 ranks before the value (R652). -/
def bodySysReset : Body := fun p _ d =>
  refuseIf (!d.cfg.commits.isEmpty) 0x0301 <| refuseIf (p.u 0 2 != 0x5253) 0x0104 <|
    .ok { d with rst := { d.rst with softDue := true } } []

/-- SYS_RESET (R459). -/
def execSysReset (c : Cmd) (s : State) : Host.Outcome State Fault Refusal := .next (s.onDev (runCmd 0x0004 c bodySysReset))

/-- An abortable command ends with 0x0206 (R449). -/
def Dev.abort (d : Dev) (r : Running) : Dev :=
  let d := d.stopWork r
  if d.cmd.running.contains r then d.finish r 0x0206 [] else d

/-- `sys.abort` (R449): commands whose reply is discarded are no longer outstanding for the host (R429). -/
def bodySysAbort : Body := fun p _ d =>
  match d.cmd.running.find? fun r => r.pair == p.u 0 1 && r.pkt.tag.toNat == p.u 4 4 && !r.mute with
  | none => .refuse 0x0104 []
  | some r => refuseIf (!r.abortable) 0x0207 <| .ok (d.abort r) []

/-- SYS_ABORT (R449). -/
def execSysAbort (c : Cmd) (s : State) : Host.Outcome State Fault Refusal := .next (s.onDev (runCmd 0x0005 c bodySysAbort))

/-! ## Telemetry (R616, R617) -/

/-- The sum of a counter over the slices, saturating at its width. -/
def Dev.sumSlices (d : Dev) (w : Nat) (c : Nat → Cnt) : Nat := min (2 ^ w - 1) ((List.range 64).foldl (fun a s => a + d.cnt (c s)) 0)

/-- The rms of the loop errors of an axis over the period, codes. -/
def Dev.rmsErr (d : Dev) (sum : Nat) : Nat := if d.tel.rmsCnt = 0 then 0 else min 65535 (rsqrt (sum / d.tel.rmsCnt))

/-- A telemetry record with sequence number `seq` (R617). -/
def Dev.telRecord (d : Dev) (seq : Nat) : List Byte :=
  let head := leBytes 4 0x4D454C54 ++ leBytes 2 1 ++ leBytes 2 256 ++ leBytes 4 seq ++ leBytes 4 (d.reg Reg.TIME_FRAME).toNat
    ++ leBytes 8 d.tel.roundTime
  let thermal := leBytes 2 (d.fld F.THM_STAT_T_MAX) ++ ((List.range 12).flatMap fun r => leBytes 2 (d.fld (F.THM_REGION_TEMP r)))
    ++ leBytes 1 (d.fld F.THM_STAT_IN_FORCE + 8 * d.fld F.THM_STAT_HOLD + 16 * d.fld F.THM_STAT_SAFE)
  let state := leBytes 1 (d.scanState + 16 * d.fld F.PWR_STAT_STATE) ++ leBytes 2 (d.fld F.PWR_VF_V) ++ leBytes 2 (min 65535 d.tel.paceRound)
    ++ leBytes 4 (d.reg Reg.PWR_POWER).toNat ++ leBytes 4 (field d.safeStatView 0 13 + 2 ^ 16 * d.fld F.SAFE_CAUSE_FIRST)
  let totals := leBytes 8 (d.cnt C.ING_REC) ++ leBytes 8 (d.cnt C.ING_DROP_FULL) ++ leBytes 8 (d.cnt C.ING_DROP_BUDGET)
    ++ leBytes 8 (d.sumSlices 64 C.SLICE_KILN_PIX) ++ leBytes 8 (d.sumSlices 64 C.SLICE_EM_ACC) ++ leBytes 8 (d.sumSlices 64 C.SLICE_EM_OVF)
    ++ leBytes 4 (d.sumSlices 32 C.SLICE_EM_OVF_SHOT_CNT) ++ leBytes 4 (d.sumSlices 32 C.SLICE_KILN_ARENA_MISS_CNT)
  let counts := leBytes 4 (d.cnt C.MEM_CE_CNT) ++ leBytes 4 (d.cnt C.MEM_UE_CNT) ++ leBytes 4 (d.cnt C.SCN_OVERRUN_CNT)
    ++ leBytes 4 (d.cnt C.SCN_SOFT_CNT) ++ leBytes 4 (d.cnt C.TAP_UNSERVED_CNT)
    ++ leBytes 2 (d.rmsErr d.tel.rmsXSum) ++ leBytes 2 (d.rmsErr d.tel.rmsYSum)
    ++ leBytes 4 (d.fld F.PEER_STAT_MEMBERS + 2 ^ 8 * d.fld F.PEER_STAT_LEADER + 2 ^ 9 * d.fld F.PEER_STAT_MASTER)
    ++ leBytes 4 (d.reg Reg.PEER_OFFSET).toNat ++ leBytes 4 (d.cnt C.EVT_RING_DROP_CNT) ++ leBytes 4 (d.cnt C.CMDQ_ACK_MISS_CNT)
  let b := head ++ thermal ++ state ++ totals ++ counts ++ zeros 92
  b ++ leBytes 4 (crc32 b)

/-- `tel.config` (R616). -/
def bodyTelConfig : Body := fun p _ d =>
  let period := p.u 0 4
  let addr := p.u 8 8
  let size := p.u 16 4
  refuseIf (!decide (period % 10 = 0 ∧ period ≤ 60000)) 0x0104 <|
    refuseIf (addr % 4096 != 0 || !inDevMem addr size) 0x0105 <|
    refuseIf (!decide (size % 256 = 0 ∧ 4096 ≤ size ∧ size ≤ 2 ^ 26)) 0x0104 <|
    .ok ({ d with tel := { d.tel with addr := addr, size := size, rmsXSum := 0, rmsYSum := 0, rmsCnt := 0 } }.put Reg.TEL_STAT
      (BitVec.ofNat 32 (period + if period = 0 then 0 else 2 ^ 16))) []

/-- TEL_CONFIG (R616). -/
def execTelConfig (c : Cmd) (s : State) : Host.Outcome State Fault Refusal := .next (s.onDev (runCmd 0x0D01 c bodyTelConfig))

/-- The period has elapsed at a round: the next record goes to its entry (R616). A halted memory has stopped the writer (R517). -/
def Dev.telPeriod (d : Dev) : Dev :=
  if d.flag F.TEL_STAT_RUN && !d.memHalted then
    let seq := if d.tel.started then ((d.reg Reg.TEL_SEQ).toNat + 1) % 2 ^ 32 else 0
    let d := d.memw (d.tel.addr + seq % (d.tel.size / 256) * 256) (d.telRecord seq)
    { d with tel := { d.tel with started := true, rmsXSum := 0, rmsYSum := 0, rmsCnt := 0 } }.put Reg.TEL_SEQ (BitVec.ofNat 32 seq)
  else d

/-- `TELEMETRY_PERIOD` (R616). -/
def execTelemetryPeriod (s : State) : Host.Outcome State Fault Refusal := .next (s.onDev fun _ d => d.telPeriod)

/-- `tel.snapshot` (R616). -/
def bodyTelSnapshot : Body := fun p _ d => refuseIf (!inDevMem (p.u 0 8) 256) 0x0105 <| .accept d 0

/-- TEL_SNAPSHOT (R616). -/
def execTelSnapshot (c : Cmd) (s : State) : Host.Outcome State Fault Refusal := .next (s.onDev (runCmd 0x0D02 c bodyTelSnapshot))

/-- The snapshot is written. -/
def Dev.telSnapshotEnd (d : Dev) (r : Running) : Dev :=
  (d.memw (r.pkt.u 0 8) (d.telRecord (d.reg Reg.TEL_SEQ).toNat)).finish r 0x0000 (leBytes 4 256)

/-! ## Debug (R472, R606) -/

/-- The status register that the deciding rule of a source names (R608). -/
def sourceReg (n : Nat) : Option Nat :=
  if n < 384 then
    let s := n / 6
    match n % 6 with
    | 0 => some (Reg.SLICE_CLAMP_STAT s)
    | 1 => some (Reg.SLICE_EM_STAT s)
    | 4 => some (Reg.SLICE_KILN_STAT s)
    | 5 => some (Reg.SLICE_KILN_STAT s)
    | _ => none
  else if n < 416 then some Reg.TAP_EVT_STAT
  else if n < 480 then some (Reg.GLB_ENG_STAT (n - 416))
  else if Ev.memDie ≤ n ∧ n ≤ Ev.sramUe then some Reg.MEM_EVT
  else if Ev.ingBudget ≤ n ∧ n ≤ Ev.waveStall then some Reg.ING_EVT
  else if n = Ev.storeFallback ∨ n = Ev.storeWear then some Reg.GLB_CFG_EVT
  else if n = Ev.peerMismatch ∨ n = Ev.peerLimit then some Reg.PEER_EVT
  else if Ev.safeRelease ≤ n ∧ n ≤ Ev.safeCfgInvalid then some Reg.SAFE_EVT
  else if Ev.scnSat ≤ n ∧ n ≤ Ev.mirrorFault then some Reg.SCN_EVT
  else if n = Ev.hkOvr then some Reg.HK_EVT
  else if n = Ev.hkClamp then some Reg.HK_CLAMP_STAT
  else if n = Ev.hkOpen then some Reg.HK_OPEN_STAT
  else if n = Ev.thmSensor ∨ n = Ev.thmSafe then some Reg.THM_EVT
  else if Ev.pwrFloor ≤ n ∧ n ≤ Ev.pwrDomain then some Reg.PWR_EVT
  else none

/-- A source is raised as a test (R606). Details that name a counter, a pair, a pod or an address have none to name: they are free
values. -/
def Dev.raiseTest (d : Dev) (n : Nat) : Dev :=
  if n = evCounterSat ∨ n = Ev.ackMiss ∨ n = Ev.peerJoin ∨ n = Ev.peerLost ∨ n = Ev.memUe then
    d.freeNext.freeNext.raiseAs n true (d.free 32) (d.freeNext.free 32)
  else if n = Ev.quench then d.raiseAs n true (d.reg Reg.SAFE_CAUSE).toNat d.safeStatView.toNat
  else if n = Ev.frameWrap then d.raiseAs n true 0 (d.reg Reg.TIME_FRAME).toNat
  else if n = Ev.reset then d.raiseAs n true (d.reg Reg.RST_CAUSE).toNat (d.reg Reg.RST_STAT).toNat
  else d.raiseAs n true (((sourceReg n).map fun a => (d.view a).toNat).getD 0) 0

/-- `dbg.event_test` (R606). -/
def bodyDbgEventTest : Body := fun p _ d => refuseIf (decide (639 < p.u 0 2)) 0x0104 <| .ok (d.raiseTest (p.u 0 2)) []

/-- DBG_EVENT_TEST (R606). -/
def execDbgEventTest (c : Cmd) (s : State) : Host.Outcome State Fault Refusal := .next (s.onDev (runCmd 0x0D03 c bodyDbgEventTest))

/-- `dbg.cmd_stats` (R472). -/
def bodyDbgCmdStats : Body := fun p _ d =>
  let pr := d.pair (p.u 0 1)
  refuseIf (decide (15 < p.u 0 1)) 0x0104 <|
    .ok d (leBytes 4 pr.nFetched ++ leBytes 4 pr.ackMax ++ leBytes 4 pr.nMiss ++ leBytes 4 pr.nRefused)

/-- DBG_CMD_STATS (R472). -/
def execDbgCmdStats (c : Cmd) (s : State) : Host.Outcome State Fault Refusal := .next (s.onDev (runCmd 0x0D04 c bodyDbgCmdStats))

/-! ## Completion (R448) -/

/-- `mem.wipe` ends: its range is zero (R525). A halted memory takes no write (R517): the command then ends as a pass does (R523;
DEDUCED, log entry 181). -/
def Dev.wipeEnd (d : Dev) (r : Running) : Dev :=
  let e := d.setFlag F.MEM_STAT_WIPE_BUSY false
  if d.memHalted then e.finish r 0x0304 [] else (e.wipe (r.pkt.u 0 8) (r.pkt.u 8 8)).finish r 0x0000 []

/-- A command whose rule gives its completion no event of its own ends. -/
def Dev.completeRunning (d : Dev) (mem : List Host.Cell) (r : Running) : Dev :=
  match r.pkt.opcode.toNat with
  | 0x0404 => d.exportDone r
  | 0x0605 => d.overlayWriteEnd mem r
  | 0x0609 => d.cfgDumpEnd r
  | 0x0704 => d.fieldLoadDone mem r
  | 0x0802 => d.peerMembersEnd r
  | 0x0904 => d.wipeEnd r
  | 0x0C01 => d.attestEnd r
  | 0x0C02 => d.idCertEnd r
  | 0x0C05 => d.activateEnd r
  | 0x0C06 => d.revokeEnd r
  | 0x0D02 => d.telSnapshotEnd r
  | _ => d

/-- `COMMAND_COMPLETION` (R448): the command of a pair and tag; `upset` is what its reads of device memory find in error. -/
def execCommandCompletion (pair : Fin 16) (tag : BitVec 32) (upset : List (Nat × Nat)) (s : State) : Host.Outcome State Fault Refusal :=
  .next (s.onDev fun mem d =>
    match d.running? pair.val tag.toNat with
    | some r => (d.upset upset).completeRunning mem r
    | none => d)

end Sys2Proof.Machine
end

