-- ==== Sys2Proof/Machine/Dispatch.lean ====
section
/-! DEFINITION. The dispatch: one arm per command and event. -/

namespace Sys2Proof.Machine

def exec (i : Instr) (s : State) : Host.Outcome State Fault Refusal :=
  match i with
  | .sysNop c => Sys2Proof.Machine.execSysNop c s
  | .sysIdent c => Sys2Proof.Machine.execSysIdent c s
  | .sysStatus c => Sys2Proof.Machine.execSysStatus c s
  | .sysReset c => Sys2Proof.Machine.execSysReset c s
  | .sysAbort c => Sys2Proof.Machine.execSysAbort c s
  | .timeGet c => Sys2Proof.Machine.execTimeGet c s
  | .timeMark c => Sys2Proof.Machine.execTimeMark c s
  | .timeSet c => Sys2Proof.Machine.execTimeSet c s
  | .timeFmeas c => Sys2Proof.Machine.execTimeFmeas c s
  | .fmeasGateEnd => Sys2Proof.Machine.execFmeasGateEnd s
  | .fmeasEdge stamp => Sys2Proof.Machine.execFmeasEdge stamp s
  | .scanStart c => Sys2Proof.Machine.execScanStart c s
  | .scanStop c => Sys2Proof.Machine.execScanStop c s
  | .scanHold c => Sys2Proof.Machine.execScanHold c s
  | .scanResume c => Sys2Proof.Machine.execScanResume c s
  | .scanRampEnd => Sys2Proof.Machine.execScanRampEnd s
  | .runInStart => Sys2Proof.Machine.execRunInStart s
  | .mirrorSettleTimeout => Sys2Proof.Machine.execMirrorSettleTimeout s
  | .mirrorParked => Sys2Proof.Machine.execMirrorParked s
  | .stopRampEnd => Sys2Proof.Machine.execStopRampEnd s
  | .emitStop c => Sys2Proof.Machine.execEmitStop c s
  | .emitResume c => Sys2Proof.Machine.execEmitResume c s
  | .emitSubstitute c => Sys2Proof.Machine.execEmitSubstitute c s
  | .emitSegStatus c => Sys2Proof.Machine.execEmitSegStatus c s
  | .emitCountCommit c => Sys2Proof.Machine.execEmitCountCommit c s
  | .emitDrvCtrl c => Sys2Proof.Machine.execEmitDrvCtrl c s
  | .lampSet c => Sys2Proof.Machine.execLampSet c s
  | .lampStatus c => Sys2Proof.Machine.execLampStatus c s
  | .lampDiagnose c => Sys2Proof.Machine.execLampDiagnose c s
  | .calBurnish c => Sys2Proof.Machine.execCalBurnish c s
  | .calCommit c => Sys2Proof.Machine.execCalCommit c s
  | .calRangeZero c => Sys2Proof.Machine.execCalRangeZero c s
  | .rangeZeroComplete => Sys2Proof.Machine.execRangeZeroComplete s
  | .calExport c => Sys2Proof.Machine.execCalExport c s
  | .calImport c => Sys2Proof.Machine.execCalImport c s
  | .calTap c => Sys2Proof.Machine.execCalTap c s
  | .calTapComplete => Sys2Proof.Machine.execCalTapComplete s
  | .calHk c => Sys2Proof.Machine.execCalHk c s
  | .outStatus c => Sys2Proof.Machine.execOutStatus c s
  | .outRing c => Sys2Proof.Machine.execOutRing c s
  | .outHistRegion c => Sys2Proof.Machine.execOutHistRegion c s
  | .outRate c => Sys2Proof.Machine.execOutRate c s
  | .outTapRequest c => Sys2Proof.Machine.execOutTapRequest c s
  | .turfDump c => Sys2Proof.Machine.execTurfDump c s
  | .turfDumpComplete => Sys2Proof.Machine.execTurfDumpComplete s
  | .turfClear c => Sys2Proof.Machine.execTurfClear c s
  | .cfgGet c => Sys2Proof.Machine.execCfgGet c s
  | .cfgSet c => Sys2Proof.Machine.execCfgSet c s
  | .cfgLoad c => Sys2Proof.Machine.execCfgLoad c s
  | .cfgCommit c => Sys2Proof.Machine.execCfgCommit c s
  | .cfgOverlayWrite c => Sys2Proof.Machine.execCfgOverlayWrite c s
  | .cfgOverlayApply c => Sys2Proof.Machine.execCfgOverlayApply c s
  | .cfgOverlayErase c => Sys2Proof.Machine.execCfgOverlayErase c s
  | .cfgRevert c => Sys2Proof.Machine.execCfgRevert c s
  | .cfgDump c => Sys2Proof.Machine.execCfgDump c s
  | .preparePhaseEnd => Sys2Proof.Machine.execPreparePhaseEnd s
  | .safetyStatus c => Sys2Proof.Machine.execSafetyStatus c s
  | .safetyCommission c => Sys2Proof.Machine.execSafetyCommission c s
  | .safetyRelease c => Sys2Proof.Machine.execSafetyRelease c s
  | .safetyFieldLoad c => Sys2Proof.Machine.execSafetyFieldLoad c s
  | .peerStatus c => Sys2Proof.Machine.execPeerStatus c s
  | .peerMembers c => Sys2Proof.Machine.execPeerMembers c s
  | .peerReclaim c => Sys2Proof.Machine.execPeerReclaim c s
  | .peerLaneReset c => Sys2Proof.Machine.execPeerLaneReset c s
  | .memScrub c => Sys2Proof.Machine.execMemScrub c s
  | .memScrubComplete upset => Sys2Proof.Machine.execMemScrubComplete upset s
  | .memStatus c => Sys2Proof.Machine.execMemStatus c s
  | .memPatrol c => Sys2Proof.Machine.execMemPatrol c s
  | .memWipe c => Sys2Proof.Machine.execMemWipe c s
  | .hkSync c => Sys2Proof.Machine.execHkSync c s
  | .hkRead c => Sys2Proof.Machine.execHkRead c s
  | .hkDcFreeze c => Sys2Proof.Machine.execHkDcFreeze c s
  | .pwrStatus c => Sys2Proof.Machine.execPwrStatus c s
  | .pwrState c => Sys2Proof.Machine.execPwrState c s
  | .pwrStateComplete => Sys2Proof.Machine.execPwrStateComplete s
  | .thmStatus c => Sys2Proof.Machine.execThmStatus c s
  | .thmDamperMin c => Sys2Proof.Machine.execThmDamperMin c s
  | .secAttest c => Sys2Proof.Machine.execSecAttest c s
  | .secIdCert c => Sys2Proof.Machine.execSecIdCert c s
  | .secLifecycle c => Sys2Proof.Machine.execSecLifecycle c s
  | .lifecycleChangeDone => Sys2Proof.Machine.execLifecycleChangeDone s
  | .lifecycleResetTimer => Sys2Proof.Machine.execLifecycleResetTimer s
  | .secFwStage c => Sys2Proof.Machine.execSecFwStage c s
  | .fwStageComplete => Sys2Proof.Machine.execFwStageComplete s
  | .secFwActivate c => Sys2Proof.Machine.execSecFwActivate c s
  | .secKeyRevoke c => Sys2Proof.Machine.execSecKeyRevoke c s
  | .telConfig c => Sys2Proof.Machine.execTelConfig c s
  | .telSnapshot c => Sys2Proof.Machine.execTelSnapshot c s
  | .dbgEventTest c => Sys2Proof.Machine.execDbgEventTest c s
  | .dbgCmdStats c => Sys2Proof.Machine.execDbgCmdStats c s
  | .commandCompletion pair tag upset => Sys2Proof.Machine.execCommandCompletion pair tag upset s
  | .storeCommitComplete => Sys2Proof.Machine.execStoreCommitComplete s
  | .sqDoorbell pair tail covered => Sys2Proof.Machine.execSqDoorbell pair tail covered s
  | .cqHeadWrite pair head => Sys2Proof.Machine.execCqHeadWrite pair head s
  | .commandFetch pair queueUe => Sys2Proof.Machine.execCommandFetch pair queueUe s
  | .ackDeadlineMiss pair => Sys2Proof.Machine.execAckDeadlineMiss pair s
  | .queueEnable pair value => Sys2Proof.Machine.execQueueEnable pair value s
  | .queueDisable pair value => Sys2Proof.Machine.execQueueDisable pair value s
  | .cmdqDeclare value => Sys2Proof.Machine.execCmdqDeclare value s
  | .streamEnable stream value => Sys2Proof.Machine.execStreamEnable stream value s
  | .streamDisable stream value => Sys2Proof.Machine.execStreamDisable stream value s
  | .ringRdWrite stream value => Sys2Proof.Machine.execRingRdWrite stream value s
  | .evtRingEnable value => Sys2Proof.Machine.execEvtRingEnable value s
  | .evtRingRdWrite value => Sys2Proof.Machine.execEvtRingRdWrite value s
  | .evtPendClear word value => Sys2Proof.Machine.execEvtPendClear word value s
  | .satBitClear addr value => Sys2Proof.Machine.execSatBitClear addr value s
  | .stickyBitClear addr value => Sys2Proof.Machine.execStickyBitClear addr value s
  | .pairLoRead addr => Sys2Proof.Machine.execPairLoRead addr s
  | .rcFieldRead addr => Sys2Proof.Machine.execRcFieldRead addr s
  | .turfRdIdxWrite value => Sys2Proof.Machine.execTurfRdIdxWrite value s
  | .chainEnable chainL => Sys2Proof.Machine.execChainEnable chainL s
  | .chainDisable chainL => Sys2Proof.Machine.execChainDisable chainL s
  | .chainBringupDone chainL count drivers => Sys2Proof.Machine.execChainBringupDone chainL count drivers s
  | .peerEnable value => Sys2Proof.Machine.execPeerEnable value s
  | .apertureWrite value => Sys2Proof.Machine.execApertureWrite value s
  | .tapReqWrite offset value => Sys2Proof.Machine.execTapReqWrite offset value s
  | .memDmaResume value => Sys2Proof.Machine.execMemDmaResume value s
  | .registerWrite target size value => Sys2Proof.Machine.execRegisterWrite target size value s
  | .hdmCommit base size ways bi lock => Sys2Proof.Machine.execHdmCommit base size ways bi lock s
  | .cxlMemRead hpa upset => Sys2Proof.Machine.execCxlMemRead hpa upset s
  | .cxlMemWrite hpa data enables => Sys2Proof.Machine.execCxlMemWrite hpa data enables s
  | .apertureAccess offset length write upset => Sys2Proof.Machine.execApertureAccess offset length write upset s
  | .flr => Sys2Proof.Machine.execFlr s
  | .d3hotEntry => Sys2Proof.Machine.execD3hotEntry s
  | .d0Return => Sys2Proof.Machine.execD0Return s
  | .enableBitCleared busMaster => Sys2Proof.Machine.execEnableBitCleared busMaster s
  | .msixUnmask what => Sys2Proof.Machine.execMsixUnmask what s
  | .msixHoldoffExpiry vector => Sys2Proof.Machine.execMsixHoldoffExpiry vector s
  | .linkUp cxl rate width degraded => Sys2Proof.Machine.execLinkUp cxl rate width degraded s
  | .linkRetrain rate width degraded => Sys2Proof.Machine.execLinkRetrain rate width degraded s
  | .hotReset linkDown => Sys2Proof.Machine.execHotReset linkDown s
  | .perstAssert => Sys2Proof.Machine.execPerstAssert s
  | .cxlLinkError e => Sys2Proof.Machine.execCxlLinkError e s
  | .powerOnReset => Sys2Proof.Machine.execPowerOnReset s
  | .resetNAssert => Sys2Proof.Machine.execResetNAssert s
  | .resetNRelease ms => Sys2Proof.Machine.execResetNRelease ms s
  | .watchdogExpiry => Sys2Proof.Machine.execWatchdogExpiry s
  | .safetyResetTimer => Sys2Proof.Machine.execSafetyResetTimer s
  | .softwareResetTimer => Sys2Proof.Machine.execSoftwareResetTimer s
  | .resetRelease flushed => Sys2Proof.Machine.execResetRelease flushed s
  | .fuseLoadDone digestOk => Sys2Proof.Machine.execFuseLoadDone digestOk s
  | .pllLock => Sys2Proof.Machine.execPllLock s
  | .pllUnlock => Sys2Proof.Machine.execPllUnlock s
  | .perstRelease => Sys2Proof.Machine.execPerstRelease s
  | .firmwareVerified a b => Sys2Proof.Machine.execFirmwareVerified a b s
  | .memTrainingDone densityOk failed => Sys2Proof.Machine.execMemTrainingDone densityOk failed s
  | .restore absent crcErrors older lost => Sys2Proof.Machine.execRestore absent crcErrors older lost s
  | .vbakLoss => Sys2Proof.Machine.execVbakLoss s
  | .slotBoundary found => Sys2Proof.Machine.execSlotBoundary found s
  | .frameBoundary => Sys2Proof.Machine.execFrameBoundary s
  | .turnaroundStart => Sys2Proof.Machine.execTurnaroundStart s
  | .safetyWindowBoundary => Sys2Proof.Machine.execSafetyWindowBoundary s
  | .comparatorEdge slice ch cmp rise coarse bin spare above => Sys2Proof.Machine.execComparatorEdge slice ch cmp rise coarse bin spare above s
  | .fireEchoEdge coarse bin => Sys2Proof.Machine.execFireEchoEdge coarse bin s
  | .referenceTimeout => Sys2Proof.Machine.execReferenceTimeout s
  | .windowClose slice ch => Sys2Proof.Machine.execWindowClose slice ch s
  | .emberDrain slice => Sys2Proof.Machine.execEmberDrain slice s
  | .pixelComplete arenaUe stagingUe => Sys2Proof.Machine.execPixelComplete arenaUe stagingUe s
  | .ingotTimeLimit => Sys2Proof.Machine.execIngotTimeLimit s
  | .ingotPlace => Sys2Proof.Machine.execIngotPlace s
  | .histRecordWrite => Sys2Proof.Machine.execHistRecordWrite s
  | .waveRecordWrite => Sys2Proof.Machine.execWaveRecordWrite s
  | .tapWindowOpen tap => Sys2Proof.Machine.execTapWindowOpen tap s
  | .tapWindowEnd tap codes => Sys2Proof.Machine.execTapWindowEnd tap codes s
  | .burnishBlockEnd tdc => Sys2Proof.Machine.execBurnishBlockEnd tdc s
  | .burnishBlockTimeout tdc => Sys2Proof.Machine.execBurnishBlockTimeout tdc s
  | .burnishApplyStart slice => Sys2Proof.Machine.execBurnishApplyStart slice s
  | .burnishApplySwitch => Sys2Proof.Machine.execBurnishApplySwitch s
  | .burnishApplyEnd => Sys2Proof.Machine.execBurnishApplyEnd s
  | .refTdcApply chainL => Sys2Proof.Machine.execRefTdcApply chainL s
  | .burnishCommitTimer => Sys2Proof.Machine.execBurnishCommitTimer s
  | .chainStatusReceived chainL words => Sys2Proof.Machine.execChainStatusReceived chainL words s
  | .segCountCommitTimer => Sys2Proof.Machine.execSegCountCommitTimer s
  | .camSyncEdge input level stamp => Sys2Proof.Machine.execCamSyncEdge input level stamp s
  | .camSyncLost input => Sys2Proof.Machine.execCamSyncLost input s
  | .lampStartCommit page => Sys2Proof.Machine.execLampStartCommit page s
  | .lampDiagGap source => Sys2Proof.Machine.execLampDiagGap source s
  | .lampDiagTimeout lamp => Sys2Proof.Machine.execLampDiagTimeout lamp s
  | .holdoverTimeout => Sys2Proof.Machine.execHoldoverTimeout s
  | .ageLearnTimer => Sys2Proof.Machine.execAgeLearnTimer s
  | .loopSample yx yy tick latX latY => Sys2Proof.Machine.execLoopSample yx yy tick latX latY s
  | .loopOverrun axisX axisY => Sys2Proof.Machine.execLoopOverrun axisX axisY s
  | .safetyCycle disagree clockBad configBad => Sys2Proof.Machine.execSafetyCycle disagree clockBad configBad s
  | .accountantDecision => Sys2Proof.Machine.execAccountantDecision s
  | .safetyMotionSample x opt current => Sys2Proof.Machine.execSafetyMotionSample x opt current s
  | .stopInputChange ch level us => Sys2Proof.Machine.execStopInputChange ch level us s
  | .stopFilterExpiry ch => Sys2Proof.Machine.execStopFilterExpiry ch s
  | .inputDiscrepancyTimeout restart => Sys2Proof.Machine.execInputDiscrepancyTimeout restart s
  | .restartInputChange ch level us => Sys2Proof.Machine.execRestartInputChange ch level us s
  | .restartStuck => Sys2Proof.Machine.execRestartStuck s
  | .testPulseDue sw => Sys2Proof.Machine.execTestPulseDue sw s
  | .testPulseEnd sw offSeen onSeen => Sys2Proof.Machine.execTestPulseEnd sw offSeen onSeen s
  | .testOverdue sw => Sys2Proof.Machine.execTestOverdue sw s
  | .readbackMismatch sw => Sys2Proof.Machine.execReadbackMismatch sw s
  | .fieldBatchClose => Sys2Proof.Machine.execFieldBatchClose s
  | .frameMissingTimeout => Sys2Proof.Machine.execFrameMissingTimeout s
  | .pixelCopyReceived crcOk => Sys2Proof.Machine.execPixelCopyReceived crcOk s
  | .hkRound regions spots => Sys2Proof.Machine.execHkRound regions spots s
  | .fastRound spots => Sys2Proof.Machine.execFastRound spots s
  | .thermalSafeExit => Sys2Proof.Machine.execThermalSafeExit s
  | .damperHoldExpiry => Sys2Proof.Machine.execDamperHoldExpiry s
  | .hotspotCompare spots => Sys2Proof.Machine.execHotspotCompare spots s
  | .telemetryPeriod => Sys2Proof.Machine.execTelemetryPeriod s
  | .senseConversionEnd sum clamp => Sys2Proof.Machine.execSenseConversionEnd sum clamp s
  | .complianceTrip => Sys2Proof.Machine.execComplianceTrip s
  | .syncInEdge => Sys2Proof.Machine.execSyncInEdge s
  | .hkChainOutput chain codes => Sys2Proof.Machine.execHkChainOutput chain codes s
  | .governorTick pace => Sys2Proof.Machine.execGovernorTick pace s
  | .avsReadback frameBad mv mA => Sys2Proof.Machine.execAvsReadback frameBad mv mA s
  | .domainSwitchOnDone flushed => Sys2Proof.Machine.execDomainSwitchOnDone flushed s
  | .powerGoodTimeout => Sys2Proof.Machine.execPowerGoodTimeout s
  | .memMaintenanceTick failed => Sys2Proof.Machine.execMemMaintenanceTick failed s
  | .dieCeWindow => Sys2Proof.Machine.execDieCeWindow s
  | .engineTrap engine dpa => Sys2Proof.Machine.execEngineTrap engine dpa s
  | .engineReloadDone engine => Sys2Proof.Machine.execEngineReloadDone engine s
  | .wmbLineFlush upset => Sys2Proof.Machine.execWmbLineFlush upset s
  | .patrolPass upset sram => Sys2Proof.Machine.execPatrolPass upset sram s
  | .laneAligned lane remote skewOk => Sys2Proof.Machine.execLaneAligned lane remote skewOk s
  | .peerBlockReceived lane marker violation chars => Sys2Proof.Machine.execPeerBlockReceived lane marker violation chars s
  | .announceReceived lane a => Sys2Proof.Machine.execAnnounceReceived lane a s
  | .timeBlockReceived lane x => Sys2Proof.Machine.execTimeBlockReceived lane x s
  | .claimReceived c => Sys2Proof.Machine.execClaimReceived c s
  | .grantReceived g => Sys2Proof.Machine.execGrantReceived g s
  | .announceTimer => Sys2Proof.Machine.execAnnounceTimer s
  | .timeExchangeTick lane => Sys2Proof.Machine.execTimeExchangeTick lane s
  | .partnerTimeout lane => Sys2Proof.Machine.execPartnerTimeout lane s
  | .memberTimeout id => Sys2Proof.Machine.execMemberTimeout id s
  | .grantSend => Sys2Proof.Machine.execGrantSend s
  | .laneAlignmentLost lane => Sys2Proof.Machine.execLaneAlignmentLost lane s
  | .clampExcursion slice ch coarse back => Sys2Proof.Machine.execClampExcursion slice ch coarse back s
  | .commandPathParityError groupB => Sys2Proof.Machine.execCommandPathParityError groupB s

end Sys2Proof.Machine
end

