-- ==== Sys2Proof/Safety.lean ====
section
/-! DEFINITION. The terms in which statements speak: the invariant of the model, a command that completes, a pair that takes a
command at once, the reply that a command posts, and the parts of the state that a command leaves as they were. -/

namespace Sys2Proof

open Machine

/-- Device memory in its canonical form, and no write or raising of an earlier step left over. -/
def Inv (s : State) : Prop := Memory.wf s.mem = true ∧ s.dev.outbox = [] ∧ s.dev.evt.raised = []

/-- Command or event `i` completes at `s`: it answers a next state, and `P` holds of that state. -/
def Gives (i : Instr) (s : State) (P : State → Prop) : Prop := ∃ t, exec i s = .next t ∧ P t

/-- The pair of command `c` of opcode `op` takes it at once: the pair runs, commands are taken from it, no command waits in it, no
other pair's comes first (R451), two entries of its completion queue are free (R438), and the checks common to all commands pass: form, readiness and limits (R652). -/
structure Takes (d : Dev) (c : Cmd) (op : Nat) : Prop where
  live : d.pairLive c.pair.val = true
  enabled : d.flag (F.CMDQ_Q_CTL_EN c.pair.val) = true
  halted : d.flag (F.CMDQ_Q_STAT_HALTED c.pair.val) = false
  speaks : (d.pair c.pair.val).silent = false
  rung : (d.pair c.pair.val).rung = []
  fetched : (d.pair c.pair.val).fetched = []
  room : 2 ≤ d.cqFree c.pair.val
  fence : d.fenced c.pair.val (c.packet op) = false
  turn : d.otherAhead c.pair.val d.cmd.bells = false
  form : formError (c.packet op) = 0
  stage : d.stageError (c.packet op) = 0
  limit : d.limitError c.pair.val (c.packet op).opcode.toNat = 0

/-- The pair of fast-path command `c` of opcode `op` lets it act at once (R445): the pair runs and takes commands, two entries of its
completion queue are free, its submission queue has room, and form and readiness are good. -/
structure TakesFast (d : Dev) (c : Cmd) (op : Nat) : Prop where
  opens : d.pairOpen c.pair.val = true
  speaks : (d.pair c.pair.val).silent = false
  room : 2 ≤ d.cqFree c.pair.val
  space : (d.pair c.pair.val).rung.length < d.sqDepth c.pair.val
  form : formError (c.packet op) = 0
  ready : d.readyError (c.packet op).opcode.toNat = 0

/-- The part when the interpreter starts command `c`: its doorbell has covered it, and its entry has been fetched (R437, R438). -/
def taken (d : Dev) (c : Cmd) (op : Nat) : Dev :=
  let q := c.pair.val
  let e := d.submit q (c.packet op)
  e.setPair q { e.pair q with fetched := [] }

/-- One reply more stands in the pair of command `c` (R439, R442): its status, opcode and tag, and its results. -/
def Replied (s t : State) (c : Cmd) (op status : Nat) (results : List Byte) : Prop :=
  (t.dev.pair c.pair.val).replies =
    (s.dev.pair c.pair.val).replies ++ [⟨status, (BitVec.ofNat 16 op).toNat, c.tag.toNat, results⟩]

/-- Command `c` is outstanding: one ACCEPTED command more than before (R443, R446). -/
def Accepted (s t : State) (c : Cmd) (op aux : Nat) : Prop :=
  t.dev.cmd.running = s.dev.cmd.running ++ [⟨c.pair.val, c.packet op, false, aux⟩]

/-- The final reply of the ACCEPTED command `r` stands in its pair, and the command is no longer outstanding (R443, R448). -/
def Completed (s t : State) (r : Running) (status : Nat) (results : List Byte) : Prop :=
  (∃ later, (t.dev.pair r.pair).replies =
    (s.dev.pair r.pair).replies ++ ⟨status, r.pkt.opcode.toNat, r.pkt.tag.toNat, results⟩ :: later) ∧
  t.dev.cmd.running = s.dev.cmd.running.erase r

/-- The reply of outstanding command `r` will be posted: nothing has discarded it (R429, R435, R455). -/
structure Awaits (d : Dev) (r : Running) : Prop where
  heard : r.mute = false
  speaks : (d.pair r.pair).silent = false

/-- Event source `n` is pending (R611). -/
def Pending (t : State) (n : Nat) : Prop := t.dev.bit (Reg.EVT_PEND (n / 32)) (n % 32) = true

/-- Counter `c` counts `n`, and stops at all ones (R613). -/
def Counts (c : Cnt) (n : Nat) (s t : State) : Prop := t.dev.cnt c = min (cntTop c) (s.dev.cnt c + n)

/-- The registers of the command queues, which their own logic keeps (R473). -/
def cmdqOwn (a : Nat) : Bool := decide (0x020000 ≤ a ∧ a < 0x020300)

/-- The registers of the event logic, which its own logic keeps (R618). -/
def evtOwn (a : Nat) : Bool :=
  decide (a = 0x010004 ∨ a = 0x010014 ∨ a = 0x01001C ∨ a = 0x010020 ∨ (0x010100 ≤ a ∧ a < 0x010150))

/-- The parts of the device's state. -/
inductive Part where
  | time | chans | shot | bur | blw | kiln | turf | taps | scan | out | peer | safe | cfg | store | hk | pwr | rst | tel | wide | held
  | free | host | memc
  deriving DecidableEq, Repr

/-- A part of the state is the same in two devices: but for what was sent to the other pods, the writes to the host and the pending
messages, and the write-merge lines and stored errors of device memory. -/
def Part.same (p : Part) (x y : Dev) : Prop :=
  match p with
  | .time => y.time = x.time
  | .chans => y.chans = x.chans
  | .shot => y.shot = x.shot
  | .bur => y.bur = x.bur
  | .blw => y.blw = x.blw
  | .kiln => y.kiln = x.kiln
  | .turf => y.turf = x.turf
  | .taps => y.taps = x.taps
  | .scan => y.scan = x.scan
  | .out => y.out = x.out
  | .peer => y.peer = { x.peer with sent := y.peer.sent }
  | .safe => y.safe = x.safe
  | .cfg => y.cfg = x.cfg
  | .store => y.store = x.store
  | .hk => y.hk = x.hk
  | .pwr => y.pwr = x.pwr
  | .rst => y.rst = x.rst
  | .tel => y.tel = x.tel
  | .wide => y.wide = x.wide
  | .held => y.held = x.held
  | .free => y.freeCtr = x.freeCtr
  | .host => y.host = { x.host with writes := y.host.writes, pba := y.host.pba }
  | .memc => y.memc = { x.memc with faults := y.memc.faults, lines := y.memc.lines }

/-- Every part of the state but those listed is the same after as before. -/
def Keeps (changed : List Part) (s t : State) : Prop := ∀ p : Part, p ∉ changed → p.same s.dev t.dev

/-- Every register is the same after as before but those listed, those of the event logic and those of the command queues. -/
def KeepsRegs (changed : List Nat) (s t : State) : Prop :=
  ∀ a, a ∉ changed → evtOwn a = false → cmdqOwn a = false → t.dev.reg a = s.dev.reg a

/-- Byte `a` of device memory lies in the event ring (R609). -/
def InRing (d : Dev) (a : Nat) : Prop :=
  d.wide64 Reg.EVT_RING_BASE_LO ≤ a ∧ a < d.wide64 Reg.EVT_RING_BASE_LO + d.evtDepth * 32

/-- Every byte of device memory outside the event ring is the same after as before. -/
def KeepsMem (s t : State) : Prop :=
  ∀ a, ¬InRing s.dev a → memByte t.mem a = memByte s.mem a

/-- Outside the event ring, the bytes `bs` stand from address `b` on after the step, and every other byte is as before. -/
def Writes (b : Nat) (bs : List Byte) (s t : State) : Prop :=
  ∀ a, ¬InRing s.dev a → memByte t.mem a = if b ≤ a ∧ a < b + bs.length then bs.getD (a - b) 0#8 else memByte s.mem a

/-- A step leaves as they were every part of the state but those listed, every register but those listed and those that the event
logic and the command queues keep, and every byte of device memory outside the event ring. -/
def Leaves (parts : List Part) (regs : List Nat) (s t : State) : Prop := Keeps parts s t ∧ KeepsRegs regs s t ∧ KeepsMem s t

/-- The registers of a slice that count and mark its edges (R66, R68, R104, R110, R121). -/
abbrev edgeRegs (s : Nat) : List Nat :=
  [Reg.SLICE_OVR_CNT s, Reg.SLICE_FE_CNT_SAT s, Reg.SLICE_EM_STAT s, Reg.SLICE_EM_NOMREF_CNT s, Reg.SLICE_EM_OVF_SHOT_CNT s,
    Reg.SLICE_EM_WCOERCE_CNT s, Reg.SLICE_EM_CNT_SAT s]

/-- The registers that show the domain and the lanes, and those that follow when the domain changes (R351, R360). -/
abbrev domainRegs : List Nat :=
  [Reg.PEER_STAT, Reg.PEER_DOMAIN, Reg.PEER_EVT, Reg.PEER_MEMBER_CHG_CNT, C.PEER_MEMBER_CHG_CNT.sat, Reg.ING_STAT, Reg.ING_S_STAT 0]
    ++ ((List.range 4).map fun l => Reg.PEER_LANE_STAT l) ++ (List.range 16).map fun i => Reg.PEER_MEM_STAT i

/-- A command that its pair takes at once answers 0x0000 OK with its results, and leaves everything else as it was. -/
def Answers (i : Instr) (c : Cmd) (op : Nat) (s : State) (results : List Byte) : Prop :=
  Takes s.dev c op → Gives i s fun t => Replied s t c op 0x0000 results ∧ Leaves [] [] s t

/-- A command that its pair takes at once answers 0x0000 OK, has an effect, and leaves as they were the parts, the registers and
the memory that are not listed. -/
def Acts (i : Instr) (c : Cmd) (op : Nat) (s : State) (results : List Byte) (parts : List Part) (regs : List Nat)
    (effect : State → Prop) : Prop :=
  Takes s.dev c op → Gives i s fun t => Replied s t c op 0x0000 results ∧ effect t ∧ Leaves parts regs s t

/-- A fast-path command whose pair lets it act answers 0x0000 OK, has an effect, and leaves as they were the parts, the registers
and the memory that are not listed. -/
def ActsFast (i : Instr) (c : Cmd) (op : Nat) (s : State) (results : List Byte) (parts : List Part) (regs : List Nat)
    (effect : State → Prop) : Prop :=
  TakesFast s.dev c op → Gives i s fun t => Replied s t c op 0x0000 results ∧ effect t ∧ Leaves parts regs s t

/-- A command that its pair takes at once answers 0x0001 ACCEPTED, is outstanding, has an effect, and leaves as they were the
parts, the registers and the memory that are not listed. -/
def Starts (i : Instr) (c : Cmd) (op : Nat) (s : State) (aux : Nat) (parts : List Part) (regs : List Nat)
    (effect : State → Prop) : Prop :=
  Takes s.dev c op → Gives i s fun t =>
    Replied s t c op 0x0001 [] ∧ Accepted s t c op aux ∧ effect t ∧ Leaves parts regs s t

/-- Every Kryroip command that the interpreter starts, with its opcode: all but those of the fast path (R445, R459 to R472). -/
def commandsOf (c : Cmd) : List (Instr × Nat) :=
  [(.sysNop c, 0x0001), (.sysIdent c, 0x0002), (.sysStatus c, 0x0003), (.sysReset c, 0x0004), (.sysAbort c, 0x0005),
    (.timeGet c, 0x0101), (.timeSet c, 0x0103), (.timeFmeas c, 0x0104), (.scanStart c, 0x0201), (.scanStop c, 0x0202),
    (.scanResume c, 0x0204), (.emitResume c, 0x0302), (.emitSubstitute c, 0x0303), (.emitSegStatus c, 0x0304),
    (.emitCountCommit c, 0x0305), (.emitDrvCtrl c, 0x0306), (.lampSet c, 0x0307), (.lampStatus c, 0x0308),
    (.lampDiagnose c, 0x0309), (.calBurnish c, 0x0401), (.calCommit c, 0x0402), (.calRangeZero c, 0x0403), (.calExport c, 0x0404),
    (.calImport c, 0x0405), (.calTap c, 0x0406), (.calHk c, 0x0407), (.outStatus c, 0x0501), (.outRing c, 0x0502),
    (.outHistRegion c, 0x0503), (.outRate c, 0x0504), (.outTapRequest c, 0x0505), (.turfDump c, 0x0506), (.turfClear c, 0x0507),
    (.cfgGet c, 0x0601), (.cfgSet c, 0x0602), (.cfgLoad c, 0x0603), (.cfgCommit c, 0x0604), (.cfgOverlayWrite c, 0x0605),
    (.cfgOverlayApply c, 0x0606), (.cfgOverlayErase c, 0x0607), (.cfgRevert c, 0x0608), (.cfgDump c, 0x0609),
    (.safetyStatus c, 0x0701), (.safetyCommission c, 0x0702), (.safetyRelease c, 0x0703), (.safetyFieldLoad c, 0x0704),
    (.peerStatus c, 0x0801), (.peerMembers c, 0x0802), (.peerReclaim c, 0x0803), (.peerLaneReset c, 0x0804), (.memScrub c, 0x0901),
    (.memStatus c, 0x0902), (.memPatrol c, 0x0903), (.memWipe c, 0x0904), (.hkSync c, 0x0A01), (.hkRead c, 0x0A02),
    (.hkDcFreeze c, 0x0A03), (.pwrStatus c, 0x0B01), (.pwrState c, 0x0B02), (.thmStatus c, 0x0B03), (.thmDamperMin c, 0x0B04),
    (.secAttest c, 0x0C01), (.secIdCert c, 0x0C02), (.secLifecycle c, 0x0C03), (.secFwStage c, 0x0C04), (.secFwActivate c, 0x0C05),
    (.secKeyRevoke c, 0x0C06), (.telConfig c, 0x0D01), (.telSnapshot c, 0x0D02), (.dbgEventTest c, 0x0D03),
    (.dbgCmdStats c, 0x0D04)]

/-- The pair of command `c` of opcode `op` brings it to the interpreter at once: the pair runs, commands are taken from it, no command
waits in it, two entries of its completion queue are free (R438), no FENCE holds it (R452), and no other pair's command comes first
(R451). -/
structure Reaches (d : Dev) (c : Cmd) (op : Nat) : Prop where
  live : d.pairLive c.pair.val = true
  enabled : d.flag (F.CMDQ_Q_CTL_EN c.pair.val) = true
  halted : d.flag (F.CMDQ_Q_STAT_HALTED c.pair.val) = false
  speaks : (d.pair c.pair.val).silent = false
  rung : (d.pair c.pair.val).rung = []
  fetched : (d.pair c.pair.val).fetched = []
  room : 2 ≤ d.cqFree c.pair.val
  fence : d.fenced c.pair.val (c.packet op) = false
  turn : d.otherAhead c.pair.val d.cmd.bells = false

/-- A command is refused with a status: its reply says so, it is not outstanding, and everything else is as it was. -/
def Refuses (i : Instr) (c : Cmd) (op : Nat) (s : State) (status : Nat) : Prop :=
  Gives i s fun t => Replied s t c op status [] ∧ t.dev.cmd.running = s.dev.cmd.running ∧ Leaves [] [] s t

end Sys2Proof
end

