-- ==== Sys2Proof/WellFormed.lean ====
section
/-! DEFINITION. Well-formed commands and events: the operands that the types leave wider than the part. -/

namespace Sys2Proof

/-- Beats found in error, each with a mask of its ten symbols (R506). -/
def symbolMasks (l : List (Nat × Nat)) : Bool := l.all fun x => decide (x.2 < 1024)

/-- A link width (R629). -/
def linkWidth (n : Nat) : Bool := n == 1 || n == 2 || n == 4 || n == 8 || n == 16

/-- A term of `Instr` that stands for a command or event of the part. -/
def Instr.wf : Instr → Bool
  | .memScrubComplete upset => symbolMasks upset
  | .commandCompletion _ _ upset => symbolMasks upset
  | .satBitClear addr _ => (satCounters addr).isSome
  | .stickyBitClear addr _ => (regRow? addr).any fun r => (satCounters addr).isNone && r.fields.any (·.acc == .w1c)
  | .pairLoRead addr => (regRow? addr).any (·.half == .lo)
  | .rcFieldRead addr => (regRow? addr).any fun r => r.fields.any (·.acc == .rc)
  | .chainBringupDone _ _ drivers => decide (drivers.length ≤ 16)
  | .tapReqWrite offset _ => decide (Reg.TAP_REQ_ROWS 0 ≤ offset ∧ offset < Reg.TAP_REQ_ROWS 16) && (regRow? offset).isSome
  | .cxlMemRead _ upset => symbolMasks upset
  | .apertureAccess _ length write upset => (write.all fun bs => bs.length == length) && symbolMasks upset
  | .linkUp _ _ width _ => linkWidth width
  | .linkRetrain _ width _ => linkWidth width
  | .resetRelease flushed => flushed.length == 6
  | .hkRound regions spots => regions.length == 12 && spots.length == 2
  | .fastRound spots => spots.length == 20
  | .hotspotCompare spots => spots.length == 20
  | .governorTick pace => pace.length == 16
  | .wmbLineFlush upset => symbolMasks upset
  | .patrolPass upset _ => symbolMasks upset
  | .peerBlockReceived _ _ _ chars => chars.length == 64
  | .sysNop _ | .sysIdent _ | .sysStatus _ | .sysReset _ | .sysAbort _ | .timeGet _ | .timeMark _ | .timeSet _ | .timeFmeas _
  | .fmeasGateEnd | .fmeasEdge _ | .scanStart _ | .scanStop _ | .scanHold _ | .scanResume _ | .scanRampEnd | .runInStart
  | .mirrorSettleTimeout | .mirrorParked | .stopRampEnd | .emitStop _ | .emitResume _ | .emitSubstitute _ | .emitSegStatus _
  | .emitCountCommit _ | .emitDrvCtrl _ | .lampSet _ | .lampStatus _ | .lampDiagnose _ | .calBurnish _ | .calCommit _
  | .calRangeZero _ | .rangeZeroComplete | .calExport _ | .calImport _ | .calTap _ | .calTapComplete | .calHk _ | .outStatus _
  | .outRing _ | .outHistRegion _ | .outRate _ | .outTapRequest _ | .turfDump _ | .turfDumpComplete | .turfClear _ | .cfgGet _
  | .cfgSet _ | .cfgLoad _ | .cfgCommit _ | .cfgOverlayWrite _ | .cfgOverlayApply _ | .cfgOverlayErase _ | .cfgRevert _ | .cfgDump _
  | .preparePhaseEnd | .safetyStatus _ | .safetyCommission _ | .safetyRelease _ | .safetyFieldLoad _ | .peerStatus _ | .peerMembers _
  | .peerReclaim _ | .peerLaneReset _ | .memScrub _ | .memStatus _ | .memPatrol _ | .memWipe _ | .hkSync _ | .hkRead _ | .hkDcFreeze _
  | .pwrStatus _ | .pwrState _ | .pwrStateComplete | .thmStatus _ | .thmDamperMin _ | .secAttest _ | .secIdCert _ | .secLifecycle _
  | .lifecycleChangeDone | .lifecycleResetTimer | .secFwStage _ | .fwStageComplete | .secFwActivate _ | .secKeyRevoke _ | .telConfig _
  | .telSnapshot _ | .dbgEventTest _ | .dbgCmdStats _ | .storeCommitComplete | .sqDoorbell _ _ _ | .cqHeadWrite _ _
  | .commandFetch _ _ | .ackDeadlineMiss _ | .queueEnable _ _ | .queueDisable _ _ | .cmdqDeclare _ | .streamEnable _ _
  | .streamDisable _ _ | .ringRdWrite _ _ | .evtRingEnable _ | .evtRingRdWrite _ | .evtPendClear _ _ | .turfRdIdxWrite _
  | .chainEnable _ | .chainDisable _ | .peerEnable _ | .apertureWrite _ | .memDmaResume _ | .registerWrite _ _ _
  | .hdmCommit _ _ _ _ _ | .cxlMemWrite _ _ _ | .flr | .d3hotEntry | .d0Return | .enableBitCleared _ | .msixUnmask _
  | .msixHoldoffExpiry _ | .hotReset _ | .perstAssert | .cxlLinkError _ | .powerOnReset | .resetNAssert | .resetNRelease _
  | .watchdogExpiry | .safetyResetTimer | .softwareResetTimer | .fuseLoadDone _ | .pllLock | .pllUnlock | .perstRelease
  | .firmwareVerified _ _ | .memTrainingDone _ _ | .restore _ _ _ _ | .vbakLoss | .slotBoundary _ | .frameBoundary | .turnaroundStart
  | .safetyWindowBoundary | .comparatorEdge _ _ _ _ _ _ _ _ | .fireEchoEdge _ _ | .referenceTimeout | .windowClose _ _ | .emberDrain _
  | .pixelComplete _ _ | .ingotTimeLimit | .ingotPlace | .histRecordWrite | .waveRecordWrite | .tapWindowOpen _ | .tapWindowEnd _ _
  | .burnishBlockEnd _ | .burnishBlockTimeout _ | .burnishApplyStart _ | .burnishApplySwitch | .burnishApplyEnd | .refTdcApply _
  | .burnishCommitTimer | .chainStatusReceived _ _ | .segCountCommitTimer | .camSyncEdge _ _ _ | .camSyncLost _ | .lampStartCommit _
  | .lampDiagGap _ | .lampDiagTimeout _ | .holdoverTimeout | .ageLearnTimer | .loopSample _ _ _ _ _ | .loopOverrun _ _
  | .safetyCycle _ _ _ | .accountantDecision | .safetyMotionSample _ _ _ | .stopInputChange _ _ _ | .stopFilterExpiry _
  | .inputDiscrepancyTimeout _ | .restartInputChange _ _ _ | .restartStuck | .testPulseDue _ | .testPulseEnd _ _ _ | .testOverdue _
  | .readbackMismatch _ | .fieldBatchClose | .frameMissingTimeout | .pixelCopyReceived _ | .thermalSafeExit | .damperHoldExpiry
  | .telemetryPeriod | .senseConversionEnd _ _ | .complianceTrip | .syncInEdge | .hkChainOutput _ _ | .avsReadback _ _ _
  | .domainSwitchOnDone _ | .powerGoodTimeout | .memMaintenanceTick _ | .dieCeWindow | .engineTrap _ _ | .engineReloadDone _
  | .laneAligned _ _ _ | .announceReceived _ _ | .timeBlockReceived _ _ | .claimReceived _ | .grantReceived _ | .announceTimer
  | .timeExchangeTick _ | .partnerTimeout _ | .memberTimeout _ | .grantSend | .laneAlignmentLost _ | .clampExcursion _ _ _ _
  | .commandPathParityError _ => true

end Sys2Proof
end

