-- ==== Sys2Proof/Certificates/Slice0/Obligations.lean ====
section
/-! DEFINITION. The statements about the part, from the numbered rules of the specification. -/

open Sys2Proof Sys2Proof.Machine

/-! ## Commands that read (R459 to R472) -/

/-- The commands that report on the part as a whole: `sys.nop`, `sys.ident`, `sys.status`, `time.get`, `safety.status`, `peer.status`,
`mem.status`, `pwr.status` and `thm.status` each complete with OK and the results that its row of the opcode tables lays out, and change
nothing but their queue pair; the other commands of those tables have statements of their own (R459, R460, R466, R467, R468, R470).
The model's reading of a status that is computed as it is read is log entry 33. -/
def Obligations.ReportingCommandsAnswer : Prop := ∀ (s : State) (c : Cmd),
  Answers (.sysNop c) c 0x0001 s [] ∧
  Answers (.sysIdent c) c 0x0002 s (leBytes 1 2 ++ leBytes 1 s.dev.rst.shadow.lifecycle
    ++ leBytes 1 (if Config.sixteenGiB then 16 else 8) ++ leBytes 1 (s.dev.fld F.GLB_HOST_MODE)
    ++ leBytes 4 (s.dev.reg Reg.SEC_FW_VER).toNat ++ leBytes 8 Config.deviceId.toNat ++ leBytes 2 s.dev.bookId) ∧
  Answers (.sysStatus c) c 0x0003 s (leBytes 1 s.dev.scanState ++ leBytes 1 (field s.dev.safeStatView 0 8) ++ leBytes 1 s.dev.damper
    ++ leBytes 1 (s.dev.fld F.GLB_STAT_RESTORED + 2 * s.dev.fld F.TIME_STAT_VALID + 4 * s.dev.fld F.BLW_STAT_E_UP
      + 8 * s.dev.fld F.BLW_STAT_L_UP)
    ++ leBytes 4 (s.dev.reg Reg.TIME_FRAME).toNat ++ leBytes 8 s.dev.now ++ leBytes 2 (s.dev.fld F.THM_STAT_T_MAX)
    ++ leBytes 1 (s.dev.fld F.CMDQ_STAT_OUTSTANDING)) ∧
  Answers (.timeGet c) c 0x0101 s (leBytes 8 s.dev.now ++ leBytes 4 (s.dev.reg Reg.TIME_RATE).toNat
    ++ leBytes 4 (s.dev.reg Reg.TIME_XO_TRIM).toNat ++ leBytes 2 (s.dev.timeStat.toNat % 1024)) ∧
  Answers (.safetyStatus c) c 0x0701 s (leBytes 4 (withField (withField (s.dev.reg Reg.SAFE_STAT) 11 1 (s.dev.par P.safe_b_restart 0))
      12 1 (s.dev.par P.safe_start_mode 0)).toNat
    ++ leBytes 4 (s.dev.reg Reg.SAFE_CAUSE).toNat ++ leBytes 4 (s.dev.reg Reg.SAFE_CHECK).toNat ++ leBytes 4 s.dev.checkLive
    ++ leBytes 8 (s.dev.wide64 Reg.SAFE_LOCK_TIME_LO)) ∧
  Answers (.peerStatus c) c 0x0801 s (leBytes 4 (s.dev.reg Reg.PEER_STAT).toNat ++ leBytes 4 (s.dev.reg Reg.PEER_DOMAIN).toNat
    ++ leBytes 4 (s.dev.reg Reg.PEER_OFFSET).toNat ++ leBytes 4 (s.dev.reg Reg.PEER_DELAY).toNat
    ++ leBytes 8 ((s.dev.peer.leader.map (·.toNat)).getD 0)) ∧
  Answers (.memStatus c) c 0x0902 s (leBytes 4 (s.dev.reg Reg.MEM_CE_CNT).toNat ++ leBytes 4 (s.dev.reg Reg.MEM_UE_CNT).toNat
    ++ leBytes 1 (s.dev.fld F.MEM_STAT_HALT_A + 2 * s.dev.fld F.MEM_STAT_HALT_B)) ∧
  Answers (.pwrStatus c) c 0x0B01 s (leBytes 1 (s.dev.fld F.PWR_STAT_STATE) ++ zeros 1 ++ leBytes 2 (s.dev.fld F.PWR_VF_V)
    ++ leBytes 4 (s.dev.reg Reg.PWR_POWER).toNat) ∧
  Answers (.thmStatus c) c 0x0B03 s (leBytes 2 (s.dev.fld F.THM_STAT_T_MAX) ++ leBytes 1 s.dev.damper
    ++ leBytes 1 (s.dev.fld F.THM_STAT_SAFE + 2 * s.dev.fld F.THM_STAT_FAST_ROUND) ++ leBytes 4 (s.dev.fld F.THM_FAIL_HOT)
    ++ (List.range 12).flatMap fun r => leBytes 1 (celsius (s.dev.fldI (F.THM_REGION_TEMP r))))

/-- The commands that report on one item of many, which is in range: `emit.seg_status`, `lamp.status`, `out.status`, `cfg.get` of a live, a
committed or an overlay value, `hk.read` and `dbg.cmd_stats` each complete with OK and the results that its row of the opcode tables
lays out, and change nothing but their queue pair (R462, R464, R465, R469, R472). The model's reading of a status that is
computed as it is read is log entry 33. -/
def Obligations.ItemReportsAnswer : Prop := ∀ (s : State) (c : Cmd),
  (let k := (c.packet 0x0304).u 0 1
   Answers (.emitSegStatus c) c 0x0304 s (leBytes 4 (s.dev.reg (Reg.BLW_SEG_STAT k)).toNat
     ++ leBytes 8 (s.dev.wide64 (Reg.BLW_SEG_PULSES_LO k))
     ++ leBytes 2 (s.dev.blw.e.code (s.dev.par P.slot_seg_group k) k / 2 ^ (16 - s.dev.blw.e.res)))) ∧
  (let k := (c.packet 0x0308).u 0 1
   Answers (.lampStatus c) c 0x0308 s (leBytes 4 (s.dev.reg (Reg.BLW_LAMP_STAT k)).toNat
     ++ leBytes 4 (min (2 ^ 32 - 1) (((s.dev.lampPeriod k).getD 0) * 2 / 5)))) ∧
  (let n := (c.packet 0x0501).u 0 1
   n ≤ 2 → Answers (.outStatus c) c 0x0501 s (leBytes 4 (s.dev.reg (Reg.ING_S_WR n)).toNat ++ leBytes 4 (s.dev.reg (Reg.ING_S_RD n)).toNat
     ++ leBytes 4 (s.dev.reg (Reg.ING_S_STAT n)).toNat ++ leBytes 4 (s.dev.reg Reg.ING_SEQ).toNat
     ++ leBytes 8 (s.dev.wide64 Reg.ING_DROP_FULL_LO))) ∧
  (let i := (c.packet 0x0601).u 0 2
   let e := (c.packet 0x0601).u 4 4
   let src := (c.packet 0x0601).u 8 1
   ∀ r, param? i = some r → e < r.elems → src ≤ 16 →
     let v := if src = 0 then some (s.dev.par i e) else if src = 1 then s.dev.committed 0 (pkey i e)
       else slook (setKey (src - 1) (pkey i e)) s.dev.cfg.images
     Answers (.cfgGet c) c 0x0601 s
       (match v with
        | some v => leBytes 1 r.esize ++ zeros 7 ++ leBytes 16 (v % 2 ^ (8 * r.esize))
        | none => [])) ∧
  (let n := (c.packet 0x0A02).u 0 1
   n ≤ 31 → Answers (.hkRead c) c 0x0A02 s (leBytes 2 (field (s.dev.reg (Reg.HK_SENSE_WORD n)) 0 16)
     ++ leBytes 1 (field (s.dev.reg (Reg.HK_SENSE_WORD n)) 16 3) ++ zeros 5
     ++ leBytes 8 (sget (fun _ => 0) n s.dev.hk.sampled))) ∧
  (let n := (c.packet 0x0D04).u 0 1
   let p := s.dev.pair n
   n ≤ 15 → Answers (.dbgCmdStats c) c 0x0D04 s (leBytes 4 (p.nFetched + if n = c.pair.val then 1 else 0) ++ leBytes 4 p.ackMax
     ++ leBytes 4 p.nMiss ++ leBytes 4 p.nRefused))

/-! ## The system, telemetry and debug groups (R449, R459, R606, R616) -/

/-- `sys.reset` with its key and no store commit running makes the software reset due; `tel.config` sets period and ring of the
telemetry; `tel.snapshot` starts; `dbg.event_test` raises its source (R459, R606, R616). The model's readings are log entries
144, 147. -/
def Obligations.SystemCommandsAct : Prop := ∀ (s : State) (c : Cmd),
  ((c.packet 0x0004).u 0 2 = 0x5253 → s.dev.cfg.commits = [] →
    Acts (.sysReset c) c 0x0004 s [] [.rst] [] fun t => t.dev.rst = { s.dev.rst with softDue := true }) ∧
  (let period := (c.packet 0x0D01).u 0 4
   let addr := (c.packet 0x0D01).u 8 8
   let size := (c.packet 0x0D01).u 16 4
   period % 10 = 0 → period ≤ 60000 → addr % 4096 = 0 → addr + size ≤ devMemSize → size % 256 = 0 → 4096 ≤ size → size ≤ 2 ^ 26 →
    Acts (.telConfig c) c 0x0D01 s [] [.tel] [Reg.TEL_STAT] fun t =>
      t.dev.tel.addr = addr ∧ t.dev.tel.size = size ∧ 
      t.dev.reg Reg.TEL_STAT = BitVec.ofNat 32 (period + if period = 0 then 0 else 2 ^ 16)) ∧
  ((c.packet 0x0D02).u 0 8 + 256 ≤ devMemSize → Starts (.telSnapshot c) c 0x0D02 s 0 [] [] fun _ => True) ∧
  ((c.packet 0x0D03).u 0 2 ≤ 639 → Acts (.dbgEventTest c) c 0x0D03 s [] [.free] [] fun t => Pending t ((c.packet 0x0D03).u 0 2))

/-- `sys.abort` of an abortable command of a pair that still hears: that command ends with 0x0206, and the abort itself answers
OK (R449). The model's reading is log entry 40. -/
def Obligations.AbortEndsItsTarget : Prop := ∀ (s : State) (c : Cmd) (r : Running),
  let pair := (c.packet 0x0005).u 0 1
  let tag := (c.packet 0x0005).u 4 4
  Takes s.dev c 0x0005 → (s.dev.cmd.running.find? fun r => r.pair == pair && r.pkt.tag.toNat == tag && !r.mute) = some r →
  r.abortable = true → Awaits s.dev r → r.pkt.opcode.toNat ≠ 0x0901 →
  Gives (.sysAbort c) s fun t => Completed s t r 0x0206 [] ∧
    ∃ before, (t.dev.pair c.pair.val).replies = before ++ [⟨0x0000, 0x0005, c.tag.toNat, []⟩]

/-- A telemetry period with telemetry running and no memory halted: the next record goes to its entry, and TEL_SEQ names it
(R616). -/
def Obligations.TelemetryWritesItsRecord : Prop := ∀ s : State,
  s.dev.flag F.TEL_STAT_RUN = true → s.dev.memHalted = false →
  let seq := if s.dev.tel.started then ((s.dev.reg Reg.TEL_SEQ).toNat + 1) % 2 ^ 32 else 0
  Gives .telemetryPeriod s fun t => t.dev.reg Reg.TEL_SEQ = BitVec.ofNat 32 seq ∧ t.dev.tel.started = true ∧
    Writes (s.dev.tel.addr + seq % (s.dev.tel.size / 256) * 256) (s.dev.telRecord seq) s t ∧
    Keeps [.tel] s t ∧ KeepsRegs [Reg.TEL_SEQ] s t

/-! ## Device time (chapter 02) -/

/-- The commands of device time: `time.mark` replies with the time it captured and the rate, is counted, and reaches the servo
when host marks are the source applied; `time.set` sets device time while nothing is scanned; `time.fmeas` starts a measurement
(R38, R40, R41, R56). The model's reading is log entry 49. -/
def Obligations.TimeCommandsAct : Prop := ∀ (s : State) (c : Cmd),
  ActsFast (.timeMark c) c 0x0102 s (leBytes 8 s.dev.capture ++ leBytes 4 (s.dev.reg Reg.TIME_RATE).toNat) [.time]
    [Reg.TIME_MARK_CNT, C.TIME_MARK_CNT.sat, Reg.TIME_STAT, Reg.TIME_RATE, Reg.TIME_STEP_CNT] (fun t =>
      Counts C.TIME_MARK_CNT 1 s t ∧ (s.dev.activeSrc ≠ 1 → t.dev.time = s.dev.time ∧ t.dev.reg Reg.TIME_STAT = s.dev.reg Reg.TIME_STAT) ∧
      (s.dev.activeSrc = 1 → t.dev.time.lastOffset = some s.dev.time.ticks)) ∧
  (let x := (c.packet 0x0103).u 0 8
   x < 2 ^ 62 → s.dev.atRest = true → Acts (.timeSet c) c 0x0103 s [] [.time] [Reg.TIME_STAT] fun t =>
     t.dev.now = x ∧ t.dev.time.heldStep = none ∧ t.dev.flag F.TIME_STAT_VALID = true ∧
     t.dev.flag F.TIME_STAT_STEP_PENDING = false) ∧
  (let input := (c.packet 0x0104).u 0 1
   let gate := (c.packet 0x0104).u 2 2
   input ≤ 10 → 10 ≤ gate → gate ≤ 10000 → Starts (.timeFmeas c) c 0x0104 s 0 [.time] [Reg.TIME_STAT] fun t =>
     t.dev.time = { s.dev.time with fmeas := some ⟨input, gate, [], 0⟩ } ∧ t.dev.flag F.TIME_STAT_FMEAS_BUSY = true)

/-- A frequency measurement takes every edge, and at the end of its gate its command completes with the fitted result and
EV_FMEAS_DONE is raised (R57). The model's readings are log entries 56, 153, 154. -/
def Obligations.MeasurementRunsAndEnds : Prop := ∀ (s : State) (m : Fmeas), s.dev.time.fmeas = some m →
  (∀ stamp : Nat, Gives (.fmeasEdge stamp) s fun t =>
    t.dev.time = { s.dev.time with fmeas := some { m with
      edges := (fmeasIndex m.edges stamp, stamp) :: m.edges
      missing := m.missing + (m.edges.head?.map fun e => fmeasIndex m.edges stamp - e.1 - 1).getD 0 } } ∧
    Leaves [.time] [] s t) ∧
  (∀ (r : Running), (s.dev.cmd.running.filter fun r => r.pkt.opcode.toNat == 0x0104) = [r] → Awaits s.dev r →
    Gives .fmeasGateEnd s fun t => Completed s t r m.result.1 m.result.2 ∧ Pending t Ev.fmeasDone ∧
      t.dev.time = { s.dev.time with fmeas := none } ∧ t.dev.flag F.TIME_STAT_FMEAS_BUSY = false ∧
      Leaves [.time] [Reg.TIME_STAT] s t)

/-- No offset for the holdover time: the rate takes the integrator's value, HOLDOVER is set with VALID as it was, and the
stretch is counted and reported; a device that never applied an offset, and one on the FREE source, do not enter holdover; every
offset applied clears it (R44); a day of unbroken discipline yields a move of the ageing estimate of at most 100 ppb (R35). -/
def Obligations.DisciplineEnds : Prop := ∀ s : State,
  (s.dev.time.lastOffset.isSome = true → s.dev.fld F.TIME_CTL_SOURCE ≠ 3 → s.dev.flag F.TIME_STAT_HOLDOVER = false →
    Gives .holdoverTimeout s fun t => t.dev.flag F.TIME_STAT_HOLDOVER = true ∧ t.dev.flag F.TIME_STAT_DISCIPLINED = false ∧
      t.dev.time.rate = s.dev.time.fInt ∧ t.dev.reg Reg.TIME_RATE = BitVec.ofInt 32 (ratePpb s.dev.time.fInt) ∧
      t.dev.flag F.TIME_STAT_VALID = s.dev.flag F.TIME_STAT_VALID ∧ Counts C.TIME_HOLDOVER_CNT 1 s t ∧ Pending t Ev.timeHoldover ∧
      Leaves [.time] [Reg.TIME_STAT, Reg.TIME_RATE, Reg.TIME_HOLDOVER_CNT, C.TIME_HOLDOVER_CNT.sat] s t) ∧
  (s.dev.time.lastOffset = none ∨ s.dev.fld F.TIME_CTL_SOURCE = 3 → Gives .holdoverTimeout s fun t =>
    t.dev.flag F.TIME_STAT_HOLDOVER = s.dev.flag F.TIME_STAT_HOLDOVER ∧ t.dev.time.rate = s.dev.time.rate ∧
    (s.dev.time.lastOffset = none → t.dev.reg Reg.TIME_STAT = s.dev.reg Reg.TIME_STAT) ∧ Leaves [.time] [Reg.TIME_STAT] s t) ∧
  (∀ theta : Int, (s.dev.applyOffset theta).flag F.TIME_STAT_HOLDOVER = false ∧
    (s.dev.applyOffset theta).time.lastOffset = some s.dev.time.ticks) ∧
  (let since := s.dev.time.ticks - s.dev.time.learnAt
   let len := s.dev.time.learnLen + since
   let sum := s.dev.time.learnSum + s.dev.time.fInt * since
   s.dev.flag F.TIME_CTL_AGE_LEARN_EN = true → s.dev.flag F.TIME_STAT_DISCIPLINED = true → 0 < len →
    Gives .ageLearnTimer s fun t =>
      (∃ n : Int, t.dev.time.ageMove = some n ∧ -100 ≤ n ∧ n ≤ 100 ∧
        n = clampI (-100) 100 (roundDiv (1000000000 * sum) (2 ^ 40 * len))) ∧
      t.dev.time.learnLen = 0 ∧ Leaves [.time] [] s t)

/-! ## The scan (R289 to R291, R309 to R314) -/

/-- The scan commands: `scan.start` begins STARTING from rest where the PLL is locked, power allows it and chain E is up or
unused; `scan.stop` answers at once where nothing is scanned and else stops at the next slot boundary; `scan.hold` names the
slot at which it acts; `scan.resume` asks for the run-in (R310 to R314). The model's reading is log entry 98. -/
def Obligations.ScanCommandsAct : Prop := ∀ (s : State) (c : Cmd),
  (s.dev.atRest = true → s.dev.locked = true → s.dev.fld F.PWR_STAT_STATE ≠ 1 →
    (s.dev.chainUp false = true ∨ s.dev.par P.emit_e_max 0 = 0) →
    Starts (.scanStart c) c 0x0201 s 0 [.scan, .turf, .out] [Reg.SCN_STAT, Reg.TURF_STAT] fun t =>
      t.dev.scanState = stStarting ∧ t.dev.scan.phase = .ramp ∧ t.dev.scan.mirAmpEn = true ∧ t.dev.out.used = []) ∧
  (s.dev.scanState = stStopped → Acts (.scanStop c) c 0x0202 s [] [] [] fun _ => True) ∧
  (s.dev.scanState = stFault → Acts (.scanStop c) c 0x0202 s [] [] [Reg.SCN_STAT] fun t => t.dev.scanState = stStopped) ∧
  (s.dev.scanState ≠ stStopped → s.dev.scanState ≠ stFault → Starts (.scanStop c) c 0x0202 s 0 [.scan] [] fun t =>
    t.dev.scan = { s.dev.scan with stopNext := s.dev.scan.stopNext || decide (s.dev.scanState ≠ stStopping) }) ∧
  (s.dev.scanState = stRunning → ActsFast (.scanHold c) c 0x0203 s (leBytes 8 (s.dev.slotNo + 1)) [.scan] [] fun t =>
    t.dev.scan = { s.dev.scan with holdNext := true }) ∧
  (s.dev.scanState = stHolding → s.dev.scan.resumeReq = false →
    ActsFast (.scanHold c) c 0x0203 s (leBytes 8 (s.dev.slotNo + 1)) [] [] fun _ => True) ∧
  (s.dev.scanState = stHolding → s.dev.flag F.THM_STAT_SAFE = false →
    Starts (.scanResume c) c 0x0204 s 0 [.scan, .turf] [Reg.TURF_STAT] fun t => t.dev.scan.resumeReq = true)

/-- The events of starting and stopping: the ramp ends in the wait for the settle condition; the run-in begins once it holds
with phase lock, raises ARM and lasts ceil(T/2) slots; a parked mirror holds or, in a stop, ramps to the centre; the end of that
ramp stops the scan with both DACs at mid code and ends the `scan.stop` that asked for it (R310 to R313). The model's reading is log entry 97. -/
def Obligations.ScanMovesOn : Prop := ∀ s : State,
  (s.dev.scan.phase = .ramp → Gives .scanRampEnd s fun t => t.dev.scan.phase = .settle ∧ Leaves [.scan] [] s t) ∧
  (s.dev.scan.sweepAllEnd = none → s.dev.flag F.TIME_STAT_PHASE_LOCK = true → s.dev.scan.stopNext = false →
    s.dev.scan.holdNext = false → s.dev.scan.phase = .settle → s.dev.settled = true →
    Gives .runInStart s fun t => t.dev.scan.phase = .runIn ∧ t.dev.scan.arm = true ∧ t.dev.scan.runInLeft = s.dev.runInSlots ∧
      t.dev.flag F.SCN_STAT_PARKED = false ∧ Leaves [.scan, .blw] [Reg.SCN_STAT] s t) ∧
  (s.dev.scan.phase = .parking → s.dev.scanState ≠ stStopping → Gives .mirrorParked s fun t =>
    t.dev.scan = { s.dev.scan with phase := .parked } ∧ t.dev.flag F.SCN_STAT_PARKED = true ∧ Leaves [.scan] [Reg.SCN_STAT] s t) ∧
  (s.dev.scan.phase = .parking → s.dev.scanState = stStopping → Gives .mirrorParked s fun t =>
    t.dev.scan.phase = .stopRamp ∧ t.dev.flag F.SCN_STAT_PARKED = false ∧ Leaves [.scan] [Reg.SCN_STAT] s t) ∧
  (∀ r : Running, s.dev.scan.phase = .stopRamp → (s.dev.cmd.running.filter fun r => r.pkt.opcode.toNat == 0x0202) = [r] →
    Awaits s.dev r → Gives .stopRampEnd s fun t => Completed s t r 0x0000 [] ∧ t.dev.scanState = stStopped ∧
      t.dev.reg Reg.SCN_MIR_DAC = 0x80008000#32 ∧ t.dev.scan.mirAmpEn = false ∧ t.dev.scan.phase = .off ∧
      Leaves [.scan, .turf] [Reg.SCN_STAT, Reg.SCN_MIR_DAC] s t)

/-- Mirror faults: the settle condition that does not come in time, and the fourth overrun in a row, end the scan in FAULT, tell
the safety island, and are counted and reported; a time step held until then is placed (R43). An overrun by itself is marked and
counted. A loop sample gives the position measured, and while the loop runs it enters the sums of the loop error (R290, R291). The
model's reading is log entry 96. -/
def Obligations.MirrorFaultsStopTheScan : Prop := ∀ s : State,
  (s.dev.scan.phase = .settle → s.dev.settled = false → s.dev.atRest = false → s.dev.scanState ≠ stStopping →
    Gives .mirrorSettleTimeout s fun t => t.dev.scanState = stFault ∧ t.dev.scan.ampOffNext = true ∧
      t.dev.safe = { s.dev.safe with detected := orBit s.dev.safe.detected Cause.mirror } ∧ Counts C.SCN_MFAULT_CNT 1 s t ∧
      Pending t Ev.mirrorFault ∧
      (let regs := [Reg.SCN_STAT, Reg.SCN_EVT, Reg.SCN_MFAULT_CNT, C.SCN_MFAULT_CNT.sat]
       (s.dev.time.heldStep = none → Leaves [.scan, .safe, .turf] regs s t) ∧
       Leaves [.scan, .safe, .turf, .time] (regs ++ [Reg.TIME_STAT, Reg.TIME_STEP_CNT, C.TIME_STEP_CNT.sat]) s t)) ∧
  (∀ x y : Bool, ((x && bitAt s.dev.scan.late 0) || (y && bitAt s.dev.scan.late 1)) = true → s.dev.scan.overruns < 3 →
    Gives (.loopOverrun x y) s fun t => t.dev.scan = { s.dev.scan with late := 0, overran := true, overruns := s.dev.scan.overruns + 1 } ∧
      Counts C.SCN_OVERRUN_CNT 1 s t ∧ t.dev.bit Reg.SCN_EVT 7 = true ∧
      Leaves [.scan] [Reg.SCN_EVT, Reg.SCN_OVERRUN_CNT, C.SCN_OVERRUN_CNT.sat] s t) ∧
  (∀ (yx yy : BitVec 16) (tick latX latY : Nat), bits (s.dev.fld F.HK_STAT_SETTLING) 0 2 = 0 →
    (s.dev.atRest = true ∨ s.dev.scan.mirAmpEn = false) → s.dev.scan.ampOffNext = false →
    Gives (.loopSample yx yy tick latX latY) s fun t =>
      t.dev.scan = { s.dev.scan with
        posX := yx.toInt, posY := yy.toInt, posTick := tick, past := ((tick, yx.toInt) :: s.dev.scan.past).take 16 } ∧ Leaves [.scan] [] s t) ∧
  (∀ (yx yy : BitVec 16) (tick latX latY : Nat), bits (s.dev.fld F.HK_STAT_SETTLING) 0 2 = 0 → s.dev.atRest = false →
    s.dev.scan.mirAmpEn = true → s.dev.scan.ampOffNext = false →
    Gives (.loopSample yx yy tick latX latY) s fun t => t.dev.scan.posX = yx.toInt ∧ t.dev.scan.posY = yy.toInt ∧
      t.dev.scan.posTick = tick ∧ t.dev.tel.rmsCnt = s.dev.tel.rmsCnt + 1)

/-! ## The emitter and the Bellows chains (chapter 06) -/

/-- The emitter commands: `emit.stop` suppresses the chain E latch from the next slot boundary and names that slot,
`emit.resume` ends it, `emit.substitute` schedules a pairing that exists, `emit.count_commit` starts the commit of the counters
set, and `emit.drv_ctrl` queues its CTRL word with its owner (R21, R165, R180, R183, R462). The model's readings are log entries
17, 70, 74. -/
def Obligations.EmitterCommandsAct : Prop := ∀ (s : State) (c : Cmd),
  ActsFast (.emitStop c) c 0x0301 s (leBytes 8 (s.dev.slotNo + 1)) [.blw] [] (fun t => t.dev.blw = { s.dev.blw with stopReq := true }) ∧
  Acts (.emitResume c) c 0x0302 s [] [.blw] [] (fun t => t.dev.blw = { s.dev.blw with stopReq := false }) ∧
  (let pr := (c.packet 0x0303).u 0 1
   let sp := (c.packet 0x0303).u 1 1
   let rev := (c.packet 0x0303).u 2 1 == 1
   s.dev.pairings.contains (sp, pr) = true → s.dev.chainUp false = true →
   (rev = true → s.dev.blw.paired.contains (pr, sp) = true) → (rev = false → s.dev.segState sp = segSpareIdle) →
   Starts (.emitSubstitute c) c 0x0303 s 0 [.blw] [] fun t => t.dev.blw = { s.dev.blw with
     subst := s.dev.blw.subst ++ [⟨pr, sp, rev, some (c.pair.val, c.tag.toNat), false⟩] }) ∧
  (s.dev.storeFull 18 (s.dev.setEntries 18) = false →
    Starts (.emitCountCommit c) c 0x0305 s 0 [.cfg] [Reg.GLB_CFG_STAT] fun t => t.dev.flag F.GLB_CFG_STAT_COMMIT_BUSY = true ∧
      t.dev.cfg = { s.dev.cfg with
        commits := s.dev.cfg.commits ++ [⟨18, s.dev.setEntries 18, some (c.pair.val, c.tag.toNat), 0x0305⟩] }) ∧
  (let n := (c.packet 0x0306).u 1 1
   let rw := (c.packet 0x0306).u 2 1 == 1
   let reg := (c.packet 0x0306).u 3 1
   (c.packet 0x0306).u 0 1 = 0 → n < s.dev.fld F.BLW_STAT_E_DRV → reg ≤ 31 → (rw = true → reg = 5) → s.dev.chainUp false = true →
   Starts (.emitDrvCtrl c) c 0x0306 s 0 [.blw] [] fun t => t.dev.blw = { s.dev.blw with e := { s.dev.blw.e with
     ctrl := s.dev.blw.e.ctrl ++ [⟨n, rw, reg, (c.packet 0x0306).u 4 2, some (c.pair.val, c.tag.toNat)⟩] } }) ∧
  (let n := (c.packet 0x0306).u 1 1
   let rw := (c.packet 0x0306).u 2 1 == 1
   let reg := (c.packet 0x0306).u 3 1
   (c.packet 0x0306).u 0 1 = 1 → n < s.dev.fld F.BLW_STAT_L_DRV → reg ≤ 31 → (rw = true → reg = 5) → s.dev.chainUp true = true →
   s.dev.blw.l.awaiting = true →
   Starts (.emitDrvCtrl c) c 0x0306 s 0 [.blw] [] fun t => t.dev.blw = { s.dev.blw with l := { s.dev.blw.l with
     ctrl := s.dev.blw.l.ctrl ++ [⟨n, rw, reg, (c.packet 0x0306).u 4 2, some (c.pair.val, c.tag.toNat)⟩] } })

/-- The lamp commands: `lamp.set` sets source and duty of a lamp while chain L is up; `lamp.diagnose` makes the masked lamps due
and waits for them, and with no lamp in its mask completes at once (R187, R462). The model's reading is log entry 75. -/
def Obligations.LampCommandsAct : Prop := ∀ (s : State) (c : Cmd),
  (let k := (c.packet 0x0307).u 0 1
   let src := (c.packet 0x0307).u 1 1
   (src ≤ 8 ∨ src = 255) → s.dev.chainUp true = true → s.dev.blw.l.drivers ≤ 16 →
   Acts (.lampSet c) c 0x0307 s [] [.blw, .cfg] ((List.range 256).map fun k => Reg.BLW_LAMP_STAT k) fun t =>
     t.dev.par P.lamp_src k = src ∧ t.dev.par P.lamp_duty k = (c.packet 0x0307).u 2 2) ∧
  (let ks := maskLamps ((c.packet 0x0309).u 0 32)
   ks ≠ [] → s.dev.chainUp true = true → (∀ r ∈ s.dev.cmd.running, r.pkt.opcode.toNat = 0x0309 → r.aux ≠ 1) →
   Starts (.lampDiagnose c) c 0x0309 s 0 [.blw] [] fun t =>
     t.dev.blw.diag = s.dev.blw.diag ++ [⟨ks, 0, 0, c.pair.val, c.tag.toNat⟩] ∧ ∀ k ∈ ks, (t.dev.lamp k).due = true) ∧
  (maskLamps ((c.packet 0x0309).u 0 32) = [] → s.dev.chainUp true = true →
   (∀ r ∈ s.dev.cmd.running, r.pkt.opcode.toNat = 0x0309 → r.aux ≠ 1) → Takes s.dev c 0x0309 →
   Gives (.lampDiagnose c) s fun t => t.dev.cmd.running = s.dev.cmd.running ∧ t.dev.blw = s.dev.blw ∧
     (t.dev.pair c.pair.val).replies = (s.dev.pair c.pair.val).replies ++
       [⟨0x0001, 0x0309, c.tag.toNat, []⟩, ⟨0x0000, 0x0309, c.tag.toNat, zeros 4⟩])

/-- Chains start and stop: an enable bit that goes to 1 starts the bring-up with the clock and resolution of the register, and
where R170 fails for chain E the chain is in fault; an enable bit written 0 takes the chain down and clears its fault (R170,
R172, R175, R599); the bring-up that finds what was configured puts the chain up, and one that finds another count puts it in
fault (R175). The model's reading is log entry 72. -/
def Obligations.ChainsComeUpAndGoDown : Prop := ∀ s : State,
  (s.dev.barOpen = true → s.dev.flag F.BLW_CTL_E_EN = false → s.dev.rst.shadow.lifecycle ≠ 4 →
    frameFits (s.dev.par P.blw_e_drivers 0) (s.dev.fld F.BLW_CTL_E_CLK) = true →
    Gives (.chainEnable false) s fun t => t.dev.flag F.BLW_CTL_E_EN = true ∧
      t.dev.blw = { s.dev.blw with e := { bringup := true, clk := s.dev.fld F.BLW_CTL_E_CLK, res := s.dev.fld F.BLW_CTL_E_RES } } ∧
      Leaves [.blw] [Reg.BLW_CTL] s t) ∧
  (s.dev.barOpen = true → s.dev.flag F.BLW_CTL_E_EN = false → s.dev.rst.shadow.lifecycle ≠ 4 →
    frameFits (s.dev.par P.blw_e_drivers 0) (s.dev.fld F.BLW_CTL_E_CLK) = false →
    Gives (.chainEnable false) s fun t => t.dev.flag F.BLW_STAT_E_FAULT = true ∧ Pending t Ev.blwChain ∧
      t.dev.blw.e.bringup = false ∧ Leaves [.blw, .safe] [Reg.BLW_CTL, Reg.BLW_STAT] s t) ∧
  (s.dev.barOpen = true → s.dev.flag F.BLW_CTL_L_EN = false →
    Gives (.chainEnable true) s fun t => t.dev.flag F.BLW_CTL_L_EN = true ∧
      t.dev.blw = { s.dev.blw with l := { bringup := true, clk := s.dev.fld F.BLW_CTL_L_CLK, res := s.dev.fld F.BLW_CTL_L_RES } } ∧
      Leaves [.blw] [Reg.BLW_CTL] s t) ∧
  (s.dev.barOpen = true → s.dev.flag F.BLW_CTL_E_EN = true → Gives (.chainDisable false) s fun t =>
    t.dev.flag F.BLW_CTL_E_EN = false ∧ t.dev.flag F.BLW_STAT_E_UP = false ∧ t.dev.flag F.BLW_STAT_E_FAULT = false ∧
    t.dev.blw = { s.dev.blw with e := {}, subst := [] } ∧ Leaves [.blw] [Reg.BLW_CTL, Reg.BLW_STAT] s t) ∧
  (s.dev.barOpen = true → s.dev.flag F.BLW_CTL_L_EN = true → Gives (.chainDisable true) s fun t =>
    t.dev.flag F.BLW_CTL_L_EN = false ∧ t.dev.flag F.BLW_STAT_L_UP = false ∧ t.dev.flag F.BLW_STAT_L_FAULT = false ∧
    t.dev.blw = { s.dev.blw with l := {} } ∧ (∀ k, k < 256 → t.dev.reg (Reg.BLW_LAMP_STAT k) = 0#32) ∧
    Leaves [.blw] ([Reg.BLW_CTL, Reg.BLW_STAT] ++ (List.range 256).map fun k => Reg.BLW_LAMP_STAT k) s t) ∧
  (∀ drivers : List (BitVec 16 × BitVec 16), let n := s.dev.par P.blw_e_drivers 0
    s.dev.blw.e.bringup = true → n ≤ 16 → drivers.length = n → (∀ x ∈ drivers, x.1.toNat / 256 = 1) →
    Gives (.chainBringupDone false n drivers) s fun t => t.dev.flag F.BLW_STAT_E_UP = true ∧ t.dev.fld F.BLW_STAT_E_DRV = n ∧
      t.dev.blw.e.bringup = false ∧ t.dev.blw.e.drivers = n ∧
      Leaves [.blw, .free] ([Reg.BLW_STAT] ++ (List.range 16).map fun k => Reg.BLW_E_DRV k) s t) ∧
  (∀ (count : Nat) (drivers : List (BitVec 16 × BitVec 16)), s.dev.blw.e.bringup = true →
    (count = 17 ∨ count ≠ s.dev.par P.blw_e_drivers 0) →
    Gives (.chainBringupDone false count drivers) s fun t => t.dev.flag F.BLW_STAT_E_FAULT = true ∧
      t.dev.flag F.BLW_STAT_E_UP = false ∧ Pending t Ev.blwChain ∧ t.dev.blw.e.bringup = false ∧
      Leaves [.blw, .safe] [Reg.BLW_STAT] s t)

/-- What comes back from chain E: an edge of the fire echo outside its window, or while the latch is suppressed or nothing
fires, is unexpected emission; one inside joins the echoes of its shot; a status frame ends the wait for it, and shows each
driver's over-temperature; the fourth bad word in a row of one driver puts the chain in fault (R166, R172 to R174). The model's
readings are log entries 69, 71. -/
def Obligations.ChainReportsBack : Prop := ∀ s : State,
  (∀ (coarse : Nat) (bin : Fin 64) (x : Shot), s.dev.locked = true → s.dev.shot = some x →
    (s.dev.flag F.BLW_STAT_E_SUPPRESSED = true ∨ x.fires = false) →
    Gives (.fireEchoEdge coarse bin) s fun t => Counts C.BLW_E_UNEXP_CNT 1 s t ∧ Pending t Ev.segFail ∧
      t.dev.safe = { s.dev.safe with detected := orBit s.dev.safe.detected Cause.internal } ∧
      Leaves [.safe] [Reg.BLW_E_UNEXP_CNT, C.BLW_E_UNEXP_CNT.sat] s t) ∧
  (∀ (coarse : Nat) (bin : Fin 64) (x : Shot), s.dev.locked = true → s.dev.shot = some x →
    s.dev.flag F.BLW_STAT_E_SUPPRESSED = false → x.fires = true → x.tref.isSome = true →
    (let e := s.dev.edgeTime 512 coarse bin.val
     x.base ≤ e → e ≤ x.base + 4096 * x.pulses.getLast?.getD 0 + 512000 →
     Gives (.fireEchoEdge coarse bin) s fun t => t.dev.shot = some { x with echoes := x.echoes ++ [e] } ∧
       Leaves [.shot] [] s t)) ∧
  (∀ (words : List (BitVec 40)) (f : Frame), s.dev.chainUp false = true → s.dev.blw.e.awaiting = true →
    s.dev.blw.e.last = some f → s.dev.blw.e.drivers ≤ 16 →
    (∀ i, i < s.dev.blw.e.drivers →
      statusOk ((words.map (·.toNat)).getD (s.dev.blw.e.drivers - 1 - i) 0) f.ft = true) →
    Gives (.chainStatusReceived false words) s fun t => t.dev.blw.e.awaiting = false ∧
      ∀ i, i < s.dev.blw.e.drivers → t.dev.flag (F.BLW_E_DRV_OVT i) =
        bitAt ((words.map (·.toNat)).getD (s.dev.blw.e.drivers - 1 - i) 0) 18) ∧
  (∀ (words : List (BitVec 40)) (f : Frame) (i : Nat), s.dev.chainUp false = true → s.dev.blw.e.awaiting = true →
    s.dev.blw.e.last = some f → i < s.dev.blw.e.drivers → 3 ≤ sget (fun _ => 0) i s.dev.blw.e.fails →
    statusOk ((words.map (·.toNat)).getD (s.dev.blw.e.drivers - 1 - i) 0) f.ft = false →
    Gives (.chainStatusReceived false words) s fun t => t.dev.flag F.BLW_STAT_E_FAULT = true ∧
      t.dev.flag F.BLW_STAT_E_UP = false ∧ Pending t Ev.blwChain) ∧
  (s.dev.storeFull 18 (s.dev.setEntries 18) = false → Gives .segCountCommitTimer s fun t =>
    t.dev.cfg = { s.dev.cfg with commits := s.dev.cfg.commits ++ [⟨18, s.dev.setEntries 18, none, 0⟩] } ∧
    Leaves [.cfg] [Reg.GLB_CFG_STAT] s t)

/-- Cameras and lamps: an exposure start updates the source, and its loss is reported once; a START of a page that is due is
committed with one status to come, and the toggle inverts, and one that is not due does nothing; a gap of a source tests the due lamps on page 15, or is passed over and counted
while chain L is off line; a lamp that finds no gap becomes UNKNOWN (R184, R186 to R188, R144). The model's readings are log entries 75, 76, 165. -/
def Obligations.LampsFollowTheirSources : Prop := ∀ s : State,
  (∀ (input : Fin 8) (stamp : Nat) (level : Bool), level = bitAt (s.dev.par P.lamp_sync_pol 0) input.val →
    s.dev.blw.l.drivers ≤ 16 → Gives (.camSyncEdge input level stamp) s fun t => (t.dev.cam input.val).last = some stamp ∧
      (t.dev.cam input.val).count = (s.dev.cam input.val).count + 1 ∧ (t.dev.cam input.val).lost = false ∧
      Leaves [.blw] ((List.range 256).map fun k => Reg.BLW_LAMP_STAT k) s t) ∧
  (∀ input : Fin 8, (s.dev.cam input.val).periods ≠ [] → (s.dev.cam input.val).lost = false →
    Gives (.camSyncLost input) s fun t => (t.dev.cam input.val).lost = true ∧
      (t.dev.cam input.val).periods = (s.dev.cam input.val).periods ∧ Pending t Ev.camSyncLost ∧ Leaves [.blw] [] s t) ∧
  (∀ page : Fin 16, s.dev.chainUp true = true → s.dev.startDue page.val = true → Gives (.lampStartCommit page) s fun t =>
    (∃ f, t.dev.blw.l.last = some f ∧ f.page = page.val ∧ f.ft = !s.dev.blw.l.ft) ∧ t.dev.blw.l.awaiting = true ∧
    t.dev.blw.e = s.dev.blw.e ∧ (page.val < 8 → (s.dev.cam page.val).lost = false → (t.dev.cam page.val).start = none) ∧
    Leaves [.blw] [] s t) ∧
  (∀ page : Fin 16, s.dev.startDue page.val = false → Gives (.lampStartCommit page) s fun t => Leaves [] [] s t) ∧
  (∀ source : Fin 9, let due := (List.range (16 * s.dev.blw.l.drivers)).filter fun k =>
      (s.dev.lamp k).due && s.dev.par P.lamp_src k == source.val
    s.dev.chainUp true = true → due ≠ [] → s.dev.flag F.KILN_BUR_REF_ACT_L_OFFLINE = false →
    Gives (.lampDiagGap source) s fun t => (∃ f, t.dev.blw.l.last = some f ∧ f.page = 15) ∧
      (∀ k ∈ due, (t.dev.lamp k).testing = true) ∧ Leaves [.blw] [] s t) ∧
  (∀ source : Fin 9, ((List.range (16 * s.dev.blw.l.drivers)).filter fun k =>
      (s.dev.lamp k).due && s.dev.par P.lamp_src k == source.val) ≠ [] →
    s.dev.chainUp true = true → s.dev.flag F.KILN_BUR_REF_ACT_L_OFFLINE = true →
    Gives (.lampDiagGap source) s fun t => t.dev.fld F.KILN_BUR_REF_ACT_L_SKIP =
      min (2 ^ F.KILN_BUR_REF_ACT_L_SKIP.width - 1) (s.dev.fld F.KILN_BUR_REF_ACT_L_SKIP + 1) ∧
      Leaves [] [Reg.KILN_BUR_REF_ACT] s t) ∧
  (∀ lamp : Fin 256, (s.dev.lamp lamp.val).due = true → (s.dev.lamp lamp.val).testing = false →
    (s.dev.lamp lamp.val).reported = false → Gives (.lampDiagTimeout lamp) s fun t =>
      t.dev.fld (F.BLW_LAMP_STAT_STATE lamp.val) = 4 ∧ (t.dev.lamp lamp.val).due = false ∧ Pending t Ev.lampUndiagnosed ∧
      Leaves [.blw] [Reg.BLW_LAMP_STAT lamp.val] s t)

/-! ## Burnish (chapter 05) -/

/-- The calibration commands: `cal.burnish` of ready slices makes each pending and waits for them, `cal.commit` starts the
commit of the calibration set, `cal.range_zero` starts while scanning, and `cal.export` starts where its buffer holds the blob
(R143, R146, R148, R150). The model's readings are log entries 67, 162. -/
def Obligations.CalibrationCommandsAct : Prop := ∀ (s : State) (c : Cmd),
  (let slices := (List.range 64).filter (bitAt ((c.packet 0x0401).u 0 8))
   slices ≠ [] → (∀ u ∈ slices, s.dev.domOn u = true ∧ s.dev.unitTdcs u ≠ [] ∧ s.dev.unitReady u = true) →
   Starts (.calBurnish c) c 0x0401 s 0 [.bur] (slices.map fun u => Reg.SLICE_BUR_STAT u) fun t =>
     t.dev.bur.requests = s.dev.bur.requests ++ [⟨c.pair.val, c.tag.toNat, slices, [], none⟩] ∧
     ∀ u ∈ slices, (t.dev.burSlice u).pending = true ∧ t.dev.flag (F.SLICE_BUR_STAT_PENDING u) = true ∧
       t.dev.fld (F.SLICE_BUR_STAT_REASON u) = 1) ∧
  ((List.range 64).filter (bitAt ((c.packet 0x0401).u 0 8)) = [] →
   Acts (.calBurnish c) c 0x0401 s [] [] [] fun _ => True) ∧
  (s.dev.storeFull 16 (s.dev.setEntries 16) = false →
   Starts (.calCommit c) c 0x0402 s 0 [.cfg] [Reg.GLB_CFG_STAT] fun t => t.dev.flag F.GLB_CFG_STAT_COMMIT_BUSY = true ∧
     t.dev.cfg = { s.dev.cfg with
       commits := s.dev.cfg.commits ++ [⟨16, s.dev.setEntries 16, some (c.pair.val, c.tag.toNat), 0x0402⟩] }) ∧
  (let p := c.packet 0x0403
   p.u 0 2 ≤ p.u 2 2 → p.u 2 2 ≤ 511 → 64 ≤ p.u 8 2 → s.dev.scanState = stRunning →
   Starts (.calRangeZero c) c 0x0403 s 0 [.bur] [] fun t =>
     t.dev.bur = { s.dev.bur with rangeZero := some ⟨p.u 0 2, p.u 2 2, p.u 4 4, p.u 8 2, p.u 10 1, 0, [], 0, 0⟩ }) ∧
  (let p := c.packet 0x0404
   p.u 8 8 % 64 = 0 → p.u 8 8 + calBlobLen ≤ devMemSize → calBlobLen ≤ p.u 16 4 →
   Starts (.calExport c) c 0x0404 s 0 [] [] fun _ => True)

/-- The blocks of a channel's TDC: one that reaches its number of hits, unspoiled, with a steady temperature and no spike,
becomes the TDC's result, and one that fails the test is discarded and counted, as is one whose time is over; a new block starts
each time, with the region's temperature once it has been read; a reference TDC's block ends only in its time (R129, R130, R144).
The model's readings are log entries 11, 64. -/
def Obligations.BlocksEndAsResults : Prop := ∀ (s : State) (tdc : Fin 514),
  let b := (s.dev.tdc tdc.val).block
  let region := tdcRegion tdc.val
  let now := s.dev.regionTemp region
  let moved := (b.temp0.map fun x => tempOver now x (s.dev.par P.burnish_temp_spread 0)).getD false
  let bad := b.spoiled || moved || spiked (s.dev.par P.burnish_spike_pct 0) b
  let fresh : BurBlock := { start := s.dev.time.ticks, temp0 := if (s.dev.sensor region).read then some now else none }
  (tdc.val < 512 → s.dev.par P.burnish_min_events 0 ≤ b.total → bad = false → Gives (.burnishBlockEnd tdc) s fun t =>
    (t.dev.tdc tdc.val).result = some ⟨b.bins, b.spare, b.total, s.dev.time.ticks,
      if b.tempCnt = 0 then now else roundDiv b.tempSum b.tempCnt⟩ ∧
    (t.dev.tdc tdc.val).block = fresh ∧ Leaves [.bur] [] s t) ∧
  (tdc.val < 512 → s.dev.par P.burnish_min_events 0 ≤ b.total → bad = true → Gives (.burnishBlockEnd tdc) s fun t =>
    (t.dev.tdc tdc.val).result = (s.dev.tdc tdc.val).result ∧ (t.dev.tdc tdc.val).block = fresh ∧
    Counts (C.SLICE_BUR_DISCARD_CNT (tdc.val / 8)) 1 s t ∧
    Leaves [.bur] [Reg.SLICE_BUR_DISCARD_CNT (tdc.val / 8), Reg.SLICE_BUR_CNT_SAT (tdc.val / 8)] s t) ∧
  (512 ≤ tdc.val → s.dev.refTime 1 = true → Gives (.burnishBlockEnd tdc) s fun t =>
    (t.dev.tdc tdc.val).block = fresh ∧ Leaves [.bur, .free] [] s t) ∧
  (512 ≤ tdc.val → s.dev.refTime 1 = false → Gives (.burnishBlockEnd tdc) s fun t => Leaves [] [] s t) ∧
  (tdc.val < 512 → Gives (.burnishBlockTimeout tdc) s fun t =>
    (t.dev.tdc tdc.val).block = fresh ∧ Counts (C.SLICE_BUR_DISCARD_CNT (tdc.val / 8)) 1 s t ∧
    Leaves [.bur] [Reg.SLICE_BUR_DISCARD_CNT (tdc.val / 8), Reg.SLICE_BUR_CNT_SAT (tdc.val / 8)] s t) ∧
  (512 ≤ tdc.val → Gives (.burnishBlockTimeout tdc) s fun t =>
    (t.dev.tdc tdc.val).block = fresh ∧ Leaves [.bur] [] s t)

/-- An apply: at a boundary the slice due goes offline with its shadow sets formed, its running blocks discarded, and the dwells it
overlaps marked; a slice whose request failed takes its previous sets; shadow and live sets switch at one instant; the end takes
the slice back, counts and reports the apply, and records time and temperature. A reference TDC is applied without a slice
offline (R30, R130, R139, R140, R142 to R144). The model's readings are log entries 66, 67. -/
def Obligations.AppliesRunTheirSteps : Prop := ∀ s : State,
  (∀ u : Fin 64, s.dev.bur.apply = none → s.dev.locked = true → s.dev.time.slotClk = 0 → s.dev.burNext = some u.val →
    s.dev.sliceQuiet u.val = true → s.dev.sliceDark u.val = true → s.dev.applyPlace u.val = true →
    let shadow := match s.dev.reverting u.val with
      | some r => r.done.filter fun x => decide (x.tdc / 8 = u.val)
      | none => (s.dev.unitTdcs u.val).map fun t => (s.dev.newSet t).set
    Gives (.burnishApplyStart u) s fun t => t.dev.flag (F.SLICE_BUR_STAT_OFFLINE u.val) = true ∧
      t.dev.bur.apply = some ⟨u.val, false, shadow, (s.dev.unitTdcs u.val).map s.dev.curSet, s.dev.time.ticks⟩ ∧
      Counts (C.SLICE_BUR_DISCARD_CNT u.val) (s.dev.unitTdcs u.val).length s t ∧
      t.dev.kiln.pixels = (s.dev.kiln.pixels.map fun p => if p.row / 8 = u.val ∧ p.ended = false then { p with cal := true } else p) ∧
      Leaves [.bur, .kiln] ([Reg.SLICE_BUR_STAT u.val, Reg.SLICE_BUR_DISCARD_CNT u.val, Reg.SLICE_BUR_CNT_SAT u.val]
        ++ (List.range 8).map fun c => Reg.SLICE_BUR_CH u.val c) s t) ∧
  (∀ a : BurApply, s.dev.bur.apply = some a → a.switched = false → s.dev.bur.refApply = none →
    (a.shadow.map fun x => x.tdc).Nodup → (∀ x ∈ a.shadow, x.tdc < 514) →
    Gives .burnishApplySwitch s fun t => t.dev.bur = { s.dev.bur with apply := some { a with switched := true } } ∧
      (∀ x ∈ a.shadow, t.dev.par P.cal_cell_sel x.tdc = x.cellSel ∧ t.dev.par P.cal_bin_table x.tdc = x.binTable) ∧
      Leaves [.bur, .cfg] (a.shadow.map fun x => Reg.SLICE_CH_CMP_TRIM (x.tdc / 8) (x.tdc % 8)) s t) ∧
  (∀ a : BurApply, s.dev.bur.apply = some a → a.switched = true → a.unit < 64 → s.dev.bur.refApply = none →
    Gives .burnishApplyEnd s fun t => t.dev.bur.apply = none ∧ t.dev.flag (F.SLICE_BUR_STAT_OFFLINE a.unit) = false ∧
      t.dev.flag (F.SLICE_BUR_STAT_PENDING a.unit) = false ∧ Counts (C.SLICE_BUR_APPLY_CNT a.unit) 1 s t ∧
      Pending t (Ev.burnishApply a.unit) ∧
      t.dev.reg (Reg.SLICE_BUR_LAST_TEMP a.unit) = BitVec.ofNat 32 (unsgn 16 (s.dev.unitTemp a.unit)) ∧
      Leaves [.bur, .cfg, .wide] [Reg.SLICE_BUR_STAT a.unit, Reg.SLICE_BUR_APPLY_CNT a.unit, Reg.SLICE_BUR_CNT_SAT a.unit,
        Reg.SLICE_BUR_LAST_TEMP a.unit] s t) ∧
  (∀ chainL : Bool, let u := if chainL then 65 else 64
    let f := if chainL then F.KILN_BUR_REF_ACT_L_OFFLINE else F.KILN_BUR_REF_ACT_E_OFFLINE
    s.dev.bur.refApply = none → s.dev.locked = true → s.dev.time.slotClk = 0 → (s.dev.burSlice u).pending = true →
    s.dev.unitReady u = true → s.dev.refTime 13 = true →
    Gives (.refTdcApply chainL) s fun t => t.dev.flag f = true ∧ (∃ a, t.dev.bur.refApply = some a ∧ a.unit = u ∧ a.switched = false) ∧
      t.dev.bur.apply = s.dev.bur.apply ∧ Leaves [.bur] [Reg.KILN_BUR_REF_ACT, Reg.KILN_BUR_REF_STAT] s t) ∧
  (s.dev.par P.burnish_commit_period_h 0 ≠ 0 → s.dev.bur.applied = true → s.dev.storeFull 16 s.dev.burnishEntries = false →
    Gives .burnishCommitTimer s fun t =>
      t.dev.cfg = { s.dev.cfg with commits := s.dev.cfg.commits ++ [⟨16, s.dev.burnishEntries, none, 0⟩] } ∧
      Leaves [.cfg] [Reg.GLB_CFG_STAT] s t)

/-- Range zero ends when every row has its shots: each row with enough echoes gets its value, and the command completes with the
numbers of good and bad rows and the first bad one (R146). The model's readings are log entries 68, 163. -/
def Obligations.RangeZeroEnds : Prop := ∀ (s : State) (z : RangeZero) (r : Running),
  s.dev.bur.rangeZero = some z → z.rowLast ≤ 511 → (∀ k ∈ z.rows, z.full k = true) →
  (s.dev.cmd.running.filter fun r => r.pkt.opcode.toNat == 0x0403) = [r] → Awaits s.dev r →
  let good := z.rows.filter z.good
  let bad := z.rows.filter fun k => !z.good k
  Gives .rangeZeroComplete s fun t =>
    Completed s t r 0x0000 (leBytes 2 good.length ++ leBytes 2 bad.length ++ leBytes 2 (bad.head?.getD 0xFFFF)) ∧
    t.dev.bur = { s.dev.bur with rangeZero := none } ∧
    (∀ k ∈ good, t.dev.par P.cal_range_zero k = unsgn 16 (clampI (-32768) 32767
      (roundDiv (z.row k).1 (z.row k).2.2 - roundDiv ((z.dist : Int) * 5000000000000) 4684257156250))) ∧
    Leaves [.bur, .cfg] [] s t

/-! ## Configuration (chapter 16) -/

/-- `cfg.set` of a value that passes every check: an element of class F waits for a frame boundary while the scan moves; any
other takes its value at once, counted and reported (R477, R484, R485, R487). The model's readings are log entries 3, 43. -/
def Obligations.SetTakesItsValue : Prop := ∀ (s : State) (c : Cmd),
  let p := c.packet 0x0602
  let i := p.u 0 2
  let e := p.u 4 4
  ∀ r : Param, let v := p.u 16 r.esize
  param? i = some r → e < r.elems → p.u 8 1 = r.esize → r.esize ≤ 32 →
  s.dev.peerOwned (pkey i e) = false → s.dev.prepareCheck [] [(pkey i e, v)] false = none →
  ((hasClassF [pkey i e] && !s.dev.atRest) = true →
    Acts (.cfgSet c) c 0x0602 s [] [.cfg] [Reg.GLB_CFG_STAT] fun t => t.dev.flag F.GLB_CFG_STAT_PENDING = true ∧
      t.dev.cfg = { s.dev.cfg with
        waiting := s.dev.cfg.waiting ++ [⟨.setCommand, [(pkey i e, v)], [], none, s.dev.time.ticks⟩] }) ∧
  ((hasClassF [pkey i e] && !s.dev.atRest) = false → paramParts i e = [] → i ≠ P.out_ring → Takes s.dev c 0x0602 →
    Gives (.cfgSet c) s fun t => Replied s t c 0x0602 0x0000 [] ∧ t.dev.par i e = v ∧ Counts C.GLB_CFG_APPLY_CNT 1 s t ∧
      Pending t Ev.cfgApplied)

/-- The commands that start work on the configuration, and `cfg.overlay_erase` (R151, R480, R481, R483, R484, R488, R492). The
model's reading is log entry 130. -/
def Obligations.ConfigurationCommandsAct : Prop := ∀ (s : State) (c : Cmd),
  let begun (t : State) (overlay : Option Nat) : Prop := t.dev.cfg = { s.dev.cfg with
    preparing := some ⟨.command c.pair.val c.tag.toNat, [], [], overlay, 0⟩ }
  ((c.packet 0x0603).u 0 8 + (c.packet 0x0603).u 8 4 ≤ devMemSize →
    Starts (.cfgLoad c) c 0x0603 s 0 [.cfg] [] fun t => begun t none) ∧
  ((c.packet 0x0405).u 0 8 + 64 ≤ devMemSize → s.dev.atRest = true →
    Starts (.calImport c) c 0x0405 s 0 [.cfg] [] fun t => begun t none) ∧
  (let k := (c.packet 0x0606).u 0 1
   k ≤ 15 → s.dev.cfg.imageBad.contains k = false →
    Starts (.cfgOverlayApply c) c 0x0606 s 0 [.cfg] [] fun t => begun t (some k)) ∧
  Starts (.cfgRevert c) c 0x0608 s 0 [.cfg] [] (fun t => begun t none) ∧
  (let k := (c.packet 0x0604).u 0 1
   k ≤ 15 → s.dev.storeFull k (s.dev.setEntries k) = false →
    Starts (.cfgCommit c) c 0x0604 s 0 [.cfg] [Reg.GLB_CFG_STAT] fun t => t.dev.flag F.GLB_CFG_STAT_COMMIT_BUSY = true ∧
      t.dev.cfg = { s.dev.cfg with
        commits := s.dev.cfg.commits ++ [⟨k, s.dev.setEntries k, some (c.pair.val, c.tag.toNat), 0x0604⟩] }) ∧
  (let p := c.packet 0x0605
   1 ≤ p.u 0 1 → p.u 0 1 ≤ 15 → p.u 8 8 + p.u 16 4 ≤ devMemSize →
    Starts (.cfgOverlayWrite c) c 0x0605 s 0 [] [] fun _ => True) ∧
  (let k := (c.packet 0x0607).u 0 1
   1 ≤ k → k ≤ 15 → s.dev.fld F.GLB_CFG_STAT_OVERLAY ≠ k →
    Acts (.cfgOverlayErase c) c 0x0607 s [] [.cfg] [] fun t => t.dev.cfg = { s.dev.cfg with
      images := dropSet k s.dev.cfg.images, imageBad := s.dev.cfg.imageBad.filter (· != k) }) ∧
  (let p := c.packet 0x0609
   p.u 0 1 ≤ 16 → p.u 8 8 + (s.dev.dumpBlob (p.u 0 1)).length ≤ devMemSize → (s.dev.dumpBlob (p.u 0 1)).length ≤ p.u 16 4 →
    Starts (.cfgDump c) c 0x0609 s 0 [] [] fun _ => True)

/-- A prepare phase ends: a change that passes and holds a class-F element waits for the frame boundary; a refusal changes
nothing, is counted, and completes the command. A commit is in the store, counted and reported, with its set's generation one
higher (R484, R485, R492). The model's readings are log entries 129, 130. -/
def Obligations.ChangesAndCommitsEnd : Prop := ∀ s : State,
  (∀ (c : Change) (r : Running), s.dev.cfg.preparing = some c →
    (s.dev.cmd.running.find? fun r => c.by_ == .command r.pair r.pkt.tag.toNat) = some r → r.pkt.opcode.toNat = 0x0606 →
    let x := s.dev.overlayTargets (c.overlay.getD 0)
    (∀ y ∈ x.1, s.dev.peerOwned y.1 = false) → (∀ k ∈ x.2, s.dev.peerOwned k = false) → s.dev.prepareCheck x.2 x.1 true = none →
    (hasClassF (x.1.map (·.1) ++ x.2) && !s.dev.atRest) = true →
    Gives .preparePhaseEnd s fun t => t.dev.flag F.GLB_CFG_STAT_PENDING = true ∧
      t.dev.cfg = { s.dev.cfg with
        preparing := none
        waiting := s.dev.cfg.waiting ++ [{ c with targets := x.1, drops := x.2, prepared := s.dev.time.ticks }] } ∧
      Leaves [.cfg] [Reg.GLB_CFG_STAT] s t) ∧
  (∀ (c : Change) (r : Running) (f : Nat × List Byte), s.dev.cfg.preparing = some c →
    (s.dev.cmd.running.find? fun r => c.by_ == .command r.pair r.pkt.tag.toNat) = some r → r.pkt.opcode.toNat = 0x0606 →
    let x := s.dev.overlayTargets (c.overlay.getD 0)
    (∀ y ∈ x.1, s.dev.peerOwned y.1 = false) → (∀ k ∈ x.2, s.dev.peerOwned k = false) → s.dev.prepareCheck x.2 x.1 true = some f →
    Awaits s.dev r → Gives .preparePhaseEnd s fun t => Completed s t r f.1 f.2 ∧ t.dev.cfg = { s.dev.cfg with preparing := none } ∧
      Counts C.GLB_CFG_REFUSE_CNT 1 s t ∧ Leaves [.cfg] [Reg.GLB_CFG_REFUSE_CNT, C.GLB_CFG_REFUSE_CNT.sat] s t) ∧
  (∀ (c : Commit) (rest : List Commit), s.dev.cfg.commits = c :: rest → c.opcode ≠ 0x0702 → c.opcode ≠ 0x0703 →
    c.set ≤ 18 → (c.set = 0 ∨ 16 ≤ c.set ∨ c.entries ≠ []) →
    Gives .storeCommitComplete s fun t => t.dev.cfg = { s.dev.cfg with commits := rest } ∧ Counts C.GLB_STORE_COMMIT_CNT 1 s t ∧
      Pending t Ev.storeCommit ∧
      t.dev.reg (Reg.GLB_STORE_GEN c.set) = BitVec.ofNat 32 (sget (fun _ => 0) c.set s.dev.store.gens + 1) ∧
      Leaves [.cfg, .store, .free] [Reg.GLB_CFG_STAT, Reg.GLB_CFG_EVT, Reg.GLB_STORE_GEN c.set, Reg.GLB_STORE_INFO, Reg.GLB_STORE_FREE,
        Reg.GLB_STORE_ERASE_MAX, Reg.GLB_STORE_ERASE_MIN, Reg.GLB_STORE_COMMIT_CNT, C.GLB_STORE_COMMIT_CNT.sat] s t)

/-! ## The peer link (chapter 12) -/

/-- The peer commands: `peer.members` starts, `peer.reclaim` sends a claim, and `peer.lane_reset` returns the masked lanes to
HUNT (R348, R355, R467). The model's reading is log entry 108. -/
def Obligations.PeerCommandsAct : Prop := ∀ (s : State) (c : Cmd),
  ((c.packet 0x0802).u 0 8 + 512 ≤ devMemSize → Starts (.peerMembers c) c 0x0802 s 0 [] [] fun _ => True) ∧
  (s.dev.flag F.PEER_CTL_EN = true → Acts (.peerReclaim c) c 0x0803 s [] [.peer] [Reg.PEER_EVT] fun t =>
    t.dev.peer.claimResult = none ∧ t.dev.peer.sent = [.claim ⟨Config.deviceId,
      s.dev.selfMember.claim.map (Fin.ofNat 64), Fin.ofNat 16 s.dev.selfMember.claimPhase, s.dev.peer.claimResult⟩]) ∧
  ((c.packet 0x0804).u 0 1 ≤ 15 →
    Acts (.peerLaneReset c) c 0x0804 s [] [.peer, .wide, .cfg, .out] domainRegs fun t =>
      ∀ l, l < 4 → bitAt ((c.packet 0x0804).u 0 1) l = true → s.dev.laneState l ≠ 0 → t.dev.laneState l = 1)

/-- Lanes align, are lost, and meet their partners: the last lane of a link that aligns takes the whole link to ALIGNED; a lane
that loses its headers hunts again and is counted; an ANNOUNCE takes the link to UP, and names the partner where it has made no
hop; a partner not heard takes the link back to ALIGNED (R346, R348). The model's readings are log entries 23, 105, 106. -/
def Obligations.LanesChangeState : Prop := ∀ (s : State) (lane : Fin 4),
  (∀ (remote : Fin 4) (skewOk : Bool), let ids := (s.dev.link lane.val).filterMap fun x => slook x (sput lane.val remote.val s.dev.peer.aligned)
    s.dev.laneState lane.val = 1 → ids.length = (s.dev.link lane.val).length →
    ((s.dev.link lane.val).length = 1 ∨ (idsOk ids = true ∧ skewOk = true)) →
    Gives (.laneAligned lane remote skewOk) s fun t => (∀ x ∈ s.dev.link lane.val, t.dev.laneState x = 2) ∧
      t.dev.fld (F.PEER_LANE_STAT_REMOTE_LANE lane.val) = remote.val ∧ Pending t (Ev.peerLane lane.val) ∧
      Leaves [.peer, .wide] domainRegs s t) ∧
  (s.dev.laneState lane.val ≠ 0 → (slook lane.val s.dev.peer.aligned).isSome = true →
    Gives (.laneAlignmentLost lane) s fun t => t.dev.laneState lane.val = 1 ∧ slook lane.val t.dev.peer.partners = none ∧
      slook lane.val t.dev.peer.aligned = none ∧ Counts C.PEER_LOSS_CNT 1 s t ∧
      Leaves [.peer, .wide, .cfg, .out] (domainRegs ++ [Reg.PEER_LOSS_CNT]) s t) ∧
  (∀ a : Announce, s.dev.flag F.PEER_CTL_EN = true → 2 ≤ s.dev.laneState lane.val → a.origin ≠ Config.deviceId →
    (s.dev.peer.pods.find? fun m => m.id == a.origin) = none → a.hops.val < 15 →
    Gives (.announceReceived lane a) s fun t => t.dev.laneState lane.val = 3 ∧
      (a.hops.val = 0 → slook lane.val t.dev.peer.partners = some a.origin) ∧
      (∃ m ∈ t.dev.peer.pods, m.id = a.origin ∧ m.rank = a.rank.val ∧ m.valid = a.valid ∧ m.seq = a.seq.toNat) ∧
      Leaves [.peer, .wide, .cfg, .out] domainRegs s t) ∧
  (s.dev.laneState lane.val = 3 → Gives (.partnerTimeout lane) s fun t => t.dev.laneState lane.val = 2 ∧
    slook lane.val t.dev.peer.partners = none ∧ Leaves [.peer, .wide, .cfg, .out] domainRegs s t)

/-- Messages of the domain: a bad block is counted and joins no message; a good message block of a link of one lane joins its
segments, and one of an aggregated link waits for those of the other lanes; a claim is kept for its pod; an ANNOUNCE of this pod
takes the next number; an exchange is started towards a downstream partner; a pod not heard is removed (R344, R346, R347, R349,
R352, R355). The model's readings are log entries 105, 106, 174. -/
def Obligations.DomainMessagesAct : Prop := ∀ s : State,
  (∀ (lane : Fin 4) (marker : Bool) (chars : List Byte), chars.length = 64 → 2 ≤ s.dev.laneState lane.val →
    Gives (.peerBlockReceived lane marker true chars) s fun t => Counts C.PEER_CRC_ERR_CNT 1 s t ∧
      t.dev.peer = { s.dev.peer with stripes := t.dev.peer.stripes, sent := [] } ∧
      Leaves [.peer] [Reg.PEER_CRC_ERR_CNT, C.PEER_CRC_ERR_CNT.sat] s t) ∧
  (∀ (lane : Fin 4) (chars : List Byte), chars.length = 64 → 2 ≤ s.dev.laneState lane.val → (chars.getD 0 0).toNat = 0xBC →
    crc16 ((chars.drop 1).take 61) = (chars.getD 62 0).toNat + 256 * (chars.getD 63 0).toNat →
    2 ≤ (chars.getD 1 0).toNat → (chars.getD 1 0).toNat ≤ 5 →
    let block := ((chars.getD 1 0).toNat, (chars.drop 2).take 60)
    (s.dev.link lane.val = [lane.val] → Gives (.peerBlockReceived lane false false chars) s fun t =>
      (∃ l, slook lane.val t.dev.peer.segments = some (block.1, l ++ [block.2])) ∧ Leaves [.peer] [] s t) ∧
    ((∃ x ∈ s.dev.link lane.val, x ≠ lane.val ∧ slook x s.dev.peer.stripes = none) →
      Gives (.peerBlockReceived lane false false chars) s fun t =>
        t.dev.peer = { s.dev.peer with stripes := sput lane.val (some block) s.dev.peer.stripes, sent := [] } ∧
        Leaves [.peer] [] s t)) ∧
  (∀ c : Claim, s.dev.flag F.PEER_CTL_EN = true →
    (s.dev.peer.pods.any fun m => m.id == c.origin && !m.foreign s.dev.bookId) = true →
    Gives (.claimReceived c) s fun t => (∃ m ∈ t.dev.peer.pods, m.id = c.origin ∧ m.claim = c.codes.map (·.val) ∧
      m.claimPhase = c.phase.val) ∧ Leaves [.peer, .wide] domainRegs s t) ∧
  (s.dev.flag F.PEER_CTL_EN = true → Gives .announceTimer s fun t => t.dev.peer.annSeq = (s.dev.peer.annSeq + 1) % 2 ^ 16 ∧
    t.dev.peer.rank = s.dev.par P.peer_rank 0 ∧ Leaves [.peer, .wide, .cfg, .out] domainRegs s t) ∧
  (∀ (lane : Fin 4) (p : Wide), let h := s.dev.linkHead lane.val
    s.dev.flag F.PEER_CTL_EN = true → s.dev.laneState h = 3 → s.dev.twoWay h = true → slook h s.dev.peer.partners = some p →
    s.dev.peer.members.contains p = true → s.dev.upstream ≠ some h → s.dev.peer.master.isSome = true →
    Gives (.timeExchangeTick lane) s fun t =>
      t.dev.peer.sent = [.time h ((s.dev.peer.exchNo + 1) % 2 ^ 16) s.dev.nowPs none] ∧
      t.dev.peer.exchNo = (s.dev.peer.exchNo + 1) % 2 ^ 16 ∧ Leaves [.peer] [] s t) ∧
  (∀ id : Wide, (s.dev.peer.pods.any fun m => m.id == id) = true → Gives (.memberTimeout id) s fun t =>
    (t.dev.peer.pods.any fun m => m.id == id) = false ∧ Leaves [.peer, .wide, .cfg, .out] domainRegs s t)

/-- An exchange with the upstream partner is answered with t2 and t3: its delay, floored half of the two ways together, joins the last 16; one whose delay
is near their median and whose pod disciplines its time by the peer link gives offset and delay in 100 ps (R352). The model's
readings are log entries 109, 176. -/
def Obligations.ExchangesGiveDelayAndOffset : Prop := ∀ (s : State) (lane : Fin 4) (x : TimeExchange),
  let up : Int := (x.t4 : Int) - x.t3
  let dn : Int := (x.t2 : Int) - x.t1
  let delay := (up + dn).fdiv 2
  let theta := (up - dn).fdiv 2 + s.dev.parI P.peer_asym_ps (s.dev.linkHead lane.val)
  let answer := PeerMsg.time (s.dev.linkHead lane.val) x.number x.t1 (some (x.t2, x.t3))
  s.dev.upstream = some (s.dev.linkHead lane.val) →
  (s.dev.activeSrc ≠ 2 → Gives (.timeBlockReceived lane x) s fun t => t.dev.peer.sent = [answer] ∧
    t.dev.peer.delays = (delay :: s.dev.peer.delays).take 16 ∧ Leaves [.peer] [] s t) ∧
  (s.dev.activeSrc = 2 → (s.dev.peer.delays = [] ∨ (2 * delay - median2 s.dev.peer.delays).natAbs ≤ 40000) →
    Gives (.timeBlockReceived lane x) s fun t => t.dev.peer.sent = [answer] ∧
      t.dev.peer.delays = (delay :: s.dev.peer.delays).take 16 ∧
      t.dev.reg Reg.PEER_OFFSET = BitVec.ofInt 32 (clampI (-2 ^ 31) (2 ^ 31 - 1) (roundDiv theta 100)) ∧
      t.dev.reg Reg.PEER_DELAY = BitVec.ofInt 32 (clampI 0 (2 ^ 32 - 1) (roundDiv delay 100)) ∧
      Leaves [.peer, .time] [Reg.PEER_OFFSET, Reg.PEER_DELAY, Reg.TIME_STAT, Reg.TIME_RATE, Reg.TIME_STEP_CNT,
        C.TIME_STEP_CNT.sat] s t)

/-- Grants: one that names another pod's codes only is noted by its number; the leader's own sending takes the next number and
goes to the members (R355, R356). The model's reading is log entry 108. -/
def Obligations.GrantsAreTaken : Prop := ∀ s : State,
  (∀ g : GrantMsg, s.dev.flag F.PEER_CTL_EN = true → s.dev.peer.leader = some g.leader → g.leader ≠ Config.deviceId →
    (s.dev.peer.grantTaken = true → s.dev.peer.grantNo ≠ g.number.toNat) → (∀ m ∈ g.members, m.1 ≠ Config.deviceId) →
    Gives (.grantReceived g) s fun t => t.dev.peer.grantNo = g.number.toNat ∧ t.dev.peer.grantTaken = true ∧
      Leaves [.peer, .wide] domainRegs s t) ∧
  (∀ g : GrantMsg, s.dev.flag F.PEER_CTL_EN = true → s.dev.peer.leader = some g.leader → g.leader ≠ Config.deviceId →
    (s.dev.peer.grantTaken = true → s.dev.peer.grantNo ≠ g.number.toNat) → s.dev.flag F.PEER_CTL_CODE_MODE = false →
    Gives (.grantReceived g) s fun t => t.dev.peer.grantNo = g.number.toNat ∧ t.dev.cfg = s.dev.cfg ∧
      Leaves [.peer, .wide] domainRegs s t) ∧
  (s.dev.flag F.PEER_CTL_EN = true → s.dev.peer.grantDue = true → s.dev.peer.leader = some Config.deviceId →
    s.dev.flag F.PEER_CTL_CODE_MODE = false → Gives .grantSend s fun t =>
      t.dev.peer.grantNo = (s.dev.peer.grantNo + 1) % 2 ^ 16 ∧ t.dev.peer.grantDue = false ∧
      (s.dev.peer.members ≠ [] → ∃ l, t.dev.peer.sent = [.grant ⟨Config.deviceId,
        BitVec.ofNat 16 ((s.dev.peer.grantNo + 1) % 2 ^ 16), l⟩]) ∧ Leaves [.peer, .wide] domainRegs s t)

/-! ## Return inputs and stamps (chapters 03 and 04) -/

/-- A crossing that passes its comparator's hold-off moves the comparator, and where it falls in the channel's window, outside
the blanking that would drop it or its rising edge, and its queue has room it is stamped in its place and counted; an LO rise over
range, after one or in a recovery time is marked and counted; on a slice held offline the comparator moves and no edge is made (R61,
R66, R68, R76, R77, R80, R100, R101, R103, R110). The model's readings are log entries 59, 60, 63. -/
def Obligations.EdgesAreStamped : Prop := ∀ (s : State) (slice : Fin 64) (ch : Fin 8) (cmp : Fin 3) (rise : Bool) (coarse : Nat)
    (bin : Fin 64) (spare : Option (Fin 80)) (above : Option Nat),
  let n := 8 * slice.val + ch.val
  let c := s.dev.chan n
  let e := s.dev.edgeTime n coarse bin.val
  s.dev.chanOn n = true → s.dev.locked = true → bitAt (s.dev.chCfg n).toNat (3 + cmp.val) = true →
  let x := (c.cmp cmp.val).cross (s.dev.holdoffU slice.val) e rise
  (s.dev.offline slice.val = true → Gives (.comparatorEdge slice ch cmp rise coarse bin spare above) s fun t =>
    (t.dev.chan n).cmp cmp.val = x.1 ∧ Leaves [.chans] [] s t) ∧
  (s.dev.offline slice.val = false → x.2 = true → (rise = true ∨ bitAt (s.dev.chCfg n).toNat 6 = true) →
    let loRise := decide (cmp = 0) && rise
    let back := above.map fun k => 4096 * (s.dev.time.slotStart + k)
    let recovering := decide (e < c.clampMark) || (c.recovery.any fun r => decide (r.1 ≤ e ∧ e < r.2))
      || (back.any fun b => decide (b ≤ e ∧ e < b + 30720))
    let ovr := recovering || (loRise && (above.isSome || c.ovrNext))
    let r : EdgeRec := ⟨cmp.val, rise, ovr, e⟩
    Gives (.comparatorEdge slice ch cmp rise coarse bin spare above) s fun t =>
      (t.dev.chan n).cmp cmp.val = { x.1 with nearRise := ((t.dev.chan n).cmp cmp.val).nearRise } ∧
      (loRise = true → Counts (C.SLICE_OVR_CNT slice.val) (b2n ovr) s t) ∧
      (∀ (w : Window) (y : Shot), c.win = some w → s.dev.shot = some y → w.slot = y.slot → c.wait = [] →
        s.dev.edgeOpen n r e = false → (loRise = true ∨ above = none) →
        w.classify e ((s.dev.blanksOf slice.val).any (fun b => decide (b.1 ≤ e ∧ e < b.2)) || (!rise && x.1.nearRise))
          (decide (256 ≤ c.queue.length)) = .accepted →
        (t.dev.chan n).queue = (insStamp ⟨w.slot, w.stamp r⟩ c.queue.reverse).reverse ∧
        Counts (C.SLICE_EM_ACC slice.val) 1 s t) ∧
      Leaves [.chans, .bur, .wide, .kiln] (edgeRegs slice.val) s t)

/-- The rest of the timing side: without a fire-echo edge the shot uses the nominal reference; a window closes with one summary;
with the edges that waited in it; a clamp excursion is counted, marked and reported; a drain takes the oldest stamp of the slice's
next channel (R66, R68, R104, R106, R113, R118). The model's readings are log entries 61, 63. -/
def Obligations.ShotsAndWindowsClose : Prop := ∀ s : State,
  (∀ x : Shot, s.dev.shot = some x → x.tref = none → (∀ p ∈ s.dev.kiln.pixels, p.row < 512) → Gives .referenceTimeout s fun t =>
    t.dev.shot = some { x with tref := some (s.dev.nominalRef x), refEst := x.fires || x.suppressed } ∧
    Leaves [.shot, .chans, .wide, .taps] ((List.range 64).flatMap edgeRegs) s t) ∧
  (∀ (slice : Fin 64) (ch : Fin 8) (w : Window), (s.dev.chan (8 * slice.val + ch.val)).win = some w →
    let c := s.dev.chan (8 * slice.val + ch.val)
    Gives (.windowClose slice ch) s (fun t => (t.dev.chan (8 * slice.val + ch.val)).win = none ∧
      (t.dev.chan (8 * slice.val + ch.val)).wait = [] ∧ Leaves [.chans, .wide] (edgeRegs slice.val) s t) ∧
    (c.wait = [] → Gives (.windowClose slice ch) s fun t => (t.dev.chan (8 * slice.val + ch.val)).win = none ∧
      (∃ m : Summary, (t.dev.chan (8 * slice.val + ch.val)).summaries = c.summaries ++ [m] ∧
        m.slot = w.slot ∧ m.accN = w.accN ∧ m.preLo = w.preLo ∧ m.nearLo = w.nearLo ∧ m.winLo = w.winLo ∧ m.refEst = w.refEst) ∧
      Leaves [.chans] [] s t)) ∧
  (∀ (slice : Fin 64) (ch : Fin 8) (coarse back : Nat), let n := 8 * slice.val + ch.val
    s.dev.domOn slice.val = true → (s.dev.chan n).clampBack ≤ 4096 * (s.dev.time.slotStart + coarse) →
    Gives (.clampExcursion slice ch coarse back) s fun t => Counts (C.SLICE_CLAMP_CNT slice.val) 1 s t ∧
      t.dev.bit (Reg.SLICE_CLAMP_STAT slice.val) ch.val = true ∧
      (t.dev.chan n).clampBack = 4096 * (s.dev.time.slotStart + max coarse back) ∧
      Leaves [.chans] [Reg.SLICE_CLAMP_CNT slice.val, Reg.SLICE_OVR_CNT slice.val, Reg.SLICE_FE_CNT_SAT slice.val,
        Reg.SLICE_CLAMP_STAT slice.val] s t) ∧
  (∀ slice : Fin 64, let i := sget (fun _ => 0) slice.val s.dev.kiln.turn
    s.dev.domOn slice.val = true → Gives (.emberDrain slice) s fun t =>
      (t.dev.chan (8 * slice.val + i)).queue = (s.dev.chan (8 * slice.val + i)).queue.drop 1 ∧
      sget (fun _ => 0) slice.val t.dev.kiln.turn = (i + 1) % 8 ∧
      Leaves [.chans, .kiln, .wide, .free] [Reg.SLICE_KILN_STAT slice.val, Reg.SLICE_KILN_OCC slice.val, Reg.SLICE_KILN_CNT_SAT slice.val,
        Reg.SLICE_KILN_GLIST_DROP_CNT slice.val, Reg.SLICE_KILN_GOUT_CNT slice.val] s t)

/-! ## Slots, frames and pixels (chapters 01, 02, 10) -/

/-- A slot boundary counts its slot and starts its coarse time at 0; a frame boundary counts its frame and sweeps; a turnaround
is begun once (R45, R51, R298). The model's readings are log entries 53, 54, 55. -/
def Obligations.SlotsAndFramesFollow : Prop := ∀ s : State,
  (∀ found : List SramFind, s.dev.locked = true → Gives (.slotBoundary found) s fun t =>
    t.dev.slotNo = (s.dev.slotNo + 1) % 2 ^ 64 ∧ t.dev.time.slotClk = 0 ∧ t.dev.time.slotStart = t.dev.time.ticks ∧
    t.dev.time.ticks = s.dev.time.ticks + (s.dev.time.slotLen - s.dev.time.slotClk)) ∧
  (s.dev.locked = true → s.dev.frameDue = true → s.dev.scan.frameTaken = false → Gives .frameBoundary s fun t =>
    t.dev.reg Reg.TIME_FRAME = BitVec.ofNat 32 (((s.dev.reg Reg.TIME_FRAME).toNat + 1) % 2 ^ 32) ∧ t.dev.scan.frameTaken = true ∧
    t.dev.scan.phase = .sweep) ∧
  (s.dev.locked = true → s.dev.turnDue = true → Gives .turnaroundStart s fun t =>
    t.dev.scan.turned = true ∧ t.dev.scan.phase = .turn ∧ t.dev.scan.demandPrev = s.dev.demands ∧
    t.dev.scan.planNext = s.dev.makePlan s.dev.demands)

/-- The oldest pixel that is ready is completed and gone (R19, R213). The model's readings are log entries 79, 83. -/
def Obligations.PixelsComplete : Prop := ∀ (s : State) (p : Pixel) (arenaUe stagingUe : Bool),
  s.dev.kiln.pixels.find? Pixel.ready = some p →
  Gives (.pixelComplete arenaUe stagingUe) s fun t =>
    t.dev.kiln.pixels = s.dev.kiln.pixels.filter fun x => !(x.row == p.row && x.slot0 == p.slot0)

/-! ## Waveform taps (chapter 08) -/

/-- The tap commands and region writes: `cal.tap` ZERO or CH_OFFSET starts at rest; `out.tap_request` and a write of a region's
register set the region (R232, R243, R244, R248). The model's readings are log entries 84, 86. -/
def Obligations.TapCommandsAct : Prop := ∀ (s : State) (c : Cmd),
  (let p := c.packet 0x0406
   let step := p.u 0 1
   let x2 := p.u 1 1 == 1
   (step = 0 → p.u 4 2 = 0 ∧ p.u 2 2 ≤ 511) → (step = 2 → x2 = false ∧ p.u 4 2 ≠ 0 ∧ p.u 2 2 + p.u 4 2 ≤ 512) →
   (step = 0 ∨ step = 2) → 4096 ≤ p.u 20 4 → p.u 20 4 ≤ 1048576 → s.dev.atRest = true →
   Starts (.calTap c) c 0x0406 s 0 [.taps] [Reg.TAP_STAT] fun t => t.dev.flag F.TAP_STAT_CAL_BUSY = true ∧
     t.dev.taps = { s.dev.taps with
       next := []
       cal := some ⟨step, x2, p.u 2 2, p.u 4 2, p.u 8 8, s.dev.appliedVt (p.u 2 2) (sgn 32 (p.u 16 4)), p.u 20 4, [], c.pair.val,
         c.tag.toNat⟩ }) ∧
  (let p := c.packet 0x0505
   let r := p.u 0 1
   r ≤ 15 → regionOk (p.u 1 1) (p.u 2 2) (p.u 4 2) (p.u 6 1) (p.u 7 1) (p.u 8 1) (p.u 9 1) = true → p.u 1 1 ≠ 0 →
   Acts (.outTapRequest c) c 0x0505 s [] [] [Reg.TAP_REQ_ROWS r, Reg.TAP_REQ_COLS r, Reg.TAP_REQ_CFG r] fun t =>
     t.dev.reg (Reg.TAP_REQ_ROWS r) = BitVec.ofNat 32 (p.u 2 2 + 2 ^ 16 * p.u 4 2) ∧
     t.dev.reg (Reg.TAP_REQ_COLS r) = BitVec.ofNat 32 (p.u 6 1 + 2 ^ 16 * p.u 7 1) ∧
     t.dev.reg (Reg.TAP_REQ_CFG r) = BitVec.ofNat 32 (p.u 1 1 + 2 ^ 4 * p.u 8 1 + 2 ^ 6 * p.u 9 1 + 2 ^ 16 * p.u 10 2)) ∧
  (let p := c.packet 0x0505
   let r := p.u 0 1
   r ≤ 15 → regionOk 0 (p.u 2 2) (p.u 4 2) (p.u 6 1) (p.u 7 1) (p.u 8 1) (p.u 9 1) = true → p.u 1 1 = 0 →
   Acts (.outTapRequest c) c 0x0505 s [] [] [Reg.TAP_REQ_ROWS r, Reg.TAP_REQ_COLS r, Reg.TAP_REQ_CFG r] fun t =>
     t.dev.reg (Reg.TAP_REQ_ROWS r) = 0#32 ∧ t.dev.reg (Reg.TAP_REQ_COLS r) = 0#32 ∧ t.dev.reg (Reg.TAP_REQ_CFG r) = 0#32) ∧
  (∀ (r : Fin 16) (v : Word), s.dev.barOpen = true →
    regionOk (s.dev.fld (F.TAP_REQ_CFG_PRIO r.val)) (bits v.toNat 0 9) (bits v.toNat 16 9) (s.dev.fld (F.TAP_REQ_COLS_FIRST r.val))
      (s.dev.fld (F.TAP_REQ_COLS_LAST r.val)) (s.dev.fld (F.TAP_REQ_CFG_RANGE r.val)) (s.dev.fld (F.TAP_REQ_CFG_LEN32 r.val)) = true →
    Gives (.tapReqWrite (Reg.TAP_REQ_ROWS r.val) v) s fun t =>
      t.dev.reg (Reg.TAP_REQ_ROWS r.val) = BitVec.ofNat 32 (bits v.toNat 0 9 + bits v.toNat 16 9 * 2 ^ 16) ∧
      Leaves [] [Reg.TAP_REQ_ROWS r.val] s t)

/-- A window of a tap: it opens and is counted, or, where an earlier one was truncated and its samples do not fit, it is skipped and
counted as skipped; its end stores what the FIFO has room for, and takes the next window number (R234, R239). The model's readings
are log entries 21, 87. -/
def Obligations.TapWindowsOpenAndEnd : Prop := ∀ (s : State) (tap : Fin 64),
  (∀ l : Ladle, s.dev.locked = true → (s.dev.taps.ladles.find? fun l => l.tap == tap.val) = some l →
    ((s.dev.tap tap.val).skipping = false ∨ (s.dev.tap tap.val).fill + l.len ≤ 1024) →
    Gives (.tapWindowOpen tap) s fun t => ((t.dev.tap tap.val).capture.map (·.ladle)) = some l ∧
      (t.dev.tap tap.val).openAt = s.dev.time.slotStart + l.kOpen ∧ Counts C.TAP_WIN 1 s t ∧
      t.dev.taps.ladles = s.dev.taps.ladles.erase l ∧ Leaves [.taps, .wide] [Reg.TAP_T_LAST tap.val, Reg.TAP_CNT_SAT] s t) ∧
  (∀ l : Ladle, s.dev.locked = true → (s.dev.taps.ladles.find? fun l => l.tap == tap.val) = some l →
    (s.dev.tap tap.val).skipping = true → 1024 < (s.dev.tap tap.val).fill + l.len →
    Gives (.tapWindowOpen tap) s fun t => (t.dev.tap tap.val).capture = (s.dev.tap tap.val).capture ∧
      Counts (C.TAP_T_SKIP_CNT tap.val) 1 s t ∧ t.dev.taps.ladles = s.dev.taps.ladles.erase l ∧
      t.dev.taps.seq = (s.dev.taps.seq + 1) % 2 ^ 32 ∧
      Leaves [.taps] [Reg.TAP_T_LAST tap.val, Reg.TAP_T_SKIP_CNT tap.val, Reg.TAP_T_CNT_SAT tap.val, Reg.TAP_EVT_STAT] s t) ∧
  (∀ (w : TapWin) (codes : List (BitVec 12)), (s.dev.tap tap.val).capture = some w → codes.length = w.ladle.len →
    w.ladle.tap = tap.val → Gives (.tapWindowEnd tap codes) s fun t => (t.dev.tap tap.val).capture = none ∧
      (t.dev.tap tap.val).lastEnd = some ((s.dev.tap tap.val).openAt + min (1024 - (s.dev.tap tap.val).fill) w.ladle.len) ∧
      t.dev.taps.seq = (s.dev.taps.seq + 1) % 2 ^ 32 ∧
      Leaves [.taps] [Reg.TAP_T_OVF_CNT tap.val, Reg.TAP_T_CLIP_CNT tap.val, Reg.TAP_T_CNT_SAT tap.val, Reg.TAP_EVT_STAT] s t)

/-- The tap writer puts its oldest record into stream 2 where it fits, discards it where the stream does not run, and waits where
there is no room or the reference of the window's shot is not fixed (R332, R336). The model's reading is log entry 85. -/
def Obligations.WaveRecordsAreWritten : Prop := ∀ (s : State) (w : TapWin) (rest : List TapWin), s.dev.taps.queue = w :: rest →
  (s.dev.flag (F.ING_S_STAT_RUN 2) = false →
    Gives .waveRecordWrite s fun t => t.dev.taps.queue = rest ∧ Leaves [.taps] [] s t) ∧
  (s.dev.streamRuns 2 = true → s.dev.memHalted = false → s.dev.headerOpen w = true → Gives .waveRecordWrite s fun t => Leaves [] [] s t) ∧
  (let at_ := s.dev.waveStart
   let len := s.dev.ringSize 2 * 128
   let ahead := serialAhead (s.dev.reg (Reg.ING_S_RD 2)).toNat at_
   s.dev.streamRuns 2 = true → s.dev.memHalted = false → s.dev.headerOpen w = false →
   (len < ahead + w.units → Gives .waveRecordWrite s fun t => t.dev.flag (F.ING_S_STAT_FULL 2) = true ∧
     t.dev.bit Reg.ING_EVT 3 = true ∧ Leaves [] [Reg.ING_S_STAT 2, Reg.ING_EVT] s t) ∧
   (ahead + w.units ≤ len →
    Gives .waveRecordWrite s fun t => t.dev.taps.queue = rest ∧
     t.dev.reg (Reg.ING_S_WR 2) = BitVec.ofNat 32 (at_ + w.units) ∧
     Writes (s.dev.wide64 (Reg.ING_S_BASE_LO 2) + at_ * 32 % (len * 32)) (w.bytes w.headerOnly) s t ∧
     Keeps [.taps, .out] s t ∧ KeepsRegs [Reg.ING_S_WR 2, Reg.ING_S_STAT 2] s t))

/-- A ZERO calibration whose taps all have their samples ends: its sums are held for FULL, and the command completes (R244,
R246). The model's reading is log entry 84. -/
def Obligations.TapCalibrationEnds : Prop := ∀ (s : State) (c : CalTap) (r : Running),
  s.dev.taps.cal = some c → c.step = 0 → (∀ u ∈ c.units, c.open_ u = false ∧ s.dev.calUnitOk c u = true) →
  s.dev.running? c.pair c.tag = some r → Awaits s.dev r →
  Gives .calTapComplete s fun t =>
    Completed s t r 0x0000 (calTapResults c.units.length 65535 (c.units.foldl (fun a u =>
      max a (absI ((s.dev.tapGain u c.x2 : Int) - 32768))) 0)) ∧
    t.dev.taps = { s.dev.taps with cal := none, zero := some ⟨c.channel, c.x2, c.mask, c.vin, c.sums⟩ } ∧
    t.dev.flag F.TAP_STAT_CAL_BUSY = false ∧ Leaves [.taps] [Reg.TAP_STAT] s t

/-! ## Output streams and turf (chapters 09 and 11) -/

/-- The output and turf commands: `out.ring` names the ring of a stopped stream, `out.hist_region` and `out.rate` set their
registers, `turf.dump` and `turf.clear` start (R277, R278, R324, R327, R334). The model's reading is log entry 47. -/
def Obligations.OutputCommandsAct : Prop := ∀ (s : State) (c : Cmd),
  (let p := c.packet 0x0502
   let n := p.u 0 1
   n ≤ 2 → ringSizeOk n (p.u 4 4) = true → ringBaseOk n (p.u 4 4) (p.u 8 8) = true → s.dev.flag (F.ING_S_CTL_EN n) = false →
   Acts (.outRing c) c 0x0502 s [] [.wide] [Reg.ING_S_SIZE n, Reg.ING_S_BASE_LO n] fun t =>
     t.dev.ringSize n = p.u 4 4 ∧ t.dev.wide64 (Reg.ING_S_BASE_LO n) = p.u 8 8) ∧
  (let p := c.packet 0x0503
   p.u 0 2 ≤ 511 → p.u 2 2 ≤ 511 →
   Acts (.outHistRegion c) c 0x0503 s [] [] [Reg.ING_HIST_ROWS, Reg.ING_HIST_COLS, Reg.ING_HIST_CFG] fun t =>
     t.dev.reg Reg.ING_HIST_ROWS = BitVec.ofNat 32 (p.u 0 2 + 2 ^ 16 * p.u 2 2) ∧
     t.dev.reg Reg.ING_HIST_COLS = BitVec.ofNat 32 (p.u 4 1 + 2 ^ 16 * p.u 5 1) ∧ t.dev.fld F.ING_HIST_CFG_EVERY = p.u 6 1) ∧
  (let p := c.packet 0x0504
   1 ≤ p.u 0 1 → p.u 0 1 ≤ 48 → p.u 1 1 ≤ 1 → 50 ≤ p.u 2 2 → p.u 2 2 ≤ 6000 →
   Acts (.outRate c) c 0x0504 s [] [.out] [Reg.ING_CTL] fun t => t.dev.fld F.ING_CTL_REC_RATE = p.u 0 1 ∧
     t.dev.fld F.ING_CTL_EMPTY_REC = p.u 1 1 ∧ t.dev.fld F.ING_CTL_MAX_US = p.u 2 2) ∧
  (let j := turfJob (c.packet 0x0506) c.pair.val
   j.ok = true → j.addr % 64 = 0 → j.addr + j.size ≤ devMemSize →
   Starts (.turfDump c) c 0x0506 s 0 [.turf] [Reg.TURF_STAT] fun t =>
     t.dev.turf = { s.dev.turf with dump := some j } ∧ t.dev.flag F.TURF_STAT_DUMP_BUSY = true) ∧
  (let j := turfJob (c.packet 0x0507) c.pair.val
   j.ok = true → Starts (.turfClear c) c 0x0507 s 0 [.turf] [Reg.TURF_STAT] fun t =>
     t.dev.turf = { s.dev.turf with clear := some j } ∧ t.dev.flag F.TURF_STAT_CLEAR_PEND = true)

/-- Streams start with their pointers at 0, or report a ring that R327 forbids; they stop with nothing left over; RD releases
items, and one that moves backwards or past WR is ignored and reported (R327, R328, R332). The model's reading is log entry 103.
-/
def Obligations.StreamsStartAndStop : Prop := ∀ (s : State) (n : Fin 3) (v : Word), s.dev.barOpen = true →
  let good := ringSizeOk n.val (s.dev.ringSize n.val) && ringBaseOk n.val (s.dev.ringSize n.val) (s.dev.wide64 (Reg.ING_S_BASE_LO n.val))
  let regs := [Reg.ING_S_CTL n.val, Reg.ING_S_STAT n.val, Reg.ING_S_WR n.val, Reg.ING_S_RD n.val, Reg.ING_STAT]
  (s.dev.flag (F.ING_S_CTL_EN n.val) = false → good = true → Gives (.streamEnable n v) s fun t =>
    t.dev.flag (F.ING_S_CTL_EN n.val) = true ∧ t.dev.fld (F.ING_S_CTL_EVERY n.val) = bits v.toNat 16 16 ∧
    t.dev.reg (Reg.ING_S_STAT n.val) = 1#32 ∧ t.dev.reg (Reg.ING_S_WR n.val) = 0#32 ∧ t.dev.reg (Reg.ING_S_RD n.val) = 0#32 ∧
    Leaves [.out] regs s t) ∧
  (s.dev.flag (F.ING_S_CTL_EN n.val) = false → good = false → Gives (.streamEnable n v) s fun t =>
    t.dev.flag (F.ING_S_CTL_EN n.val) = false ∧ t.dev.flag (F.ING_S_STAT_CFG_ERR n.val) = true ∧ Leaves [] regs s t) ∧
  (s.dev.flag (F.ING_S_CTL_EN n.val) = true → n.val ≠ 0 → Gives (.streamDisable n v) s fun t =>
    t.dev.flag (F.ING_S_CTL_EN n.val) = false ∧ t.dev.flag (F.ING_S_STAT_RUN n.val) = false ∧ (n.val = 1 → t.dev.out.hist = []) ∧
    Leaves [.out] (regs ++ [Reg.ING_S_STAT 0]) s t) ∧
  (s.dev.flag (F.ING_S_CTL_EN n.val) = true → n.val = 0 → Gives (.streamDisable n v) s fun t =>
    t.dev.flag (F.ING_S_CTL_EN n.val) = false ∧ t.dev.flag (F.ING_S_STAT_RUN n.val) = false ∧ t.dev.out.openIngot = none ∧
    t.dev.out.closed = []) ∧
  (serialAhead (s.dev.reg (Reg.ING_S_RD n.val)).toNat v.toNat ≤ s.dev.ringUsed n.val → Gives (.ringRdWrite n v) s fun t =>
    t.dev.reg (Reg.ING_S_RD n.val) = v ∧ Keeps [.out] s t ∧ KeepsRegs [Reg.ING_S_RD n.val, Reg.ING_STAT, Reg.ING_S_STAT 0] s t ∧
    ((∀ i, s.dev.out.openIngot = some i → i.headed = true) → Leaves [] [Reg.ING_S_RD n.val, Reg.ING_STAT, Reg.ING_S_STAT 0] s t)) ∧
  (s.dev.ringUsed n.val < serialAhead (s.dev.reg (Reg.ING_S_RD n.val)).toNat v.toNat → Gives (.ringRdWrite n v) s fun t =>
    t.dev.flag (F.ING_S_STAT_RD_ERR n.val) = true ∧ Leaves [] [Reg.ING_S_STAT n.val] s t)

/-- The time limit closes the open Ingot with CLOSE 2; a closed Ingot and a queued histogram record go to the slots that WR
names, and WR advances; the open Ingot then writes its header with COUNT and FLAGS 0 where it has its slot (R326, R329, R334). The model's reading is log entry 101. -/
def Obligations.IngotsAndHistogramsLeave : Prop := ∀ s : State,
  (∀ i : Ingot, s.dev.out.openIngot = some i → Gives .ingotTimeLimit s fun t =>
    t.dev.out = { s.dev.out with openIngot := none, closed := s.dev.out.closed ++ [{ i with close := 2 }] } ∧
    Leaves [.out] [Reg.ING_STAT, Reg.ING_S_STAT 0] s t) ∧
  (∀ (i : Ingot) (rest : List Ingot), s.dev.out.closed = i :: rest → s.dev.streamRuns 0 = true → s.dev.slotFree 0 = true →
    (rest = [] → ∀ o, s.dev.out.openIngot = some o → o.headed = true) → Gives .ingotPlace s fun t => t.dev.out = { s.dev.out with closed := rest } ∧
      t.dev.reg (Reg.ING_S_WR 0) = s.dev.reg (Reg.ING_S_WR 0) + 1 ∧ Counts C.ING_REC i.records.length s t ∧
      Writes (s.dev.slotAddr 0) (ingotBytes i) s t ∧ Keeps [.out, .wide] s t ∧
      KeepsRegs [Reg.ING_S_WR 0, Reg.ING_STAT, Reg.ING_S_STAT 0, C.ING_REC.sat] s t) ∧
  (∀ i o : Ingot, s.dev.out.closed = [i] → s.dev.out.openIngot = some o → o.headed = false → s.dev.streamRuns 0 = true →
    s.dev.slotFree 0 = true → Gives .ingotPlace s fun t =>
      t.dev.reg (Reg.ING_S_WR 0) = s.dev.reg (Reg.ING_S_WR 0) + 1 ∧ Counts C.ING_REC i.records.length s t ∧
      (t.dev.slotFree 0 = false → t.dev.out = { s.dev.out with closed := [] } ∧ Writes (s.dev.slotAddr 0) (ingotBytes i) s t) ∧
      (t.dev.slotFree 0 = true → t.dev.out = { s.dev.out with closed := [], openIngot := some { o with headed := true } } ∧
        ∀ a, ¬InRing s.dev a → let b := t.dev.slotAddr 0
          memByte t.mem a = if b ≤ a ∧ a < b + 64 then (ingotHeader o 0 0 0).getD (a - b) 0#8
            else if s.dev.slotAddr 0 ≤ a ∧ a < s.dev.slotAddr 0 + (ingotBytes i).length
              then (ingotBytes i).getD (a - s.dev.slotAddr 0) 0#8 else memByte s.mem a) ∧
      Keeps [.out, .wide] s t ∧ KeepsRegs [Reg.ING_S_WR 0, Reg.ING_STAT, Reg.ING_S_STAT 0, C.ING_REC.sat] s t) ∧
  (∀ (h : HistRec) (rest : List HistRec), s.dev.out.hist = h :: rest → s.dev.streamRuns 1 = true → s.dev.slotFree 1 = true →
    s.dev.memHalted = false → Gives .histRecordWrite s fun t => t.dev.out = { s.dev.out with hist := rest } ∧
      t.dev.reg (Reg.ING_S_WR 1) = s.dev.reg (Reg.ING_S_WR 1) + 1 ∧ Writes (s.dev.slotAddr 1) (histBytes h) s t ∧
      Keeps [.out] s t ∧ KeepsRegs [Reg.ING_S_WR 1] s t)

/-- Host access to the turf: a write of TURF_RD_IDX takes the snapshot of one sod; the end of `turf.dump` has written the sods
of its rectangle, and completes the command (R276, R277). The model's reading of the latter is log entry 22. -/
def Obligations.TurfIsRead : Prop := ∀ s : State,
  (∀ v : Word, s.dev.barOpen = true → Gives (.turfRdIdxWrite v) s fun t =>
    let i := field v 0 17
    t.dev.reg Reg.TURF_RD_IDX = BitVec.ofNat 32 i ∧
    (∀ k, k < 12 → t.dev.reg (Reg.TURF_RD_DATA k) = (s.dev.sod i).getD k 0#32) ∧
    t.dev.reg Reg.TURF_RD_STAT = BitVec.ofNat 32 (1 + b2n (s.dev.servesAcq i) * 2 + s.dev.sodAge i * 2 ^ 8) ∧
    Leaves [] ([Reg.TURF_RD_IDX, Reg.TURF_RD_STAT] ++ (List.range 12).map fun k => Reg.TURF_RD_DATA k) s t) ∧
  (∀ (j : TurfJob) (k : Nat) (r : Running),
    let b := (j.words ++ (j.indices.drop k).flatMap s.dev.sod).flatMap fun w => leBytes 4 w.toNat
    let first := j.first.getD (s.dev.gNow, s.dev.slotNo)
    s.dev.turf.dump = some j → j.words.length = 12 * k → s.dev.running? j.pair j.tag = some r → Awaits s.dev r → s.dev.memHalted = false →
    Gives .turfDumpComplete s fun t => Completed s t r 0x0000 (leBytes 4 b.length ++ leBytes 1 first.1 ++ leBytes 1 s.dev.gNow
        ++ zeros 2 ++ leBytes 8 first.2) ∧
      Writes j.addr b s t ∧ t.dev.turf = { s.dev.turf with dump := none } ∧ t.dev.flag F.TURF_STAT_DUMP_BUSY = false ∧
      Keeps [.turf] s t ∧ KeepsRegs [Reg.TURF_STAT] s t)

/-! ## Housekeeping and the Damper (chapter 18) -/

/-- `cal.hk` starts where its conditions hold; `hk.sync` and SYNC_IN reset the chains and note the time of the reset;
`hk.dc_freeze` sets DC_FREEZE for the chains of its mask; the level in force follows `thm.damper_min` (R535, R536, R542, R547).
The model's readings are log entries 110, 111. -/
def Obligations.HousekeepingCommandsAct : Prop := ∀ (s : State) (c : Cmd),
  let edge := (s.dev.time.ticks + 250 + 124) / 125 * 125 - s.dev.time.ticks
  let at_ := ((s.dev.time.acc : Int) + edge * (2 ^ 40 + s.dev.time.rate)).toNat * 2 / (5 * 2 ^ 40)
  let synced (t : State) : Prop := (∀ k, k < 8 → t.dev.hkChain k = { settling := hkSettle (s.dev.fld (F.HK_CHAIN_CFG_PRESET k)) } ∧
      t.dev.flag (F.HK_CHAIN_OUT_VALID k) = false ∧ t.dev.bit Reg.HK_STAT k = true) ∧ t.dev.wide64 Reg.HK_SYNC_TIME_LO = at_ % 2 ^ 64
  let syncRegs := Reg.HK_STAT :: (List.range 8).map fun k => Reg.HK_CHAIN_OUT k
  (let p := c.packet 0x0407
   let input := p.u 1 1
   let vin := sgn 32 (p.u 4 4)
   input ≤ 35 → p.u 8 4 ≠ 0 → (input < 4 → s.dev.atRest = true) →
   (p.u 0 1 = 1 → ∃ z, slook input s.dev.hk.zeros = some z ∧ hkSpanOk input vin z.2.2 = true) →
   Starts (.calHk c) c 0x0407 s 0 [.hk] [] fun t => t.dev.hk = { s.dev.hk with
     cal := some { step := p.u 0 1, input := input, vin := vin, samples := p.u 8 4, pair := c.pair.val, tag := c.tag.toNat } }) ∧
  Acts (.hkSync c) c 0x0A01 s (leBytes 8 at_) [.hk, .wide] syncRegs synced ∧
  (s.dev.flag F.HK_CTL_SYNC_EN = true → s.dev.domOn 144 = true →
    Gives .syncInEdge s fun t => synced t ∧ Leaves [.hk, .wide] syncRegs s t) ∧
  (let p := c.packet 0x0A03
   p.u 0 1 % 16 = 0 → Acts (.hkDcFreeze c) c 0x0A03 s [] [] ((List.range 8).map fun k => Reg.HK_CHAIN_CFG k) fun t =>
     ∀ k, k < 8 → t.dev.reg (Reg.HK_CHAIN_CFG k) =
       if bitAt (p.u 0 1) k then withField (s.dev.reg (Reg.HK_CHAIN_CFG k)) 5 1 (b2n (p.u 1 1 == 1)) else s.dev.reg (Reg.HK_CHAIN_CFG k)) ∧
  (let v := (c.packet 0x0B04).u 0 1
   v ≤ 7 → Acts (.thmDamperMin c) c 0x0B04 s [] [.cfg, .out]
     [Reg.SCN_STAT, Reg.THM_STAT, Reg.THM_LEVEL_CNT, C.THM_LEVEL_CNT.sat] fun t => t.dev.par P.thm_damper_min 0 = v ∧
     t.dev.damper = if s.dev.flag F.THM_STAT_SAFE then 7 else max (s.dev.fld F.THM_STAT_LEVEL) v)

/-- A chain that settles counts its outputs down; one that has settled shows its word, with its DC stage where it has one; a
sense conversion stores its word and time, or 0x7FFF with OPEN, and the scan moves on (R533, R535, R537, R539, R540). The
model's readings are log entries 107, 112. -/
def Obligations.ConvertersReport : Prop := ∀ s : State, s.dev.domOn 144 = true →
  (∀ (k : Fin 8) (codes : List (BitVec 12)), let h := s.dev.hkChain k.val
    let r := h.block (s.dev.fld (F.HK_CHAIN_CFG_PRESET k.val)) codes
    let x := r.2.1
    let y := if 4 ≤ k.val ∧ s.dev.flag (F.HK_CHAIN_CFG_DC_EN k.val) = true then
      clampI (-32768) 32767 (divAway (2 ^ 24 * x - h.dc) (2 ^ 24)) else x
    codes.length = hkRatio (s.dev.fld (F.HK_CHAIN_CFG_PRESET k.val)) → s.dev.hk.cal = none →
    (0 < h.settling → Gives (.hkChainOutput k codes) s fun t => (t.dev.hkChain k.val).settling = h.settling - 1 ∧
      Leaves [.hk] [Reg.HK_EVT] s t) ∧
    (h.settling = 0 → Gives (.hkChainOutput k codes) s fun t =>
      t.dev.fld (F.HK_CHAIN_OUT_OUT k.val) = unsgn 16 y ∧ t.dev.flag (F.HK_CHAIN_OUT_SAT k.val) = r.2.2 ∧
      t.dev.flag (F.HK_CHAIN_OUT_VALID k.val) = true ∧ t.dev.bit Reg.HK_STAT k.val = false ∧
      Leaves [.hk] [Reg.HK_EVT, Reg.HK_STAT, Reg.HK_CHAIN_OUT k.val] s t)) ∧
  (let i := s.dev.fld F.HK_STAT_SENSE_CUR
   s.dev.flag F.HK_CTL_SENSE_EN = true → s.dev.senseEn i = true →
   (s.dev.fld (F.HK_SENSE_CFG_EXC i) ≠ 0 → Gives .complianceTrip s fun t => t.dev.hk = { s.dev.hk with tripped := true } ∧
     Leaves [.hk] [] s t) ∧
   (∀ (sum : Int) (clamp : Bool) (v : Int), s.dev.hk.cal = none →
     let regs := [Reg.HK_SENSE_WORD i, Reg.HK_STAT, Reg.HK_CLAMP_STAT, Reg.HK_CLAMP_CNT, C.HK_CLAMP_CNT.sat]
     let next (t : State) : Prop := t.dev.fld F.HK_STAT_SENSE_CUR = s.dev.senseNext i ∧ t.dev.hk.tripped = false ∧
       sget (fun _ => 0) i t.dev.hk.sampled = s.dev.now
     (s.dev.hk.tripped = false → s.dev.senseWord i sum (hkRatio (s.dev.fld (F.HK_SENSE_CFG_PRESET i))) = some v →
      Gives (.senseConversionEnd sum clamp) s fun t =>
        t.dev.reg (Reg.HK_SENSE_WORD i) = BitVec.ofNat 32 (unsgn 16 (clampI (-32768) 32766 v) + 2 ^ 17 * b2n clamp) ∧ next t ∧
        sget (fun _ => 400) i t.dev.hk.good = clampI (-32768) 32766 v ∧ Leaves [.hk] regs s t) ∧
     (s.dev.hk.tripped = true → s.dev.fld (F.HK_SENSE_CFG_EXC i) ≠ 0 → Gives (.senseConversionEnd sum clamp) s fun t =>
        t.dev.reg (Reg.HK_SENSE_WORD i) = BitVec.ofNat 32 (0x7FFF + 2 ^ 16 + 2 ^ 17 * b2n clamp) ∧ next t ∧
        t.dev.bit Reg.HK_OPEN_STAT i = true ∧ Counts C.HK_OPEN_CNT 1 s t ∧ t.dev.hk.good = s.dev.hk.good ∧
        Leaves [.hk] (regs ++ [Reg.HK_OPEN_STAT, Reg.HK_OPEN_CNT, C.HK_OPEN_CNT.sat]) s t)))

/-- The temperature rounds: every sensor read and not failed takes its reading, T_MAX is the largest valid reading of the round,
and the round is noted for the telemetry; HOLD ends after its time; thermal safe state entered on temperature ends below 115 °C
(R544, R545, R548, R549, R616). The model's reading is log entry 113. -/
def Obligations.ThermalRoundsAct : Prop := ∀ s : State,
  let roundRegs := [Reg.THM_STAT, Reg.THM_FAIL, Reg.THM_EVT, Reg.TIME_STAT, Reg.SCN_STAT, Reg.THM_LEVEL_CNT, C.THM_LEVEL_CNT.sat,
    Reg.THM_SAFE_CNT, C.THM_SAFE_CNT.sat, Reg.PWR_STAT, Reg.PWR_VF] ++ ((List.range 12).map fun r => Reg.THM_REGION r)
    ++ (List.range 64).map fun u => Reg.SLICE_BUR_STAT u
  let topOf (t : State) (ns : List Nat) : Prop := ∀ n, n ∈ ns → t.dev.sensorValid n = true →
    (t.dev.sensor n).t ≤ t.dev.tMax ∧ ∃ m, m ∈ ns ∧ t.dev.sensorValid m = true ∧ (t.dev.sensor m).t = t.dev.tMax
  let took (t : State) (n : Nat) (x : BitVec 16 × Nat) : Prop := s.dev.sensorFailed n = false →
    (t.dev.sensor n).read = true ∧ (t.dev.sensor n).t = x.1.toInt ∧ (t.dev.sensor n).raw = x.2
  let noted (t : State) : Prop := t.dev.tel = { s.dev.tel with paceRound := s.dev.tel.paceMax, paceMax := 0, roundTime := s.dev.now }
  (∀ regions spots : List (BitVec 16 × Nat), regions.length = 12 → spots.length = 2 → s.dev.domOn 144 = true →
    s.dev.flag F.THM_STAT_FAST_ROUND = false → Gives (.hkRound regions spots) s fun t =>
      (∀ r, r < 12 → took t r (regions.getD r (0#16, 0))) ∧ topOf t (List.range 12) ∧ noted t ∧
      t.dev.hk.hotNext = (s.dev.hk.hotNext + 2) % 20 ∧
      Keeps [.time, .hk, .bur, .out, .scan, .safe, .pwr, .tel] s t ∧ KeepsRegs roundRegs s t ∧ KeepsMem s t) ∧
  (∀ spots : List (BitVec 16 × Nat), spots.length = 20 → s.dev.domOn 144 = true →
    s.dev.flag F.THM_STAT_FAST_ROUND = true → Gives (.fastRound spots) s fun t =>
      (∀ h, h < 20 → took t (12 + h) (spots.getD h (0#16, 0))) ∧ topOf t ((List.range 20).map (12 + ·)) ∧ noted t ∧
      (∀ r, t.dev.reg (Reg.THM_REGION r) = s.dev.reg (Reg.THM_REGION r)) ∧
      Keeps [.time, .hk, .out, .scan, .safe, .pwr, .tel] s t ∧ KeepsRegs roundRegs s t ∧ KeepsMem s t) ∧
  Gives .damperHoldExpiry s (fun t => t.dev.flag F.THM_STAT_HOLD = false ∧ Leaves [] [Reg.THM_STAT] s t) ∧
  (s.dev.flag F.THM_STAT_SAFE = true → s.dev.hk.safeOnTemp = true → s.dev.tMax < 1840 → s.dev.par P.thm_damper_min 0 ≤ 7 →
    s.dev.pwr.from_ ≤ 1 → Gives .thermalSafeExit s fun t => t.dev.flag F.THM_STAT_SAFE = false ∧
      bitAt t.dev.safe.active Cause.thermal = false ∧
      t.dev.damper = max (s.dev.fld F.THM_STAT_LEVEL) (s.dev.par P.thm_damper_min 0) ∧
      (s.dev.fld F.PWR_STAT_STATE = 2 → t.dev.fld F.PWR_STAT_STATE = s.dev.pwr.from_) ∧
      Leaves [.hk, .safe, .out] [Reg.THM_STAT, Reg.SCN_STAT, Reg.THM_LEVEL_CNT, C.THM_LEVEL_CNT.sat, Reg.PWR_STAT] s t)

/-! ## Safety (chapter 13) and the memory commands (chapter 17) -/

/-- The safety and memory commands start or act where their conditions hold; a commission or release that is stored takes effect
(R398, R466, R468, R522, R524, R525). The model's reading is log entry 124. -/
def Obligations.SafetyAndMemoryCommandsAct : Prop := ∀ (s : State) (c : Cmd),
  let commits (t : State) (x : Commit) : Prop := t.dev.cfg = { s.dev.cfg with commits := s.dev.cfg.commits ++ [x] } ∧
    t.dev.flag F.GLB_CFG_STAT_COMMIT_BUSY = true
  (s.dev.safetyInvalid = false → s.dev.atRest = true → s.dev.commissioned = false → s.dev.storeFull 17 (s.dev.setEntries 17) = false →
    (c.packet 0x0702).u 0 4 = s.dev.checkLive →
    Starts (.safetyCommission c) c 0x0702 s 0 [.cfg] [Reg.GLB_CFG_STAT] fun t =>
      commits t ⟨17, s.dev.setEntries 17, some (c.pair.val, c.tag.toNat), 0x0702⟩) ∧
  (s.dev.atRest = true → s.dev.commissioned = true → s.dev.storeFull 17 [] = false →
    (c.packet 0x0703).u 0 4 = (s.dev.reg Reg.SAFE_CHECK).toNat →
    Starts (.safetyRelease c) c 0x0703 s 0 [.cfg] [Reg.GLB_CFG_STAT] fun t =>
      commits t ⟨17, [], some (c.pair.val, c.tag.toNat), 0x0703⟩) ∧
  (let p := c.packet 0x0704
   p.u 0 4 + p.u 4 4 ≤ 131072 → p.u 8 8 + 2 * p.u 4 4 ≤ devMemSize → s.dev.commissioned = false →
   Starts (.safetyFieldLoad c) c 0x0704 s 0 [] [] fun _ => True) ∧
  (∀ (x : Commit) (rest : List Commit), s.dev.cfg.commits = x :: rest → x.set = 17 →
    (x.opcode = 0x0702 → Gives .storeCommitComplete s fun t => t.dev.flag F.SAFE_STAT_COMMISSIONED = true ∧
      t.dev.reg Reg.SAFE_CHECK = BitVec.ofNat 32 s.dev.checkLive ∧ t.dev.flag F.SAFE_STAT_LOCK = true ∧
      t.dev.bit Reg.SAFE_CAUSE Cause.powerup = true ∧ t.dev.store.safeCheck = some s.dev.checkLive ∧
      t.dev.store.safeReleased = false) ∧
    (x.opcode = 0x0703 → Gives .storeCommitComplete s fun t => t.dev.flag F.SAFE_STAT_COMMISSIONED = false ∧
      t.dev.store.safeReleased = true ∧ (s.dev.safe.running = true → t.dev.fld F.SAFE_STAT_B_STATE = 0))) ∧
  (let p := c.packet 0x0901
   let a := p.u 0 8
   let n := p.u 8 8
   let sum := p.u 24 8
   scrubRangeOk a n = true → sum % 64 = 0 → sum + 256 ≤ devMemSize → overlaps sum 256 a n = false → s.dev.memHalted = false →
   Starts (.memScrub c) c 0x0901 s 0 [.memc] [Reg.MEM_STAT] fun t => t.dev.flag F.MEM_STAT_SCRUB_BUSY = true ∧
     t.dev.memc = { s.dev.memc with
       scrub := some { addr := a, length := n, repair := p.u 16 1 == 1, summary := sum, pair := c.pair.val, tag := c.tag.toNat, started := s.dev.now }
       faults := t.dev.memc.faults
       lines := t.dev.memc.lines }) ∧
  (let p := c.packet 0x0903
   p.u 0 1 ≤ 1 → 1 ≤ p.u 4 4 → p.u 4 4 ≤ 720 → Acts (.memPatrol c) c 0x0903 s [] [] [Reg.MEM_CTL] fun t =>
     t.dev.fld F.MEM_CTL_PATROL_EN = p.u 0 1 ∧ t.dev.fld F.MEM_CTL_PATROL_H = p.u 4 4) ∧
  (let p := c.packet 0x0904
   scrubRangeOk (p.u 0 8) (p.u 8 8) = true → (∀ r ∈ s.dev.enabledRings, overlaps (p.u 0 8) (p.u 8 8) r.1 r.2 = false) →
   s.dev.memHalted = false →
   Starts (.memWipe c) c 0x0904 s 0 [] [Reg.MEM_STAT] fun t => t.dev.flag F.MEM_STAT_WIPE_BUSY = true)

/-- Conditions of a Quench are detected; the engine cycle acts on them: Quench lock, its cause, both gates of output A off; a
vetoed shot is a Quench with cause ENERGY, and another is taken for its charge (R368, R369, R371, R375, R379, R389, R390, R392).
The model's readings are log entries 116, 117. -/
def Obligations.QuenchesFollowTheirCauses : Prop := ∀ s : State,
  let quenched (t : State) (causes : Nat) : Prop := t.dev.flag F.SAFE_STAT_LOCK = true ∧
    t.dev.fld F.SAFE_CAUSE_CAUSE = s.dev.fld F.SAFE_CAUSE_CAUSE ||| causes ∧ (t.dev.switch 0).gate = false ∧
    (t.dev.switch 1).gate = false ∧ t.dev.safe.latchOff = true ∧
    (s.dev.quenchLock = false → t.dev.fld F.SAFE_CAUSE_FIRST = firstCause causes ∧ Counts C.SAFE_QUENCH_CNT 1 s t ∧
      t.dev.fld F.SAFE_STAT_A_STATE = 0 ∧ t.dev.wide64 Reg.SAFE_LOCK_TIME_LO = s.dev.now % 2 ^ 64)
  let regs := [Reg.SAFE_STAT, Reg.SAFE_CAUSE, Reg.SAFE_IN, Reg.SAFE_MOTION, Reg.SAFE_EVT, Reg.SAFE_QUENCH_CNT, C.SAFE_QUENCH_CNT.sat]
  let detects (i : Instr) (cause : Nat) (parts : List Nat) : Prop :=
    Gives i s fun t => bitAt t.dev.safe.detected cause = true ∧ Leaves [.safe] parts s t
  (∀ disagree clockBad configBad : Bool, s.dev.safe.running = true →
    let seen := s.dev.safe.detected ||| (if disagree then 2 ^ Cause.disagree else 0) ||| (if clockBad then 2 ^ Cause.clock else 0)
      ||| (if configBad then 2 ^ Cause.config else 0)
    seen ≠ 0 → seen < 2 ^ 13 → Gives (.safetyCycle disagree clockBad configBad) s fun t => quenched t seen ∧
      t.dev.safe.detected = 0 ∧ t.dev.fld F.SAFE_STAT_B_STATE = b2n s.dev.fnB ∧ Leaves [.safe, .wide] regs s t) ∧
  (s.dev.safe.running = true → s.dev.safe.detected = 0 → s.dev.quenchLock = false → s.dev.scan.arm = true → s.dev.stopsHigh = true →
    s.dev.safe.waitTurn = false → s.dev.aState ≤ 1 → s.dev.safe.switches.length = 4 →
    Gives (.safetyCycle false false false) s fun t => t.dev.aState = 2 ∧ (t.dev.switch 0).gate = true ∧ (t.dev.switch 1).gate = true ∧
      t.dev.safe.still = 0 ∧ Leaves [.safe] regs s t) ∧
  (∀ f : Frame, s.dev.blw.e.shifted = some f → s.dev.safe.decided = false →
    let segs := (List.range 256).filter fun k => f.units.contains (k / 16) && s.dev.blw.e.code f.page k != 0
    let q (k : Nat) := s.dev.segCharge k (s.dev.blw.e.code f.page k) f.pulses
    let charges := sumCharges (segs.flatMap fun k => (s.dev.segRows k).flatMap fun r =>
      (s.dev.chargedColumns (s.dev.safe.xs.headD 0)).map fun c => (r * 256 + c, (q k).1))
    let bad := (∃ k ∈ segs, (q k).2 = true) ∨ ∃ x ∈ charges, s.dev.eBudget < s.dev.account f.slot x.1 + x.2
    (bad → Gives .accountantDecision s fun t => quenched t (2 ^ Cause.energy) ∧ Counts C.SAFE_VETO_CNT 1 s t ∧
      t.dev.safe.charges = [] ∧ t.dev.bit Reg.SAFE_EVT 2 = true ∧
      Leaves [.safe, .wide] (regs ++ [Reg.SAFE_VETO_CNT, C.SAFE_VETO_CNT.sat]) s t) ∧
    (¬bad → Gives .accountantDecision s fun t => t.dev.safe = { s.dev.safe with decided := true, charges := charges } ∧
      Leaves [.safe] [] s t)) ∧
  (let w := (s.dev.slotNo + 1) / s.dev.winSlots
   s.dev.locked = true → Gives .safetyWindowBoundary s fun t =>
     t.dev.safe = { s.dev.safe with window := w, accounts := if w = s.dev.safe.window then s.dev.safe.accounts else [] } ∧
     Leaves [.safe] [] s t) ∧
  (∀ x opt current : BitVec 16, let out := x.toInt < s.dev.parI P.safe_travel_lo 0 ∨ s.dev.parI P.safe_travel_hi 0 < x.toInt
    let n := if out then s.dev.safe.outTravel + 1 else 0
    Gives (.safetyMotionSample x opt current) s fun t => t.dev.safe.xs = (x.toInt :: s.dev.safe.xs).take 26 ∧
      t.dev.safe.outTravel = n ∧ (s.dev.aOn = true → 26 < n → bitAt t.dev.safe.detected Cause.motion = true) ∧
      (s.dev.aOn = false → t.dev.safe.detected = s.dev.safe.detected) ∧ Leaves [.safe] [Reg.SAFE_MOTION] s t) ∧
  (∀ ch : Fin 2, (if ch = 0 then s.dev.safe.stop1 else s.dev.safe.stop2).high = false →
    detects (.stopFilterExpiry ch) Cause.stop []) ∧
  (s.dev.safe.stop1.high ≠ s.dev.safe.stop2.high → detects (.inputDiscrepancyTimeout false) Cause.input []) ∧
  (s.dev.safe.restart1.high ≠ s.dev.safe.restart2.high → detects (.inputDiscrepancyTimeout true) Cause.input []) ∧
  (∀ sw : Fin 4, ((s.dev.switch sw.val).testing = false → detects (.readbackMismatch sw) Cause.readback [Reg.SAFE_IN]) ∧
    ((if sw.val < 2 then s.dev.aOn else s.dev.bOn) = true →
      detects (.testOverdue sw) Cause.test [Reg.SAFE_EVT, Reg.SAFE_TEST_FAIL_CNT, C.SAFE_TEST_FAIL_CNT.sat] ∧
      Gives (.testOverdue sw) s fun t => Counts C.SAFE_TEST_FAIL_CNT 1 s t))

/-- The STOP and RESTART inputs take their levels; a valid press releases Quench lock where every cause has cleared, and is
refused where one has not; test pulses switch a gate off and on; the protective field takes output B to OFF_FIELD where it is
infringed or not seen (R382, R384, R385, R388, R389, R392 to R394). The model's readings are log entries 120, 121. -/
def Obligations.InputsTestsAndFieldAct : Prop := ∀ s : State,
  let inRegs := [Reg.SAFE_IN, Reg.SAFE_STAT, Reg.SAFE_CAUSE, Reg.SAFE_MOTION, Reg.SAFE_EVT, Reg.SAFE_RESTART_CNT, C.SAFE_RESTART_CNT.sat]
  (∀ (ch : Fin 2) (level : Bool) (us : Nat),
    Gives (.stopInputChange ch level us) s (fun t => (if ch = 0 then t.dev.safe.stop1 else t.dev.safe.stop2).high = level ∧
      t.dev.bit Reg.SAFE_IN ch.val = !level ∧ Leaves [.safe] [Reg.SAFE_IN] s t) ∧
    Gives (.restartInputChange ch level us) s (fun t => (if ch = 0 then t.dev.safe.restart1 else t.dev.safe.restart2).high = level ∧
      t.dev.bit Reg.SAFE_IN (2 + ch.val) = !level ∧ Leaves [.safe] inRegs s t)) ∧
  (∀ us : Nat, { s.dev.safe with restart1 := { s.dev.safe.restart1 with high := true, rose := us } }.validPress = true →
    s.dev.safe.restart1.high = false → s.dev.safe.restart2.high = true → s.dev.flag F.SAFE_STAT_RESTART_HELD = false →
    s.dev.safe.running = true →
    let i := Instr.restartInputChange 0 true us
    (s.dev.quenchLock = true → s.dev.stopsHigh = true → s.dev.safe.switches.all SafeSwitch.ok = true → s.dev.safe.active = 0 →
      s.dev.safe.detected = 0 → s.dev.locked = true → s.dev.flag F.BLW_STAT_E_FAULT = false →
      Gives i s fun t => t.dev.quenchLock = false ∧ t.dev.reg Reg.SAFE_CAUSE = 0x001F0000#32 ∧ t.dev.aState = 1 ∧
        (s.dev.fnB = true → t.dev.bState = 2) ∧ Counts C.SAFE_RESTART_CNT 1 s t ∧ t.dev.bit Reg.SAFE_EVT 1 = true) ∧
    (s.dev.quenchLock = true → s.dev.stopsHigh = false → Gives i s fun t => t.dev.quenchLock = true ∧
      t.dev.bit Reg.SAFE_EVT 8 = true ∧ Leaves [.safe] [Reg.SAFE_IN, Reg.SAFE_STAT, Reg.SAFE_EVT] s t) ∧
    (s.dev.quenchLock = false → s.dev.bState = 3 → Gives i s fun t => t.dev.bState = 4)) ∧
  (s.dev.safe.restart1.high = false ∨ s.dev.safe.restart2.high = false → Gives .restartStuck s fun t =>
    t.dev.flag F.SAFE_STAT_RESTART_HELD = true ∧ t.dev.bit Reg.SAFE_EVT 7 = true ∧ Leaves [.safe] [Reg.SAFE_STAT, Reg.SAFE_EVT] s t) ∧
  (∀ sw : Fin 4, let x := s.dev.switch sw.val
    s.dev.safe.switches.length = 4 →
    (sw.val < 2 → s.dev.aOn = true → x.testing = false → Gives (.testPulseDue sw) s fun t =>
      t.dev.switch sw.val = { x with due := true } ∧ Leaves [.safe] [Reg.SAFE_IN] s t) ∧
    (2 ≤ sw.val → s.dev.bState = 4 → x.testing = false → Gives (.testPulseDue sw) s fun t =>
      (t.dev.switch sw.val).gate = false ∧ (t.dev.switch sw.val).testing = true ∧ t.dev.bState = 5 ∧
      Leaves [.safe] [Reg.SAFE_IN, Reg.SAFE_STAT] s t) ∧
    (x.testing = true → sw.val < 2 → s.dev.aOn = true →
      Gives (.testPulseEnd sw true true) s (fun t => (t.dev.switch sw.val).gate = true ∧ (t.dev.switch sw.val).testing = false ∧
        (t.dev.switch sw.val).since = 0 ∧ t.dev.aState = 2 ∧ Leaves [.safe] [Reg.SAFE_IN, Reg.SAFE_STAT] s t) ∧
      Gives (.testPulseEnd sw false true) s fun t => bitAt t.dev.safe.detected Cause.test = true ∧ Counts C.SAFE_TEST_FAIL_CNT 1 s t ∧
        t.dev.bit Reg.SAFE_EVT 6 = true ∧
        Leaves [.safe] [Reg.SAFE_IN, Reg.SAFE_STAT, Reg.SAFE_EVT, Reg.SAFE_TEST_FAIL_CNT, C.SAFE_TEST_FAIL_CNT.sat] s t)) ∧
  (∀ (ok : Bool) (x : PixelCopy) (rest : List PixelCopy), s.dev.safe.copies = x :: rest →
    Gives (.pixelCopyReceived ok) s fun t => t.dev.safe.copies = rest ∧
      ((ok && s.dev.fnB) = true → slook (1024 * x.row + x.pos) t.dev.safe.results = some (s.dev.infringes x)) ∧
      ((ok && s.dev.fnB) = false → t.dev.safe = { s.dev.safe with copies := rest }) ∧ Leaves [.safe] [] s t) ∧
  (s.dev.fnB = true → let fieldRegs := [Reg.SAFE_STAT, Reg.SAFE_IN, Reg.SAFE_EVT]
    ((∃ r ∈ s.dev.safe.batch, 0 < s.dev.rowRuns false r) → 3 ≤ s.dev.bState → Gives .fieldBatchClose s fun t =>
      t.dev.bState = 2 ∧ t.dev.safe.clearFrames = 0 ∧ t.dev.safe.infringed = true ∧ Counts C.SAFE_INFR_CNT 1 s t ∧
      Leaves [.safe] (fieldRegs ++ [Reg.SAFE_INFR_CNT, C.SAFE_INFR_CNT.sat]) s t) ∧
    ((∀ r ∈ s.dev.safe.batch, s.dev.rowRuns false r = 0) → Gives .fieldBatchClose s fun t =>
      t.dev.safe = { s.dev.safe with batch := [] } ∧ Leaves [.safe] [] s t) ∧
    (3 ≤ s.dev.bState → Gives .frameMissingTimeout s fun t => t.dev.bState = 2 ∧ t.dev.safe.clearFrames = 0 ∧
      (s.dev.bOn = true → (t.dev.switch 2).gate = false ∧ (t.dev.switch 3).gate = false) ∧ Leaves [.safe] fieldRegs s t))

/-- Planish, the write-merge buffer, training and maintenance, die failure, halt, the patrol and engine traps (R507, R510, R513
to R517, R519, R520, R522 to R524). The model's readings of the other rules are log entries 133, 135. -/
def Obligations.MemoryErrorsAct : Prop := ∀ s : State,
  (∀ (upset : List (Nat × Nat)) (j : ScrubJob) (r : Running), let d := s.dev.upset upset
    let result (ce ue : Nat) := leBytes 4 (j.ce.foldl (· + ·) 0 + ce) ++ leBytes 4 (j.ue.length + ue)
      ++ leBytes 4 (min (2 ^ 32 - 1) ((s.dev.now - j.started) / 1000))
    s.dev.memc.scrub = some j → s.dev.running? j.pair j.tag = some r → Awaits s.dev r → s.dev.memHalted = false →
    ((∀ b ∈ d.suspectBeats j.addr j.length, d.readBeat b = .good) → Gives (.memScrubComplete upset) s fun t =>
      Completed s t r 0x0000 (result 0 0) ∧ Writes j.summary (d.scrubSummary { j with upTo := j.length } 0) s t ∧
      t.dev.memc.scrub = none ∧ t.dev.flag F.MEM_STAT_SCRUB_BUSY = false ∧ Keeps [.memc] s t ∧ KeepsRegs [Reg.MEM_STAT] s t) ∧
    (∀ b die : Nat, d.suspectBeats j.addr j.length = [b] → d.readBeat b = .corrected die → j.ce.length = 20 →
      Gives (.memScrubComplete upset) s fun t => Completed s t r 0x0000 (result 1 0) ∧ Counts C.MEM_CE_CNT 1 s t ∧
        Counts (C.MEM_CH_CE_CNT (beatGroup b * 10 + die)) 1 s t ∧ t.dev.memc.scrub = none ∧
        (j.repair = true → sget (fun _ => 0) b t.dev.memc.faults = 0)) ∧
    (∀ b : Nat, d.suspectBeats j.addr j.length = [b] → d.readBeat b = .bad →
      let many := decide (s.dev.par P.mem_halt_ue 0 < (addUe s.dev.now (s.dev.memc.ueTimes (beatGroup b))).length)
      Gives (.memScrubComplete upset) s fun t => Counts C.MEM_UE_CNT 1 s t ∧ t.dev.wide64 Reg.MEM_UE_ADDR_LO = b * 16 % 2 ^ 64 ∧
        t.dev.bit Reg.MEM_EVT 0 = true ∧ t.dev.memc.scrub = none ∧
        (many = false → Completed s t r 0x0000 (result 0 1)) ∧
        (many = true → Completed s t r 0x0304 [] ∧
          t.dev.flag (if beatGroup b = 0 then F.MEM_STAT_HALT_A else F.MEM_STAT_HALT_B) = true))) ∧
  (∀ v : Word, s.dev.barOpen = true → Gives (.memDmaResume v) s fun t =>
    t.dev.reg Reg.MEM_DMA_STAT = s.dev.reg Reg.MEM_DMA_STAT &&& ~~~v ∧ Leaves [] [Reg.MEM_DMA_STAT] s t) ∧
  (s.dev.flag F.MEM_STAT_ACTIVE = false → s.dev.rst.phase = .running →
    (s.dev.memHalted = false → Gives (.memTrainingDone true []) s fun t => t.dev.flag F.MEM_STAT_ACTIVE = true ∧
      t.dev.flag F.GLB_STAT_MEM_ACTIVE = true ∧ t.dev.flag F.MEM_STAT_CAP = Config.sixteenGiB ∧ t.dev.memc.wipeDue = false ∧
      (s.dev.memc.wipeDue = true → ∀ a, ¬InRing s.dev a → a < memCapacity → memByte t.mem a = 0#8) ∧
      (s.dev.memc.wipeDue = false → KeepsMem s t) ∧ Keeps [.memc] s t ∧ KeepsRegs [Reg.MEM_STAT, Reg.GLB_STAT] s t) ∧
    (∀ failed : List (Fin 20), Gives (.memTrainingDone false failed) s fun t => t.dev.flag F.MEM_STAT_HALT_A = true ∧
      t.dev.flag F.MEM_STAT_HALT_B = true ∧ t.dev.flag F.MEM_STAT_ACTIVE = false)) ∧
  (∀ failed : List (Fin 20), s.dev.flag F.MEM_STAT_ACTIVE = true → s.dev.memHalted = false →
    ((∀ c ∈ failed, s.dev.memc.trackBad.contains c.val = false) → Gives (.memMaintenanceTick failed) s fun t =>
      t.dev.memc = { s.dev.memc with trackBad := failed.map (·.val), faults := t.dev.memc.faults, lines := t.dev.memc.lines } ∧ Counts C.MEM_RETRAIN_FAIL_CNT failed.length s t ∧
      Leaves [.memc] [Reg.MEM_RETRAIN_FAIL_CNT, C.MEM_RETRAIN_FAIL_CNT.sat] s t) ∧
    (∀ c : Fin 20, failed = [c] → s.dev.memc.trackBad.contains c.val = true → s.dev.flag F.MEM_STAT_ERASURE = false →
      Gives (.memMaintenanceTick failed) s fun t => t.dev.flag F.MEM_STAT_ERASURE = true ∧
        t.dev.fld F.MEM_STAT_ERASED_DIE = c.val % 10 ∧ t.dev.bit Reg.MEM_EVT 1 = true)) ∧
  ((∀ e ∈ s.dev.memc.dieCe, e.2 ≤ s.dev.par P.mem_die_ce_thresh 0) → Gives .dieCeWindow s fun t =>
    t.dev.memc = { s.dev.memc with dieCe := [] } ∧ Leaves [.memc] [] s t) ∧
  (∀ k n : Nat, s.dev.memc.dieCe = [(k, n)] → s.dev.par P.mem_die_ce_thresh 0 < n → s.dev.flag F.MEM_STAT_ERASURE = false →
    Gives .dieCeWindow s fun t => t.dev.memc.dieCe = [] ∧ t.dev.flag F.MEM_STAT_ERASURE = true ∧
      t.dev.fld F.MEM_STAT_ERASED_DIE = k % 10 ∧ Leaves [.memc] [Reg.MEM_STAT, Reg.MEM_EVT] s t) ∧
  (s.dev.flag F.MEM_STAT_ERASURE = true →
    (∀ k n : Nat, s.dev.memc.dieCe = [(k, n)] → s.dev.par P.mem_die_ce_thresh 0 < n → s.dev.fld F.MEM_STAT_ERASED_DIE ≠ k % 10 →
      Gives .dieCeWindow s fun t => t.dev.flag F.MEM_STAT_HALT_A = true ∧ t.dev.flag F.MEM_STAT_HALT_B = true) ∧
    (∀ c : Fin 20, s.dev.flag F.MEM_STAT_ACTIVE = true → s.dev.memHalted = false → s.dev.memc.trackBad.contains c.val = true →
      s.dev.fld F.MEM_STAT_ERASED_DIE ≠ c.val % 10 → Gives (.memMaintenanceTick [c]) s fun t =>
        t.dev.flag F.MEM_STAT_HALT_A = true ∧ t.dev.flag F.MEM_STAT_HALT_B = true)) ∧
  (∀ a b : Fin 20, s.dev.flag F.MEM_STAT_ACTIVE = false → s.dev.rst.phase = .running → s.dev.flag F.MEM_STAT_ERASURE = false →
    a.val % 10 ≠ b.val % 10 → Gives (.memTrainingDone true [a, b]) s fun t =>
      t.dev.flag F.MEM_STAT_HALT_A = true ∧ t.dev.flag F.MEM_STAT_HALT_B = true ∧ t.dev.flag F.MEM_STAT_ACTIVE = false) ∧
  (∀ (l mask : Nat) (rest : List (Nat × Nat)), s.dev.memc.lines = (l, mask) :: rest → s.dev.memHalted = false →
    (∀ k, k < 16 → sget (fun _ => 0) (l * 16 + k) s.dev.memc.faults = 0) →
    Gives (.wmbLineFlush []) s fun t => t.dev.memc.lines = rest ∧ Leaves [] [] s t) ∧
  (∀ groupB : Bool, Gives (.commandPathParityError groupB) s fun t =>
    t.dev.flag (if groupB then F.MEM_STAT_HALT_B else F.MEM_STAT_HALT_A) = true ∧
    (s.dev.memHalted = false → t.dev.bit Reg.MEM_EVT 2 = true ∧ t.dev.memc.scrub = none ∧
      ∀ n, n < 3 → s.dev.streamRuns n = true → t.dev.flag (F.ING_S_STAT_HALTED n) = true)) ∧
  (let nxt := 2 ^ 26 + s.dev.memc.patrolAt
   let wrap := decide (memCapacity ≤ nxt)
   let done := if wrap then min 65535 (s.dev.memc.patrolDone + 1) else s.dev.memc.patrolDone
   s.dev.flag F.MEM_CTL_PATROL_EN = true → s.dev.flag F.MEM_STAT_ACTIVE = true → s.dev.flag F.CMDQ_STAT_READY = true →
   s.dev.flag F.MEM_STAT_SCRUB_BUSY = false → s.dev.memHalted = false → s.dev.memc.faults = [] →
   Gives (.patrolPass [] []) s fun t =>
     t.dev.memc = { s.dev.memc with patrolAt := if wrap then 0 else nxt, patrolDone := done } ∧
     t.dev.reg Reg.MEM_PATROL = BitVec.ofNat 32 (65536 * (if wrap then 0 else nxt) / memCapacity + 65536 * done) ∧
     Leaves [.memc] [Reg.MEM_PATROL] s t) ∧
  (∀ e : Fin 64, (s.dev.canTrap e.val = true →
      ((sget (fun _ => ([] : List Nat)) e.val s.dev.memc.traps).filter fun t => decide (s.dev.now < 10000000000 + t)).length ≤ 2 →
      Gives (.engineTrap e none) s fun t => t.dev.fld (F.GLB_ENG_STAT_STATE e.val) = 2 ∧
        t.dev.fld (F.GLB_ENG_STAT_TRAPS e.val) = min 255 (s.dev.fld (F.GLB_ENG_STAT_TRAPS e.val) + 1) ∧ Counts C.MEM_TRAP_CNT 1 s t ∧
        Counts C.MEM_SRAM_UE_CNT 1 s t ∧ Pending t (Ev.engineTrap e.val) ∧ Leaves [.memc] [Reg.GLB_ENG_STAT e.val, Reg.MEM_EVT,
          Reg.MEM_TRAP_CNT, C.MEM_TRAP_CNT.sat, Reg.MEM_SRAM_UE_CNT, C.MEM_SRAM_UE_CNT.sat] s t) ∧
    (s.dev.fld (F.GLB_ENG_STAT_STATE e.val) = 2 → Gives (.engineReloadDone e) s fun t =>
      t.dev.fld (F.GLB_ENG_STAT_STATE e.val) = 0 ∧ Leaves [] [Reg.GLB_ENG_STAT e.val] s t))

/-! ## Power (chapter 19) and security (chapter 20) -/

/-- `pwr.state` and the transition it starts; a domain that switches on becomes usable, and one without power-good is left off;
the governor steps the voltage; AVSBus faults (R560, R562, R564 to R566, R569). The model's readings are log entries 114, 115.
-/
def Obligations.PowerActs : Prop := ∀ s : State,
  (∀ c : Cmd, let v := (c.packet 0x0B02).u 0 1
    v ≤ 1 → s.dev.fld F.PWR_STAT_STATE ≠ 2 → (v = 1 → s.dev.atRest = true) → s.dev.pwr.target = none →
    (v = s.dev.fld F.PWR_STAT_STATE → Acts (.pwrState c) c 0x0B02 s [] [] [] fun _ => True) ∧
    (v ≠ s.dev.fld F.PWR_STAT_STATE → Takes s.dev c 0x0B02 → Gives (.pwrState c) s fun t => Replied s t c 0x0B02 0x0001 [] ∧
      t.dev.pwr.target = some v ∧ t.dev.fld F.PWR_STAT_STATE = s.dev.fld F.PWR_STAT_STATE ∧
      (v = 1 → s.dev.cfg.waiting = [] → ∀ n, n < 112 → s.dev.offBlocked n = false → t.dev.domOn n = false) ∧
      Keeps [.pwr, .chans, .bur, .kiln, .taps, .turf, .peer, .cfg, .out, .wide] s t ∧ KeepsMem s t)) ∧
  (∀ v : Nat, s.dev.pwr.target = some v → v ≤ 1 → s.dev.pwr.switchQ = [] → s.dev.pwr.offWait = [] →
    s.dev.flag F.THM_STAT_SAFE = false → Gives .pwrStateComplete s fun t => t.dev.fld F.PWR_STAT_STATE = v ∧
      t.dev.pwr = { s.dev.pwr with target := none } ∧ (∀ r ∈ t.dev.cmd.running, r.pkt.opcode.toNat ≠ 0x0B02) ∧
      Leaves [.pwr] [Reg.PWR_STAT] s t) ∧
  (∀ (n : Nat) (rest : List Nat), s.dev.pwr.switchQ = n :: rest → n < 146 → s.dev.cfg.powering = [] →
    (∀ flushed : Nat, Gives (.domainSwitchOnDone flushed) s fun t => t.dev.domOn n = true ∧ t.dev.pwr.switchQ = rest ∧
      t.dev.flag F.PWR_STAT_SWITCHING = !rest.isEmpty) ∧
    Gives .powerGoodTimeout s fun t => t.dev.domFailed n = true ∧ Counts C.PWR_DOM_FAIL_CNT 1 s t ∧ t.dev.bit Reg.PWR_EVT 2 = true) ∧
  (∀ pace : List (Option (BitVec 16)), pace.length = 16 → s.dev.flag F.GLB_STAT_RESTORED = true →
    let vmin := s.dev.par P.pwr_v_min_mv 0
    let vmax := s.dev.par P.pwr_v_max_mv 0
    let margin := s.dev.par P.pwr_pace_margin_pct 0
    let ends (v : Nat) : Prop := Gives (.governorTick pace) s fun t => t.dev.fld F.PWR_VF_V = v ∧
      Keeps [.pwr, .tel] s t ∧ KeepsRegs ([Reg.PWR_VF, Reg.PWR_STAT, Reg.PWR_EVT, Reg.PWR_FLOOR_CNT, C.PWR_FLOOR_CNT.sat]
        ++ (List.range 16).map fun i => Reg.PWR_PACE i) s t ∧ KeepsMem s t
    vmin ≤ vmax → vmax < 2 ^ 16 →
    (s.dev.fld F.PWR_STAT_STATE = 2 → ends vmin) ∧
    (s.dev.fld F.PWR_STAT_STATE ≠ 2 → s.dev.flag F.PWR_CTL_GOV_EN = false → ends (s.dev.fld F.PWR_CTL_V_FIX)) ∧
    (s.dev.fld F.PWR_STAT_STATE ≠ 2 → s.dev.flag F.PWR_CTL_GOV_EN = true → s.dev.flag F.PWR_STAT_SWITCHING = false →
      s.dev.flag F.PWR_STAT_AVS_FAULT = false →
      (paceOver pace (100 - margin) = true → ends (min vmax (s.dev.fld F.PWR_VF_V + 5))) ∧
      (paceOver pace (100 - margin) = false → 99 ≤ s.dev.pwr.lowTicks → paceBelow pace (97 - margin) = true →
        ends (max vmin (s.dev.fld F.PWR_VF_V - 5))) ∧
      (paceOver pace (100 - margin) = false → paceBelow pace (97 - margin) = false → ends (s.dev.fld F.PWR_VF_V)))) ∧
  (∀ mv mA : BitVec 16, (s.dev.pwr.avsFails = 2 → s.dev.flag F.PWR_STAT_AVS_FAULT = false → Gives (.avsReadback true mv mA) s fun t =>
      t.dev.flag F.PWR_STAT_AVS_FAULT = true ∧ Counts C.PWR_AVS_ERR_CNT 1 s t ∧ t.dev.bit Reg.PWR_EVT 1 = true ∧
      Leaves [.pwr] [Reg.PWR_STAT, Reg.PWR_EVT, Reg.PWR_AVS_ERR_CNT, C.PWR_AVS_ERR_CNT.sat] s t) ∧
    (absI ((mv.toNat : Int) - s.dev.fld F.PWR_VF_V) ≤ 25 → Gives (.avsReadback false mv mA) s fun t =>
      t.dev.fld F.PWR_VF_READBACK = mv.toNat ∧ t.dev.flag F.PWR_STAT_AVS_FAULT = false ∧ t.dev.pwr.avsFails = 0 ∧
      t.dev.fld F.PWR_VF_V = s.dev.fld F.PWR_VF_V ∧ Leaves [.pwr, .free] [Reg.PWR_VF, Reg.PWR_POWER, Reg.PWR_STAT] s t))

/-- The security commands start where their conditions hold, and end with their effects: an image is staged and preferred, a key
revoked, the lifecycle changed, the certificate and the evidence copied; `mem.wipe` ends with its range zero, or in a halted memory
with 0x0304 (R591, R592, R594, R595, R598, R525). The model's readings are log entries 126, 140, 181. -/
def Obligations.SecurityCommandsAct : Prop := ∀ s : State,
  let clean := s.dev.memc.faults = [] ∧ s.dev.memHalted = false
  (∀ c : Cmd,
    ((c.packet 0x0C01).u 32 8 + 4883 ≤ devMemSize → Starts (.secAttest c) c 0x0C01 s 0 [] [] fun _ => True) ∧
    ((c.packet 0x0C02).u 0 8 + Config.idCertificate.length ≤ devMemSize → Starts (.secIdCert c) c 0x0C02 s 0 [] [] fun _ => True) ∧
    (let p := c.packet 0x0C03
     p.u 8 8 + tokenLen ≤ devMemSize → s.dev.scanState = stStopped → clean →
     s.dev.tokenRefusal (memRead s.mem (p.u 8 8) tokenLen) 1 (p.u 0 1) 2 = 0 →
     Starts (.secLifecycle c) c 0x0C03 s 0 [.rst] [Reg.GLB_CFG_STAT] fun t =>
       t.dev.rst = { s.dev.rst with life := some ⟨p.u 0 1, some (c.pair.val, c.tag.toNat)⟩ } ∧
       t.dev.flag F.GLB_CFG_STAT_COMMIT_BUSY = true) ∧
    (let p := c.packet 0x0C04
     let img := memRead s.mem (p.u 0 8) (p.u 8 4)
     p.u 0 8 + p.u 8 4 ≤ devMemSize → 8192 ≤ p.u 8 4 → p.u 8 4 ≤ 8192 + payloadMax → clean → s.dev.imageRefusal img = 0 →
     Starts (.secFwStage c) c 0x0C04 s 0 [.rst] [] fun t =>
       t.dev.rst = { s.dev.rst with staging := some (⟨some (img.take 8192)⟩, c.pair.val, c.tag.toNat) }) ∧
    (s.dev.rst.staged = true → Starts (.secFwActivate c) c 0x0C05 s 0 [] [] fun _ => True) ∧
    (let p := c.packet 0x0C06
     let k := p.u 0 1
     k ≤ 1 → bitAt s.dev.rst.fuses.revoked k = false → bitAt s.dev.rst.fuses.revoked (1 - k) = false → s.dev.bootable (1 - k) = true →
     p.u 8 8 + tokenLen ≤ devMemSize → clean → s.dev.tokenRefusal (memRead s.mem (p.u 8 8) tokenLen) 2 k k = 0 →
     Starts (.secKeyRevoke c) c 0x0C06 s k [] [] fun _ => True)) ∧
  (∀ (img : Image) (q tag : Nat) (r : Running), s.dev.rst.staging = some (img, q, tag) → s.dev.running? q tag = some r →
    Awaits s.dev r → s.dev.rst.slots.length = 2 → Gives .fwStageComplete s fun t =>
      t.dev.rst = { s.dev.rst with staging := none, staged := true, stagedSlot := 1 - s.dev.rst.running,
                                   slots := s.dev.rst.slots.set (1 - s.dev.rst.running) img } ∧
      Completed s t r 0x0000 (leBytes 4 (headerVer (t.dev.header (1 - s.dev.rst.running)))) ∧ Pending t Ev.fwStaged ∧
      Leaves [.rst] [] s t) ∧
  (∀ (c : LifeChange), s.dev.rst.life = some c → Gives .lifecycleChangeDone s fun t =>
    t.dev.rst.fuses.lifecycle = c.target ∧ t.dev.rst.fuses.seq = s.dev.rst.fuses.seq + 1 ∧ t.dev.rst.life = none ∧
    t.dev.rst.lifeResetDue = true ∧ t.dev.store = s.dev.store.eraseSets (erasedSets c.target) ∧ Pending t Ev.lifecycle ∧
    Keeps [.rst, .store] s t) ∧
  (∀ (pair : Fin 16) (tag : BitVec 32) (r : Running), s.dev.running? pair.val tag.toNat = some r → Awaits s.dev r →
    let i := Instr.commandCompletion pair tag []
    (r.pkt.opcode = 0x0C01#16 → s.dev.memHalted = false → Gives i s fun t => Completed s t r 0x0000 (leBytes 4 4883) ∧
      (let e := s.dev.evidence (r.pkt.u 0 32)
       Writes (r.pkt.u 32 8) (e ++ (Config.attestSignature e ++ zeros 4627).take 4627) s t) ∧ Keeps [] s t ∧ KeepsRegs [] s t) ∧
    (r.pkt.opcode = 0x0C02#16 → s.dev.memHalted = false → Config.sha3 Config.idCertificate = Config.certDigest → Gives i s fun t =>
      Completed s t r 0x0000 (leBytes 4 Config.idCertificate.length) ∧ Writes (r.pkt.u 0 8) Config.idCertificate s t ∧
      Keeps [] s t ∧ KeepsRegs [] s t) ∧
    (r.pkt.opcode = 0x0C05#16 → s.dev.rst.staged = true → Gives i s fun t => Completed s t r 0x0000 [] ∧
      t.dev.rst = { s.dev.rst with preferred := s.dev.rst.stagedSlot, staged := false } ∧ Leaves [.rst] [] s t) ∧
    (r.pkt.opcode = 0x0C06#16 → Gives i s fun t => Completed s t r 0x0000 [] ∧
      t.dev.rst = { s.dev.rst with fuses := { s.dev.rst.fuses with revoked := orBit s.dev.rst.fuses.revoked r.aux,
                                                                   seq := s.dev.rst.fuses.seq + 1 } } ∧
      Pending t Ev.keyRevoked ∧ Leaves [.rst] [] s t) ∧
    (r.pkt.opcode = 0x0904#16 → s.dev.memHalted = true → Gives i s fun t => Completed s t r 0x0304 [] ∧
      t.dev.flag F.MEM_STAT_WIPE_BUSY = false ∧ Leaves [] [Reg.MEM_STAT] s t) ∧
    (r.pkt.opcode = 0x0904#16 → s.dev.memHalted = false → Gives i s fun t => Completed s t r 0x0000 [] ∧
      t.dev.flag F.MEM_STAT_WIPE_BUSY = false ∧
      (∀ a, ¬InRing s.dev a → memByte t.mem a =
        if r.pkt.u 0 8 ≤ a ∧ a < r.pkt.u 0 8 + r.pkt.u 8 8 then 0#8 else memByte s.mem a) ∧ Keeps [] s t ∧
      KeepsRegs [Reg.MEM_STAT] s t))

/-! ## Resets and boot (chapter 20) -/

/-- A reset that takes hold: the cause is recorded and counted in the backup domain, every register that the reset does not keep
has its reset value, every island starts again, and the fuses, the store and the record of Quench lock outlive it; the reset
sources, their releases and the loss of VBAK (R428, R459, R576 to R581, R584, R598). The model's readings are log entries 26,
27, 136. -/
def Obligations.ResetsTakeHold : Prop := ∀ s : State,
  let started : List Part := [.time, .chans, .shot, .bur, .blw, .kiln, .turf, .taps, .scan, .out, .peer, .cfg, .hk, .pwr, .tel, .wide, .held]
  let took (t : State) (src : Nat) (cold lc : Bool) : Prop :=
    t.dev.rst.phase = (if s.dev.rst.phase = .fuseFailed ∧ src ≠ srcPowerOn then .fuseFailed else .held) ∧ t.dev.rst.cold = cold ∧
    t.dev.reg Reg.RST_CAUSE = BitVec.ofNat 32 (s.dev.causeWord src cold lc) ∧ Counts (C.RST_SRC_CNT src) 1 s t ∧
    (∀ a, keepsReg cold a = false → t.dev.reg a = regReset a) ∧
    (∀ a, keepsReg cold a = true → a ∉ [Reg.RST_CAUSE, Reg.RST_SRC_CNT src, Reg.RST_FUSE_RESTART_CNT, Reg.RST_CNT_SAT] →
      t.dev.reg a = s.dev.reg a) ∧
    (∀ p ∈ started, p.same State.reset.dev t.dev) ∧ t.dev.cmd = {} ∧ t.dev.store = s.dev.store ∧
    t.dev.rst.fuses = s.dev.rst.fuses ∧ t.dev.rst.lockRecord = s.dev.lockNow ∧ (s.dev.memc.lines = [] → KeepsMem s t)
  let warm := s.dev.memHalted || s.dev.flag F.GLB_CTL_COLD_NEXT || (s.dev.rst.phase == .held && s.dev.rst.cold)
  Gives .powerOnReset s (fun t => took t srcPowerOn true false ∧ t.dev.rst.fuseFails = 0) ∧
  (s.dev.holding srcResetN = false → Gives .resetNAssert s fun t => took t srcResetN true false ∧ t.dev.holding srcResetN = true) ∧
  (s.dev.holding srcPerst = false → Gives .perstAssert s fun t => took t srcPerst warm false ∧ t.dev.holding srcPerst = true) ∧
  (s.dev.host.linkUp = true → (∀ down : Bool, Gives (.hotReset down) s fun t => took t srcHot warm false) ∧
    Gives (.cxlLinkError .islandParity) s (fun t => took t srcHot warm false) ∧
    (∀ (rate : Fin 6) (width : Nat) (degraded : Bool), s.dev.cxlMode = true → carriesCxl rate width = false →
      Gives (.linkRetrain rate width degraded) s fun t => took t srcHot warm false)) ∧
  (s.dev.cores = true → Gives .watchdogExpiry s fun t => took t srcWatchdog warm false) ∧
  (s.dev.quenchLock = true → (bitAt s.dev.safe.active Cause.disagree || bitAt s.dev.safe.active Cause.clock) = true →
    Gives .safetyResetTimer s fun t => took t srcSafety true false) ∧
  (s.dev.rst.softDue = true → Gives .softwareResetTimer s fun t => took t srcSoftware warm false) ∧
  (s.dev.rst.lifeResetDue = true → Gives .lifecycleResetTimer s fun t => took t srcSoftware true true) ∧
  (∀ (spots : List (BitVec 16)) (i : Nat), spots.length = 20 → s.dev.holding srcThermal = false → i < 20 →
    bitAt (s.dev.fld F.THM_FAIL_HOT) i = false → 2080 ≤ (spots.getD i 0#16).toInt → 3 ≤ sget (fun _ => 0) i s.dev.hk.overTemp →
    Gives (.hotspotCompare spots) s fun t => took t srcThermal true false ∧ t.dev.holding srcThermal = true) ∧
  (∀ spots : List (BitVec 16), spots.length = 20 → s.dev.holding srcThermal = true → (∀ x ∈ spots, x.toInt < 1840) →
    Gives (.hotspotCompare spots) s fun t => t.dev.holding srcThermal = false ∧ Leaves [.rst] [] s t) ∧
  (∀ ms : Nat, ms < 2 ^ 32 → s.dev.holding srcResetN = true → Gives (.resetNRelease ms) s fun t => t.dev.holding srcResetN = false ∧
    t.dev.fld F.RST_HELD_LAST = ms ∧ t.dev.fld F.RST_HELD_MAX = max ms (s.dev.fld F.RST_HELD_MAX) ∧
    Leaves [.rst] [Reg.RST_HELD_LAST, Reg.RST_HELD_MAX] s t) ∧
  Gives .perstRelease s (fun t => t.dev.holding srcPerst = false ∧ Leaves [.rst] [] s t) ∧
  (∀ flushed : List Nat, flushed.length = 6 → s.dev.rst.phase = .held → s.dev.rst.asserted = 0 →
    Gives (.resetRelease flushed) s fun t => t.dev.rst = { s.dev.rst with phase := .fuseLoad } ∧
      (∀ x ∈ List.zip [C.TIME_XDROP_CNT, C.CMDQ_XDROP_CNT, C.MEM_XDROP_CNT, C.PEER_XDROP_CNT, C.SAFE_XDROP_CNT, C.RST_XDROP_CNT] flushed,
        Counts x.1 x.2 s t)) ∧
  (s.dev.rst.phase = .held → bitAt (s.dev.fld F.RST_CAUSE_SRC) srcPowerOn = true → Gives .vbakLoss s fun t =>
    t.dev.reg Reg.RST_CAUSE = 0x1801#32 ∧ t.dev.reg (Reg.RST_SRC_CNT srcPowerOn) = 1#32 ∧ t.dev.rst.bakLost = true ∧
    t.dev.rst.lockRecord = none ∧
    (∀ a r, regRow? a = some r → r.keep = .backup → a ≠ Reg.RST_CAUSE → a ≠ Reg.RST_SRC_CNT srcPowerOn → t.dev.reg a = regReset a) ∧
    Keeps [.rst] s t ∧ KeepsMem s t)

/-- The reset sequence: the fuse load and its failure, the lock of the PLL and its loss, the choice of an image, and the restore
that starts the safety island and ends in RESTORED (R36, R496, R582, R584, R587 to R589, R604). The model's readings are log entries 28, 137, 138, 158. -/
def Obligations.BootRunsToRestored : Prop := ∀ s : State,
  (s.dev.rst.phase = .fuseLoad →
    Gives (.fuseLoadDone true) s (fun t => t.dev.rst = { s.dev.rst with shadow := s.dev.rst.fuses, fuseFails := 0, pinsLoaded := true, phase := .domains } ∧
      t.dev.pwr.switchQ = resetDomains ∧ t.dev.flag F.RST_STAT_FUSE_FAIL = false ∧
      t.dev.fld F.RST_STAT_FUSE_RETRY = min 7 s.dev.rst.fuseFails ∧ Leaves [.rst, .pwr] [Reg.RST_STAT, Reg.PWR_STAT] s t) ∧
    Gives (.fuseLoadDone false) s (fun t => Counts C.RST_FUSE_RESTART_CNT 1 s t ∧
      t.dev.rst = { s.dev.rst with
        fuseFails := s.dev.rst.fuseFails + 1
        phase := if 7 ≤ s.dev.rst.fuseFails then .fuseFailed else .fuseLoad } ∧
      (7 ≤ s.dev.rst.fuseFails → t.dev.flag F.RST_STAT_FUSE_FAIL = true) ∧
      Leaves [.rst] [Reg.RST_STAT, Reg.RST_FUSE_RESTART_CNT, C.RST_FUSE_RESTART_CNT.sat] s t)) ∧
  (s.dev.locked = false → (s.dev.rst.phase = .pll → Gives .pllLock s fun t => t.dev.locked = true ∧ t.dev.rst.phase = .running ∧
      t.dev.time.slotLen = 8000 ∧ t.dev.time.slotClk = 0 ∧ t.dev.slotNo = s.dev.slotNo ∧
      Leaves [.time, .shot, .rst, .safe] [Reg.TIME_STAT, Reg.TIME_STEP_CNT, C.TIME_STEP_CNT.sat] s t) ∧
    (s.dev.rst.phase = .running → Gives .pllLock s fun t => t.dev.locked = true ∧ t.dev.slotNo = (s.dev.slotNo + 1) % 2 ^ 64 ∧
      t.dev.time.slotClk = 0 ∧
      Leaves [.time, .shot, .safe, .wide] [Reg.TIME_STAT, Reg.TIME_STEP_CNT, C.TIME_STEP_CNT.sat] s t)) ∧
  (s.dev.locked = true → Gives .pllUnlock s fun t => t.dev.locked = false ∧ t.dev.flag F.TIME_STAT_VALID = false ∧
    Counts C.TIME_UNLOCK_CNT 1 s t ∧ bitAt t.dev.safe.detected Cause.internal = true ∧ bitAt t.dev.safe.active Cause.internal = true ∧
    t.dev.shot = none ∧ t.dev.now = s.dev.now ∧ (s.dev.atRest = false → t.dev.scan.arm = false ∧
      t.dev.scanState = if s.dev.scanState = stStopping then stStopped else stFault)) ∧
  (s.dev.rst.phase = .running → s.dev.flag F.CMDQ_STAT_READY = false →
    (let p := s.dev.rst.preferred
     s.dev.store.absent = false → bitAt s.dev.rst.shadow.revoked (headerKey (s.dev.header p)) = false →
     s.dev.rst.shadow.floor ≤ headerVer (s.dev.header p) / 65536 →
     Gives (.firmwareVerified 1 1) s fun t => t.dev.flag F.CMDQ_STAT_READY = true ∧ t.dev.rst.running = p ∧
       t.dev.rst.fellBack = false ∧ t.dev.reg Reg.SEC_FW_VER = BitVec.ofNat 32 (headerVer (s.dev.header p)) ∧
       t.dev.reg Reg.SEC_BOOT_STAT = (if p = 0 then 1#32 else 16#32) ∧
       Leaves [.rst, .host] [Reg.SEC_BOOT_STAT, Reg.SEC_FW_VER] s t) ∧
    Gives (.firmwareVerified 0 0) s (fun t => t.dev.flag F.CMDQ_STAT_READY = false ∧ t.dev.rst.phase = .noImage ∧
      Counts C.RST_BOOT_FAIL_CNT 1 s t ∧ Leaves [.rst] [Reg.SEC_BOOT_STAT, Reg.RST_BOOT_FAIL_CNT, C.RST_BOOT_FAIL_CNT.sat] s t)) ∧
  (∀ (absent : Bool) (crcErrors : Nat) (older lost : List (Nat × Nat × Nat)), s.dev.rst.phase = .running →
    s.dev.flag F.CMDQ_STAT_READY = true → s.dev.flag F.GLB_STAT_RESTORED = false →
    (s.dev.flag F.MEM_STAT_ACTIVE || s.dev.memHalted) = true →
    Gives (.restore absent crcErrors older lost) s fun t => t.dev.flag F.GLB_STAT_RESTORED = true ∧ t.dev.safe.running = true ∧
      t.dev.store.absent = absent ∧ t.dev.rst.lockRecord = none ∧ t.dev.rst.life = none ∧ t.dev.rst.bakLost = false ∧
      Pending t Ev.reset ∧ (absent = true → t.dev.flag F.GLB_CFG_STAT_ABSENT = true ∧ Pending t Ev.storeAbsent))

/-! ## Queue pairs and registers (chapters 15, 21 and 22) -/

/-- A queue pair: it is enabled and disabled; doorbells cover entries and release replies, or are reported; entries are fetched
in order; a missed deadline is counted; the declaration of failure ends what it may and discards replies (R435, R437, R438,
R444, R453, R455). The model's readings are log entries 31, 36, 38. -/
def Obligations.QueuePairsRun : Prop := ∀ (s : State) (q : Fin 16), let p := s.dev.pair q.val
  (s.dev.barOpen = true →
    (∀ v : Word, s.dev.flag (F.CMDQ_Q_CTL_EN q.val) = false → field v 1 1 = 0 →
      (s.dev.flag F.CMDQ_STAT_READY = true → Gives (.queueEnable q v) s fun t => t.dev.flag (F.CMDQ_Q_CTL_EN q.val) = true ∧
        t.dev.flag (F.CMDQ_Q_STAT_RUN q.val) = true ∧ t.dev.flag (F.CMDQ_Q_STAT_HALTED q.val) = false ∧
        t.dev.flag (F.CMDQ_Q_STAT_CFG_ERR q.val) = false ∧ t.dev.pair q.val = { p with
          sqTail := 0, sqHead := 0, cqTail := 0, cqHead := 0, rung := [], replies := [], silent := false } ∧
        Leaves [] [Reg.GLB_BAD_VALUE_CNT, C.GLB_BAD_VALUE_CNT.sat] s t) ∧
      (s.dev.flag F.CMDQ_STAT_READY = false → Gives (.queueEnable q v) s fun t => t.dev.flag (F.CMDQ_Q_CTL_EN q.val) = false ∧
        t.dev.flag (F.CMDQ_Q_STAT_CFG_ERR q.val) = true ∧ Leaves [] [Reg.GLB_BAD_VALUE_CNT, C.GLB_BAD_VALUE_CNT.sat] s t)) ∧
    (∀ v : Word, s.dev.flag (F.CMDQ_Q_CTL_EN q.val) = true → Gives (.queueDisable q v) s fun t =>
      t.dev.flag (F.CMDQ_Q_CTL_EN q.val) = false ∧ t.dev.pair q.val = { p with rung := [] } ∧ Leaves [] [] s t) ∧
    (s.dev.flag F.CMDQ_STAT_DECLARED = false →
      (∀ (tail : Word) (covered : List Packet), let n := serialAhead p.sqTail tail.toNat
        let good := n < 2 ^ 31 ∧ serialAhead p.sqHead tail.toNat ≤ s.dev.sqDepth q.val
        let got := s.dev.coveredBy q.val n covered
        (good → s.dev.pairOpen q.val = true → (∀ x ∈ got, ∀ last, fastBody x s.dev.capture last = none) →
          Gives (.sqDoorbell q tail covered) s fun t => t.dev.pair q.val = { p with
            sqTail := tail.toNat
            rung := p.rung ++ got.map fun x => ⟨x, s.dev.time.ticks, s.dev.cmd.bells, false, s.dev.capture, false⟩ } ∧
          t.dev.cmd.bells = s.dev.cmd.bells + 1 ∧
          Leaves [.free] [] s t) ∧
        (¬good → Gives (.sqDoorbell q tail covered) s fun t => t.dev.pair q.val = p ∧ Counts C.CMDQ_DB_ERR_CNT 1 s t ∧
          t.dev.bit (Reg.CMDQ_Q_EVT q.val) 0 = true ∧ Leaves [] [] s t)) ∧
      (∀ head : Word, let n := serialAhead p.cqHead head.toNat
        (n ≤ serialAhead p.cqHead p.cqTail → Gives (.cqHeadWrite q head) s fun t =>
          t.dev.pair q.val = { p with cqHead := head.toNat, replies := p.replies.drop n } ∧ Leaves [] [] s t) ∧
        (serialAhead p.cqHead p.cqTail < n → Gives (.cqHeadWrite q head) s fun t => t.dev.pair q.val = p ∧
          t.dev.bit (Reg.CMDQ_Q_EVT q.val) 1 = true ∧ Leaves [] [] s t))) ∧
    Gives (.cmdqDeclare 0x4641494C#32) s (fun t => t.dev.flag F.CMDQ_STAT_DECLARED = true ∧ Counts C.CMDQ_DECL_CNT 1 s t ∧
      Pending t Ev.hostDeclared ∧ t.dev.blw.stopReq = true ∧
      ∀ r ∈ t.dev.cmd.running, r.mute = true ∧ r.abortable = false) ∧
    (∀ v : Word, v ≠ 0x4641494C#32 → Gives (.cmdqDeclare v) s fun t => Leaves [] [] s t)) ∧
  (∀ (w : Waiting) (rest : List Waiting), p.rung = w :: rest → w.late = false → s.dev.pairOpen q.val = true → 2 ≤ s.dev.cqFree q.val →
    fastBody w.pkt w.cap w.last = none → p.fetched = [] →
    ((opForm? w.pkt.opcode.toNat).isSome = true → Gives (.commandFetch q false) s fun t => t.dev.pair q.val = { p with
        rung := rest
        sqHead := (p.sqHead + 1) % 2 ^ 32
        reserved := p.reserved + 2
        nFetched := p.nFetched + 1
        fetched := [w] } ∧ Leaves [] [] s t) ∧
    ((opForm? w.pkt.opcode.toNat).isNone = true → s.dev.fenced q.val w.pkt = false → p.silent = false →
      Gives (.commandFetch q false) s fun t => (t.dev.pair q.val).rung = rest ∧ (t.dev.pair q.val).fetched = [] ∧
        (t.dev.pair q.val).replies = p.replies ++ [⟨0x0101, w.pkt.opcode.toNat, w.pkt.tag.toNat, []⟩] ∧ Leaves [] [] s t)) ∧
  (∀ (w : Waiting) (rest : List Waiting), p.fetched = w :: rest → w.late = false → s.dev.pairLive q.val = true →
    bitAt w.pkt.flags.toNat 0 = false → Gives (.ackDeadlineMiss q) s fun t =>
      t.dev.pair q.val = { p with fetched := { w with late := true } :: rest, nMiss := p.nMiss + 1 } ∧
      Counts C.CMDQ_ACK_MISS_CNT 1 s t ∧ t.dev.bit (Reg.CMDQ_Q_EVT q.val) 2 = true ∧ Leaves [] [] s t)

/-- Registers: W1C clears what is written 1, a SAT bit with its counter; a read of a LO half takes the snapshot for HI, a read
of RC fields clears them; a plain register takes a write within the ranges of its fields, a pair when HI is written; an access
of another size is counted; the event ring, the aperture and the peer link follow their registers (R11, R413, R423, R609, R611,
R614, R620, R622 to R624). The model's readings are log entries 42, 44, 46. -/
def Obligations.RegistersFollowTheirAccess : Prop := ∀ s : State, s.dev.barOpen = true →
  let bad := [Reg.GLB_BAD_VALUE_CNT, C.GLB_BAD_VALUE_CNT.sat]
  (∀ (word : Fin 20) (v : Word), Gives (.evtPendClear word v) s fun t =>
    t.dev.reg (Reg.EVT_PEND word.val) = s.dev.reg (Reg.EVT_PEND word.val) &&& ~~~v ∧ Leaves [] [] s t) ∧
  (∀ (a : Nat) (cs : List Cnt) (v : Word), satCounters a = some cs → Gives (.satBitClear a v) s fun t =>
    (∀ c ∈ cs, bitAt v.toNat c.bit = true → s.dev.bit c.sat c.bit = true → t.dev.cnt c = 0 ∧ t.dev.bit c.sat c.bit = false) ∧
    (∀ c ∈ cs, (bitAt v.toNat c.bit = false ∨ s.dev.bit c.sat c.bit = false) →
      t.dev.cnt c = s.dev.cnt c ∧ t.dev.bit c.sat c.bit = s.dev.bit c.sat c.bit) ∧
    Leaves [.wide] (a :: cs.map (·.addr)) s t) ∧
  (∀ (a : Nat) (r : RegRow) (v : Word), regRow? a = some r → stickyReg a r = true → Gives (.stickyBitClear a v) s fun t =>
    t.dev.reg a = s.dev.reg a &&& ~~~(v &&& w1cMask r.fields) ∧ Leaves [] [a] s t) ∧
  (∀ (a : Nat) (r : RegRow), regRow? a = some r →
    (r.half = .lo → Gives (.pairLoRead a) s fun t => t.dev.host.regRead = BitVec.ofNat 32 (s.dev.view64 a) ∧
      t.dev.reg (a + 4) = BitVec.ofNat 32 (s.dev.view64 a / 2 ^ 32) ∧ Leaves [.host] [a + 4] s t) ∧
    (r.fields.any (·.acc == .rc) = true → Gives (.rcFieldRead a) s fun t => t.dev.host.regRead = s.dev.view a ∧
      (∀ sl ch, sl < 64 → ch < 8 → a = Reg.SLICE_EM_CH sl ch → (t.dev.chan (8 * sl + ch)).hwm = 0) ∧
      ((∀ sl ch, sl < 64 → ch < 8 → a ≠ Reg.SLICE_EM_CH sl ch) → ∀ f ∈ r.fields, f.acc = .rc → field (t.dev.reg a) f.lo f.width = 0) ∧
      Leaves [.host, .chans] [a] s t)) ∧
  (∀ (a size : Nat) (v : Wide),
    (a < 0x200000 → ¬((size = 4 ∨ size = 8) ∧ a % size = 0) → Gives (.registerWrite (.bar0 a) size v) s fun t =>
      Counts C.GLB_BAD_ACCESS_CNT 1 s t ∧ Leaves [] [Reg.GLB_BAD_ACCESS_CNT, C.GLB_BAD_ACCESS_CNT.sat] s t) ∧
    (a % 4 = 0 → satCounters a = none → regRow? a = none → Gives (.registerWrite (.bar0 a) 4 v) s fun t => Leaves [] [] s t) ∧
    (∀ r, regRow? a = some r → a ∈ [Reg.GLB_CTL, Reg.GLB_SCRATCH, Reg.KILN_CTL, Reg.KILN_BUR_CTL, Reg.TURF_CTL, Reg.SCN_CTL,
        Reg.MEM_CTL, Reg.TAP_CTL, Reg.ING_HIST_ROWS, Reg.ING_HIST_COLS, Reg.ING_HIST_CFG] →
      let m := mergeFields r.fields (s.dev.reg a) (BitVec.ofNat 32 v.toNat)
      Gives (.registerWrite (.bar0 a) 4 v) s fun t => t.dev.reg a = m.1 ∧ Counts C.GLB_BAD_VALUE_CNT m.2 s t ∧ Leaves [] (a :: bad) s t) ∧
    (a ∈ [Reg.ING_S_BASE_LO 0, Reg.ING_S_BASE_LO 1, Reg.ING_S_BASE_LO 2] → s.dev.ringLocked a = false →
      s.dev.ringLocked (a + 4) = false → Gives (.registerWrite (.bar0 a) 8 v) s fun t =>
        t.dev.wide64 a = v.toNat ∧ Leaves [.wide] [a] s t)) ∧
  (∀ v : Word, let b := s.dev.wide64 Reg.EVT_RING_BASE_LO
    s.dev.flag F.EVT_CTL_RING_EN = false →
    (b % 4096 = 0 → b + 32 * s.dev.evtDepth ≤ devMemSize → Gives (.evtRingEnable v) s fun t =>
      t.dev.flag F.EVT_CTL_RING_EN = true ∧ t.dev.fld F.EVT_CTL_HOLDOFF_US = min 1000 (field v 16 10) ∧
      t.dev.reg Reg.EVT_STAT = 1#32 ∧ t.dev.reg Reg.EVT_RING_WR = 0#32 ∧ t.dev.reg Reg.EVT_RING_RD = 0#32 ∧
      Leaves [] [Reg.EVT_CTL, Reg.EVT_RING_RD] s t) ∧
    (b % 4096 ≠ 0 → Gives (.evtRingEnable v) s fun t => t.dev.flag F.EVT_CTL_RING_EN = false ∧
      t.dev.flag F.EVT_STAT_CFG_ERR = true ∧ Leaves [] [Reg.EVT_CTL] s t)) ∧
  (∀ v : Word, (serialAhead (s.dev.reg Reg.EVT_RING_RD).toNat v.toNat ≤ s.dev.evtUsed → Gives (.evtRingRdWrite v) s fun t =>
      t.dev.reg Reg.EVT_RING_RD = v ∧ Leaves [] [Reg.EVT_RING_RD] s t) ∧
    (s.dev.evtUsed < serialAhead (s.dev.reg Reg.EVT_RING_RD).toNat v.toNat → Gives (.evtRingRdWrite v) s fun t =>
      t.dev.flag F.EVT_STAT_RD_ERR = true ∧ Leaves [] [] s t) ∧
    (2 ^ 28 * (field v 0 8 + 1) ≤ devMemSize → Gives (.apertureWrite v) s fun t =>
      t.dev.reg Reg.GLB_APERTURE = BitVec.ofNat 32 (field v 0 8) ∧ t.dev.flag F.GLB_HOST_APERTURE_ERR = false ∧
      Leaves [] [Reg.GLB_APERTURE, Reg.GLB_HOST] s t) ∧
    (devMemSize < 2 ^ 28 * (field v 0 8 + 1) → Gives (.apertureWrite v) s fun t =>
      t.dev.flag F.GLB_HOST_APERTURE_ERR = true ∧ Leaves [] [Reg.GLB_HOST] s t) ∧
    Gives (.peerEnable v) s fun t => t.dev.flag F.PEER_CTL_EN = bitAt v.toNat 0 ∧
      (s.dev.flag F.PEER_CTL_EN = true → bitAt v.toNat 0 = false → ∀ l, l < 4 → t.dev.laneState l = 0) ∧
      Keeps [.pwr, .chans, .bur, .kiln, .taps, .turf, .peer, .cfg, .out, .wide] s t ∧ KeepsMem s t)

/-! ## The host link and device memory (chapter 14) -/

/-- The link comes up in the mode that it can carry, and retrains; a function-level reset discards the queues; D3hot, the
enables, messages and the errors of the link (R405 to R407, R424 to R426, R428 to R431, R558, R611). The model's readings are log
entries 125, 127. -/
def Obligations.HostLinkFollows : Prop := ∀ s : State,
  (∀ (cxl : Bool) (rate : Fin 6) (width : Nat) (degraded : Bool), s.dev.islandUp = true → s.dev.host.linkUp = false →
    Gives (.linkUp cxl rate width degraded) s fun t => t.dev.host.linkUp = true ∧ t.dev.host.modeFixed = true ∧
      (s.dev.host.modeFixed = false → t.dev.flag F.GLB_HOST_MODE = !(cxl && decide (2 ≤ rate.val ∧ 4 ≤ width))) ∧
      t.dev.fld F.GLB_HOST_RATE = rate.val ∧ t.dev.fld F.GLB_HOST_WIDTH = width % 2 ^ 5 ∧
      (degraded = true → Pending t Ev.degraded) ∧
      (∀ q, q < 4 → t.dev.domOn (134 + q) = (s.dev.domOn (134 + q) && decide (4 * q < width))) ∧
      Leaves [.host] [Reg.GLB_HOST, Reg.PWR_DOM_ON 4] s t) ∧
  (∀ (rate : Fin 6) (width : Nat) (degraded : Bool), s.dev.host.linkUp = true → (s.dev.cxlMode = true → carriesCxl rate width = true) →
    s.dev.fld F.GLB_HOST_RATE ≠ rate.val → Gives (.linkRetrain rate width degraded) s fun t => t.dev.fld F.GLB_HOST_RATE = rate.val ∧
      t.dev.fld F.GLB_HOST_WIDTH = width % 2 ^ 5 ∧ Pending t Ev.linkChg ∧ Leaves [.host] [Reg.GLB_HOST] s t) ∧
  (s.dev.answersConfig = true →
    Gives .flr s (fun t => t.dev.cmd.pairs = [] ∧ t.dev.cmd.qmem = [] ∧ (∀ r ∈ t.dev.cmd.running, r.mute = true) ∧
      (∀ a, queueReg a = true → t.dev.reg a = regReset a) ∧ t.dev.flag F.CMDQ_STAT_DECLARED = false ∧ t.dev.host.d3hot = false ∧
      t.dev.host.busMaster = false ∧ t.dev.host.msixEnable = false ∧ t.dev.host.msix = [] ∧ t.dev.host.pba = 0#64 ∧
      Leaves [.host, .wide] [] s t) ∧
    Gives .d3hotEntry s (fun t => t.dev.host.d3hot = true ∧ Leaves [.host] [] s t) ∧
    (s.dev.host.d3hot = true → Gives .d0Return s fun t => t.dev.host.d3hot = false ∧ Leaves [.host] [] s t) ∧
    Gives (.enableBitCleared true) s (fun t => t.dev.host.busMaster = false ∧ (s.dev.flag F.GLB_HOST_MODE = true → ∀ q, q < 16 →
      s.dev.inHost q = true → s.dev.flag (F.CMDQ_Q_STAT_RUN q) = true → t.dev.flag (F.CMDQ_Q_STAT_HALTED q) = true) ∧
      Leaves [.host] [] s t) ∧
    Gives (.enableBitCleared false) s (fun t => t.dev.host.cacheEnable = false ∧ Leaves [.host] [] s t) ∧
    (∀ v : Fin 64, s.dev.host.d3hot = false → Gives (.msixUnmask (.vector v)) s fun t => (t.dev.msix v.val).masked = false ∧
      (s.dev.host.msixEnable = true → s.dev.host.busMaster = true → s.dev.host.msixMask = false →
        s.dev.evt.hold.getLsbD v.val = false → t.dev.host.pba.getLsbD v.val = false) ∧ Leaves [.host] [] s t) ∧
    Gives (.msixUnmask .function) s (fun t => t.dev.host.msixMask = false ∧ Leaves [.host] [] s t) ∧
    Gives (.msixUnmask .msixEnable) s (fun t => t.dev.host.msixEnable = true ∧ Leaves [.host] [] s t) ∧
    Gives (.msixUnmask .busMaster) s (fun t => t.dev.host.busMaster = true ∧ Leaves [.host] [] s t)) ∧
  (∀ v : Fin 64, s.dev.evt.hold.getLsbD v.val = true →
    (s.dev.evt.due.getLsbD v.val = false → Gives (.msixHoldoffExpiry v) s fun t => t.dev.evt.hold.getLsbD v.val = false ∧
      t.dev.host.writes = [] ∧ Leaves [] [] s t) ∧
    (s.dev.evt.due.getLsbD v.val = true → s.dev.msiOpen v.val = true → Gives (.msixHoldoffExpiry v) s fun t =>
      t.dev.evt.due.getLsbD v.val = false ∧
      t.dev.host.writes = [⟨(s.dev.msix v.val).addr.toNat, leBytes 4 (s.dev.msix v.val).data.toNat⟩] ∧ Leaves [] [] s t)) ∧
  (s.dev.host.linkUp = true →
    Gives (.cxlLinkError .receiver) s (fun t => t.dev.host.aerCorrectable = true ∧ Pending t Ev.rasCe ∧ Leaves [.host] [] s t) ∧
    Gives (.cxlLinkError .linkCrc) s (fun t => t.dev.host.rasCorrectable = true ∧ Pending t Ev.rasCe ∧ Leaves [.host] [] s t) ∧
    Gives (.cxlLinkError .outsideDecoder) s (fun t => t.dev.host.rasAddress = true ∧ Pending t Ev.rasUe ∧ Leaves [.host] [] s t) ∧
    (∀ q : Fin 16, s.dev.inHost q.val = true → s.dev.flag (F.CMDQ_Q_STAT_RUN q.val) = true → s.dev.cxlMode = true →
      Gives (.cxlLinkError (.cachePoison q)) s fun t => t.dev.flag (F.CMDQ_Q_STAT_HALTED q.val) = true ∧
        (t.dev.pair q.val).rung = (s.dev.pair q.val).rung.tail ∧ t.dev.host.rasCache = true ∧ Pending t Ev.rasUe ∧
        Leaves [.host] [] s t))

/-- Host access to device memory: a decoder is committed or refused; CXL.mem reads and writes one line inside it, with an error
outside it; the aperture of PCIe-only mode reads and writes (R416, R417, R419, R423, R431, R432). The model's readings are log
entries 5, 125, 134. -/
def Obligations.HostReachesDeviceMemory : Prop := ∀ s : State,
  let clean := s.dev.memc.faults = [] ∧ s.dev.memHalted = false
  (∀ (base size ways : Nat) (bi lock : Bool), s.dev.barOpen = true → s.dev.answersConfig = true → s.dev.cxlMode = true →
    (s.dev.host.committed && s.dev.host.locked) = false →
    (size = devMemSize → ways = 1 → bi = true → s.dev.host.biEnable = true → s.dev.flag F.MEM_STAT_ACTIVE = true →
      Gives (.hdmCommit base size ways bi lock) s fun t => t.dev.host.committed = true ∧ t.dev.host.notCommitted = false ∧
        t.dev.host.locked = lock ∧ t.dev.host.hdmBase = base - base % 2 ^ 28 ∧ t.dev.host.hdmSize = size ∧ Leaves [.host] [] s t) ∧
    ((size ≠ devMemSize ∨ ways ≠ 1 ∨ bi = false ∨ s.dev.host.biEnable = false ∨ s.dev.flag F.MEM_STAT_ACTIVE = false) →
      Gives (.hdmCommit base size ways bi lock) s fun t => t.dev.host.committed = false ∧ t.dev.host.notCommitted = true ∧
        Leaves [.host] [] s t)) ∧
  (∀ hpa : Nat, s.dev.cxlMem = true → let inside := s.dev.host.hdmBase ≤ hpa ∧ hpa < s.dev.host.hdmBase + s.dev.host.hdmSize
    let a := hpa - s.dev.host.hdmBase
    let line := a - a % 64
    (s.dev.host.committed = true → inside →
      (clean → Gives (.cxlMemRead hpa []) s fun t => t.dev.host.lastRead = some ⟨memRead s.mem line 64, false⟩ ∧ Leaves [.host] [] s t) ∧
      (s.dev.haltedAt line = true → Gives (.cxlMemRead hpa []) s fun t =>
        (∃ bs, t.dev.host.lastRead = some ⟨bs, true⟩) ∧ t.dev.host.rasPoison = true ∧ Pending t Ev.poison) ∧
      (∀ (data : BitVec 512) (en : BitVec 64), s.dev.memHalted = false → Gives (.cxlMemWrite hpa data en) s fun t =>
        (∀ b, ¬InRing s.dev b → memByte t.mem b = if line ≤ b ∧ b < line + 64 ∧ en.getLsbD (b - line) = true
          then (leBytes 64 data.toNat).getD (b - line) 0#8 else memByte s.mem b) ∧ Keeps [] s t ∧ KeepsRegs [] s t)) ∧
    ((s.dev.host.committed = false ∨ ¬inside) → ∀ (data : BitVec 512) (en : BitVec 64),
      Gives (.cxlMemRead hpa []) s (fun t => t.dev.host.rasAddress = true ∧ Pending t Ev.rasUe ∧ Leaves [.host] [] s t) ∧
      Gives (.cxlMemWrite hpa data en) s fun t => t.dev.host.rasAddress = true ∧ Pending t Ev.rasUe ∧ Leaves [.host] [] s t)) ∧
  (∀ offset length : Nat, s.dev.barOpen = true → s.dev.apertureOpen = true → offset + length ≤ 2 ^ 28 →
    let a := 2 ^ 28 * (s.dev.reg Reg.GLB_APERTURE).toNat + offset
    (clean → Gives (.apertureAccess offset length none []) s fun t =>
      t.dev.host.lastRead = some ⟨memRead s.mem a length, false⟩ ∧ Leaves [.host] [] s t) ∧
    (∀ bs : List Byte, bs.length = length → s.dev.memHalted = false → Gives (.apertureAccess offset length (some bs) []) s fun t =>
      Writes a bs s t ∧ Keeps [] s t ∧ KeepsRegs [] s t))

/-! ## Refusals (R441, R446, R447, R453, R652) -/

/-- The checks common to all commands come before a command's own, in this order: packet form, readiness and lifecycle, limits.
A command that fails one is refused with its code, and nothing else changes. The model's readings are log entries 34, 35. -/
def Obligations.CommonRefusalsComeInOrder : Prop := ∀ (s : State) (c : Cmd), ∀ x ∈ commandsOf c, Reaches s.dev c x.2 →
  let p := c.packet x.2
  (formError p ≠ 0 → Refuses x.1 c x.2 s (formError p)) ∧
  (formError p = 0 → s.dev.stageError p ≠ 0 → Refuses x.1 c x.2 s (s.dev.stageError p)) ∧
  (formError p = 0 → s.dev.stageError p = 0 → s.dev.limitError c.pair.val p.opcode.toNat ≠ 0 →
    Refuses x.1 c x.2 s (s.dev.limitError c.pair.val p.opcode.toNat))

/-! ## The step -/

/-- A step runs the command at the front of the queue with the queue's rest; on an empty queue one period of the timing clock
passes while the PLL is locked, which is the model's choice (log entry 9). -/
def Obligations.StepRunsTheFront : Prop := ∀ s : State,
  (∀ (c : Instr) (rest : List Instr), s.pending = c :: rest → step s = exec c { s with pending := rest }) ∧
  (s.pending = [] → ∃ t, step s = .next t ∧ t.pending = [] ∧
    t.dev.time.ticks = s.dev.time.ticks + b2n s.dev.locked ∧ Leaves [.time] [] s t)

/-- A well-formed command answers a next state and leaves the queue alone; the seven whose operands cannot be laid out are
faults, which is the model's choice (log entry 4). The model's readings are log entries 30, 31. -/
def Obligations.WellFormedCommandsComplete : Prop := ∀ s : State,
  (∀ i : Instr, i.wf = true → Gives i s fun t => t.pending = s.pending) ∧
  (∀ l : List Nat, l.length ≠ 6 → exec (.resetRelease l) s = .fault .illFormed) ∧
  (∀ l m : List (BitVec 16 × Nat), ¬(l.length = 12 ∧ m.length = 2) → exec (.hkRound l m) s = .fault .illFormed) ∧
  (∀ l : List (BitVec 16 × Nat), l.length ≠ 20 → exec (.fastRound l) s = .fault .illFormed) ∧
  (∀ l : List (BitVec 16), l.length ≠ 20 → exec (.hotspotCompare l) s = .fault .illFormed) ∧
  (∀ l : List (Option (BitVec 16)), l.length ≠ 16 → exec (.governorTick l) s = .fault .illFormed) ∧
  (∀ (o n : Nat) (b : List Byte) (u : List (Nat × Nat)), b.length ≠ n → exec (.apertureAccess o n (some b) u) s = .fault .illFormed) ∧
  (∀ (lane : Fin 4) (m v : Bool) (l : List Byte), l.length ≠ 64 → exec (.peerBlockReceived lane m v l) s = .fault .illFormed)

/-- The invariant: device memory in its canonical form, no write and no raising of a step left over. Every step keeps it, and
the queue shrinks by the command at its front. -/
def Obligations.EveryStepKeepsTheInvariant : Prop := ∀ s t : State, Inv s → step s = .next t → Inv t ∧ t.pending = s.pending.tail

/-- Reset (R45, R289, R348, R381, R396, R477, R496, R557, R577, R581): scanning is STOPPED, no domain but the always-on one is
on, no queue pair runs, memory lists nothing, every register has the value of its table but the record of the reset, and the
invariant holds. The model's readings are log entries 26, 27. -/
def Obligations.ResetLeavesTheTablesValues : Prop :=
  Inv State.reset ∧ State.reset.pending = [] ∧ State.reset.mem = [] ∧ State.reset.dev.scanState = stStopped ∧
  (∀ n, n < 146 → State.reset.dev.domOn n = false) ∧ State.reset.dev.cmd = {} ∧ State.reset.dev.cfg.live = [] ∧
  State.reset.dev.locked = false ∧ State.reset.dev.quenchLock = false ∧ State.reset.dev.commissioned = false ∧
  (∀ i, i < 4 → State.reset.dev.switch i = {}) ∧
  (∀ a r, regRow? a = some r → a ≠ Reg.RST_CAUSE → a ≠ Reg.RST_SRC_CNT 0 → State.reset.dev.reg a = regReset a) ∧
  State.reset.dev.fld F.RST_CAUSE_SRC = 1 ∧ State.reset.dev.fld F.RST_CAUSE_PRIMARY = 0 ∧
  State.reset.dev.flag F.RST_CAUSE_COLD = true ∧ State.reset.dev.flag F.RST_CAUSE_BAK_LOST = true
end

