-- ==== Sys2Proof/Laws/Bits.lean ====
section
/-! SUPPORT. Laws of bit fields: what a field reads after a field of the same word is replaced. -/

namespace Sys2Proof.Machine

theorem field_lt (x : Word) (lo w : Nat) : field x lo w < 2 ^ w := Nat.mod_lt _ (Nat.two_pow_pos w)

/-- A word as the part above a field, the field and the part below it. -/
theorem word_split (x lo w : Nat) : x = x / 2 ^ (lo + w) * 2 ^ (lo + w) + x / 2 ^ lo % 2 ^ w * 2 ^ lo + x % 2 ^ lo := by
  have h1 := Nat.div_add_mod x (2 ^ lo)
  have h2 := Nat.div_add_mod (x / 2 ^ lo) (2 ^ w)
  have h3 : x / 2 ^ lo / 2 ^ w = x / 2 ^ (lo + w) := by rw [Nat.div_div_eq_div_mul, ← pow_add]
  rw [h3] at h2
  have h4 : 2 ^ lo * (2 ^ w * (x / 2 ^ (lo + w)) + x / 2 ^ lo % 2 ^ w) + x % 2 ^ lo = x := by rw [h2]; exact h1
  calc x = 2 ^ lo * (2 ^ w * (x / 2 ^ (lo + w)) + x / 2 ^ lo % 2 ^ w) + x % 2 ^ lo := h4.symm
    _ = _ := by rw [pow_add]; ring

theorem withField_toNat (x : Word) (lo w v : Nat) (h : lo + w ≤ 32) :
    (withField x lo w v).toNat = x.toNat / 2 ^ (lo + w) * 2 ^ (lo + w) + v % 2 ^ w * 2 ^ lo + x.toNat % 2 ^ lo := by
  have hs := word_split x.toNat lo w
  have hx : x.toNat < 2 ^ 32 := x.isLt
  have hv : v % 2 ^ w < 2 ^ w := Nat.mod_lt _ (Nat.two_pow_pos w)
  have ho : x.toNat / 2 ^ lo % 2 ^ w < 2 ^ w := Nat.mod_lt _ (Nat.two_pow_pos w)
  have hl : x.toNat % 2 ^ lo < 2 ^ lo := Nat.mod_lt _ (Nat.two_pow_pos lo)
  have hp : (2 : Nat) ^ (lo + w) = 2 ^ w * 2 ^ lo := by rw [pow_add, Nat.mul_comm]
  unfold withField
  simp only [BitVec.toNat_ofNat]
  generalize hA : x.toNat / 2 ^ (lo + w) = A at *
  generalize hB : x.toNat / 2 ^ lo % 2 ^ w = B at *
  generalize hC : x.toNat % 2 ^ lo = C at *
  have e : 2 ^ lo * (v % 2 ^ w) + (x.toNat - 2 ^ lo * B) = A * 2 ^ (lo + w) + v % 2 ^ w * 2 ^ lo + C := by
    rw [Nat.mul_comm (2 ^ lo) B, Nat.mul_comm (2 ^ lo)]; omega
  rw [e]
  refine Nat.mod_eq_of_lt ?_
  have h32 : (2 : Nat) ^ 32 = 2 ^ (32 - (lo + w)) * 2 ^ (lo + w) := by rw [← pow_add]; congr 1; omega
  have hA2 : A < 2 ^ (32 - (lo + w)) := by
    rw [← hA]; refine Nat.div_lt_of_lt_mul ?_
    rw [Nat.mul_comm, ← h32]; exact hx
  have hV : v % 2 ^ w * 2 ^ lo + C < 2 ^ (lo + w) := by
    rw [hp]
    calc v % 2 ^ w * 2 ^ lo + C < v % 2 ^ w * 2 ^ lo + 2 ^ lo := by omega
      _ = (v % 2 ^ w + 1) * 2 ^ lo := by ring
      _ ≤ 2 ^ w * 2 ^ lo := Nat.mul_le_mul_right _ hv
  calc A * 2 ^ (lo + w) + v % 2 ^ w * 2 ^ lo + C < A * 2 ^ (lo + w) + 2 ^ (lo + w) := by omega
    _ = (A + 1) * 2 ^ (lo + w) := by ring
    _ ≤ 2 ^ (32 - (lo + w)) * 2 ^ (lo + w) := Nat.mul_le_mul_right _ hA2
    _ = 2 ^ 32 := h32.symm

/-- The field replaced reads the value written. -/
theorem field_withField (x : Word) (lo w v : Nat) (h : lo + w ≤ 32) : field (withField x lo w v) lo w = v % 2 ^ w := by
  have hl : x.toNat % 2 ^ lo < 2 ^ lo := Nat.mod_lt _ (Nat.two_pow_pos lo)
  rw [field, withField_toNat x lo w v h, Nat.add_assoc, pow_add]
  have e : x.toNat / (2 ^ lo * 2 ^ w) * (2 ^ lo * 2 ^ w) + (v % 2 ^ w * 2 ^ lo + x.toNat % 2 ^ lo)
      = 2 ^ lo * (x.toNat / (2 ^ lo * 2 ^ w) * 2 ^ w + v % 2 ^ w) + x.toNat % 2 ^ lo := by ring
  rw [e, Nat.mul_add_div (Nat.two_pow_pos lo), Nat.div_eq_of_lt hl, Nat.add_zero, Nat.mul_comm _ (2 ^ w), Nat.mul_add_mod]
  exact Nat.mod_mod _ _

/-- A field that lies apart from the one replaced keeps its value. -/
theorem field_withField_apart (x : Word) (lo w v lo' w' : Nat) (h : lo + w ≤ 32) (ha : lo' + w' ≤ lo ∨ lo + w ≤ lo') :
    field (withField x lo w v) lo' w' = field x lo' w' := by
  have hl : x.toNat % 2 ^ lo < 2 ^ lo := Nat.mod_lt _ (Nat.two_pow_pos lo)
  have hv : v % 2 ^ w < 2 ^ w := Nat.mod_lt _ (Nat.two_pow_pos w)
  simp only [field, withField_toNat x lo w v h]
  rcases ha with ha | ha
  · -- below: both words agree modulo 2 ^ lo
    have key : ∀ y z : Nat, y % 2 ^ lo = z % 2 ^ lo → y / 2 ^ lo' % 2 ^ w' = z / 2 ^ lo' % 2 ^ w' := by
      intro y z hyz
      have hm : ∀ u : Nat, u / 2 ^ lo' % 2 ^ w' = u % 2 ^ lo / 2 ^ lo' % 2 ^ w' := by
        intro u
        apply Nat.eq_of_testBit_eq
        intro i
        simp only [Nat.testBit_mod_two_pow, Nat.testBit_div_two_pow]
        by_cases hi : i < w'
        · simp only [hi, decide_true, Bool.true_and]
          have : i + lo' < lo := by omega
          simp [this]
        · simp [hi]
      rw [hm y, hm z, hyz]
    apply key
    rw [pow_add, Nat.mul_comm (2 ^ lo) (2 ^ w), ← Nat.mul_assoc, ← Nat.add_mul, Nat.mul_comm _ (2 ^ lo), Nat.mul_add_mod]
    exact Nat.mod_mod _ _
  · have hp : (2 : Nat) ^ lo' = 2 ^ (lo + w) * 2 ^ (lo' - (lo + w)) := by rw [← pow_add]; congr 1; omega
    have hV : v % 2 ^ w * 2 ^ lo + x.toNat % 2 ^ lo < 2 ^ (lo + w) := by
      calc v % 2 ^ w * 2 ^ lo + x.toNat % 2 ^ lo < v % 2 ^ w * 2 ^ lo + 2 ^ lo := by omega
        _ = (v % 2 ^ w + 1) * 2 ^ lo := by ring
        _ ≤ 2 ^ w * 2 ^ lo := Nat.mul_le_mul_right _ hv
        _ = 2 ^ (lo + w) := by rw [pow_add, Nat.mul_comm]
    have e : (x.toNat / 2 ^ (lo + w) * 2 ^ (lo + w) + v % 2 ^ w * 2 ^ lo + x.toNat % 2 ^ lo) / 2 ^ lo' = x.toNat / 2 ^ lo' := by
      rw [hp, ← Nat.div_div_eq_div_mul, ← Nat.div_div_eq_div_mul, Nat.add_assoc, Nat.mul_comm _ (2 ^ (lo + w)),
        Nat.mul_add_div (Nat.two_pow_pos _), Nat.div_eq_of_lt hV, Nat.add_zero]
    rw [e]

theorem b2n_mod (b : Bool) : b2n b % 2 = b2n b := by cases b <;> rfl

end Sys2Proof.Machine
end

