-- ==== Sys2Proof/Laws/Sparse.lean ====
section
/-! SUPPORT. Laws of sparse tables and of device memory: what a read gives after a write, and that every operation keeps the
canonical form. -/

namespace Sys2Proof.Machine

variable {β : Type} [DecidableEq β]

omit [DecidableEq β] in
@[simp] theorem sget_nil (d : Nat → β) (k : Nat) : sget d k [] = d k := rfl

omit [DecidableEq β] in
theorem sget_sput (d : Nat → β) (k b : Nat) (v : β) (m : Sparse β) :
    sget d b (sput k v m) = if b = k then v else sget d b m := by
  induction m with
  | nil => by_cases h : k = b <;> simp [sput, sget, h, eq_comm]
  | cons e r ih =>
    obtain ⟨k', v'⟩ := e
    simp only [sput]
    split
    · simp only [sget, ih]; split_ifs <;> first | rfl | omega
    · split
      · simp only [sget]; split_ifs <;> first | rfl | omega
      · simp only [sget]; split_ifs <;> first | rfl | omega

omit [DecidableEq β] in
theorem sget_filter (d : Nat → β) (p : Nat → Bool) (b : Nat) (m : Sparse β) :
    sget d b (m.filter fun e => p e.1) = if p b then sget d b m else d b := by
  induction m with
  | nil => simp
  | cons e r ih =>
    obtain ⟨k', v'⟩ := e
    cases hp : p k'
    · simp only [List.filter_cons, hp, sget, ih, Bool.false_eq_true, if_false]
      by_cases hk : k' = b
      · subst hk; simp [hp]
      · simp [hk]
    · simp only [List.filter_cons, hp, sget, ih, if_true]
      by_cases hk : k' = b
      · subst hk; simp [hp]
      · simp [hk]

omit [DecidableEq β] in
theorem sget_sdel (d : Nat → β) (k b : Nat) (m : Sparse β) : sget d b (sdel k m) = if b = k then d b else sget d b m := by
  rw [sdel, sget_filter d (fun x => x != k)]
  by_cases h : b = k <;> simp [h]

/-- A read after a write: the value written at that key, elsewhere what was there. -/
theorem sget_sset (d : Nat → β) (k b : Nat) (v : β) (m : Sparse β) :
    sget d b (sset d k v m) = if b = k then v else sget d b m := by
  unfold sset
  split
  · rename_i h; rw [sget_sdel]; split_ifs with hb <;> simp [hb, h]
  · exact sget_sput d k b v m

@[simp] theorem sget_sset_self (d : Nat → β) (k : Nat) (v : β) (m : Sparse β) : sget d k (sset d k v m) = v := by
  simp [sget_sset]

@[simp] theorem sget_sset_ne (d : Nat → β) {k b : Nat} (h : b ≠ k) (v : β) (m : Sparse β) :
    sget d b (sset d k v m) = sget d b m := by
  simp [sget_sset, h]

omit [DecidableEq β] in
/-- Clearing keys leaves the others, and those read their default. -/
theorem sget_sclear (d : Nat → β) (p : Nat → Bool) (b : Nat) (m : Sparse β) :
    sget d b (sclear p m) = if p b then d b else sget d b m := by
  have h := sget_filter d (fun x => !p x) b m
  simp only [sclear, h]
  cases p b <;> simp

omit [DecidableEq β] in
theorem slook_sput (k b : Nat) (v : β) (m : Sparse β) : slook b (sput k v m) = if b = k then some v else slook b m := by
  induction m with
  | nil => by_cases h : k = b <;> simp [sput, slook, h, eq_comm]
  | cons e r ih =>
    obtain ⟨k', v'⟩ := e
    simp only [sput]
    split
    · simp only [slook, ih]; split_ifs <;> first | rfl | omega
    · split <;> (simp only [slook]; split_ifs <;> first | rfl | omega)

/-! ## The canonical form -/

theorem swfFrom_mono (d : Nat → β) {a b : Nat} (h : a ≤ b) (m : Sparse β) (hm : swfFrom d b m = true) : swfFrom d a m = true := by
  cases m with
  | nil => rfl
  | cons e r =>
    obtain ⟨k, v⟩ := e
    simp only [swfFrom, Bool.and_eq_true, decide_eq_true_eq] at hm ⊢
    exact ⟨⟨by omega, hm.1.2⟩, hm.2⟩

theorem swfFrom_filter (d : Nat → β) (p : Nat × β → Bool) (b : Nat) (m : Sparse β) (hm : swfFrom d b m = true) :
    swfFrom d b (m.filter p) = true := by
  induction m generalizing b with
  | nil => rfl
  | cons e r ih =>
    obtain ⟨k, v⟩ := e
    simp only [swfFrom, Bool.and_eq_true, decide_eq_true_eq] at hm
    by_cases h : p (k, v) = true
    · simp only [List.filter_cons, h, if_true, swfFrom, Bool.and_eq_true, decide_eq_true_eq]
      exact ⟨hm.1, ih _ hm.2⟩
    · simp only [List.filter_cons, h]
      exact ih _ (swfFrom_mono d (by omega) r hm.2)

theorem swfFrom_sput (d : Nat → β) (k : Nat) (v : β) (hv : v ≠ d k) (b : Nat) (hb : b ≤ k) (m : Sparse β)
    (hm : swfFrom d b m = true) : swfFrom d b (sput k v m) = true := by
  induction m generalizing b with
  | nil => simp [sput, swfFrom, hb, hv]
  | cons e r ih =>
    obtain ⟨k', v'⟩ := e
    simp only [swfFrom, Bool.and_eq_true, decide_eq_true_eq] at hm
    simp only [sput]
    split
    · simp only [swfFrom, Bool.and_eq_true, decide_eq_true_eq]
      exact ⟨hm.1, ih _ (by omega) hm.2⟩
    · split
      · rename_i h1 h2
        subst h2
        simp only [swfFrom, Bool.and_eq_true, decide_eq_true_eq]
        exact ⟨⟨hb, hv⟩, hm.2⟩
      · simp only [swfFrom, Bool.and_eq_true, decide_eq_true_eq]
        exact ⟨⟨hb, hv⟩, ⟨by omega, hm.1.2⟩, hm.2⟩

/-- A write keeps the canonical form. -/
theorem swf_sset (d : Nat → β) (k : Nat) (v : β) (m : Sparse β) (hm : swf d m = true) : swf d (sset d k v m) = true := by
  unfold sset
  split
  · exact swfFrom_filter d _ 0 m hm
  · rename_i h; exact swfFrom_sput d k v h 0 (Nat.zero_le _) m hm

/-- Clearing keys keeps the canonical form. -/
theorem swf_sclear (d : Nat → β) (p : Nat → Bool) (m : Sparse β) (hm : swf d m = true) : swf d (sclear p m) = true :=
  swfFrom_filter d _ 0 m hm

/-! ## Device memory -/

theorem memSetByte_wf (m : List Host.Cell) (a : Nat) (b : Byte) (h : Memory.wf m = true) : Memory.wf (memSetByte m a b) = true :=
  swf_sset memDefault a b m h

theorem memWrite_wf (bs : List Byte) (m : List Host.Cell) (a : Nat) (h : Memory.wf m = true) :
    Memory.wf (memWrite m a bs) = true := by
  induction bs generalizing m a with
  | nil => exact h
  | cons b r ih => exact ih _ _ (memSetByte_wf m a b h)

theorem memZero_wf (m : List Host.Cell) (a n : Nat) (h : Memory.wf m = true) : Memory.wf (memZero m a n) = true :=
  swf_sclear memDefault _ m h

theorem memByte_memSetByte (m : List Host.Cell) (a x : Nat) (b : Byte) :
    memByte (memSetByte m a b) x = if x = a then b else memByte m x := sget_sset memDefault a x b m

/-- A write of bytes: inside it the bytes written, elsewhere what was there. -/
theorem memByte_memWrite (bs : List Byte) (m : List Host.Cell) (a x : Nat) :
    memByte (memWrite m a bs) x = if a ≤ x ∧ x < a + bs.length then bs.getD (x - a) 0#8 else memByte m x := by
  induction bs generalizing m a with
  | nil =>
    have : ¬(a ≤ x ∧ x < a + ([] : List Byte).length) := by simp
    simp only [memWrite, this, if_false]
  | cons b r ih =>
    simp only [memWrite, ih, memByte_memSetByte, List.length_cons]
    by_cases hx : x = a
    · subst hx
      have h1 : ¬(x + 1 ≤ x ∧ x < x + 1 + r.length) := by omega
      have h2 : x ≤ x ∧ x < x + (r.length + 1) := by omega
      simp [h2]
    · by_cases h : a + 1 ≤ x ∧ x < a + 1 + r.length
      · have h2 : a ≤ x ∧ x < a + (r.length + 1) := by omega
        obtain ⟨k, hk⟩ : ∃ k, x - a = k + 1 := ⟨x - a - 1, by omega⟩
        have hk' : x - (a + 1) = k := by omega
        simp [h, h2, hk, hk']
      · have h2 : ¬(a ≤ x ∧ x < a + (r.length + 1)) := by omega
        simp only [if_neg h, if_neg hx, if_neg h2]

theorem memByte_memZero (m : List Host.Cell) (a n x : Nat) :
    memByte (memZero m a n) x = if a ≤ x ∧ x < a + n then 0#8 else memByte m x := by
  unfold memByte memZero
  rw [sget_sclear]
  simp [memDefault]

end Sys2Proof.Machine
end

