-- ==== Sys2Proof/Laws/State.lean ====
section
/-! SUPPORT. One lemma per component of the part and per update of it: what an update leaves as it was. -/

namespace Sys2Proof.Machine

variable (d : Dev)

/-! `Dev.put` -/
@[simp] theorem Dev.put_wide (a : Nat) (v : Word) : (d.put a v).wide = d.wide := rfl
@[simp] theorem Dev.put_held (a : Nat) (v : Word) : (d.put a v).held = d.held := rfl
@[simp] theorem Dev.put_freeCtr (a : Nat) (v : Word) : (d.put a v).freeCtr = d.freeCtr := rfl
@[simp] theorem Dev.put_outbox (a : Nat) (v : Word) : (d.put a v).outbox = d.outbox := rfl
@[simp] theorem Dev.put_time (a : Nat) (v : Word) : (d.put a v).time = d.time := rfl
@[simp] theorem Dev.put_chans (a : Nat) (v : Word) : (d.put a v).chans = d.chans := rfl
@[simp] theorem Dev.put_shot (a : Nat) (v : Word) : (d.put a v).shot = d.shot := rfl
@[simp] theorem Dev.put_bur (a : Nat) (v : Word) : (d.put a v).bur = d.bur := rfl
@[simp] theorem Dev.put_blw (a : Nat) (v : Word) : (d.put a v).blw = d.blw := rfl
@[simp] theorem Dev.put_kiln (a : Nat) (v : Word) : (d.put a v).kiln = d.kiln := rfl
@[simp] theorem Dev.put_turf (a : Nat) (v : Word) : (d.put a v).turf = d.turf := rfl
@[simp] theorem Dev.put_taps (a : Nat) (v : Word) : (d.put a v).taps = d.taps := rfl
@[simp] theorem Dev.put_scan (a : Nat) (v : Word) : (d.put a v).scan = d.scan := rfl
@[simp] theorem Dev.put_out (a : Nat) (v : Word) : (d.put a v).out = d.out := rfl
@[simp] theorem Dev.put_peer (a : Nat) (v : Word) : (d.put a v).peer = d.peer := rfl
@[simp] theorem Dev.put_safe (a : Nat) (v : Word) : (d.put a v).safe = d.safe := rfl
@[simp] theorem Dev.put_host (a : Nat) (v : Word) : (d.put a v).host = d.host := rfl
@[simp] theorem Dev.put_cmd (a : Nat) (v : Word) : (d.put a v).cmd = d.cmd := rfl
@[simp] theorem Dev.put_cfg (a : Nat) (v : Word) : (d.put a v).cfg = d.cfg := rfl
@[simp] theorem Dev.put_store (a : Nat) (v : Word) : (d.put a v).store = d.store := rfl
@[simp] theorem Dev.put_memc (a : Nat) (v : Word) : (d.put a v).memc = d.memc := rfl
@[simp] theorem Dev.put_hk (a : Nat) (v : Word) : (d.put a v).hk = d.hk := rfl
@[simp] theorem Dev.put_pwr (a : Nat) (v : Word) : (d.put a v).pwr = d.pwr := rfl
@[simp] theorem Dev.put_rst (a : Nat) (v : Word) : (d.put a v).rst = d.rst := rfl
@[simp] theorem Dev.put_evt (a : Nat) (v : Word) : (d.put a v).evt = d.evt := rfl
@[simp] theorem Dev.put_tel (a : Nat) (v : Word) : (d.put a v).tel = d.tel := rfl

/-! `Dev.setFld` -/
@[simp] theorem Dev.setFld_wide (f : Fld) (v : Nat) : (d.setFld f v).wide = d.wide := rfl
@[simp] theorem Dev.setFld_held (f : Fld) (v : Nat) : (d.setFld f v).held = d.held := rfl
@[simp] theorem Dev.setFld_freeCtr (f : Fld) (v : Nat) : (d.setFld f v).freeCtr = d.freeCtr := rfl
@[simp] theorem Dev.setFld_outbox (f : Fld) (v : Nat) : (d.setFld f v).outbox = d.outbox := rfl
@[simp] theorem Dev.setFld_time (f : Fld) (v : Nat) : (d.setFld f v).time = d.time := rfl
@[simp] theorem Dev.setFld_chans (f : Fld) (v : Nat) : (d.setFld f v).chans = d.chans := rfl
@[simp] theorem Dev.setFld_shot (f : Fld) (v : Nat) : (d.setFld f v).shot = d.shot := rfl
@[simp] theorem Dev.setFld_bur (f : Fld) (v : Nat) : (d.setFld f v).bur = d.bur := rfl
@[simp] theorem Dev.setFld_blw (f : Fld) (v : Nat) : (d.setFld f v).blw = d.blw := rfl
@[simp] theorem Dev.setFld_kiln (f : Fld) (v : Nat) : (d.setFld f v).kiln = d.kiln := rfl
@[simp] theorem Dev.setFld_turf (f : Fld) (v : Nat) : (d.setFld f v).turf = d.turf := rfl
@[simp] theorem Dev.setFld_taps (f : Fld) (v : Nat) : (d.setFld f v).taps = d.taps := rfl
@[simp] theorem Dev.setFld_scan (f : Fld) (v : Nat) : (d.setFld f v).scan = d.scan := rfl
@[simp] theorem Dev.setFld_out (f : Fld) (v : Nat) : (d.setFld f v).out = d.out := rfl
@[simp] theorem Dev.setFld_peer (f : Fld) (v : Nat) : (d.setFld f v).peer = d.peer := rfl
@[simp] theorem Dev.setFld_safe (f : Fld) (v : Nat) : (d.setFld f v).safe = d.safe := rfl
@[simp] theorem Dev.setFld_host (f : Fld) (v : Nat) : (d.setFld f v).host = d.host := rfl
@[simp] theorem Dev.setFld_cmd (f : Fld) (v : Nat) : (d.setFld f v).cmd = d.cmd := rfl
@[simp] theorem Dev.setFld_cfg (f : Fld) (v : Nat) : (d.setFld f v).cfg = d.cfg := rfl
@[simp] theorem Dev.setFld_store (f : Fld) (v : Nat) : (d.setFld f v).store = d.store := rfl
@[simp] theorem Dev.setFld_memc (f : Fld) (v : Nat) : (d.setFld f v).memc = d.memc := rfl
@[simp] theorem Dev.setFld_hk (f : Fld) (v : Nat) : (d.setFld f v).hk = d.hk := rfl
@[simp] theorem Dev.setFld_pwr (f : Fld) (v : Nat) : (d.setFld f v).pwr = d.pwr := rfl
@[simp] theorem Dev.setFld_rst (f : Fld) (v : Nat) : (d.setFld f v).rst = d.rst := rfl
@[simp] theorem Dev.setFld_evt (f : Fld) (v : Nat) : (d.setFld f v).evt = d.evt := rfl
@[simp] theorem Dev.setFld_tel (f : Fld) (v : Nat) : (d.setFld f v).tel = d.tel := rfl

/-! `Dev.setFlag` -/
@[simp] theorem Dev.setFlag_wide (f : Fld) (b : Bool) : (d.setFlag f b).wide = d.wide := rfl
@[simp] theorem Dev.setFlag_held (f : Fld) (b : Bool) : (d.setFlag f b).held = d.held := rfl
@[simp] theorem Dev.setFlag_freeCtr (f : Fld) (b : Bool) : (d.setFlag f b).freeCtr = d.freeCtr := rfl
@[simp] theorem Dev.setFlag_outbox (f : Fld) (b : Bool) : (d.setFlag f b).outbox = d.outbox := rfl
@[simp] theorem Dev.setFlag_time (f : Fld) (b : Bool) : (d.setFlag f b).time = d.time := rfl
@[simp] theorem Dev.setFlag_chans (f : Fld) (b : Bool) : (d.setFlag f b).chans = d.chans := rfl
@[simp] theorem Dev.setFlag_shot (f : Fld) (b : Bool) : (d.setFlag f b).shot = d.shot := rfl
@[simp] theorem Dev.setFlag_bur (f : Fld) (b : Bool) : (d.setFlag f b).bur = d.bur := rfl
@[simp] theorem Dev.setFlag_blw (f : Fld) (b : Bool) : (d.setFlag f b).blw = d.blw := rfl
@[simp] theorem Dev.setFlag_kiln (f : Fld) (b : Bool) : (d.setFlag f b).kiln = d.kiln := rfl
@[simp] theorem Dev.setFlag_turf (f : Fld) (b : Bool) : (d.setFlag f b).turf = d.turf := rfl
@[simp] theorem Dev.setFlag_taps (f : Fld) (b : Bool) : (d.setFlag f b).taps = d.taps := rfl
@[simp] theorem Dev.setFlag_scan (f : Fld) (b : Bool) : (d.setFlag f b).scan = d.scan := rfl
@[simp] theorem Dev.setFlag_out (f : Fld) (b : Bool) : (d.setFlag f b).out = d.out := rfl
@[simp] theorem Dev.setFlag_peer (f : Fld) (b : Bool) : (d.setFlag f b).peer = d.peer := rfl
@[simp] theorem Dev.setFlag_safe (f : Fld) (b : Bool) : (d.setFlag f b).safe = d.safe := rfl
@[simp] theorem Dev.setFlag_host (f : Fld) (b : Bool) : (d.setFlag f b).host = d.host := rfl
@[simp] theorem Dev.setFlag_cmd (f : Fld) (b : Bool) : (d.setFlag f b).cmd = d.cmd := rfl
@[simp] theorem Dev.setFlag_cfg (f : Fld) (b : Bool) : (d.setFlag f b).cfg = d.cfg := rfl
@[simp] theorem Dev.setFlag_store (f : Fld) (b : Bool) : (d.setFlag f b).store = d.store := rfl
@[simp] theorem Dev.setFlag_memc (f : Fld) (b : Bool) : (d.setFlag f b).memc = d.memc := rfl
@[simp] theorem Dev.setFlag_hk (f : Fld) (b : Bool) : (d.setFlag f b).hk = d.hk := rfl
@[simp] theorem Dev.setFlag_pwr (f : Fld) (b : Bool) : (d.setFlag f b).pwr = d.pwr := rfl
@[simp] theorem Dev.setFlag_rst (f : Fld) (b : Bool) : (d.setFlag f b).rst = d.rst := rfl
@[simp] theorem Dev.setFlag_evt (f : Fld) (b : Bool) : (d.setFlag f b).evt = d.evt := rfl
@[simp] theorem Dev.setFlag_tel (f : Fld) (b : Bool) : (d.setFlag f b).tel = d.tel := rfl

/-! `Dev.setBit` -/
@[simp] theorem Dev.setBit_wide (a n : Nat) (b : Bool) : (d.setBit a n b).wide = d.wide := rfl
@[simp] theorem Dev.setBit_held (a n : Nat) (b : Bool) : (d.setBit a n b).held = d.held := rfl
@[simp] theorem Dev.setBit_freeCtr (a n : Nat) (b : Bool) : (d.setBit a n b).freeCtr = d.freeCtr := rfl
@[simp] theorem Dev.setBit_outbox (a n : Nat) (b : Bool) : (d.setBit a n b).outbox = d.outbox := rfl
@[simp] theorem Dev.setBit_time (a n : Nat) (b : Bool) : (d.setBit a n b).time = d.time := rfl
@[simp] theorem Dev.setBit_chans (a n : Nat) (b : Bool) : (d.setBit a n b).chans = d.chans := rfl
@[simp] theorem Dev.setBit_shot (a n : Nat) (b : Bool) : (d.setBit a n b).shot = d.shot := rfl
@[simp] theorem Dev.setBit_bur (a n : Nat) (b : Bool) : (d.setBit a n b).bur = d.bur := rfl
@[simp] theorem Dev.setBit_blw (a n : Nat) (b : Bool) : (d.setBit a n b).blw = d.blw := rfl
@[simp] theorem Dev.setBit_kiln (a n : Nat) (b : Bool) : (d.setBit a n b).kiln = d.kiln := rfl
@[simp] theorem Dev.setBit_turf (a n : Nat) (b : Bool) : (d.setBit a n b).turf = d.turf := rfl
@[simp] theorem Dev.setBit_taps (a n : Nat) (b : Bool) : (d.setBit a n b).taps = d.taps := rfl
@[simp] theorem Dev.setBit_scan (a n : Nat) (b : Bool) : (d.setBit a n b).scan = d.scan := rfl
@[simp] theorem Dev.setBit_out (a n : Nat) (b : Bool) : (d.setBit a n b).out = d.out := rfl
@[simp] theorem Dev.setBit_peer (a n : Nat) (b : Bool) : (d.setBit a n b).peer = d.peer := rfl
@[simp] theorem Dev.setBit_safe (a n : Nat) (b : Bool) : (d.setBit a n b).safe = d.safe := rfl
@[simp] theorem Dev.setBit_host (a n : Nat) (b : Bool) : (d.setBit a n b).host = d.host := rfl
@[simp] theorem Dev.setBit_cmd (a n : Nat) (b : Bool) : (d.setBit a n b).cmd = d.cmd := rfl
@[simp] theorem Dev.setBit_cfg (a n : Nat) (b : Bool) : (d.setBit a n b).cfg = d.cfg := rfl
@[simp] theorem Dev.setBit_store (a n : Nat) (b : Bool) : (d.setBit a n b).store = d.store := rfl
@[simp] theorem Dev.setBit_memc (a n : Nat) (b : Bool) : (d.setBit a n b).memc = d.memc := rfl
@[simp] theorem Dev.setBit_hk (a n : Nat) (b : Bool) : (d.setBit a n b).hk = d.hk := rfl
@[simp] theorem Dev.setBit_pwr (a n : Nat) (b : Bool) : (d.setBit a n b).pwr = d.pwr := rfl
@[simp] theorem Dev.setBit_rst (a n : Nat) (b : Bool) : (d.setBit a n b).rst = d.rst := rfl
@[simp] theorem Dev.setBit_evt (a n : Nat) (b : Bool) : (d.setBit a n b).evt = d.evt := rfl
@[simp] theorem Dev.setBit_tel (a n : Nat) (b : Bool) : (d.setBit a n b).tel = d.tel := rfl

/-! `Dev.mark` -/
@[simp] theorem Dev.mark_wide (a n : Nat) : (d.mark a n).wide = d.wide := rfl
@[simp] theorem Dev.mark_held (a n : Nat) : (d.mark a n).held = d.held := rfl
@[simp] theorem Dev.mark_freeCtr (a n : Nat) : (d.mark a n).freeCtr = d.freeCtr := rfl
@[simp] theorem Dev.mark_outbox (a n : Nat) : (d.mark a n).outbox = d.outbox := rfl
@[simp] theorem Dev.mark_time (a n : Nat) : (d.mark a n).time = d.time := rfl
@[simp] theorem Dev.mark_chans (a n : Nat) : (d.mark a n).chans = d.chans := rfl
@[simp] theorem Dev.mark_shot (a n : Nat) : (d.mark a n).shot = d.shot := rfl
@[simp] theorem Dev.mark_bur (a n : Nat) : (d.mark a n).bur = d.bur := rfl
@[simp] theorem Dev.mark_blw (a n : Nat) : (d.mark a n).blw = d.blw := rfl
@[simp] theorem Dev.mark_kiln (a n : Nat) : (d.mark a n).kiln = d.kiln := rfl
@[simp] theorem Dev.mark_turf (a n : Nat) : (d.mark a n).turf = d.turf := rfl
@[simp] theorem Dev.mark_taps (a n : Nat) : (d.mark a n).taps = d.taps := rfl
@[simp] theorem Dev.mark_scan (a n : Nat) : (d.mark a n).scan = d.scan := rfl
@[simp] theorem Dev.mark_out (a n : Nat) : (d.mark a n).out = d.out := rfl
@[simp] theorem Dev.mark_peer (a n : Nat) : (d.mark a n).peer = d.peer := rfl
@[simp] theorem Dev.mark_safe (a n : Nat) : (d.mark a n).safe = d.safe := rfl
@[simp] theorem Dev.mark_host (a n : Nat) : (d.mark a n).host = d.host := rfl
@[simp] theorem Dev.mark_cmd (a n : Nat) : (d.mark a n).cmd = d.cmd := rfl
@[simp] theorem Dev.mark_cfg (a n : Nat) : (d.mark a n).cfg = d.cfg := rfl
@[simp] theorem Dev.mark_store (a n : Nat) : (d.mark a n).store = d.store := rfl
@[simp] theorem Dev.mark_memc (a n : Nat) : (d.mark a n).memc = d.memc := rfl
@[simp] theorem Dev.mark_hk (a n : Nat) : (d.mark a n).hk = d.hk := rfl
@[simp] theorem Dev.mark_pwr (a n : Nat) : (d.mark a n).pwr = d.pwr := rfl
@[simp] theorem Dev.mark_rst (a n : Nat) : (d.mark a n).rst = d.rst := rfl
@[simp] theorem Dev.mark_evt (a n : Nat) : (d.mark a n).evt = d.evt := rfl
@[simp] theorem Dev.mark_tel (a n : Nat) : (d.mark a n).tel = d.tel := rfl

/-! `Dev.putWide` -/
@[simp] theorem Dev.putWide_regs (a v : Nat) : (d.putWide a v).regs = d.regs := rfl
@[simp] theorem Dev.putWide_held (a v : Nat) : (d.putWide a v).held = d.held := rfl
@[simp] theorem Dev.putWide_freeCtr (a v : Nat) : (d.putWide a v).freeCtr = d.freeCtr := rfl
@[simp] theorem Dev.putWide_outbox (a v : Nat) : (d.putWide a v).outbox = d.outbox := rfl
@[simp] theorem Dev.putWide_time (a v : Nat) : (d.putWide a v).time = d.time := rfl
@[simp] theorem Dev.putWide_chans (a v : Nat) : (d.putWide a v).chans = d.chans := rfl
@[simp] theorem Dev.putWide_shot (a v : Nat) : (d.putWide a v).shot = d.shot := rfl
@[simp] theorem Dev.putWide_bur (a v : Nat) : (d.putWide a v).bur = d.bur := rfl
@[simp] theorem Dev.putWide_blw (a v : Nat) : (d.putWide a v).blw = d.blw := rfl
@[simp] theorem Dev.putWide_kiln (a v : Nat) : (d.putWide a v).kiln = d.kiln := rfl
@[simp] theorem Dev.putWide_turf (a v : Nat) : (d.putWide a v).turf = d.turf := rfl
@[simp] theorem Dev.putWide_taps (a v : Nat) : (d.putWide a v).taps = d.taps := rfl
@[simp] theorem Dev.putWide_scan (a v : Nat) : (d.putWide a v).scan = d.scan := rfl
@[simp] theorem Dev.putWide_out (a v : Nat) : (d.putWide a v).out = d.out := rfl
@[simp] theorem Dev.putWide_peer (a v : Nat) : (d.putWide a v).peer = d.peer := rfl
@[simp] theorem Dev.putWide_safe (a v : Nat) : (d.putWide a v).safe = d.safe := rfl
@[simp] theorem Dev.putWide_host (a v : Nat) : (d.putWide a v).host = d.host := rfl
@[simp] theorem Dev.putWide_cmd (a v : Nat) : (d.putWide a v).cmd = d.cmd := rfl
@[simp] theorem Dev.putWide_cfg (a v : Nat) : (d.putWide a v).cfg = d.cfg := rfl
@[simp] theorem Dev.putWide_store (a v : Nat) : (d.putWide a v).store = d.store := rfl
@[simp] theorem Dev.putWide_memc (a v : Nat) : (d.putWide a v).memc = d.memc := rfl
@[simp] theorem Dev.putWide_hk (a v : Nat) : (d.putWide a v).hk = d.hk := rfl
@[simp] theorem Dev.putWide_pwr (a v : Nat) : (d.putWide a v).pwr = d.pwr := rfl
@[simp] theorem Dev.putWide_rst (a v : Nat) : (d.putWide a v).rst = d.rst := rfl
@[simp] theorem Dev.putWide_evt (a v : Nat) : (d.putWide a v).evt = d.evt := rfl
@[simp] theorem Dev.putWide_tel (a v : Nat) : (d.putWide a v).tel = d.tel := rfl

/-! `Dev.raiseAs` -/
@[simp] theorem Dev.raiseAs_regs (n : Nat) (t : Bool) (x y : Nat) : (d.raiseAs n t x y).regs = d.regs := rfl
@[simp] theorem Dev.raiseAs_wide (n : Nat) (t : Bool) (x y : Nat) : (d.raiseAs n t x y).wide = d.wide := rfl
@[simp] theorem Dev.raiseAs_held (n : Nat) (t : Bool) (x y : Nat) : (d.raiseAs n t x y).held = d.held := rfl
@[simp] theorem Dev.raiseAs_freeCtr (n : Nat) (t : Bool) (x y : Nat) : (d.raiseAs n t x y).freeCtr = d.freeCtr := rfl
@[simp] theorem Dev.raiseAs_outbox (n : Nat) (t : Bool) (x y : Nat) : (d.raiseAs n t x y).outbox = d.outbox := rfl
@[simp] theorem Dev.raiseAs_time (n : Nat) (t : Bool) (x y : Nat) : (d.raiseAs n t x y).time = d.time := rfl
@[simp] theorem Dev.raiseAs_chans (n : Nat) (t : Bool) (x y : Nat) : (d.raiseAs n t x y).chans = d.chans := rfl
@[simp] theorem Dev.raiseAs_shot (n : Nat) (t : Bool) (x y : Nat) : (d.raiseAs n t x y).shot = d.shot := rfl
@[simp] theorem Dev.raiseAs_bur (n : Nat) (t : Bool) (x y : Nat) : (d.raiseAs n t x y).bur = d.bur := rfl
@[simp] theorem Dev.raiseAs_blw (n : Nat) (t : Bool) (x y : Nat) : (d.raiseAs n t x y).blw = d.blw := rfl
@[simp] theorem Dev.raiseAs_kiln (n : Nat) (t : Bool) (x y : Nat) : (d.raiseAs n t x y).kiln = d.kiln := rfl
@[simp] theorem Dev.raiseAs_turf (n : Nat) (t : Bool) (x y : Nat) : (d.raiseAs n t x y).turf = d.turf := rfl
@[simp] theorem Dev.raiseAs_taps (n : Nat) (t : Bool) (x y : Nat) : (d.raiseAs n t x y).taps = d.taps := rfl
@[simp] theorem Dev.raiseAs_scan (n : Nat) (t : Bool) (x y : Nat) : (d.raiseAs n t x y).scan = d.scan := rfl
@[simp] theorem Dev.raiseAs_out (n : Nat) (t : Bool) (x y : Nat) : (d.raiseAs n t x y).out = d.out := rfl
@[simp] theorem Dev.raiseAs_peer (n : Nat) (t : Bool) (x y : Nat) : (d.raiseAs n t x y).peer = d.peer := rfl
@[simp] theorem Dev.raiseAs_safe (n : Nat) (t : Bool) (x y : Nat) : (d.raiseAs n t x y).safe = d.safe := rfl
@[simp] theorem Dev.raiseAs_host (n : Nat) (t : Bool) (x y : Nat) : (d.raiseAs n t x y).host = d.host := rfl
@[simp] theorem Dev.raiseAs_cmd (n : Nat) (t : Bool) (x y : Nat) : (d.raiseAs n t x y).cmd = d.cmd := rfl
@[simp] theorem Dev.raiseAs_cfg (n : Nat) (t : Bool) (x y : Nat) : (d.raiseAs n t x y).cfg = d.cfg := rfl
@[simp] theorem Dev.raiseAs_store (n : Nat) (t : Bool) (x y : Nat) : (d.raiseAs n t x y).store = d.store := rfl
@[simp] theorem Dev.raiseAs_memc (n : Nat) (t : Bool) (x y : Nat) : (d.raiseAs n t x y).memc = d.memc := rfl
@[simp] theorem Dev.raiseAs_hk (n : Nat) (t : Bool) (x y : Nat) : (d.raiseAs n t x y).hk = d.hk := rfl
@[simp] theorem Dev.raiseAs_pwr (n : Nat) (t : Bool) (x y : Nat) : (d.raiseAs n t x y).pwr = d.pwr := rfl
@[simp] theorem Dev.raiseAs_rst (n : Nat) (t : Bool) (x y : Nat) : (d.raiseAs n t x y).rst = d.rst := rfl
@[simp] theorem Dev.raiseAs_tel (n : Nat) (t : Bool) (x y : Nat) : (d.raiseAs n t x y).tel = d.tel := rfl

/-! `Dev.raise` -/
@[simp] theorem Dev.raise_regs (n x y : Nat) : (d.raise n x y).regs = d.regs := rfl
@[simp] theorem Dev.raise_wide (n x y : Nat) : (d.raise n x y).wide = d.wide := rfl
@[simp] theorem Dev.raise_held (n x y : Nat) : (d.raise n x y).held = d.held := rfl
@[simp] theorem Dev.raise_freeCtr (n x y : Nat) : (d.raise n x y).freeCtr = d.freeCtr := rfl
@[simp] theorem Dev.raise_outbox (n x y : Nat) : (d.raise n x y).outbox = d.outbox := rfl
@[simp] theorem Dev.raise_time (n x y : Nat) : (d.raise n x y).time = d.time := rfl
@[simp] theorem Dev.raise_chans (n x y : Nat) : (d.raise n x y).chans = d.chans := rfl
@[simp] theorem Dev.raise_shot (n x y : Nat) : (d.raise n x y).shot = d.shot := rfl
@[simp] theorem Dev.raise_bur (n x y : Nat) : (d.raise n x y).bur = d.bur := rfl
@[simp] theorem Dev.raise_blw (n x y : Nat) : (d.raise n x y).blw = d.blw := rfl
@[simp] theorem Dev.raise_kiln (n x y : Nat) : (d.raise n x y).kiln = d.kiln := rfl
@[simp] theorem Dev.raise_turf (n x y : Nat) : (d.raise n x y).turf = d.turf := rfl
@[simp] theorem Dev.raise_taps (n x y : Nat) : (d.raise n x y).taps = d.taps := rfl
@[simp] theorem Dev.raise_scan (n x y : Nat) : (d.raise n x y).scan = d.scan := rfl
@[simp] theorem Dev.raise_out (n x y : Nat) : (d.raise n x y).out = d.out := rfl
@[simp] theorem Dev.raise_peer (n x y : Nat) : (d.raise n x y).peer = d.peer := rfl
@[simp] theorem Dev.raise_safe (n x y : Nat) : (d.raise n x y).safe = d.safe := rfl
@[simp] theorem Dev.raise_host (n x y : Nat) : (d.raise n x y).host = d.host := rfl
@[simp] theorem Dev.raise_cmd (n x y : Nat) : (d.raise n x y).cmd = d.cmd := rfl
@[simp] theorem Dev.raise_cfg (n x y : Nat) : (d.raise n x y).cfg = d.cfg := rfl
@[simp] theorem Dev.raise_store (n x y : Nat) : (d.raise n x y).store = d.store := rfl
@[simp] theorem Dev.raise_memc (n x y : Nat) : (d.raise n x y).memc = d.memc := rfl
@[simp] theorem Dev.raise_hk (n x y : Nat) : (d.raise n x y).hk = d.hk := rfl
@[simp] theorem Dev.raise_pwr (n x y : Nat) : (d.raise n x y).pwr = d.pwr := rfl
@[simp] theorem Dev.raise_rst (n x y : Nat) : (d.raise n x y).rst = d.rst := rfl
@[simp] theorem Dev.raise_tel (n x y : Nat) : (d.raise n x y).tel = d.tel := rfl

/-! `Dev.raiseReg` -/
@[simp] theorem Dev.raiseReg_regs (n a : Nat) : (d.raiseReg n a).regs = d.regs := rfl
@[simp] theorem Dev.raiseReg_wide (n a : Nat) : (d.raiseReg n a).wide = d.wide := rfl
@[simp] theorem Dev.raiseReg_held (n a : Nat) : (d.raiseReg n a).held = d.held := rfl
@[simp] theorem Dev.raiseReg_freeCtr (n a : Nat) : (d.raiseReg n a).freeCtr = d.freeCtr := rfl
@[simp] theorem Dev.raiseReg_outbox (n a : Nat) : (d.raiseReg n a).outbox = d.outbox := rfl
@[simp] theorem Dev.raiseReg_time (n a : Nat) : (d.raiseReg n a).time = d.time := rfl
@[simp] theorem Dev.raiseReg_chans (n a : Nat) : (d.raiseReg n a).chans = d.chans := rfl
@[simp] theorem Dev.raiseReg_shot (n a : Nat) : (d.raiseReg n a).shot = d.shot := rfl
@[simp] theorem Dev.raiseReg_bur (n a : Nat) : (d.raiseReg n a).bur = d.bur := rfl
@[simp] theorem Dev.raiseReg_blw (n a : Nat) : (d.raiseReg n a).blw = d.blw := rfl
@[simp] theorem Dev.raiseReg_kiln (n a : Nat) : (d.raiseReg n a).kiln = d.kiln := rfl
@[simp] theorem Dev.raiseReg_turf (n a : Nat) : (d.raiseReg n a).turf = d.turf := rfl
@[simp] theorem Dev.raiseReg_taps (n a : Nat) : (d.raiseReg n a).taps = d.taps := rfl
@[simp] theorem Dev.raiseReg_scan (n a : Nat) : (d.raiseReg n a).scan = d.scan := rfl
@[simp] theorem Dev.raiseReg_out (n a : Nat) : (d.raiseReg n a).out = d.out := rfl
@[simp] theorem Dev.raiseReg_peer (n a : Nat) : (d.raiseReg n a).peer = d.peer := rfl
@[simp] theorem Dev.raiseReg_safe (n a : Nat) : (d.raiseReg n a).safe = d.safe := rfl
@[simp] theorem Dev.raiseReg_host (n a : Nat) : (d.raiseReg n a).host = d.host := rfl
@[simp] theorem Dev.raiseReg_cmd (n a : Nat) : (d.raiseReg n a).cmd = d.cmd := rfl
@[simp] theorem Dev.raiseReg_cfg (n a : Nat) : (d.raiseReg n a).cfg = d.cfg := rfl
@[simp] theorem Dev.raiseReg_store (n a : Nat) : (d.raiseReg n a).store = d.store := rfl
@[simp] theorem Dev.raiseReg_memc (n a : Nat) : (d.raiseReg n a).memc = d.memc := rfl
@[simp] theorem Dev.raiseReg_hk (n a : Nat) : (d.raiseReg n a).hk = d.hk := rfl
@[simp] theorem Dev.raiseReg_pwr (n a : Nat) : (d.raiseReg n a).pwr = d.pwr := rfl
@[simp] theorem Dev.raiseReg_rst (n a : Nat) : (d.raiseReg n a).rst = d.rst := rfl
@[simp] theorem Dev.raiseReg_tel (n a : Nat) : (d.raiseReg n a).tel = d.tel := rfl

/-! `Dev.memw` -/
@[simp] theorem Dev.memw_regs (a : Nat) (bs : List Byte) : (d.memw a bs).regs = d.regs := rfl
@[simp] theorem Dev.memw_wide (a : Nat) (bs : List Byte) : (d.memw a bs).wide = d.wide := rfl
@[simp] theorem Dev.memw_held (a : Nat) (bs : List Byte) : (d.memw a bs).held = d.held := rfl
@[simp] theorem Dev.memw_freeCtr (a : Nat) (bs : List Byte) : (d.memw a bs).freeCtr = d.freeCtr := rfl
@[simp] theorem Dev.memw_time (a : Nat) (bs : List Byte) : (d.memw a bs).time = d.time := rfl
@[simp] theorem Dev.memw_chans (a : Nat) (bs : List Byte) : (d.memw a bs).chans = d.chans := rfl
@[simp] theorem Dev.memw_shot (a : Nat) (bs : List Byte) : (d.memw a bs).shot = d.shot := rfl
@[simp] theorem Dev.memw_bur (a : Nat) (bs : List Byte) : (d.memw a bs).bur = d.bur := rfl
@[simp] theorem Dev.memw_blw (a : Nat) (bs : List Byte) : (d.memw a bs).blw = d.blw := rfl
@[simp] theorem Dev.memw_kiln (a : Nat) (bs : List Byte) : (d.memw a bs).kiln = d.kiln := rfl
@[simp] theorem Dev.memw_turf (a : Nat) (bs : List Byte) : (d.memw a bs).turf = d.turf := rfl
@[simp] theorem Dev.memw_taps (a : Nat) (bs : List Byte) : (d.memw a bs).taps = d.taps := rfl
@[simp] theorem Dev.memw_scan (a : Nat) (bs : List Byte) : (d.memw a bs).scan = d.scan := rfl
@[simp] theorem Dev.memw_out (a : Nat) (bs : List Byte) : (d.memw a bs).out = d.out := rfl
@[simp] theorem Dev.memw_peer (a : Nat) (bs : List Byte) : (d.memw a bs).peer = d.peer := rfl
@[simp] theorem Dev.memw_safe (a : Nat) (bs : List Byte) : (d.memw a bs).safe = d.safe := rfl
@[simp] theorem Dev.memw_host (a : Nat) (bs : List Byte) : (d.memw a bs).host = d.host := rfl
@[simp] theorem Dev.memw_cmd (a : Nat) (bs : List Byte) : (d.memw a bs).cmd = d.cmd := rfl
@[simp] theorem Dev.memw_cfg (a : Nat) (bs : List Byte) : (d.memw a bs).cfg = d.cfg := rfl
@[simp] theorem Dev.memw_store (a : Nat) (bs : List Byte) : (d.memw a bs).store = d.store := rfl
@[simp] theorem Dev.memw_memc (a : Nat) (bs : List Byte) : (d.memw a bs).memc = d.memc := rfl
@[simp] theorem Dev.memw_hk (a : Nat) (bs : List Byte) : (d.memw a bs).hk = d.hk := rfl
@[simp] theorem Dev.memw_pwr (a : Nat) (bs : List Byte) : (d.memw a bs).pwr = d.pwr := rfl
@[simp] theorem Dev.memw_rst (a : Nat) (bs : List Byte) : (d.memw a bs).rst = d.rst := rfl
@[simp] theorem Dev.memw_evt (a : Nat) (bs : List Byte) : (d.memw a bs).evt = d.evt := rfl
@[simp] theorem Dev.memw_tel (a : Nat) (bs : List Byte) : (d.memw a bs).tel = d.tel := rfl

/-! `Dev.wipe` -/
@[simp] theorem Dev.wipe_regs (a n : Nat) : (d.wipe a n).regs = d.regs := rfl
@[simp] theorem Dev.wipe_wide (a n : Nat) : (d.wipe a n).wide = d.wide := rfl
@[simp] theorem Dev.wipe_held (a n : Nat) : (d.wipe a n).held = d.held := rfl
@[simp] theorem Dev.wipe_freeCtr (a n : Nat) : (d.wipe a n).freeCtr = d.freeCtr := rfl
@[simp] theorem Dev.wipe_time (a n : Nat) : (d.wipe a n).time = d.time := rfl
@[simp] theorem Dev.wipe_chans (a n : Nat) : (d.wipe a n).chans = d.chans := rfl
@[simp] theorem Dev.wipe_shot (a n : Nat) : (d.wipe a n).shot = d.shot := rfl
@[simp] theorem Dev.wipe_bur (a n : Nat) : (d.wipe a n).bur = d.bur := rfl
@[simp] theorem Dev.wipe_blw (a n : Nat) : (d.wipe a n).blw = d.blw := rfl
@[simp] theorem Dev.wipe_kiln (a n : Nat) : (d.wipe a n).kiln = d.kiln := rfl
@[simp] theorem Dev.wipe_turf (a n : Nat) : (d.wipe a n).turf = d.turf := rfl
@[simp] theorem Dev.wipe_taps (a n : Nat) : (d.wipe a n).taps = d.taps := rfl
@[simp] theorem Dev.wipe_scan (a n : Nat) : (d.wipe a n).scan = d.scan := rfl
@[simp] theorem Dev.wipe_out (a n : Nat) : (d.wipe a n).out = d.out := rfl
@[simp] theorem Dev.wipe_peer (a n : Nat) : (d.wipe a n).peer = d.peer := rfl
@[simp] theorem Dev.wipe_safe (a n : Nat) : (d.wipe a n).safe = d.safe := rfl
@[simp] theorem Dev.wipe_host (a n : Nat) : (d.wipe a n).host = d.host := rfl
@[simp] theorem Dev.wipe_cmd (a n : Nat) : (d.wipe a n).cmd = d.cmd := rfl
@[simp] theorem Dev.wipe_cfg (a n : Nat) : (d.wipe a n).cfg = d.cfg := rfl
@[simp] theorem Dev.wipe_store (a n : Nat) : (d.wipe a n).store = d.store := rfl
@[simp] theorem Dev.wipe_memc (a n : Nat) : (d.wipe a n).memc = d.memc := rfl
@[simp] theorem Dev.wipe_hk (a n : Nat) : (d.wipe a n).hk = d.hk := rfl
@[simp] theorem Dev.wipe_pwr (a n : Nat) : (d.wipe a n).pwr = d.pwr := rfl
@[simp] theorem Dev.wipe_rst (a n : Nat) : (d.wipe a n).rst = d.rst := rfl
@[simp] theorem Dev.wipe_evt (a n : Nat) : (d.wipe a n).evt = d.evt := rfl
@[simp] theorem Dev.wipe_tel (a n : Nat) : (d.wipe a n).tel = d.tel := rfl

/-! `Dev.freeNext` -/
@[simp] theorem Dev.freeNext_regs : (d.freeNext).regs = d.regs := rfl
@[simp] theorem Dev.freeNext_wide : (d.freeNext).wide = d.wide := rfl
@[simp] theorem Dev.freeNext_held : (d.freeNext).held = d.held := rfl
@[simp] theorem Dev.freeNext_outbox : (d.freeNext).outbox = d.outbox := rfl
@[simp] theorem Dev.freeNext_time : (d.freeNext).time = d.time := rfl
@[simp] theorem Dev.freeNext_chans : (d.freeNext).chans = d.chans := rfl
@[simp] theorem Dev.freeNext_shot : (d.freeNext).shot = d.shot := rfl
@[simp] theorem Dev.freeNext_bur : (d.freeNext).bur = d.bur := rfl
@[simp] theorem Dev.freeNext_blw : (d.freeNext).blw = d.blw := rfl
@[simp] theorem Dev.freeNext_kiln : (d.freeNext).kiln = d.kiln := rfl
@[simp] theorem Dev.freeNext_turf : (d.freeNext).turf = d.turf := rfl
@[simp] theorem Dev.freeNext_taps : (d.freeNext).taps = d.taps := rfl
@[simp] theorem Dev.freeNext_scan : (d.freeNext).scan = d.scan := rfl
@[simp] theorem Dev.freeNext_out : (d.freeNext).out = d.out := rfl
@[simp] theorem Dev.freeNext_peer : (d.freeNext).peer = d.peer := rfl
@[simp] theorem Dev.freeNext_safe : (d.freeNext).safe = d.safe := rfl
@[simp] theorem Dev.freeNext_host : (d.freeNext).host = d.host := rfl
@[simp] theorem Dev.freeNext_cmd : (d.freeNext).cmd = d.cmd := rfl
@[simp] theorem Dev.freeNext_cfg : (d.freeNext).cfg = d.cfg := rfl
@[simp] theorem Dev.freeNext_store : (d.freeNext).store = d.store := rfl
@[simp] theorem Dev.freeNext_memc : (d.freeNext).memc = d.memc := rfl
@[simp] theorem Dev.freeNext_hk : (d.freeNext).hk = d.hk := rfl
@[simp] theorem Dev.freeNext_pwr : (d.freeNext).pwr = d.pwr := rfl
@[simp] theorem Dev.freeNext_rst : (d.freeNext).rst = d.rst := rfl
@[simp] theorem Dev.freeNext_evt : (d.freeNext).evt = d.evt := rfl
@[simp] theorem Dev.freeNext_tel : (d.freeNext).tel = d.tel := rfl

/-! `Dev.advance` -/
@[simp] theorem Dev.advance_regs (n : Nat) : (d.advance n).regs = d.regs := rfl
@[simp] theorem Dev.advance_wide (n : Nat) : (d.advance n).wide = d.wide := rfl
@[simp] theorem Dev.advance_held (n : Nat) : (d.advance n).held = d.held := rfl
@[simp] theorem Dev.advance_freeCtr (n : Nat) : (d.advance n).freeCtr = d.freeCtr := rfl
@[simp] theorem Dev.advance_outbox (n : Nat) : (d.advance n).outbox = d.outbox := rfl
@[simp] theorem Dev.advance_chans (n : Nat) : (d.advance n).chans = d.chans := rfl
@[simp] theorem Dev.advance_shot (n : Nat) : (d.advance n).shot = d.shot := rfl
@[simp] theorem Dev.advance_bur (n : Nat) : (d.advance n).bur = d.bur := rfl
@[simp] theorem Dev.advance_blw (n : Nat) : (d.advance n).blw = d.blw := rfl
@[simp] theorem Dev.advance_kiln (n : Nat) : (d.advance n).kiln = d.kiln := rfl
@[simp] theorem Dev.advance_turf (n : Nat) : (d.advance n).turf = d.turf := rfl
@[simp] theorem Dev.advance_taps (n : Nat) : (d.advance n).taps = d.taps := rfl
@[simp] theorem Dev.advance_scan (n : Nat) : (d.advance n).scan = d.scan := rfl
@[simp] theorem Dev.advance_out (n : Nat) : (d.advance n).out = d.out := rfl
@[simp] theorem Dev.advance_peer (n : Nat) : (d.advance n).peer = d.peer := rfl
@[simp] theorem Dev.advance_safe (n : Nat) : (d.advance n).safe = d.safe := rfl
@[simp] theorem Dev.advance_host (n : Nat) : (d.advance n).host = d.host := rfl
@[simp] theorem Dev.advance_cmd (n : Nat) : (d.advance n).cmd = d.cmd := rfl
@[simp] theorem Dev.advance_cfg (n : Nat) : (d.advance n).cfg = d.cfg := rfl
@[simp] theorem Dev.advance_store (n : Nat) : (d.advance n).store = d.store := rfl
@[simp] theorem Dev.advance_memc (n : Nat) : (d.advance n).memc = d.memc := rfl
@[simp] theorem Dev.advance_hk (n : Nat) : (d.advance n).hk = d.hk := rfl
@[simp] theorem Dev.advance_pwr (n : Nat) : (d.advance n).pwr = d.pwr := rfl
@[simp] theorem Dev.advance_rst (n : Nat) : (d.advance n).rst = d.rst := rfl
@[simp] theorem Dev.advance_evt (n : Nat) : (d.advance n).evt = d.evt := rfl
@[simp] theorem Dev.advance_tel (n : Nat) : (d.advance n).tel = d.tel := rfl

/-! `Dev.setCnt` -/
@[simp] theorem Dev.setCnt_held (c : Cnt) (v : Nat) : (d.setCnt c v).held = d.held := by unfold Dev.setCnt; split <;> rfl
@[simp] theorem Dev.setCnt_freeCtr (c : Cnt) (v : Nat) : (d.setCnt c v).freeCtr = d.freeCtr := by unfold Dev.setCnt; split <;> rfl
@[simp] theorem Dev.setCnt_outbox (c : Cnt) (v : Nat) : (d.setCnt c v).outbox = d.outbox := by unfold Dev.setCnt; split <;> rfl
@[simp] theorem Dev.setCnt_time (c : Cnt) (v : Nat) : (d.setCnt c v).time = d.time := by unfold Dev.setCnt; split <;> rfl
@[simp] theorem Dev.setCnt_chans (c : Cnt) (v : Nat) : (d.setCnt c v).chans = d.chans := by unfold Dev.setCnt; split <;> rfl
@[simp] theorem Dev.setCnt_shot (c : Cnt) (v : Nat) : (d.setCnt c v).shot = d.shot := by unfold Dev.setCnt; split <;> rfl
@[simp] theorem Dev.setCnt_bur (c : Cnt) (v : Nat) : (d.setCnt c v).bur = d.bur := by unfold Dev.setCnt; split <;> rfl
@[simp] theorem Dev.setCnt_blw (c : Cnt) (v : Nat) : (d.setCnt c v).blw = d.blw := by unfold Dev.setCnt; split <;> rfl
@[simp] theorem Dev.setCnt_kiln (c : Cnt) (v : Nat) : (d.setCnt c v).kiln = d.kiln := by unfold Dev.setCnt; split <;> rfl
@[simp] theorem Dev.setCnt_turf (c : Cnt) (v : Nat) : (d.setCnt c v).turf = d.turf := by unfold Dev.setCnt; split <;> rfl
@[simp] theorem Dev.setCnt_taps (c : Cnt) (v : Nat) : (d.setCnt c v).taps = d.taps := by unfold Dev.setCnt; split <;> rfl
@[simp] theorem Dev.setCnt_scan (c : Cnt) (v : Nat) : (d.setCnt c v).scan = d.scan := by unfold Dev.setCnt; split <;> rfl
@[simp] theorem Dev.setCnt_out (c : Cnt) (v : Nat) : (d.setCnt c v).out = d.out := by unfold Dev.setCnt; split <;> rfl
@[simp] theorem Dev.setCnt_peer (c : Cnt) (v : Nat) : (d.setCnt c v).peer = d.peer := by unfold Dev.setCnt; split <;> rfl
@[simp] theorem Dev.setCnt_safe (c : Cnt) (v : Nat) : (d.setCnt c v).safe = d.safe := by unfold Dev.setCnt; split <;> rfl
@[simp] theorem Dev.setCnt_host (c : Cnt) (v : Nat) : (d.setCnt c v).host = d.host := by unfold Dev.setCnt; split <;> rfl
@[simp] theorem Dev.setCnt_cmd (c : Cnt) (v : Nat) : (d.setCnt c v).cmd = d.cmd := by unfold Dev.setCnt; split <;> rfl
@[simp] theorem Dev.setCnt_cfg (c : Cnt) (v : Nat) : (d.setCnt c v).cfg = d.cfg := by unfold Dev.setCnt; split <;> rfl
@[simp] theorem Dev.setCnt_store (c : Cnt) (v : Nat) : (d.setCnt c v).store = d.store := by unfold Dev.setCnt; split <;> rfl
@[simp] theorem Dev.setCnt_memc (c : Cnt) (v : Nat) : (d.setCnt c v).memc = d.memc := by unfold Dev.setCnt; split <;> rfl
@[simp] theorem Dev.setCnt_hk (c : Cnt) (v : Nat) : (d.setCnt c v).hk = d.hk := by unfold Dev.setCnt; split <;> rfl
@[simp] theorem Dev.setCnt_pwr (c : Cnt) (v : Nat) : (d.setCnt c v).pwr = d.pwr := by unfold Dev.setCnt; split <;> rfl
@[simp] theorem Dev.setCnt_rst (c : Cnt) (v : Nat) : (d.setCnt c v).rst = d.rst := by unfold Dev.setCnt; split <;> rfl
@[simp] theorem Dev.setCnt_evt (c : Cnt) (v : Nat) : (d.setCnt c v).evt = d.evt := by unfold Dev.setCnt; split <;> rfl
@[simp] theorem Dev.setCnt_tel (c : Cnt) (v : Nat) : (d.setCnt c v).tel = d.tel := by unfold Dev.setCnt; split <;> rfl

/-! `Dev.bumpBy` -/
@[simp] theorem Dev.bumpBy_held (c : Cnt) (n : Nat) : (d.bumpBy c n).held = d.held := by unfold Dev.bumpBy; dsimp only; split <;> simp
@[simp] theorem Dev.bumpBy_freeCtr (c : Cnt) (n : Nat) : (d.bumpBy c n).freeCtr = d.freeCtr := by unfold Dev.bumpBy; dsimp only; split <;> simp
@[simp] theorem Dev.bumpBy_outbox (c : Cnt) (n : Nat) : (d.bumpBy c n).outbox = d.outbox := by unfold Dev.bumpBy; dsimp only; split <;> simp
@[simp] theorem Dev.bumpBy_time (c : Cnt) (n : Nat) : (d.bumpBy c n).time = d.time := by unfold Dev.bumpBy; dsimp only; split <;> simp
@[simp] theorem Dev.bumpBy_chans (c : Cnt) (n : Nat) : (d.bumpBy c n).chans = d.chans := by unfold Dev.bumpBy; dsimp only; split <;> simp
@[simp] theorem Dev.bumpBy_shot (c : Cnt) (n : Nat) : (d.bumpBy c n).shot = d.shot := by unfold Dev.bumpBy; dsimp only; split <;> simp
@[simp] theorem Dev.bumpBy_bur (c : Cnt) (n : Nat) : (d.bumpBy c n).bur = d.bur := by unfold Dev.bumpBy; dsimp only; split <;> simp
@[simp] theorem Dev.bumpBy_blw (c : Cnt) (n : Nat) : (d.bumpBy c n).blw = d.blw := by unfold Dev.bumpBy; dsimp only; split <;> simp
@[simp] theorem Dev.bumpBy_kiln (c : Cnt) (n : Nat) : (d.bumpBy c n).kiln = d.kiln := by unfold Dev.bumpBy; dsimp only; split <;> simp
@[simp] theorem Dev.bumpBy_turf (c : Cnt) (n : Nat) : (d.bumpBy c n).turf = d.turf := by unfold Dev.bumpBy; dsimp only; split <;> simp
@[simp] theorem Dev.bumpBy_taps (c : Cnt) (n : Nat) : (d.bumpBy c n).taps = d.taps := by unfold Dev.bumpBy; dsimp only; split <;> simp
@[simp] theorem Dev.bumpBy_scan (c : Cnt) (n : Nat) : (d.bumpBy c n).scan = d.scan := by unfold Dev.bumpBy; dsimp only; split <;> simp
@[simp] theorem Dev.bumpBy_out (c : Cnt) (n : Nat) : (d.bumpBy c n).out = d.out := by unfold Dev.bumpBy; dsimp only; split <;> simp
@[simp] theorem Dev.bumpBy_peer (c : Cnt) (n : Nat) : (d.bumpBy c n).peer = d.peer := by unfold Dev.bumpBy; dsimp only; split <;> simp
@[simp] theorem Dev.bumpBy_safe (c : Cnt) (n : Nat) : (d.bumpBy c n).safe = d.safe := by unfold Dev.bumpBy; dsimp only; split <;> simp
@[simp] theorem Dev.bumpBy_host (c : Cnt) (n : Nat) : (d.bumpBy c n).host = d.host := by unfold Dev.bumpBy; dsimp only; split <;> simp
@[simp] theorem Dev.bumpBy_cmd (c : Cnt) (n : Nat) : (d.bumpBy c n).cmd = d.cmd := by unfold Dev.bumpBy; dsimp only; split <;> simp
@[simp] theorem Dev.bumpBy_cfg (c : Cnt) (n : Nat) : (d.bumpBy c n).cfg = d.cfg := by unfold Dev.bumpBy; dsimp only; split <;> simp
@[simp] theorem Dev.bumpBy_store (c : Cnt) (n : Nat) : (d.bumpBy c n).store = d.store := by unfold Dev.bumpBy; dsimp only; split <;> simp
@[simp] theorem Dev.bumpBy_memc (c : Cnt) (n : Nat) : (d.bumpBy c n).memc = d.memc := by unfold Dev.bumpBy; dsimp only; split <;> simp
@[simp] theorem Dev.bumpBy_hk (c : Cnt) (n : Nat) : (d.bumpBy c n).hk = d.hk := by unfold Dev.bumpBy; dsimp only; split <;> simp
@[simp] theorem Dev.bumpBy_pwr (c : Cnt) (n : Nat) : (d.bumpBy c n).pwr = d.pwr := by unfold Dev.bumpBy; dsimp only; split <;> simp
@[simp] theorem Dev.bumpBy_rst (c : Cnt) (n : Nat) : (d.bumpBy c n).rst = d.rst := by unfold Dev.bumpBy; dsimp only; split <;> simp
@[simp] theorem Dev.bumpBy_tel (c : Cnt) (n : Nat) : (d.bumpBy c n).tel = d.tel := by unfold Dev.bumpBy; dsimp only; split <;> simp

/-! `Dev.bump` -/
@[simp] theorem Dev.bump_held (c : Cnt) : (d.bump c).held = d.held := by unfold Dev.bump; simp
@[simp] theorem Dev.bump_freeCtr (c : Cnt) : (d.bump c).freeCtr = d.freeCtr := by unfold Dev.bump; simp
@[simp] theorem Dev.bump_outbox (c : Cnt) : (d.bump c).outbox = d.outbox := by unfold Dev.bump; simp
@[simp] theorem Dev.bump_time (c : Cnt) : (d.bump c).time = d.time := by unfold Dev.bump; simp
@[simp] theorem Dev.bump_chans (c : Cnt) : (d.bump c).chans = d.chans := by unfold Dev.bump; simp
@[simp] theorem Dev.bump_shot (c : Cnt) : (d.bump c).shot = d.shot := by unfold Dev.bump; simp
@[simp] theorem Dev.bump_bur (c : Cnt) : (d.bump c).bur = d.bur := by unfold Dev.bump; simp
@[simp] theorem Dev.bump_blw (c : Cnt) : (d.bump c).blw = d.blw := by unfold Dev.bump; simp
@[simp] theorem Dev.bump_kiln (c : Cnt) : (d.bump c).kiln = d.kiln := by unfold Dev.bump; simp
@[simp] theorem Dev.bump_turf (c : Cnt) : (d.bump c).turf = d.turf := by unfold Dev.bump; simp
@[simp] theorem Dev.bump_taps (c : Cnt) : (d.bump c).taps = d.taps := by unfold Dev.bump; simp
@[simp] theorem Dev.bump_scan (c : Cnt) : (d.bump c).scan = d.scan := by unfold Dev.bump; simp
@[simp] theorem Dev.bump_out (c : Cnt) : (d.bump c).out = d.out := by unfold Dev.bump; simp
@[simp] theorem Dev.bump_peer (c : Cnt) : (d.bump c).peer = d.peer := by unfold Dev.bump; simp
@[simp] theorem Dev.bump_safe (c : Cnt) : (d.bump c).safe = d.safe := by unfold Dev.bump; simp
@[simp] theorem Dev.bump_host (c : Cnt) : (d.bump c).host = d.host := by unfold Dev.bump; simp
@[simp] theorem Dev.bump_cmd (c : Cnt) : (d.bump c).cmd = d.cmd := by unfold Dev.bump; simp
@[simp] theorem Dev.bump_cfg (c : Cnt) : (d.bump c).cfg = d.cfg := by unfold Dev.bump; simp
@[simp] theorem Dev.bump_store (c : Cnt) : (d.bump c).store = d.store := by unfold Dev.bump; simp
@[simp] theorem Dev.bump_memc (c : Cnt) : (d.bump c).memc = d.memc := by unfold Dev.bump; simp
@[simp] theorem Dev.bump_hk (c : Cnt) : (d.bump c).hk = d.hk := by unfold Dev.bump; simp
@[simp] theorem Dev.bump_pwr (c : Cnt) : (d.bump c).pwr = d.pwr := by unfold Dev.bump; simp
@[simp] theorem Dev.bump_rst (c : Cnt) : (d.bump c).rst = d.rst := by unfold Dev.bump; simp
@[simp] theorem Dev.bump_tel (c : Cnt) : (d.bump c).tel = d.tel := by unfold Dev.bump; simp

/-! `Dev.sticky` -/
@[simp] theorem Dev.sticky_wide (a n src : Nat) : (d.sticky a n src).wide = d.wide := by unfold Dev.sticky; split <;> simp
@[simp] theorem Dev.sticky_held (a n src : Nat) : (d.sticky a n src).held = d.held := by unfold Dev.sticky; split <;> simp
@[simp] theorem Dev.sticky_freeCtr (a n src : Nat) : (d.sticky a n src).freeCtr = d.freeCtr := by unfold Dev.sticky; split <;> simp
@[simp] theorem Dev.sticky_outbox (a n src : Nat) : (d.sticky a n src).outbox = d.outbox := by unfold Dev.sticky; split <;> simp
@[simp] theorem Dev.sticky_time (a n src : Nat) : (d.sticky a n src).time = d.time := by unfold Dev.sticky; split <;> simp
@[simp] theorem Dev.sticky_chans (a n src : Nat) : (d.sticky a n src).chans = d.chans := by unfold Dev.sticky; split <;> simp
@[simp] theorem Dev.sticky_shot (a n src : Nat) : (d.sticky a n src).shot = d.shot := by unfold Dev.sticky; split <;> simp
@[simp] theorem Dev.sticky_bur (a n src : Nat) : (d.sticky a n src).bur = d.bur := by unfold Dev.sticky; split <;> simp
@[simp] theorem Dev.sticky_blw (a n src : Nat) : (d.sticky a n src).blw = d.blw := by unfold Dev.sticky; split <;> simp
@[simp] theorem Dev.sticky_kiln (a n src : Nat) : (d.sticky a n src).kiln = d.kiln := by unfold Dev.sticky; split <;> simp
@[simp] theorem Dev.sticky_turf (a n src : Nat) : (d.sticky a n src).turf = d.turf := by unfold Dev.sticky; split <;> simp
@[simp] theorem Dev.sticky_taps (a n src : Nat) : (d.sticky a n src).taps = d.taps := by unfold Dev.sticky; split <;> simp
@[simp] theorem Dev.sticky_scan (a n src : Nat) : (d.sticky a n src).scan = d.scan := by unfold Dev.sticky; split <;> simp
@[simp] theorem Dev.sticky_out (a n src : Nat) : (d.sticky a n src).out = d.out := by unfold Dev.sticky; split <;> simp
@[simp] theorem Dev.sticky_peer (a n src : Nat) : (d.sticky a n src).peer = d.peer := by unfold Dev.sticky; split <;> simp
@[simp] theorem Dev.sticky_safe (a n src : Nat) : (d.sticky a n src).safe = d.safe := by unfold Dev.sticky; split <;> simp
@[simp] theorem Dev.sticky_host (a n src : Nat) : (d.sticky a n src).host = d.host := by unfold Dev.sticky; split <;> simp
@[simp] theorem Dev.sticky_cmd (a n src : Nat) : (d.sticky a n src).cmd = d.cmd := by unfold Dev.sticky; split <;> simp
@[simp] theorem Dev.sticky_cfg (a n src : Nat) : (d.sticky a n src).cfg = d.cfg := by unfold Dev.sticky; split <;> simp
@[simp] theorem Dev.sticky_store (a n src : Nat) : (d.sticky a n src).store = d.store := by unfold Dev.sticky; split <;> simp
@[simp] theorem Dev.sticky_memc (a n src : Nat) : (d.sticky a n src).memc = d.memc := by unfold Dev.sticky; split <;> simp
@[simp] theorem Dev.sticky_hk (a n src : Nat) : (d.sticky a n src).hk = d.hk := by unfold Dev.sticky; split <;> simp
@[simp] theorem Dev.sticky_pwr (a n src : Nat) : (d.sticky a n src).pwr = d.pwr := by unfold Dev.sticky; split <;> simp
@[simp] theorem Dev.sticky_rst (a n src : Nat) : (d.sticky a n src).rst = d.rst := by unfold Dev.sticky; split <;> simp
@[simp] theorem Dev.sticky_tel (a n src : Nat) : (d.sticky a n src).tel = d.tel := by unfold Dev.sticky; split <;> simp

/-! The start of a step -/
@[simp] theorem Dev.begin__regs : d.begin_.regs = d.regs := rfl
@[simp] theorem Dev.begin__wide : d.begin_.wide = d.wide := rfl
@[simp] theorem Dev.begin__held : d.begin_.held = d.held := rfl
@[simp] theorem Dev.begin__freeCtr : d.begin_.freeCtr = d.freeCtr := rfl
@[simp] theorem Dev.begin__time : d.begin_.time = d.time := rfl
@[simp] theorem Dev.begin__chans : d.begin_.chans = d.chans := rfl
@[simp] theorem Dev.begin__shot : d.begin_.shot = d.shot := rfl
@[simp] theorem Dev.begin__bur : d.begin_.bur = d.bur := rfl
@[simp] theorem Dev.begin__blw : d.begin_.blw = d.blw := rfl
@[simp] theorem Dev.begin__kiln : d.begin_.kiln = d.kiln := rfl
@[simp] theorem Dev.begin__turf : d.begin_.turf = d.turf := rfl
@[simp] theorem Dev.begin__taps : d.begin_.taps = d.taps := rfl
@[simp] theorem Dev.begin__scan : d.begin_.scan = d.scan := rfl
@[simp] theorem Dev.begin__out : d.begin_.out = d.out := rfl
@[simp] theorem Dev.begin__safe : d.begin_.safe = d.safe := rfl
@[simp] theorem Dev.begin__cmd : d.begin_.cmd = d.cmd := rfl
@[simp] theorem Dev.begin__cfg : d.begin_.cfg = d.cfg := rfl
@[simp] theorem Dev.begin__store : d.begin_.store = d.store := rfl
@[simp] theorem Dev.begin__memc : d.begin_.memc = d.memc := rfl
@[simp] theorem Dev.begin__hk : d.begin_.hk = d.hk := rfl
@[simp] theorem Dev.begin__pwr : d.begin_.pwr = d.pwr := rfl
@[simp] theorem Dev.begin__rst : d.begin_.rst = d.rst := rfl
@[simp] theorem Dev.begin__tel : d.begin_.tel = d.tel := rfl
@[simp] theorem Dev.begin__outbox : d.begin_.outbox = [] := rfl
@[simp] theorem Dev.begin__raised : d.begin_.evt.raised = [] := rfl
@[simp] theorem Dev.begin__reg (a : Nat) : d.begin_.reg a = d.reg a := rfl
@[simp] theorem Dev.begin__fld (f : Fld) : d.begin_.fld f = d.fld f := rfl
@[simp] theorem Dev.begin__flag (f : Fld) : d.begin_.flag f = d.flag f := rfl

end Sys2Proof.Machine
end

