-- ==== Sys2Proof/Laws/Ops.lean ====
section
/-! SUPPORT. What the shared operations do, each said once: reads of registers after writes, what the event logic touches, what a
step does around the work of a command, and what reaches device memory. -/

namespace Sys2Proof.Machine

variable (d : Dev)

/-! ## Registers -/

theorem Dev.reg_put (a b : Nat) (v : Word) : (d.put a v).reg b = if b = a then v else d.reg b := sget_sset regReset a b v d.regs

theorem Dev.reg_put_ne (a b : Nat) (v : Word) (h : b ≠ a) : (d.put a v).reg b = d.reg b := by rw [Dev.reg_put, if_neg h]

@[simp] theorem Dev.reg_put_self (a : Nat) (v : Word) : (d.put a v).reg a = v := by simp [Dev.reg_put]

/-- A field reads what was written to it. -/
theorem Dev.fld_setFld_self (f : Fld) (v : Nat) (h : f.lo + f.width ≤ 32) : (d.setFld f v).fld f = v % 2 ^ f.width := by
  simp [Dev.fld, Dev.setFld, field_withField _ _ _ _ h]

/-- A field of another register, or apart in the same one, keeps its value. -/
theorem Dev.fld_setFld_apart (f g : Fld) (v : Nat) (h : f.lo + f.width ≤ 32)
    (ha : g.addr ≠ f.addr ∨ g.lo + g.width ≤ f.lo ∨ f.lo + f.width ≤ g.lo) : (d.setFld f v).fld g = d.fld g := by
  unfold Dev.fld Dev.setFld
  rw [Dev.reg_put]
  split
  · rename_i e
    rcases ha with ha | ha
    · exact absurd e ha
    · rw [field_withField_apart _ _ _ _ _ _ h ha, e]
  · rfl

theorem Dev.flag_setFlag_self (f : Fld) (b : Bool) (h : f.lo + f.width ≤ 32) (hw : f.width = 1) : (d.setFlag f b).flag f = b := by
  unfold Dev.flag Dev.setFlag
  rw [Dev.fld_setFld_self d f _ h, hw]
  cases b <;> rfl

theorem Dev.flag_setFld_apart (f g : Fld) (v : Nat) (h : f.lo + f.width ≤ 32)
    (ha : g.addr ≠ f.addr ∨ g.lo + g.width ≤ f.lo ∨ f.lo + f.width ≤ g.lo) : (d.setFld f v).flag g = d.flag g := by
  unfold Dev.flag; rw [Dev.fld_setFld_apart d f g v h ha]

theorem Dev.flag_setFlag_apart (f g : Fld) (b : Bool) (h : f.lo + f.width ≤ 32)
    (ha : g.addr ≠ f.addr ∨ g.lo + g.width ≤ f.lo ∨ f.lo + f.width ≤ g.lo) : (d.setFlag f b).flag g = d.flag g :=
  Dev.flag_setFld_apart d f g _ h ha

theorem Dev.fld_setFlag_apart (f g : Fld) (b : Bool) (h : f.lo + f.width ≤ 32)
    (ha : g.addr ≠ f.addr ∨ g.lo + g.width ≤ f.lo ∨ f.lo + f.width ≤ g.lo) : (d.setFlag f b).fld g = d.fld g :=
  Dev.fld_setFld_apart d f g _ h ha

theorem Dev.bit_setBit_self (a n : Nat) (b : Bool) (h : n < 32) : (d.setBit a n b).bit a n = b := by
  have e : field (withField (d.reg a) n 1 (b2n b)) n 1 = b2n b % 2 ^ 1 := field_withField _ n 1 _ (by omega)
  unfold Dev.bit Dev.setBit bitAt
  rw [Dev.reg_put_self]
  unfold field at e
  rw [show (2 : Nat) ^ 1 = 2 from rfl] at e
  rw [e]
  cases b <;> rfl

@[simp] theorem Dev.reg_putWide (lo v b : Nat) : (d.putWide lo v).reg b = d.reg b := rfl
@[simp] theorem Dev.reg_raiseAs (n : Nat) (t : Bool) (x y b : Nat) : (d.raiseAs n t x y).reg b = d.reg b := rfl
@[simp] theorem Dev.reg_raise (n x y b : Nat) : (d.raise n x y).reg b = d.reg b := rfl
@[simp] theorem Dev.reg_raiseReg (n a b : Nat) : (d.raiseReg n a).reg b = d.reg b := rfl
@[simp] theorem Dev.reg_memw (a : Nat) (bs : List Byte) (b : Nat) : (d.memw a bs).reg b = d.reg b := rfl
@[simp] theorem Dev.reg_freeNext (b : Nat) : d.freeNext.reg b = d.reg b := rfl
theorem Dev.wide64_putWide (lo v b : Nat) : (d.putWide lo v).wide64 b = if b = lo then v % 2 ^ 64 else d.wide64 b := by
  unfold Dev.wide64 Dev.putWide
  simp only [sget_sset]
  split <;> simp

/-- Registers read alike in parts that hold the same registers. -/
theorem Dev.reg_congr {x y : Dev} (h : x.regs = y.regs) (a : Nat) : x.reg a = y.reg a := by unfold Dev.reg; rw [h]

theorem Dev.fld_congr {x y : Dev} (h : x.regs = y.regs) (f : Fld) : x.fld f = y.fld f := by unfold Dev.fld; rw [Dev.reg_congr h]

/-- A register that a setting of a field or bit does not name. -/
theorem Dev.reg_setFld_ne (f : Fld) (v b : Nat) (h : b ≠ f.addr) : (d.setFld f v).reg b = d.reg b := by
  simp [Dev.setFld, Dev.reg_put, h]
theorem Dev.reg_setFlag_ne (f : Fld) (v : Bool) (b : Nat) (h : b ≠ f.addr) : (d.setFlag f v).reg b = d.reg b :=
  Dev.reg_setFld_ne d f _ b h
theorem Dev.fld_put_ne (f : Fld) (a : Nat) (v : Word) (h : f.addr ≠ a) : (d.put a v).fld f = d.fld f := by
  unfold Dev.fld; rw [Dev.reg_put_ne d _ _ _ h]

theorem Dev.flag_put_ne (f : Fld) (a : Nat) (v : Word) (h : f.addr ≠ a) : (d.put a v).flag f = d.flag f := by
  unfold Dev.flag; rw [Dev.fld_put_ne d _ _ _ h]

theorem Dev.reg_setBit_ne (a n : Nat) (v : Bool) (b : Nat) (h : b ≠ a) : (d.setBit a n v).reg b = d.reg b := by
  simp [Dev.setBit, Dev.reg_put, h]

/-! ## The event logic -/

/-- What the event logic leaves as it was: the whole part but some registers of its own, its own state, the PBA and messages to the
host, and writes that wait for device memory. -/
structure EvtFrame (x y : Dev) : Prop where
  reg : ∀ a, evtOwn a = false → y.reg a = x.reg a
  rest : ∃ r w b e o, y = { x with regs := r, host := { x.host with writes := w, pba := b }, evt := e, outbox := o }

theorem EvtFrame.refl (x : Dev) : EvtFrame x x := ⟨fun _ _ => rfl, ⟨_, _, _, _, _, rfl⟩⟩

theorem EvtFrame.trans {x y z : Dev} (h : EvtFrame x y) (g : EvtFrame y z) : EvtFrame x z := by
  refine ⟨fun a ha => (g.reg a ha).trans (h.reg a ha), ?_⟩
  obtain ⟨r, w, b, e, o, hy⟩ := h.rest
  obtain ⟨r', w', b', e', o', hz⟩ := g.rest
  exact ⟨r', w', b', e', o', by rw [hz, hy]⟩

theorem evtFrame_put (a : Nat) (v : Word) (h : evtOwn a = true) : EvtFrame d (d.put a v) := by
  refine ⟨fun b hb => ?_, ⟨(d.put a v).regs, d.host.writes, d.host.pba, d.evt, d.outbox, rfl⟩⟩
  rw [Dev.reg_put, if_neg]
  rintro rfl
  rw [h] at hb; cases hb

theorem evtFrame_evt (e : EvtSt) : EvtFrame d { d with evt := e } :=
  ⟨fun _ _ => rfl, ⟨d.regs, d.host.writes, d.host.pba, e, d.outbox, rfl⟩⟩

theorem evtFrame_sendMsi (v : Nat) : EvtFrame d (d.sendMsi v) := by
  unfold Dev.sendMsi
  split
  · exact ⟨fun _ _ => rfl, ⟨d.regs, _, _, _, d.outbox, rfl⟩⟩
  · exact ⟨fun _ _ => rfl, ⟨d.regs, d.host.writes, _, d.evt, d.outbox, rfl⟩⟩

theorem evtFrame_dueMsi (v : Nat) : EvtFrame d (d.dueMsi v) := by
  unfold Dev.dueMsi
  split
  · exact evtFrame_evt d _
  · exact evtFrame_sendMsi d v

theorem evtFrame_pend (src : Nat) (h : src < 640) : EvtFrame d (d.setBit (Reg.EVT_PEND (src / 32)) (src % 32) true) := by
  refine evtFrame_put d _ _ ?_
  simp only [evtOwn, Reg.EVT_PEND, decide_eq_true_eq]
  omega

theorem evtFrame_routeMsi (src : Nat) : EvtFrame d (d.routeMsi src) := by
  unfold Dev.routeMsi
  dsimp only
  split
  · exact evtFrame_dueMsi _ _
  · exact EvtFrame.refl d

theorem evtFrame_signal (src : Nat) (h : src < 640) : EvtFrame d (d.signal src) :=
  (evtFrame_pend d src h).trans (evtFrame_routeMsi _ src)

theorem evtFrame_countDrop : EvtFrame d d.countDrop := by
  have h1 (v : Nat) : EvtFrame d (d.setCnt C.EVT_RING_DROP_CNT v).noteDrop :=
    (evtFrame_put d Reg.EVT_RING_DROP_CNT (BitVec.ofNat 32 v) rfl).trans (evtFrame_evt _ _)
  unfold Dev.countDrop
  dsimp only
  split
  · exact (h1 _).trans ((evtFrame_put _ _ _ rfl).trans ((evtFrame_signal _ evCounterSat (by decide)).trans (evtFrame_evt _ _)))
  · exact h1 _

theorem evtFrame_dropRecord : EvtFrame d d.dropRecord := by
  refine (evtFrame_countDrop d).trans ?_
  show EvtFrame d.countDrop d.countDrop.sayFull
  unfold Dev.sayFull
  split
  · exact (evtFrame_signal _ evRingOvf (by decide)).trans (evtFrame_evt _ _)
  · exact EvtFrame.refl _

theorem evtFrame_outbox (o : List MemOp) : EvtFrame d { d with outbox := o } :=
  ⟨fun _ _ => rfl, ⟨d.regs, d.host.writes, d.host.pba, d.evt, o, rfl⟩⟩

theorem evtFrame_passRecord : EvtFrame d d.passRecord :=
  (evtFrame_put d Reg.EVT_RING_WR _ rfl).trans (evtFrame_put _ F.EVT_STAT_FULL.addr _ rfl)

theorem evtFrame_writeRecord (r : Raised) : EvtFrame d (d.writeRecord r) := by
  unfold Dev.writeRecord
  split
  · exact (evtFrame_outbox d _).trans ((evtFrame_passRecord _).trans (evtFrame_evt _ _))
  · exact evtFrame_dropRecord d

theorem evtFrame_postEvent (r : Raised) : EvtFrame d (d.postEvent r) := by
  unfold Dev.postEvent
  split
  · exact EvtFrame.refl d
  · refine (evtFrame_pend d r.src (by omega)).trans (EvtFrame.trans ?_ (evtFrame_routeMsi _ _))
    unfold Dev.routeRecord
    split
    · exact evtFrame_writeRecord _ r
    · exact EvtFrame.refl _

/-- The event logic, over all raisings of a step. -/
theorem evtFrame_settle : EvtFrame d d.settle := by
  have h : ∀ (l : List Raised) (x : Dev), EvtFrame x (l.foldl Dev.postEvent x) := by
    intro l
    induction l with
    | nil => exact EvtFrame.refl
    | cons r l ih => exact fun x => (evtFrame_postEvent x r).trans (ih _)
  exact (evtFrame_evt d _).trans (h _ _)

/-! ## Writes to device memory -/

theorem memPoke_wf (l : List (Nat × Byte)) (m : List Host.Cell) (h : Memory.wf m = true) : Memory.wf (memPoke m l) = true := by
  induction l generalizing m with
  | nil => exact h
  | cons e l ih => exact ih _ (memSetByte_wf m e.1 e.2 h)

/-- What a write to device memory leaves of the part: all but the write-merge lines and the recorded errors. -/
theorem applyOp_dev (x : List Host.Cell × Dev) (op : MemOp) :
    ∃ f l, (applyOp x op).2 = { x.2 with memc := { x.2.memc with faults := f, lines := l } } := by
  have hm : ∀ (m : MemSt) (l lo hi : Nat), ∃ f ls, m.mergeLine l lo hi = { m with faults := f, lines := ls } := by
    intro m l lo hi
    unfold MemSt.mergeLine
    dsimp only
    split
    · exact ⟨_, _, rfl⟩
    · split
      · exact ⟨m.faults, _, rfl⟩
      · exact ⟨m.faults, _, rfl⟩
  have hn : ∀ (k : Nat) (m : MemSt) (a n : Nat), ∃ f l, MemSt.noteWrite k m a n = { m with faults := f, lines := l } := by
    intro k
    induction k with
    | zero => exact fun m _ _ => ⟨m.faults, m.lines, rfl⟩
    | succ k ih =>
      intro m a n
      unfold MemSt.noteWrite
      split
      · exact ⟨m.faults, m.lines, rfl⟩
      · dsimp only
        obtain ⟨f, l, h⟩ := hm m (a / 256) (a % 256) (a % 256 + min n (256 - a % 256))
        obtain ⟨f', l', h'⟩ := ih (m.mergeLine (a / 256) (a % 256) (a % 256 + min n (256 - a % 256))) (a + min n (256 - a % 256))
          (n - min n (256 - a % 256))
        exact ⟨f', l', by rw [h', h]⟩
  obtain ⟨m, y⟩ := x
  cases op with
  | write a bs =>
    simp only [applyOp]
    split
    · exact ⟨y.memc.faults, y.memc.lines, rfl⟩
    · obtain ⟨f, l, h⟩ := hn (bs.length / 256 + 2) y.memc a bs.length
      exact ⟨f, l, by rw [h]⟩
  | zero a n =>
    simp only [applyOp]
    split
    · exact ⟨y.memc.faults, y.memc.lines, rfl⟩
    · exact ⟨_, _, rfl⟩

theorem applyOp_wf (x : List Host.Cell × Dev) (op : MemOp) (h : Memory.wf x.1 = true) : Memory.wf (applyOp x op).1 = true := by
  obtain ⟨m, y⟩ := x
  cases op with
  | write a bs =>
    simp only [applyOp]
    split
    · exact memPoke_wf _ m h
    · exact memWrite_wf bs m a h
  | zero a n =>
    simp only [applyOp]
    split
    · exact h
    · exact memZero_wf m a n h

theorem foldl_applyOp_wf (ops : List MemOp) (x : List Host.Cell × Dev) (h : Memory.wf x.1 = true) :
    Memory.wf (ops.foldl applyOp x).1 = true := by
  induction ops generalizing x with
  | nil => exact h
  | cons o l ih => exact ih _ (applyOp_wf x o h)

theorem foldl_applyOp_dev (ops : List MemOp) (x : List Host.Cell × Dev) :
    ∃ f l, (ops.foldl applyOp x).2 = { x.2 with memc := { x.2.memc with faults := f, lines := l } } := by
  induction ops generalizing x with
  | nil => exact ⟨x.2.memc.faults, x.2.memc.lines, rfl⟩
  | cons o l ih =>
    obtain ⟨f, g, h⟩ := applyOp_dev x o
    obtain ⟨f', g', h'⟩ := ih (applyOp x o)
    exact ⟨f', g', by rw [List.foldl_cons, h', h]⟩

/-- Writes reach device memory in its canonical form. -/
theorem flushOut_wf (m : List Host.Cell) (h : Memory.wf m = true) : Memory.wf (flushOut m d).1 = true :=
  foldl_applyOp_wf d.outbox (m, d) h

/-- What the writes leave of the part: all but the write-merge lines and the recorded errors; none waits any more. -/
theorem flushOut_dev (m : List Host.Cell) :
    ∃ f l, (flushOut m d).2 = { d with outbox := [], memc := { d.memc with faults := f, lines := l } } := by
  obtain ⟨f, l, h⟩ := foldl_applyOp_dev d.outbox (m, d)
  exact ⟨f, l, by simp only [flushOut, h]⟩

/-! ## The frame of a step -/

/-- What a step leaves of the part beyond the work of its command: the event logic's own state, the PBA and the messages to the
host, and the write-merge lines and recorded errors of device memory. -/
theorem onDev_dev (s : State) (f : List Host.Cell → Dev → Dev) :
    (∀ a, evtOwn a = false → (s.onDev f).dev.reg a = (f s.mem s.dev.begin_).reg a) ∧
    ∃ r w b e fa li, (s.onDev f).dev = { f s.mem s.dev.begin_ with
      regs := r, host := { (f s.mem s.dev.begin_).host with writes := w, pba := b }, evt := e, outbox := [],
      memc := { (f s.mem s.dev.begin_).memc with faults := fa, lines := li } } := by
  generalize hx : f s.mem s.dev.begin_ = x
  have hs := evtFrame_settle x
  obtain ⟨fa, li, hf⟩ := flushOut_dev x.settle s.mem
  have hd : (s.onDev f).dev = (flushOut s.mem x.settle).2 := by simp only [State.onDev, hx]
  obtain ⟨r, w, b, e, o, hr⟩ := hs.rest
  refine ⟨fun a ha => ?_, r, w, b, e, fa, li, ?_⟩
  · rw [hd, hf, ← hs.reg a ha]; rfl
  · rw [hd, hf, hr]

@[simp] theorem onDev_pending (s : State) (f : List Host.Cell → Dev → Dev) : (s.onDev f).pending = s.pending := rfl

theorem onDev_reg (s : State) (f : List Host.Cell → Dev → Dev) (a : Nat) (h : evtOwn a = false) :
    (s.onDev f).dev.reg a = (f s.mem s.dev.begin_).reg a := (onDev_dev s f).1 a h

theorem onDev_fld (s : State) (f : List Host.Cell → Dev → Dev) (g : Fld) (h : evtOwn g.addr = false) :
    (s.onDev f).dev.fld g = (f s.mem s.dev.begin_).fld g := by unfold Dev.fld; rw [onDev_reg s f _ h]

theorem onDev_flag (s : State) (f : List Host.Cell → Dev → Dev) (g : Fld) (h : evtOwn g.addr = false) :
    (s.onDev f).dev.flag g = (f s.mem s.dev.begin_).flag g := by unfold Dev.flag; rw [onDev_fld s f _ h]

@[simp] theorem onDev_wide (s : State) (f : List Host.Cell → Dev → Dev) : (s.onDev f).dev.wide = (f s.mem s.dev.begin_).wide := by
  obtain ⟨r, w, b, e, fa, li, h⟩ := (onDev_dev s f).2; rw [h]
@[simp] theorem onDev_held (s : State) (f : List Host.Cell → Dev → Dev) : (s.onDev f).dev.held = (f s.mem s.dev.begin_).held := by
  obtain ⟨r, w, b, e, fa, li, h⟩ := (onDev_dev s f).2; rw [h]
@[simp] theorem onDev_freeCtr (s : State) (f : List Host.Cell → Dev → Dev) : (s.onDev f).dev.freeCtr = (f s.mem s.dev.begin_).freeCtr := by
  obtain ⟨r, w, b, e, fa, li, h⟩ := (onDev_dev s f).2; rw [h]
@[simp] theorem onDev_time (s : State) (f : List Host.Cell → Dev → Dev) : (s.onDev f).dev.time = (f s.mem s.dev.begin_).time := by
  obtain ⟨r, w, b, e, fa, li, h⟩ := (onDev_dev s f).2; rw [h]
@[simp] theorem onDev_chans (s : State) (f : List Host.Cell → Dev → Dev) : (s.onDev f).dev.chans = (f s.mem s.dev.begin_).chans := by
  obtain ⟨r, w, b, e, fa, li, h⟩ := (onDev_dev s f).2; rw [h]
@[simp] theorem onDev_shot (s : State) (f : List Host.Cell → Dev → Dev) : (s.onDev f).dev.shot = (f s.mem s.dev.begin_).shot := by
  obtain ⟨r, w, b, e, fa, li, h⟩ := (onDev_dev s f).2; rw [h]
@[simp] theorem onDev_bur (s : State) (f : List Host.Cell → Dev → Dev) : (s.onDev f).dev.bur = (f s.mem s.dev.begin_).bur := by
  obtain ⟨r, w, b, e, fa, li, h⟩ := (onDev_dev s f).2; rw [h]
@[simp] theorem onDev_blw (s : State) (f : List Host.Cell → Dev → Dev) : (s.onDev f).dev.blw = (f s.mem s.dev.begin_).blw := by
  obtain ⟨r, w, b, e, fa, li, h⟩ := (onDev_dev s f).2; rw [h]
@[simp] theorem onDev_kiln (s : State) (f : List Host.Cell → Dev → Dev) : (s.onDev f).dev.kiln = (f s.mem s.dev.begin_).kiln := by
  obtain ⟨r, w, b, e, fa, li, h⟩ := (onDev_dev s f).2; rw [h]
@[simp] theorem onDev_turf (s : State) (f : List Host.Cell → Dev → Dev) : (s.onDev f).dev.turf = (f s.mem s.dev.begin_).turf := by
  obtain ⟨r, w, b, e, fa, li, h⟩ := (onDev_dev s f).2; rw [h]
@[simp] theorem onDev_taps (s : State) (f : List Host.Cell → Dev → Dev) : (s.onDev f).dev.taps = (f s.mem s.dev.begin_).taps := by
  obtain ⟨r, w, b, e, fa, li, h⟩ := (onDev_dev s f).2; rw [h]
@[simp] theorem onDev_scan (s : State) (f : List Host.Cell → Dev → Dev) : (s.onDev f).dev.scan = (f s.mem s.dev.begin_).scan := by
  obtain ⟨r, w, b, e, fa, li, h⟩ := (onDev_dev s f).2; rw [h]
@[simp] theorem onDev_out (s : State) (f : List Host.Cell → Dev → Dev) : (s.onDev f).dev.out = (f s.mem s.dev.begin_).out := by
  obtain ⟨r, w, b, e, fa, li, h⟩ := (onDev_dev s f).2; rw [h]
@[simp] theorem onDev_peer (s : State) (f : List Host.Cell → Dev → Dev) : (s.onDev f).dev.peer = (f s.mem s.dev.begin_).peer := by
  obtain ⟨r, w, b, e, fa, li, h⟩ := (onDev_dev s f).2; rw [h]
@[simp] theorem onDev_safe (s : State) (f : List Host.Cell → Dev → Dev) : (s.onDev f).dev.safe = (f s.mem s.dev.begin_).safe := by
  obtain ⟨r, w, b, e, fa, li, h⟩ := (onDev_dev s f).2; rw [h]
@[simp] theorem onDev_cmd (s : State) (f : List Host.Cell → Dev → Dev) : (s.onDev f).dev.cmd = (f s.mem s.dev.begin_).cmd := by
  obtain ⟨r, w, b, e, fa, li, h⟩ := (onDev_dev s f).2; rw [h]
@[simp] theorem onDev_cfg (s : State) (f : List Host.Cell → Dev → Dev) : (s.onDev f).dev.cfg = (f s.mem s.dev.begin_).cfg := by
  obtain ⟨r, w, b, e, fa, li, h⟩ := (onDev_dev s f).2; rw [h]
@[simp] theorem onDev_store (s : State) (f : List Host.Cell → Dev → Dev) : (s.onDev f).dev.store = (f s.mem s.dev.begin_).store := by
  obtain ⟨r, w, b, e, fa, li, h⟩ := (onDev_dev s f).2; rw [h]
@[simp] theorem onDev_hk (s : State) (f : List Host.Cell → Dev → Dev) : (s.onDev f).dev.hk = (f s.mem s.dev.begin_).hk := by
  obtain ⟨r, w, b, e, fa, li, h⟩ := (onDev_dev s f).2; rw [h]
@[simp] theorem onDev_pwr (s : State) (f : List Host.Cell → Dev → Dev) : (s.onDev f).dev.pwr = (f s.mem s.dev.begin_).pwr := by
  obtain ⟨r, w, b, e, fa, li, h⟩ := (onDev_dev s f).2; rw [h]
@[simp] theorem onDev_rst (s : State) (f : List Host.Cell → Dev → Dev) : (s.onDev f).dev.rst = (f s.mem s.dev.begin_).rst := by
  obtain ⟨r, w, b, e, fa, li, h⟩ := (onDev_dev s f).2; rw [h]
@[simp] theorem onDev_tel (s : State) (f : List Host.Cell → Dev → Dev) : (s.onDev f).dev.tel = (f s.mem s.dev.begin_).tel := by
  obtain ⟨r, w, b, e, fa, li, h⟩ := (onDev_dev s f).2; rw [h]
@[simp] theorem onDev_host_linkUp (s : State) (f : List Host.Cell → Dev → Dev) :
    (s.onDev f).dev.host.linkUp = (f s.mem s.dev.begin_).host.linkUp := by
  obtain ⟨r, w, b, e, fa, li, h⟩ := (onDev_dev s f).2; rw [h]
@[simp] theorem onDev_host_modeFixed (s : State) (f : List Host.Cell → Dev → Dev) :
    (s.onDev f).dev.host.modeFixed = (f s.mem s.dev.begin_).host.modeFixed := by
  obtain ⟨r, w, b, e, fa, li, h⟩ := (onDev_dev s f).2; rw [h]
@[simp] theorem onDev_host_degradedSaid (s : State) (f : List Host.Cell → Dev → Dev) :
    (s.onDev f).dev.host.degradedSaid = (f s.mem s.dev.begin_).host.degradedSaid := by
  obtain ⟨r, w, b, e, fa, li, h⟩ := (onDev_dev s f).2; rw [h]
@[simp] theorem onDev_host_retryStatus (s : State) (f : List Host.Cell → Dev → Dev) :
    (s.onDev f).dev.host.retryStatus = (f s.mem s.dev.begin_).host.retryStatus := by
  obtain ⟨r, w, b, e, fa, li, h⟩ := (onDev_dev s f).2; rw [h]
@[simp] theorem onDev_host_d3hot (s : State) (f : List Host.Cell → Dev → Dev) :
    (s.onDev f).dev.host.d3hot = (f s.mem s.dev.begin_).host.d3hot := by
  obtain ⟨r, w, b, e, fa, li, h⟩ := (onDev_dev s f).2; rw [h]
@[simp] theorem onDev_host_memEnable (s : State) (f : List Host.Cell → Dev → Dev) :
    (s.onDev f).dev.host.memEnable = (f s.mem s.dev.begin_).host.memEnable := by
  obtain ⟨r, w, b, e, fa, li, h⟩ := (onDev_dev s f).2; rw [h]
@[simp] theorem onDev_host_cacheEnable (s : State) (f : List Host.Cell → Dev → Dev) :
    (s.onDev f).dev.host.cacheEnable = (f s.mem s.dev.begin_).host.cacheEnable := by
  obtain ⟨r, w, b, e, fa, li, h⟩ := (onDev_dev s f).2; rw [h]
@[simp] theorem onDev_host_busMaster (s : State) (f : List Host.Cell → Dev → Dev) :
    (s.onDev f).dev.host.busMaster = (f s.mem s.dev.begin_).host.busMaster := by
  obtain ⟨r, w, b, e, fa, li, h⟩ := (onDev_dev s f).2; rw [h]
@[simp] theorem onDev_host_biEnable (s : State) (f : List Host.Cell → Dev → Dev) :
    (s.onDev f).dev.host.biEnable = (f s.mem s.dev.begin_).host.biEnable := by
  obtain ⟨r, w, b, e, fa, li, h⟩ := (onDev_dev s f).2; rw [h]
@[simp] theorem onDev_host_msixEnable (s : State) (f : List Host.Cell → Dev → Dev) :
    (s.onDev f).dev.host.msixEnable = (f s.mem s.dev.begin_).host.msixEnable := by
  obtain ⟨r, w, b, e, fa, li, h⟩ := (onDev_dev s f).2; rw [h]
@[simp] theorem onDev_host_msixMask (s : State) (f : List Host.Cell → Dev → Dev) :
    (s.onDev f).dev.host.msixMask = (f s.mem s.dev.begin_).host.msixMask := by
  obtain ⟨r, w, b, e, fa, li, h⟩ := (onDev_dev s f).2; rw [h]
@[simp] theorem onDev_host_msix (s : State) (f : List Host.Cell → Dev → Dev) :
    (s.onDev f).dev.host.msix = (f s.mem s.dev.begin_).host.msix := by
  obtain ⟨r, w, b, e, fa, li, h⟩ := (onDev_dev s f).2; rw [h]
@[simp] theorem onDev_host_committed (s : State) (f : List Host.Cell → Dev → Dev) :
    (s.onDev f).dev.host.committed = (f s.mem s.dev.begin_).host.committed := by
  obtain ⟨r, w, b, e, fa, li, h⟩ := (onDev_dev s f).2; rw [h]
@[simp] theorem onDev_host_notCommitted (s : State) (f : List Host.Cell → Dev → Dev) :
    (s.onDev f).dev.host.notCommitted = (f s.mem s.dev.begin_).host.notCommitted := by
  obtain ⟨r, w, b, e, fa, li, h⟩ := (onDev_dev s f).2; rw [h]
@[simp] theorem onDev_host_locked (s : State) (f : List Host.Cell → Dev → Dev) :
    (s.onDev f).dev.host.locked = (f s.mem s.dev.begin_).host.locked := by
  obtain ⟨r, w, b, e, fa, li, h⟩ := (onDev_dev s f).2; rw [h]
@[simp] theorem onDev_host_hdmBase (s : State) (f : List Host.Cell → Dev → Dev) :
    (s.onDev f).dev.host.hdmBase = (f s.mem s.dev.begin_).host.hdmBase := by
  obtain ⟨r, w, b, e, fa, li, h⟩ := (onDev_dev s f).2; rw [h]
@[simp] theorem onDev_host_hdmSize (s : State) (f : List Host.Cell → Dev → Dev) :
    (s.onDev f).dev.host.hdmSize = (f s.mem s.dev.begin_).host.hdmSize := by
  obtain ⟨r, w, b, e, fa, li, h⟩ := (onDev_dev s f).2; rw [h]
@[simp] theorem onDev_host_aerCorrectable (s : State) (f : List Host.Cell → Dev → Dev) :
    (s.onDev f).dev.host.aerCorrectable = (f s.mem s.dev.begin_).host.aerCorrectable := by
  obtain ⟨r, w, b, e, fa, li, h⟩ := (onDev_dev s f).2; rw [h]
@[simp] theorem onDev_host_rasCorrectable (s : State) (f : List Host.Cell → Dev → Dev) :
    (s.onDev f).dev.host.rasCorrectable = (f s.mem s.dev.begin_).host.rasCorrectable := by
  obtain ⟨r, w, b, e, fa, li, h⟩ := (onDev_dev s f).2; rw [h]
@[simp] theorem onDev_host_rasPoison (s : State) (f : List Host.Cell → Dev → Dev) :
    (s.onDev f).dev.host.rasPoison = (f s.mem s.dev.begin_).host.rasPoison := by
  obtain ⟨r, w, b, e, fa, li, h⟩ := (onDev_dev s f).2; rw [h]
@[simp] theorem onDev_host_rasAddress (s : State) (f : List Host.Cell → Dev → Dev) :
    (s.onDev f).dev.host.rasAddress = (f s.mem s.dev.begin_).host.rasAddress := by
  obtain ⟨r, w, b, e, fa, li, h⟩ := (onDev_dev s f).2; rw [h]
@[simp] theorem onDev_host_rasCache (s : State) (f : List Host.Cell → Dev → Dev) :
    (s.onDev f).dev.host.rasCache = (f s.mem s.dev.begin_).host.rasCache := by
  obtain ⟨r, w, b, e, fa, li, h⟩ := (onDev_dev s f).2; rw [h]
@[simp] theorem onDev_host_aerPoisoned (s : State) (f : List Host.Cell → Dev → Dev) :
    (s.onDev f).dev.host.aerPoisoned = (f s.mem s.dev.begin_).host.aerPoisoned := by
  obtain ⟨r, w, b, e, fa, li, h⟩ := (onDev_dev s f).2; rw [h]
@[simp] theorem onDev_host_aerInternal (s : State) (f : List Host.Cell → Dev → Dev) :
    (s.onDev f).dev.host.aerInternal = (f s.mem s.dev.begin_).host.aerInternal := by
  obtain ⟨r, w, b, e, fa, li, h⟩ := (onDev_dev s f).2; rw [h]
@[simp] theorem onDev_host_headerLog (s : State) (f : List Host.Cell → Dev → Dev) :
    (s.onDev f).dev.host.headerLog = (f s.mem s.dev.begin_).host.headerLog := by
  obtain ⟨r, w, b, e, fa, li, h⟩ := (onDev_dev s f).2; rw [h]
@[simp] theorem onDev_host_lastRead (s : State) (f : List Host.Cell → Dev → Dev) :
    (s.onDev f).dev.host.lastRead = (f s.mem s.dev.begin_).host.lastRead := by
  obtain ⟨r, w, b, e, fa, li, h⟩ := (onDev_dev s f).2; rw [h]
@[simp] theorem onDev_host_regRead (s : State) (f : List Host.Cell → Dev → Dev) :
    (s.onDev f).dev.host.regRead = (f s.mem s.dev.begin_).host.regRead := by
  obtain ⟨r, w, b, e, fa, li, h⟩ := (onDev_dev s f).2; rw [h]
@[simp] theorem onDev_memc_dieCe (s : State) (f : List Host.Cell → Dev → Dev) :
    (s.onDev f).dev.memc.dieCe = (f s.mem s.dev.begin_).memc.dieCe := by
  obtain ⟨r, w, b, e, fa, li, h⟩ := (onDev_dev s f).2; rw [h]
@[simp] theorem onDev_memc_ueA (s : State) (f : List Host.Cell → Dev → Dev) :
    (s.onDev f).dev.memc.ueA = (f s.mem s.dev.begin_).memc.ueA := by
  obtain ⟨r, w, b, e, fa, li, h⟩ := (onDev_dev s f).2; rw [h]
@[simp] theorem onDev_memc_ueB (s : State) (f : List Host.Cell → Dev → Dev) :
    (s.onDev f).dev.memc.ueB = (f s.mem s.dev.begin_).memc.ueB := by
  obtain ⟨r, w, b, e, fa, li, h⟩ := (onDev_dev s f).2; rw [h]
@[simp] theorem onDev_memc_trackBad (s : State) (f : List Host.Cell → Dev → Dev) :
    (s.onDev f).dev.memc.trackBad = (f s.mem s.dev.begin_).memc.trackBad := by
  obtain ⟨r, w, b, e, fa, li, h⟩ := (onDev_dev s f).2; rw [h]
@[simp] theorem onDev_memc_scrub (s : State) (f : List Host.Cell → Dev → Dev) :
    (s.onDev f).dev.memc.scrub = (f s.mem s.dev.begin_).memc.scrub := by
  obtain ⟨r, w, b, e, fa, li, h⟩ := (onDev_dev s f).2; rw [h]
@[simp] theorem onDev_memc_patrolAt (s : State) (f : List Host.Cell → Dev → Dev) :
    (s.onDev f).dev.memc.patrolAt = (f s.mem s.dev.begin_).memc.patrolAt := by
  obtain ⟨r, w, b, e, fa, li, h⟩ := (onDev_dev s f).2; rw [h]
@[simp] theorem onDev_memc_patrolDone (s : State) (f : List Host.Cell → Dev → Dev) :
    (s.onDev f).dev.memc.patrolDone = (f s.mem s.dev.begin_).memc.patrolDone := by
  obtain ⟨r, w, b, e, fa, li, h⟩ := (onDev_dev s f).2; rw [h]
@[simp] theorem onDev_memc_traps (s : State) (f : List Host.Cell → Dev → Dev) :
    (s.onDev f).dev.memc.traps = (f s.mem s.dev.begin_).memc.traps := by
  obtain ⟨r, w, b, e, fa, li, h⟩ := (onDev_dev s f).2; rw [h]
@[simp] theorem onDev_memc_wipeDue (s : State) (f : List Host.Cell → Dev → Dev) :
    (s.onDev f).dev.memc.wipeDue = (f s.mem s.dev.begin_).memc.wipeDue := by
  obtain ⟨r, w, b, e, fa, li, h⟩ := (onDev_dev s f).2; rw [h]

@[simp] theorem onDev_outbox (s : State) (f : List Host.Cell → Dev → Dev) : (s.onDev f).dev.outbox = [] := by
  obtain ⟨r, w, b, e, fa, li, h⟩ := (onDev_dev s f).2; rw [h]

/-- A step keeps the canonical form of device memory. -/
theorem onDev_wf (s : State) (f : List Host.Cell → Dev → Dev) (h : Memory.wf s.mem = true) : Memory.wf (s.onDev f).mem = true := by
  simp only [State.onDev]
  exact flushOut_wf _ s.mem h

end Sys2Proof.Machine
end

