-- ==== Sys2Proof/Laws/Counters.lean ====
section
/-! SUPPORT. What counting does (R613, R634): the counter's new value, and what it leaves as it was. -/

namespace Sys2Proof.Machine

variable (d : Dev)

theorem cntTop_pos (c : Cnt) : cntTop c < (if c.wide then 2 ^ 64 else 2 ^ 32) := by
  unfold cntTop; split <;> decide

theorem Dev.cnt_setCnt (c : Cnt) (v : Nat) (h : v ≤ cntTop c) : (d.setCnt c v).cnt c = v := by
  have ht := cntTop_pos c
  unfold Dev.cnt Dev.setCnt
  cases hw : c.wide
  · simp only [hw, Bool.false_eq_true, if_false] at ht ⊢
    rw [Dev.reg_put_self, BitVec.toNat_ofNat]
    exact Nat.mod_eq_of_lt (by omega)
  · simp only [hw, if_true] at ht ⊢
    rw [Dev.wide64_putWide, if_pos rfl]
    exact Nat.mod_eq_of_lt (by omega)

theorem Dev.cnt_congr {x y : Dev} (c : Cnt) (h : y.reg c.addr = x.reg c.addr) (hw : y.wide = x.wide) : y.cnt c = x.cnt c := by
  unfold Dev.cnt Dev.wide64; rw [h, hw]

/-- A counter after counting: it stops at all ones. -/
theorem Dev.cnt_bumpBy (c : Cnt) (n : Nat) (h : c.addr ≠ c.sat) : (d.bumpBy c n).cnt c = min (cntTop c) (d.cnt c + n) := by
  have h1 := Dev.cnt_setCnt d c (min (cntTop c) (d.cnt c + n)) (Nat.min_le_left _ _)
  unfold Dev.bumpBy
  dsimp only
  generalize d.setCnt c (min (cntTop c) (d.cnt c + n)) = y at h1 ⊢
  split
  · have e : (y.setBit c.sat c.bit true).reg c.addr = y.reg c.addr := Dev.reg_setBit_ne _ _ _ _ _ h
    exact (Dev.cnt_congr (y := (y.setBit c.sat c.bit true).raise evCounterSat c.sat c.addr) c e rfl).trans h1
  · exact h1

/-- Counting changes no register but the counter and its SAT register. -/
theorem Dev.reg_bumpBy_ne (c : Cnt) (n a : Nat) (h : a ≠ c.addr) (hs : a ≠ c.sat) : (d.bumpBy c n).reg a = d.reg a := by
  have h1 : ∀ v, (d.setCnt c v).reg a = d.reg a := fun v => by
    unfold Dev.setCnt
    split
    · rfl
    · exact Dev.reg_put_ne d _ _ _ h
  unfold Dev.bumpBy
  dsimp only
  split
  · rw [Dev.reg_raise, Dev.reg_setBit_ne _ _ _ _ _ hs, h1]
  · exact h1 _

theorem Dev.fld_bumpBy_ne (c : Cnt) (n : Nat) (f : Fld) (h : f.addr ≠ c.addr) (hs : f.addr ≠ c.sat) :
    (d.bumpBy c n).fld f = d.fld f := by unfold Dev.fld; rw [Dev.reg_bumpBy_ne d c n _ h hs]

theorem Dev.flag_bumpBy_ne (c : Cnt) (n : Nat) (f : Fld) (h : f.addr ≠ c.addr) (hs : f.addr ≠ c.sat) :
    (d.bumpBy c n).flag f = d.flag f := by unfold Dev.flag; rw [Dev.fld_bumpBy_ne d c n f h hs]

theorem Dev.wide_bumpBy (c : Cnt) (n : Nat) (h : c.wide = false) : (d.bumpBy c n).wide = d.wide := by
  unfold Dev.bumpBy Dev.setCnt
  simp only [h, Bool.false_eq_true, if_false]
  split <;> rfl

/-- Other counters stay. -/
theorem Dev.cnt_bumpBy_ne (c e : Cnt) (n : Nat) (h : e.addr ≠ c.addr) (hs : e.addr ≠ c.sat) : (d.bumpBy c n).cnt e = d.cnt e := by
  unfold Dev.cnt
  rw [Dev.reg_bumpBy_ne d c n _ h hs]
  split
  · have hb : (d.bumpBy c n).wide64 e.addr = d.wide64 e.addr := by
      have h1 : ∀ v, (d.setCnt c v).wide64 e.addr = d.wide64 e.addr := fun v => by
        unfold Dev.setCnt
        split
        · rw [Dev.wide64_putWide, if_neg h]
        · rfl
      unfold Dev.bumpBy
      dsimp only
      split
      · exact h1 _
      · exact h1 _
    exact hb
  · rfl

theorem raised_bumpBy (c : Cnt) (n : Nat) : ∃ l, (d.bumpBy c n).evt.raised = d.evt.raised ++ l := by
  have h1 : ∀ v, (d.setCnt c v).evt.raised = d.evt.raised := fun v => by unfold Dev.setCnt; split <;> rfl
  unfold Dev.bumpBy
  dsimp only
  split
  · exact ⟨_, congrArg (· ++ _) (h1 _)⟩
  · exact ⟨[], (h1 _).trans (List.append_nil _).symm⟩

end Sys2Proof.Machine
end

