-- ==== Sys2Proof/Laws/Events.lean ====
section
/-! SUPPORT. The pending bits of event sources: the event logic only sets them, and it sets that of every source raised (R611). -/

namespace Sys2Proof.Machine

variable (d : Dev)

/-- A bit after another, or the same, is set or cleared. -/
theorem Dev.bit_setBit (a n b m : Nat) (v : Bool) (hn : n < 32) :
    (d.setBit a n v).bit b m = if b = a ∧ m = n then v else d.bit b m := by
  by_cases hb : b = a
  · subst hb
    by_cases he : m = n
    · subst he; rw [Dev.bit_setBit_self d b m v hn, if_pos ⟨rfl, rfl⟩]
    · rw [if_neg (fun h => he h.2)]
      have e := field_withField_apart (d.reg b) n 1 (b2n v) m 1 (by omega) (by omega)
      unfold Dev.bit Dev.setBit bitAt
      rw [Dev.reg_put_self]
      unfold field at e
      rw [show (2 : Nat) ^ 1 = 2 from rfl] at e
      rw [e]
  · rw [if_neg (fun h => hb h.1)]
    unfold Dev.bit
    rw [Dev.reg_setBit_ne d a n v b hb]

/-- Pending bits that are set stay set. -/
def PendKept (x y : Dev) : Prop := ∀ w m, w < 20 → m < 32 → x.bit (Reg.EVT_PEND w) m = true → y.bit (Reg.EVT_PEND w) m = true

theorem PendKept.trans {x y z : Dev} (h : PendKept x y) (g : PendKept y z) : PendKept x z := fun w m a b c => g w m a b (h w m a b c)

theorem pendKept_reg {x y : Dev} (h : ∀ w, w < 20 → y.reg (Reg.EVT_PEND w) = x.reg (Reg.EVT_PEND w)) : PendKept x y :=
  fun w m hw _ hb => by unfold Dev.bit at *; rw [h w hw]; exact hb

theorem pendKept_put (a : Nat) (v : Word) (h : ∀ w, w < 20 → Reg.EVT_PEND w ≠ a) : PendKept d (d.put a v) :=
  pendKept_reg fun w hw => by rw [Dev.reg_put, if_neg (h w hw)]

theorem pendKept_pend (src : Nat) : PendKept d (d.setBit (Reg.EVT_PEND (src / 32)) (src % 32) true) := fun w m _ _ hb => by
  rw [Dev.bit_setBit _ _ _ _ _ _ (Nat.mod_lt _ (by decide))]
  split
  · rfl
  · exact hb

theorem pendKept_routeMsi (src : Nat) : PendKept d (d.routeMsi src) := pendKept_reg fun w _ => by
  unfold Dev.routeMsi Dev.dueMsi Dev.sendMsi
  dsimp only
  split_ifs <;> rfl

theorem pendKept_signal (src : Nat) : PendKept d (d.signal src) := (pendKept_pend d src).trans (pendKept_routeMsi _ src)

theorem pend_ne (a w : Nat) (h : a < 0x010100 ∨ 0x010150 ≤ a) (hw : w < 20) : Reg.EVT_PEND w ≠ a := by
  simp only [Reg.EVT_PEND]; omega

theorem pendKept_countDrop : PendKept d d.countDrop := by
  have h1 (v : Nat) : PendKept d (d.setCnt C.EVT_RING_DROP_CNT v).noteDrop :=
    pendKept_put d Reg.EVT_RING_DROP_CNT (BitVec.ofNat 32 v) fun w hw => pend_ne _ w (by decide) hw
  unfold Dev.countDrop
  dsimp only
  split
  · exact (h1 _).trans ((pendKept_put _ Reg.EVT_CNT_SAT _ fun w hw => pend_ne _ w (by decide) hw).trans
      ((pendKept_signal _ evCounterSat).trans (pendKept_reg fun _ _ => rfl)))
  · exact h1 _

theorem pendKept_dropRecord : PendKept d d.dropRecord := by
  refine (pendKept_countDrop d).trans ?_
  show PendKept d.countDrop d.countDrop.sayFull
  unfold Dev.sayFull
  split
  · exact pendKept_signal _ evRingOvf
  · exact pendKept_reg fun _ _ => rfl

theorem pendKept_writeRecord (r : Raised) : PendKept d (d.writeRecord r) := by
  unfold Dev.writeRecord Dev.passRecord
  split
  · exact (pendKept_put (d.memw d.recordAddr (d.recordOf r)) Reg.EVT_RING_WR _ fun w hw => pend_ne _ w (by decide) hw).trans
      ((pendKept_put _ F.EVT_STAT_FULL.addr _ fun w hw => pend_ne _ w (by decide) hw).trans (pendKept_reg fun _ _ => rfl))
  · exact pendKept_dropRecord d

theorem pendKept_postEvent (r : Raised) : PendKept d (d.postEvent r) := by
  unfold Dev.postEvent
  split
  · exact pendKept_reg fun _ _ => rfl
  · refine (pendKept_pend d r.src).trans (PendKept.trans ?_ (pendKept_routeMsi _ _))
    unfold Dev.routeRecord
    split
    · exact pendKept_writeRecord _ r
    · exact pendKept_reg fun _ _ => rfl

theorem pend_postEvent (r : Raised) (h : r.src < 640) :
    (d.postEvent r).bit (Reg.EVT_PEND (r.src / 32)) (r.src % 32) = true := by
  unfold Dev.postEvent
  rw [if_neg (by omega)]
  have hk : PendKept (d.setBit (Reg.EVT_PEND (r.src / 32)) (r.src % 32) true)
      (((d.setBit (Reg.EVT_PEND (r.src / 32)) (r.src % 32) true).routeRecord r).routeMsi r.src) := by
    refine PendKept.trans ?_ (pendKept_routeMsi _ _)
    unfold Dev.routeRecord
    split
    · exact pendKept_writeRecord _ r
    · exact pendKept_reg fun _ _ => rfl
  exact hk _ _ (by omega) (by omega) (Dev.bit_setBit_self _ _ _ _ (by omega))

theorem pendKept_foldl (l : List Raised) : ∀ x : Dev, PendKept x (l.foldl Dev.postEvent x) := by
  induction l with
  | nil => exact fun x => pendKept_reg fun _ _ => rfl
  | cons r l ih => exact fun x => (pendKept_postEvent x r).trans (ih _)

theorem pend_foldl (l : List Raised) (r : Raised) (hr : r ∈ l) (h : r.src < 640) :
    ∀ x : Dev, (l.foldl Dev.postEvent x).bit (Reg.EVT_PEND (r.src / 32)) (r.src % 32) = true := by
  induction l with
  | nil => simp at hr
  | cons a l ih =>
    intro x
    rcases List.mem_cons.mp hr with e | e
    · subst e
      exact pendKept_foldl l _ _ _ (by omega) (by omega) (pend_postEvent x r h)
    · exact ih e _

theorem mem_insRaised (r x : Raised) (l : List Raised) : x ∈ insRaised r l ↔ x = r ∨ x ∈ l := by
  induction l with
  | nil => simp [insRaised]
  | cons a l ih =>
    unfold insRaised
    split
    · simp
    · simp only [List.mem_cons, ih]; tauto

theorem mem_sortRaised (x : Raised) (l : List Raised) : x ∈ sortRaised l ↔ x ∈ l := by
  have h : ∀ (l acc : List Raised), x ∈ l.foldl (fun acc r => insRaised r acc) acc ↔ x ∈ acc ∨ x ∈ l := by
    intro l
    induction l with
    | nil => simp
    | cons a l ih => intro acc; rw [List.foldl_cons, ih, mem_insRaised, List.mem_cons]; tauto
  unfold sortRaised
  rw [h]; simp

/-- Every source that the work of a step raised is pending after the step (R611). -/
theorem onDev_raises (s : State) (f : List Host.Cell → Dev → Dev) (r : Raised) (hr : r ∈ (f s.mem s.dev.begin_).evt.raised)
    (h : r.src < 640) : (s.onDev f).dev.bit (Reg.EVT_PEND (r.src / 32)) (r.src % 32) = true := by
  obtain ⟨fa, li, hf⟩ := flushOut_dev (f s.mem s.dev.begin_).settle s.mem
  have hd : (s.onDev f).dev = (flushOut s.mem (f s.mem s.dev.begin_).settle).2 := rfl
  rw [hd, hf]
  exact pend_foldl _ r ((mem_sortRaised r _).mpr hr) h _

/-- A source that was pending before the work of the step and that the work left pending is pending after it. -/
theorem onDev_pendKept (s : State) (f : List Host.Cell → Dev → Dev) (w m : Nat) (hw : w < 20) (hm : m < 32)
    (h : (f s.mem s.dev.begin_).bit (Reg.EVT_PEND w) m = true) : (s.onDev f).dev.bit (Reg.EVT_PEND w) m = true := by
  obtain ⟨fa, li, hf⟩ := flushOut_dev (f s.mem s.dev.begin_).settle s.mem
  have hd : (s.onDev f).dev = (flushOut s.mem (f s.mem s.dev.begin_).settle).2 := rfl
  rw [hd, hf]
  exact pendKept_foldl _ _ w m hw hm h

end Sys2Proof.Machine
end

