-- ==== Sys2Proof/Laws/Memory.lean ====
section
/-! SUPPORT. What a step does to device memory: no raising and no write is left over, and every byte stands that no write of the
step's work names and that lies outside the event ring. -/

namespace Sys2Proof.Machine

variable (d : Dev)

/-! ## No raising is left over -/

theorem raised_routeMsi (src : Nat) : (d.routeMsi src).evt.raised = d.evt.raised := by
  unfold Dev.routeMsi Dev.dueMsi Dev.sendMsi
  dsimp only
  split_ifs <;> rfl

theorem raised_signal (n : Nat) : (d.signal n).evt.raised = d.evt.raised := by
  unfold Dev.signal; rw [raised_routeMsi, Dev.setBit_evt]

theorem raised_noteDrop : d.noteDrop.evt.raised = d.evt.raised := rfl

theorem raised_countDrop : d.countDrop.evt.raised = d.evt.raised := by
  unfold Dev.countDrop
  dsimp only
  split
  · rw [raised_noteDrop, raised_signal, Dev.setBit_evt, raised_noteDrop, Dev.setCnt_evt]
  · rw [raised_noteDrop, Dev.setCnt_evt]

theorem raised_sayFull : d.sayFull.evt.raised = d.evt.raised := by
  unfold Dev.sayFull
  split
  · exact raised_signal d _
  · rfl

theorem raised_dropRecord : d.dropRecord.evt.raised = d.evt.raised := by
  unfold Dev.dropRecord
  rw [raised_sayFull, raised_countDrop]

theorem passRecord_evt : d.passRecord.evt = d.evt := by
  unfold Dev.passRecord
  simp only [Dev.setFlag_evt, Dev.put_evt]

theorem raised_writeRecord (r : Raised) : (d.writeRecord r).evt.raised = d.evt.raised := by
  unfold Dev.writeRecord
  split
  · show ((d.memw _ _).passRecord).evt.raised = _
    rw [passRecord_evt, Dev.memw_evt]
  · exact raised_dropRecord d

theorem raised_postEvent (r : Raised) : (d.postEvent r).evt.raised = d.evt.raised := by
  unfold Dev.postEvent
  split
  · rfl
  · rw [raised_routeMsi]
    unfold Dev.routeRecord
    split
    · rw [raised_writeRecord, Dev.setBit_evt]
    · rw [Dev.setBit_evt]

theorem raised_settle : d.settle.evt.raised = [] := by
  have h : ∀ (l : List Raised) (x : Dev), (l.foldl Dev.postEvent x).evt.raised = x.evt.raised := by
    intro l
    induction l with
    | nil => intro x; rfl
    | cons r l ih => intro x; rw [List.foldl_cons, ih, raised_postEvent]
  exact h _ _

@[simp] theorem onDev_raised (s : State) (f : List Host.Cell → Dev → Dev) : (s.onDev f).dev.evt.raised = [] := by
  have h := raised_settle (f s.mem s.dev.begin_)
  obtain ⟨fa, li, hf⟩ := flushOut_dev (f s.mem s.dev.begin_).settle s.mem
  have hd : (s.onDev f).dev = (flushOut s.mem (f s.mem s.dev.begin_).settle).2 := rfl
  rw [hd, hf]
  exact h

/-! ## What a step leaves of device memory -/

/-- A write names byte `x`. -/
def MemOp.covers (op : MemOp) (x : Nat) : Prop :=
  match op with
  | .write a bs => a ≤ x ∧ x < a + bs.length
  | .zero a n => a ≤ x ∧ x < a + n

theorem memPoke_apart (l : List (Nat × Byte)) (m : List Host.Cell) (x : Nat) (h : ∀ e ∈ l, e.1 ≠ x) :
    memByte (memPoke m l) x = memByte m x := by
  induction l generalizing m with
  | nil => rfl
  | cons e l ih =>
    have h1 := h e (by simp)
    show memByte (memPoke (memSetByte m e.1 e.2) l) x = _
    rw [ih _ (fun y hy => h y (by simp [hy])), memByte_memSetByte, if_neg (fun hx => h1 hx.symm)]

theorem accepted_mem (bs : List Byte) (a : Nat) (e : Nat × Byte) (h : e ∈ d.accepted a bs) : a ≤ e.1 ∧ e.1 < a + bs.length := by
  induction bs generalizing a with
  | nil => simp [Dev.accepted] at h
  | cons b r ih =>
    simp only [Dev.accepted] at h
    split at h
    · have := ih _ h; simp only [List.length_cons]; omega
    · rcases List.mem_cons.mp h with h | h
      · subst h; simp
      · have := ih _ h; simp only [List.length_cons]; omega

/-- A write leaves every byte that it does not name. -/
theorem applyOp_apart (x : List Host.Cell × Dev) (op : MemOp) (a : Nat) (h : ¬op.covers a) :
    memByte (applyOp x op).1 a = memByte x.1 a := by
  obtain ⟨m, y⟩ := x
  cases op with
  | write b bs =>
    simp only [applyOp]
    split
    · refine memPoke_apart _ _ _ fun e he hx => h ?_
      have := accepted_mem y bs b e he
      rw [hx] at this
      exact this
    · rw [memByte_memWrite]; exact if_neg h
  | zero b n =>
    simp only [applyOp]
    split
    · rfl
    · rw [memByte_memZero]; exact if_neg h

theorem foldl_applyOp_apart (ops : List MemOp) (x : List Host.Cell × Dev) (a : Nat) (h : ∀ op ∈ ops, ¬op.covers a) :
    memByte (ops.foldl applyOp x).1 a = memByte x.1 a := by
  induction ops generalizing x with
  | nil => rfl
  | cons o l ih => rw [List.foldl_cons, ih _ (fun y hy => h y (by simp [hy])), applyOp_apart x o a (h o (by simp))]

/-- Byte `a` lies in the event ring (R609). -/
def Dev.inEvtRing (d : Dev) (a : Nat) : Prop := d.wide64 Reg.EVT_RING_BASE_LO ≤ a ∧ a < d.wide64 Reg.EVT_RING_BASE_LO + d.evtDepth * 32

/-- Every write that the event logic adds lies in the event ring. -/
structure RingOnly (x y : Dev) : Prop where
  wide : y.wide = x.wide
  size : y.reg Reg.EVT_RING_SIZE = x.reg Reg.EVT_RING_SIZE
  ops : ∃ l, y.outbox = x.outbox ++ l ∧ ∀ op ∈ l, ∀ a, op.covers a → x.inEvtRing a

theorem RingOnly.depth {x y : Dev} (h : RingOnly x y) : y.evtDepth = x.evtDepth := by
  unfold Dev.evtDepth Dev.fld
  rw [show F.EVT_RING_SIZE_LOG2.addr = Reg.EVT_RING_SIZE from rfl, h.size]

theorem RingOnly.base {x y : Dev} (h : RingOnly x y) : y.wide64 Reg.EVT_RING_BASE_LO = x.wide64 Reg.EVT_RING_BASE_LO := by
  unfold Dev.wide64; rw [h.wide]

theorem RingOnly.trans {x y z : Dev} (h : RingOnly x y) (g : RingOnly y z) : RingOnly x z := by
  obtain ⟨l, hl, h1⟩ := h.ops
  obtain ⟨k, hk, g1⟩ := g.ops
  refine ⟨g.wide.trans h.wide, g.size.trans h.size, l ++ k, by rw [hk, hl, List.append_assoc], fun op ho a ha => ?_⟩
  rcases List.mem_append.mp ho with ho | ho
  · exact h1 op ho a ha
  · have := g1 op ho a ha
    unfold Dev.inEvtRing at this ⊢
    rw [h.base, h.depth] at this
    exact this

theorem ringOnly_same {x y : Dev} (h : EvtFrame x y) (ho : y.outbox = x.outbox) : RingOnly x y := by
  obtain ⟨r, w, b, e, o, hy⟩ := h.rest
  exact ⟨by rw [hy], h.reg _ rfl, [], by rw [ho, List.append_nil], by simp⟩

theorem outbox_routeMsi (src : Nat) : (d.routeMsi src).outbox = d.outbox := by
  unfold Dev.routeMsi Dev.dueMsi Dev.sendMsi
  dsimp only
  split_ifs <;> rfl

theorem outbox_signal (n : Nat) : (d.signal n).outbox = d.outbox := by
  unfold Dev.signal; rw [outbox_routeMsi, Dev.setBit_outbox]

theorem outbox_noteDrop : d.noteDrop.outbox = d.outbox := rfl

theorem outbox_countDrop : d.countDrop.outbox = d.outbox := by
  unfold Dev.countDrop
  dsimp only
  split
  · rw [outbox_noteDrop, outbox_signal, Dev.setBit_outbox, outbox_noteDrop, Dev.setCnt_outbox]
  · rw [outbox_noteDrop, Dev.setCnt_outbox]

theorem outbox_sayFull : d.sayFull.outbox = d.outbox := by
  unfold Dev.sayFull
  split
  · exact outbox_signal d _
  · rfl

theorem outbox_dropRecord : d.dropRecord.outbox = d.outbox := by
  unfold Dev.dropRecord
  rw [outbox_sayFull, outbox_countDrop]

theorem passRecord_outbox : d.passRecord.outbox = d.outbox := by
  unfold Dev.passRecord
  simp only [Dev.setFlag_outbox, Dev.put_outbox]

theorem length_leBytes (n v : Nat) : (leBytes n v).length = n := by
  induction n generalizing v with
  | zero => rfl
  | succ n ih => simp [leBytes, ih]

theorem length_recordOf (r : Raised) : (d.recordOf r).length = 32 := by
  simp [Dev.recordOf, evtRecord, length_leBytes, zeros]

theorem ringOnly_writeRecord (r : Raised) : RingOnly d (d.writeRecord r) := by
  have hf := evtFrame_writeRecord d r
  obtain ⟨rg, w, b, e, o, hy⟩ := hf.rest
  refine ⟨by rw [hy], hf.reg _ rfl, ?_⟩
  unfold Dev.writeRecord
  split
  · refine ⟨[.write d.recordAddr (d.recordOf r)], passRecord_outbox (d.memw d.recordAddr (d.recordOf r)), ?_⟩
    intro op hop a ha
    rw [List.mem_singleton.mp hop] at ha
    have hl := length_recordOf d r
    have hd : (d.reg Reg.EVT_RING_WR).toNat % d.evtDepth < d.evtDepth := Nat.mod_lt _ (by unfold Dev.evtDepth; positivity)
    have h1 : d.recordAddr ≤ a ∧ a < d.recordAddr + (d.recordOf r).length := ha
    rw [hl] at h1
    unfold Dev.recordAddr at h1
    unfold Dev.inEvtRing
    omega
  · exact ⟨[], by rw [outbox_dropRecord, List.append_nil], by simp⟩

theorem ringOnly_postEvent (r : Raised) : RingOnly d (d.postEvent r) := by
  unfold Dev.postEvent
  split
  · exact ringOnly_same (EvtFrame.refl d) rfl
  · refine (ringOnly_same (evtFrame_pend d r.src (by omega)) rfl).trans (RingOnly.trans ?_
      (ringOnly_same (evtFrame_routeMsi _ _) (outbox_routeMsi _ _)))
    unfold Dev.routeRecord
    split
    · exact ringOnly_writeRecord _ r
    · exact ringOnly_same (EvtFrame.refl _) rfl

theorem ringOnly_settle : RingOnly d d.settle := by
  have h : ∀ (l : List Raised) (x : Dev), RingOnly x (l.foldl Dev.postEvent x) := by
    intro l
    induction l with
    | nil => exact fun x => ringOnly_same (EvtFrame.refl x) rfl
    | cons r l ih => exact fun x => (ringOnly_postEvent x r).trans (ih _)
  exact (ringOnly_same (evtFrame_evt d { d.evt with raised := [] }) rfl).trans (h _ _)

/-- A byte outside the event ring is after a step what the writes of its work make it. -/
theorem onDev_work (s : State) (f : List Host.Cell → Dev → Dev) (a : Nat) (hr : ¬(f s.mem s.dev.begin_).inEvtRing a) :
    memByte (s.onDev f).mem a =
      memByte ((f s.mem s.dev.begin_).outbox.foldl applyOp (s.mem, (f s.mem s.dev.begin_).settle)).1 a := by
  have hm : (s.onDev f).mem = (flushOut s.mem (f s.mem s.dev.begin_).settle).1 := rfl
  obtain ⟨l, hl, hc⟩ := (ringOnly_settle (f s.mem s.dev.begin_)).ops
  rw [hm]
  show memByte ((f s.mem s.dev.begin_).settle.outbox.foldl applyOp (s.mem, _)).1 a = _
  rw [hl, List.foldl_append]
  exact foldl_applyOp_apart l _ a fun op ho h => hr (hc op ho a h)

/-- A step leaves every byte of device memory that no write of its work names and that lies outside the event ring. -/
theorem onDev_byte (s : State) (f : List Host.Cell → Dev → Dev) (a : Nat)
    (h : ∀ op ∈ (f s.mem s.dev.begin_).outbox, ¬op.covers a) (hr : ¬(f s.mem s.dev.begin_).inEvtRing a) :
    memByte (s.onDev f).mem a = memByte s.mem a := by
  rw [onDev_work s f a hr]
  exact foldl_applyOp_apart _ (s.mem, _) a h

theorem memHalted_congr {x y : Dev} (h : y.reg Reg.MEM_STAT = x.reg Reg.MEM_STAT) : y.memHalted = x.memHalted := by
  unfold Dev.memHalted Dev.flag Dev.fld
  rw [show F.MEM_STAT_HALT_A.addr = Reg.MEM_STAT from rfl, h]

theorem memHalted_settle : d.settle.memHalted = d.memHalted := memHalted_congr ((evtFrame_settle d).reg Reg.MEM_STAT rfl)

/-- Device memory outside the event ring after a step whose work writes once, in groups that are not halted. -/
theorem onDev_written (s : State) (f : List Host.Cell → Dev → Dev) (a : Nat) (b : Nat) (bs : List Byte)
    (ho : (f s.mem s.dev.begin_).outbox = [.write b bs]) (hh : (f s.mem s.dev.begin_).memHalted = false)
    (hr : ¬(f s.mem s.dev.begin_).inEvtRing a) :
    memByte (s.onDev f).mem a = if b ≤ a ∧ a < b + bs.length then bs.getD (a - b) 0#8 else memByte s.mem a := by
  rw [onDev_work s f a hr, ho]
  simp only [List.foldl_cons, List.foldl_nil, applyOp, memHalted_settle, hh, Bool.false_eq_true, if_false]
  exact memByte_memWrite bs s.mem b a

/-- Device memory outside the event ring after a step whose work zeroes one range of a memory that is not halted. -/
theorem onDev_zeroed (s : State) (f : List Host.Cell → Dev → Dev) (a : Nat) (b n : Nat)
    (ho : (f s.mem s.dev.begin_).outbox = [.zero b n]) (hh : (f s.mem s.dev.begin_).memHalted = false)
    (hr : ¬(f s.mem s.dev.begin_).inEvtRing a) :
    memByte (s.onDev f).mem a = if b ≤ a ∧ a < b + n then 0#8 else memByte s.mem a := by
  rw [onDev_work s f a hr, ho]
  simp only [List.foldl_cons, List.foldl_nil, applyOp, memHalted_settle, hh, Bool.false_eq_true, if_false]
  exact memByte_memZero s.mem b n a

end Sys2Proof.Machine
end

