-- ==== Sys2Proof/Laws/Command.lean ====
section
/-! SUPPORT. What the command machinery does, each said once: queue pairs after updates, what posting a reply touches, and what a
command does whose pair takes it at once. -/

namespace Sys2Proof.Machine

variable (d : Dev)

/-! ## Queue pairs -/

@[simp] theorem Dev.setPair_regs (q : Nat) (x : Pair) : (d.setPair q x).regs = d.regs := rfl
@[simp] theorem Dev.setPair_wide (q : Nat) (x : Pair) : (d.setPair q x).wide = d.wide := rfl
@[simp] theorem Dev.setPair_held (q : Nat) (x : Pair) : (d.setPair q x).held = d.held := rfl
@[simp] theorem Dev.setPair_freeCtr (q : Nat) (x : Pair) : (d.setPair q x).freeCtr = d.freeCtr := rfl
@[simp] theorem Dev.setPair_outbox (q : Nat) (x : Pair) : (d.setPair q x).outbox = d.outbox := rfl
@[simp] theorem Dev.setPair_time (q : Nat) (x : Pair) : (d.setPair q x).time = d.time := rfl
@[simp] theorem Dev.setPair_chans (q : Nat) (x : Pair) : (d.setPair q x).chans = d.chans := rfl
@[simp] theorem Dev.setPair_shot (q : Nat) (x : Pair) : (d.setPair q x).shot = d.shot := rfl
@[simp] theorem Dev.setPair_bur (q : Nat) (x : Pair) : (d.setPair q x).bur = d.bur := rfl
@[simp] theorem Dev.setPair_blw (q : Nat) (x : Pair) : (d.setPair q x).blw = d.blw := rfl
@[simp] theorem Dev.setPair_kiln (q : Nat) (x : Pair) : (d.setPair q x).kiln = d.kiln := rfl
@[simp] theorem Dev.setPair_turf (q : Nat) (x : Pair) : (d.setPair q x).turf = d.turf := rfl
@[simp] theorem Dev.setPair_taps (q : Nat) (x : Pair) : (d.setPair q x).taps = d.taps := rfl
@[simp] theorem Dev.setPair_scan (q : Nat) (x : Pair) : (d.setPair q x).scan = d.scan := rfl
@[simp] theorem Dev.setPair_out (q : Nat) (x : Pair) : (d.setPair q x).out = d.out := rfl
@[simp] theorem Dev.setPair_peer (q : Nat) (x : Pair) : (d.setPair q x).peer = d.peer := rfl
@[simp] theorem Dev.setPair_safe (q : Nat) (x : Pair) : (d.setPair q x).safe = d.safe := rfl
@[simp] theorem Dev.setPair_host (q : Nat) (x : Pair) : (d.setPair q x).host = d.host := rfl
@[simp] theorem Dev.setPair_cfg (q : Nat) (x : Pair) : (d.setPair q x).cfg = d.cfg := rfl
@[simp] theorem Dev.setPair_store (q : Nat) (x : Pair) : (d.setPair q x).store = d.store := rfl
@[simp] theorem Dev.setPair_memc (q : Nat) (x : Pair) : (d.setPair q x).memc = d.memc := rfl
@[simp] theorem Dev.setPair_hk (q : Nat) (x : Pair) : (d.setPair q x).hk = d.hk := rfl
@[simp] theorem Dev.setPair_pwr (q : Nat) (x : Pair) : (d.setPair q x).pwr = d.pwr := rfl
@[simp] theorem Dev.setPair_rst (q : Nat) (x : Pair) : (d.setPair q x).rst = d.rst := rfl
@[simp] theorem Dev.setPair_evt (q : Nat) (x : Pair) : (d.setPair q x).evt = d.evt := rfl
@[simp] theorem Dev.setPair_tel (q : Nat) (x : Pair) : (d.setPair q x).tel = d.tel := rfl
@[simp] theorem Dev.setPair_running (q : Nat) (x : Pair) : (d.setPair q x).cmd.running = d.cmd.running := rfl
@[simp] theorem Dev.setPair_reg (q : Nat) (x : Pair) (b : Nat) : (d.setPair q x).reg b = d.reg b := rfl
@[simp] theorem Dev.putQueue_regs (a k v : Nat) : (d.putQueue a k v).regs = d.regs := rfl
@[simp] theorem Dev.putQueue_wide (a k v : Nat) : (d.putQueue a k v).wide = d.wide := rfl
@[simp] theorem Dev.putQueue_held (a k v : Nat) : (d.putQueue a k v).held = d.held := rfl
@[simp] theorem Dev.putQueue_freeCtr (a k v : Nat) : (d.putQueue a k v).freeCtr = d.freeCtr := rfl
@[simp] theorem Dev.putQueue_outbox (a k v : Nat) : (d.putQueue a k v).outbox = d.outbox := rfl
@[simp] theorem Dev.putQueue_time (a k v : Nat) : (d.putQueue a k v).time = d.time := rfl
@[simp] theorem Dev.putQueue_chans (a k v : Nat) : (d.putQueue a k v).chans = d.chans := rfl
@[simp] theorem Dev.putQueue_shot (a k v : Nat) : (d.putQueue a k v).shot = d.shot := rfl
@[simp] theorem Dev.putQueue_bur (a k v : Nat) : (d.putQueue a k v).bur = d.bur := rfl
@[simp] theorem Dev.putQueue_blw (a k v : Nat) : (d.putQueue a k v).blw = d.blw := rfl
@[simp] theorem Dev.putQueue_kiln (a k v : Nat) : (d.putQueue a k v).kiln = d.kiln := rfl
@[simp] theorem Dev.putQueue_turf (a k v : Nat) : (d.putQueue a k v).turf = d.turf := rfl
@[simp] theorem Dev.putQueue_taps (a k v : Nat) : (d.putQueue a k v).taps = d.taps := rfl
@[simp] theorem Dev.putQueue_scan (a k v : Nat) : (d.putQueue a k v).scan = d.scan := rfl
@[simp] theorem Dev.putQueue_out (a k v : Nat) : (d.putQueue a k v).out = d.out := rfl
@[simp] theorem Dev.putQueue_peer (a k v : Nat) : (d.putQueue a k v).peer = d.peer := rfl
@[simp] theorem Dev.putQueue_safe (a k v : Nat) : (d.putQueue a k v).safe = d.safe := rfl
@[simp] theorem Dev.putQueue_host (a k v : Nat) : (d.putQueue a k v).host = d.host := rfl
@[simp] theorem Dev.putQueue_cfg (a k v : Nat) : (d.putQueue a k v).cfg = d.cfg := rfl
@[simp] theorem Dev.putQueue_store (a k v : Nat) : (d.putQueue a k v).store = d.store := rfl
@[simp] theorem Dev.putQueue_memc (a k v : Nat) : (d.putQueue a k v).memc = d.memc := rfl
@[simp] theorem Dev.putQueue_hk (a k v : Nat) : (d.putQueue a k v).hk = d.hk := rfl
@[simp] theorem Dev.putQueue_pwr (a k v : Nat) : (d.putQueue a k v).pwr = d.pwr := rfl
@[simp] theorem Dev.putQueue_rst (a k v : Nat) : (d.putQueue a k v).rst = d.rst := rfl
@[simp] theorem Dev.putQueue_evt (a k v : Nat) : (d.putQueue a k v).evt = d.evt := rfl
@[simp] theorem Dev.putQueue_tel (a k v : Nat) : (d.putQueue a k v).tel = d.tel := rfl
@[simp] theorem Dev.putQueue_running (a k v : Nat) : (d.putQueue a k v).cmd.running = d.cmd.running := rfl
@[simp] theorem Dev.putQueue_reg (a k v : Nat) (b : Nat) : (d.putQueue a k v).reg b = d.reg b := rfl

theorem Dev.pair_setPair (q r : Nat) (x : Pair) : (d.setPair q x).pair r = if r = q then x else d.pair r :=
  sget_sset (fun _ => ({} : Pair)) q r x d.cmd.pairs

@[simp] theorem Dev.pair_setPair_self (q : Nat) (x : Pair) : (d.setPair q x).pair q = x := by rw [Dev.pair_setPair, if_pos rfl]

@[simp] theorem Dev.pair_putQueue (a k v r : Nat) : (d.putQueue a k v).pair r = d.pair r := rfl
@[simp] theorem Dev.pair_setFld (f : Fld) (v r : Nat) : (d.setFld f v).pair r = d.pair r := rfl
@[simp] theorem Dev.pair_setFlag (f : Fld) (v : Bool) (r : Nat) : (d.setFlag f v).pair r = d.pair r := rfl
@[simp] theorem Dev.pair_raise (n x y r : Nat) : (d.raise n x y).pair r = d.pair r := rfl

/-- What the reply machinery leaves as it was: all but some registers of its own, the pairs, the queue memory, the writes to the
host and the raisings. -/
structure CmdFrame (x y : Dev) : Prop where
  reg : ∀ a, cmdqOwn a = false → y.reg a = x.reg a
  rest : ∃ r w e p m b, y = { x with
    regs := r, host := { x.host with writes := w }, evt := { x.evt with raised := e }, cmd := { x.cmd with pairs := p, qmem := m, bells := b } }
  raised : ∃ l, y.evt.raised = x.evt.raised ++ l

theorem CmdFrame.refl (x : Dev) : CmdFrame x x := ⟨fun _ _ => rfl, ⟨_, _, _, _, _, _, rfl⟩, [], (List.append_nil _).symm⟩

theorem CmdFrame.trans {x y z : Dev} (h : CmdFrame x y) (g : CmdFrame y z) : CmdFrame x z := by
  obtain ⟨r, w, e, p, m, b, hy⟩ := h.rest
  obtain ⟨r', w', e', p', m', b', hz⟩ := g.rest
  obtain ⟨l, hl⟩ := h.raised
  obtain ⟨k, hk⟩ := g.raised
  exact ⟨fun a ha => (g.reg a ha).trans (h.reg a ha), ⟨r', w', e', p', m', b', by rw [hz, hy]⟩,
    l ++ k, by rw [hk, hl, List.append_assoc]⟩

theorem cmdFrame_put (a : Nat) (v : Word) (h : cmdqOwn a = true) : CmdFrame d (d.put a v) := by
  refine ⟨fun b hb => ?_, ⟨(d.put a v).regs, d.host.writes, d.evt.raised, d.cmd.pairs, d.cmd.qmem, d.cmd.bells, rfl⟩,
    [], (List.append_nil _).symm⟩
  rw [Dev.reg_put, if_neg]
  rintro rfl
  rw [h] at hb; cases hb

theorem cmdFrame_setPair (q : Nat) (x : Pair) : CmdFrame d (d.setPair q x) :=
  ⟨fun _ _ => rfl, ⟨d.regs, d.host.writes, d.evt.raised, _, d.cmd.qmem, d.cmd.bells, rfl⟩, [], (List.append_nil _).symm⟩

theorem cmdFrame_putQueue (a k v : Nat) : CmdFrame d (d.putQueue a k v) :=
  ⟨fun _ _ => rfl, ⟨d.regs, d.host.writes, d.evt.raised, d.cmd.pairs, _, d.cmd.bells, rfl⟩, [], (List.append_nil _).symm⟩

theorem cmdFrame_nextBell : CmdFrame d d.nextBell :=
  ⟨fun _ _ => rfl, ⟨d.regs, d.host.writes, d.evt.raised, d.cmd.pairs, d.cmd.qmem, _, rfl⟩, [], (List.append_nil _).symm⟩

theorem cmdFrame_raise (n x y : Nat) : CmdFrame d (d.raise n x y) :=
  ⟨fun _ _ => rfl, ⟨d.regs, d.host.writes, _, d.cmd.pairs, d.cmd.qmem, d.cmd.bells, rfl⟩, _, rfl⟩

theorem cmdFrame_writes (w : List HostWrite) : CmdFrame d { d with host := { d.host with writes := w } } :=
  ⟨fun _ _ => rfl, ⟨d.regs, w, d.evt.raised, d.cmd.pairs, d.cmd.qmem, d.cmd.bells, rfl⟩, [], (List.append_nil _).symm⟩

theorem cmdFrame_setFld (f : Fld) (v : Nat) (h : cmdqOwn f.addr = true) : CmdFrame d (d.setFld f v) := cmdFrame_put d f.addr _ h

theorem cmdFrame_noteLatency (q rung : Nat) : CmdFrame d (d.noteLatency q rung) := by
  have h0 : q % 16 < 16 := Nat.mod_lt _ (by decide)
  have h1 : cmdqOwn (F.CMDQ_Q_ACK_LAT_LAST (q % 16)).addr = true := by
    simp only [cmdqOwn, Reg.CMDQ_Q_ACK_LAT, decide_eq_true_eq]; omega
  have h2 : cmdqOwn (F.CMDQ_Q_ACK_LAT_MAX (q % 16)).addr = true := by
    simp only [cmdqOwn, Reg.CMDQ_Q_ACK_LAT, decide_eq_true_eq]; omega
  exact (cmdFrame_setFld d _ _ h1).trans ((cmdFrame_setFld _ _ _ h2).trans (cmdFrame_setPair _ _ _))

theorem cmdFrame_release (q : Nat) : CmdFrame d (d.release q) := cmdFrame_setPair d q _

theorem cmdFrame_recount (q : Nat) : CmdFrame d (d.recount q) := by
  have h0 : q % 16 < 16 := Nat.mod_lt _ (by decide)
  have h1 : cmdqOwn F.CMDQ_STAT_OUTSTANDING.addr = true := rfl
  have h2 : cmdqOwn (F.CMDQ_Q_STAT_OUTSTANDING (q % 16)).addr = true := by
    simp only [cmdqOwn, Reg.CMDQ_Q_STAT, decide_eq_true_eq]; omega
  have h3 : cmdqOwn (F.CMDQ_Q_STAT_RUN (q % 16)).addr = true := by
    simp only [cmdqOwn, Reg.CMDQ_Q_STAT, decide_eq_true_eq]; omega
  unfold Dev.recount
  dsimp only
  split
  · exact (cmdFrame_setFld d _ _ h1).trans ((cmdFrame_setFld _ _ _ h2).trans (cmdFrame_setFld _ _ _ h3))
  · exact (cmdFrame_setFld d _ _ h1).trans (cmdFrame_setFld _ _ _ h2)

/-- The reply of a pair that is not silent: it is the newest one. -/
theorem post_spec (q : Nat) (p : Packet) (status : Nat) (results : List Byte) (hs : (d.pair q).silent = false) :
    CmdFrame d (d.post q p status results) ∧
    ((d.post q p status results).pair q).replies = (d.pair q).replies ++ [⟨status, p.opcode.toNat, p.tag.toNat, results⟩] := by
  unfold Dev.post
  simp only [hs, Bool.false_eq_true, if_false]
  have hw := cmdFrame_writes d (d.host.writes ++ d.replyWrite q ⟨status, p.opcode.toNat, p.tag.toNat, results⟩)
  generalize { d with host := { d.host with
    writes := d.host.writes ++ d.replyWrite q ⟨status, p.opcode.toNat, p.tag.toNat, results⟩ } } = y at hw ⊢
  have hy : CmdFrame d (if y.inHost q = true then y
      else y.putQueue (cqEntry q (d.pair q).cqTail) 8 (leNat (Reply.bytes ⟨status, p.opcode.toNat, p.tag.toNat, results⟩))) := by
    split
    · exact hw
    · exact hw.trans (cmdFrame_putQueue _ _ _ _)
  generalize (if y.inHost q = true then y
      else y.putQueue (cqEntry q (d.pair q).cqTail) 8 (leNat (Reply.bytes ⟨status, p.opcode.toNat, p.tag.toNat, results⟩))) = z at hy ⊢
  split
  · exact ⟨hy.trans ((cmdFrame_setPair _ _ _).trans (cmdFrame_raise _ _ _ _)), by simp⟩
  · exact ⟨hy.trans (cmdFrame_setPair _ _ _), by simp⟩

@[simp] theorem pair_noteLatency (q rung : Nat) :
    (d.noteLatency q rung).pair q = { d.pair q with ackMax := max (d.pair q).ackMax ((d.time.ticks - rung) * 2 / 5) } := by
  unfold Dev.noteLatency; simp

@[simp] theorem replies_release (q : Nat) : ((d.release q).pair q).replies = (d.pair q).replies := by unfold Dev.release; simp

@[simp] theorem pair_recount (q r : Nat) : (d.recount q).pair r = d.pair r := by
  unfold Dev.recount; dsimp only; split <;> simp

theorem CmdFrame.running {x y : Dev} (h : CmdFrame x y) : y.cmd.running = x.cmd.running := by
  obtain ⟨r, w, e, p, m, b, hy⟩ := h.rest; rw [hy]

/-! ## Completions -/

/-- Replies are only added, and no pair falls silent or speaks again. -/
def Grows (x y : Dev) : Prop := ∀ q, (y.pair q).silent = (x.pair q).silent ∧ ∃ l, (y.pair q).replies = (x.pair q).replies ++ l

theorem Grows.refl (x : Dev) : Grows x x := fun _ => ⟨rfl, [], by simp⟩

theorem Grows.trans {x y z : Dev} (h : Grows x y) (g : Grows y z) : Grows x z := fun q => by
  obtain ⟨a, l, h⟩ := h q
  obtain ⟨b, k, g⟩ := g q
  exact ⟨b.trans a, l ++ k, by rw [g, h, List.append_assoc]⟩

theorem grows_same {x y : Dev} (h : ∀ q, y.pair q = x.pair q) : Grows x y := fun q => by rw [h]; exact ⟨rfl, [], by simp⟩

theorem grows_setPair (q : Nat) (x : Pair) (h : x.silent = (d.pair q).silent ∧ ∃ l, x.replies = (d.pair q).replies ++ l) :
    Grows d (d.setPair q x) := fun r => by
  rw [Dev.pair_setPair]
  split
  · subst r; exact h
  · exact ⟨rfl, [], by simp⟩

theorem grows_bumpBy (c : Cnt) (n : Nat) : Grows d (d.bumpBy c n) := grows_same fun q => by
  unfold Dev.bumpBy Dev.setCnt
  dsimp only
  split_ifs <;> rfl

theorem grows_noteLatency (q rung : Nat) : Grows d (d.noteLatency q rung) := by
  unfold Dev.noteLatency
  exact (grows_same fun _ => rfl : Grows d _).trans (grows_setPair _ _ _ ⟨rfl, [], by simp⟩)

theorem grows_release (q : Nat) : Grows d (d.release q) := grows_setPair d q _ ⟨rfl, [], by simp⟩

theorem grows_recount (q : Nat) : Grows d (d.recount q) := grows_same fun r => by rw [pair_recount]

theorem post_frame (q : Nat) (p : Packet) (status : Nat) (results : List Byte) :
    CmdFrame d (d.post q p status results) ∧ Grows d (d.post q p status results) := by
  by_cases hs : (d.pair q).silent = false
  · refine ⟨(post_spec d q p status results hs).1, fun r => ?_⟩
    unfold Dev.post
    simp only [hs, Bool.false_eq_true, if_false]
    by_cases hr : r = q
    · subst hr
      split <;> split <;> simp [hs]
    · split <;> split <;> simp [Dev.pair_setPair, hr] <;> exact ⟨rfl, [], (List.append_nil _).symm⟩
  · unfold Dev.post
    have : (d.pair q).silent = true := by simpa using hs
    simp only [this, if_true]
    exact ⟨cmdFrame_setPair d q _, grows_setPair d q _ ⟨this.symm, [], by simp⟩⟩

theorem cmdFrame_bump_fmt : CmdFrame d (d.bump C.CMDQ_FMT_ERR_CNT) := by
  have h1 : cmdqOwn Reg.CMDQ_FMT_ERR_CNT = true := rfl
  have h2 : cmdqOwn Reg.CMDQ_CNT_SAT = true := rfl
  unfold Dev.bump Dev.bumpBy
  dsimp only
  have hs : ∀ v, CmdFrame d (d.setCnt C.CMDQ_FMT_ERR_CNT v) := fun v => cmdFrame_put d _ _ h1
  split
  · exact (hs _).trans ((cmdFrame_put _ Reg.CMDQ_CNT_SAT _ h2).trans (cmdFrame_raise _ _ _ _))
  · exact hs _

/-- A refusal of a packet of no defined opcode. -/
theorem refusal_frame (q : Nat) (p : Packet) (h : p.opcode ≠ 0x0602#16) :
    CmdFrame d (d.refusal q p 0x0101 []) ∧ Grows d (d.refusal q p 0x0101 []) := by
  have e : d.refusal q p 0x0101 [] = ((((d.bump C.CMDQ_FMT_ERR_CNT).setPair q
      { (d.bump C.CMDQ_FMT_ERR_CNT).pair q with nRefused := ((d.bump C.CMDQ_FMT_ERR_CNT).pair q).nRefused + 1 }).post q p 0x0101 []).release
        q).recount q := by
    unfold Dev.refusal Dev.countRefused
    simp [h]
  rw [e]
  have h1 := cmdFrame_bump_fmt d
  have h1' : Grows d (d.bump C.CMDQ_FMT_ERR_CNT) := grows_bumpBy d _ 1
  generalize d.bump C.CMDQ_FMT_ERR_CNT = y at h1 h1' ⊢
  have h2 : Grows y (y.setPair q { y.pair q with nRefused := (y.pair q).nRefused + 1 }) := grows_setPair y q _ ⟨rfl, [], by simp⟩
  obtain ⟨h3, h4⟩ := post_frame (y.setPair q { y.pair q with nRefused := (y.pair q).nRefused + 1 }) q p 0x0101 []
  exact ⟨h1.trans ((cmdFrame_setPair y q _).trans (h3.trans ((cmdFrame_release _ q).trans (cmdFrame_recount _ q)))),
    h1'.trans (h2.trans (h4.trans ((grows_release _ q).trans (grows_recount _ q))))⟩

theorem refuseUnknown_frame (k q : Nat) : ∀ x : Dev, CmdFrame x (x.refuseUnknown k q) ∧ Grows x (x.refuseUnknown k q) := by
  induction k with
  | zero => exact fun x => ⟨CmdFrame.refl x, Grows.refl x⟩
  | succ k ih =>
    intro x
    unfold Dev.refuseUnknown
    split
    · exact ⟨CmdFrame.refl x, Grows.refl x⟩
    · rename_i w rest _
      split
      · rename_i hc
        dsimp only
        have hop : w.pkt.opcode ≠ 0x0602#16 := by
          intro he
          rw [he] at hc
          revert hc
          have : (opForm? (0x0602#16 : BitVec 16).toNat).isNone = false := by decide
          rw [this]
          simp
        have a1 := cmdFrame_setPair x q { x.pair q with fetched := rest }
        have a2 := grows_setPair x q { x.pair q with fetched := rest } ⟨rfl, [], by simp⟩
        generalize x.setPair q { x.pair q with fetched := rest } = y at a1 a2 ⊢
        obtain ⟨b1, b2⟩ := refusal_frame (y.noteLatency q w.rung) q w.pkt hop
        obtain ⟨c1, c2⟩ := ih ((y.noteLatency q w.rung).refusal q w.pkt 0x0101 [])
        exact ⟨a1.trans ((cmdFrame_noteLatency y q _).trans (b1.trans c1)),
          a2.trans ((grows_noteLatency y q _).trans (b2.trans c2))⟩
      · exact ⟨CmdFrame.refl x, Grows.refl x⟩

/-- The part with one outstanding command less. -/
def Dev.retire (d : Dev) (r : Running) : Dev := { d with cmd := { d.cmd with running := d.cmd.running.erase r } }

/-- What the end of an ACCEPTED command does: the command is no longer outstanding, its reply is posted, and whatever the
interpreter then refuses replies after it. -/
theorem finish_spec (r : Running) (status : Nat) (results : List Byte) (h : Awaits d r) :
    CmdFrame (d.retire r) (d.finish r status results) ∧
    ∃ later, ((d.finish r status results).pair r.pair).replies =
      (d.pair r.pair).replies ++ ⟨status, r.pkt.opcode.toNat, r.pkt.tag.toNat, results⟩ :: later := by
  have e : d.finish r status results = (((d.retire r).post r.pair r.pkt status results).recount r.pair).refuseUnknown
      ((d.retire r).pair r.pair).fetched.length r.pair := by
    unfold Dev.finish
    simp only [h.heard, Bool.false_eq_true, if_false]
    rfl
  obtain ⟨a1, a2⟩ := post_spec (d.retire r) r.pair r.pkt status results (by
    exact h.speaks)
  rw [e]
  generalize ((d.retire r).pair r.pair).fetched.length = k
  obtain ⟨b1, b2⟩ := refuseUnknown_frame k r.pair (((d.retire r).post r.pair r.pkt status results).recount r.pair)
  refine ⟨a1.trans ((cmdFrame_recount _ _).trans b1), ?_⟩
  obtain ⟨-, l, hl⟩ := b2 r.pair
  refine ⟨l, ?_⟩
  rw [hl, pair_recount, a2, List.append_assoc]
  rfl

/-- The end of an ACCEPTED command only adds replies. -/
theorem finish_grows (r : Running) (status : Nat) (results : List Byte) :
    Grows d (d.finish r status results) := by
  have h0 : Grows d (d.retire r) := grows_same fun _ => rfl
  unfold Dev.finish
  dsimp only
  split
  · exact h0.trans (grows_recount (d.retire r) _)
  · exact h0.trans ((post_frame (d.retire r) r.pair r.pkt status results).2.trans ((grows_recount _ _).trans (refuseUnknown_frame _ _ _).2))

/-! ## A command whose pair takes it at once -/

theorem cmdFrame_writeEntry (q : Nat) (p : Packet) : CmdFrame d (d.writeEntry q p) := by
  unfold Dev.writeEntry
  split
  · exact CmdFrame.refl d
  · exact cmdFrame_putQueue d _ _ _

theorem cmdFrame_submit (q : Nat) (p : Packet) : CmdFrame d (d.submit q p) := by
  unfold Dev.submit Dev.fetchAt
  dsimp only
  split
  · exact (((cmdFrame_writeEntry d q p).trans (cmdFrame_nextBell _)).trans (cmdFrame_setPair _ _ _)).trans (cmdFrame_setPair _ _ _)
  · exact CmdFrame.refl d

/-- What the doorbell and the fetch leave as they were. -/
theorem cmdFrame_taken (c : Cmd) (op : Nat) : CmdFrame d (taken d c op) :=
  (cmdFrame_submit d _ _).trans (cmdFrame_setPair _ _ _)

/-- Only the queue pairs and the queue memory differ. -/
def QueuesOnly (x y : Dev) : Prop := ∃ p m b, y = { x with cmd := { x.cmd with pairs := p, qmem := m, bells := b } }

theorem QueuesOnly.trans {x y z : Dev} (h : QueuesOnly x y) (g : QueuesOnly y z) : QueuesOnly x z := by
  obtain ⟨p, m, b, hy⟩ := h
  obtain ⟨p', m', b', hz⟩ := g
  exact ⟨p', m', b', by rw [hz, hy]⟩

theorem queuesOnly_setPair (q : Nat) (x : Pair) : QueuesOnly d (d.setPair q x) := ⟨_, d.cmd.qmem, d.cmd.bells, rfl⟩

theorem queuesOnly_nextBell : QueuesOnly d d.nextBell := ⟨d.cmd.pairs, d.cmd.qmem, _, rfl⟩

theorem queuesOnly_writeEntry (q : Nat) (p : Packet) : QueuesOnly d (d.writeEntry q p) := by
  unfold Dev.writeEntry
  split
  · exact ⟨d.cmd.pairs, d.cmd.qmem, d.cmd.bells, rfl⟩
  · exact ⟨d.cmd.pairs, _, d.cmd.bells, rfl⟩

theorem queuesOnly_submit (q : Nat) (p : Packet) : QueuesOnly d (d.submit q p) := by
  unfold Dev.submit Dev.fetchAt
  dsimp only
  split
  · exact (((queuesOnly_writeEntry d q p).trans (queuesOnly_nextBell _)).trans (queuesOnly_setPair _ _ _)).trans (queuesOnly_setPair _ _ _)
  · exact ⟨d.cmd.pairs, d.cmd.qmem, d.cmd.bells, rfl⟩

/-- What the doorbell and the fetch write: the queue pairs and the queue memory. -/
theorem taken_eq (c : Cmd) (op : Nat) : QueuesOnly d (taken d c op) := (queuesOnly_submit d _ _).trans (queuesOnly_setPair _ _ _)

variable {d}

theorem inHost_congr {x y : Dev} (h : y.regs = x.regs) (q : Nat) : y.inHost q = x.inHost q := by
  unfold Dev.inHost Dev.flag; rw [Dev.fld_congr h]

/-- What the doorbell and the fetch leave of a pair that takes the command. -/
theorem submit_takes {c : Cmd} {op : Nat} (h : Takes d c op) : d.submit c.pair.val (c.packet op) =
    (((d.writeEntry c.pair.val (c.packet op)).nextBell).setPair c.pair.val
      { d.pair c.pair.val with sqTail := ((d.pair c.pair.val).sqTail + 1) % 2 ^ 32 }).fetchAt c.pair.val
        { pkt := c.packet op, rung := d.time.ticks, bell := d.cmd.bells } := by
  unfold Dev.submit
  dsimp only
  exact if_pos (by simp [h.rung, h.fetched, h.room, h.enabled, h.halted])

/-- A pair that takes a command holds it as its only fetched one after the doorbell. -/
theorem submit_fetched {c : Cmd} {op : Nat} (h : Takes d c op) :
    ((d.submit c.pair.val (c.packet op)).pair c.pair.val).fetched = [{ pkt := c.packet op, rung := d.time.ticks, bell := d.cmd.bells }] ∧
    ((d.submit c.pair.val (c.packet op)).pair c.pair.val).replies = (d.pair c.pair.val).replies ∧
    ((d.submit c.pair.val (c.packet op)).pair c.pair.val).silent = false ∧
    ((d.submit c.pair.val (c.packet op)).pair c.pair.val).rung = [] := by
  rw [submit_takes h]
  unfold Dev.fetchAt
  simp only [Dev.pair_setPair_self, h.fetched, List.nil_append, h.speaks, h.rung, and_self]

@[simp] theorem pair_nextBell (r : Nat) : d.nextBell.pair r = d.pair r := rfl

theorem pair_writeEntry (q r : Nat) (p : Packet) : (d.writeEntry q p).pair r = d.pair r := by
  unfold Dev.writeEntry; split <;> rfl

/-- The pairs when the interpreter starts the command. -/
theorem taken_pair {c : Cmd} {op : Nat} (h : Takes d c op) (r : Nat) : (taken d c op).pair r =
    if r = c.pair.val then { d.pair r with
      sqTail := ((d.pair r).sqTail + 1) % 2 ^ 32, sqHead := ((d.pair r).sqHead + 1) % 2 ^ 32, reserved := (d.pair r).reserved + 2,
      nFetched := (d.pair r).nFetched + 1, fetched := [] }
    else d.pair r := by
  unfold taken
  dsimp only
  rw [submit_takes h]
  unfold Dev.fetchAt
  by_cases hr : r = c.pair.val
  · subst hr
    simp
  · simp only [Dev.pair_setPair, if_neg hr]
    exact pair_writeEntry _ _ _

/-- The doorbell of a pair leaves what comes first of the other pairs. -/
theorem otherAhead_submit (q bell : Nat) (p : Packet) : (d.submit q p).otherAhead q bell = d.otherAhead q bell := by
  obtain ⟨ps, m, b, hy⟩ := queuesOnly_submit d q p
  have hp : ∀ r, r ≠ q → (d.submit q p).pair r = d.pair r := by
    intro r hr
    unfold Dev.submit Dev.fetchAt
    dsimp only
    split
    · simp only [Dev.pair_setPair, if_neg hr, pair_nextBell, pair_writeEntry]
    · rfl
  have hl : ∀ r, (d.submit q p).pairLive r = d.pairLive r := by intro r; rw [hy]; rfl
  have hf : ∀ r k, (d.submit q p).fenced r k = d.fenced r k := by intro r k; rw [hy]; rfl
  unfold Dev.otherAhead
  congr 1
  funext x
  by_cases hx : x = q
  · simp [hx]
  · rw [hl, hp x hx]; simp only [hf]

/-- The command of a pair that takes it is answered by its verdict. -/
theorem runCmd_taken {c : Cmd} {op : Nat} (body : Body) (mem : List Host.Cell) (h : Takes d c op) :
    runCmd op c body mem d = (taken d c op).answer c.pair.val (c.packet op) d.time.ticks
      (judge c.pair.val (c.packet op) body mem (taken d c op)) := by
  have hf := (submit_fetched h).1
  have hfen : (d.submit c.pair.val (c.packet op)).fenced c.pair.val (c.packet op) = false := by
    have e : (d.submit c.pair.val (c.packet op)).cmd.running = d.cmd.running := by
      have := (cmdFrame_taken d c op).running
      simpa [taken] using this
    have := h.fence
    unfold Dev.fenced Dev.countRunning at this ⊢
    rw [e]; exact this
  unfold runCmd
  simp only [h.live, if_true, h.fetched, List.any_nil, Bool.false_eq_true, if_false]
  unfold Dev.startHead
  rw [hf]
  simp only [hfen, otherAhead_submit, h.turn, and_self, if_true, List.length_nil, Dev.refuseUnknown]
  rfl

/-- The checks common to all commands pass for a pair that takes the command: the verdict is the body's. -/
theorem judge_taken {c : Cmd} {op : Nat} (body : Body) (mem : List Host.Cell) (h : Takes d c op) :
    judge c.pair.val (c.packet op) body mem (taken d c op) = body (c.packet op) mem (taken d c op) := by
  have hr := cmdFrame_taken d c op
  have hregs : ∀ a, cmdqOwn a = false → (taken d c op).reg a = d.reg a := hr.reg
  obtain ⟨r, w, e, p, m, b, hy⟩ := hr.rest
  have e1 : formError (c.packet op) = 0 := h.form
  have e2 : (taken d c op).stageError (c.packet op) = 0 := by
    have hrst : (taken d c op).rst = d.rst := by rw [hy]
    have hg : (taken d c op).flag F.GLB_STAT_RESTORED = d.flag F.GLB_STAT_RESTORED := by
      unfold Dev.flag Dev.fld; rw [hregs _ rfl]
    have := h.stage
    unfold Dev.stageError Dev.readyError Dev.transitionOk at this ⊢
    rw [hrst, hg]; exact this
  have e3 : (taken d c op).limitError c.pair.val (c.packet op).opcode.toNat = d.limitError c.pair.val (c.packet op).opcode.toNat := by
    have hrun : (taken d c op).cmd.running = d.cmd.running := hr.running
    have hm : (taken d c op).fld F.MEM_DMA_STAT_HALTED = d.fld F.MEM_DMA_STAT_HALTED := by
      unfold Dev.fld; rw [hregs _ rfl]
    unfold Dev.limitError Dev.countRunning
    rw [hrun, hm]
  have e4 : d.limitError c.pair.val (c.packet op).opcode.toNat = 0 := h.limit
  unfold judge refuseIf
  simp [e1, e2, e3, e4]

/-! ## What a step leaves -/

/-- State `t` is what a step makes of the work `e` on the part: every part of the state as the work left it, and every register but
those of the event logic and of the command queues. -/
structure Settled (s : State) (e : Dev) (t : State) : Prop where
  parts : ∀ p : Part, p.same e t.dev
  reg : ∀ a, evtOwn a = false → cmdqOwn a = false → t.dev.reg a = e.reg a
  pending : t.pending = s.pending
  mem : e.outbox = [] → e.wide64 Reg.EVT_RING_BASE_LO = s.dev.wide64 Reg.EVT_RING_BASE_LO → e.reg Reg.EVT_RING_SIZE = s.dev.reg Reg.EVT_RING_SIZE → KeepsMem s t
  written : ∀ b bs, e.outbox = [.write b bs] → e.wide64 Reg.EVT_RING_BASE_LO = s.dev.wide64 Reg.EVT_RING_BASE_LO → e.reg Reg.EVT_RING_SIZE = s.dev.reg Reg.EVT_RING_SIZE →
    e.memHalted = false → Writes b bs s t
  zeroed : ∀ b n, e.outbox = [.zero b n] → e.wide64 Reg.EVT_RING_BASE_LO = s.dev.wide64 Reg.EVT_RING_BASE_LO → e.reg Reg.EVT_RING_SIZE = s.dev.reg Reg.EVT_RING_SIZE →
    e.memHalted = false → ∀ a, ¬InRing s.dev a → memByte t.mem a = if b ≤ a ∧ a < b + n then 0#8 else memByte s.mem a
  raised : ∀ r ∈ e.evt.raised, r.src < 640 → Pending t r.src

theorem same_refl (p : Part) (x : Dev) : p.same x x := by cases p <;> rfl

theorem same_trans {p : Part} {x y z : Dev} (h : p.same x y) (g : p.same y z) : p.same x z := by
  cases p <;> simp only [Part.same] at h g ⊢ <;> rw [g, h]

theorem CmdFrame.same {x y : Dev} (h : CmdFrame x y) (p : Part) : p.same x y := by
  obtain ⟨r, w, e, q, m, b, hy⟩ := h.rest
  rw [hy]; cases p <;> rfl

theorem begin_same (x : Dev) (p : Part) : p.same x x.begin_ := by cases p <;> rfl

theorem onDev_same (s : State) (f : List Host.Cell → Dev → Dev) (p : Part) : p.same (f s.mem s.dev.begin_) (s.onDev f).dev := by
  obtain ⟨r, w, b, e, fa, li, h⟩ := (onDev_dev s f).2
  rw [h]; cases p <;> rfl

/-- The event ring stands where it stood. -/
theorem not_inRing {x y : Dev} (hw : y.wide64 Reg.EVT_RING_BASE_LO = x.wide64 Reg.EVT_RING_BASE_LO)
    (hs : y.reg Reg.EVT_RING_SIZE = x.reg Reg.EVT_RING_SIZE) {a : Nat}
    (h : ¬InRing x a) : ¬y.inEvtRing a := by
  unfold InRing at h
  unfold Dev.inEvtRing
  unfold Dev.evtDepth Dev.fld at *
  rw [show F.EVT_RING_SIZE_LOG2.addr = Reg.EVT_RING_SIZE from rfl] at *
  rw [hw, hs]
  exact h

/-- The bytes of device memory after a step whose work writes none. -/
theorem onDev_keepsMem (s : State) (f : List Host.Cell → Dev → Dev) (ho : (f s.mem s.dev.begin_).outbox = [])
    (hw : (f s.mem s.dev.begin_).wide64 Reg.EVT_RING_BASE_LO = s.dev.wide64 Reg.EVT_RING_BASE_LO)
    (hs : (f s.mem s.dev.begin_).reg Reg.EVT_RING_SIZE = s.dev.reg Reg.EVT_RING_SIZE) : KeepsMem s (s.onDev f) :=
  fun a ha => onDev_byte s f a (by rw [ho]; simp) (not_inRing hw hs ha)

/-- A step settles the work on the part. -/
theorem onDev_settled (s : State) (f : List Host.Cell → Dev → Dev) : Settled s (f s.mem s.dev.begin_) (s.onDev f) :=
  ⟨onDev_same s f, fun a h _ => onDev_reg s f a h, rfl, onDev_keepsMem s f,
    fun b bs ho hw hs hh a ha => onDev_written s f a b bs ho hh (not_inRing hw hs ha),
    fun b n ho hw hs hh a ha => onDev_zeroed s f a b n ho hh (not_inRing hw hs ha), fun r hr h => onDev_raises s f r hr h⟩

theorem Settled.fld {s t : State} {e : Dev} (h : Settled s e t) (f : Fld) (h1 : evtOwn f.addr = false) (h2 : cmdqOwn f.addr = false) :
    t.dev.fld f = e.fld f := by unfold Dev.fld; rw [h.reg _ h1 h2]

theorem Settled.flag {s t : State} {e : Dev} (h : Settled s e t) (f : Fld) (h1 : evtOwn f.addr = false)
    (h2 : cmdqOwn f.addr = false) : t.dev.flag f = e.flag f := by unfold Dev.flag; rw [h.fld _ h1 h2]

theorem Settled.wide64 {s t : State} {e : Dev} (h : Settled s e t) (a : Nat) : t.dev.wide64 a = e.wide64 a := by
  have := h.parts .wide
  simp only [Part.same] at this
  unfold Dev.wide64; rw [this]

theorem Settled.cnt {s t : State} {e : Dev} (h : Settled s e t) (c : Cnt) (h1 : evtOwn c.addr = false)
    (h2 : cmdqOwn c.addr = false) : t.dev.cnt c = e.cnt c := by unfold Dev.cnt; rw [h.reg _ h1 h2, h.wide64]

/-- Work that differs from `e` by the reply machinery settles as `e` does. -/
theorem CmdFrame.settled {s t : State} {e x : Dev} (h : CmdFrame e x) (g : Settled s x t) : Settled s e t := by
  have hm : x.memHalted = e.memHalted := memHalted_congr (h.reg Reg.MEM_STAT rfl)
  refine ⟨fun p => same_trans (h.same p) (g.parts p), fun a h1 h2 => (g.reg a h1 h2).trans (h.reg a h2), g.pending, ?_, ?_, ?_, ?_⟩
  · intro ho hw hs
    obtain ⟨r, w, ev, q, m, bl, hy⟩ := h.rest
    exact g.mem (by rw [hy]; exact ho) (by rw [hy]; exact hw) ((h.reg _ rfl).trans hs)
  · intro b bs ho hw hs hh
    obtain ⟨r, w, ev, q, m, bl, hy⟩ := h.rest
    exact g.written b bs (by rw [hy]; exact ho) (by rw [hy]; exact hw) ((h.reg _ rfl).trans hs) (hm.trans hh)
  · intro b n ho hw hs hh
    obtain ⟨r, w, ev, q, m, bl, hy⟩ := h.rest
    exact g.zeroed b n (by rw [hy]; exact ho) (by rw [hy]; exact hw) ((h.reg _ rfl).trans hs) (hm.trans hh)
  · intro r hr hs
    obtain ⟨l, hl⟩ := h.raised
    exact g.raised r (by rw [hl]; exact List.mem_append_left _ hr) hs

/-- A step leaves what the work on the part left. -/
theorem Settled.leaves {s t : State} {e : Dev} {ps : List Part} {rs : List Nat} (h : Settled s e t)
    (hp : ∀ p, p ∉ ps → p.same s.dev e) (hr : ∀ a, a ∉ rs → evtOwn a = false → cmdqOwn a = false → e.reg a = s.dev.reg a)
    (hm : KeepsMem s t) : Leaves ps rs s t :=
  ⟨fun p hq => same_trans (hp p hq) (h.parts p), fun a h1 h2 h3 => (h.reg a h2 h3).trans (hr a h1 h2 h3), hm⟩

/-! ## A command that its pair takes at once, as a step -/

theorem takes_begin {d : Dev} {c : Cmd} {op : Nat} (h : Takes d c op) : Takes d.begin_ c op :=
  ⟨h.live, h.enabled, h.halted, h.speaks, h.rung, h.fetched, h.room, h.fence, h.turn, h.form, h.stage, h.limit⟩

/-- The part as the interpreter finds it when it starts a command of a step. -/
abbrev atStart (s : State) (c : Cmd) (op : Nat) : Dev := taken s.dev.begin_ c op

theorem atStart_frame (s : State) (c : Cmd) (op : Nat) : CmdFrame s.dev.begin_ (atStart s c op) := cmdFrame_taken s.dev.begin_ c op

/-- The part as the interpreter finds it: the part before the step, but for the queue pairs and the queue memory. -/
theorem atStart_eq (s : State) (c : Cmd) (op : Nat) :
    ∃ p m b, atStart s c op = { s.dev.begin_ with cmd := { s.dev.cmd with pairs := p, qmem := m, bells := b } } := taken_eq s.dev.begin_ c op

theorem atStart_pair {s : State} {c : Cmd} {op : Nat} (h : Takes s.dev c op) (r : Nat) : (atStart s c op).pair r =
    if r = c.pair.val then { s.dev.pair r with
      sqTail := ((s.dev.pair r).sqTail + 1) % 2 ^ 32, sqHead := ((s.dev.pair r).sqHead + 1) % 2 ^ 32,
      reserved := (s.dev.pair r).reserved + 2, nFetched := (s.dev.pair r).nFetched + 1, fetched := [] }
    else s.dev.pair r := taken_pair (takes_begin h) r

theorem atStart_reg (s : State) (c : Cmd) (op a : Nat) (h : cmdqOwn a = false) : (atStart s c op).reg a = s.dev.reg a :=
  (atStart_frame s c op).reg a h

theorem atStart_same (s : State) (c : Cmd) (op : Nat) (p : Part) : p.same s.dev (atStart s c op) :=
  same_trans (begin_same s.dev p) ((atStart_frame s c op).same p)

theorem atStart_replies {s : State} {c : Cmd} {op : Nat} (h : Takes s.dev c op) :
    ((atStart s c op).pair c.pair.val).replies = (s.dev.pair c.pair.val).replies ∧
    ((atStart s c op).pair c.pair.val).silent = false := by
  obtain ⟨-, h2, h3, -⟩ := submit_fetched (takes_begin h)
  unfold atStart taken
  simp only [Dev.pair_setPair_self]
  exact ⟨h2, h3⟩

/-- The reply machinery after a verdict `ok`. -/
theorem answer_ok (q : Nat) (p : Packet) (rung : Nat) (e : Dev) (res : List Byte) (hs : (e.pair q).silent = false) :
    CmdFrame e (d.answer q p rung (.ok e res)) ∧
    ((d.answer q p rung (.ok e res)).pair q).replies = (e.pair q).replies ++ [⟨0, p.opcode.toNat, p.tag.toNat, res⟩] := by
  have hn : ((e.noteLatency q rung).pair q).silent = false := by rw [pair_noteLatency]; exact hs
  obtain ⟨h1, h2⟩ := post_spec (e.noteLatency q rung) q p 0 res hn
  refine ⟨(cmdFrame_noteLatency e q rung).trans (h1.trans ((cmdFrame_release _ q).trans (cmdFrame_recount _ q))), ?_⟩
  show (((((e.noteLatency q rung).post q p 0 res).release q).recount q).pair q).replies = _
  rw [pair_recount, replies_release, h2, pair_noteLatency]

theorem answer_grows (q : Nat) (p : Packet) (rung : Nat) (e : Dev) (res : List Byte) : Grows e (d.answer q p rung (.ok e res)) :=
  (grows_noteLatency e q rung).trans ((post_frame (e.noteLatency q rung) q p 0 res).2.trans ((grows_release _ q).trans (grows_recount _ q)))

/-- The part with one more outstanding command. -/
def Dev.outstanding (d : Dev) (r : Running) : Dev := { d with cmd := { d.cmd with running := d.cmd.running ++ [r] } }

/-- The reply machinery after a verdict `accept`. -/
theorem answer_accept (q : Nat) (p : Packet) (rung : Nat) (e : Dev) (aux : Nat) (hs : (e.pair q).silent = false) :
    CmdFrame (e.outstanding ⟨q, p, false, aux⟩) (d.answer q p rung (.accept e aux)) ∧
    ((d.answer q p rung (.accept e aux)).pair q).replies = (e.pair q).replies ++ [⟨1, p.opcode.toNat, p.tag.toNat, []⟩] := by
  have hf : CmdFrame (e.outstanding ⟨q, p, false, aux⟩) ((e.noteLatency q rung).outstanding ⟨q, p, false, aux⟩) := by
    have h := cmdFrame_noteLatency e q rung
    obtain ⟨r, w, ev, pp, m, bl, hy⟩ := h.rest
    refine ⟨h.reg, ⟨r, w, ev, pp, m, bl, ?_⟩, h.raised⟩
    rw [hy]; rfl
  have hn : (((e.noteLatency q rung).outstanding ⟨q, p, false, aux⟩).pair q).silent = false := by
    show ((e.noteLatency q rung).pair q).silent = false
    rw [pair_noteLatency]; exact hs
  obtain ⟨h1, h2⟩ := post_spec ((e.noteLatency q rung).outstanding ⟨q, p, false, aux⟩) q p 1 [] hn
  refine ⟨hf.trans (h1.trans (cmdFrame_recount _ q)), ?_⟩
  show ((((((e.noteLatency q rung).outstanding ⟨q, p, false, aux⟩).post q p 1 []).recount q).pair q).replies) = _
  rw [pair_recount, h2]
  show ((e.noteLatency q rung).pair q).replies ++ _ = _
  rw [pair_noteLatency]

/-- A command that its pair takes at once and whose own checks pass: its final reply, and what its action left. -/
theorem command_ok {s : State} {c : Cmd} {op : Nat} {body : Body} {e : Dev} {res : List Byte} (h : Takes s.dev c op)
    (hb : body (c.packet op) s.mem (atStart s c op) = .ok e res) (hc : e.cmd = (atStart s c op).cmd) :
    Replied s (s.onDev fun mem d => runCmd op c body mem d) c op 0 res ∧
    Settled s e (s.onDev fun mem d => runCmd op c body mem d) := by
  have hrun := runCmd_taken body s.mem (takes_begin h)
  rw [judge_taken body s.mem (takes_begin h), hb] at hrun
  have hp : e.pair c.pair.val = (atStart s c op).pair c.pair.val := by unfold Dev.pair; rw [hc]
  obtain ⟨r1, r2⟩ := atStart_replies h
  obtain ⟨a1, a2⟩ := answer_ok (d := taken s.dev.begin_ c op) c.pair.val (c.packet op) s.dev.begin_.time.ticks e res
    (by rw [hp]; exact r2)
  rw [← hrun] at a1 a2
  refine ⟨?_, a1.settled (onDev_settled s _)⟩
  have hcmd := onDev_cmd s (fun mem d => runCmd op c body mem d)
  unfold Replied
  show (sget _ c.pair.val (s.onDev fun mem d => runCmd op c body mem d).dev.cmd.pairs).replies = _
  rw [hcmd]
  show ((runCmd op c body s.mem s.dev.begin_).pair c.pair.val).replies = _
  rw [a2, hp, r1]
  rfl

/-- A command that its pair takes at once and whose own checks pass: ACCEPTED, outstanding, and what its action left. -/
theorem command_accept {s : State} {c : Cmd} {op aux : Nat} {body : Body} {e : Dev} (h : Takes s.dev c op)
    (hb : body (c.packet op) s.mem (atStart s c op) = .accept e aux) (hc : e.cmd = (atStart s c op).cmd) :
    Replied s (s.onDev fun mem d => runCmd op c body mem d) c op 1 [] ∧
    Accepted s (s.onDev fun mem d => runCmd op c body mem d) c op aux ∧
    Settled s e (s.onDev fun mem d => runCmd op c body mem d) := by
  have hrun := runCmd_taken body s.mem (takes_begin h)
  rw [judge_taken body s.mem (takes_begin h), hb] at hrun
  have hp : e.pair c.pair.val = (atStart s c op).pair c.pair.val := by unfold Dev.pair; rw [hc]
  obtain ⟨r1, r2⟩ := atStart_replies h
  obtain ⟨a1, a2⟩ := answer_accept (d := taken s.dev.begin_ c op) c.pair.val (c.packet op) s.dev.begin_.time.ticks e aux
    (by rw [hp]; exact r2)
  rw [← hrun] at a1 a2
  have hcmd := onDev_cmd s (fun mem d => runCmd op c body mem d)
  refine ⟨?_, ?_, ?_⟩
  · unfold Replied
    show (sget _ c.pair.val (s.onDev fun mem d => runCmd op c body mem d).dev.cmd.pairs).replies = _
    rw [hcmd]
    show ((runCmd op c body s.mem s.dev.begin_).pair c.pair.val).replies = _
    rw [a2, hp, r1]
    rfl
  · unfold Accepted
    rw [hcmd, a1.running]
    show e.cmd.running ++ _ = _
    rw [hc, (atStart_frame s c op).running]
    rfl
  · have h2 := a1.settled (onDev_settled s _)
    exact ⟨fun p => by have := h2.parts p; cases p <;> exact this, h2.reg, h2.pending, h2.mem, h2.written, h2.zeroed, h2.raised⟩

/-- A command that its pair takes at once and whose own checks pass, whatever its action does to the pairs. -/
theorem command_done {s : State} {c : Cmd} {op : Nat} {body : Body} {e : Dev} {res : List Byte} (h : Takes s.dev c op)
    (hb : body (c.packet op) s.mem (atStart s c op) = .ok e res) (hg : Grows (atStart s c op) e) :
    CmdFrame e (runCmd op c body s.mem s.dev.begin_) ∧ Grows e (runCmd op c body s.mem s.dev.begin_) ∧
    ((runCmd op c body s.mem s.dev.begin_).pair c.pair.val).replies =
      (e.pair c.pair.val).replies ++ [⟨0, (c.packet op).opcode.toNat, c.tag.toNat, res⟩] := by
  have hrun := runCmd_taken body s.mem (takes_begin h)
  rw [judge_taken body s.mem (takes_begin h), hb] at hrun
  obtain ⟨-, r2⟩ := atStart_replies h
  obtain ⟨a1, a2⟩ := answer_ok (d := taken s.dev.begin_ c op) c.pair.val (c.packet op) s.dev.begin_.time.ticks e res
    ((hg c.pair.val).1.trans r2)
  have a3 := answer_grows (d := taken s.dev.begin_ c op) c.pair.val (c.packet op) s.dev.begin_.time.ticks e res
  rw [← hrun] at a1 a2 a3
  exact ⟨a1, a3, a2⟩

/-- The part before a step, with other queue pairs and another queue memory. -/
abbrev withQueues (s : State) (p : Sparse Pair) (m : Sparse Word) (k : Nat) : Dev :=
  { s.dev.begin_ with cmd := { s.dev.cmd with pairs := p, qmem := m, bells := k } }

theorem not_of_true {b : Bool} (h : b = true) : (!b) = false := by rw [h]; rfl

theorem refuseIf_false {b : Bool} {code : Nat} {k v : Verdict} (h : b = false) (hk : k = v) : refuseIf b code k = v := by
  rw [refuseIf, h]; exact hk

/-- A command that reports. -/
theorem answers {i : Instr} {c : Cmd} {op : Nat} {s : State} {res : List Byte} {body : Body}
    (hx : exec i s = .next (s.onDev fun mem d => runCmd op c body mem d))
    (hb : ∀ p m k, Takes s.dev c op → atStart s c op = withQueues s p m k →
      body (c.packet op) s.mem (withQueues s p m k) = .ok (withQueues s p m k) res) : Answers i c op s res := by
  intro h
  obtain ⟨p, m, k, hy⟩ := atStart_eq s c op
  obtain ⟨a, b⟩ := command_ok (body := body) (e := atStart s c op) (res := res) h (by have := hb p m k h hy; rw [hy]; exact this) rfl
  exact ⟨_, hx, a, b.leaves (fun p _ => atStart_same s c op p) (fun a _ _ h => atStart_reg s c op a h)
      (b.mem (by rw [hy]; rfl) (by rw [hy]; rfl) (by rw [hy]; rfl))⟩

/-- What work on the part may alter: the parts and the registers listed. -/
structure Alters (parts : List Part) (regs : List Nat) (x y : Dev) : Prop where
  same : ∀ p, p ∉ parts → p.same x y
  reg : ∀ a, a ∉ regs → y.reg a = x.reg a
  cmd : y.cmd = x.cmd
  outbox : y.outbox = x.outbox
  base : y.wide64 Reg.EVT_RING_BASE_LO = x.wide64 Reg.EVT_RING_BASE_LO
  raised : ∃ l, y.evt.raised = x.evt.raised ++ l

section
variable {parts : List Part} {regs : List Nat}

theorem Alters.refl (x : Dev) : Alters parts regs x x :=
  ⟨fun p _ => same_refl p x, fun _ _ => rfl, rfl, rfl, rfl, [], (List.append_nil _).symm⟩

theorem Alters.trans {x y z : Dev} (h : Alters parts regs x y) (g : Alters parts regs y z) : Alters parts regs x z := by
  obtain ⟨l, hl⟩ := h.raised
  obtain ⟨k, hk⟩ := g.raised
  exact ⟨fun p hp => same_trans (h.same p hp) (g.same p hp), fun a ha => (g.reg a ha).trans (h.reg a ha), g.cmd.trans h.cmd,
    g.outbox.trans h.outbox, g.base.trans h.base, l ++ k, by rw [hk, hl, List.append_assoc]⟩

theorem Alters.mono {ps : List Part} {rs : List Nat} {x y : Dev} (h : Alters ps rs x y) (hp : ∀ p, p ∈ ps → p ∈ parts)
    (hr : ∀ a, a ∈ rs → a ∈ regs) : Alters parts regs x y :=
  ⟨fun p hn => h.same p fun hm => hn (hp p hm), fun a hn => h.reg a fun hm => hn (hr a hm), h.cmd, h.outbox, h.base, h.raised⟩

theorem Alters.put {x y : Dev} (h : Alters parts regs x y) (a : Nat) (v : Word) (ha : a ∈ regs) : Alters parts regs x (y.put a v) :=
  h.trans ⟨fun p _ => by cases p <;> rfl, fun b hb => Dev.reg_put_ne y _ _ _ fun e => hb (e ▸ ha), rfl, rfl, rfl, [],
    (List.append_nil _).symm⟩

theorem Alters.setFld {x y : Dev} (h : Alters parts regs x y) (f : Fld) (v : Nat) (ha : f.addr ∈ regs) :
    Alters parts regs x (y.setFld f v) := h.put f.addr _ ha

theorem Alters.setFlag {x y : Dev} (h : Alters parts regs x y) (f : Fld) (b : Bool) (ha : f.addr ∈ regs) :
    Alters parts regs x (y.setFlag f b) := h.put f.addr _ ha

theorem Alters.setBit {x y : Dev} (h : Alters parts regs x y) (a n : Nat) (b : Bool) (ha : a ∈ regs) :
    Alters parts regs x (y.setBit a n b) := h.put a _ ha

theorem Alters.raise {x y : Dev} (h : Alters parts regs x y) (n a b : Nat) : Alters parts regs x (y.raise n a b) :=
  h.trans ⟨fun p _ => by cases p <;> rfl, fun _ _ => rfl, rfl, rfl, rfl, _, rfl⟩

theorem Alters.raiseAs {x y : Dev} (h : Alters parts regs x y) (n : Nat) (k : Bool) (a b : Nat) :
    Alters parts regs x (y.raiseAs n k a b) :=
  h.trans ⟨fun p _ => by cases p <;> rfl, fun _ _ => rfl, rfl, rfl, rfl, _, rfl⟩

theorem Alters.sticky {x y : Dev} (h : Alters parts regs x y) (a n src : Nat) (ha : a ∈ regs) :
    Alters parts regs x (y.sticky a n src) := by
  unfold Dev.sticky
  split
  · exact h
  · exact (h.setBit a n true ha).raise _ _ _

/-- Work that writes parts of the state directly. -/
theorem Alters.direct {x y z : Dev} (h : Alters parts regs x y) (hs : ∀ p, p ∉ parts → p.same y z) (hr : z.regs = y.regs)
    (hc : z.cmd = y.cmd) (ho : z.outbox = y.outbox) (hw : z.wide = y.wide) (he : z.evt = y.evt) : Alters parts regs x z :=
  h.trans ⟨hs, fun a _ => Dev.reg_congr hr a, hc, ho, by unfold Dev.wide64; rw [hw], [], by rw [he, List.append_nil]⟩

theorem Alters.bumpBy {x y : Dev} (h : Alters parts regs x y) (c : Cnt) (n : Nat) (ha : c.addr ∈ regs) (hs : c.sat ∈ regs)
    (hw : c.wide = false) : Alters parts regs x (y.bumpBy c n) := by
  unfold Dev.bumpBy Dev.setCnt
  simp only [hw, Bool.false_eq_true, if_false]
  split
  · exact ((h.put _ _ ha).setBit _ _ _ hs).raise _ _ _
  · exact h.put _ _ ha

theorem Alters.bump {x y : Dev} (h : Alters parts regs x y) (c : Cnt) (ha : c.addr ∈ regs) (hs : c.sat ∈ regs)
    (hw : c.wide = false) : Alters parts regs x (y.bump c) := h.bumpBy c 1 ha hs hw

theorem Alters.ite {x y z : Dev} {c : Prop} [Decidable c] (h : c → Alters parts regs x y) (g : ¬c → Alters parts regs x z) :
    Alters parts regs x (if c then y else z) := by
  split
  · exact h ‹_›
  · exact g ‹_›

end

theorem Alters.foldl {α : Type} {parts : List Part} {regs : List Nat} {f : Dev → α → Dev}
    (h : ∀ y a, Alters parts regs y (f y a)) (l : List α) : ∀ x y : Dev, Alters parts regs x y → Alters parts regs x (l.foldl f y) := by
  induction l with
  | nil => exact fun _ _ g => g
  | cons a l ih => exact fun x y g => ih x _ (g.trans (h y a))

/-- What a step leaves whose work alters only the parts and registers listed. -/
theorem Alters.leaves {s t : State} {x e : Dev} {parts : List Part} {regs : List Nat} (h : Alters parts regs x e)
    (hx : ∀ p, Part.same p s.dev x) (hr : ∀ a, x.reg a = s.dev.reg a) (ho : x.outbox = [])
    (hb : x.wide64 Reg.EVT_RING_BASE_LO = s.dev.wide64 Reg.EVT_RING_BASE_LO) (hn : Reg.EVT_RING_SIZE ∉ regs) (b : Settled s e t) :
    Leaves parts regs s t :=
  b.leaves (fun q hq => same_trans (hx q) (h.same q hq)) (fun a h1 _ _ => (h.reg a h1).trans (hr a))
    (b.mem (h.outbox.trans ho) (h.base.trans hb) ((h.reg _ hn).trans (hr _)))

/-- What a step of an event leaves whose work alters only the parts and registers listed. -/
theorem Alters.stepLeaves {s : State} {f : List Host.Cell → Dev → Dev} {parts : List Part} {regs : List Nat}
    (h : Alters parts regs s.dev.begin_ (f s.mem s.dev.begin_)) (hn : Reg.EVT_RING_SIZE ∉ regs) :
    Leaves parts regs s (s.onDev f) :=
  h.leaves (begin_same s.dev) (fun _ => rfl) rfl rfl hn (onDev_settled s f)

/-- A command that acts. -/
theorem acts {i : Instr} {c : Cmd} {op : Nat} {s : State} {res : List Byte} {body : Body} {parts : List Part} {regs : List Nat}
    {effect : State → Prop} (g : Dev → Dev) (hx : exec i s = .next (s.onDev fun mem d => runCmd op c body mem d))
    (hb : ∀ p m k, Takes s.dev c op → atStart s c op = withQueues s p m k →
      body (c.packet op) s.mem (withQueues s p m k) = .ok (g (withQueues s p m k)) res)
    (ht : ∀ p m k, Alters parts regs (withQueues s p m k) (g (withQueues s p m k))) (hn : Reg.EVT_RING_SIZE ∉ regs)
    (he : ∀ p m k t, Settled s (g (withQueues s p m k)) t → effect t) : Acts i c op s res parts regs effect := by
  intro h
  obtain ⟨p, m, k, hy⟩ := atStart_eq s c op
  obtain ⟨a, b⟩ := command_ok (body := body) (e := g (withQueues s p m k)) (res := res) h
    (by have := hb p m k h hy; rw [hy]; exact this) (by rw [hy]; exact (ht p m k).cmd)
  exact ⟨_, hx, a, he p m k _ b, (ht p m k).leaves (fun q => by cases q <;> rfl) (fun _ => rfl) rfl rfl hn b⟩

/-- A command that starts an operation. -/
theorem starts {i : Instr} {c : Cmd} {op aux : Nat} {s : State} {body : Body} {parts : List Part} {regs : List Nat}
    {effect : State → Prop} (g : Dev → Dev) (hx : exec i s = .next (s.onDev fun mem d => runCmd op c body mem d))
    (hb : ∀ p m k, Takes s.dev c op → atStart s c op = withQueues s p m k →
      body (c.packet op) s.mem (withQueues s p m k) = .accept (g (withQueues s p m k)) aux)
    (ht : ∀ p m k, Alters parts regs (withQueues s p m k) (g (withQueues s p m k))) (hn : Reg.EVT_RING_SIZE ∉ regs)
    (he : ∀ p m k t, Settled s (g (withQueues s p m k)) t → effect t) : Starts i c op s aux parts regs effect := by
  intro h
  obtain ⟨p, m, k, hy⟩ := atStart_eq s c op
  obtain ⟨a, b1, b⟩ := command_accept (body := body) (e := g (withQueues s p m k)) (aux := aux) h
    (by have := hb p m k h hy; rw [hy]; exact this) (by rw [hy]; exact (ht p m k).cmd)
  exact ⟨_, hx, a, b1, he p m k _ b, (ht p m k).leaves (fun q => by cases q <;> rfl) (fun _ => rfl) rfl rfl hn b⟩

/-- What a fast-path command does whose pair lets it act (R445): it acts on the part but for the queues, and its reply is posted. -/
theorem runFast_ok {c : Cmd} {op : Nat} {body : Body} {d : Dev} {res : List Byte} (g : Dev → Dev) (mem : List Host.Cell)
    (h : TakesFast d c op) (hb : ∀ x, QueuesOnly d x → body (c.packet op) mem x = .ok (g x) res)
    (hc : ∀ x, QueuesOnly d x → (g x).cmd = x.cmd) :
    ∃ x, QueuesOnly d x ∧ CmdFrame (g x) (runFast op c body mem d) ∧
    ((runFast op c body mem d).pair c.pair.val).replies =
      (d.pair c.pair.val).replies ++ [⟨0, (c.packet op).opcode.toNat, c.tag.toNat, res⟩] := by
  unfold runFast
  dsimp only
  rw [if_neg (by rw [h.form]; simp), if_pos (by simp [h.opens, h.room, h.space])]
  have h0 : ∀ x : Pair, x.silent = (d.pair c.pair.val).silent → x.replies = (d.pair c.pair.val).replies →
      ∃ y, QueuesOnly d y ∧ CmdFrame (g y) (((d.writeEntry c.pair.val (c.packet op)).setPair c.pair.val x).fastAct c.pair.val
        (c.packet op) d.time.ticks body mem) ∧
      (((((d.writeEntry c.pair.val (c.packet op)).setPair c.pair.val x).fastAct c.pair.val (c.packet op) d.time.ticks body mem).pair
        c.pair.val).replies) = (d.pair c.pair.val).replies ++ [⟨0, (c.packet op).opcode.toNat, c.tag.toNat, res⟩] := by
    intro x hs hr
    unfold Dev.fastAct
    dsimp only
    have hq : QueuesOnly d (((d.writeEntry c.pair.val (c.packet op)).setPair c.pair.val x).setPair c.pair.val
        { ((d.writeEntry c.pair.val (c.packet op)).setPair c.pair.val x).pair c.pair.val with
          reserved := (((d.writeEntry c.pair.val (c.packet op)).setPair c.pair.val x).pair c.pair.val).reserved + 2 }) :=
      (queuesOnly_writeEntry d _ _).trans ((queuesOnly_setPair _ _ _).trans (queuesOnly_setPair _ _ _))
    have hp : (((d.writeEntry c.pair.val (c.packet op)).setPair c.pair.val x).setPair c.pair.val
        { ((d.writeEntry c.pair.val (c.packet op)).setPair c.pair.val x).pair c.pair.val with
          reserved := (((d.writeEntry c.pair.val (c.packet op)).setPair c.pair.val x).pair c.pair.val).reserved + 2 }).pair c.pair.val =
        { x with reserved := x.reserved + 2 } := by simp
    generalize ((d.writeEntry c.pair.val (c.packet op)).setPair c.pair.val x).setPair c.pair.val
        { ((d.writeEntry c.pair.val (c.packet op)).setPair c.pair.val x).pair c.pair.val with
          reserved := (((d.writeEntry c.pair.val (c.packet op)).setPair c.pair.val x).pair c.pair.val).reserved + 2 } = z at hq hp ⊢
    have hj : fastJudge (c.packet op) body mem z = .ok (g z) res := by
      have hz := hb z hq
      unfold fastJudge
      obtain ⟨p, m, k, rfl⟩ := hq
      exact refuseIf_false (bne_eq_false_iff_eq.mpr h.ready) hz
    rw [hj]
    have hpair : (g z).pair c.pair.val = z.pair c.pair.val := by unfold Dev.pair; rw [hc z hq]
    obtain ⟨a1, a2⟩ := answer_ok (d := z) c.pair.val (c.packet op) d.time.ticks (g z) res
      (by rw [hpair, hp]; exact hs.trans h.speaks)
    exact ⟨z, hq, a1, by rw [a2, hpair, hp]; exact congrArg (· ++ _) hr⟩
  exact h0 (d.fastPair c.pair.val (c.packet op)) rfl rfl

/-- A fast-path command that acts. -/
theorem actsFast {i : Instr} {c : Cmd} {op : Nat} {s : State} {res : List Byte} {body : Body} {parts : List Part} {regs : List Nat}
    {effect : State → Prop} (g : Dev → Dev) (hx : exec i s = .next (s.onDev fun mem d => runFast op c body mem d))
    (hb : ∀ p m k, body (c.packet op) s.mem (withQueues s p m k) = .ok (g (withQueues s p m k)) res)
    (ht : ∀ p m k, Alters parts regs (withQueues s p m k) (g (withQueues s p m k))) (hn : Reg.EVT_RING_SIZE ∉ regs)
    (he : ∀ p m k t, Settled s (g (withQueues s p m k)) t → effect t) : ActsFast i c op s res parts regs effect := by
  intro h
  have hb' : TakesFast s.dev.begin_ c op := ⟨h.opens, h.speaks, h.room, h.space, h.form, h.ready⟩
  obtain ⟨x, ⟨p, m, k, rfl⟩, a1, a2⟩ := runFast_ok g s.mem hb' (fun x hx => by obtain ⟨p, m, k, rfl⟩ := hx; exact hb p m k)
    (fun x hx => by obtain ⟨p, m, k, rfl⟩ := hx; exact (ht p m k).cmd)
  have b := a1.settled (onDev_settled s fun mem d => runFast op c body mem d)
  refine ⟨_, hx, ?_, he p m k _ b, (ht p m k).leaves (fun q => by cases q <;> rfl) (fun _ => rfl) rfl rfl hn b⟩
  unfold Replied
  show (sget _ c.pair.val (s.onDev fun mem d => runFast op c body mem d).dev.cmd.pairs).replies = _
  rw [onDev_cmd]
  exact a2

/-- What work on the part may touch that also ends commands: the parts and the registers listed, and the command queues. -/
structure Works (parts : List Part) (regs : List Nat) (x y : Dev) : Prop where
  same : ∀ p, p ∉ parts → p.same x y
  reg : ∀ a, a ∉ regs → cmdqOwn a = false → y.reg a = x.reg a
  outbox : y.outbox = x.outbox
  base : y.wide64 Reg.EVT_RING_BASE_LO = x.wide64 Reg.EVT_RING_BASE_LO
  raised : ∃ l, y.evt.raised = x.evt.raised ++ l
  grows : Grows x y

section
variable {parts : List Part} {regs : List Nat}

theorem Alters.works {x y : Dev} (h : Alters parts regs x y) : Works parts regs x y :=
  ⟨h.same, fun a ha _ => h.reg a ha, h.outbox, h.base, h.raised, grows_same fun q => by unfold Dev.pair; rw [h.cmd]⟩

theorem Works.refl (x : Dev) : Works parts regs x x := (Alters.refl x).works

theorem Works.trans {x y z : Dev} (h : Works parts regs x y) (g : Works parts regs y z) : Works parts regs x z := by
  obtain ⟨l, hl⟩ := h.raised
  obtain ⟨k, hk⟩ := g.raised
  exact ⟨fun p hp => same_trans (h.same p hp) (g.same p hp), fun a ha hc => (g.reg a ha hc).trans (h.reg a ha hc),
    g.outbox.trans h.outbox, g.base.trans h.base, ⟨l ++ k, by rw [hk, hl, List.append_assoc]⟩, h.grows.trans g.grows⟩

theorem CmdFrame.works {x y : Dev} (h : CmdFrame x y) (hg : Grows x y) : Works parts regs x y := by
  refine ⟨fun p _ => h.same p, fun a _ hc => h.reg a hc, ?_, ?_, h.raised, hg⟩
  all_goals (obtain ⟨r, w, e, q, m, b, hy⟩ := h.rest; rw [hy]; try rfl)

theorem Works.ite {x y z : Dev} {c : Prop} [Decidable c] (h : c → Works parts regs x y) (g : ¬c → Works parts regs x z) :
    Works parts regs x (if c then y else z) := by
  split
  · exact h ‹_›
  · exact g ‹_›

/-- The end of a command touches nothing but the command queues. -/
theorem works_finish (x : Dev) (r : Running) (status : Nat) (results : List Byte) : Works parts regs x (x.finish r status results) := by
  have h0 : Works parts regs x (x.retire r) :=
    ⟨fun p _ => by cases p <;> rfl, fun _ _ _ => rfl, rfl, rfl, ⟨[], (List.append_nil _).symm⟩, grows_same fun _ => rfl⟩
  unfold Dev.finish
  dsimp only
  split
  · exact h0.trans ((cmdFrame_recount _ _).works (grows_recount (x.retire r) _))
  · obtain ⟨h1, h2⟩ := post_frame (x.retire r) r.pair r.pkt status results
    obtain ⟨h3, h4⟩ := refuseUnknown_frame (x.pair r.pair).fetched.length r.pair (((x.retire r).post r.pair r.pkt status results).recount r.pair)
    exact h0.trans ((h1.works h2).trans (((cmdFrame_recount _ _).works (grows_recount _ _)).trans (h3.works h4)))

theorem works_completeOp (x : Dev) (code status : Nat) (results : List Byte) : Works parts regs x (x.completeOp code status results) := by
  have h : ∀ (l : List Running) (y : Dev), Works parts regs y (l.foldl (fun d r => d.finish r status results) y) := by
    intro l
    induction l with
    | nil => exact Works.refl
    | cons r l ih => exact fun y => (works_finish y r status results).trans (ih _)
  exact h _ x

theorem works_complete (x : Dev) (q tag status : Nat) (results : List Byte) : Works parts regs x (x.complete q tag status results) := by
  unfold Dev.complete
  split
  · exact works_finish _ _ _ _
  · exact Works.refl _

theorem works_completeOwner (x : Dev) (o : Option (Nat × Nat)) (status : Nat) (results : List Byte) :
    Works parts regs x (x.completeOwner o status results) := by
  unfold Dev.completeOwner
  split
  · exact works_complete _ _ _ _ _
  · exact Works.refl _

end

/-- What a step of an event leaves whose work touches only the parts and registers listed, and the command queues. -/
theorem Works.stepLeaves {s : State} {f : List Host.Cell → Dev → Dev} {parts : List Part} {regs : List Nat}
    (h : Works parts regs s.dev.begin_ (f s.mem s.dev.begin_)) (hn : Reg.EVT_RING_SIZE ∉ regs) : Leaves parts regs s (s.onDev f) := by
  have b := onDev_settled s f
  exact b.leaves (fun q hq => same_trans (begin_same s.dev q) (h.same q hq)) (fun a h1 _ h3 => h.reg a h1 h3)
    (b.mem h.outbox h.base (h.reg _ hn rfl))

theorem completeOp_one {d : Dev} {code status : Nat} {results : List Byte} {r : Running}
    (h : (d.cmd.running.filter fun r : Running => r.pkt.opcode.toNat == code) = [r]) :
    d.completeOp code status results = d.finish r status results := by
  unfold Dev.completeOp
  rw [h]; rfl

theorem complete_one {d : Dev} {q tag status : Nat} {results : List Byte} {r : Running} (h : d.running? q tag = some r) :
    d.complete q tag status results = d.finish r status results := by
  unfold Dev.complete
  rw [h]

/-- A step whose work ends with the end of an ACCEPTED command: its reply, and what the work left. -/
theorem step_finish {s : State} {f : List Host.Cell → Dev → Dev} {e : Dev} {r : Running} {status : Nat}
    {results : List Byte} (h : Awaits s.dev r) (hf : CmdFrame (e.finish r status results) (f s.mem s.dev.begin_))
    (hg : Grows (e.finish r status results) (f s.mem s.dev.begin_)) (hc : e.cmd = s.dev.cmd) :
    Completed s (s.onDev f) r status results ∧ Settled s e (s.onDev f) := by
  have hp : ∀ n, e.pair n = s.dev.pair n := fun n => by unfold Dev.pair; rw [hc]
  obtain ⟨a1, l, a2⟩ := finish_spec e r status results ⟨h.heard, by rw [hp]; exact h.speaks⟩
  obtain ⟨-, k, hk⟩ := hg r.pair
  have a3 := a1.trans hf
  refine ⟨⟨⟨l ++ k, ?_⟩, ?_⟩, ?_⟩
  · show (sget _ r.pair (s.onDev f).dev.cmd.pairs).replies = _
    rw [onDev_cmd]
    show ((f s.mem s.dev.begin_).pair r.pair).replies = _
    rw [hk, a2, hp, List.append_assoc, List.cons_append]
  · rw [onDev_cmd, a3.running]
    show e.cmd.running.erase r = _
    rw [hc]
  · have h2 := a3.settled (onDev_settled s f)
    exact ⟨fun p => by have := h2.parts p; cases p <;> exact this, h2.reg, h2.pending, h2.mem, h2.written, h2.zeroed, h2.raised⟩

end Sys2Proof.Machine
end

