-- ==== Sys2Proof/Tests/Slice0.lean ====
section
/-! SUPPORT. Tests of the model: ill-formed commands, worked examples of the specification, and for each statement states and
operands that meet its hypotheses. -/

namespace Sys2Proof.Tests

open Machine

set_option Elab.async false

/-! ## Helpers -/

/-- A command of pair 0 with parameter values of the given widths in bytes, in order. -/
def cmd (ps : List (Nat × Nat)) : Cmd :=
  let r := ps.foldl (fun (x : Nat × Nat) p => (x.1 + p.1 * 256 ^ x.2, x.2 + p.2)) (0, 0)
  ⟨0, 0, BitVec.ofNat 8 r.2, 7, BitVec.ofNat 448 r.1⟩

/-- The part restored, with pair 0 running: queues of 512 entries. -/
def up : Dev :=
  ((((State.reset.dev.setFlag F.GLB_STAT_RESTORED true).setFlag F.GLB_STAT_READY true).setFlag F.TIME_STAT_LOCK true).put
    (Reg.CMDQ_Q_CTL 0) 0x9801#32).put (Reg.CMDQ_Q_STAT 0) 1#32

/-- `up` with its island answering the BARs. -/
def upBar : Dev := { up with rst := { up.rst with phase := .running } }

/-- A scan state. -/
def scanning (n : Nat) : Dev := up.setFld F.SCN_STAT_STATE n

/-- An outstanding command of pair 0. -/
def run (op : Nat) (c : Cmd := cmd []) : Running := ⟨0, c.packet op, false, 0⟩

/-- `d` with one command outstanding. -/
def busy (d : Dev) (op : Nat) (c : Cmd := cmd []) : Dev := { d with cmd := { d.cmd with running := [run op c] } }

/-- What `Takes` asks, as one value. -/
def takesB (d : Dev) (c : Cmd) (op : Nat) : Bool :=
  d.pairLive c.pair.val && d.flag (F.CMDQ_Q_CTL_EN c.pair.val) && !d.flag (F.CMDQ_Q_STAT_HALTED c.pair.val)
    && !(d.pair c.pair.val).silent && (d.pair c.pair.val).rung.isEmpty && (d.pair c.pair.val).fetched.isEmpty
    && decide (2 ≤ d.cqFree c.pair.val) && !d.fenced c.pair.val (c.packet op) && !d.otherAhead c.pair.val d.cmd.bells
    && formError (c.packet op) == 0
    && d.stageError (c.packet op) == 0 && d.limitError c.pair.val (c.packet op).opcode.toNat == 0

theorem takes_of {d : Dev} {c : Cmd} {op : Nat} (h : takesB d c op = true) : Takes d c op := by
  simp only [takesB, Bool.and_eq_true, Bool.not_eq_true', List.isEmpty_iff, decide_eq_true_eq, beq_iff_eq] at h
  obtain ⟨⟨⟨⟨⟨⟨⟨⟨⟨⟨⟨h1, h2⟩, h3⟩, h4⟩, h5⟩, h6⟩, h7⟩, h8⟩, h9⟩, h10⟩, h11⟩, h12⟩ := h
  exact ⟨h1, h2, h3, h4, h5, h6, h7, h8, h9, h10, h11, h12⟩

theorem takes_all {d : Dev} {l : List (Cmd × Nat)} (h : (l.all fun x => takesB d x.1 x.2) = true) :
    ∀ x ∈ l, Takes d x.1 x.2 := fun x hx => takes_of (List.all_eq_true.mp h x hx)

/-- What `TakesFast` asks, as one value. -/
def fastB (d : Dev) (c : Cmd) (op : Nat) : Bool :=
  d.pairOpen c.pair.val && !(d.pair c.pair.val).silent && decide (2 ≤ d.cqFree c.pair.val)
    && decide ((d.pair c.pair.val).rung.length < d.sqDepth c.pair.val) && formError (c.packet op) == 0
    && d.readyError (c.packet op).opcode.toNat == 0

theorem fast_of {d : Dev} {c : Cmd} {op : Nat} (h : fastB d c op = true) : TakesFast d c op := by
  simp only [fastB, Bool.and_eq_true, Bool.not_eq_true', decide_eq_true_eq, beq_iff_eq] at h
  obtain ⟨⟨⟨⟨⟨h1, h2⟩, h3⟩, h4⟩, h5⟩, h6⟩ := h
  exact ⟨h1, h2, h3, h4, h5, h6⟩

/-- Device memory holds 7,936 MiB or more. -/
theorem mem8 {n : Nat} (h : n ≤ 0x1F0000000) : n ≤ devMemSize := by unfold devMemSize; split <;> omega

/-! ## Witnesses: states and operands that meet the hypotheses of each statement -/

theorem test_ReportingCommandsAnswer_met : ∀ x ∈ [0x0001, 0x0002, 0x0003, 0x0101, 0x0701, 0x0801, 0x0902, 0x0B01, 0x0B03].map (cmd [], ·),
    Takes up x.1 x.2 := takes_all (by decide +kernel)

theorem test_ItemReportsAnswer_met :
    (∀ x ∈ [(cmd [(255, 8)], 0x0304), (cmd [(255, 8)], 0x0308), (cmd [(2, 8)], 0x0501), (cmd [(P.blw_e_drivers, 4), (0, 12)], 0x0601),
      (cmd [(31, 8)], 0x0A02), (cmd [(15, 8)], 0x0D04)], Takes up x.1 x.2) ∧
    ∃ r, ((cmd [(P.blw_e_drivers, 4), (0, 12)]).packet 0x0601).u 8 1 ≤ 16 ∧ param? P.blw_e_drivers = some r ∧ 0 < r.elems :=
  ⟨takes_all (by decide +kernel), _, by decide, rfl, by decide⟩

theorem test_SystemCommandsAct_met :
    (Takes up (cmd [(0x5253, 8)]) 0x0004 ∧ up.cfg.commits = []) ∧ Takes up (cmd [(60000, 8), (4096, 8), (2 ^ 26, 4)]) 0x0D01 ∧
    Takes up (cmd [(0x1EFFFFF00, 8)]) 0x0D02 ∧ 0x1EFFFFF00 + 256 ≤ devMemSize ∧
    (let d : Dev := { up with rst := { up.rst with shadow := { up.rst.shadow with lifecycle := 3 } } }
     Takes d (cmd [(576, 8)]) 0x0D03) :=
  ⟨⟨takes_of (by decide +kernel), rfl⟩, takes_of (by decide +kernel), takes_of (by decide +kernel), mem8 (by decide), takes_of (by decide +kernel)⟩

theorem test_AbortEndsItsTarget_met :
    let d := busy up 0x0104
    Takes d (cmd [(0, 4), (7, 4)]) 0x0005 ∧ (run 0x0104).abortable = true ∧ Awaits d (run 0x0104) ∧
    (d.cmd.running.find? fun r => r.pair == 0 && r.pkt.tag.toNat == 7 && !r.mute) = some (run 0x0104) :=
  ⟨takes_of (by decide +kernel), by decide, ⟨by decide, by decide⟩, by decide⟩

theorem test_TelemetryWritesItsRecord_met : (up.setFlag F.TEL_STAT_RUN true).flag F.TEL_STAT_RUN = true ∧ up.memHalted = false := by decide


/-! ## Ill-formed commands

One term for each check of `Instr.wf`. -/

theorem test_wf_refuses_symbol_masks :
    ([.memScrubComplete [(0, 1024)], .commandCompletion 0 0 [(0, 1024)], .cxlMemRead 0 [(0, 1024)], .wmbLineFlush [(0, 1024)],
      .patrolPass [(0, 1024)] [], .apertureAccess 0 4 none [(0, 1024)]] : List Instr).all (fun i => !i.wf) = true := by decide +kernel

theorem test_wf_refuses_registers_of_another_kind :
    ([.satBitClear 0x7FFFFF 1, .stickyBitClear 0x7FFFFF 1, .pairLoRead 0x7FFFFF, .rcFieldRead 0x7FFFFF,
      .tapReqWrite (Reg.TAP_REQ_ROWS 16) 0] : List Instr).all (fun i => !i.wf) = true := by decide +kernel

theorem test_wf_refuses_lengths :
    ([.chainBringupDone false 17 (List.replicate 17 (0, 0)), .apertureAccess 0 4 (some [0#8]) [], .linkUp true 5 3 false,
      .linkRetrain 5 0 false, .resetRelease [0], .hkRound [] [], .fastRound [], .hotspotCompare [], .governorTick [],
      .peerBlockReceived 0 false false []] : List Instr).all (fun i => !i.wf) = true := by decide +kernel

/-! ## Worked examples of the specification -/

/-- Chapter 7, a noon scene: the range scale, the mean of the four groups' times, and the range of the echo. -/
theorem test_noon_scene_range :
    rangeScale 0 = 15717759 ∧ rangeOf (rangeScale 0) 256185 = 240007 ∧
    meanT ([(257398, 4), (257540, 4), (257455, 3), (257481, 4)].map fun x => ⟨x.1, x.2, 0, false, false, 0, false, 126, 0⟩) = 257469 := by
  decide +kernel

/-- Chapter 4, walk on channel 203 at night: an edge that crosses LO only, of width bin 6,
with a walk of 142 units, and one that crosses MID 257 units later. -/
theorem test_walk_at_night :
    correct true (142 * 2 ^ (16 * 6)) (17, 120, 400) false 100000 0 0 1536 = 99858 ∧
    correct true (142 * 2 ^ (16 * 6)) (17, 120, 400) false 100000 1 100257 9999 = 99958 := by decide +kernel

/-- Chapter 2, camera sync with one dropped pulse: 29 edges used, one missing, 29,969,970 µHz. -/
theorem test_camera_sync_with_a_dropped_pulse :
    let edges := ((List.range 12) ++ (List.range 17).map (· + 13)).map fun i => 5250000 + i * 33366733 * 5 / 2
    let m := edges.foldl Fmeas.edge ⟨2, 1000, [], 0⟩
    m.missing = 1 ∧ m.edges.length = 29 ∧ leNat ((m.result.2.drop 8).take 8) = 29969970 := by decide +kernel

/-- Chapter 6, one energy write: the check byte of the words is the CRC of R167. -/
theorem test_energy_write_crc : crc8 (0x4E2A7D61 * 256) = 0xF0 := by decide +kernel

/-- The default settings of the threshold law (R266). -/
def thresholdSettings : Setting := fun i =>
  (slook i [(P.turf_k_lo, 52), (P.turf_lo_min, 17), (P.turf_lo_max, 512), (P.turf_k_mid, 96), (P.turf_mid_min, 120),
    (P.turf_k_hi, 192), (P.turf_hi_min, 400)]).getD 0

/-- Chapter 9, one direction from noon to shade: the thresholds of an estimate of 9.0 mV. -/
theorem test_noon_thresholds : thresholdLaw thresholdSettings 576 = 50 + 120 * 1024 + 400 * 1048576 := by decide +kernel

/-- A well-formed command of a restored part answers: `sys.nop` replies OK with nothing after it. -/
theorem test_nop_replies :
    (match exec (.sysNop (cmd [])) { State.reset with dev := up } with
     | .next t => (t.dev.pair 0).replies.map (fun r => (r.status, r.results.length))
     | _ => []) = [(0, 0)] := by decide +kernel

/-- A command of the queue is taken from its front. -/
theorem test_step_takes_the_front :
    (match step { State.reset with dev := up, pending := [.sysNop (cmd []), .sysIdent (cmd [])] } with
     | .next t => t.pending.length
     | _ => 9) = 1 := by decide +kernel

theorem test_TimeCommandsAct_met :
    TakesFast up (cmd [(0, 8)]) 0x0102 ∧ Takes up (cmd [(2 ^ 62 - 1, 8)]) 0x0103 ∧ up.atRest = true ∧
    Takes up (cmd [(10, 2), (10, 6)]) 0x0104 ∧ Takes up (cmd [(0, 2), (10000, 6)]) 0x0104 ∧
    up.activeSrc = 1 ∧ (up.setFld F.TIME_CTL_SOURCE 3).activeSrc ≠ 1 :=
  ⟨fast_of (by decide +kernel), takes_of (by decide +kernel), by decide, takes_of (by decide +kernel),
    takes_of (by decide +kernel), by decide, by decide⟩

/-- A measurement of input 8. -/
def measuring : Dev := { busy up 0x0104 with time := { up.time with fmeas := some ⟨8, 10, [(0, 5)], 0⟩ } }

theorem test_MeasurementRunsAndEnds_met : measuring.time.fmeas = some ⟨8, 10, [(0, 5)], 0⟩ ∧
    (measuring.cmd.running.filter fun r => r.pkt.opcode.toNat == 0x0104) = [run 0x0104] ∧ Awaits measuring (run 0x0104) :=
  ⟨rfl, by decide +kernel, ⟨rfl, by decide +kernel⟩⟩

theorem test_DisciplineEnds_met :
    (let d : Dev := { up with time := { up.time with lastOffset := some 0 } }
     d.time.lastOffset.isSome = true ∧ d.fld F.TIME_CTL_SOURCE ≠ 3 ∧ d.flag F.TIME_STAT_HOLDOVER = false) ∧
    up.time.lastOffset = none ∧ (up.setFld F.TIME_CTL_SOURCE 3).fld F.TIME_CTL_SOURCE = 3 ∧
    (let d : Dev := { (up.setFlag F.TIME_CTL_AGE_LEARN_EN true).setFlag F.TIME_STAT_DISCIPLINED true with
       time := { up.time with learnSum := 2 ^ 40, learnLen := 1 } }
     d.flag F.TIME_CTL_AGE_LEARN_EN = true ∧ d.flag F.TIME_STAT_DISCIPLINED = true ∧
     0 < d.time.learnLen + (d.time.ticks - d.time.learnAt)) := by decide

theorem test_ScanCommandsAct_met :
    (let d := up.setFlag F.BLW_STAT_E_UP true
     Takes d (cmd []) 0x0201 ∧ d.atRest = true ∧ d.locked = true ∧ d.fld F.PWR_STAT_STATE ≠ 1 ∧ d.chainUp false = true) ∧
    (Takes (scanning stStopped) (cmd []) 0x0202 ∧ (scanning stStopped).scanState = stStopped) ∧
    (Takes (scanning stFault) (cmd []) 0x0202 ∧ (scanning stFault).scanState = stFault) ∧
    (Takes (scanning stStopping) (cmd []) 0x0202 ∧ (scanning stStopping).scanState = stStopping) ∧
    (TakesFast (scanning stRunning) (cmd []) 0x0203 ∧ (scanning stRunning).scanState = stRunning) ∧
    (TakesFast (scanning stHolding) (cmd []) 0x0203 ∧ Takes (scanning stHolding) (cmd []) 0x0204 ∧
      (scanning stHolding).scanState = stHolding ∧ (scanning stHolding).scan.resumeReq = false ∧
      (scanning stHolding).flag F.THM_STAT_SAFE = false) :=
  ⟨⟨takes_of (by decide +kernel), by decide, by decide, by decide, by decide⟩, ⟨takes_of (by decide +kernel), by decide⟩,
    ⟨takes_of (by decide +kernel), by decide⟩, ⟨takes_of (by decide +kernel), by decide⟩, ⟨fast_of (by decide +kernel), by decide⟩,
    ⟨fast_of (by decide +kernel), takes_of (by decide +kernel), by decide, by decide, by decide⟩⟩

/-- The mirror in a phase of a scan state. -/
def mirrorIn (ph : MirrorPhase) (n : Nat) : Dev := { scanning n with scan := { up.scan with phase := ph } }

theorem test_ScanMovesOn_met :
    (mirrorIn .ramp stStarting).scan.phase = .ramp ∧
    (let d : Dev := { (mirrorIn .settle stStarting).setFlag F.TIME_STAT_PHASE_LOCK true with
       scan := { up.scan with phase := .settle, settleFrom := some 0, posTick := 2500000 * 50 } }
     d.scan.sweepAllEnd = none ∧ d.flag F.TIME_STAT_PHASE_LOCK = true ∧ d.scan.stopNext = false ∧ d.scan.holdNext = false ∧
     d.scan.phase = .settle ∧ d.settled = true) ∧
    ((mirrorIn .parking stHolding).scan.phase = .parking ∧ (mirrorIn .parking stHolding).scanState ≠ stStopping) ∧
    ((mirrorIn .parking stStopping).scan.phase = .parking ∧ (mirrorIn .parking stStopping).scanState = stStopping) ∧
    (let d := busy (mirrorIn .stopRamp stStopping) 0x0202
     d.scan.phase = .stopRamp ∧ (d.cmd.running.filter fun r => r.pkt.opcode.toNat == 0x0202) = [run 0x0202] ∧
     (run 0x0202).mute = false ∧ (d.pair 0).silent = false) := by decide +kernel

theorem test_MirrorFaultsStopTheScan_met :
    ((mirrorIn .settle stStarting).scan.phase = .settle ∧ (mirrorIn .settle stStarting).settled = false ∧
      (mirrorIn .settle stStarting).atRest = false ∧ (mirrorIn .settle stStarting).scanState ≠ stStopping) ∧
    (let d : Dev := { scanning stRunning with scan := { up.scan with late := 2, overruns := 2 } }
     ((false && bitAt d.scan.late 0) || (true && bitAt d.scan.late 1)) = true ∧ d.scan.overruns < 3) ∧
    (bits (up.fld F.HK_STAT_SETTLING) 0 2 = 0 ∧ up.atRest = true ∧ up.scan.ampOffNext = false) ∧
    (let d : Dev := { scanning stRunning with scan := { up.scan with mirAmpEn := true } }
     bits (d.fld F.HK_STAT_SETTLING) 0 2 = 0 ∧ d.atRest = false ∧ d.scan.mirAmpEn = true ∧ d.scan.ampOffNext = false) := by decide

/-- Chain E (false) or L (true) up with `n` drivers. -/
def chain (l : Bool) (n : Nat) : Dev :=
  let d := (up.setFlag (if l then F.BLW_STAT_L_UP else F.BLW_STAT_E_UP) true).setFld (if l then F.BLW_STAT_L_DRV else F.BLW_STAT_E_DRV) n
  { d with blw := { d.blw with e := { d.blw.e with drivers := if l then 0 else n }, l := { d.blw.l with drivers := if l then n else 0 } } }

/-- Chain E with segment 5 an idle spare of segment 3, or in its place. -/
def spared (rev : Bool) : Dev :=
  let d := (chain false 1).setFld (F.BLW_SEG_STAT_STATE 5) segSpareIdle
  { d with cfg := { d.cfg with live := [(pkey P.emit_spare 0, 3 * 256 + 5)] }
           blw := { d.blw with paired := if rev then [(3, 5)] else [] } }

theorem test_EmitterCommandsAct_met :
    TakesFast up (cmd []) 0x0301 ∧ Takes up (cmd []) 0x0302 ∧
    (Takes (spared false) (cmd [(3, 1), (5, 1), (0, 6)]) 0x0303 ∧ (spared false).pairings.contains (5, 3) = true ∧
      (spared false).chainUp false = true ∧ (spared false).segState 5 = segSpareIdle) ∧
    (Takes (spared true) (cmd [(3, 1), (5, 1), (1, 6)]) 0x0303 ∧ (spared true).pairings.contains (5, 3) = true ∧
      (spared true).chainUp false = true ∧ (spared true).blw.paired.contains (3, 5) = true) ∧
    (Takes up (cmd []) 0x0305 ∧ up.storeFull 18 (up.setEntries 18) = false) ∧
    (Takes (chain false 1) (cmd [(0, 1), (0, 1), (0, 1), (31, 1), (0, 4)]) 0x0306 ∧
      Takes (chain false 1) (cmd [(0, 1), (0, 1), (1, 1), (5, 1), (65535, 4)]) 0x0306 ∧ 0 < (chain false 1).fld F.BLW_STAT_E_DRV ∧
      (chain false 1).chainUp false = true) ∧
    (let d : Dev := { chain true 4 with blw := { (chain true 4).blw with l := { (chain true 4).blw.l with awaiting := true } } }
     Takes d (cmd [(1, 1), (3, 1), (1, 1), (5, 1), (65535, 4)]) 0x0306 ∧ 3 < d.fld F.BLW_STAT_L_DRV ∧ d.chainUp true = true ∧
     d.blw.l.awaiting = true) :=
  ⟨fast_of (by decide +kernel), takes_of (by decide +kernel),
    ⟨takes_of (by decide +kernel), by decide +kernel, by decide +kernel, by decide +kernel⟩,
    ⟨takes_of (by decide +kernel), by decide +kernel, by decide +kernel, by decide +kernel⟩,
    ⟨takes_of (by decide +kernel), by decide +kernel⟩,
    ⟨takes_of (by decide +kernel), takes_of (by decide +kernel), by decide, by decide⟩,
    ⟨takes_of (by decide +kernel), by decide, by decide, by decide⟩⟩

theorem test_LampCommandsAct_met :
    (Takes (chain true 16) (cmd [(255, 1), (8, 1), (65535, 6)]) 0x0307 ∧ Takes (chain true 16) (cmd [(0, 1), (255, 1), (0, 6)]) 0x0307 ∧
      (chain true 16).chainUp true = true ∧ (chain true 16).blw.l.drivers ≤ 16) ∧
    (Takes (chain true 16) (cmd [(2 ^ 255, 32)]) 0x0309 ∧ maskLamps (2 ^ 255) ≠ [] ∧ (chain true 16).cmd.running = []) ∧
    (Takes (chain true 16) (cmd [(0, 32)]) 0x0309 ∧ maskLamps 0 = []) :=
  ⟨⟨takes_of (by decide +kernel), takes_of (by decide +kernel), by decide, by decide⟩,
    ⟨takes_of (by decide +kernel), by decide +kernel, rfl⟩, ⟨takes_of (by decide +kernel), by decide +kernel⟩⟩

/-- The chains enabled or not, with 4 drivers configured. -/
def enabled (e l : Bool) : Dev :=
  let d := (upBar.setFlag F.BLW_CTL_E_EN e).setFlag F.BLW_CTL_L_EN l
  { d with cfg := { d.cfg with live := [(pkey P.blw_e_drivers 0, 4)] }, blw := { d.blw with e := { d.blw.e with bringup := e } } }

theorem test_ChainsComeUpAndGoDown_met :
    (let d := enabled false false
     d.barOpen = true ∧ d.flag F.BLW_CTL_E_EN = false ∧ d.flag F.BLW_CTL_L_EN = false ∧ d.rst.shadow.lifecycle ≠ 4 ∧
     frameFits (d.par P.blw_e_drivers 0) (d.fld F.BLW_CTL_E_CLK) = true) ∧
    (let d : Dev := { (enabled false false).setFld F.BLW_CTL_E_CLK 0 with cfg := { up.cfg with live := [(pkey P.blw_e_drivers 0, 16)] } }
     d.barOpen = true ∧ d.flag F.BLW_CTL_E_EN = false ∧ frameFits (d.par P.blw_e_drivers 0) (d.fld F.BLW_CTL_E_CLK) = false) ∧
    (let d := enabled true true
     let ds := List.replicate 4 (0x0100#16, 0#16)
     d.barOpen = true ∧ d.flag F.BLW_CTL_E_EN = true ∧ d.flag F.BLW_CTL_L_EN = true ∧ d.blw.e.bringup = true ∧
     d.par P.blw_e_drivers 0 = 4 ∧ ds.length = 4 ∧ (ds.all fun x => x.1.toNat / 256 == 1) = true) := by decide +kernel

/-- A shot of slot 0 at a boundary, fired or suppressed. -/
def shotAt (fires : Bool) : Shot :=
  { slot := 0, group := 0, base := 0, fires := fires, suppressed := !fires, pulses := [0, 5], tref := some 1000 }

/-- Chain E with a shot, a committed frame, and driver 0 after three bad words. -/
def fired (fires : Bool) : Dev :=
  { chain false 1 with
    shot := some (shotAt fires)
    blw := { (chain false 1).blw with e := { (chain false 1).blw.e with awaiting := true, last := some ⟨0, [0], 0, 2, false, [], [], []⟩,
                                                                         fails := [(0, 3)] } } }

theorem test_ChainReportsBack_met :
    ((fired false).locked = true ∧ (fired false).shot = some (shotAt false) ∧ (shotAt false).fires = false) ∧
    ((fired true).locked = true ∧ (fired true).flag F.BLW_STAT_E_SUPPRESSED = false ∧ (fired true).shot = some (shotAt true) ∧
      (shotAt true).fires = true ∧ (shotAt true).tref.isSome = true ∧
      (shotAt true).base ≤ (fired true).edgeTime 512 100 63 ∧
      (fired true).edgeTime 512 100 63 ≤ (shotAt true).base + 4096 * (shotAt true).pulses.getLast?.getD 0 + 512000) ∧
    ((fired true).chainUp false = true ∧ (fired true).blw.e.awaiting = true ∧ (fired true).blw.e.drivers = 1 ∧
      3 ≤ sget (fun _ => 0) 0 (fired true).blw.e.fails ∧
      statusOk (0xC000000000 + crc8 0xC000000000) false = true ∧ statusOk 0 false = false) ∧
    up.storeFull 18 (up.setEntries 18) = false := by decide +kernel

/-- Chain L with 16 drivers, camera 0 seen, and lamp 0 due on source 0. -/
def lamps (offline : Bool) : Dev :=
  let d := (chain true 16).setFlag F.KILN_BUR_REF_ACT_L_OFFLINE offline
  { d with cfg := { d.cfg with live := [(pkey P.lamp_src 0, 0)] }
           blw := { d.blw with cams := [(0, { periods := [5], start := some 0 })], lamps := [(0, { due := true })] } }

theorem test_LampsFollowTheirSources_met :
    (bitAt ((lamps false).par P.lamp_sync_pol 0) 0 = bitAt ((lamps false).par P.lamp_sync_pol 0) 0 ∧ (lamps false).blw.l.drivers ≤ 16) ∧
    (((lamps false).cam 0).periods ≠ [] ∧ ((lamps false).cam 0).lost = false) ∧
    ((lamps false).chainUp true = true ∧ (lamps false).startDue 0 = true ∧ (lamps false).startDue 8 = true ∧ (lamps false).startDue 15 = false) ∧
    (∀ o ∈ [false, true], ((List.range (16 * (lamps o).blw.l.drivers)).filter fun k =>
      ((lamps o).lamp k).due && (lamps o).par P.lamp_src k == 0) ≠ [] ∧ (lamps o).chainUp true = true ∧
      (lamps o).flag F.KILN_BUR_REF_ACT_L_OFFLINE = o) ∧
    (((lamps false).lamp 0).due = true ∧ ((lamps false).lamp 0).testing = false ∧ ((lamps false).lamp 0).reported = false) := by
  decide +kernel

/-- Slice 0 on, with a valid result of each of its TDCs. -/
def measured : Dev :=
  let d := up.setDom 0 true
  { d with bur := { d.bur with tdcs := (List.range 8).map fun t => (t, { result := some ⟨[], [], 0, 1, d.unitTemp 0⟩ }) } }

theorem test_CalibrationCommandsAct_met :
    (Takes measured (cmd [(1, 8)]) 0x0401 ∧ (List.range 64).filter (bitAt 1) = [0] ∧ measured.domOn 0 = true ∧
      measured.unitTdcs 0 ≠ [] ∧ measured.unitReady 0 = true) ∧ Takes up (cmd [(0, 8)]) 0x0401 ∧
    (Takes up (cmd []) 0x0402 ∧ up.storeFull 16 (up.setEntries 16) = false) ∧
    (Takes (scanning stRunning) (cmd [(0, 2), (511, 2), (0, 4), (64, 2), (255, 6)]) 0x0403 ∧ (scanning stRunning).scanState = stRunning) ∧
    (Takes up (cmd [(0, 8), (64, 8), (calBlobLen, 8)]) 0x0404 ∧ 64 + calBlobLen ≤ devMemSize) :=
  ⟨⟨takes_of (by decide +kernel), by decide +kernel, by decide, by decide +kernel, by decide +kernel⟩, takes_of (by decide +kernel),
    ⟨takes_of (by decide +kernel), by decide +kernel⟩, ⟨takes_of (by decide +kernel), by decide⟩,
    ⟨takes_of (by decide +kernel), mem8 (by decide +kernel)⟩⟩

/-- TDC 0 with a full block, spoiled or not. -/
def blocked (spoiled : Bool) : Dev :=
  let d := up
  { d with bur := { d.bur with tdcs := [(0, { block := { total := 2 ^ 24, temp0 := some (d.regionTemp (tdcRegion 0)), spoiled := spoiled } })] } }

/-- The part scanning, in a turnaround slot whose shot is none of the calibration shots: the time of the reference TDCs. -/
def turning (d : Dev) : Dev :=
  { ((d.setFld F.SCN_STAT_STATE stRunning).setFlag F.KILN_BUR_CTL_REF_EN true).put Reg.TIME_SLOT_IN_FRAME 60#32 with
    scan := { d.scan with frameSlots := 100, turnSlots := 40 } }

theorem test_BlocksEndAsResults_met : (∀ b ∈ [false, true], (blocked b).par P.burnish_min_events 0 ≤ ((blocked b).tdc 0).block.total ∧
    (((blocked b).tdc 0).block.spoiled || ((((blocked b).tdc 0).block.temp0.map fun x => tempOver ((blocked b).regionTemp (tdcRegion 0)) x
      ((blocked b).par P.burnish_temp_spread 0)).getD false) || spiked ((blocked b).par P.burnish_spike_pct 0) ((blocked b).tdc 0).block) = b) ∧
    (turning up).refTime 1 = true ∧ up.refTime 1 = false := by
  decide +kernel

/-- Slice 0 due for an apply; an apply of it begun or switched; the chain E reference due. -/
def due : Dev := { measured with bur := { measured.bur with slices := [(0, { pending := true })], applied := true } }
def applying (sw : Bool) : Dev := { due with bur := { due.bur with apply := some ⟨0, sw, [⟨7, 1, 2, 3⟩], [], 0⟩ } }
def refDue : Dev :=
  { turning up with bur := { up.bur with slices := [(64, { pending := true })]
                                         tdcs := [(512, { result := some ⟨[], [], 0, 1, up.unitTemp 64⟩ })] } }
/-- A slice that takes its previous set back after a request failed. -/
def revertingSlice : Dev :=
  { due with bur := { due.bur with requests := [{ pair := 0, tag := 7, waiting := [0], failed := some 0x0501, done := [⟨7, 1, 2, 3⟩] }] } }

theorem test_AppliesRunTheirSteps_met :
    (∀ d ∈ [due, revertingSlice], d.bur.apply = none ∧ d.locked = true ∧ d.time.slotClk = 0 ∧ d.burNext = some 0 ∧
      d.sliceQuiet 0 = true ∧ d.sliceDark 0 = true ∧ d.applyPlace 0 = true) ∧ (due.reverting 0).isSome = false ∧
    (revertingSlice.reverting 0).isSome = true ∧
    (∀ b ∈ [false, true], (applying b).bur.apply = some ⟨0, b, [⟨7, 1, 2, 3⟩], [], 0⟩ ∧ (applying b).bur.refApply = none) ∧
    (refDue.bur.refApply = none ∧ refDue.locked = true ∧ refDue.time.slotClk = 0 ∧ (refDue.burSlice 64).pending = true ∧
      refDue.unitReady 64 = true ∧ refDue.refTime 13 = true) ∧
    (due.par P.burnish_commit_period_h 0 ≠ 0 ∧ due.bur.applied = true ∧ due.storeFull 16 due.burnishEntries = false) := by
  decide +kernel

/-- Range zero of row 511 with its shots taken. -/
def zeroed : RangeZero := { rowFirst := 511, rowLast := 511, dist := 10000, shots := 64, col := 255, sums := [(511, (1000, 64, 64))] }

theorem test_RangeZeroEnds_met :
    let d := busy { up with bur := { up.bur with rangeZero := some zeroed } } 0x0403
    d.bur.rangeZero = some zeroed ∧ zeroed.rowLast ≤ 511 ∧ (∀ k ∈ zeroed.rows, zeroed.full k = true) ∧
    (d.cmd.running.filter fun r => r.pkt.opcode.toNat == 0x0403) = [run 0x0403] ∧ (run 0x0403).mute = false ∧
    (d.pair 0).silent = false := by decide +kernel

/-- A `cfg.set` of element 0 of a parameter of size `n`. -/
def setCmd (i n v : Nat) : Cmd := cmd [(i, 4), (0, 4), (n, 8), (v, 32)]

theorem test_SetTakesItsValue_met :
    (∃ r, param? P.slot_turn_slots = some r ∧ 0 < r.elems ∧ r.esize = 2 ∧
      Takes (scanning stRunning) (setCmd P.slot_turn_slots 2 128) 0x0602 ∧
      (scanning stRunning).peerOwned (pkey P.slot_turn_slots 0) = false ∧
      (scanning stRunning).prepareCheck [] [(pkey P.slot_turn_slots 0, 128)] false = none ∧
      (hasClassF [pkey P.slot_turn_slots 0] && !(scanning stRunning).atRest) = true) ∧
    (∃ r, param? P.thm_damper_min = some r ∧ 0 < r.elems ∧ r.esize = 1 ∧ Takes up (setCmd P.thm_damper_min 1 7) 0x0602 ∧
      up.peerOwned (pkey P.thm_damper_min 0) = false ∧ up.prepareCheck [] [(pkey P.thm_damper_min 0, 7)] false = none ∧
      (hasClassF [pkey P.thm_damper_min 0] && !up.atRest) = false ∧ paramParts P.thm_damper_min 0 = [] ∧
      P.thm_damper_min ≠ P.out_ring) :=
  ⟨⟨_, rfl, by decide, rfl, takes_of (by decide +kernel), by decide +kernel, by decide +kernel, by decide +kernel⟩,
    ⟨_, rfl, by decide, rfl, takes_of (by decide +kernel), by decide +kernel, by decide +kernel, by decide +kernel, by decide +kernel,
      by decide⟩⟩

theorem dir_len (l : List Param) : (l.flatMap dirEntry).length = 48 * l.length := by
  have h (p : Param) : (dirEntry p).length = 48 := by
    simp only [dirEntry, List.length_append, length_leBytes, zeros, List.length_replicate]
    have : ((p.name.toList.map fun c => BitVec.ofNat 8 c.toNat).take 32).length ≤ 32 := List.length_take_le _ _
    omega
  induction l with
  | nil => rfl
  | cons p l ih => rw [List.flatMap_cons, List.length_append, h, ih, List.length_cons]; omega

theorem dump_len (d : Dev) (h : d.dumpEntries 1 = []) : (d.dumpBlob 1).length = 72 + 48 * paramRows.length := by
  have hb (f : Nat → Nat → Nat) : blobItems f [] = (0, []) := rfl
  simp only [Dev.dumpBlob, h, hb, blob, List.length_append, length_leBytes, zeros, List.length_replicate, List.append_nil, directory, dir_len]
  omega

theorem test_ConfigurationCommandsAct_met :
    (Takes up (cmd [(0x1EFFFFF00, 8), (256, 8)]) 0x0603 ∧ 0x1EFFFFF00 + 256 ≤ devMemSize) ∧
    (Takes up (cmd [(0x1EFFFFFC0, 8)]) 0x0405 ∧ 0x1EFFFFFC0 + 64 ≤ devMemSize ∧ up.atRest = true) ∧
    (Takes up (cmd [(15, 8)]) 0x0606 ∧ up.cfg.imageBad.contains 15 = false) ∧ Takes up (cmd []) 0x0608 ∧
    (Takes up (cmd [(15, 8)]) 0x0604 ∧ up.storeFull 15 (up.setEntries 15) = false) ∧
    Takes up (cmd [(1, 8), (0, 8), (64, 8)]) 0x0605 ∧ Takes up (cmd [(15, 8), (0, 8), (64, 8)]) 0x0605 ∧
    (Takes up (cmd [(15, 8)]) 0x0607 ∧ up.fld F.GLB_CFG_STAT_OVERLAY ≠ 15) ∧
    (Takes up (cmd [(1, 8), (0, 8), (2 ^ 20, 8)]) 0x0609 ∧ (up.dumpBlob 1).length ≤ 2 ^ 20 ∧ (up.dumpBlob 1).length ≤ devMemSize) :=
  ⟨⟨takes_of (by decide +kernel), mem8 (by decide)⟩, ⟨takes_of (by decide +kernel), mem8 (by decide), by decide⟩,
    ⟨takes_of (by decide +kernel), by decide⟩, takes_of (by decide +kernel), ⟨takes_of (by decide +kernel), by decide +kernel⟩,
    takes_of (by decide +kernel), takes_of (by decide +kernel), ⟨takes_of (by decide +kernel), by decide⟩,
    ⟨takes_of (by decide +kernel), by rw [dump_len _ (by decide)]; decide +kernel, mem8 (by rw [dump_len _ (by decide)]; decide +kernel)⟩⟩

/-- An overlay apply being prepared, with a turnaround of `v` slots in overlay 1, while the scan runs. -/
def preparing (v : Nat) : Dev :=
  let d := busy (scanning stRunning) 0x0606
  { d with cfg := { d.cfg with preparing := some ⟨.command 0 7, [], [], some 1, 0⟩, images := [(2 ^ 40 + pkey P.slot_turn_slots 0, v)] } }

theorem test_ChangesAndCommitsEnd_met :
    (∀ v ∈ [128, 5], (preparing v).cfg.preparing = some ⟨.command 0 7, [], [], some 1, 0⟩ ∧
      ((preparing v).cmd.running.find? fun r => Requester.command 0 7 == .command r.pair r.pkt.tag.toNat) = some (run 0x0606) ∧
      (run 0x0606).pkt.opcode.toNat = 0x0606 ∧ (∀ y ∈ ((preparing v).overlayTargets 1).1, (preparing v).peerOwned y.1 = false) ∧
      (∀ k ∈ ((preparing v).overlayTargets 1).2, (preparing v).peerOwned k = false)) ∧
    ((preparing 128).prepareCheck ((preparing 128).overlayTargets 1).2 ((preparing 128).overlayTargets 1).1 true = none ∧
      (hasClassF (((preparing 128).overlayTargets 1).1.map (·.1) ++ ((preparing 128).overlayTargets 1).2) && !(preparing 128).atRest) = true) ∧
    ((preparing 5).prepareCheck ((preparing 5).overlayTargets 1).2 ((preparing 5).overlayTargets 1).1 true =
      some (0x0508, paramResults P.slot_turn_slots 0) ∧ (run 0x0606).mute = false ∧ ((preparing 5).pair 0).silent = false) ∧
    (let d : Dev := { up with cfg := { up.cfg with commits := [⟨15, [(pkey P.slot_turn_slots 0, 128)], none, 0⟩, ⟨18, [], none, 0⟩] } }
     ∃ c rest, d.cfg.commits = c :: rest ∧ c.opcode ≠ 0x0702 ∧ c.opcode ≠ 0x0703 ∧ c.set ≤ 18 ∧ c.entries ≠ []) := by
  refine ⟨by decide +kernel, by decide +kernel, by decide +kernel, ?_⟩
  exact ⟨_, _, rfl, by decide, by decide, by decide, by decide⟩

/-- Another pod's name. -/
def other : Wide := Config.deviceId + 1#64

theorem other_ne : other ≠ Config.deviceId := by
  intro h
  have h1 : (other - Config.deviceId) = 0#64 := by rw [h]; exact BitVec.sub_self _
  have h2 : other - Config.deviceId = 1#64 := by rw [other, BitVec.add_comm, BitVec.add_sub_cancel]
  exact absurd (h1.symm.trans h2) (by decide)

/-- The peer link on, lane 0 in a state. -/
def peered (n : Nat) : Dev := (up.setFlag F.PEER_CTL_EN true).setFld (F.PEER_LANE_STAT_STATE 0) n

theorem test_PeerCommandsAct_met :
    (Takes up (cmd [(0x1EFFFFE00, 8)]) 0x0802 ∧ 0x1EFFFFE00 + 512 ≤ devMemSize) ∧
    (Takes (peered 1) (cmd []) 0x0803 ∧ (peered 1).flag F.PEER_CTL_EN = true) ∧
    (Takes (peered 3) (cmd [(15, 8)]) 0x0804 ∧ bitAt 15 0 = true ∧ (peered 3).laneState 0 ≠ 0) :=
  ⟨⟨takes_of (by decide +kernel), mem8 (by decide)⟩, ⟨takes_of (by decide +kernel), by decide⟩,
    ⟨takes_of (by decide +kernel), by decide, by decide⟩⟩

theorem test_LanesChangeState_met :
    ((peered 1).laneState 0 = 1 ∧ ((peered 1).link 0).length = 1 ∧
      (((peered 1).link 0).filterMap fun x => slook x (sput 0 3 (peered 1).peer.aligned)).length = 1) ∧
    (let d : Dev := { (peered 1).setFld F.PEER_CTL_LANE_MODE 2 with peer := { up.peer with aligned := [(1, 0), (2, 3), (3, 2)] } }
     let ids := (d.link 0).filterMap fun x => slook x (sput 0 1 d.peer.aligned)
     d.laneState 0 = 1 ∧ (d.link 0).length = 4 ∧ ids.length = 4 ∧ idsOk ids = true) ∧
    (let d : Dev := { peered 2 with peer := { up.peer with aligned := [(0, 3)] } }
     d.laneState 0 ≠ 0 ∧ (slook 0 d.peer.aligned).isSome = true) ∧
    (let a : Announce := ⟨1, other, 3, true, 0, 9, 14, []⟩
     (peered 2).flag F.PEER_CTL_EN = true ∧ 2 ≤ (peered 2).laneState 0 ∧ a.origin ≠ Config.deviceId ∧
     ((peered 2).peer.pods.find? fun m => m.id == a.origin) = none ∧ a.hops.val < 15) ∧ (peered 3).laneState 0 = 3 :=
  ⟨by decide +kernel, by decide +kernel, by decide +kernel, ⟨by decide, by decide, other_ne, rfl, by decide⟩, by decide⟩

/-- A block of a GRANT segment (K28.5, type 3, 60 characters, CRC-16). -/
def block : List Byte :=
  let b := 3#8 :: List.replicate 60 0#8
  0xBC#8 :: b ++ leBytes 2 (crc16 b)

/-- A pod heard on lane 0. -/
def pod (id : Wide) (sees : Bool) : Member :=
  { id := id, rank := 0, valid := true, bookId := 0, version := 1, seq := 0, seesUs := if sees then [0] else [], via := [(0, (0, 0))] }

/-- A partner on lane 0 that sees this pod. -/
def partnered : Dev :=
  { peered 3 with peer := { up.peer with
      partners := [(0, 5#64)], aligned := [(0, 0)], pods := [pod 5#64 true],
      members := [5#64], master := some Config.deviceId, leader := some Config.deviceId, grantDue := true } }

theorem bookId_peer (d : Dev) (p : PeerSt) : ({ d with peer := p } : Dev).bookId = d.bookId := by
  have h : ∀ c, ({ d with peer := p } : Dev).bookEntry c = d.bookEntry c := fun _ => rfl
  simp only [Dev.bookId, Dev.bookBytes, h]

/-- The same with the pod's code book as this pod's. -/
def claimed : Dev :=
  { partnered with peer := { partnered.peer with pods := [{ pod 5#64 true with bookId := partnered.bookId }] } }

theorem test_DomainMessagesAct_met :
    (block.length = 64 ∧ 2 ≤ (peered 2).laneState 0 ∧ (block.getD 0 0).toNat = 0xBC ∧
      crc16 ((block.drop 1).take 61) = (block.getD 62 0).toNat + 256 * (block.getD 63 0).toNat ∧
      2 ≤ (block.getD 1 0).toNat ∧ (block.getD 1 0).toNat ≤ 5 ∧ (peered 2).link 0 = [0]) ∧
    (let d : Dev := (peered 2).setFld F.PEER_CTL_LANE_MODE 2
     2 ≤ d.laneState 0 ∧ 1 ∈ d.link 0 ∧ slook 1 d.peer.stripes = none) ∧
    (partnered.flag F.PEER_CTL_EN = true ∧ partnered.laneState (partnered.linkHead 0) = 3 ∧ partnered.twoWay (partnered.linkHead 0) = true ∧
      slook (partnered.linkHead 0) partnered.peer.partners = some 5#64 ∧ partnered.peer.members.contains 5#64 = true ∧
      partnered.peer.master.isSome = true ∧ (partnered.peer.pods.any fun m => m.id == 5#64) = true) ∧
    partnered.upstream ≠ some (partnered.linkHead 0) ∧
    (claimed.flag F.PEER_CTL_EN = true ∧
      (claimed.peer.pods.any fun m => m.id == 5#64 && !m.foreign claimed.bookId) = true) := by
  refine ⟨by decide +kernel, by decide +kernel, by decide +kernel, ?_, by decide +kernel, ?_⟩
  · simp [Dev.upstream, partnered]
  · rw [show claimed.bookId = partnered.bookId from bookId_peer partnered _]
    simp [claimed, Member.foreign, pod]

/-- The master is another pod, the partner on lane 0; device time follows the peer link. -/
def following (src : Nat) : Dev :=
  { (peered 3).setFld F.TIME_CTL_SOURCE src with peer := { up.peer with
      partners := [(0, other)], aligned := [(0, 0)], pods := [pod other true],
      members := [other], master := some other, leader := some other } }

theorem upstream_following (n : Nat) (h : (following n).openLinks = [0]) (hl : (following n).link 0 = [0])
    (hf : (following n).farLane 0 = 0) :
    (following n).upstream = some 0 := by
  have hp : (following n).peer = { up.peer with
      partners := [(0, other)], aligned := [(0, 0)], pods := [pod other true],
      members := [other], master := some other, leader := some other } := rfl
  simp [Dev.upstream, hp, h, hl, hf, Dev.twoWay, slook, other_ne, pod]

theorem test_ExchangesGiveDelayAndOffset_met :
    (following 1).upstream = some ((following 1).linkHead 0) ∧ (following 1).activeSrc ≠ 2 ∧
    (following 2).upstream = some ((following 2).linkHead 0) ∧ (following 2).activeSrc = 2 ∧ (following 2).peer.delays = [] := by
  refine ⟨?_, by decide +kernel, ?_, ?_, rfl⟩
  · rw [upstream_following _ (by decide +kernel) (by decide +kernel) (by decide +kernel)]; decide +kernel
  · rw [upstream_following _ (by decide +kernel) (by decide +kernel) (by decide +kernel)]; decide +kernel
  · have h1 : (following 2).fld F.TIME_CTL_SOURCE = 2 := by decide +kernel
    have h2 : (following 2).locked = true := by decide +kernel
    have h3 : (following 2).peer.master = some other := rfl
    simp [Dev.activeSrc, Dev.otherMaster, h1, h2, h3, other_ne]

theorem test_GrantsAreTaken_met :
    (let g : GrantMsg := ⟨other, 1, [(other, [], 0)]⟩
     (following 0).flag F.PEER_CTL_EN = true ∧ (following 0).peer.leader = some g.leader ∧ g.leader ≠ Config.deviceId ∧
     (following 0).peer.grantTaken = false ∧ (∀ m ∈ g.members, m.1 ≠ Config.deviceId) ∧
     (following 0).flag F.PEER_CTL_CODE_MODE = false) ∧
    (partnered.flag F.PEER_CTL_EN = true ∧ partnered.peer.grantDue = true ∧ partnered.peer.leader = some Config.deviceId ∧
      partnered.flag F.PEER_CTL_CODE_MODE = false ∧ partnered.peer.members ≠ []) :=
  ⟨⟨by decide +kernel, rfl, other_ne, rfl, by simp [other_ne], by decide +kernel⟩,
    by decide +kernel, rfl, rfl, by decide +kernel, by decide +kernel⟩

/-- Slice 0 on, all of its channels on, channel 0 with an open window of the present shot. -/
def listening : Dev :=
  let d := (List.range 8).foldl (fun (d : Dev) c => d.put (Reg.SLICE_CH_CFG 0 c) 0x7F#32) (up.setDom 0 true)
  { d with shot := some (shotAt true)
           chans := [(0, { win := some { tag := 0, slot := 0, base := 0, tref := some 1000, wo := 0, wc := 8000 }, queue := [⟨0, 1#32⟩] })] }

theorem test_EdgesAreStamped_met :
    listening.chanOn 0 = true ∧ listening.locked = true ∧ bitAt (listening.chCfg 0).toNat 3 = true ∧ listening.offline 0 = false ∧
    (((listening.chan 0).cmp 0).cross (listening.holdoffU 0) (listening.edgeTime 0 4000 0) true).2 = true ∧
    bitAt (listening.chCfg 0).toNat 6 = true ∧
    (∃ w, (listening.chan 0).win = some w ∧ listening.shot = some (shotAt true) ∧ w.slot = (shotAt true).slot ∧
      w.classify (listening.edgeTime 0 4000 0) ((listening.blanksOf 0).any fun b =>
        decide (b.1 ≤ listening.edgeTime 0 4000 0 ∧ listening.edgeTime 0 4000 0 < b.2)) (decide (256 ≤ (listening.chan 0).queue.length)) =
        .accepted) := by
  refine ⟨by decide +kernel, by decide +kernel, by decide +kernel, by decide +kernel, by decide +kernel, by decide +kernel, _, rfl, rfl,
    by decide, by decide +kernel⟩

theorem test_ShotsAndWindowsClose_met :
    (let x : Shot := { shotAt true with tref := none }
     let d : Dev := { up with shot := some x }
     d.shot = some x ∧ x.tref = none ∧ d.kiln.pixels = []) ∧ (listening.chan (8 * 0 + 0)).win.isSome = true ∧ listening.domOn 0 = true ∧
    (listening.chan 7).clampBack ≤ 4096 * (listening.time.slotStart + 0) := by decide +kernel

theorem test_SlotsAndFramesFollow_met :
    up.locked = true ∧
    (let d : Dev := { scanning stRunning with scan := { up.scan with frameSlots := 1 } }
     d.locked = true ∧ d.frameDue = true ∧ d.scan.frameTaken = false) ∧
    (let d : Dev := { scanning stStarting with scan := { up.scan with phase := .runIn, runInLeft := 1 } }
     d.frameDue = true ∧ d.scan.frameTaken = false) ∧
    ((scanning stRunning).put Reg.TIME_SLOT_IN_FRAME 15529#32).turnDue = true := by decide

/-- The summary of a shot without an edge. -/
def summary : Summary := ⟨0, 0, 0, 0, 0, 0, 0, 0, 0, 0, 0, 0, false, false, false, false, false, false⟩

/-- A pixel whose dwell has ended and whose one shot has its summary. -/
def pixel : Pixel :=
  { row := 0, pos := 0, slot0 := 0, frame := 0, hasFrame := true, overlay := 0, sod := List.replicate 12 0#32, acq := true, gen := 0,
    dwell := 1, thr := (10, 20, 30), wo := 0, wc := 8000, twoSlot := false, ctl := 0#32, par := [], rangeK := 0, ended := true,
    shots := [{ slot := 0, time := 0, suppressed := false, offsets := [0], eUsed := 0, summary := some summary }] }

theorem test_PixelsComplete_met :
    ({ up with kiln := { up.kiln with pixels := [pixel] } } : Dev).kiln.pixels.find? Pixel.ready = some pixel := by decide

/-- A range of the first 7,936 MiB is in device memory. -/
theorem in8 {a n : Nat} (h : a + n ≤ 0x1F0000000) : inDevMem a n = true := by
  rw [inDevMem, decide_eq_true_iff]; exact mem8 h

theorem test_TapCommandsAct_met :
    (Takes up (cmd [(0, 2), (511, 2), (0, 4), (2 ^ 64 - 1, 8), (0, 4), (1048576, 12)]) 0x0406 ∧
      Takes up (cmd [(2, 2), (0, 2), (512, 4), (0, 8), (0, 4), (4096, 12)]) 0x0406 ∧ up.atRest = true) ∧
    (Takes up (cmd [(15, 1), (15, 1), (0, 2), (511, 2), (0, 1), (255, 1), (2, 1), (16, 1), (0, 6)]) 0x0505 ∧
      Takes up (cmd [(0, 1), (0, 1), (0, 2), (511, 2), (0, 1), (255, 1), (2, 1), (16, 1), (0, 6)]) 0x0505 ∧
      regionOk 15 0 511 0 255 2 16 = true ∧ regionOk 0 0 511 0 255 2 16 = true) ∧
    (upBar.barOpen = true ∧ regionOk (upBar.fld (F.TAP_REQ_CFG_PRIO 15)) 0 511 (upBar.fld (F.TAP_REQ_COLS_FIRST 15))
      (upBar.fld (F.TAP_REQ_COLS_LAST 15)) (upBar.fld (F.TAP_REQ_CFG_RANGE 15)) (upBar.fld (F.TAP_REQ_CFG_LEN32 15)) = true) :=
  ⟨⟨takes_of (by decide +kernel), takes_of (by decide +kernel), by decide⟩,
    ⟨takes_of (by decide +kernel), takes_of (by decide +kernel), by decide +kernel, by decide +kernel⟩, by decide, by decide +kernel⟩

/-- A Ladle of tap 63, and its window. -/
def ladle : Ladle := { tap := 63, ch := 511, x2 := true, kOpen := 100, len := 32, slot := 0, shotSlot := 0, pos := 0, shot := 0, ord := 0,
                       late := false, short := false, host := false, calw := false, ctl := 4#32 }
def tapWin : TapWin := { up.blankWin ladle 0 with samples := [1, 2] }

/-- The part with tap state `x`. -/
def tapped (x : TapsSt) : Dev := { up with taps := x }

theorem test_TapWindowsOpenAndEnd_met :
    (let d := tapped { ladles := [ladle] }
     d.locked = true ∧ (d.taps.ladles.find? fun l => l.tap == 63) = some ladle ∧ (d.tap 63).skipping = false) ∧
    (let d := tapped { ladles := [ladle], taps := [(63, { skipping := true, fill := 992 })] }
     (d.tap 63).skipping = true ∧ (d.tap 63).fill + ladle.len ≤ 1024) ∧
    (let d := tapped { ladles := [ladle], taps := [(63, { skipping := true, fill := 993 })] }
     (d.tap 63).skipping = true ∧ 1024 < (d.tap 63).fill + ladle.len) ∧
    (let d := tapped { taps := [(63, { capture := some tapWin })] }
     (d.tap 63).capture = some tapWin ∧ (List.replicate 32 0#12).length = tapWin.ladle.len ∧ tapWin.ladle.tap = 63) :=
  ⟨by decide, by decide, by decide, rfl, rfl, rfl⟩

/-- A window that waits for the writer, and stream 2 running or not with a ring of 64 KiB. -/
def writing (runs : Bool) : Dev :=
  let d := (((tapped { queue := [tapWin] }).setFlag (F.ING_S_STAT_RUN 2) runs).put (Reg.ING_S_SIZE 2) 16#32).setFld F.TAP_CTL_STORE 2
  { d with rst := { d.rst with phase := .running } }

/-- The shot of that window's slot. -/
def awaiting : Dev := { writing true with shot := some (shotAt true) }

theorem test_WaveRecordsAreWritten_met :
    (∀ b ∈ [false, true], (writing b).taps.queue = [tapWin] ∧ (writing b).flag (F.ING_S_STAT_RUN 2) = b ∧ (writing b).streamRuns 2 = b ∧
      (writing b).headerOpen tapWin = false) ∧
    ((writing true).memHalted = false ∧
      serialAhead ((writing true).reg (Reg.ING_S_RD 2)).toNat (writing true).waveStart + tapWin.units ≤ (writing true).ringSize 2 * 128) ∧
    (let d := (writing true).put (Reg.ING_S_RD 2) 0xFFFFF801#32
     d.ringSize 2 * 128 < serialAhead (d.reg (Reg.ING_S_RD 2)).toNat d.waveStart + tapWin.units) ∧
    (let w : TapWin := { tapWin with fixed := false }
     awaiting.headerOpen w = true) := by
  decide +kernel

/-- A ZERO of tap 0 with its samples. -/
def zeroCal : CalTap := ⟨0, false, 0, 0, 1, 0, 4096, [(0, (5, 4096))], 0, 7⟩

theorem test_TapCalibrationEnds_met :
    let d := (busy (tapped { cal := some zeroCal }) 0x0406).setFld F.TAP_STAT_GRP_ON 1
    d.taps.cal = some zeroCal ∧ zeroCal.step = 0 ∧ zeroCal.units = [0] ∧ zeroCal.open_ 0 = false ∧ d.calUnitOk zeroCal 0 = true ∧
    d.running? zeroCal.pair zeroCal.tag = some (run 0x0406) ∧ (run 0x0406).mute = false ∧ (d.pair 0).silent = false := by decide +kernel

theorem ring_ok : ringBaseOk 0 16 0 = true ∧ ringBaseOk 1 16 0 = true ∧ ringBaseOk 2 16 0 = true := by
  simp only [ringBaseOk, Bool.and_eq_true]
  exact ⟨⟨rfl, in8 (by decide)⟩, ⟨rfl, in8 (by decide)⟩, rfl, in8 (by decide)⟩

theorem test_OutputCommandsAct_met :
    (∀ x ∈ [(cmd [(0, 4), (16, 4), (0, 8)], 0x0502), (cmd [(1, 4), (16, 4), (0, 8)], 0x0502), (cmd [(2, 4), (16, 4), (0, 8)], 0x0502),
      (cmd [(0, 2), (511, 2), (0, 1), (255, 1), (255, 2)], 0x0503), (cmd [(1, 1), (0, 1), (50, 6)], 0x0504),
      (cmd [(48, 1), (1, 1), (6000, 6)], 0x0504), (cmd [(511, 2), (511, 2), (0, 1), (255, 3), (64, 8)], 0x0506),
      (cmd [(0, 2), (511, 2), (0, 1), (255, 3)], 0x0507)], Takes up x.1 x.2) ∧
    (∀ n ∈ [0, 1, 2], ringSizeOk n 16 = true ∧ up.flag (F.ING_S_CTL_EN n) = false) ∧
    (ringBaseOk 0 16 0 = true ∧ ringBaseOk 1 16 0 = true ∧ ringBaseOk 2 16 0 = true) ∧
    (let j := turfJob ((cmd [(511, 2), (511, 2), (0, 1), (255, 3), (64, 8)]).packet 0x0506) 0
     j.ok = true ∧ j.addr % 64 = 0 ∧ j.addr + j.size ≤ 0x1F0000000) ∧
    (turfJob ((cmd [(0, 2), (511, 2), (0, 1), (255, 3)]).packet 0x0507) 0).ok = true :=
  ⟨takes_all (by decide +kernel), by decide, ring_ok, by decide +kernel, by decide +kernel⟩

/-- Stream 0 with a ring of 16 slots, enabled or not. -/
def stream (on : Bool) : Dev := ((upBar.put (Reg.ING_S_SIZE 0) 16#32).setFlag (F.ING_S_CTL_EN 0) on).setFlag (F.ING_S_STAT_RUN 0) on

theorem test_StreamsStartAndStop_met :
    (∀ b ∈ [false, true], (stream b).barOpen = true ∧ (stream b).flag (F.ING_S_CTL_EN 0) = b) ∧
    (ringSizeOk 0 ((stream false).ringSize 0) && ringBaseOk 0 ((stream false).ringSize 0) ((stream false).wide64 (Reg.ING_S_BASE_LO 0))) = true ∧
    ringSizeOk 0 (upBar.ringSize 0) = false ∧
    serialAhead ((stream true).reg (Reg.ING_S_RD 0)).toNat 0 ≤ (stream true).ringUsed 0 ∧
    (stream true).ringUsed 0 < serialAhead ((stream true).reg (Reg.ING_S_RD 0)).toNat (2 ^ 32 - 1) ∧
    (let d := (upBar.setFlag (F.ING_S_CTL_EN 2) true)
     d.flag (F.ING_S_CTL_EN 2) = true) := by
  refine ⟨by decide +kernel, ?_, by decide +kernel, by decide +kernel, by decide +kernel, by decide⟩
  have h1 : (stream false).ringSize 0 = 16 := by decide +kernel
  have h2 : (stream false).wide64 (Reg.ING_S_BASE_LO 0) = 0 := by decide +kernel
  rw [h1, h2, ring_ok.1]; decide

/-- An Ingot and a histogram record, and streams 0 and 1 running with a ring of 16 slots. -/
def ingot : Ingot := { seq := 0, frame := 0, time := 0, overlay := 0, damper := 0, domain := 0, dir := 0, ysel := 0, timeValid := true,
                       holdover := false, opened := 0, posFirst := 0, posLast := 0, records := [[1#32, 2#32, 3#32, 4#32]] }
def hist : HistRec := ⟨0, 0, 511, 1023, 0, 8000, 0, 1, 0, 0, 0, 1, [(0, 1)]⟩
def leaving (headed : Bool) : Dev :=
  let d := (((upBar.put (Reg.ING_S_SIZE 0) 16#32).setFlag (F.ING_S_STAT_RUN 0) true).put (Reg.ING_S_SIZE 1) 16#32).setFlag (F.ING_S_STAT_RUN 1) true
  { d with out := { d.out with openIngot := some { ingot with headed := headed }, closed := [ingot], hist := [hist] } }

theorem test_IngotsAndHistogramsLeave_met : ∀ b ∈ [false, true], (leaving b).out.openIngot = some { ingot with headed := b } ∧
    (leaving b).out.closed = [ingot] ∧ (leaving b).streamRuns 0 = true ∧ (leaving b).slotFree 0 = true ∧ (leaving b).memHalted = false ∧
    (leaving b).out.hist = [hist] ∧ (leaving b).streamRuns 1 = true ∧ (leaving b).slotFree 1 = true := by
  decide +kernel

theorem test_TurfIsRead_met : upBar.barOpen = true ∧
    (let j : TurfJob := ⟨511, 511, 255, 255, 64, none, [], 0, 7⟩
     let d := { busy up 0x0506 with turf := { up.turf with dump := some j } }
     d.turf.dump = some j ∧ j.words.length = 12 * 0 ∧ d.running? j.pair j.tag = some (run 0x0506) ∧ (run 0x0506).mute = false ∧ (d.pair 0).silent = false ∧
     d.memHalted = false) := by decide +kernel

theorem test_HousekeepingCommandsAct_met :
    (∀ x ∈ [(cmd [(0, 1), (35, 3), (0, 4), (1, 4)], 0x0407), (cmd [], 0x0A01), (cmd [(0xF0, 1), (1, 7)], 0x0A03), (cmd [(7, 8)], 0x0B04)],
      Takes up x.1 x.2) ∧
    (let d : Dev := { up with hk := { up.hk with zeros := [(0, (0, 1, 0))] } }
     Takes d (cmd [(1, 1), (0, 3), (hkFullScale 0 / 2, 4), (1, 4)]) 0x0407 ∧ d.atRest = true ∧ slook 0 d.hk.zeros = some (0, 1, 0) ∧
     hkSpanOk 0 (sgn 32 (hkFullScale 0 / 2)) 0 = true) ∧
    (let d := (up.setFlag F.HK_CTL_SYNC_EN true).setDom 144 true
     d.flag F.HK_CTL_SYNC_EN = true ∧ d.domOn 144 = true) :=
  ⟨takes_all (by decide +kernel), ⟨takes_of (by decide +kernel), by decide, by decide, by decide +kernel⟩, by decide⟩

/-- Housekeeping on; chain 7 settling or settled; sense input 0 converted with excitation or without. -/
def sensing (settling exc : Nat) (tripped : Bool) : Dev :=
  let d := (((up.setDom 144 true).setFlag F.HK_CTL_SENSE_EN true).setFlag (F.HK_SENSE_CFG_EN 0) true).setFld (F.HK_SENSE_CFG_EXC 0) exc
  { d with hk := { d.hk with chains := [(7, { settling := settling })], tripped := tripped } }

theorem test_ConvertersReport_met :
    (∀ n ∈ [0, 1], (sensing n 0 false).domOn 144 = true ∧ ((sensing n 0 false).hkChain 7).settling = n ∧ (sensing n 0 false).hk.cal = none) ∧
    (List.replicate (hkRatio ((sensing 0 0 false).fld (F.HK_CHAIN_CFG_PRESET 7))) 0#12).length = hkRatio ((sensing 0 0 false).fld (F.HK_CHAIN_CFG_PRESET 7)) ∧
    (∀ b ∈ [false, true], (sensing 0 1 b).fld F.HK_STAT_SENSE_CUR = 0 ∧ (sensing 0 1 b).flag F.HK_CTL_SENSE_EN = true ∧
      (sensing 0 1 b).senseEn 0 = true ∧ (sensing 0 1 b).fld (F.HK_SENSE_CFG_EXC 0) ≠ 0 ∧ (sensing 0 1 b).hk.tripped = b) ∧
    ((sensing 0 0 false).senseWord 0 2048 (hkRatio ((sensing 0 0 false).fld (F.HK_SENSE_CFG_PRESET 0)))).isSome = true := by decide +kernel

/-- The sensors on, a fast round due or not; thermal safe state entered on temperature. -/
def rounds (fast safe : Bool) : Dev :=
  let d := ((up.setDom 144 true).setFlag F.THM_STAT_FAST_ROUND fast).setFlag F.THM_STAT_SAFE safe
  { d with hk := { d.hk with safeOnTemp := safe } }

theorem test_ThermalRoundsAct_met :
    (∀ b ∈ [false, true], (rounds b false).domOn 144 = true ∧ (rounds b false).flag F.THM_STAT_FAST_ROUND = b ∧
      (rounds b false).sensorFailed 0 = false ∧ (rounds b false).sensorFailed 31 = false) ∧
    ((rounds false true).flag F.THM_STAT_SAFE = true ∧ (rounds false true).hk.safeOnTemp = true ∧ (rounds false true).tMax < 1840 ∧
      (rounds false true).par P.thm_damper_min 0 ≤ 7 ∧ (rounds false true).pwr.from_ ≤ 1) := by decide +kernel

/-- The part commissioned or not. -/
def commissionedAt (b : Bool) : Dev := up.setFlag F.SAFE_STAT_COMMISSIONED b

theorem crc32Step_lt (n c : Nat) (h : c < 2 ^ 32) : crc32Step n c < 2 ^ 32 := by
  induction n generalizing c with
  | zero => exact h
  | succ n ih =>
    rw [crc32Step]
    apply ih
    split
    · exact Nat.xor_lt_two_pow (by omega) (by decide)
    · omega

theorem crc32_lt (l : List Byte) : crc32 l < 2 ^ 32 := by
  have h (l : List Byte) (c : Nat) (hc : c < 2 ^ 32) : l.foldl (fun c (b : Byte) => crc32Step 8 (c ^^^ b.toNat)) c < 2 ^ 32 := by
    induction l generalizing c with
    | nil => exact hc
    | cons b l ih => exact ih _ (crc32Step_lt _ _ (Nat.xor_lt_two_pow hc (by omega)))
  exact Nat.xor_lt_two_pow (h l _ (by decide)) (by decide)

/-- A command of one 32-bit parameter. -/
def cmd32 (n : Nat) : Cmd := ⟨0, 0, 4, 7, BitVec.ofNat 448 n⟩

theorem cmd32_value {n : Nat} (h : n < 2 ^ 32) (op : Nat) : ((cmd32 n).packet op).value = n := by
  show n % 2 ^ 448 % 2 ^ 32 = n
  rw [Nat.mod_eq_of_lt (Nat.lt_trans h (by decide : (2 : Nat) ^ 32 < 2 ^ 448)), Nat.mod_eq_of_lt h]

theorem cmd32_u {n : Nat} (h : n < 2 ^ 32) (op : Nat) : ((cmd32 n).packet op).u 0 4 = n := by
  rw [Packet.u, cmd32_value h, bits]
  omega

theorem commission_takes {n : Nat} (h : n < 2 ^ 32) : Takes up (cmd32 n) 0x0702 := by
  have b : Takes up (cmd []) 0x0608 := by constructor <;> decide +kernel
  have ho : opForm? 0x0702 = some { code := 0x0702, fields := [(0, 4)], serial := true, accepts := true } := by decide +kernel
  have hr : up.readyError 0x0702 = 0 := by decide +kernel
  have hl : up.limitError 0 0x0702 = 0 := by decide +kernel
  refine ⟨b.live, b.enabled, b.halted, b.speaks, b.rung, b.fetched, b.room, ?_, b.turn, ?_, ?_, hl⟩
  · exact b.fence
  · unfold formError
    rw [show opForm? ((cmd32 n).packet 0x0702).opcode.toNat = some _ from ho]
    have hg : n - bits n 0 32 * 2 ^ 0 = 0 := by rw [bits]; omega
    simp only [OpForm.len, OpForm.gaps, cmd32_value h, List.foldl_cons, List.foldl_nil, Nat.mul_zero]
    rw [show n - bits n 0 (8 * 4) * 2 ^ 0 = 0 from hg, show ((cmd32 n).packet 0x0702).plen.toNat = 4 from rfl, show ((cmd32 n).packet 0x0702).flags.toNat = 0 from rfl]
    have hop : ((cmd32 n).packet 0x0702).opcode ≠ 0x0D03#16 := by show 0x0702#16 ≠ 0x0D03#16; decide
    simp [hop]
  · unfold Dev.stageError
    rw [show ((cmd32 n).packet 0x0702).opcode.toNat = 0x0702 from rfl, hr]
    rfl
theorem test_SafetyAndMemoryCommandsAct_met :
    (up.safetyInvalid = false ∧ up.atRest = true ∧ up.commissioned = false ∧ up.storeFull 17 (up.setEntries 17) = false ∧
      Takes up (cmd32 up.checkLive) 0x0702 ∧ ((cmd32 up.checkLive).packet 0x0702).u 0 4 = up.checkLive) ∧
    (Takes (commissionedAt true) (cmd [(0, 8)]) 0x0703 ∧ (commissionedAt true).atRest = true ∧ (commissionedAt true).commissioned = true ∧
      (commissionedAt true).storeFull 17 [] = false ∧ ((commissionedAt true).reg Reg.SAFE_CHECK).toNat = 0) ∧
    (Takes up (cmd [(131071, 4), (1, 4), (0, 8)]) 0x0704 ∧ 131071 + 1 ≤ 131072) ∧
    (Takes up (cmd [(0, 8), (2 ^ 32, 8), (1, 8), (2 ^ 32, 8)]) 0x0901 ∧ scrubRangeOk 0 (2 ^ 32) = true ∧ 2 ^ 32 + 256 ≤ devMemSize ∧
      overlaps (2 ^ 32) 256 0 (2 ^ 32) = false ∧ up.memHalted = false) ∧
    Takes up (cmd [(0, 4), (1, 4)]) 0x0903 ∧ Takes up (cmd [(1, 4), (720, 4)]) 0x0903 ∧
    (Takes up (cmd [(0, 8), (2 ^ 32, 8)]) 0x0904 ∧ up.enabledRings = []) := by
  refine ⟨⟨by decide +kernel, by decide, by decide, by decide +kernel, commission_takes (crc32_lt _), cmd32_u (crc32_lt _) _⟩,
    ⟨takes_of (by decide +kernel), by decide, by decide, by decide +kernel, by decide +kernel⟩,
    ⟨takes_of (by decide +kernel), by decide⟩, ⟨takes_of (by decide +kernel), ?_, mem8 (by decide), by decide, by decide +kernel⟩,
    takes_of (by decide +kernel), takes_of (by decide +kernel), takes_of (by decide +kernel), by decide +kernel⟩
  · simp only [scrubRangeOk, Bool.and_eq_true]; exact ⟨⟨by decide, by decide⟩, in8 (by decide)⟩

/-- The island running, with a safety state. -/
def guarded (x : SafeSt) : Dev := { up with safe := { x with running := true } }

/-- A frame shifted for the next commit, which gives segment 0 a code. -/
def shifting (code : Nat) : Dev :=
  { up with cfg := { up.cfg with live := [(pkey P.emit_cal 0, 65535)] },
            blw := { up.blw with e := { up.blw.e with pages := [(0, code)], shifted := some ⟨1, [0], 0, 8, false, [], [], []⟩ } } }

theorem test_QuenchesFollowTheirCauses_met :
    ((guarded {}).safe.running = true ∧ (guarded {}).safe.detected ||| 2 ^ Cause.disagree ||| 2 ^ Cause.clock ||| 2 ^ Cause.config ≠ 0 ∧
      (guarded {}).safe.detected ||| 2 ^ Cause.disagree ||| 2 ^ Cause.clock ||| 2 ^ Cause.config < 2 ^ 13) ∧
    (let d : Dev := { (guarded {}).setFlag F.SAFE_STAT_LOCK false with scan := { up.scan with arm := true } }
     d.safe.running = true ∧ d.safe.detected = 0 ∧ d.quenchLock = false ∧ d.scan.arm = true ∧ d.stopsHigh = true ∧ d.safe.waitTurn = false ∧
     d.aState ≤ 1 ∧ d.safe.switches.length = 4) ∧
    (∀ code ∈ [0, 65535], let d := shifting code
     d.blw.e.shifted.isSome = true ∧ d.safe.decided = false ∧ (d.segCharge 0 (d.blw.e.code 0 0) 8).2 = (code == 65535)) ∧
    up.locked = true ∧
    (let d : Dev := (up.setFld F.SAFE_STAT_A_STATE 2).setFld F.SAFE_STAT_B_STATE 4
     d.aOn = true ∧ d.bOn = true ∧ up.aOn = false ∧ (d.switch 3).testing = false) ∧
    ((guarded { stop1 := { high := false } }).safe.stop1.high = false ∧
      (guarded { stop1 := { high := false } }).safe.stop1.high ≠ (guarded { stop1 := { high := false } }).safe.stop2.high) ∧
    ((guarded { restart1 := { high := false } }).safe.restart1.high ≠ (guarded { restart1 := { high := false } }).safe.restart2.high) := by
  decide +kernel

/-- A press of 100 ms whose first channel is about to rise. -/
def press : SafeSt := { running := true, restart1 := { high := false, fell := some 0 }, restart2 := { high := true, fell := some 0, rose := 100000 } }

theorem test_InputsTestsAndFieldAct_met :
    ({ press with restart1 := { press.restart1 with high := true, rose := 150000 } }.validPress = true ∧ press.restart1.high = false ∧
      press.restart2.high = true ∧ (guarded press).flag F.SAFE_STAT_RESTART_HELD = false ∧ (guarded press).safe.running = true) ∧
    (let d := (guarded press).setFlag F.SAFE_STAT_LOCK true
     d.quenchLock = true ∧ d.stopsHigh = true ∧ d.safe.switches.all SafeSwitch.ok = true ∧ d.safe.active = 0 ∧ d.safe.detected = 0 ∧
     d.locked = true ∧ d.flag F.BLW_STAT_E_FAULT = false) ∧
    (let d := (guarded { press with stop2 := { high := false } }).setFlag F.SAFE_STAT_LOCK true
     d.quenchLock = true ∧ d.stopsHigh = false) ∧
    (let d := ((guarded press).setFlag F.SAFE_STAT_LOCK false).setFld F.SAFE_STAT_B_STATE 3
     d.quenchLock = false ∧ d.bState = 3) ∧
    (let d := (guarded { switches := [{ gate := true }, {}, { testing := true }, {}] }).setFld F.SAFE_STAT_A_STATE 2
     d.aOn = true ∧ (d.switch 0).testing = false ∧ d.safe.switches.length = 4) ∧
    (let d := (guarded { switches := [{ testing := true }, {}, {}, {}] }).setFld F.SAFE_STAT_A_STATE 3
     (d.switch 0).testing = true ∧ d.aOn = true) ∧
    (let d := (guarded {}).setFld F.SAFE_STAT_B_STATE 4
     d.bState = 4 ∧ (d.switch 3).testing = false) ∧
    (guarded { copies := [⟨511, 1023, 1, false, []⟩] }).safe.copies = [⟨511, 1023, 1, false, []⟩] ∧
    (let d : Dev := { (commissionedAt true).setFld F.SAFE_STAT_B_STATE 3 with
       cfg := { up.cfg with live := [(pkey P.safe_b_en 0, 1)] },
       safe := { up.safe with batch := [511], results := [(1024 * 511 + 1022, true), (1024 * 511 + 1023, true)] } }
     d.fnB = true ∧ 0 < d.rowRuns false 511 ∧ 3 ≤ d.bState ∧ d.rowRuns false 0 = 0) := by decide +kernel

/-- The command of the jobs below. -/
def scrubCmd : Running := run 0x0901
def scrub : ScrubJob := { addr := 0, length := 256, repair := true, summary := 1024, pair := 0, tag := 7, started := 0 }
/-- Memory in use, with memory state `x`, and its command outstanding. -/
def memory (x : MemSt) : Dev :=
  let d := busy (upBar.setFlag F.MEM_STAT_ACTIVE true) 0x0901
  { d with memc := x }

theorem test_MemoryErrorsAct_met :
    (let d := memory { scrub := some scrub }
     d.memc.scrub = some scrub ∧ d.running? scrub.pair scrub.tag = some scrubCmd ∧ scrubCmd.mute = false ∧ (d.pair 0).silent = false ∧
     d.memHalted = false ∧ d.suspectBeats 0 256 = [] ∧ (d.upset [(3, 512)]).suspectBeats 0 256 = [3] ∧
     (d.upset [(3, 512)]).readBeat 3 = .corrected 9 ∧ scrub.ce.length = 20 ∧ (d.upset [(3, 513)]).suspectBeats 0 256 = [3] ∧
     (d.upset [(3, 513)]).readBeat 3 = .bad ∧ d.barOpen = true) ∧
    (upBar.flag F.MEM_STAT_ACTIVE = false ∧ upBar.rst.phase = .running ∧ upBar.memHalted = false ∧ upBar.memc.wipeDue = true ∧
      upBar.flag F.MEM_STAT_ERASURE = false ∧ (0 : Fin 20).val % 10 ≠ (19 : Fin 20).val % 10) ∧
    (let d := memory {}
     d.flag F.MEM_STAT_ACTIVE = true ∧ d.memHalted = false ∧ d.memc.trackBad.contains 19 = false ∧ d.memc.dieCe = []) ∧
    (let d := memory { trackBad := [19] }
     d.memc.trackBad.contains 19 = true ∧ d.flag F.MEM_STAT_ERASURE = false) ∧
    (let d := memory { dieCe := [(199, 65536)] }
     d.par P.mem_die_ce_thresh 0 < 65536 ∧ d.memc.dieCe = [(199, 65536)] ∧ d.flag F.MEM_STAT_ERASURE = false) ∧
    (let d := (memory { dieCe := [(199, 65536)], trackBad := [19] }).setFlag F.MEM_STAT_ERASURE true
     d.flag F.MEM_STAT_ERASURE = true ∧ d.par P.mem_die_ce_thresh 0 < 65536 ∧ d.fld F.MEM_STAT_ERASED_DIE ≠ 199 % 10 ∧
     d.fld F.MEM_STAT_ERASED_DIE ≠ 19 % 10 ∧ d.memc.trackBad.contains 19 = true) ∧
    (let d := memory { lines := [(5, 1)] }
     d.memc.lines = [(5, 1)] ∧ d.memHalted = false ∧ d.memc.faults = []) ∧
    (let d := ((memory {}).setFlag F.MEM_CTL_PATROL_EN true).setFlag F.CMDQ_STAT_READY true
     d.flag F.MEM_CTL_PATROL_EN = true ∧ d.flag F.MEM_STAT_ACTIVE = true ∧ d.flag F.CMDQ_STAT_READY = true ∧
     d.flag F.MEM_STAT_SCRUB_BUSY = false ∧ d.memHalted = false ∧ d.memc.faults = []) ∧
    (let d := (memory {}).setFlag F.CMDQ_STAT_READY true
     d.canTrap 63 = true ∧ ((sget (fun _ => ([] : List Nat)) 63 d.memc.traps).filter fun t => decide (d.now < 10000000000 + t)).length ≤ 2) ∧
    ((memory {}).setFld (F.GLB_ENG_STAT_STATE 0) 2).fld (F.GLB_ENG_STAT_STATE 0) = 2 := by decide +kernel

/-- One pace sensor that reports, at 90 % of a floor of 1,000 ps. -/
def pace (v : Option (BitVec 16)) : List (Option (BitVec 16)) := v :: List.replicate 15 none

theorem test_PowerActs_met :
    (Takes up (cmd [(0, 8)]) 0x0B02 ∧ Takes up (cmd [(1, 8)]) 0x0B02 ∧ up.fld F.PWR_STAT_STATE = 0 ∧ up.atRest = true ∧
      up.pwr.target = none ∧ up.cfg.waiting = [] ∧ up.offBlocked 111 = false) ∧
    (let d : Dev := { up with pwr := { up.pwr with target := some 1 } }
     d.pwr.target = some 1 ∧ d.pwr.switchQ = [] ∧ d.pwr.offWait = [] ∧ d.flag F.THM_STAT_SAFE = false) ∧
    (let d : Dev := { up with pwr := { up.pwr with switchQ := [145, 0] } }
     d.pwr.switchQ = [145, 0] ∧ d.cfg.powering = []) ∧
    (up.flag F.GLB_STAT_RESTORED = true ∧ up.par P.pwr_v_min_mv 0 ≤ up.par P.pwr_v_max_mv 0 ∧ up.par P.pwr_v_max_mv 0 < 2 ^ 16 ∧
      (up.setFld F.PWR_STAT_STATE 2).fld F.PWR_STAT_STATE = 2 ∧ (up.setFlag F.PWR_CTL_GOV_EN false).flag F.PWR_CTL_GOV_EN = false ∧
      up.flag F.PWR_CTL_GOV_EN = true ∧ up.flag F.PWR_STAT_SWITCHING = false ∧ up.flag F.PWR_STAT_AVS_FAULT = false ∧
      (pace none).length = 16 ∧ paceOver (pace none) (100 - up.par P.pwr_pace_margin_pct 0) = false ∧
      paceBelow (pace none) (97 - up.par P.pwr_pace_margin_pct 0) = true) ∧
    (Config.paceFloor 0 = 1000#16 → ∀ m, m = 8 → paceOver (pace (some 1000#16)) (100 - m) = true ∧
      paceOver (pace (some 900#16)) (100 - m) = false ∧ paceBelow (pace (some 900#16)) (97 - m) = false) ∧
    up.par P.pwr_pace_margin_pct 0 = 8 ∧
    (({ up with pwr := { up.pwr with avsFails := 2 } } : Dev).pwr.avsFails = 2 ∧
      absI (((0 : BitVec 16).toNat : Int) - up.fld F.PWR_VF_V) ≤ 25 ∨ absI (((800 : BitVec 16).toNat : Int) - up.fld F.PWR_VF_V) ≤ 25) := by
  refine ⟨⟨takes_of (by decide +kernel), takes_of (by decide +kernel), by decide, by decide, by decide, by decide, by decide⟩, by decide,
    by decide, by decide +kernel, ?_, by decide +kernel, by decide +kernel⟩
  intro h m hm
  subst hm
  simp [paceOver, paceBelow, pace, h]

/-- A command that is outstanding. -/
def doing (op : Nat) (c : Cmd := cmd []) : Dev := busy up op c

theorem test_SecurityCommandsAct_met :
    (up.memc.faults = [] ∧ up.memHalted = false) ∧ (Takes up (cmd [(0, 32), (4096, 8)]) 0x0C01 ∧ 4096 + 4883 ≤ devMemSize) ∧
    (Takes up (cmd [(0, 8)]) 0x0C02 ∧ (Config.idCertificate.length ≤ 2 ^ 20 → 0 + Config.idCertificate.length ≤ devMemSize)) ∧
    (let d : Dev := { up with rst := { up.rst with staged := true } }
     Takes d (cmd []) 0x0C05 ∧ d.rst.staged = true) ∧
    Takes up (cmd [(3, 8), (4096, 8)]) 0x0C03 ∧ up.scanState = stStopped ∧
    Takes up (cmd [(4096, 8), (8192, 4)]) 0x0C04 ∧ Takes up (cmd [(1, 8), (4096, 8)]) 0x0C06 ∧ 4096 + tokenLen ≤ devMemSize ∧
    (let d : Dev := { doing 0x0C04 with rst := { up.rst with staging := some ({}, 0, 7) } }
     d.rst.staging = some ({}, 0, 7) ∧ d.running? 0 7 = some (run 0x0C04) ∧ (run 0x0C04).mute = false ∧ (d.pair 0).silent = false ∧
     d.rst.slots.length = 2) ∧
    (let d : Dev := { up with rst := { up.rst with life := some ⟨3, none⟩ } }
     d.rst.life = some ⟨3, none⟩) ∧
    (∀ op ∈ [0x0C01, 0x0C02, 0x0C05, 0x0C06, 0x0904], (doing op).running? 0 7 = some (run op) ∧ (run op).mute = false ∧
      ((doing op).pair 0).silent = false ∧ (run op).pkt.opcode = BitVec.ofNat 16 op ∧ (doing op).memHalted = false ∧
      ((doing op).setFlag F.MEM_STAT_HALT_A true).memHalted = true) :=
  ⟨by decide +kernel, ⟨takes_of (by decide +kernel), mem8 (by decide)⟩, ⟨takes_of (by decide +kernel), fun h => mem8 (by omega)⟩,
    ⟨takes_of (by decide +kernel), rfl⟩, takes_of (by decide +kernel), by decide, takes_of (by decide +kernel), takes_of (by decide +kernel),
    mem8 (by decide), by decide +kernel, rfl, by decide +kernel⟩

/-! The checks of tokens and images rest on constants of Config without a body: these witnesses hold for the values they name. -/

/-- A token of action `a` and target `v` at 4,096: MAGIC, VERSION 1, ACTION, TARGET, DEVICE_ID 1, SEQ 0. -/
def tokenAt (a v : Nat) : List Host.Cell :=
  [(4096, 0x54#8), (4097, 0x4F#8), (4098, 0x4B#8), (4099, 0x4E#8), (4100, 1#8), (4102, BitVec.ofNat 8 a), (4103, BitVec.ofNat 8 v),
    (4104, 1#8)]

theorem test_SecurityCommandsAct_token_met (hv : ∀ k m g, Config.verify k m g = true) (hd : Config.deviceId = 1#64) :
    up.tokenRefusal (memRead (tokenAt 1 3) 4096 tokenLen) 1 3 2 = 0 ∧ up.tokenRefusal (memRead (tokenAt 2 1) 4096 tokenLen) 2 1 1 = 0 := by
  have s (t : List Byte) : up.tokenSigned t 2 = true ∧ up.tokenSigned t 1 = true := by
    have e : ∀ k, bitAt up.rst.fuses.revoked k = false := fun k => by simp [bitAt, up, State.reset]
    simp [Dev.tokenSigned, hv, e, List.range, List.range.loop]
  constructor
  · rw [Dev.tokenRefusal, if_neg (by decide +kernel), (s _).1, Dev.tokenMatches, hd]; decide +kernel
  · rw [Dev.tokenRefusal, if_neg (by decide +kernel), (s _).2, Dev.tokenMatches, hd]; decide +kernel

/-- An image at 4,096: MAGIC, every other byte of its header 0, no payload. -/
def imageMem : List Host.Cell := [(4096, 0x52#8), (4097, 0x57#8), (4098, 0x49#8), (4099, 0x4D#8)]

theorem test_SecurityCommandsAct_image_met (hv : ∀ k m g, Config.verify k m g = true) (hs : ∀ l, Config.sha3 l = 0#512) :
    up.imageRefusal (memRead imageMem 4096 8192) = 0 := by
  have h : (!headerSigned ((memRead imageMem 4096 8192).take 8192) || !payloadOk (memRead imageMem 4096 8192)) = false := by
    simp only [headerSigned, payloadOk, hv, hs]
    decide +kernel
  rw [Dev.imageRefusal, h]
  decide +kernel
/-- `up` with that image in slot 0. -/
def imaged : Dev := { up with rst := { up.rst with slots := [{ header := some (memRead imageMem 4096 8192) }, {}] } }

theorem test_SecurityCommandsAct_bootable_met (hv : ∀ k m g, Config.verify k m g = true) (hs : ∀ l, Config.sha3 l = 0#512) :
    imaged.bootable 0 = true := by
  have h : headerSigned (imaged.header 0) = true := by simp [headerSigned, hv, hs]
  have e : (headerShape (imaged.header 0) && headerKey (imaged.header 0) == 0 &&
      decide (imaged.rst.fuses.floor ≤ headerVer (imaged.header 0) / 65536)) = true := by decide +kernel
  simp only [Bool.and_eq_true] at e
  rw [Dev.bootable, List.any_eq_true]
  exact ⟨0, by decide, by simp [h, e.1.1, e.1.2, e.2]⟩

theorem test_ResetsTakeHold_met :
    (up.holding srcResetN = false ∧ up.holding srcPerst = false ∧ up.holding srcThermal = false) ∧
    (let d : Dev := { upBar with host := { up.host with linkUp := true } }
     d.host.linkUp = true ∧ d.cxlMode = true ∧ carriesCxl 1 16 = false) ∧
    (upBar.setFlag F.CMDQ_STAT_READY true).cores = true ∧
    (let d : Dev := { up.setFlag F.SAFE_STAT_LOCK true with safe := { up.safe with active := 2 ^ Cause.clock } }
     d.quenchLock = true ∧ (bitAt d.safe.active Cause.disagree || bitAt d.safe.active Cause.clock) = true) ∧
    (({ up with rst := { up.rst with softDue := true } } : Dev).rst.softDue = true ∧
      ({ up with rst := { up.rst with lifeResetDue := true } } : Dev).rst.lifeResetDue = true) ∧
    (let d : Dev := { up with hk := { up.hk with overTemp := [(19, 3)] } }
     let spots := List.replicate 19 0#16 ++ [2080#16]
     spots.length = 20 ∧ bitAt (d.fld F.THM_FAIL_HOT) 19 = false ∧ 2080 ≤ (spots.getD 19 0#16).toInt ∧
     3 ≤ sget (fun _ => 0) 19 d.hk.overTemp) ∧
    (let d : Dev := { up with rst := { up.rst with asserted := 2 ^ srcThermal + 2 ^ srcResetN } }
     d.holding srcThermal = true ∧ d.holding srcResetN = true ∧ (List.replicate 20 1839#16).length = 20 ∧
     ((List.replicate 20 1839#16).all fun x => decide (x.toInt < 1840)) = true) ∧
    (let d : Dev := { up with rst := { up.rst with phase := .held } }
     d.rst.phase = .held ∧ d.rst.asserted = 0 ∧ bitAt (d.fld F.RST_CAUSE_SRC) srcPowerOn = true ∧ [0, 0, 0, 0, 0, 0].length = 6) := by
  decide +kernel

/-- The part between the lock of the PLL and the restore, with a header in the preferred slot. -/
def booting (ready : Bool) : Dev :=
  let d := (State.reset.dev.setFlag F.CMDQ_STAT_READY ready).setFlag F.MEM_STAT_ACTIVE true
  { d with rst := { d.rst with phase := .running, slots := [{ header := some [0, 0, 0, 0, 0, 0, 1, 0, 0, 0, 0, 0, 1] }, {}] } }

theorem test_BootRunsToRestored_met :
    State.reset.dev.rst.phase = .fuseLoad ∧
    (let d : Dev := { State.reset.dev with rst := { up.rst with phase := .pll } }
     d.locked = false ∧ d.rst.phase = .pll) ∧
    ((booting false).locked = false ∧ (booting false).rst.phase = .running ∧ up.locked = true) ∧
    (let d := booting false
     d.flag F.CMDQ_STAT_READY = false ∧ d.store.absent = false ∧ bitAt d.rst.shadow.revoked (headerKey (d.header d.rst.preferred)) = false ∧
     d.rst.shadow.floor ≤ headerVer (d.header d.rst.preferred) / 65536) ∧
    (let d := booting true
     d.flag F.CMDQ_STAT_READY = true ∧ d.flag F.GLB_STAT_RESTORED = false ∧ (d.flag F.MEM_STAT_ACTIVE || d.memHalted) = true) := by
  decide +kernel

/-- Pair 0 with one command covered or fetched. -/
def queued (p : Pair) : Dev := { upBar with cmd := { up.cmd with pairs := [(0, p)] } }

theorem test_QueuePairsRun_met :
    (upBar.barOpen = true ∧ upBar.flag (F.CMDQ_Q_CTL_EN 15) = false ∧ field 0x9801#32 1 1 = 0 ∧
      (upBar.setFlag F.CMDQ_STAT_READY true).flag F.CMDQ_STAT_READY = true ∧ upBar.flag F.CMDQ_STAT_READY = false ∧
      upBar.flag (F.CMDQ_Q_CTL_EN 0) = true ∧ upBar.flag F.CMDQ_STAT_DECLARED = false) ∧
    (serialAhead (upBar.pair 0).sqTail 1 < 2 ^ 31 ∧ serialAhead (upBar.pair 0).sqHead 1 ≤ upBar.sqDepth 0 ∧ upBar.pairOpen 0 = true ∧
      ((upBar.coveredBy 0 1 []).all fun x => [false, true].all fun l => (fastBody x upBar.capture l).isNone) = true) ∧
    (¬serialAhead (upBar.pair 0).sqHead 257 ≤ upBar.sqDepth 0 ∧ serialAhead (upBar.pair 0).cqHead (upBar.pair 0).cqTail < serialAhead (upBar.pair 0).cqHead 1 ∧
      serialAhead (upBar.pair 0).cqHead 0 ≤ serialAhead (upBar.pair 0).cqHead (upBar.pair 0).cqTail) ∧
    (let w : Waiting := { pkt := (cmd []).packet 0x0001, rung := 0 }
     let x : Waiting := { pkt := (cmd []).packet 0xFFFF, rung := 0 }
     (queued { rung := [w] }).pairOpen 0 = true ∧ 2 ≤ (queued { rung := [w] }).cqFree 0 ∧ (fastBody w.pkt w.cap w.last).isNone = true ∧
     (opForm? w.pkt.opcode.toNat).isSome = true ∧ (opForm? x.pkt.opcode.toNat).isNone = true ∧ (fastBody x.pkt x.cap x.last).isNone = true ∧
     (queued { rung := [x] }).fenced 0 x.pkt = false ∧ ((queued { rung := [x] }).pair 0).silent = false ∧
     (queued { fetched := [w] }).pairLive 0 = true ∧ bitAt w.pkt.flags.toNat 0 = false) := by decide +kernel

theorem test_RegistersFollowTheirAccess_met : upBar.barOpen = true ∧
    (satCounters Reg.CMDQ_CNT_SAT).isSome = true ∧
    ((regRow? Reg.SCN_EVT).map (stickyReg Reg.SCN_EVT)) = some true ∧
    ((regRow? Reg.SAFE_LOCK_TIME_LO).map (·.half)) = some .lo ∧
    ((regRow? (Reg.SLICE_EM_CH 63 7)).map fun r => r.fields.any (·.acc == .rc)) = some true ∧
    ¬((4 = 4 ∨ 4 = 8) ∧ 2 % 4 = 0) ∧ (regRow? 0x1FFFFC).isNone = true ∧ (satCounters 0x1FFFFC).isNone = true ∧
    (regRow? Reg.GLB_SCRATCH).isSome = true ∧ upBar.ringLocked (Reg.ING_S_BASE_LO 2) = false ∧
    upBar.ringLocked (Reg.ING_S_BASE_LO 2 + 4) = false ∧ upBar.flag F.EVT_CTL_RING_EN = false ∧
    upBar.wide64 Reg.EVT_RING_BASE_LO = 0 ∧ 0 + 32 * upBar.evtDepth ≤ 0x1F0000000 ∧
    ({ upBar with wide := [(Reg.EVT_RING_BASE_LO, 1#64)] } : Dev).wide64 Reg.EVT_RING_BASE_LO % 4096 ≠ 0 ∧
    serialAhead (upBar.reg Reg.EVT_RING_RD).toNat 0 ≤ upBar.evtUsed ∧ upBar.evtUsed < serialAhead (upBar.reg Reg.EVT_RING_RD).toNat 1 ∧
    2 ^ 28 * (field 0#32 0 8 + 1) ≤ 0x1F0000000 ∧ 0x3F0000000 < 2 ^ 28 * (field 255#32 0 8 + 1) := by decide +kernel

/-- The link up, past its retry status, in CXL mode (`pcie` false) or PCIe-only mode. -/
def linked (pcie : Bool) : Dev :=
  let d := (upBar.setFlag F.GLB_HOST_MODE pcie).setFlag F.MEM_STAT_ACTIVE true
  { d with host := { d.host with linkUp := true, modeFixed := true, retryStatus := false, memEnable := true, biEnable := true,
                                 committed := true, hdmSize := 2 ^ 33, msixEnable := true, busMaster := true, msix := [(63, { masked := false })] } }

theorem test_HostLinkFollows_met :
    (upBar.islandUp = true ∧ upBar.host.linkUp = false ∧ upBar.host.modeFixed = false) ∧
    ((linked false).host.linkUp = true ∧ carriesCxl 2 4 = true ∧ (linked false).fld F.GLB_HOST_RATE ≠ 2 ∧ (linked false).answersConfig = true ∧
      (linked false).host.d3hot = false ∧ (linked false).cxlMode = true ∧ (linked false).host.msixMask = false) ∧
    ({ (linked false) with host := { (linked false).host with d3hot := true } } : Dev).host.d3hot = true ∧
    (∀ b ∈ [false, true], let d : Dev := { linked false with evt := { up.evt with hold := 0x8000000000000000#64, due := if b then 0x8000000000000000#64 else 0#64 } }
     d.evt.hold.getLsbD 63 = true ∧ d.evt.due.getLsbD 63 = b ∧ d.msiOpen 63 = true) ∧
    (let d := (linked false).setFlag (F.CMDQ_Q_CTL_LOC 0) true
     d.inHost 0 = true ∧ d.flag (F.CMDQ_Q_STAT_RUN 0) = true ∧ d.cxlMode = true) := by decide +kernel

theorem test_HostReachesDeviceMemory_met :
    ((linked false).barOpen = true ∧ (linked false).answersConfig = true ∧ (linked false).cxlMode = true ∧
      ((linked false).host.committed && (linked false).host.locked) = false ∧ (linked false).host.biEnable = true ∧
      (linked false).flag F.MEM_STAT_ACTIVE = true ∧ (linked false).memc.faults = [] ∧ (linked false).memHalted = false) ∧
    ((linked false).cxlMem = true ∧ (linked false).host.committed = true ∧ (linked false).host.hdmBase ≤ 2 ^ 33 - 1 ∧
      2 ^ 33 - 1 < (linked false).host.hdmBase + (linked false).host.hdmSize ∧
      ¬2 ^ 33 < (linked false).host.hdmBase + (linked false).host.hdmSize) ∧
    ((linked false).setFlag F.MEM_STAT_HALT_B true).haltedAt 0x100 = true ∧
    ((linked true).barOpen = true ∧ (linked true).apertureOpen = true ∧ (2 ^ 28 - 64) + 64 ≤ 2 ^ 28) := by decide +kernel

theorem test_CommonRefusalsComeInOrder_met :
    (Reaches up (cmd []) 0x0004 ∧ formError ((cmd []).packet 0x0004) ≠ 0) ∧
    (let d := up.setFlag F.GLB_STAT_RESTORED false
     Reaches d (cmd []) 0x0201 ∧ formError ((cmd []).packet 0x0201) = 0 ∧ d.stageError ((cmd []).packet 0x0201) ≠ 0) ∧
    (let d := busy up 0x0104
     Reaches d (cmd [(0, 2), (10, 6)]) 0x0104 ∧ formError ((cmd [(0, 2), (10, 6)]).packet 0x0104) = 0 ∧
     d.stageError ((cmd [(0, 2), (10, 6)]).packet 0x0104) = 0 ∧ d.limitError 0 0x0104 ≠ 0) := by
  refine ⟨⟨?_, by decide⟩, ⟨?_, by decide +kernel, by decide +kernel⟩, ⟨?_, by decide +kernel, by decide +kernel, by decide +kernel⟩⟩ <;>
  exact ⟨by decide +kernel, by decide +kernel, by decide +kernel, by decide +kernel, by decide +kernel, by decide +kernel, by decide +kernel,
    by decide +kernel, by decide +kernel⟩

theorem test_EveryStepKeepsTheInvariant_met : Inv State.reset := ⟨by decide, rfl, rfl⟩

end Sys2Proof.Tests
end

section
/-! SUPPORT. Steps whose work raises nothing and writes nothing to device memory: the work alone is what the step does. -/

namespace Sys2Proof.Machine

/-- No raising and no write stands in a part. -/
structure Quiet (d : Dev) : Prop where
  raised : d.evt.raised = []
  outbox : d.outbox = []

theorem quiet_begin (d : Dev) : Quiet d.begin_ := ⟨rfl, rfl⟩

theorem Quiet.put {d : Dev} (h : Quiet d) (a : Nat) (v : Word) : Quiet (d.put a v) := ⟨h.raised, h.outbox⟩
theorem Quiet.setFld {d : Dev} (h : Quiet d) (f : Fld) (v : Nat) : Quiet (d.setFld f v) := ⟨h.raised, h.outbox⟩
theorem Quiet.setFlag {d : Dev} (h : Quiet d) (f : Fld) (b : Bool) : Quiet (d.setFlag f b) := ⟨h.raised, h.outbox⟩

theorem settle_quiet {d : Dev} (h : Quiet d) : d.settle = d := by
  have he : { d.evt with raised := [] } = d.evt := by rw [← h.raised]
  unfold Dev.settle
  rw [h.raised, he]
  rfl

theorem flushOut_quiet {d : Dev} (h : Quiet d) (m : List Host.Cell) : flushOut m d = (m, d) := by
  have he : ({ d with outbox := [] } : Dev) = d := by rw [← h.outbox]
  unfold flushOut
  rw [h.outbox, List.foldl_nil]
  exact congrArg (Prod.mk m) he

/-- A quiet step leaves the part as its work left it. -/
theorem onDev_quiet {s : State} {f : List Host.Cell → Dev → Dev} (h : Quiet (f s.mem s.dev.begin_)) :
    (s.onDev f).dev = f s.mem s.dev.begin_ := by
  unfold State.onDev
  rw [settle_quiet h, flushOut_quiet h]

section
variable {i : Instr} {s : State} {f g : List Host.Cell → Dev → Dev} {e : Dev} {parts : List Part} {regs : List Nat}
  {effect : State → Prop}

/-- A step with its work `e`: what it settles, and what it leaves. A quiet work is all that the step does. -/
theorem gives_step (hx : exec i s = .next (s.onDev f)) (hf : f s.mem s.dev.begin_ = e) (ha : Alters parts regs s.dev.begin_ e)
    (hn : Reg.EVT_RING_SIZE ∉ regs) (he : ∀ t, Settled s e t → (Quiet e → t.dev = e) → effect t) :
    Gives i s fun t => effect t ∧ Leaves parts regs s t := by
  subst hf
  exact ⟨_, hx, he _ (onDev_settled s f) onDev_quiet, ha.stepLeaves hn⟩

/-- A step through a BAR that is answered (R413, R430). -/
theorem gives_bar (hx : exec i s = .next (s.onBar g)) (hb : s.dev.barOpen = true) (hg : g s.mem s.dev.begin_ = e)
    (ha : Alters parts regs s.dev.begin_ e) (hn : Reg.EVT_RING_SIZE ∉ regs)
    (he : ∀ t, Settled s e t → (Quiet e → t.dev = e) → effect t) : Gives i s fun t => effect t ∧ Leaves parts regs s t :=
  gives_step hx ((if_pos hb).trans hg) ha hn he

/-- A step through a BAR that is answered settles its work. -/
theorem settled_bar (hx : exec i s = .next (s.onBar g)) (hb : s.dev.barOpen = true) (hg : g s.mem s.dev.begin_ = e) :
    Gives i s fun t => Settled s e t := by
  have hf : (if s.dev.begin_.barOpen then g s.mem s.dev.begin_ else s.dev.begin_) = e := (if_pos hb).trans hg
  have ht := onDev_settled s fun mem d => if d.barOpen then g mem d else d
  rw [hf] at ht
  exact ⟨_, hx, ht⟩

/-- The registers that the event logic keeps need no mention among those that a step alters. -/
theorem leaves_narrow {s t : State} {alters : List Nat} (h : Leaves parts alters s t)
    (ha : ∀ a ∈ alters, a ∈ regs ∨ evtOwn a = true) : Leaves parts regs s t := by
  obtain ⟨hp, hr, hm⟩ := h
  refine ⟨hp, fun a hn he hc => hr a (fun hm => ?_) he hc, hm⟩
  rcases ha a hm with h | h
  · exact hn h
  · exact Bool.false_ne_true (he.symm.trans h)

theorem gives_narrow {alters : List Nat} (h : Gives i s fun t => effect t ∧ Leaves parts alters s t)
    (ha : ∀ a ∈ alters, a ∈ regs ∨ evtOwn a = true) : Gives i s fun t => effect t ∧ Leaves parts regs s t := by
  obtain ⟨t, hx, he, hl⟩ := h
  exact ⟨t, hx, he, leaves_narrow hl ha⟩

/-- A step that only leaves things as they were. -/
theorem gives_leaves (h : Gives i s fun t => True ∧ Leaves parts regs s t) : Gives i s fun t => Leaves parts regs s t := by
  obtain ⟨t, hx, -, hl⟩ := h
  exact ⟨t, hx, hl⟩

end

end Sys2Proof.Machine
end

section
/-! SUPPORT. What the register tables say of every register (R632, R634): where it lies, and that SAT bits and counters are apart. -/

namespace Sys2Proof.Machine

/-- A row lies at whole words, and its fields lie apart in the word. -/
def RegRow.tidy (r : RegRow) : Bool :=
  r.base % 4 == 0 && r.s1 % 4 == 0 && r.s2 % 4 == 0 && r.fields.all (fun f => decide (f.lo + f.width ≤ 32))
    && decide (r.fields.Pairwise fun f g => f.lo + f.width ≤ g.lo ∨ g.lo + g.width ≤ f.lo)

theorem all_ite {α : Type} {c : Prop} [Decidable c] {p : α → Bool} {x y : List α} (hx : x.all p = true) (hy : y.all p = true) :
    (if c then x else y).all p = true := by
  split
  · exact hx
  · exact hy

theorem regRowsAt_tidy (a : Nat) : (regRowsAt a).all RegRow.tidy = true := by
  unfold regRowsAt
  repeat refine all_ite (by decide +kernel) ?_
  rfl

theorem regRow_tidy {a : Nat} {r : RegRow} (h : regRow? a = some r) : RegRow.tidy r = true :=
  List.all_eq_true.mp (regRowsAt_tidy a) r (List.mem_of_find?_eq_some h)

/-- The fields of a register lie within the word. -/
theorem regRow_fits {a : Nat} {r : RegRow} (h : regRow? a = some r) : ∀ f ∈ r.fields, f.lo + f.width ≤ 32 := by
  have ht := regRow_tidy h
  simp only [RegRow.tidy, Bool.and_eq_true, List.all_eq_true, decide_eq_true_eq] at ht
  exact ht.1.2

/-- The fields of a register lie apart. -/
theorem regRow_apart {a : Nat} {r : RegRow} (h : regRow? a = some r) :
    r.fields.Pairwise fun f g => f.lo + f.width ≤ g.lo ∨ g.lo + g.width ≤ f.lo := by
  have ht := regRow_tidy h
  simp only [RegRow.tidy, Bool.and_eq_true, decide_eq_true_eq] at ht
  exact ht.2

/-- A register lies at a whole word. -/
theorem regRow_aligned {a : Nat} {r : RegRow} (h : regRow? a = some r) : a % 4 = 0 := by
  have ht := regRow_tidy h
  have hc := List.find?_some h
  simp only [RegRow.tidy, Bool.and_eq_true, beq_iff_eq] at ht
  obtain ⟨⟨⟨⟨hb, h1⟩, h2⟩, -⟩, -⟩ := ht
  simp only [RegRow.covers, Bool.and_eq_true, beq_iff_eq, decide_eq_true_eq] at hc
  obtain ⟨⟨⟨hle, -⟩, hx⟩, -⟩ := hc
  have hx4 : 4 ∣ (a - r.base) % r.s1 := (Nat.dvd_of_mod_eq_zero h2).trans (Nat.dvd_of_mod_eq_zero hx)
  have ho : 4 ∣ a - r.base := by
    rw [← Nat.div_add_mod (a - r.base) r.s1]
    exact Nat.dvd_add ((Nat.dvd_of_mod_eq_zero h1).mul_right _) hx4
  omega

/-! ## SAT registers (R634) -/

/-- Two counters have addresses and SAT bits of their own. -/
def CntsApart (c e : Cnt) : Prop := c.addr ≠ e.addr ∧ c.bit ≠ e.bit

theorem CntsApart.symm {c e : Cnt} (h : CntsApart c e) : CntsApart e c := ⟨h.1.symm, h.2.symm⟩

/-- The counters that the SAT register `a` serves: each has a bit of its own there and lies at an address of its own, apart from `a`
and from the registers of the event ring. -/
def Serves (a : Nat) (cs : List Cnt) : Prop :=
  (∀ c ∈ cs, c.sat = a ∧ c.bit < 32 ∧ c.addr ≠ a ∧ c.addr ≠ 0x010008 ∧ c.addr ≠ 0x010010) ∧
  cs.Pairwise CntsApart

theorem Serves.apart {a : Nat} {cs : List Cnt} (h : Serves a cs) {c e : Cnt} (hc : c ∈ cs) (he : e ∈ cs) (hn : c ≠ e) :
    CntsApart c e := by
  have : Std.Symm CntsApart := ⟨fun _ _ => CntsApart.symm⟩
  exact h.2.forall hc he hn

theorem Serves.nodup {a : Nat} {cs : List Cnt} (h : Serves a cs) : cs.Nodup := h.2.imp fun hn he => hn.1 (congrArg _ he)

theorem serves_sliceFe (i : Nat) : Serves (0x080014 + 0x1000 * i) (satSliceFe i) := by
  constructor <;> simp [CntsApart, satSliceFe, Reg.SLICE_FE_CNT_SAT, Reg.SLICE_CLAMP_CNT, Reg.SLICE_OVR_CNT]
  omega

theorem serves_sliceEm (i : Nat) : Serves (0x08003C + 0x1000 * i) (satSliceEm i) := by
  constructor <;> simp [CntsApart, satSliceEm, Reg.SLICE_EM_CNT_SAT, Reg.SLICE_EM_NOMREF_CNT, Reg.SLICE_EM_OVF_SHOT_CNT,
    Reg.SLICE_EM_XDROP_CNT, Reg.SLICE_EM_WCOERCE_CNT, Reg.SLICE_EM_ACC_LO, Reg.SLICE_EM_PRE_LO, Reg.SLICE_EM_NEAR_LO,
    Reg.SLICE_EM_WIN_LO, Reg.SLICE_EM_OVF_LO]
  omega

theorem serves_sliceBur (i : Nat) : Serves (0x080318 + 0x1000 * i) (satSliceBur i) := by
  constructor <;> simp [CntsApart, satSliceBur, Reg.SLICE_BUR_CNT_SAT, Reg.SLICE_BUR_APPLY_CNT, Reg.SLICE_BUR_DISCARD_CNT]
  omega

theorem serves_sliceKiln (i : Nat) : Serves (0x08041C + 0x1000 * i) (satSliceKiln i) := by
  constructor <;> simp [CntsApart, satSliceKiln, Reg.SLICE_KILN_CNT_SAT, Reg.SLICE_KILN_ARENA_MISS_CNT, Reg.SLICE_KILN_GLIST_DROP_CNT,
    Reg.SLICE_KILN_GOUT_CNT, Reg.SLICE_KILN_GROUP_LO, Reg.SLICE_KILN_UNM_LO, Reg.SLICE_KILN_INT_LO, Reg.SLICE_KILN_PIX_LO,
    Reg.SLICE_KILN_ECHO_LO]
  omega

theorem serves_tap (i : Nat) : Serves (0x0C0418 + 0x20 * i) (satTap i) := by
  constructor <;> simp [CntsApart, satTap, Reg.TAP_T_CNT_SAT, Reg.TAP_T_OVF_CNT, Reg.TAP_T_SKIP_CNT, Reg.TAP_T_CLIP_CNT]
  omega

theorem serves_rows0 : ∀ x ∈ satRows0, Serves x.1 x.2 := by unfold Serves CntsApart; decide +kernel

theorem satCounters_serves {a : Nat} {cs : List Cnt} (h : satCounters a = some cs) : Serves a cs := by
  unfold satCounters at h
  split at h
  · cases h; subst a; unfold Serves CntsApart; decide +kernel
  split at h
  · cases h; subst a; unfold Serves CntsApart; decide +kernel
  split at h
  · dsimp only at h
    generalize hs : (a - 0x080000) / 0x1000 = i at h
    split at h
    · cases h; convert serves_sliceFe i using 1; omega
    split at h
    · cases h; convert serves_sliceEm i using 1; omega
    split at h
    · cases h; convert serves_sliceBur i using 1; omega
    split at h
    · cases h; convert serves_sliceKiln i using 1; omega
    · cases h
  split at h
  · split at h
    · cases h; convert serves_tap ((a - 0x0C0400) / 0x20) using 1; omega
    · cases h
  · obtain ⟨x, hx, rfl⟩ := Option.map_eq_some_iff.mp h
    have ha := List.find?_some hx
    rw [beq_iff_eq] at ha
    exact ha ▸ serves_rows0 x (List.mem_of_find?_eq_some hx)

end Sys2Proof.Machine
end

section
/-! SUPPORT. Writes that clear bits and reads that change something (R11, R611, R614, R623, R624), over an open BAR. -/

namespace Sys2Proof.Machine

/-! ## What work on 64-bit values and counters alters -/

section
variable {parts : List Part} {regs : List Nat}

theorem Alters.putWide {x y : Dev} (h : Alters parts regs x y) (lo v : Nat) (hp : .wide ∈ parts) (hl : lo ≠ Reg.EVT_RING_BASE_LO) :
    Alters parts regs x (y.putWide lo v) := by
  refine h.trans ⟨fun p hn => ?_, fun _ _ => rfl, rfl, rfl, ?_, [], (List.append_nil _).symm⟩
  · cases p
    case wide => exact absurd hp hn
    all_goals rfl
  · rw [Dev.wide64_putWide, if_neg hl.symm]

theorem Alters.setCnt {x y : Dev} (h : Alters parts regs x y) (c : Cnt) (v : Nat) (ha : c.addr ∈ regs) (hp : .wide ∈ parts)
    (hl : c.addr ≠ Reg.EVT_RING_BASE_LO) : Alters parts regs x (y.setCnt c v) := by
  unfold Dev.setCnt
  exact .ite (fun _ => h.putWide _ _ hp hl) (fun _ => h.put _ _ ha)

theorem Alters.foldlMem {α : Type} {f : Dev → α → Dev} (l : List α) (hf : ∀ y, ∀ a ∈ l, Alters parts regs y (f y a)) :
    ∀ {x y : Dev}, Alters parts regs x y → Alters parts regs x (l.foldl f y) := by
  induction l with
  | nil => exact fun h => h
  | cons a l ih =>
    intro x y h
    exact ih (fun y b hb => hf y b (List.mem_cons_of_mem a hb)) (h.trans (hf y a List.mem_cons_self))

end

/-! ## SAT bits (R614) -/

theorem Dev.cnt_setCnt_ne (d : Dev) (c e : Cnt) (v : Nat) (h : e.addr ≠ c.addr) : (d.setCnt c v).cnt e = d.cnt e := by
  unfold Dev.setCnt Dev.cnt
  cases c.wide
  · simp only [Bool.false_eq_true, if_false, Dev.reg_put_ne d _ _ _ h]; rfl
  · simp only [if_true, Dev.wide64_putWide, if_neg h, Dev.reg_putWide]

theorem Dev.reg_setCnt_ne (d : Dev) (c : Cnt) (v a : Nat) (h : a ≠ c.addr) : (d.setCnt c v).reg a = d.reg a := by
  unfold Dev.setCnt
  split
  · rfl
  · exact Dev.reg_put_ne d _ _ _ h

theorem Dev.cnt_setBit_ne (d : Dev) (c : Cnt) (a n : Nat) (b : Bool) (h : c.addr ≠ a) : (d.setBit a n b).cnt c = d.cnt c :=
  Dev.cnt_congr c (Dev.reg_setBit_ne d a n b _ h) rfl

/-- A counter becomes zero, and its SAT bit clears. -/
def Dev.clearCnt (d : Dev) (c : Cnt) : Dev := (d.setCnt c 0).setBit c.sat c.bit false

theorem clearSat_eq (d : Dev) (cs : List Cnt) (v : Word) :
    d.clearSat cs v = (cs.filter fun c => bitAt v.toNat c.bit && d.bit c.sat c.bit).foldl Dev.clearCnt d := rfl

/-- A counter with its SAT bit reads alike in two parts. -/
def CntSame (c : Cnt) (x y : Dev) : Prop := y.cnt c = x.cnt c ∧ y.bit c.sat c.bit = x.bit c.sat c.bit

/-- A counter is zero, and its SAT bit is clear. -/
def CntClear (c : Cnt) (x : Dev) : Prop := x.cnt c = 0 ∧ x.bit c.sat c.bit = false

theorem clearCnt_clear {a : Nat} (d : Dev) {c : Cnt} (hs : c.sat = a) (hb : c.bit < 32) (ha : c.addr ≠ a) :
    CntClear c (d.clearCnt c) := by
  subst hs
  exact ⟨(Dev.cnt_setBit_ne _ c _ _ _ ha).trans (Dev.cnt_setCnt d c 0 (Nat.zero_le _)), Dev.bit_setBit_self _ _ _ _ hb⟩

theorem clearCnt_same {a : Nat} (d : Dev) {c e : Cnt} (hs : c.sat = a) (hb : c.bit < 32) (ha : c.addr ≠ a) (hes : e.sat = a)
    (hea : e.addr ≠ a) (hn : CntsApart e c) : CntSame e d (d.clearCnt c) := by
  subst hs
  refine ⟨(Dev.cnt_setBit_ne _ e _ _ _ hea).trans (Dev.cnt_setCnt_ne d c e 0 hn.1), ?_⟩
  show ((d.setCnt c 0).setBit c.sat c.bit false).bit e.sat e.bit = _
  rw [Dev.bit_setBit _ _ _ _ _ _ hb, if_neg fun h => hn.2 h.2]
  unfold Dev.bit
  rw [Dev.reg_setCnt_ne d c 0 _ (hes ▸ ha.symm)]

theorem CntSame.clear {c : Cnt} {x y : Dev} (h : CntSame c x y) (hc : CntClear c x) : CntClear c y := ⟨h.1.trans hc.1, h.2.trans hc.2⟩

/-- Clearing some of the counters of a SAT register clears those, and leaves every other as it was. -/
theorem foldl_clearCnt {a : Nat} {cs l : List Cnt} (hs : Serves a cs) (hl : l ⊆ cs) (hnd : l.Nodup) (d : Dev) :
    (∀ c ∈ l, CntClear c (l.foldl Dev.clearCnt d)) ∧ ∀ c ∈ cs, c ∉ l → CntSame c d (l.foldl Dev.clearCnt d) := by
  induction l generalizing d with
  | nil => exact ⟨fun c hc => absurd hc List.not_mem_nil, fun _ _ _ => ⟨rfl, rfl⟩⟩
  | cons c l ih =>
    obtain ⟨hc, hl⟩ := List.cons_subset.mp hl
    obtain ⟨hcl, hnd⟩ := List.nodup_cons.mp hnd
    obtain ⟨hsat, hbit, haddr, -⟩ := hs.1 c hc
    obtain ⟨hclear, hsame⟩ := ih hl hnd (d.clearCnt c)
    refine ⟨fun e he => ?_, fun e he hel => ?_⟩
    · rcases List.mem_cons.mp he with rfl | he
      · exact (hsame e hc hcl).clear (clearCnt_clear d hsat hbit haddr)
      · exact hclear e he
    · obtain ⟨hec, hel⟩ := not_or.mp (mt List.mem_cons.mpr hel)
      obtain ⟨hesat, -, headdr, -⟩ := hs.1 e he
      have h1 := clearCnt_same d hsat hbit haddr hesat headdr (hs.apart he hc hec)
      have h2 := hsame e he hel
      exact ⟨h2.1.trans h1.1, h2.2.trans h1.2⟩

theorem alters_clearSat {a : Nat} {cs : List Cnt} (hs : Serves a cs) (d : Dev) (v : Word) :
    Alters [.wide] (a :: cs.map (·.addr)) d (d.clearSat cs v) := by
  refine Alters.foldlMem _ (fun y c hc => ?_) (.refl d)
  have hc := List.mem_of_mem_filter hc
  obtain ⟨hsat, -, -, hbase, -⟩ := hs.1 c hc
  exact ((Alters.refl y).setCnt c 0 (List.mem_cons_of_mem _ (List.mem_map_of_mem hc)) (List.mem_singleton.mpr rfl) hbase).setBit _ _ _
    (hsat ▸ List.mem_cons_self)

theorem Quiet.clearSat {d : Dev} (h : Quiet d) (cs : List Cnt) (v : Word) : Quiet (d.clearSat cs v) := by
  rw [clearSat_eq]
  generalize cs.filter _ = l
  induction l generalizing d with
  | nil => exact h
  | cons c l ih =>
    refine ih (d := d.clearCnt c) ⟨?_, ?_⟩
    · show (d.setCnt c 0).evt.raised = []
      rw [Dev.setCnt_evt, h.raised]
    · show (d.setCnt c 0).outbox = []
      rw [Dev.setCnt_outbox, h.outbox]

/-- A W1C write of a SAT register: each counter whose set SAT bit is written 1 becomes zero with its bit, and no other changes (R614). -/
theorem gives_satBitClear {s : State} (hb : s.dev.barOpen = true) {a : Nat} {cs : List Cnt} (v : Word) (h : satCounters a = some cs) :
    Gives (.satBitClear a v) s fun t =>
      ((∀ c ∈ cs, bitAt v.toNat c.bit = true → s.dev.bit c.sat c.bit = true → CntClear c t.dev) ∧
        ∀ c ∈ cs, (bitAt v.toNat c.bit = false ∨ s.dev.bit c.sat c.bit = false) → CntSame c s.dev t.dev) ∧
      Leaves [.wide] (a :: cs.map (·.addr)) s t := by
  have hs := satCounters_serves h
  have hn : Reg.EVT_RING_SIZE ∉ a :: cs.map (·.addr) := by
    intro hm
    rcases List.mem_cons.mp hm with ha | hm
    · rw [← ha] at h; exact absurd (h.symm.trans (by decide : satCounters Reg.EVT_RING_SIZE = none)) (Option.some_ne_none _)
    · obtain ⟨c, hc, he⟩ := List.mem_map.mp hm
      exact (hs.1 c hc).2.2.2.2 he
  refine gives_bar rfl hb (e := s.dev.begin_.clearSat cs v) (by rw [h]) (alters_clearSat hs _ v) hn fun t _ hq => ?_
  rw [hq ((quiet_begin _).clearSat cs v), clearSat_eq]
  obtain ⟨hclear, hsame⟩ := foldl_clearCnt hs (l := cs.filter fun c => bitAt v.toNat c.bit && s.dev.begin_.bit c.sat c.bit)
    (List.filter_subset_self _) (hs.nodup.filter _) s.dev.begin_
  refine ⟨fun c hc hv hbit => hclear c (List.mem_filter.mpr ⟨hc, ?_⟩), fun c hc hv => hsame c hc fun hm => ?_⟩
  · exact Bool.and_eq_true_iff.mpr ⟨hv, hbit⟩
  · obtain ⟨h1, h2⟩ := Bool.and_eq_true_iff.mp (List.mem_filter.mp hm).2
    rcases hv with hv | hv
    · exact Bool.false_ne_true (hv.symm.trans h1)
    · exact Bool.false_ne_true (hv.symm.trans h2)

/-! ## Words of pending events and sticky bits (R611, R623) -/

theorem gives_evtPendClear {s : State} (hb : s.dev.barOpen = true) (word : Fin 20) (v : Word) : Gives (.evtPendClear word v) s fun t =>
    t.dev.reg (Reg.EVT_PEND word.val) = s.dev.reg (Reg.EVT_PEND word.val) &&& ~~~v ∧ Leaves [] [] s t := by
  have hown : evtOwn (Reg.EVT_PEND word.val) = true := by
    have := word.isLt
    simp only [evtOwn, Reg.EVT_PEND, decide_eq_true_eq]
    omega
  refine gives_narrow (gives_bar (e := s.dev.begin_.put (Reg.EVT_PEND word.val) _) (regs := [Reg.EVT_PEND word.val]) rfl hb rfl
    ((Alters.refl _).put _ _ (List.mem_singleton_self _)) (fun hm => ?_) fun t _ hq => ?_)
    fun a ha => .inr (List.mem_singleton.mp ha ▸ hown)
  · rw [← List.mem_singleton.mp hm] at hown
    exact absurd hown (by decide)
  · rw [hq ((quiet_begin _).put _ _), Dev.reg_put_self]
    rfl

/-- No register of the event ring's size holds sticky bits. -/
theorem stickyReg_ne_ringSize {a : Nat} {r : RegRow} (h : regRow? a = some r) (hk : stickyReg a r = true) :
    Reg.EVT_RING_SIZE ∉ [a] := by
  intro hm
  obtain rfl := List.mem_singleton.mp hm
  have : (regRow? Reg.EVT_RING_SIZE).all fun r => !stickyReg Reg.EVT_RING_SIZE r := by decide +kernel
  rw [h, Option.all_some, hk] at this
  cases this

theorem gives_stickyBitClear {s : State} (hb : s.dev.barOpen = true) {a : Nat} {r : RegRow} (v : Word) (h : regRow? a = some r)
    (hk : stickyReg a r = true) : Gives (.stickyBitClear a v) s fun t =>
      t.dev.reg a = s.dev.reg a &&& ~~~(v &&& w1cMask r.fields) ∧ Leaves [] [a] s t := by
  refine gives_bar (e := s.dev.begin_.clearBits a r.fields v) rfl hb (by simp only [h, hk, if_true])
    ((Alters.refl _).put a _ (List.mem_singleton_self a)) (stickyReg_ne_ringSize h hk) fun t _ hq => ?_
  rw [hq ((quiet_begin _).put _ _)]
  exact Dev.reg_put_self _ _ _

/-! ## Reads (R11, R624) -/

theorem alters_returned (d : Dev) (v : Word) (regs : List Nat) : Alters [.host] regs d (d.returned v) := by
  refine (Alters.refl d).direct (fun p hp => ?_) rfl rfl rfl rfl rfl
  cases p
  case host => exact absurd List.mem_cons_self hp
  all_goals rfl

theorem Quiet.returned {d : Dev} (h : Quiet d) (v : Word) : Quiet (d.returned v) := ⟨h.raised, h.outbox⟩

theorem gives_pairLoRead {s : State} (hb : s.dev.barOpen = true) {a : Nat} {r : RegRow} (h : regRow? a = some r) (hl : r.half = .lo) :
    Gives (.pairLoRead a) s fun t => (t.dev.host.regRead = BitVec.ofNat 32 (s.dev.view64 a) ∧
      t.dev.reg (a + 4) = BitVec.ofNat 32 (s.dev.view64 a / 2 ^ 32)) ∧ Leaves [.host] [a + 4] s t := by
  have hn : Reg.EVT_RING_SIZE ∉ [a + 4] := by
    intro hm
    have hm := List.mem_singleton.mp hm
    obtain rfl : a = 0x01000C := by simp only [Reg.EVT_RING_SIZE] at hm; omega
    have : (regRow? 0x01000C).all fun r => r.half != .lo := by decide +kernel
    rw [h, Option.all_some, hl] at this
    cases this
  refine gives_bar (e := s.dev.begin_.readLo a) rfl hb (by simp [h, hl])
    (((Alters.refl _).put (a + 4) _ (List.mem_singleton_self _)).trans (alters_returned _ _ _)) hn fun t _ hq => ?_
  rw [hq (((quiet_begin _).put _ _).returned _)]
  exact ⟨rfl, Dev.reg_put_self _ _ _⟩

/-- Fields of a word set to zero, one after the other. -/
def clearFields (fs : List FieldRow) (w : Word) : Word := fs.foldl (fun w f => withField w f.lo f.width 0) w

theorem field_clearFields_apart {fs : List FieldRow} {g : FieldRow} (hf : ∀ f ∈ fs, f.lo + f.width ≤ 32)
    (ha : ∀ f ∈ fs, g.lo + g.width ≤ f.lo ∨ f.lo + f.width ≤ g.lo) (w : Word) :
    field (clearFields fs w) g.lo g.width = field w g.lo g.width := by
  induction fs generalizing w with
  | nil => rfl
  | cons f fs ih =>
    obtain ⟨hf1, hf⟩ := List.forall_mem_cons.mp hf
    obtain ⟨ha1, ha⟩ := List.forall_mem_cons.mp ha
    exact (ih hf ha _).trans (field_withField_apart w f.lo f.width 0 _ _ hf1 ha1)

/-- Fields that lie apart in the word read zero when all have been cleared. -/
theorem field_clearFields {fs : List FieldRow} (hf : ∀ f ∈ fs, f.lo + f.width ≤ 32)
    (hp : fs.Pairwise fun f g => f.lo + f.width ≤ g.lo ∨ g.lo + g.width ≤ f.lo) (w : Word) :
    ∀ f ∈ fs, field (clearFields fs w) f.lo f.width = 0 := by
  induction fs generalizing w with
  | nil => exact fun f h => absurd h List.not_mem_nil
  | cons f fs ih =>
    obtain ⟨hf1, hf⟩ := List.forall_mem_cons.mp hf
    obtain ⟨hp1, hp⟩ := List.pairwise_cons.mp hp
    refine List.forall_mem_cons.mpr ⟨?_, ih hf hp _⟩
    calc field (clearFields fs (withField w f.lo f.width 0)) f.lo f.width
        = field (withField w f.lo f.width 0) f.lo f.width := field_clearFields_apart hf hp1 _
      _ = 0 := by rw [field_withField w _ _ 0 hf1, Nat.zero_mod]

/-- The queue levels of the channels, whose RC field stands in the channel (R124). -/
def emChReg (a : Nat) : Prop := Reg.SLICE_EM_CH 0 0 ≤ a ∧ a < 0x0C0000 ∧ 0x200 ≤ a % 0x1000 ∧ a % 0x1000 < 0x220

theorem emChReg_iff {a : Nat} (ha : a % 4 = 0) : emChReg a ↔ ∃ sl ch, sl < 64 ∧ ch < 8 ∧ a = Reg.SLICE_EM_CH sl ch := by
  unfold emChReg
  constructor
  · rintro ⟨h1, h2, h3, h4⟩
    refine ⟨(a - 0x080000) / 0x1000, (a % 0x1000 - 0x200) / 4, ?_, ?_, ?_⟩ <;> simp only [Reg.SLICE_EM_CH] at * <;> omega
  · rintro ⟨sl, ch, h1, h2, rfl⟩
    simp only [Reg.SLICE_EM_CH]
    omega

theorem emCh_slice {sl ch : Nat} (hc : ch < 8) : (Reg.SLICE_EM_CH sl ch - 0x080000) / 0x1000 = sl := by
  dsimp only [Reg.SLICE_EM_CH]; omega

theorem emCh_channel {sl ch : Nat} (hc : ch < 8) : (Reg.SLICE_EM_CH sl ch % 0x1000 - 0x200) / 4 = ch := by
  dsimp only [Reg.SLICE_EM_CH]; omega

theorem clearRc_channel (d : Dev) (fs : List FieldRow) {sl ch : Nat} (hs : sl < 64) (hc : ch < 8) :
    d.clearRc (Reg.SLICE_EM_CH sl ch) fs = d.setChan (8 * sl + ch) { d.chan (8 * sl + ch) with hwm := 0 } := by
  have h4 : Reg.SLICE_EM_CH sl ch % 4 = 0 := by simp only [Reg.SLICE_EM_CH]; omega
  have he : emChReg (Reg.SLICE_EM_CH sl ch) := (emChReg_iff h4).mpr ⟨sl, ch, hs, hc, rfl⟩
  refine (if_pos he).trans ?_
  rw [emCh_slice hc, emCh_channel hc]

theorem clearRc_word (d : Dev) {a : Nat} (fs : List FieldRow) (h : ¬emChReg a) :
    d.clearRc a fs = d.put a (clearFields (fs.filter (·.acc == .rc)) (d.reg a)) := if_neg h

theorem chan_setChan (d : Dev) (n : Nat) (x : ChanSt) : (d.setChan n x).chan n = x := sget_sset_self _ _ _ _

theorem alters_setChan (d : Dev) (n : Nat) (x : ChanSt) (regs : List Nat) : Alters [.chans] regs d (d.setChan n x) := by
  refine (Alters.refl d).direct (fun p hp => ?_) rfl rfl rfl rfl rfl
  cases p
  case chans => exact absurd List.mem_cons_self hp
  all_goals rfl

/-- A read of RC fields clears them: a channel's own, or those of the word (R11). -/
theorem gives_rcFieldRead {s : State} (hb : s.dev.barOpen = true) {a : Nat} {r : RegRow} (h : regRow? a = some r)
    (hr : r.fields.any (·.acc == .rc) = true) : Gives (.rcFieldRead a) s fun t => (t.dev.host.regRead = s.dev.view a ∧
      (∀ sl ch, sl < 64 → ch < 8 → a = Reg.SLICE_EM_CH sl ch → (t.dev.chan (8 * sl + ch)).hwm = 0) ∧
      ((∀ sl ch, sl < 64 → ch < 8 → a ≠ Reg.SLICE_EM_CH sl ch) →
        ∀ f ∈ r.fields, f.acc = .rc → field (t.dev.reg a) f.lo f.width = 0)) ∧
      Leaves [.host, .chans] [a] s t := by
  have hn : Reg.EVT_RING_SIZE ∉ [a] := by
    intro hm
    obtain rfl := List.mem_singleton.mp hm
    have : (regRow? Reg.EVT_RING_SIZE).all fun r => !r.fields.any (·.acc == .rc) := by decide +kernel
    rw [h, Option.all_some, hr] at this
    cases this
  have hiff := emChReg_iff (regRow_aligned h)
  have hwork : (match regRow? a with
    | some r => if r.fields.any (·.acc == .rc) then (s.dev.begin_.returned (s.dev.begin_.view a)).clearRc a r.fields else s.dev.begin_
    | none => s.dev.begin_) = (s.dev.begin_.returned (s.dev.view a)).clearRc a r.fields := by
    rw [h]; exact if_pos hr
  have hret : Alters [.host, .chans] [a] s.dev.begin_ (s.dev.begin_.returned (s.dev.view a)) :=
    (alters_returned _ _ [a]).mono (by simp) (fun _ h => h)
  by_cases he : emChReg a
  · obtain ⟨sl, ch, hs, hc, rfl⟩ := hiff.mp he
    rw [clearRc_channel _ _ hs hc] at hwork
    refine gives_bar rfl hb hwork (hret.trans ((alters_setChan _ _ _ _).mono (by simp) fun _ h => h)) hn fun t _ hq => ?_
    rw [hq ⟨rfl, rfl⟩]
    refine ⟨rfl, fun sl' ch' hs' hc' he' => ?_, fun h => absurd rfl (h sl ch hs hc)⟩
    have hi : 8 * sl' + ch' = 8 * sl + ch := by simp only [Reg.SLICE_EM_CH] at he'; omega
    rw [hi, chan_setChan]
  · rw [clearRc_word _ _ he] at hwork
    refine gives_bar rfl hb hwork (hret.put _ _ (List.mem_singleton_self a)) hn fun t _ hq => ?_
    rw [hq ⟨rfl, rfl⟩, Dev.reg_put_self]
    refine ⟨rfl, fun sl ch hs hc ha => absurd (hiff.mpr ⟨sl, ch, hs, hc, ha⟩) he, fun _ f hf hacc => ?_⟩
    exact field_clearFields (fun g hg => regRow_fits h g (List.mem_of_mem_filter hg)) ((regRow_apart h).filter _) _ f
      (List.mem_filter.mpr ⟨hf, beq_iff_eq.mpr hacc⟩)

end Sys2Proof.Machine
end

section
/-! SUPPORT. Register writes through BAR0 (R413, R620, R622, R624): accesses of another size, reserved offsets, plain registers and
pairs. -/

namespace Sys2Proof.Machine

section
variable {s : State} {a size : Nat} {v : Wide} {e : Dev} {parts : List Part} {regs : List Nat} {effect : State → Prop}

theorem gives_bar0 (hb : s.dev.barOpen = true) (hw : s.dev.begin_.writeBar 0x200000 a size v Dev.write0 = e)
    (ha : Alters parts regs s.dev.begin_ e) (hn : Reg.EVT_RING_SIZE ∉ regs)
    (he : ∀ t, Settled s e t → (Quiet e → t.dev = e) → effect t) :
    Gives (.registerWrite (.bar0 a) size v) s fun t => effect t ∧ Leaves parts regs s t :=
  gives_step (f := fun mem d => d.writeAny (.bar0 a) size v mem) rfl ((if_pos hb).trans hw) ha hn he

end

theorem writeBar_word {d : Dev} {a : Nat} {v : Wide} {one : Dev → Nat → Word → Dev} (ht : a < 0x200000) (ha : a % 4 = 0) :
    d.writeBar 0x200000 a 4 v one = one d a (BitVec.ofNat 32 v.toNat) := by
  unfold Dev.writeBar
  rw [if_neg (by omega), if_pos ⟨.inl rfl, ha⟩]
  rfl

theorem writeBar_pair {d : Dev} {a : Nat} {v : Wide} {one : Dev → Nat → Word → Dev} (ht : a < 0x200000) (ha : a % 8 = 0) :
    d.writeBar 0x200000 a 8 v one =
      one (one d a (BitVec.ofNat 32 v.toNat)) (a + 4) (BitVec.ofNat 32 (v.toNat / 2 ^ 32)) := by
  unfold Dev.writeBar
  rw [if_neg (by omega), if_pos ⟨.inr rfl, ha⟩]
  rfl

/-- An access of another size, or not aligned, is counted (R413). -/
theorem gives_badAccess {s : State} (hb : s.dev.barOpen = true) {a size : Nat} (v : Wide) (ht : a < 0x200000)
    (hbad : ¬((size = 4 ∨ size = 8) ∧ a % size = 0)) : Gives (.registerWrite (.bar0 a) size v) s fun t =>
      Counts C.GLB_BAD_ACCESS_CNT 1 s t ∧ Leaves [] [Reg.GLB_BAD_ACCESS_CNT, C.GLB_BAD_ACCESS_CNT.sat] s t := by
  have hw : s.dev.begin_.writeBar 0x200000 a size v Dev.write0 = s.dev.begin_.bump C.GLB_BAD_ACCESS_CNT := by
    unfold Dev.writeBar
    rw [if_neg (by omega), if_neg hbad]
  refine gives_bar0 hb hw ((Alters.refl _).bump _ (by decide) (by decide) rfl) (by decide) fun t ht _ => ?_
  exact (ht.cnt _ rfl rfl).trans (Dev.cnt_bumpBy _ _ 1 (by decide))

/-- A reserved offset ignores a write (R620). -/
theorem gives_reserved {s : State} (hb : s.dev.barOpen = true) {a : Nat} (v : Wide) (ha : a % 4 = 0) (hs : satCounters a = none)
    (hr : regRow? a = none) : Gives (.registerWrite (.bar0 a) 4 v) s fun t => Leaves [] [] s t := by
  have hw : s.dev.begin_.writeBar 0x200000 a 4 v Dev.write0 = s.dev.begin_ := by
    by_cases ht : a < 0x200000
    · rw [writeBar_word ht ha]
      unfold Dev.write0
      rw [hs, hr]
    · exact if_pos (by omega)
  exact gives_leaves (gives_bar0 hb hw (.refl _) List.not_mem_nil fun _ _ _ => trivial)

/-! ## Plain registers (R622) -/

/-- The bases, sizes and depths of rings, which an enabled ring keeps (R327, R435, R618). -/
def ringRegs : List Nat :=
  ((List.range 3).flatMap fun n => [Reg.ING_S_BASE_LO n, Reg.ING_S_BASE_HI n, Reg.ING_S_SIZE n]) ++
  ((List.range 16).flatMap fun q =>
    [Reg.CMDQ_Q_SQ_BASE_LO q, Reg.CMDQ_Q_SQ_BASE_HI q, Reg.CMDQ_Q_CQ_BASE_LO q, Reg.CMDQ_Q_CQ_BASE_HI q]) ++
  [Reg.EVT_RING_BASE_LO, Reg.EVT_RING_BASE_HI, Reg.EVT_RING_SIZE]

theorem ringLocked_of_not_mem (d : Dev) {a : Nat} (h : a ∉ ringRegs) : d.ringLocked a = false := by
  by_contra hl
  refine h ?_
  unfold Dev.ringLocked at hl
  simp only [Bool.not_eq_false, Bool.or_eq_true, List.any_eq_true, Bool.and_eq_true, beq_iff_eq] at hl
  simp only [ringRegs, List.mem_append, List.mem_flatMap, List.mem_cons, List.not_mem_nil, or_false]
  rcases hl with (⟨n, hn, -, h⟩ | ⟨q, hq, -, h⟩) | ⟨-, h⟩
  · exact .inl (.inl ⟨n, hn, or_assoc.mp h⟩)
  · refine .inl (.inr ⟨q, hq, ?_⟩)
    rw [or_assoc, or_assoc] at h
    exact h
  · exact .inr (or_assoc.mp h)

/-- Registers whose write does something of its own, with no index. -/
abbrev actingRegs : List Nat :=
  [Reg.CMDQ_DECLARE, Reg.EVT_CTL, Reg.EVT_RING_RD, Reg.TURF_RD_IDX, Reg.GLB_APERTURE, Reg.THM_CTL]

/-- A register whose fields take a write, with no action of its own: no SAT or sticky bits, no half of a pair, none that a ring locks. -/
structure FieldsReg (a : Nat) (r : RegRow) : Prop where
  inside : a < 0x200000
  noSat : satCounters a = none
  noSticky : stickyReg a r = false
  single : r.half = .none
  writable : r.fields.any (·.acc == .rw) = true
  noRing : a ∉ ringRegs
  noAction : a ∉ actingRegs
  noQueue : ¬(Reg.CMDQ_Q_CTL 0 ≤ a ∧ a < Reg.CMDQ_Q_CTL 16 ∧ a % 0x20 = 0)
  noStream : ¬(Reg.ING_S_CTL 0 ≤ a ∧ a < Reg.ING_S_CTL 3)
  noRegion : ¬(Reg.TAP_REQ_ROWS 0 ≤ a ∧ a < Reg.TAP_REQ_ROWS 16)
  noChain : ¬(Reg.HK_CHAIN_CFG 0 ≤ a ∧ a < Reg.HK_CHAIN_CFG 4)

/-- The check of `FieldsReg` on a row of the tables. -/
def fieldsReg (a : Nat) (r : RegRow) : Bool :=
  decide (a < 0x200000 ∧ satCounters a = none ∧ stickyReg a r = false ∧ r.half = .none ∧ r.fields.any (·.acc == .rw) = true ∧
    a ∉ ringRegs ∧ a ∉ actingRegs ∧ ¬(Reg.CMDQ_Q_CTL 0 ≤ a ∧ a < Reg.CMDQ_Q_CTL 16 ∧ a % 0x20 = 0) ∧
    ¬(Reg.ING_S_CTL 0 ≤ a ∧ a < Reg.ING_S_CTL 3) ∧ ¬(Reg.TAP_REQ_ROWS 0 ≤ a ∧ a < Reg.TAP_REQ_ROWS 16) ∧
    ¬(Reg.HK_CHAIN_CFG 0 ≤ a ∧ a < Reg.HK_CHAIN_CFG 4))

theorem fieldsReg_sound {a : Nat} {r : RegRow} (h : fieldsReg a r = true) : FieldsReg a r := by
  obtain ⟨h1, h2, h3, h4, h5, h6, h7, h8, h9, h10, h11⟩ := of_decide_eq_true h
  exact ⟨h1, h2, h3, h4, h5, h6, h7, h8, h9, h10, h11⟩

theorem writeReg_fields {a : Nat} {r : RegRow} (h : regRow? a = some r) (hf : FieldsReg a r) (d : Dev) (v : Word) :
    d.writeReg a v = d.writeFields a v := by
  have hact := hf.noAction
  simp only [List.mem_cons, List.not_mem_nil, or_false, not_or] at hact
  obtain ⟨hdecl, hctl, hrd, hidx, hap, hthm⟩ := hact
  have h1 : ¬(Reg.ING_S_CTL 0 ≤ a ∧ a < Reg.ING_S_CTL 3 ∧ a % 0x40 = 0) := fun h => hf.noStream ⟨h.1, h.2.1⟩
  have h2 : ¬(Reg.ING_S_CTL 0 ≤ a ∧ a < Reg.ING_S_CTL 3 ∧ a % 0x40 = 0x18) := fun h => hf.noStream ⟨h.1, h.2.1⟩
  unfold Dev.writeReg
  rw [h]
  simp only [ringLocked_of_not_mem d hf.noRing, hf.single, hf.writable, hdecl, hf.noQueue, hctl, hrd, hidx, hap, hthm, h1, h2, hf.noRegion,
    hf.noChain, false_and, if_false, if_true, Bool.false_eq_true, reduceCtorEq]

theorem write0_fields {a : Nat} {r : RegRow} (h : regRow? a = some r) (hf : FieldsReg a r) (d : Dev) (v : Word) :
    d.write0 a v = d.writeFields a v := by
  unfold Dev.write0
  rw [hf.noSat, h]
  simp only [hf.noSticky, Bool.false_eq_true, if_false]
  exact writeReg_fields h hf d v

/-- A register whose write brings nothing about beyond its fields: none whose change waits, and no control of a unit that follows it. -/
def plainReg (a : Nat) : Bool :=
  !chCfgReg a && !heldReg a && decide (a ∉ [Reg.BLW_CTL, Reg.PEER_CTL, Reg.ING_CTL, Reg.TIME_CTL, Reg.HK_CTL, Reg.THM_CTL, Reg.PWR_CTL])
    && decide (¬(Reg.HK_CHAIN_CFG 0 ≤ a ∧ a < Reg.HK_CHAIN_CFG 8))
    && decide (¬(Reg.HK_SENSE_CFG 0 ≤ a ∧ a < Reg.HK_SENSE_CFG 32))

theorem writeFields_plain {a : Nat} (hp : plainReg a = true) (d : Dev) (v : Word) :
    d.writeFields a v = (d.merge a v).2.put a (d.merge a v).1 := by
  simp only [plainReg, Bool.and_eq_true, decide_eq_true_eq, Bool.not_eq_true', List.mem_cons, List.not_mem_nil, or_false, not_or] at hp
  obtain ⟨⟨⟨⟨hcfg, hheld⟩, hblw, hpeer, hing, htime, hhk, hthm, hpwr⟩, hchain⟩, hsense⟩ := hp
  unfold Dev.writeFields Dev.settleWrite
  simp only [hcfg, hheld, hblw, hpeer, hing, htime, hhk, hthm, hpwr, hchain, hsense, if_false, Bool.false_eq_true]

/-- A field out of range is counted, and nothing else (R622). -/
def Dev.noteBad (d : Dev) (n : Nat) : Dev := if n = 0 then d else d.bumpBy C.GLB_BAD_VALUE_CNT n

theorem merge_eq {a : Nat} {r : RegRow} (h : regRow? a = some r) (d : Dev) (v : Word) :
    d.merge a v = ((mergeFields r.fields (d.reg a) v).1, d.noteBad (mergeFields r.fields (d.reg a) v).2) := by
  unfold Dev.merge
  rw [h]
  rfl

theorem alters_noteBad (d : Dev) (n : Nat) : Alters [] [Reg.GLB_BAD_VALUE_CNT, C.GLB_BAD_VALUE_CNT.sat] d (d.noteBad n) :=
  .ite (fun _ => .refl d) (fun _ => (Alters.refl d).bumpBy _ _ (by decide) (by decide) rfl)

theorem cnt_noteBad (d : Dev) (n : Nat) :
    (d.noteBad n).cnt C.GLB_BAD_VALUE_CNT = min (cntTop C.GLB_BAD_VALUE_CNT) (d.cnt C.GLB_BAD_VALUE_CNT + n) := by
  unfold Dev.noteBad
  split
  · subst n
    have hlt : (d.reg Reg.GLB_BAD_VALUE_CNT).toNat < 2 ^ 32 := BitVec.isLt _
    exact (Nat.min_eq_right (by show (d.reg Reg.GLB_BAD_VALUE_CNT).toNat ≤ 2 ^ 32 - 1; omega)).symm
  · exact Dev.cnt_bumpBy d _ n (by decide)

/-- A plain register takes a write within the ranges of its fields; the fields out of range are counted (R622). -/
theorem gives_plain {s : State} (hb : s.dev.barOpen = true) {a : Nat} {r : RegRow} (v : Wide) (h : regRow? a = some r)
    (hf : FieldsReg a r) (hp : plainReg a = true) (ho : evtOwn a = false) (hq : cmdqOwn a = false)
    (hn : a ∉ [Reg.EVT_RING_SIZE, Reg.GLB_BAD_VALUE_CNT, C.GLB_BAD_VALUE_CNT.sat]) :
    let m := mergeFields r.fields (s.dev.reg a) (BitVec.ofNat 32 v.toNat)
    Gives (.registerWrite (.bar0 a) 4 v) s fun t => (t.dev.reg a = m.1 ∧ Counts C.GLB_BAD_VALUE_CNT m.2 s t) ∧
      Leaves [] [a, Reg.GLB_BAD_VALUE_CNT, C.GLB_BAD_VALUE_CNT.sat] s t := by
  intro m
  simp only [List.mem_cons, List.not_mem_nil, or_false, not_or] at hn
  obtain ⟨hsize, hcnt, hsat⟩ := hn
  have hw : s.dev.begin_.writeBar 0x200000 a 4 v Dev.write0 = (s.dev.begin_.noteBad m.2).put a m.1 := by
    rw [writeBar_word hf.inside (regRow_aligned h), write0_fields h hf, writeFields_plain hp, merge_eq h]
    rfl
  refine gives_bar0 hb hw (((alters_noteBad _ _).mono (fun _ h => h) (fun _ => List.mem_cons_of_mem a)).put a _ List.mem_cons_self) ?_
    fun t ht _ => ⟨?_, ?_⟩
  · simp only [List.mem_cons, List.not_mem_nil, or_false, not_or]
    exact ⟨Ne.symm hsize, by decide, by decide⟩
  · rw [ht.reg a ho hq, Dev.reg_put_self]
  · have hput := Dev.reg_put_ne (s.dev.begin_.noteBad m.2) a Reg.GLB_BAD_VALUE_CNT m.1 (Ne.symm hcnt)
    exact (ht.cnt _ rfl rfl).trans ((Dev.cnt_congr C.GLB_BAD_VALUE_CNT hput rfl).trans (cnt_noteBad s.dev.begin_ m.2))

/-! ## Pairs (R624) -/

/-- What locks the rings' registers are the enables of the rings. -/
theorem ringLocked_put (d : Dev) {b : Nat} (v : Word) (a : Nat) (hs : ∀ n, Reg.ING_S_CTL n ≠ b) (hq : ∀ q, Reg.CMDQ_Q_CTL q ≠ b)
    (he : Reg.EVT_CTL ≠ b) : (d.put b v).ringLocked a = d.ringLocked a := by
  have h1 (n : Nat) : (d.put b v).flag (F.ING_S_CTL_EN n) = d.flag (F.ING_S_CTL_EN n) := Dev.flag_put_ne d _ b v (hs n)
  have h2 (q : Nat) : (d.put b v).flag (F.CMDQ_Q_CTL_EN q) = d.flag (F.CMDQ_Q_CTL_EN q) := Dev.flag_put_ne d _ b v (hq q)
  have h3 : (d.put b v).flag F.EVT_CTL_RING_EN = d.flag F.EVT_CTL_RING_EN := Dev.flag_put_ne d _ b v he
  unfold Dev.ringLocked
  simp only [h1, h2, h3]

/-- The half `h` of a pair that software writes, with no SAT or sticky bits. -/
def pairReg (a : Nat) (h : PairHalf) (r : RegRow) : Bool :=
  (satCounters a).isNone && !stickyReg a r && decide (r.half = h) && r.fields.any (·.acc == .rw)

theorem write0_pair {a : Nat} {h : PairHalf} (hp : (regRow? a).any (pairReg a h) = true) :
    ∃ r, regRow? a = some r ∧ r.half = h ∧ r.fields.any (·.acc == .rw) = true ∧
      ∀ (d : Dev) (v : Word), d.write0 a v = d.writeReg a v := by
  obtain ⟨r, hr, hp⟩ := (Option.any_eq_true _ _).mp hp
  simp only [pairReg, Bool.and_eq_true, Option.isNone_iff_eq_none, Bool.not_eq_true', decide_eq_true_eq] at hp
  obtain ⟨⟨⟨hs, hk⟩, hh⟩, hrw⟩ := hp
  refine ⟨r, hr, hh, hrw, fun d v => ?_⟩
  unfold Dev.write0
  rw [hs, hr]
  simp only [hk, Bool.false_eq_true, if_false]

theorem write0_lo {a : Nat} (hp : (regRow? a).any (pairReg a .lo) = true) {d : Dev} (hl : d.ringLocked a = false) (v : Word) :
    d.write0 a v = d.put a v := by
  obtain ⟨r, hr, hh, hrw, hw⟩ := write0_pair hp
  rw [hw]
  unfold Dev.writeReg
  rw [hr]
  simp only [hl, hh, hrw, Bool.false_eq_true, if_false, if_true]

theorem write0_hi {a : Nat} (hp : (regRow? a).any (pairReg a .hi) = true) {d : Dev} (hl : d.ringLocked a = false) (v : Word) :
    d.write0 a v = d.putWide (a - 4) ((d.reg (a - 4)).toNat + 2 ^ 32 * v.toNat) := by
  obtain ⟨r, hr, hh, hrw, hw⟩ := write0_pair hp
  rw [hw]
  unfold Dev.writeReg
  rw [hr]
  simp only [hl, hh, hrw, Bool.false_eq_true, if_false, if_true, reduceCtorEq]

/-- The base of a stream's ring takes a write of its pair while the ring does not lock it (R327, R624). -/
theorem gives_streamBase {s : State} (hb : s.dev.barOpen = true) (v : Wide) {a : Nat}
    (ha : a ∈ [Reg.ING_S_BASE_LO 0, Reg.ING_S_BASE_LO 1, Reg.ING_S_BASE_LO 2]) (hl : s.dev.ringLocked a = false)
    (hh : s.dev.ringLocked (a + 4) = false) : Gives (.registerWrite (.bar0 a) 8 v) s fun t =>
      t.dev.wide64 a = v.toNat ∧ Leaves [.wide] [a] s t := by
  have hrows : ∀ a ∈ [Reg.ING_S_BASE_LO 0, Reg.ING_S_BASE_LO 1, Reg.ING_S_BASE_LO 2],
    (regRow? a).any (pairReg a .lo) = true ∧ (regRow? (a + 4)).any (pairReg (a + 4) .hi) = true ∧ a < 0x200000 ∧ a % 0x40 = 8 ∧
      0x110000 ≤ a := by decide +kernel
  obtain ⟨hlo, hhi, htop, hmod, hbase⟩ := hrows a ha
  have hval : (BitVec.ofNat 32 v.toNat).toNat + 2 ^ 32 * (BitVec.ofNat 32 (v.toNat / 2 ^ 32)).toNat = v.toNat := by
    have := v.isLt
    simp only [BitVec.toNat_ofNat]
    omega
  have hh' : (s.dev.begin_.put a (BitVec.ofNat 32 v.toNat)).ringLocked (a + 4) = false :=
    (ringLocked_put _ _ _ (fun n he => by simp only [Reg.ING_S_CTL] at he; omega)
      (fun q he => by simp only [Reg.CMDQ_Q_CTL] at he; omega) (fun he => by simp only [Reg.EVT_CTL] at he; omega)).trans hh
  have hw : s.dev.begin_.writeBar 0x200000 a 8 v Dev.write0 =
      (s.dev.begin_.put a (BitVec.ofNat 32 v.toNat)).putWide a v.toNat := by
    rw [writeBar_pair htop (by omega), write0_lo hlo (d := s.dev.begin_) hl, write0_hi hhi hh', Nat.add_sub_cancel,
      Dev.reg_put_self, hval]
  have hring : a ≠ Reg.EVT_RING_BASE_LO ∧ a ≠ Reg.EVT_RING_SIZE := by
    simp only [Reg.EVT_RING_BASE_LO, Reg.EVT_RING_SIZE]; omega
  refine gives_bar0 hb hw (((Alters.refl _).put a _ (List.mem_singleton_self a)).putWide a _ (List.mem_singleton_self _) hring.1)
    (fun hm => hring.2 (List.mem_singleton.mp hm).symm) fun t ht _ => ?_
  rw [ht.wide64, Dev.wide64_putWide, if_pos rfl]
  exact Nat.mod_eq_of_lt v.isLt

end Sys2Proof.Machine
end

section
/-! SUPPORT. The event ring and the aperture follow their registers (R423, R609). -/

namespace Sys2Proof.Machine

theorem field_or_one (v : Word) {lo : Nat} (hl : 0 < lo) (w : Nat) : field (v ||| 1#32) lo w = field v lo w := by
  have h1 : 1 / 2 ^ lo = 0 := Nat.div_eq_of_lt (Nat.one_lt_two_pow hl.ne')
  unfold field
  rw [BitVec.toNat_or, Nat.or_div_two_pow, show (1#32).toNat = 1 from rfl, h1, Nat.or_zero]

theorem bitAt_or_one (v : Word) : bitAt (v ||| 1#32).toNat 0 = true := by
  unfold bitAt
  rw [BitVec.toNat_or, show (1#32).toNat = 1 from rfl, pow_zero, Nat.div_one, Nat.or_mod_two_eq_one.mpr (.inr rfl)]
  rfl

/-- The holdoff of a write of `EVT_CTL` is stored within its limits. -/
def Dev.setHoldoff (d : Dev) (v : Word) : Dev := d.setFld F.EVT_CTL_HOLDOFF_US (min 1000 (field v 16 10))

theorem fld_setHoldoff (d : Dev) (v : Word) : (d.setHoldoff v).fld F.EVT_CTL_HOLDOFF_US = min 1000 (field v 16 10) := by
  unfold Dev.setHoldoff
  rw [Dev.fld_setFld_self d _ _ (by decide)]
  exact Nat.mod_eq_of_lt (by show min 1000 _ < 1024; omega)

theorem flag_setHoldoff (d : Dev) (v : Word) : (d.setHoldoff v).flag F.EVT_CTL_RING_EN = d.flag F.EVT_CTL_RING_EN :=
  Dev.flag_setFld_apart d _ _ _ (by decide) (by decide)

theorem evtDepth_setHoldoff (d : Dev) (v : Word) : (d.setHoldoff v).evtDepth = d.evtDepth := by
  unfold Dev.evtDepth
  rw [show (d.setHoldoff v).fld F.EVT_RING_SIZE_LOG2 = d.fld F.EVT_RING_SIZE_LOG2 from
    Dev.fld_setFld_apart d _ _ _ (by decide) (by decide)]

theorem writeEvtCtl_enable {d : Dev} (v : Word) (h : d.flag F.EVT_CTL_RING_EN = false) :
    d.writeEvtCtl (v ||| 1#32) = (d.setHoldoff v).enableEvtRing := by
  unfold Dev.writeEvtCtl Dev.setHoldoff
  simp only [h, bitAt_or_one, field_or_one v (by decide : 0 < 16), Bool.not_false, Bool.and_self, if_true]

/-- The registers of an event ring that starts: enabled, running and empty. -/
def Dev.startRing (d : Dev) : Dev :=
  (((d.setFlag F.EVT_CTL_RING_EN true).put Reg.EVT_STAT 1#32).put Reg.EVT_RING_WR 0#32).put Reg.EVT_RING_RD 0#32

/-- The event ring has room again: the next stretch of drops is said anew (R610). -/
def Dev.ringRoom (d : Dev) : Dev := { d with evt := { d.evt with ovfSaid := false } }

@[simp] theorem fld_ringRoom (d : Dev) (f : Fld) : d.ringRoom.fld f = d.fld f := rfl
@[simp] theorem flag_ringRoom (d : Dev) (f : Fld) : d.ringRoom.flag f = d.flag f := rfl

theorem Quiet.ringRoom {d : Dev} (h : Quiet d) : Quiet d.ringRoom := ⟨h.raised, h.outbox⟩

theorem Quiet.startRing {d : Dev} (h : Quiet d) : Quiet d.startRing := (((h.setFlag _ _).put _ _).put _ _).put _ _

theorem enableEvtRing_ok {d : Dev} (h1 : d.wide64 Reg.EVT_RING_BASE_LO % 4096 = 0)
    (h2 : d.wide64 Reg.EVT_RING_BASE_LO + 32 * d.evtDepth ≤ devMemSize) :
    d.enableEvtRing = d.startRing.ringRoom :=
  if_pos ⟨h1, decide_eq_true h2⟩

theorem enableEvtRing_bad {d : Dev} (h : d.wide64 Reg.EVT_RING_BASE_LO % 4096 ≠ 0) :
    d.enableEvtRing = d.setFlag F.EVT_STAT_CFG_ERR true := if_neg fun hc => h hc.1

theorem Alters.ringRoom {parts : List Part} {regs : List Nat} {x y : Dev} (h : Alters parts regs x y) : Alters parts regs x y.ringRoom :=
  h.trans ⟨fun p _ => by cases p <;> rfl, fun _ _ => rfl, rfl, rfl, rfl, [], (List.append_nil _).symm⟩

theorem alters_startRing (d : Dev) : Alters [] [Reg.EVT_CTL, Reg.EVT_STAT, Reg.EVT_RING_WR, Reg.EVT_RING_RD] d d.startRing :=
  ((((Alters.refl d).setFlag _ _ (by decide)).put _ _ (by decide)).put _ _ (by decide)).put _ _ (by decide)

theorem fld_startRing (d : Dev) : d.startRing.fld F.EVT_CTL_HOLDOFF_US = d.fld F.EVT_CTL_HOLDOFF_US := by
  unfold Dev.startRing
  rw [Dev.fld_put_ne _ _ _ _ (by decide), Dev.fld_put_ne _ _ _ _ (by decide), Dev.fld_put_ne _ _ _ _ (by decide),
    Dev.fld_setFlag_apart d _ _ _ (by decide) (by decide)]

theorem flag_startRing (d : Dev) : d.startRing.flag F.EVT_CTL_RING_EN = true := by
  unfold Dev.startRing
  rw [Dev.flag_put_ne _ _ _ _ (by decide), Dev.flag_put_ne _ _ _ _ (by decide), Dev.flag_put_ne _ _ _ _ (by decide),
    Dev.flag_setFlag_self d _ _ (by decide) rfl]

theorem reg_startRing (d : Dev) : d.startRing.reg Reg.EVT_STAT = 1#32 ∧ d.startRing.reg Reg.EVT_RING_WR = 0#32 ∧
    d.startRing.reg Reg.EVT_RING_RD = 0#32 := by
  unfold Dev.startRing
  refine ⟨?_, ?_, Dev.reg_put_self _ _ _⟩
  · rw [Dev.reg_put_ne _ _ _ _ (by decide), Dev.reg_put_ne _ _ _ _ (by decide), Dev.reg_put_self]
  · rw [Dev.reg_put_ne _ _ _ _ (by decide), Dev.reg_put_self]

section
variable {s : State} (v : Word) (hb : s.dev.barOpen = true)
include hb

theorem gives_evtRingEnable_ok (hoff : s.dev.flag F.EVT_CTL_RING_EN = false) (h1 : s.dev.wide64 Reg.EVT_RING_BASE_LO % 4096 = 0)
    (h2 : s.dev.wide64 Reg.EVT_RING_BASE_LO + 32 * s.dev.evtDepth ≤ devMemSize) : Gives (.evtRingEnable v) s fun t =>
      (t.dev.flag F.EVT_CTL_RING_EN = true ∧ t.dev.fld F.EVT_CTL_HOLDOFF_US = min 1000 (field v 16 10) ∧
        t.dev.reg Reg.EVT_STAT = 1#32 ∧ t.dev.reg Reg.EVT_RING_WR = 0#32 ∧ t.dev.reg Reg.EVT_RING_RD = 0#32) ∧
      Leaves [] [Reg.EVT_CTL, Reg.EVT_RING_RD] s t := by
  have hd : (s.dev.begin_.setHoldoff v).evtDepth = s.dev.evtDepth := evtDepth_setHoldoff s.dev.begin_ v
  have hw : s.dev.begin_.writeEvtCtl (v ||| 1#32) = (s.dev.begin_.setHoldoff v).startRing.ringRoom :=
    (writeEvtCtl_enable (d := s.dev.begin_) v hoff).trans (enableEvtRing_ok h1 (by rw [hd]; exact h2))
  have halt : Alters [] [Reg.EVT_CTL, Reg.EVT_STAT, Reg.EVT_RING_WR, Reg.EVT_RING_RD] s.dev.begin_
      (s.dev.begin_.setHoldoff v).startRing.ringRoom := (((Alters.refl _).setFld _ _ (by decide)).trans (alters_startRing _)).ringRoom
  refine gives_narrow (gives_bar rfl hb hw halt (by decide) fun t _ hq => ?_) (by decide)
  rw [hq ((quiet_begin _).setFld _ _).startRing.ringRoom, flag_ringRoom, fld_ringRoom, fld_startRing, fld_setHoldoff]
  exact ⟨flag_startRing _, rfl, reg_startRing _⟩

theorem gives_evtRingEnable_bad (hoff : s.dev.flag F.EVT_CTL_RING_EN = false) (h1 : s.dev.wide64 Reg.EVT_RING_BASE_LO % 4096 ≠ 0) :
    Gives (.evtRingEnable v) s fun t =>
      (t.dev.flag F.EVT_CTL_RING_EN = false ∧ t.dev.flag F.EVT_STAT_CFG_ERR = true) ∧ Leaves [] [Reg.EVT_CTL] s t := by
  have hw : s.dev.begin_.writeEvtCtl (v ||| 1#32) = (s.dev.begin_.setHoldoff v).setFlag F.EVT_STAT_CFG_ERR true :=
    (writeEvtCtl_enable (d := s.dev.begin_) v hoff).trans (enableEvtRing_bad h1)
  refine gives_narrow (gives_bar (regs := [Reg.EVT_CTL, Reg.EVT_STAT]) rfl hb hw
    (((Alters.refl _).setFld _ _ (by decide)).setFlag _ _ (by decide)) (by decide) fun t _ hq => ?_) (by decide)
  rw [hq (((quiet_begin _).setFld _ _).setFlag _ _)]
  refine ⟨?_, Dev.flag_setFlag_self _ _ _ (by decide) rfl⟩
  rw [Dev.flag_setFlag_apart _ _ _ _ (by decide) (by decide), flag_setHoldoff]
  exact hoff

theorem gives_evtRingRdWrite_ok (h : serialAhead (s.dev.reg Reg.EVT_RING_RD).toNat v.toNat ≤ s.dev.evtUsed) :
    Gives (.evtRingRdWrite v) s fun t => t.dev.reg Reg.EVT_RING_RD = v ∧ Leaves [] [Reg.EVT_RING_RD] s t := by
  let x := s.dev.begin_.put Reg.EVT_RING_RD v
  have hw : s.dev.begin_.writeEvtRd v = if x.evtUsed < x.evtDepth then (x.setFlag F.EVT_STAT_FULL false).ringRoom else x := if_pos h
  have hx : Alters [] [Reg.EVT_RING_RD, Reg.EVT_STAT] s.dev.begin_ x := (Alters.refl _).put _ _ (by decide)
  refine gives_narrow (gives_bar rfl hb hw (.ite (fun _ => (hx.setFlag _ _ (by decide)).ringRoom) fun _ => hx) (by decide)
    fun t ht _ => ?_) (by decide)
  rw [ht.reg _ rfl rfl]
  split
  · exact (Dev.reg_put_ne x _ _ _ (by decide)).trans (Dev.reg_put_self _ _ _)
  · exact Dev.reg_put_self _ _ _

theorem gives_evtRingRdWrite_bad (h : s.dev.evtUsed < serialAhead (s.dev.reg Reg.EVT_RING_RD).toNat v.toNat) :
    Gives (.evtRingRdWrite v) s fun t => t.dev.flag F.EVT_STAT_RD_ERR = true ∧ Leaves [] [] s t := by
  have hw : s.dev.begin_.writeEvtRd v = s.dev.begin_.setFlag F.EVT_STAT_RD_ERR true := if_neg (not_le_of_gt h)
  refine gives_narrow (gives_bar (regs := [Reg.EVT_STAT]) rfl hb hw ((Alters.refl _).setFlag _ _ (by decide)) (by decide)
    fun t _ hq => ?_) (by decide)
  rw [hq ((quiet_begin _).setFlag _ _)]
  exact Dev.flag_setFlag_self _ _ _ (by decide) rfl

theorem gives_apertureWrite_ok (h : 2 ^ 28 * (field v 0 8 + 1) ≤ devMemSize) : Gives (.apertureWrite v) s fun t =>
    (t.dev.reg Reg.GLB_APERTURE = BitVec.ofNat 32 (field v 0 8) ∧ t.dev.flag F.GLB_HOST_APERTURE_ERR = false) ∧
      Leaves [] [Reg.GLB_APERTURE, Reg.GLB_HOST] s t := by
  have hw : s.dev.begin_.writeAperture v =
      (s.dev.begin_.put Reg.GLB_APERTURE (BitVec.ofNat 32 (field v 0 8))).setFlag F.GLB_HOST_APERTURE_ERR false := if_pos h
  refine gives_bar rfl hb hw (((Alters.refl _).put _ _ (by decide)).setFlag _ _ (by decide)) (by decide) fun t ht _ => ⟨?_, ?_⟩
  · rw [ht.reg _ rfl rfl, Dev.reg_setFlag_ne _ _ _ _ (by decide), Dev.reg_put_self]
  · rw [ht.flag _ rfl rfl, Dev.flag_setFlag_self _ _ _ (by decide) rfl]

theorem gives_apertureWrite_bad (h : devMemSize < 2 ^ 28 * (field v 0 8 + 1)) : Gives (.apertureWrite v) s fun t =>
    t.dev.flag F.GLB_HOST_APERTURE_ERR = true ∧ Leaves [] [Reg.GLB_HOST] s t := by
  have hw : s.dev.begin_.writeAperture v = s.dev.begin_.setFlag F.GLB_HOST_APERTURE_ERR true := if_neg (not_le_of_gt h)
  refine gives_bar rfl hb hw ((Alters.refl _).setFlag _ _ (by decide)) (by decide) fun t ht _ => ?_
  rw [ht.flag _ rfl rfl, Dev.flag_setFlag_self _ _ _ (by decide) rfl]

end

end Sys2Proof.Machine
end

section
/-! SUPPORT. The peer link's domain (R348 to R351): what showing it, working it out again and taking lanes out of UP may alter, and
that none of it moves a lane but those it names. -/

namespace Sys2Proof.Machine

/-- The parts that a change of the domain reaches: the link, a pending grant, the open Ingot, and the member ids. -/
abbrev domainParts : List Part := [.peer, .cfg, .out, .wide]

/-- A change that shows the domain: it stays within its parts and registers, and every lane keeps its state. -/
structure LinkShown (x y : Dev) : Prop where
  alters : Alters domainParts domainRegs x y
  lanes : ∀ l < 4, y.laneState l = x.laneState l

theorem LinkShown.refl (x : Dev) : LinkShown x x := ⟨.refl x, fun _ _ => rfl⟩

theorem LinkShown.trans {x y z : Dev} (h : LinkShown x y) (g : LinkShown y z) : LinkShown x z :=
  ⟨h.alters.trans g.alters, fun l hl => (g.lanes l hl).trans (h.lanes l hl)⟩

/-- Work on registers of the domain other than the lanes'. -/
theorem LinkShown.ofAlters {x y : Dev} {regs : List Nat} (h : Alters domainParts regs x y)
    (hr : ∀ a ∈ regs, a ∈ domainRegs ∧ a ∉ (List.range 4).map Reg.PEER_LANE_STAT) : LinkShown x y := by
  refine ⟨h.mono (fun _ hp => hp) fun a ha => (hr a ha).1, fun l hl => ?_⟩
  unfold Dev.laneState Dev.fld
  rw [h.reg _ fun ha => (hr _ ha).2 (List.mem_map_of_mem (List.mem_range.mpr hl))]

/-- Work on the link's own state alone. -/
theorem LinkShown.peer (x : Dev) (p : PeerSt) : LinkShown x { x with peer := p } := by
  refine .ofAlters (regs := []) ((Alters.refl x).direct (fun q hq => ?_) rfl rfl rfl rfl rfl) (fun _ h => absurd h List.not_mem_nil)
  cases q
  case peer => exact absurd (by decide) hq
  all_goals rfl

theorem LinkShown.raise (x : Dev) (n a b : Nat) : LinkShown x (x.raise n a b) :=
  .ofAlters (regs := []) ((Alters.refl x).raise n a b) (fun _ h => absurd h List.not_mem_nil)

theorem LinkShown.ite {x y z : Dev} {c : Prop} [Decidable c] (h : LinkShown x y) (g : LinkShown x z) :
    LinkShown x (if c then y else z) := by
  split
  · exact h
  · exact g

theorem LinkShown.foldl {α : Type} {f : Dev → α → Dev} (l : List α) (hf : ∀ y, ∀ a ∈ l, LinkShown y (f y a)) (x : Dev) :
    LinkShown x (l.foldl f x) := by
  induction l generalizing x with
  | nil => exact .refl x
  | cons a l ih => exact (hf x a List.mem_cons_self).trans (ih (fun y b hb => hf y b (List.mem_cons_of_mem a hb)) _)

/-- A field of a lane's register other than its state. -/
theorem LinkShown.laneField (x : Dev) {n : Nat} (hn : n < 4) {f : Fld} (v : Nat) (ha : f.addr = Reg.PEER_LANE_STAT n)
    (hw : f.lo + f.width ≤ 32) (hlo : 2 ≤ f.lo) : LinkShown x (x.setFld f v) := by
  have hm : f.addr ∈ domainRegs := by
    rw [ha]
    exact List.mem_append_left _ (List.mem_append_right _ (List.mem_map_of_mem (List.mem_range.mpr hn)))
  exact ⟨(Alters.refl x).setFld f v hm, fun l _ => Dev.fld_setFld_apart x f _ v hw (.inr (.inl hlo))⟩

theorem shown_setFacing (d : Dev) (l : Nat) (p : Option Wide) : LinkShown d (d.setFacing l p) := by
  unfold Dev.setFacing
  exact .ite (.refl d) (.ite ((LinkShown.peer d _).trans (.raise _ _ _ _)) (.peer d _))

theorem shown_setPartner (d : Dev) (l : Nat) (p : Option Wide) : LinkShown d (d.setPartner l p) := by
  unfold Dev.setPartner
  exact .ite (.refl d) ((LinkShown.peer d _).trans (.raise _ _ _ _))

/-- One lane's register shows whom its halves face. -/
theorem shown_laneFields (d : Dev) {l : Nat} (hl : l < 4) (two : Bool) (rx tx : Nat) :
    LinkShown d (((d.setFlag (F.PEER_LANE_STAT_TWO_WAY l) two).setFld (F.PEER_LANE_STAT_RX_MEMBER l) rx).setFld
      (F.PEER_LANE_STAT_TX_MEMBER l) tx) :=
  (LinkShown.laneField _ hl _ rfl (by decide : 4 + 1 ≤ 32) (by decide : 2 ≤ 4)).trans
    ((LinkShown.laneField _ hl _ rfl (by decide : 8 + 5 ≤ 32) (by decide : 2 ≤ 8)).trans
      (LinkShown.laneField _ hl _ rfl (by decide : 16 + 5 ≤ 32) (by decide : 2 ≤ 16)))

/-- One entry of the member table. -/
theorem shown_memberEntry (d : Dev) {i : Nat} (hi : i < 16) (id : Nat) (v : Word) :
    LinkShown d ((d.putWide (Reg.PEER_MEM_ID_LO i) id).put (Reg.PEER_MEM_STAT i) v) := by
  have hb : Reg.PEER_MEM_ID_LO i ≠ Reg.EVT_RING_BASE_LO := by
    simp only [Reg.PEER_MEM_ID_LO, Reg.EVT_RING_BASE_LO]; omega
  refine .ofAlters (regs := (List.range 16).map Reg.PEER_MEM_STAT) (((Alters.refl d).putWide _ id (by decide) hb).put _ v ?_) (by decide)
  exact List.mem_map_of_mem (List.mem_range.mpr hi)

theorem shown_statField (d : Dev) (f : Fld) (v : Nat) (hf : f.addr = Reg.PEER_STAT) : LinkShown d (d.setFld f v) :=
  .ofAlters (regs := [Reg.PEER_STAT]) ((Alters.refl d).setFld f v (hf ▸ List.mem_singleton_self _)) (by decide)

theorem shown_showDomain (d : Dev) : LinkShown d d.showDomain := by
  unfold Dev.showDomain
  dsimp only
  refine (shown_statField _ F.PEER_STAT_LEADER _ rfl).trans <| (shown_statField _ F.PEER_STAT_MASTER _ rfl).trans <|
    (shown_statField _ F.PEER_STAT_NO_MASTER _ rfl).trans <| (shown_statField _ F.PEER_STAT_MEMBERS _ rfl).trans <|
    (shown_statField _ F.PEER_STAT_UPSTREAM _ rfl).trans <| (shown_statField _ F.PEER_STAT_UP_VALID _ rfl).trans <|
    (LinkShown.foldl _ (fun y l _ => shown_setFacing y l _) _).trans <|
    (LinkShown.foldl _ (fun y l hl => shown_laneFields y (List.mem_range.mp hl) _ _ _) _).trans <|
    LinkShown.foldl _ (fun y i hi => ?_) _
  split
  · exact shown_memberEntry y (List.mem_range.mp hi) _ _
  · exact shown_memberEntry y (List.mem_range.mp hi) _ _

/-! ## The domain is worked out again (R349 to R351, R355) -/

theorem shown_dropGrant (d : Dev) : LinkShown d d.dropGrant := by
  refine .ofAlters (regs := []) ((Alters.refl d).direct (fun q hq => ?_) rfl rfl rfl rfl rfl) (fun _ h => absurd h List.not_mem_nil)
  cases q
  case peer | cfg => exact absurd (by decide) hq
  all_goals rfl

theorem shown_outStatus (d : Dev) : LinkShown d d.outStatus :=
  .ofAlters (regs := [Reg.ING_STAT, Reg.ING_S_STAT 0])
    ((((Alters.refl d).setFld F.ING_STAT_STAGE_FILL _ (by decide)).setFlag F.ING_STAT_STAGE_FULL _ (by decide)).setFlag
      (F.ING_S_STAT_FULL 0) _ (by decide)) (by decide)

theorem shown_out (d : Dev) (o : OutSt) : LinkShown d { d with out := o } := by
  refine .ofAlters (regs := []) ((Alters.refl d).direct (fun q hq => ?_) rfl rfl rfl rfl rfl) (fun _ h => absurd h List.not_mem_nil)
  cases q
  case out => exact absurd (by decide) hq
  all_goals rfl

theorem shown_closeIngot (d : Dev) (code : Nat) : LinkShown d (d.closeIngot code) := by
  unfold Dev.closeIngot
  split
  · exact .refl d
  · exact (shown_out d _).trans (shown_outStatus _)

theorem shown_peerEvt (d : Dev) (n : Nat) : LinkShown d (d.mark Reg.PEER_EVT n) :=
  .ofAlters (regs := [Reg.PEER_EVT]) ((Alters.refl d).setBit _ n true (by decide)) (by decide)

theorem shown_reportPods (d : Dev) : LinkShown d d.reportPods := by
  unfold Dev.reportPods
  dsimp only
  refine (LinkShown.ite ((shown_peerEvt d 1).trans ((LinkShown.peer _ _).trans (.raise _ _ _ _))) (.refl d)).trans <|
    LinkShown.foldl _ (fun y m _ => ?_) _
  have hset (x : Dev) (n src : Nat) (p : PeerSt) : LinkShown x ({ x.mark Reg.PEER_EVT n with peer := p }.raiseReg src Reg.PEER_EVT) :=
    (shown_peerEvt x n).trans ((LinkShown.peer _ p).trans (.raise _ _ _ _))
  exact (LinkShown.ite (hset y 0 _ _) (.refl y)).trans (.ite (hset _ 1 _ _) (.refl _))

theorem shown_diffMembers (d : Dev) : LinkShown d d.diffMembers := by
  have htell (src : Nat) (x : Dev) (i : Wide) :
      LinkShown x ((x.bump C.PEER_MEMBER_CHG_CNT).raise src (i.toNat % 2 ^ 32) (i.toNat / 2 ^ 32)) :=
    .ofAlters (regs := [Reg.PEER_MEMBER_CHG_CNT, C.PEER_MEMBER_CHG_CNT.sat])
      (((Alters.refl x).bump _ (by decide) (by decide) rfl).raise _ _ _) (by decide)
  unfold Dev.diffMembers
  dsimp only
  exact (LinkShown.foldl _ (fun y i _ => htell _ y i) _).trans ((LinkShown.foldl _ (fun y i _ => htell _ y i) _).trans (.peer _ _))

theorem shown_elect (d : Dev) : LinkShown d d.elect := by
  have hid (x : Dev) (v : Nat) : LinkShown x (x.setFld F.PEER_DOMAIN_ID v) :=
    .ofAlters (regs := [Reg.PEER_DOMAIN]) ((Alters.refl x).setFld _ v (by decide)) (by decide)
  unfold Dev.elect
  dsimp only
  refine (LinkShown.peer d _).trans <|
    (LinkShown.ite ((shown_dropGrant _).trans (.raise _ _ _ _)) (.refl _)).trans <|
    (LinkShown.ite (.raise _ _ _ _) (.refl _)).trans <| .ite (.refl _) ?_
  exact ((hid _ _).trans ((LinkShown.raise _ _ _ _).trans (shown_closeIngot _ 5))).trans
    (.ite (shown_statField _ F.PEER_STAT_CODE_SHARED _ rfl) (.refl _))

theorem shown_watchUpstream (d : Dev) (old : Option Nat) : LinkShown d (d.watchUpstream old) := by
  unfold Dev.watchUpstream
  exact .ite (.refl d) (.peer d _)

theorem shown_recomputeGrants (d : Dev) : LinkShown d d.recomputeGrants := by
  unfold Dev.recomputeGrants
  dsimp only
  exact (LinkShown.peer d _).trans (.ite (shown_peerEvt _ 2) (.refl _))

theorem shown_leadClaim (d : Dev) : LinkShown d d.leadClaim := by
  unfold Dev.leadClaim
  exact .ite ((shown_recomputeGrants d).trans (.peer _ _)) (.refl d)

theorem shown_sendClaim (d : Dev) : LinkShown d d.sendClaim := by
  unfold Dev.sendClaim
  exact (LinkShown.peer d _).trans ((LinkShown.peer _ _).trans (shown_leadClaim _))

theorem shown_claimOnJoin (d : Dev) (old : List Wide) : LinkShown d (d.claimOnJoin old) := by
  unfold Dev.claimOnJoin
  exact .ite (shown_sendClaim d) (.refl d)

theorem shown_refreshDomain (d : Dev) : LinkShown d d.refreshDomain := by
  unfold Dev.refreshDomain
  exact (shown_reportPods d).trans <| (shown_diffMembers _).trans <| (shown_elect _).trans <| (shown_watchUpstream _ _).trans <|
    (shown_claimOnJoin _ _).trans (shown_showDomain _)

end Sys2Proof.Machine
end

section
/-! SUPPORT. Lanes that leave UP, and the control of the link (R348, R356): which lanes move, and what it alters. -/

namespace Sys2Proof.Machine

/-! ## Lanes -/

theorem laneState_setLane (d : Dev) (l v n : Nat) : (d.setLane l v).laneState n = if n = l then v % 4 else d.laneState n := by
  have hlt : d.laneState l < 4 := field_lt _ 0 2
  unfold Dev.setLane
  split
  · next h =>
    split
    · next hn => rw [hn, h, Nat.mod_eq_of_lt (h ▸ hlt)]
    · rfl
  · split
    · next hn => exact hn ▸ Dev.fld_setFld_self d (F.PEER_LANE_STAT_STATE l) v (by decide : 0 + 2 ≤ 32)
    · next hn =>
      refine Dev.fld_setFld_apart d (F.PEER_LANE_STAT_STATE l) (F.PEER_LANE_STAT_STATE n) v (by decide : 0 + 2 ≤ 32)
        (.inl fun he => hn ?_)
      simp only [Reg.PEER_LANE_STAT] at he
      omega

theorem alters_setLane (d : Dev) {l : Nat} (hl : l < 4) (v : Nat) : Alters domainParts domainRegs d (d.setLane l v) := by
  unfold Dev.setLane
  refine .ite (fun _ => .refl d) fun _ => ((Alters.refl d).setFld _ v ?_).raise _ _ _
  exact List.mem_append_left _ (List.mem_append_right _ (List.mem_map_of_mem (List.mem_range.mpr hl)))

/-- The lanes of a list take new states, and lose their partners. -/
def Dev.moveLanes (d : Dev) (next : Nat → Nat) (ls : List Nat) : Dev := ls.foldl (fun d l => (d.setLane l (next l)).setPartner l none) d

theorem alters_moveLanes (d : Dev) (next : Nat → Nat) {ls : List Nat} (h : ∀ l ∈ ls, l < 4) :
    Alters domainParts domainRegs d (d.moveLanes next ls) :=
  Alters.foldlMem ls (fun y l hl => (alters_setLane y (h l hl) _).trans (shown_setPartner _ l none).alters) (.refl d)

theorem laneState_setPartner (d : Dev) (l n : Nat) (p : Option Wide) : (d.setPartner l p).laneState n = d.laneState n := by
  unfold Dev.setPartner
  dsimp only
  split <;> rfl

theorem laneState_moveLanes (next : Nat → Nat) (ls : List Nat) (n : Nat) (d : Dev) :
    (d.moveLanes next ls).laneState n = if n ∈ ls then next n % 4 else d.laneState n := by
  induction ls generalizing d with
  | nil => rfl
  | cons l ls ih =>
    refine (ih _).trans ?_
    rw [laneState_setPartner, laneState_setLane]
    by_cases hn : n ∈ ls
    · rw [if_pos hn, if_pos (List.mem_cons_of_mem l hn)]
    · by_cases hl : n = l
      · rw [if_neg hn, if_pos hl, if_pos (hl ▸ List.mem_cons_self), hl]
      · rw [if_neg hn, if_neg hl, if_neg fun h => (List.mem_cons.mp h).elim hl hn]

theorem linkLanes_lt {mode l n : Nat} (hl : l < 4) (h : n ∈ linkLanes mode l) : n < 4 := by
  unfold linkLanes at h
  split_ifs at h <;> simp at h <;> omega

/-- A change of the link that brings no lane out of DOWN. -/
structure LinkMoved (x y : Dev) : Prop where
  alters : Alters domainParts domainRegs x y
  down : ∀ l < 4, x.laneState l = 0 → y.laneState l = 0

theorem LinkShown.moved {x y : Dev} (h : LinkShown x y) : LinkMoved x y := ⟨h.alters, fun l hl h0 => (h.lanes l hl).trans h0⟩

theorem LinkMoved.trans {x y z : Dev} (h : LinkMoved x y) (g : LinkMoved y z) : LinkMoved x z :=
  ⟨h.alters.trans g.alters, fun l hl h0 => g.down l hl (h.down l hl h0)⟩

theorem moved_linkTo (d : Dev) {l : Nat} (hl : l < 4) (v : Nat) (off : Bool) : LinkMoved d (d.linkTo l v off) := by
  have hlt : ∀ n ∈ (d.link l).filter fun n => decide (d.laneState n ≠ 0), n < 4 := fun n hn =>
    linkLanes_lt hl (List.mem_of_mem_filter hn)
  have hmove : LinkMoved d (d.moveLanes (fun n => if off && n == l then 0 else v)
      ((d.link l).filter fun n => decide (d.laneState n ≠ 0))) := by
    refine ⟨alters_moveLanes d _ hlt, fun n _ h0 => ?_⟩
    rw [laneState_moveLanes, if_neg fun hn => ?_, h0]
    exact of_decide_eq_true (List.mem_filter.mp hn).2 h0
  unfold Dev.linkTo
  dsimp only
  refine hmove.trans ((LinkShown.ite (.peer _ _) (.refl _)).trans (.ite ?_ (.ite (shown_showDomain _) (.refl _)))).moved
  exact (LinkShown.peer _ _).trans (shown_refreshDomain _)

theorem moved_laneOff (d : Dev) {l : Nat} (hl : l < 4) : LinkMoved d (d.laneOff l) :=
  (moved_linkTo d hl 1 true).trans (LinkShown.peer _ _).moved

theorem alters_lanesDown (d : Dev) : Alters domainParts domainRegs d d.lanesDown :=
  (alters_moveLanes d (fun _ => 0) fun _ => List.mem_range.mp).trans ((LinkShown.peer _ _).trans (shown_refreshDomain _)).alters

theorem laneState_lanesDown (d : Dev) {l : Nat} (hl : l < 4) : d.lanesDown.laneState l = 0 := by
  have h0 := laneState_moveLanes (fun _ => 0) (List.range 4) l d
  rw [if_pos (List.mem_range.mpr hl)] at h0
  exact (((LinkShown.peer (d.moveLanes (fun _ => 0) (List.range 4)) _).trans (shown_refreshDomain _)).lanes l hl).trans h0

/-! ## PEER_CTL (R348, R356) -/

theorem alters_peerStart (d : Dev) : Alters domainParts domainRegs d d.peerStart := by
  unfold Dev.peerStart
  dsimp only
  refine ((LinkShown.peer d _).alters.trans (.foldlMem (List.range 4) (fun y l hl => ?_) (.refl _))).trans (shown_showDomain _).alters
  exact .ite (fun _ => alters_setLane y (List.mem_range.mp hl) 1) fun _ => .refl y

theorem shown_peerStop (d : Dev) : LinkShown d d.peerStop := by
  have hput (x : Dev) (v : Word) : LinkShown x (x.put Reg.PEER_STAT v) :=
    .ofAlters (regs := [Reg.PEER_STAT]) ((Alters.refl x).put _ v (by decide)) (by decide)
  unfold Dev.peerStop
  exact (shown_dropGrant d).trans <| (LinkShown.peer _ _).trans <| (hput _ _).trans (shown_showDomain _)

/-- `PEER_CTL.LANE_MODE` changes while the link stays enabled. -/
def Dev.remodes (d : Dev) (v : Word) : Bool :=
  d.flag F.PEER_CTL_EN && bitAt v.toNat 0 && field v 2 2 != d.fld F.PEER_CTL_LANE_MODE

/-- Before `PEER_CTL` takes its value: the lanes of a link that is disabled go down, and those of another mode hunt again. -/
def Dev.leaveCtl (d : Dev) (v : Word) : Dev :=
  if d.flag F.PEER_CTL_EN && !bitAt v.toNat 0 then d.lanesDown
  else if d.remodes v then d.linkHeads.foldl (fun d l => d.linkTo l 1) d else d

/-- After `PEER_CTL` has taken its value: the link starts, stops, or shows its new mode. -/
def Dev.enterCtl (d : Dev) (v : Word) (was remodes : Bool) : Dev :=
  let d := if bitAt v.toNat 4 then d else d.dropGrant
  if bitAt v.toNat 0 && !was then d.peerStart else if was && !bitAt v.toNat 0 then d.peerStop else if remodes then d.showDomain else d

theorem setPeerCtl_eq (d : Dev) (v : Word) :
    d.setPeerCtl v = ((d.leaveCtl v).put Reg.PEER_CTL v).enterCtl v (d.flag F.PEER_CTL_EN) (d.remodes v) := rfl

theorem alters_leaveCtl (d : Dev) (v : Word) : Alters domainParts domainRegs d (d.leaveCtl v) := by
  unfold Dev.leaveCtl
  refine .ite (fun _ => alters_lanesDown d) fun _ => .ite (fun _ => .foldlMem _ (fun y l hl => ?_) (.refl d)) fun _ => .refl d
  exact (moved_linkTo y (List.mem_range.mp (List.mem_of_mem_filter hl)) 1 false).alters

theorem shown_grantKept (d : Dev) (b : Bool) : LinkShown d (if b then d else d.dropGrant) := .ite (.refl d) (shown_dropGrant d)

theorem alters_enterCtl (d : Dev) (v : Word) (was remodes : Bool) : Alters domainParts domainRegs d (d.enterCtl v was remodes) := by
  unfold Dev.enterCtl
  exact (shown_grantKept d _).alters.trans <| .ite (fun _ => alters_peerStart _) fun _ => .ite (fun _ => (shown_peerStop _).alters)
    fun _ => .ite (fun _ => (shown_showDomain _).alters) fun _ => .refl _

/-- A link that is disabled stops. -/
theorem shown_enterCtl_off (d : Dev) {v : Word} (hen : bitAt v.toNat 0 = false) (remodes : Bool) :
    LinkShown d (d.enterCtl v true remodes) := by
  unfold Dev.enterCtl
  simp only [hen, Bool.false_and, Bool.false_eq_true, if_false, Bool.not_false, Bool.and_self, if_true]
  exact (shown_grantKept d _).trans (shown_peerStop _)

theorem alters_setPeerCtl (d : Dev) (v : Word) : Alters domainParts (Reg.PEER_CTL :: domainRegs) d (d.setPeerCtl v) := by
  have hsub : ∀ a ∈ domainRegs, a ∈ Reg.PEER_CTL :: domainRegs := fun a => List.mem_cons_of_mem _
  rw [setPeerCtl_eq]
  exact (((alters_leaveCtl d v).mono (fun _ h => h) hsub).put _ v List.mem_cons_self).trans
    ((alters_enterCtl _ _ _ _).mono (fun _ h => h) hsub)

theorem reg_setPeerCtl (d : Dev) (v : Word) : (d.setPeerCtl v).reg Reg.PEER_CTL = v := by
  rw [setPeerCtl_eq, (alters_enterCtl _ _ _ _).reg _ (by decide), Dev.reg_put_self]

/-- A link that is disabled has every lane DOWN (R348). -/
theorem laneState_setPeerCtl {d : Dev} {v : Word} (hwas : d.flag F.PEER_CTL_EN = true) (hen : bitAt v.toNat 0 = false) {l : Nat}
    (hl : l < 4) : (d.setPeerCtl v).laneState l = 0 := by
  have hne : (F.PEER_LANE_STAT_STATE l).addr ≠ Reg.PEER_CTL := by simp only [Reg.PEER_LANE_STAT, Reg.PEER_CTL]; omega
  have hleave : d.leaveCtl v = d.lanesDown := if_pos (by rw [hwas, hen]; rfl)
  rw [setPeerCtl_eq, hwas, (shown_enterCtl_off _ hen _).lanes l hl, hleave]
  exact (Dev.fld_put_ne _ _ _ v hne).trans (laneState_lanesDown d hl)

end Sys2Proof.Machine
end

section
/-! SUPPORT. The domains follow what is wanted of them (R557, R562 to R564): what switching off may touch. -/

namespace Sys2Proof.Machine

/-- The parts that a change of the link's enable reaches, the domains that switch with it among them (R348, R557). -/
abbrev switchParts : List Part := [.pwr, .chans, .bur, .kiln, .taps, .turf, .peer, .cfg, .out, .wide]

/-- The registers that no switching writes but the peer link's own: the size of the event ring, the link's control and its lanes. -/
abbrev fixedRegs : List Nat := [Reg.EVT_RING_SIZE, Reg.PEER_CTL] ++ (List.range 4).map Reg.PEER_LANE_STAT

/-- What switching domains off leaves as it was. It brings no lane out of DOWN. -/
structure Switched (x y : Dev) : Prop where
  same : ∀ p, p ∉ switchParts → p.same x y
  size : y.reg Reg.EVT_RING_SIZE = x.reg Reg.EVT_RING_SIZE
  ctl : y.reg Reg.PEER_CTL = x.reg Reg.PEER_CTL
  down : ∀ l < 4, x.laneState l = 0 → y.laneState l = 0
  outbox : y.outbox = x.outbox
  base : y.wide64 Reg.EVT_RING_BASE_LO = x.wide64 Reg.EVT_RING_BASE_LO

theorem Switched.refl (x : Dev) : Switched x x := ⟨fun p _ => same_refl p x, rfl, rfl, fun _ _ h => h, rfl, rfl⟩

theorem Switched.trans {x y z : Dev} (h : Switched x y) (g : Switched y z) : Switched x z :=
  ⟨fun p hp => same_trans (h.same p hp) (g.same p hp), g.size.trans h.size, g.ctl.trans h.ctl,
    fun l hl h0 => g.down l hl (h.down l hl h0), g.outbox.trans h.outbox, g.base.trans h.base⟩

theorem cmdqOwn_laneStat (l : Nat) : cmdqOwn (Reg.PEER_LANE_STAT l) = false := by
  rw [cmdqOwn, decide_eq_false_iff_not]
  dsimp only [Reg.PEER_LANE_STAT]
  omega

/-- Work that touches none of the fixed registers. -/
theorem Works.switched {x y : Dev} {parts : List Part} {regs : List Nat} (h : Works parts regs x y)
    (hp : ∀ p ∈ parts, p ∈ switchParts) (hr : ∀ a ∈ fixedRegs, a ∉ regs) : Switched x y := by
  refine ⟨fun p hn => h.same p fun hm => hn (hp p hm), h.reg _ (hr _ (by decide)) rfl, h.reg _ (hr _ (by decide)) rfl,
    fun l hl h0 => ?_, h.outbox, h.base⟩
  have hm : Reg.PEER_LANE_STAT l ∈ fixedRegs := List.mem_append_right _ (List.mem_map_of_mem (List.mem_range.mpr hl))
  unfold Dev.laneState Dev.fld at h0 ⊢
  rwa [h.reg _ (hr _ hm) (cmdqOwn_laneStat l)]

theorem LinkMoved.switched {x y : Dev} (h : LinkMoved x y) : Switched x y :=
  have hsub : ∀ p ∈ domainParts, p ∈ switchParts := by decide
  ⟨fun p hp => h.alters.same p fun hm => hp (hsub p hm), h.alters.reg _ (by decide), h.alters.reg _ (by decide), h.down,
    h.alters.outbox, h.alters.base⟩

theorem Switched.put (x : Dev) {a : Nat} (v : Word) (ha : a ∉ fixedRegs) : Switched x (x.put a v) :=
  ((Alters.refl x).put (parts := []) a v (List.mem_singleton_self a)).works.switched (fun _ h => absurd h List.not_mem_nil)
    fun _ hb hm => ha (List.mem_singleton.mp hm ▸ hb)

theorem Switched.ite {x y z : Dev} {c : Prop} [Decidable c] (h : c → Switched x y) (g : ¬c → Switched x z) :
    Switched x (if c then y else z) := by
  split
  · exact h ‹_›
  · exact g ‹_›

theorem Switched.foldl {α : Type} {f : Dev → α → Dev} (l : List α) (hf : ∀ y, ∀ a ∈ l, Switched y (f y a)) (x : Dev) :
    Switched x (l.foldl f x) := by
  induction l generalizing x with
  | nil => exact .refl x
  | cons a l ih => exact (hf x a List.mem_cons_self).trans (ih (fun y b hb => hf y b (List.mem_cons_of_mem a hb)) _)

/-- Where the fixed registers do not lie. -/
theorem not_fixed {a : Nat} (h : (0x010010 < a ∧ a < 0x120000) ∨ 0x120140 ≤ a ∨ a % 0x1000 = 0x300) : a ∉ fixedRegs := by
  simp only [List.mem_append, List.mem_map, List.mem_range, List.mem_cons, List.not_mem_nil, or_false]
  rintro ((rfl | rfl) | ⟨l, hl, rfl⟩) <;> simp only [Reg.EVT_RING_SIZE, Reg.PEER_CTL, Reg.PEER_LANE_STAT] at h <;> omega

theorem Switched.setFld (x : Dev) {f : Fld} (v : Nat) (ha : f.addr ∉ fixedRegs) : Switched x (x.setFld f v) := .put x _ ha

theorem Switched.setBit (x : Dev) {a : Nat} (n : Nat) (b : Bool) (ha : a ∉ fixedRegs) : Switched x (x.setBit a n b) := .put x _ ha

/-- Work on parts of the state that switching reaches. -/
theorem Switched.direct {x y : Dev} (hs : ∀ p, p ∉ switchParts → p.same x y) (hr : y.regs = x.regs) (ho : y.outbox = x.outbox)
    (hw : y.wide = x.wide) : Switched x y :=
  ⟨hs, Dev.reg_congr hr _, Dev.reg_congr hr _, fun l _ h0 => (Dev.fld_congr hr (F.PEER_LANE_STAT_STATE l)).trans h0, ho,
    by unfold Dev.wide64; rw [hw]⟩

theorem Switched.state (x : Dev) {p : PwrSt} {c : Sparse ChanSt} {b : BurSt} {k : KilnSt} {ta : TapsSt} {tu : TurfSt} {o : OutSt} :
    Switched x { x with pwr := p, chans := c, bur := b, kiln := k, taps := ta, turf := tu, out := o } := by
  refine .direct (fun q hq => ?_) rfl rfl rfl
  cases q
  case pwr | chans | bur | kiln | taps | turf | out => exact absurd (by decide) hq
  all_goals rfl

/-! ## Slices (R562) -/

theorem switched_flushCrossing (d : Dev) (s : Nat) (hs : s < 64) : Switched d (d.flushCrossing s) := by
  have hcnt (x : Dev) (n : Nat) : Switched x (x.bumpBy (C.SLICE_EM_XDROP_CNT s) n) := by
    refine ((Alters.refl x).bumpBy (parts := []) (regs := [Reg.SLICE_EM_XDROP_CNT s, Reg.SLICE_EM_CNT_SAT s]) _ n
      List.mem_cons_self (List.mem_cons_of_mem _ List.mem_cons_self) rfl).works.switched
      (fun _ h => absurd h List.not_mem_nil) fun a ha hm => ?_
    simp only [List.mem_cons, List.not_mem_nil, or_false, Reg.SLICE_EM_XDROP_CNT, Reg.SLICE_EM_CNT_SAT] at hm
    exact not_fixed (by omega) ha
  unfold Dev.flushCrossing
  dsimp only
  refine (Switched.foldl _ (fun y c _ => .state y) _).trans <| (Switched.foldl _ (fun y c _ => .state y) _).trans <| (hcnt _ _).trans <|
    .setBit _ 10 true (not_fixed ?_)
  simp only [Reg.SLICE_EM_STAT]
  omega

theorem burStat_not_fixed (u : Nat) : Reg.SLICE_BUR_STAT u ∉ fixedRegs := not_fixed (by simp only [Reg.SLICE_BUR_STAT]; omega)

theorem switched_burCancel (d : Dev) (u : Nat) : Switched d (d.burCancel u) :=
  (Switched.state d).trans (.setFld _ _ (burStat_not_fixed u))

theorem switched_burPending (d : Dev) (u reason : Nat) : Switched d (d.burPending u reason) := by
  unfold Dev.burPending
  exact (Switched.state d).trans (.ite (fun _ => (Switched.setFld _ _ (burStat_not_fixed u)).trans (.setFld _ _ (burStat_not_fixed u)))
    fun _ => .refl _)

theorem switched_complete (d : Dev) (q tag status : Nat) (results : List Byte) : Switched d (d.complete q tag status results) :=
  (works_complete (parts := []) (regs := []) d q tag status results).switched (fun _ h => absurd h List.not_mem_nil)
    fun _ _ => List.not_mem_nil

theorem switched_requestEnd (d : Dev) (r : BurRequest) : Switched d (d.requestEnd r) := by
  unfold Dev.requestEnd
  split
  · exact switched_complete d _ _ _ _
  · exact switched_complete d _ _ _ _

theorem switched_putRequests (d : Dev) (rs : List BurRequest) : Switched d (d.putRequests rs) :=
  (Switched.state d).trans (.foldl _ (fun y r _ => switched_requestEnd y r) _)

theorem switched_burnishFail (d : Dev) (u : Nat) : Switched d (d.burnishFail u) := by
  unfold Dev.burnishFail
  dsimp only
  refine .ite (fun _ => .refl d) fun _ => (Switched.foldl _ (fun y r _ => ?_) _).trans <|
    (Switched.foldl _ (fun y r _ => ?_) _).trans (switched_putRequests _ _)
  · exact .foldl _ (fun z v _ => switched_burCancel z v) y
  · exact .foldl _ (fun z v _ => switched_burPending z v 1) y

theorem switched_sliceOff (d : Dev) (s : Nat) (hs : s < 64) : Switched d (d.sliceOff s) := by
  unfold Dev.sliceOff
  dsimp only
  refine (switched_flushCrossing d s hs).trans <| (Switched.foldl _ (fun y c _ => ?_) _).trans <|
    (Switched.state _).trans (switched_burnishFail _ s)
  exact (Switched.state y).trans (.state _)

/-! ## Tap groups, Turf banks and lanes (R228, R249, R280) -/

theorem switched_tapGroupOff (d : Dev) (g : Nat) : Switched d (d.tapGroupOff g) := by
  unfold Dev.tapGroupOff Dev.showTapGroups
  exact (Switched.state d).trans <| (Switched.setFld _ _ (by decide)).trans (.setFld _ _ (by decide))

theorem switched_switchOff (d : Dev) {n : Nat} (hn : n < 144) : Switched d (d.switchOff n) := by
  have hdom (x : Dev) : Switched x (x.setDom n false) := .setBit x _ _ (not_fixed (by simp only [Reg.PWR_DOM_ON]; omega))
  have hrefill : Switched d (if n < 64 then d.refill else d) := .ite (fun _ => .state d) fun _ => .refl d
  have hjoin (x : Dev) : Switched x { x with pwr := { x.pwr with joining := x.pwr.joining.erase n } } := .state x
  unfold Dev.switchOff
  dsimp only
  refine .ite (fun _ => .refl d) fun _ => hrefill.trans <| (hdom _).trans <| (hjoin _).trans ?_
  refine .ite (switched_sliceOff _ n) fun _ => .ite (fun _ => switched_tapGroupOff _ _) fun _ => .ite (fun _ => ?_) fun _ =>
    .ite (fun h => (moved_laneOff _ (by omega)).switched) fun _ => .refl _
  exact (Switched.state _).trans (.setBit _ _ _ (by decide))

/-! ## The domains follow what is wanted (R563) -/

theorem switched_dropUnwanted (d : Dev) {ns : List Nat} (h : ∀ n ∈ ns, n < 144) : Switched d (d.dropUnwanted ns) :=
  .foldl ns (fun y n hn => .ite (fun _ => .ite (fun _ => .state y) fun _ => switched_switchOff y (h n hn)) fun _ => .state y) d

theorem switched_queueWanted (d : Dev) (ns : List Nat) : Switched d (d.queueWanted ns) := by
  unfold Dev.queueWanted Dev.showSwitching
  exact (Switched.state d).trans (.setFld _ _ (by decide))

theorem switched_retarget (d : Dev) : Switched d d.retarget := by
  have horder : ∀ n ∈ switchOrder.reverse, n < 144 := by decide
  unfold Dev.retarget
  exact (Switched.ite (fun _ => .refl d) fun _ => switched_dropUnwanted d horder).trans (switched_queueWanted _ _)

end Sys2Proof.Machine
end

section
/-! SUPPORT. A write of `PEER_CTL` through BAR0 (R348), and the registers as their statement says them (R11, R413, R423, R609, R611, R614,
R620, R622 to R624). -/

namespace Sys2Proof.Machine

theorem bitAt_zero (x : Word) : bitAt x.toNat 0 = (field x 0 1 == 1) := rfl

theorem flag_PEER_CTL_EN (d : Dev) : d.flag F.PEER_CTL_EN = bitAt (d.reg Reg.PEER_CTL).toNat 0 := rfl

/-- What `PEER_CTL` takes of a write: every field, whatever its value. -/
def peerCtlTaken (old v : Word) : Word :=
  withField (withField (withField (withField old 0 1 (field v 0 1)) 1 1 (field v 1 1)) 2 2 (field v 2 2)) 4 1 (field v 4 1)

theorem peerCtlTaken_en (old v : Word) : bitAt (peerCtlTaken old v).toNat 0 = bitAt v.toNat 0 := by
  rw [bitAt_zero, bitAt_zero, peerCtlTaken, field_withField_apart _ 4 1 _ _ _ (by decide) (by decide),
    field_withField_apart _ 2 2 _ _ _ (by decide) (by decide), field_withField_apart _ 1 1 _ _ _ (by decide) (by decide),
    field_withField _ _ _ _ (by decide), Nat.mod_eq_of_lt (field_lt v 0 1)]

theorem writeReg_peerCtl (d : Dev) (v : Word) :
    d.writeReg Reg.PEER_CTL v =
      let w := d.setPeerCtl (peerCtlTaken (d.reg Reg.PEER_CTL) v)
      if field (d.reg Reg.PEER_CTL) 0 1 = field (peerCtlTaken (d.reg Reg.PEER_CTL) v) 0 1 then w else w.retarget := by
  have hrow : ∃ r, regRow? Reg.PEER_CTL = some r ∧ fieldsReg Reg.PEER_CTL r = true ∧
      r.fields = [⟨0, 1, .rw, .any⟩, ⟨1, 1, .rw, .any⟩, ⟨2, 2, .rw, .any⟩, ⟨4, 1, .rw, .any⟩] :=
    ⟨_, rfl, by decide +kernel, rfl⟩
  obtain ⟨r, hr, hf, hfields⟩ := hrow
  have hm : d.merge Reg.PEER_CTL v = (peerCtlTaken (d.reg Reg.PEER_CTL) v, d) := by
    rw [merge_eq hr, hfields]; rfl
  rw [writeReg_fields hr (fieldsReg_sound hf)]
  unfold Dev.writeFields
  rw [hm]
  rfl

theorem evtOwn_laneStat (l : Nat) : evtOwn (Reg.PEER_LANE_STAT l) = false := by
  rw [evtOwn, decide_eq_false_iff_not]
  dsimp only [Reg.PEER_LANE_STAT]
  omega

/-- `PEER_CTL` takes a write: the link is enabled as it says, a link that is disabled has every lane DOWN, and the domains follow. -/
theorem gives_peerEnable {s : State} (hb : s.dev.barOpen = true) (v : Word) : Gives (.peerEnable v) s fun t =>
    t.dev.flag F.PEER_CTL_EN = bitAt v.toNat 0 ∧
    (s.dev.flag F.PEER_CTL_EN = true → bitAt v.toNat 0 = false → ∀ l, l < 4 → t.dev.laneState l = 0) ∧
    Keeps switchParts s t ∧ KeepsMem s t := by
  let x := peerCtlTaken (s.dev.reg Reg.PEER_CTL) v
  let w := s.dev.begin_.setPeerCtl x
  have hw := alters_setPeerCtl s.dev.begin_ x
  have he : Switched w (s.dev.begin_.writeReg Reg.PEER_CTL v) := by
    rw [writeReg_peerCtl]
    exact .ite (fun _ => .refl w) fun _ => switched_retarget w
  have hsub : ∀ p ∈ domainParts, p ∈ switchParts := by decide
  obtain ⟨t, hx, ht⟩ := settled_bar (i := .peerEnable v) rfl hb rfl
  refine ⟨t, hx, ?_, fun hwas hen l hl => ?_, fun p hp => ?_, ?_⟩
  · rw [ht.flag F.PEER_CTL_EN rfl rfl, flag_PEER_CTL_EN, he.ctl, reg_setPeerCtl, peerCtlTaken_en]
  · have hoff : bitAt x.toNat 0 = false := (peerCtlTaken_en _ v).trans hen
    have h0 : w.laneState l = 0 := laneState_setPeerCtl (d := s.dev.begin_) hwas hoff hl
    exact (ht.fld (F.PEER_LANE_STAT_STATE l) (evtOwn_laneStat l) (cmdqOwn_laneStat l)).trans (he.down l hl h0)
  · have hsame := same_trans (hw.same p fun hm => hp (hsub p hm)) (he.same p hp)
    exact same_trans (begin_same s.dev p) (same_trans hsame (ht.parts p))
  · exact ht.mem (he.outbox.trans hw.outbox) (he.base.trans hw.base) (he.size.trans (hw.reg _ (by decide)))

/-! ## The statement -/

theorem gives_imp {i : Instr} {s : State} {P Q : State → Prop} (h : Gives i s P) (hi : ∀ t, P t → Q t) : Gives i s Q := by
  obtain ⟨t, hx, ht⟩ := h
  exact ⟨t, hx, hi t ht⟩

/-- The plain registers that the statement names. -/
abbrev statedRegs : List Nat := [Reg.GLB_CTL, Reg.GLB_SCRATCH, Reg.KILN_CTL, Reg.KILN_BUR_CTL, Reg.TURF_CTL, Reg.SCN_CTL,
  Reg.MEM_CTL, Reg.TAP_CTL, Reg.ING_HIST_ROWS, Reg.ING_HIST_COLS, Reg.ING_HIST_CFG]

theorem gives_stated {s : State} (hb : s.dev.barOpen = true) {a : Nat} {r : RegRow} (v : Wide) (h : regRow? a = some r)
    (ha : a ∈ statedRegs) :
    let m := mergeFields r.fields (s.dev.reg a) (BitVec.ofNat 32 v.toNat)
    Gives (.registerWrite (.bar0 a) 4 v) s fun t => t.dev.reg a = m.1 ∧ Counts C.GLB_BAD_VALUE_CNT m.2 s t ∧
      Leaves [] [a, Reg.GLB_BAD_VALUE_CNT, C.GLB_BAD_VALUE_CNT.sat] s t := by
  have hrows : ∀ a ∈ statedRegs, (regRow? a).all (fieldsReg a) = true ∧ plainReg a = true ∧ evtOwn a = false ∧
      cmdqOwn a = false ∧ a ∉ [Reg.EVT_RING_SIZE, Reg.GLB_BAD_VALUE_CNT, C.GLB_BAD_VALUE_CNT.sat] := by decide +kernel
  obtain ⟨hf, hp, ho, hq, hn⟩ := hrows a ha
  rw [h, Option.all_some] at hf
  exact gives_imp (gives_plain hb v h (fieldsReg_sound hf) hp ho hq hn) fun _ ht => and_assoc.mp ht

/-- Settles O53: each clause is the rule of its kind of access. -/
theorem registersFollowTheirAccess : Obligations.RegistersFollowTheirAccess := by
  unfold Obligations.RegistersFollowTheirAccess
  intro s hb bad
  refine ⟨gives_evtPendClear hb, fun a cs v h => ?_, fun a r v => gives_stickyBitClear hb v,
    fun a r h => ⟨fun hl => ?_, fun hr => ?_⟩,
    fun a size v => ⟨gives_badAccess hb v, gives_reserved hb v, fun r => gives_stated hb v, gives_streamBase hb v⟩,
    fun v hoff => ⟨fun h1 h2 => ?_, fun h1 => ?_⟩,
    fun v => ⟨gives_evtRingRdWrite_ok v hb, gives_evtRingRdWrite_bad v hb, fun h => ?_, gives_apertureWrite_bad v hb,
      gives_peerEnable hb v⟩⟩
  · exact gives_imp (gives_satBitClear hb v h) fun _ ht => and_assoc.mp ht
  · exact gives_imp (gives_pairLoRead hb h hl) fun _ ht => and_assoc.mp ht
  · exact gives_imp (gives_rcFieldRead hb h hr) fun _ ⟨⟨hread, hchan, hword⟩, hl⟩ => ⟨hread, hchan, hword, hl⟩
  · exact gives_imp (gives_evtRingEnable_ok v hb hoff h1 h2) fun _ ⟨⟨hen, hold, hstat, hwr, hrd⟩, hl⟩ =>
      ⟨hen, hold, hstat, hwr, hrd, hl⟩
  · exact gives_imp (gives_evtRingEnable_bad v hb hoff h1) fun _ ht => and_assoc.mp ht
  · exact gives_imp (gives_apertureWrite_ok v hb h) fun _ ht => and_assoc.mp ht

end Sys2Proof.Machine
end

section
/-! SUPPORT. The commands of the emitter group (R21, R165, R180, R183, R462): where each passes its checks, what it does to the
chains, and what it leaves. -/

namespace Sys2Proof.Machine

/-! ## What their work alters -/

theorem alters_blw (d : Dev) (b : BlwSt) : Alters [.blw] [] d { d with blw := b } := by
  refine (Alters.refl d).direct (fun p hp => ?_) rfl rfl rfl rfl rfl
  cases p with
  | blw => exact absurd (List.mem_singleton_self _) hp
  | _ => rfl

theorem alters_cfg (d : Dev) (x : CfgSt) : Alters [.cfg] [] d { d with cfg := x } := by
  refine (Alters.refl d).direct (fun p hp => ?_) rfl rfl rfl rfl rfl
  cases p with
  | cfg => exact absurd (List.mem_singleton_self _) hp
  | _ => rfl

theorem alters_startCommit (d : Dev) (set : Nat) (owner : Option (Nat × Nat)) (opcode : Nat) :
    Alters [.cfg] [Reg.GLB_CFG_STAT] d (d.startCommit set owner opcode) :=
  ((alters_cfg d _).mono (fun _ h => h) (fun _ h => absurd h List.not_mem_nil)).setFlag F.GLB_CFG_STAT_COMMIT_BUSY true
    (List.mem_singleton_self _)

/-- A CTRL word waits behind those of its chain (R165). -/
def Dev.queueCtrl (d : Dev) (l : Bool) (w : CtrlWord) : Dev :=
  d.setChain l { d.chain l with ctrl := (d.chain l).ctrl ++ [w] }

theorem alters_queueCtrl (d : Dev) (l : Bool) (w : CtrlWord) : Alters [.blw] [] d (d.queueCtrl l w) := alters_blw d _

theorem awaiting_queueCtrl (d : Dev) (l : Bool) (w : CtrlWord) : (d.queueCtrl l w).blw.l.awaiting = d.blw.l.awaiting := by
  cases l <;> rfl

/-- No frame goes out on chain L while a status is outstanding. -/
theorem pumpL_awaiting {d : Dev} (h : d.blw.l.awaiting = true) : d.pumpL = d := by
  unfold Dev.pumpL
  simp [h]

/-! ## Where their own checks pass -/

theorem bodyEmitSubstitute_accept {q : Nat} {p : Packet} {mem : List Host.Cell} {d : Dev} {rev : Bool} (hrev : (p.u 2 1 == 1) = rev)
    (hpair : d.pairings.contains (p.u 1 1, p.u 0 1) = true) (hup : d.chainUp false = true)
    (hback : rev = true → d.blw.paired.contains (p.u 0 1, p.u 1 1) = true)
    (hidle : rev = false → d.segState (p.u 1 1) = segSpareIdle) :
    bodyEmitSubstitute q p mem d = .accept (d.schedule ⟨p.u 0 1, p.u 1 1, rev, some (q, p.tag.toNat), false⟩) 0 := by
  subst hrev
  refine refuseIf_false (not_of_true hpair) (refuseIf_false (not_of_true hup) (refuseIf_false ?_ rfl))
  split
  · next h => exact not_of_true (hback h)
  · next h => exact bne_eq_false_iff_eq.mpr (hidle (Bool.eq_false_iff.mpr h))

theorem bodyEmitCountCommit_accept {q : Nat} {p : Packet} {mem : List Host.Cell} {d : Dev}
    (hroom : d.storeFull 18 (d.setEntries 18) = false) :
    bodyEmitCountCommit q p mem d = .accept (d.startCommit 18 (some (q, p.tag.toNat)) 0x0305) 0 :=
  refuseIf_false hroom rfl

/-- The CTRL word of `emit.drv_ctrl` with its owner (R165). -/
def drvCtrlWord (q : Nat) (p : Packet) : CtrlWord := ⟨p.u 1 1, p.u 2 1 == 1, p.u 3 1, p.u 4 2, some (q, p.tag.toNat)⟩

theorem bodyEmitDrvCtrl_accept {q : Nat} {p : Packet} {mem : List Host.Cell} {d : Dev} {l : Bool} (hl : (p.u 0 1 == 1) = l)
    (hn : p.u 1 1 < d.fld (if l then F.BLW_STAT_L_DRV else F.BLW_STAT_E_DRV)) (hreg : p.u 3 1 ≤ 31)
    (hrw : (p.u 2 1 == 1) = true → p.u 3 1 = 5) (hup : d.chainUp l = true) (hwait : l = true → d.blw.l.awaiting = true) :
    bodyEmitDrvCtrl q p mem d = .accept (d.queueCtrl l (drvCtrlWord q p)) 0 := by
  subst hl
  refine refuseIf_false ?_ (refuseIf_false (not_of_true hup) (congrArg (Verdict.accept · 0) ?_))
  · have hread : ((p.u 2 1 == 1) && p.u 3 1 != 5) = false :=
      Bool.and_eq_false_imp.mpr fun h => bne_eq_false_iff_eq.mpr (hrw h)
    rw [hread, decide_eq_false (Nat.not_le.mpr hn), decide_eq_false (Nat.not_lt.mpr hreg)]
    rfl
  · split
    · next h => exact pumpL_awaiting ((awaiting_queueCtrl _ _ _).trans (hwait h))
    · rfl

/-! ## The commands -/

section
variable (s : State) (c : Cmd)

theorem emitStop_acts : ActsFast (.emitStop c) c 0x0301 s (leBytes 8 (s.dev.slotNo + 1)) [.blw] []
    fun t => t.dev.blw = { s.dev.blw with stopReq := true } :=
  actsFast (fun d => { d with blw := { d.blw with stopReq := true } }) rfl (fun _ _ _ => rfl) (fun _ _ _ => alters_blw _ _)
    List.not_mem_nil fun _ _ _ _ ht => ht.parts .blw

theorem emitResume_acts : Acts (.emitResume c) c 0x0302 s [] [.blw] []
    fun t => t.dev.blw = { s.dev.blw with stopReq := false } :=
  acts (fun d => { d with blw := { d.blw with stopReq := false } }) rfl (fun _ _ _ _ _ => rfl) (fun _ _ _ => alters_blw _ _)
    List.not_mem_nil fun _ _ _ _ ht => ht.parts .blw

variable {s c}

theorem emitSubstitute_starts {rev : Bool} (hrev : ((c.packet 0x0303).u 2 1 == 1) = rev)
    (hpair : s.dev.pairings.contains ((c.packet 0x0303).u 1 1, (c.packet 0x0303).u 0 1) = true)
    (hup : s.dev.chainUp false = true)
    (hback : rev = true → s.dev.blw.paired.contains ((c.packet 0x0303).u 0 1, (c.packet 0x0303).u 1 1) = true)
    (hidle : rev = false → s.dev.segState ((c.packet 0x0303).u 1 1) = segSpareIdle) :
    Starts (.emitSubstitute c) c 0x0303 s 0 [.blw] [] fun t => t.dev.blw = { s.dev.blw with subst := s.dev.blw.subst ++
      [⟨(c.packet 0x0303).u 0 1, (c.packet 0x0303).u 1 1, rev, some (c.pair.val, c.tag.toNat), false⟩] } :=
  starts (fun d => d.schedule _) rfl (fun _ _ _ _ _ => bodyEmitSubstitute_accept hrev hpair hup hback hidle)
    (fun _ _ _ => alters_blw _ _) List.not_mem_nil fun _ _ _ _ ht => ht.parts .blw

theorem emitCountCommit_starts (hroom : s.dev.storeFull 18 (s.dev.setEntries 18) = false) :
    Starts (.emitCountCommit c) c 0x0305 s 0 [.cfg] [Reg.GLB_CFG_STAT] fun t => t.dev.flag F.GLB_CFG_STAT_COMMIT_BUSY = true ∧
      t.dev.cfg = { s.dev.cfg with
        commits := s.dev.cfg.commits ++ [⟨18, s.dev.setEntries 18, some (c.pair.val, c.tag.toNat), 0x0305⟩] } := by
  refine starts (fun d => d.startCommit 18 (some (c.pair.val, c.tag.toNat)) 0x0305) rfl
    (fun _ _ _ _ _ => bodyEmitCountCommit_accept hroom) (fun _ _ _ => alters_startCommit _ _ _ _) (by decide)
    fun _ _ _ t ht => ⟨?_, ht.parts .cfg⟩
  rw [ht.flag F.GLB_CFG_STAT_COMMIT_BUSY rfl rfl]
  exact Dev.flag_setFlag_self _ _ _ (by decide) rfl

/-- `emit.drv_ctrl` on either chain; on chain L the word stays queued while a status is outstanding. -/
theorem emitDrvCtrl_starts {l : Bool} (hl : ((c.packet 0x0306).u 0 1 == 1) = l)
    (hn : (c.packet 0x0306).u 1 1 < s.dev.fld (if l then F.BLW_STAT_L_DRV else F.BLW_STAT_E_DRV))
    (hreg : (c.packet 0x0306).u 3 1 ≤ 31) (hrw : ((c.packet 0x0306).u 2 1 == 1) = true → (c.packet 0x0306).u 3 1 = 5)
    (hup : s.dev.chainUp l = true) (hwait : l = true → s.dev.blw.l.awaiting = true) :
    Starts (.emitDrvCtrl c) c 0x0306 s 0 [.blw] [] fun t =>
      t.dev.blw = (s.dev.queueCtrl l (drvCtrlWord c.pair.val (c.packet 0x0306))).blw :=
  starts (fun d => d.queueCtrl l (drvCtrlWord c.pair.val (c.packet 0x0306))) rfl
    (fun _ _ _ _ _ => bodyEmitDrvCtrl_accept hl hn hreg hrw hup hwait) (fun _ _ _ => alters_queueCtrl _ _ _)
    List.not_mem_nil fun _ _ _ _ ht => ht.parts .blw

end

/-! ## The statement -/

/-- Settles O12: each clause is the rule of its command, and `emit.drv_ctrl` has one rule for both chains. -/
theorem emitterCommandsAct : Obligations.EmitterCommandsAct := by
  unfold Obligations.EmitterCommandsAct
  intro s c
  refine ⟨emitStop_acts s c, emitResume_acts s c, fun hpair hup hback hidle => ?_, emitCountCommit_starts,
    fun hchain hn hreg hrw hup => ?_, fun hchain hn hreg hrw hup hwait => ?_⟩
  · exact emitSubstitute_starts rfl hpair hup hback hidle
  · exact emitDrvCtrl_starts (l := false) (by rw [hchain]; rfl) hn hreg hrw hup nofun
  · exact emitDrvCtrl_starts (l := true) (by rw [hchain]; rfl) hn hreg hrw hup fun _ => hwait

end Sys2Proof.Machine
end

section
/-! SUPPORT. What the servo and the steps of device time alter (R37, R42 to R44). -/

namespace Sys2Proof.Machine

/-! ## What each operation alters -/

theorem alters_time (d : Dev) (x : TimeSt) : Alters [.time] [] d { d with time := x } := by
  refine (Alters.refl d).direct (fun p hp => ?_) rfl rfl rfl rfl rfl
  cases p with
  | time => exact absurd (List.mem_singleton_self _) hp
  | _ => rfl

section
variable {parts : List Part} {regs : List Nat}

theorem Alters.time {x y : Dev} (h : Alters parts regs x y) (v : TimeSt) (hp : .time ∈ parts) :
    Alters parts regs x { y with time := v } :=
  h.trans ((alters_time y v).mono (fun _ hq => List.mem_singleton.mp hq ▸ hp) fun _ ha => absurd ha List.not_mem_nil)

theorem Alters.setRate {x y : Dev} (h : Alters parts regs x y) (r : Int) (hp : .time ∈ parts) (ha : Reg.TIME_RATE ∈ regs) :
    Alters parts regs x (y.setRate r) := (h.time _ hp).put _ _ ha

end

/-- The registers that a step of device time writes (R37). -/
abbrev stepRegs : List Nat := [Reg.TIME_STAT, Reg.TIME_STEP_CNT, C.TIME_STEP_CNT.sat]

/-- The registers that an offset of the servo writes: those of a step, and the rate (R42). -/
abbrev servoRegs : List Nat := Reg.TIME_RATE :: stepRegs

theorem alters_stepNow (d : Dev) (ps : Int) : Alters [.time] stepRegs d (d.stepNow ps) := by
  unfold Dev.stepNow
  exact (((((Alters.refl d).time _ (by decide)).setFlag _ _ (by decide)).setFlag _ _ (by decide)).bump _ (by decide) (by decide)
    rfl).raise _ _ _

theorem alters_placeStep (d : Dev) (ps : Int) : Alters [.time] stepRegs d (d.placeStep ps) := by
  have hold : Alters [.time] stepRegs d ({ d with time := { d.time with heldStep := some ps } }.setFlag F.TIME_STAT_STEP_PENDING true) :=
    ((Alters.refl d).time _ (by decide)).setFlag _ _ (by decide)
  unfold Dev.placeStep
  exact .ite (fun _ => hold) fun _ => .ite (fun _ => alters_stepNow d ps) fun _ => hold

theorem alters_placeHeld (d : Dev) : Alters [.time] stepRegs d d.placeHeld := by
  unfold Dev.placeHeld
  split
  · exact .ite (fun _ => alters_stepNow d _) fun _ => .refl d
  · exact .refl d

theorem alters_slew (d : Dev) (theta : Int) (dt : Nat) : Alters [.time] servoRegs d (d.slew theta dt) := by
  unfold Dev.slew
  exact (((Alters.refl d).time _ (by decide)).setFlag _ _ (by decide)).setRate _ (by decide) (by decide)

theorem alters_learnOn (d : Dev) : Alters [.time] [] d d.learnOn := by
  unfold Dev.learnOn
  exact .ite (fun _ => alters_time d _) fun _ => alters_time d _

/-- What the servo does with an offset: a step, or the slewing branch. -/
def Dev.servoActs (d : Dev) (theta : Int) (dt : Nat) : Dev :=
  if !d.flag F.TIME_STAT_VALID then d.placeStep theta
  else if decide (((d.par P.time_step_ns 0 : Nat) * 1000 : Int) ≤ theta) && d.flag F.TIME_CTL_STEP_EN then d.placeStep theta
  else d.slew theta dt

/-- The part that has noted an offset: discipline is on, and the offset is the last one. -/
def Dev.noteOffset (d : Dev) : Dev :=
  let x : Dev := { d.learnOn with time := { d.learnOn.time with lastOffset := some d.learnOn.time.ticks } }
  (x.setFlag F.TIME_STAT_HOLDOVER false).setFlag F.TIME_STAT_DISCIPLINED true

theorem applyOffset_eq (d : Dev) (theta : Int) : ∃ dt, d.applyOffset theta = d.noteOffset.servoActs theta dt := ⟨_, rfl⟩

theorem alters_servoActs (d : Dev) (theta : Int) (dt : Nat) : Alters [.time] servoRegs d (d.servoActs theta dt) := by
  have hstep : Alters [.time] servoRegs d (d.placeStep theta) :=
    (alters_placeStep d theta).mono (fun _ hp => hp) fun a => List.mem_cons_of_mem _
  unfold Dev.servoActs
  exact .ite (fun _ => hstep) fun _ => .ite (fun _ => hstep) fun _ => alters_slew d theta dt

theorem alters_applyOffset (d : Dev) (theta : Int) : Alters [.time] servoRegs d (d.applyOffset theta) := by
  have hnote : Alters [.time] servoRegs d d.noteOffset :=
    ((((alters_learnOn d).mono (fun _ hp => hp) fun _ ha => absurd ha List.not_mem_nil).time _ (by decide)).setFlag _ _
      (by decide)).setFlag _ _ (by decide)
  obtain ⟨dt, h⟩ := applyOffset_eq d theta
  rw [h]
  exact hnote.trans (alters_servoActs _ theta dt)

/-! ## What holds of the last offset (R44) -/

/-- HOLDOVER and the time of the last offset are as they were. -/
structure OffsetKept (x y : Dev) : Prop where
  holdover : y.flag F.TIME_STAT_HOLDOVER = x.flag F.TIME_STAT_HOLDOVER
  last : y.time.lastOffset = x.time.lastOffset

theorem OffsetKept.trans {x y z : Dev} (h : OffsetKept x y) (g : OffsetKept y z) : OffsetKept x z :=
  ⟨g.holdover.trans h.holdover, g.last.trans h.last⟩

/-- A flag of `TIME_STAT` other than HOLDOVER. -/
theorem offsetKept_setFlag (d : Dev) (f : Fld) (b : Bool) (hw : f.lo + f.width ≤ 32)
    (ha : F.TIME_STAT_HOLDOVER.addr ≠ f.addr ∨ F.TIME_STAT_HOLDOVER.lo + F.TIME_STAT_HOLDOVER.width ≤ f.lo ∨
      f.lo + f.width ≤ F.TIME_STAT_HOLDOVER.lo) : OffsetKept d (d.setFlag f b) := ⟨Dev.flag_setFlag_apart d f _ b hw ha, rfl⟩

theorem offsetKept_countStep (d : Dev) : OffsetKept d ((d.bump C.TIME_STEP_CNT).raise Ev.timeStep) :=
  ⟨Dev.flag_bumpBy_ne d C.TIME_STEP_CNT 1 _ (by decide) (by decide), congrArg TimeSt.lastOffset (Dev.bump_time d _)⟩

theorem offsetKept_stepNow (d : Dev) (ps : Int) : OffsetKept d (d.stepNow ps) := by
  have hmove (n : Nat) : OffsetKept d { d with time := { d.time with acc := n, heldStep := none } } := ⟨rfl, rfl⟩
  unfold Dev.stepNow
  exact (hmove _).trans <| (offsetKept_setFlag _ F.TIME_STAT_VALID true (by decide) (by decide)).trans <|
    (offsetKept_setFlag _ F.TIME_STAT_STEP_PENDING false (by decide) (by decide)).trans (offsetKept_countStep _)

theorem offsetKept_placeStep (d : Dev) (ps : Int) : OffsetKept d (d.placeStep ps) := by
  let x : Dev := { d with time := { d.time with heldStep := some ps } }
  have hold : OffsetKept d (x.setFlag F.TIME_STAT_STEP_PENDING true) :=
    .trans (y := x) ⟨rfl, rfl⟩ (offsetKept_setFlag x _ _ (by decide) (by decide))
  unfold Dev.placeStep
  dsimp only
  split_ifs
  · exact hold
  · exact offsetKept_stepNow d ps
  · exact hold

theorem offsetKept_setRate (d : Dev) (r : Int) : OffsetKept d (d.setRate r) := by
  unfold Dev.setRate
  exact .trans (y := { d with time := { d.time with rate := r } }) ⟨rfl, rfl⟩ ⟨Dev.flag_put_ne _ _ _ _ (by decide), rfl⟩

theorem offsetKept_slew (d : Dev) (theta : Int) (dt : Nat) : OffsetKept d (d.slew theta dt) := by
  have hint (f : Int) : OffsetKept d { d with time := { d.time with fInt := f, heldStep := none } } := ⟨rfl, rfl⟩
  unfold Dev.slew
  exact (hint _).trans ((offsetKept_setFlag _ F.TIME_STAT_STEP_PENDING false (by decide) (by decide)).trans (offsetKept_setRate _ _))

theorem offsetKept_servoActs (d : Dev) (theta : Int) (dt : Nat) : OffsetKept d (d.servoActs theta dt) := by
  unfold Dev.servoActs
  split_ifs
  · exact offsetKept_placeStep d theta
  · exact offsetKept_placeStep d theta
  · exact offsetKept_slew d theta dt

theorem ticks_learnOn (d : Dev) : d.learnOn.time.ticks = d.time.ticks := by
  unfold Dev.learnOn
  dsimp only
  split <;> rfl

theorem holdover_noteOffset (d : Dev) : d.noteOffset.flag F.TIME_STAT_HOLDOVER = false := by
  unfold Dev.noteOffset
  dsimp only
  rw [Dev.flag_setFlag_apart _ _ _ _ (by decide) (by decide)]
  exact Dev.flag_setFlag_self _ _ _ (by decide) rfl

/-- Every offset applied clears HOLDOVER, and is the last one from then on (R44). -/
theorem applyOffset_spec (d : Dev) (theta : Int) : (d.applyOffset theta).flag F.TIME_STAT_HOLDOVER = false ∧
    (d.applyOffset theta).time.lastOffset = some d.time.ticks := by
  obtain ⟨dt, h⟩ := applyOffset_eq d theta
  have hk := offsetKept_servoActs d.noteOffset theta dt
  rw [h, hk.holdover, hk.last]
  exact ⟨holdover_noteOffset d, congrArg some (ticks_learnOn d)⟩

end Sys2Proof.Machine
end

section
/-! SUPPORT. The commands of device time (R38, R40, R41, R56). -/

namespace Sys2Proof.Machine

/-! ## `time.mark` (R40, R41) -/

/-- Counting a mark leaves the source applied as it was. -/
theorem activeSrc_countMark (d : Dev) : (d.bump C.TIME_MARK_CNT).activeSrc = d.activeSrc := by
  have hsource : (d.bump C.TIME_MARK_CNT).fld F.TIME_CTL_SOURCE = d.fld F.TIME_CTL_SOURCE :=
    Dev.fld_bumpBy_ne d _ 1 _ (by decide) (by decide)
  have hlock : (d.bump C.TIME_MARK_CNT).locked = d.locked := Dev.flag_bumpBy_ne d _ 1 _ (by decide) (by decide)
  have hmaster : (d.bump C.TIME_MARK_CNT).otherMaster = d.otherMaster := by unfold Dev.otherMaster; rw [Dev.bump_peer]
  unfold Dev.activeSrc
  rw [hsource, hlock, hmaster]

theorem alters_markServo (d : Dev) (cap tSrc : Nat) : Alters [.time] servoRegs d (d.markServo cap tSrc) := by
  unfold Dev.markServo
  exact .ite (fun _ => alters_applyOffset d _) fun _ => .refl d

/-- A mark is counted, and the servo runs for it. -/
def Dev.takeMark (d : Dev) (tSrc : Nat) : Dev := (d.bump C.TIME_MARK_CNT).markServo d.capture tSrc

theorem alters_takeMark (d : Dev) (tSrc : Nat) : Alters [.time] [Reg.TIME_MARK_CNT, C.TIME_MARK_CNT.sat, Reg.TIME_STAT, Reg.TIME_RATE,
    Reg.TIME_STEP_CNT] d (d.takeMark tSrc) :=
  ((Alters.refl d).bump C.TIME_MARK_CNT (by decide) (by decide) rfl).trans
    ((alters_markServo _ _ tSrc).mono (fun _ hp => hp) (by decide))

theorem cnt_takeMark (d : Dev) (tSrc : Nat) :
    (d.takeMark tSrc).cnt C.TIME_MARK_CNT = min (cntTop C.TIME_MARK_CNT) (d.cnt C.TIME_MARK_CNT + 1) := by
  have hservo : (d.takeMark tSrc).cnt C.TIME_MARK_CNT = (d.bump C.TIME_MARK_CNT).cnt C.TIME_MARK_CNT :=
    congrArg BitVec.toNat ((alters_markServo _ _ tSrc).reg Reg.TIME_MARK_CNT (by decide))
  rw [hservo]
  exact Dev.cnt_bumpBy d _ 1 (by decide)

/-- Where host marks are not the source applied, a mark is only counted. -/
theorem takeMark_counted (d : Dev) (tSrc : Nat) (h : d.activeSrc ≠ 1) : d.takeMark tSrc = d.bump C.TIME_MARK_CNT :=
  if_neg (by rwa [activeSrc_countMark])

/-- Where host marks are the source applied, a mark is an offset applied. -/
theorem lastOffset_takeMark (d : Dev) (tSrc : Nat) (h : d.activeSrc = 1) :
    (d.takeMark tSrc).time.lastOffset = some d.time.ticks := by
  unfold Dev.takeMark Dev.markServo
  rw [if_pos ((activeSrc_countMark d).trans h), (applyOffset_spec _ _).2, Dev.bump_time]

theorem timeMark_acts (s : State) (c : Cmd) :
    ActsFast (.timeMark c) c 0x0102 s (leBytes 8 s.dev.capture ++ leBytes 4 (s.dev.reg Reg.TIME_RATE).toNat) [.time]
      [Reg.TIME_MARK_CNT, C.TIME_MARK_CNT.sat, Reg.TIME_STAT, Reg.TIME_RATE, Reg.TIME_STEP_CNT] (fun t =>
        Counts C.TIME_MARK_CNT 1 s t ∧
        (s.dev.activeSrc ≠ 1 → t.dev.time = s.dev.time ∧ t.dev.reg Reg.TIME_STAT = s.dev.reg Reg.TIME_STAT) ∧
        (s.dev.activeSrc = 1 → t.dev.time.lastOffset = some s.dev.time.ticks)) := by
  refine actsFast (fun d => d.takeMark ((c.packet 0x0102).u 0 8)) rfl (fun _ _ _ => rfl) (fun _ _ _ => alters_takeMark _ _) (by decide)
    fun p m k t ht => ⟨?_, fun hne => ⟨?_, ?_⟩, fun heq => ?_⟩
  · exact (ht.cnt C.TIME_MARK_CNT rfl rfl).trans (cnt_takeMark _ _)
  · have htime : t.dev.time = _ := ht.parts .time
    rw [htime, takeMark_counted (withQueues s p m k) _ hne]
    exact Dev.bump_time _ _
  · rw [ht.reg Reg.TIME_STAT rfl rfl, takeMark_counted (withQueues s p m k) _ hne]
    exact Dev.reg_bumpBy_ne _ _ _ _ (by decide) (by decide)
  · have htime : t.dev.time = _ := ht.parts .time
    rw [htime]
    exact lastOffset_takeMark _ _ heq

/-! ## `time.set` and `time.fmeas` (R38, R56) -/

/-- Device time takes a value in ns; a step that was held is dropped, and time is valid (R38). -/
def Dev.setNow (d : Dev) (ns : Nat) : Dev :=
  ({ d with time := { d.time with acc := 5 * 2 ^ 39 * ns, heldStep := none } }.setFlag F.TIME_STAT_VALID true).setFlag
    F.TIME_STAT_STEP_PENDING false

theorem alters_setNow (d : Dev) (ns : Nat) : Alters [.time] [Reg.TIME_STAT] d (d.setNow ns) :=
  (((Alters.refl d).time _ (by decide)).setFlag _ _ (by decide)).setFlag _ _ (by decide)

theorem bodyTimeSet_ok {p : Packet} {mem : List Host.Cell} {d : Dev} (hx : p.u 0 8 < 2 ^ 62) (hr : d.atRest = true) :
    bodyTimeSet p mem d = .ok (d.setNow (p.u 0 8)) [] :=
  refuseIf_false (decide_eq_false (Nat.not_le.mpr hx)) (refuseIf_false (not_of_true hr) rfl)

theorem timeSet_acts {s : State} {c : Cmd} (hx : (c.packet 0x0103).u 0 8 < 2 ^ 62) (hr : s.dev.atRest = true) :
    Acts (.timeSet c) c 0x0103 s [] [.time] [Reg.TIME_STAT] fun t =>
      t.dev.now = (c.packet 0x0103).u 0 8 ∧ t.dev.time.heldStep = none ∧ t.dev.flag F.TIME_STAT_VALID = true ∧
      t.dev.flag F.TIME_STAT_STEP_PENDING = false := by
  refine acts (fun d => d.setNow ((c.packet 0x0103).u 0 8)) rfl (fun _ _ _ _ _ => bodyTimeSet_ok hx hr) (fun _ _ _ => alters_setNow _ _)
    (by decide) fun p m k t ht => ?_
  have htime : t.dev.time = { s.dev.time with acc := 5 * 2 ^ 39 * (c.packet 0x0103).u 0 8, heldStep := none } := ht.parts .time
  refine ⟨?_, by rw [htime], ?_, ?_⟩
  · unfold Dev.now
    rw [htime]
    show 2 * (5 * 2 ^ 39 * (c.packet 0x0103).u 0 8) / (5 * 2 ^ 40) = _
    omega
  · rw [ht.flag F.TIME_STAT_VALID rfl rfl]
    exact (Dev.flag_setFlag_apart _ _ _ _ (by decide) (by decide)).trans (Dev.flag_setFlag_self _ _ _ (by decide) rfl)
  · rw [ht.flag F.TIME_STAT_STEP_PENDING rfl rfl]
    exact Dev.flag_setFlag_self _ _ _ (by decide) rfl

/-- A measurement begins (R56). -/
def Dev.fmeasStart (d : Dev) (input gate : Nat) : Dev :=
  { d with time := { d.time with fmeas := some ⟨input, gate, [], 0⟩ } }.setFlag F.TIME_STAT_FMEAS_BUSY true

theorem bodyTimeFmeas_accept {p : Packet} {mem : List Host.Cell} {d : Dev} (hi : p.u 0 1 ≤ 10) (hlo : 10 ≤ p.u 2 2)
    (hhi : p.u 2 2 ≤ 10000) : bodyTimeFmeas p mem d = .accept (d.fmeasStart (p.u 0 1) (p.u 2 2)) 0 :=
  refuseIf_false (decide_eq_false (Nat.not_lt.mpr hi)) (refuseIf_false (not_of_true (decide_eq_true ⟨hlo, hhi⟩)) rfl)

theorem timeFmeas_starts {s : State} {c : Cmd} (hi : (c.packet 0x0104).u 0 1 ≤ 10) (hlo : 10 ≤ (c.packet 0x0104).u 2 2)
    (hhi : (c.packet 0x0104).u 2 2 ≤ 10000) : Starts (.timeFmeas c) c 0x0104 s 0 [.time] [Reg.TIME_STAT] fun t =>
      t.dev.time = { s.dev.time with fmeas := some ⟨(c.packet 0x0104).u 0 1, (c.packet 0x0104).u 2 2, [], 0⟩ } ∧
      t.dev.flag F.TIME_STAT_FMEAS_BUSY = true := by
  refine starts (fun d => d.fmeasStart _ _) rfl (fun _ _ _ _ _ => bodyTimeFmeas_accept hi hlo hhi)
    (fun _ _ _ => ((Alters.refl _).time _ (by decide)).setFlag _ _ (by decide)) (by decide) fun _ _ _ t ht => ⟨ht.parts .time, ?_⟩
  rw [ht.flag F.TIME_STAT_FMEAS_BUSY rfl rfl]
  exact Dev.flag_setFlag_self _ _ _ (by decide) rfl

/-- Settles O6: each clause is the rule of its command. -/
theorem timeCommandsAct : Obligations.TimeCommandsAct := by
  unfold Obligations.TimeCommandsAct
  intro s c
  exact ⟨timeMark_acts s c, timeSet_acts, timeFmeas_starts⟩

end Sys2Proof.Machine
end

section
/-! SUPPORT. A frequency measurement from edge to edge, and its end (R57). -/

namespace Sys2Proof.Machine

/-- An edge takes its index, and the edges that it skips are missing (R57). -/
theorem Fmeas.edge_eq (m : Fmeas) (stamp : Nat) : m.edge stamp = { m with
    edges := (fmeasIndex m.edges stamp, stamp) :: m.edges
    missing := m.missing + (m.edges.head?.map fun e => fmeasIndex m.edges stamp - e.1 - 1).getD 0 } := by
  obtain ⟨input, gate, edges, missing⟩ := m
  cases edges with
  | nil => rfl
  | cons e l => rfl

/-- The measurement is over, and its command is not yet. -/
def Dev.fmeasClear (d : Dev) : Dev := { d with time := { d.time with fmeas := none } }.setFlag F.TIME_STAT_FMEAS_BUSY false

theorem fmeasEnd_some {d : Dev} {m : Fmeas} (h : d.time.fmeas = some m) :
    d.fmeasEnd = (d.fmeasClear.completeOp 0x0104 m.result.1 m.result.2).raise Ev.fmeasDone := by
  unfold Dev.fmeasEnd
  rw [h]
  rfl

section
variable {s : State} {m : Fmeas} (h : s.dev.time.fmeas = some m)
include h

theorem gives_fmeasEdge (stamp : Nat) : Gives (.fmeasEdge stamp) s fun t =>
    t.dev.time = { s.dev.time with fmeas := some { m with
      edges := (fmeasIndex m.edges stamp, stamp) :: m.edges
      missing := m.missing + (m.edges.head?.map fun e => fmeasIndex m.edges stamp - e.1 - 1).getD 0 } } ∧
    Leaves [.time] [] s t := by
  refine gives_step rfl rfl (alters_time s.dev.begin_ _) List.not_mem_nil fun t ht _ => ?_
  have htime : t.dev.time = { s.dev.time with fmeas := s.dev.time.fmeas.map (·.edge stamp) } := ht.parts .time
  rw [htime, h, Option.map_some, Fmeas.edge_eq]

theorem gives_fmeasGateEnd {r : Running} (hr : (s.dev.cmd.running.filter fun r => r.pkt.opcode.toNat == 0x0104) = [r])
    (ha : Awaits s.dev r) : Gives .fmeasGateEnd s fun t => Completed s t r m.result.1 m.result.2 ∧ Pending t Ev.fmeasDone ∧
      t.dev.time = { s.dev.time with fmeas := none } ∧ t.dev.flag F.TIME_STAT_FMEAS_BUSY = false ∧
      Leaves [.time] [Reg.TIME_STAT] s t := by
  have hend : s.dev.begin_.fmeasEnd = (s.dev.begin_.fmeasClear.finish r m.result.1 m.result.2).raise Ev.fmeasDone := by
    rw [fmeasEnd_some (d := s.dev.begin_) h, completeOp_one (d := s.dev.begin_.fmeasClear) hr]
  have hclear : Alters [.time] [Reg.TIME_STAT] s.dev.begin_ s.dev.begin_.fmeasClear :=
    ((Alters.refl _).time _ (by decide)).setFlag _ _ (by decide)
  have hworks : Works [.time] [Reg.TIME_STAT] s.dev.begin_ s.dev.begin_.fmeasEnd := by
    rw [hend]
    exact hclear.works.trans ((works_finish _ _ _ _).trans ((Alters.refl _).raise _ _ _).works)
  obtain ⟨hdone, hset⟩ := step_finish (f := fun _ d => d.fmeasEnd) (e := s.dev.begin_.fmeasClear) ha (hend ▸ cmdFrame_raise _ _ _ _)
    (hend ▸ grows_same fun _ => rfl) rfl
  refine ⟨_, rfl, hdone, ?_, hset.parts .time, ?_, hworks.stepLeaves (by decide)⟩
  · exact onDev_raises s (fun _ d => d.fmeasEnd) ⟨Ev.fmeasDone, false, 0, 0⟩ (hend ▸ List.mem_append_right _ (List.mem_singleton_self _))
      (by decide)
  · rw [hset.flag F.TIME_STAT_FMEAS_BUSY rfl rfl]
    exact Dev.flag_setFlag_self _ _ _ (by decide) rfl

end

/-- Settles O7: the rule of an edge, and that of the gate's end. -/
theorem measurementRunsAndEnds : Obligations.MeasurementRunsAndEnds := by
  unfold Obligations.MeasurementRunsAndEnds
  intro s m h
  exact ⟨gives_fmeasEdge h, fun r hr ha => gives_fmeasGateEnd h hr ha⟩

end Sys2Proof.Machine
end

section
/-! SUPPORT. The end of discipline (R44), and the ageing estimate after a day of it (R35). -/

namespace Sys2Proof.Machine

/-! ## Holdover (R44) -/

theorem alters_breakDiscipline (d : Dev) : Alters [.time] [Reg.TIME_STAT] d d.breakDiscipline :=
  ((Alters.refl d).time _ (by decide)).setFlag _ _ (by decide)

/-- The device is in holdover, at the integrator's rate. -/
def Dev.heldOver (d : Dev) : Dev := ((d.breakDiscipline.setFlag F.TIME_STAT_HOLDOVER true).raise Ev.timeHoldover).setRate d.time.fInt

theorem alters_heldOver (d : Dev) : Alters [.time] [Reg.TIME_STAT, Reg.TIME_RATE] d d.heldOver :=
  ((((alters_breakDiscipline d).mono (fun _ hp => hp) (by decide)).setFlag _ _ (by decide)).raise _ _ _).setRate _ (by decide) (by decide)

/-- Holdover is entered by a device that has applied offsets, is not on FREE, and is not in holdover yet. -/
theorem enterHoldover_enters {d : Dev} (hl : d.time.lastOffset.isSome = true) (hs : d.fld F.TIME_CTL_SOURCE ≠ 3)
    (hh : d.flag F.TIME_STAT_HOLDOVER = false) : d.enterHoldover = d.heldOver.bump C.TIME_HOLDOVER_CNT := by
  have hnone : ¬d.time.lastOffset.isNone = true := by rw [← Option.not_isSome, hl]; decide
  unfold Dev.enterHoldover
  rw [if_neg hnone, if_neg hs, if_neg (Bool.not_eq_true _ ▸ hh)]
  rfl

/-- A flag of `TIME_STAT` in holdover is what holdover leaves of it. -/
theorem flag_enterHoldover {s t : State} {f : Fld} (hf : f.addr = Reg.TIME_STAT)
    (ht : Settled s (s.dev.begin_.heldOver.bump C.TIME_HOLDOVER_CNT) t) :
    t.dev.flag f = (s.dev.begin_.breakDiscipline.setFlag F.TIME_STAT_HOLDOVER true).flag f := by
  have hrate : f.addr ≠ Reg.TIME_RATE := by rw [hf]; decide
  rw [ht.flag f (by rw [hf]; rfl) (by rw [hf]; rfl), Dev.bump, Dev.flag_bumpBy_ne _ _ _ _ (by rw [hf]; decide) (by rw [hf]; decide)]
  exact Dev.flag_put_ne _ _ _ _ hrate

theorem gives_holdover {s : State} (hl : s.dev.time.lastOffset.isSome = true) (hs : s.dev.fld F.TIME_CTL_SOURCE ≠ 3)
    (hh : s.dev.flag F.TIME_STAT_HOLDOVER = false) :
    Gives .holdoverTimeout s fun t => t.dev.flag F.TIME_STAT_HOLDOVER = true ∧ t.dev.flag F.TIME_STAT_DISCIPLINED = false ∧
      t.dev.time.rate = s.dev.time.fInt ∧ t.dev.reg Reg.TIME_RATE = BitVec.ofInt 32 (ratePpb s.dev.time.fInt) ∧
      t.dev.flag F.TIME_STAT_VALID = s.dev.flag F.TIME_STAT_VALID ∧ Counts C.TIME_HOLDOVER_CNT 1 s t ∧ Pending t Ev.timeHoldover ∧
      Leaves [.time] [Reg.TIME_STAT, Reg.TIME_RATE, Reg.TIME_HOLDOVER_CNT, C.TIME_HOLDOVER_CNT.sat] s t := by
  have henter : s.dev.begin_.enterHoldover = s.dev.begin_.heldOver.bump C.TIME_HOLDOVER_CNT := enterHoldover_enters hl hs hh
  have halters : Alters [.time] [Reg.TIME_STAT, Reg.TIME_RATE, Reg.TIME_HOLDOVER_CNT, C.TIME_HOLDOVER_CNT.sat] s.dev.begin_
      (s.dev.begin_.heldOver.bump C.TIME_HOLDOVER_CNT) :=
    ((alters_heldOver _).mono (fun _ hp => hp) (by decide)).bump _ (by decide) (by decide) rfl
  obtain ⟨l, hraised⟩ := raised_bumpBy s.dev.begin_.heldOver C.TIME_HOLDOVER_CNT 1
  obtain ⟨t, hx, ht, hleaves⟩ := gives_step (i := .holdoverTimeout) (f := fun _ d => d.enterHoldover) rfl henter halters (by decide)
    fun _ ht _ => ht
  have htime : t.dev.time = s.dev.begin_.heldOver.time := (ht.parts .time).trans (Dev.bump_time _ _)
  refine ⟨t, hx, ?_, ?_, by rw [htime]; rfl, ?_, ?_, ?_, ?_, hleaves⟩
  · rw [flag_enterHoldover rfl ht]
    exact Dev.flag_setFlag_self _ _ _ (by decide) rfl
  · rw [flag_enterHoldover rfl ht, Dev.flag_setFlag_apart _ _ _ _ (by decide) (by decide)]
    exact Dev.flag_setFlag_self _ _ _ (by decide) rfl
  · rw [ht.reg Reg.TIME_RATE rfl rfl, Dev.bump, Dev.reg_bumpBy_ne _ _ _ _ (by decide) (by decide)]
    exact Dev.reg_put_self _ _ _
  · rw [flag_enterHoldover rfl ht, Dev.flag_setFlag_apart _ _ _ _ (by decide) (by decide)]
    exact Dev.flag_setFlag_apart _ _ _ _ (by decide) (by decide)
  · rw [Counts, ht.cnt C.TIME_HOLDOVER_CNT rfl rfl, Dev.bump, Dev.cnt_bumpBy _ _ _ (by decide)]
    have hcnt : s.dev.begin_.heldOver.cnt C.TIME_HOLDOVER_CNT = s.dev.cnt C.TIME_HOLDOVER_CNT :=
      congrArg BitVec.toNat ((alters_heldOver s.dev.begin_).reg Reg.TIME_HOLDOVER_CNT (by decide))
    rw [hcnt]
  · exact ht.raised ⟨Ev.timeHoldover, false, 0, 0⟩ (hraised ▸ List.mem_append_left _ (List.mem_singleton_self _)) (by decide)

/-- A device that never applied an offset stays as it is; one on FREE is no longer disciplined. -/
theorem enterHoldover_stays {d : Dev} (h : d.time.lastOffset = none ∨ d.fld F.TIME_CTL_SOURCE = 3) :
    d.enterHoldover = if d.time.lastOffset = none then d else d.breakDiscipline := by
  unfold Dev.enterHoldover
  by_cases hl : d.time.lastOffset = none
  · rw [if_pos hl, hl]
    rfl
  · rw [if_neg hl, if_neg (mt Option.isNone_iff_eq_none.mp hl), if_pos (h.resolve_left hl)]

theorem gives_noHoldover {s : State} (h : s.dev.time.lastOffset = none ∨ s.dev.fld F.TIME_CTL_SOURCE = 3) :
    Gives .holdoverTimeout s fun t =>
      t.dev.flag F.TIME_STAT_HOLDOVER = s.dev.flag F.TIME_STAT_HOLDOVER ∧ t.dev.time.rate = s.dev.time.rate ∧
      (s.dev.time.lastOffset = none → t.dev.reg Reg.TIME_STAT = s.dev.reg Reg.TIME_STAT) ∧ Leaves [.time] [Reg.TIME_STAT] s t := by
  have hstays : s.dev.begin_.enterHoldover =
    if s.dev.time.lastOffset = none then s.dev.begin_ else s.dev.begin_.breakDiscipline := enterHoldover_stays h
  obtain ⟨t, hx, ht, hleaves⟩ := gives_step (i := .holdoverTimeout) (f := fun _ d => d.enterHoldover) rfl hstays
    (.ite (fun _ => .refl _) fun _ => alters_breakDiscipline _) (by decide) fun _ ht _ => ht
  have htime : t.dev.time = _ := ht.parts .time
  refine ⟨t, hx, ?_, ?_, fun hl => ?_, hleaves⟩
  · rw [ht.flag F.TIME_STAT_HOLDOVER rfl rfl]
    split
    · rfl
    · exact Dev.flag_setFlag_apart _ _ _ _ (by decide) (by decide)
  · rw [htime]
    split <;> rfl
  · rw [ht.reg Reg.TIME_STAT rfl rfl, if_pos hl]
    rfl

/-! ## The ageing estimate (R35) -/

/-- What the ageing estimate is moved by: the mean of the integrator over the present stretch of discipline, at most 100 ppb. -/
def ageStep (sum : Int) (len : Nat) : Int := clampI (-100) 100 (roundDiv (1000000000 * sum) (2 ^ 40 * len))

theorem ageStep_range (sum : Int) (len : Nat) : -100 ≤ ageStep sum len ∧ ageStep sum len ≤ 100 := by
  unfold ageStep clampI
  omega

/-- A stretch of discipline goes on: the integrator enters its sum over the ticks since it was summed last. -/
theorem learnOn_disciplined {d : Dev} (h : d.flag F.TIME_STAT_DISCIPLINED = true) :
    d.learnOn.time.learnSum = d.time.learnSum + d.time.fInt * (d.time.ticks - d.time.learnAt : Nat) ∧
    d.learnOn.time.learnLen = d.time.learnLen + (d.time.ticks - d.time.learnAt) := by
  unfold Dev.learnOn
  dsimp only
  rw [if_pos h]
  exact ⟨rfl, rfl⟩

theorem gives_ageLearn {s : State} (hen : s.dev.flag F.TIME_CTL_AGE_LEARN_EN = true) (hd : s.dev.flag F.TIME_STAT_DISCIPLINED = true)
    (hlen : 0 < s.dev.time.learnLen + (s.dev.time.ticks - s.dev.time.learnAt)) : Gives .ageLearnTimer s fun t =>
      (t.dev.time.ageMove = some (ageStep (s.dev.time.learnSum + s.dev.time.fInt * (s.dev.time.ticks - s.dev.time.learnAt : Nat))
        (s.dev.time.learnLen + (s.dev.time.ticks - s.dev.time.learnAt))) ∧ t.dev.time.learnLen = 0) ∧ Leaves [.time] [] s t := by
  obtain ⟨hsum, hticks⟩ := learnOn_disciplined (d := s.dev.begin_) hd
  have hage : s.dev.begin_.ageLearn = { s.dev.begin_ with time := { s.dev.time with
      ageMove := some (clampI (-100) 100 s.dev.begin_.learnMean), learnSum := 0, learnLen := 0, learnAt := s.dev.time.ticks } } := by
    refine if_pos ?_
    rw [hticks]
    exact Bool.and_eq_true_iff.mpr ⟨Bool.and_eq_true_iff.mpr ⟨hen, hd⟩, decide_eq_true hlen⟩
  refine gives_step (f := fun _ d => d.ageLearn) rfl hage (alters_time s.dev.begin_ _) List.not_mem_nil fun t ht _ => ?_
  have htime : t.dev.time = _ := ht.parts .time
  rw [htime]
  refine ⟨?_, rfl⟩
  unfold Dev.learnMean
  rw [hsum, hticks]
  rfl

/-- Settles O8: the rule of the holdover timeout where it is entered and where it is not, that of every offset applied, and that of
the ageing estimate. -/
theorem disciplineEnds : Obligations.DisciplineEnds := by
  unfold Obligations.DisciplineEnds
  intro s
  refine ⟨gives_holdover, gives_noHoldover, applyOffset_spec s.dev, fun hen hd hlen => ?_⟩
  obtain ⟨hlo, hhi⟩ := ageStep_range (s.dev.time.learnSum + s.dev.time.fInt * (s.dev.time.ticks - s.dev.time.learnAt : Nat))
    (s.dev.time.learnLen + (s.dev.time.ticks - s.dev.time.learnAt))
  exact gives_imp (gives_ageLearn hen hd hlen) fun t ⟨⟨hmove, hzero⟩, hleaves⟩ => ⟨⟨_, hmove, hlo, hhi, rfl⟩, hzero, hleaves⟩

end Sys2Proof.Machine
end

section
/-! SUPPORT. A slot boundary whose reads find an uncorrectable byte in an engine's memory (R519, R521): the engine's fourth trap in 10 s
resets the part, and with it the slot counter (R45, R578). -/

namespace Sys2Proof.Machine

/-- The part with the PLL locked, engine 63 running and at its fourth trap in 10 s. -/
def fourthTrapNext : Dev :=
  let d := (State.reset.dev.setFlag F.TIME_STAT_LOCK true).setFlag F.CMDQ_STAT_READY true
  { d with memc := { d.memc with traps := [(63, [0, 0, 0])] } }

/-- The slot counter starts again at 0, where the boundary would have counted slot 1. -/
theorem slotNo_fourthTrap :
    ({ State.reset with dev := fourthTrapNext }.onDev fun _ d => if d.locked then d.slotBoundary [.engineByte 63] else d).dev.slotNo = 0 := by
  decide +kernel

/-- Refutes O31: a boundary whose reads bring the fourth trap of an engine in 10 s resets the part, and counts no slot. -/
theorem not_slotsAndFramesFollow : ¬ Obligations.SlotsAndFramesFollow := by
  unfold Obligations.SlotsAndFramesFollow
  intro h
  obtain ⟨hslot, -, -⟩ := h { State.reset with dev := fourthTrapNext }
  obtain ⟨t, hx, hcount, -⟩ := hslot [.engineByte 63] (by decide)
  cases hx
  rw [slotNo_fourthTrap] at hcount
  revert hcount
  decide

end Sys2Proof.Machine
end

section
/-! SUPPORT. The part right after power-on (R45, R289, R381, R557, R577, R581): two registers of the backup domain record the reset, and
everything else stands at its table's value. -/

namespace Sys2Proof.Machine

/-- Only the record of the reset differs from the tables. -/
theorem reg_reset (a : Nat) (hc : a ≠ Reg.RST_CAUSE) (hn : a ≠ Reg.RST_SRC_CNT 0) : State.reset.dev.reg a = regReset a := by
  show sget regReset a [(Reg.RST_CAUSE, 0x1801#32), (Reg.RST_SRC_CNT 0, 1#32)] = _
  rw [sget, if_neg hc.symm, sget, if_neg hn.symm, sget_nil]

/-- A register whose table gives zero holds no domain that is on (R557). -/
theorem domOn_reset (n : Nat) (h : n < 146) : State.reset.dev.domOn n = false := by
  have hzero : ∀ w < 5, regReset (Reg.PWR_DOM_ON w) = 0#32 := by decide +kernel
  have hreg : State.reset.dev.reg (Reg.PWR_DOM_ON (n / 32)) = 0#32 := by
    rw [reg_reset, hzero _ (by omega)] <;> simp only [Reg.PWR_DOM_ON, Reg.RST_CAUSE, Reg.RST_SRC_CNT] <;> omega
  unfold Dev.domOn Dev.bit bitAt
  rw [hreg]
  simp

/-- Settles O60: outside the record of the reset every register reads its table, and every state of the part its initial value. -/
theorem resetLeavesTheTablesValues : Obligations.ResetLeavesTheTablesValues := by
  unfold Obligations.ResetLeavesTheTablesValues
  refine ⟨⟨rfl, rfl, rfl⟩, rfl, rfl, ?_, domOn_reset, rfl, rfl, ?_, ?_, ?_, ?_, fun a _ _ => reg_reset a,
    ?_, ?_, ?_, ?_⟩
  all_goals decide +kernel

end Sys2Proof.Machine
end

section
/-! SUPPORT. What a restore must not lose while its later steps run (R496): the frame of work that touches neither the reset state, nor
the safety island's start, nor what the part shows of its store. -/

namespace Sys2Proof.Machine

/-! ## The frame -/

/-- A register other than the two that show RESTORED and ABSENT. -/
abbrev Apart (a : Nat) : Prop := a ≠ Reg.GLB_STAT ∧ a ≠ Reg.GLB_CFG_STAT

/-- What reading the store found is kept: that it is absent, that ABSENT shows it, and every event raised. -/
structure LogKept (x y : Dev) : Prop where
  absent : y.store.absent = x.store.absent
  shown : y.flag F.GLB_CFG_STAT_ABSENT = x.flag F.GLB_CFG_STAT_ABSENT
  raised : ∃ l, y.evt.raised = x.evt.raised ++ l

/-- Work that keeps what reading the store found, the reset state, the safety island's start and RESTORED. -/
structure Stands (x y : Dev) : Prop extends LogKept x y where
  rst : y.rst = x.rst
  running : y.safe.running = x.safe.running
  restored : y.flag F.GLB_STAT_RESTORED = x.flag F.GLB_STAT_RESTORED

theorem LogKept.trans {x y z : Dev} (h : LogKept x y) (g : LogKept y z) : LogKept x z := by
  obtain ⟨l, hl⟩ := h.raised
  obtain ⟨k, hk⟩ := g.raised
  exact ⟨g.absent.trans h.absent, g.shown.trans h.shown, l ++ k, by rw [hk, hl, List.append_assoc]⟩

theorem LogKept.mem_raised {x y : Dev} (h : LogKept x y) {r : Raised} (hr : r ∈ x.evt.raised) : r ∈ y.evt.raised := by
  obtain ⟨l, hl⟩ := h.raised
  exact hl ▸ List.mem_append_left l hr

theorem Stands.refl (x : Dev) : Stands x x := ⟨⟨rfl, rfl, [], (List.append_nil _).symm⟩, rfl, rfl, rfl⟩

theorem Stands.trans {x y z : Dev} (h : Stands x y) (g : Stands y z) : Stands x z :=
  ⟨h.toLogKept.trans g.toLogKept, g.rst.trans h.rst, g.running.trans h.running, g.restored.trans h.restored⟩

/-- Work that leaves the two registers alone. -/
theorem Stands.of_regs {x y : Dev} (ha : y.store.absent = x.store.absent) (hr : y.rst = x.rst) (hs : y.safe.running = x.safe.running)
    (h0 : y.reg Reg.GLB_STAT = x.reg Reg.GLB_STAT) (h1 : y.reg Reg.GLB_CFG_STAT = x.reg Reg.GLB_CFG_STAT)
    (he : ∃ l, y.evt.raised = x.evt.raised ++ l) : Stands x y :=
  ⟨⟨ha, congrArg (fun w => field w 6 1 == 1) h1, he⟩, hr, hs, congrArg (fun w => field w 0 1 == 1) h0⟩

theorem Alters.stands {x y : Dev} {parts : List Part} {regs : List Nat} (h : Alters parts regs x y)
    (hp : Part.rst ∉ parts ∧ Part.safe ∉ parts ∧ Part.store ∉ parts) (hr : Reg.GLB_STAT ∉ regs ∧ Reg.GLB_CFG_STAT ∉ regs) :
    Stands x y :=
  .of_regs (congrArg StoreSt.absent (h.same _ hp.2.2)) (h.same _ hp.1) (congrArg SafeSt.running (h.same _ hp.2.1)) (h.reg _ hr.1)
    (h.reg _ hr.2) h.raised

theorem Works.stands {x y : Dev} {parts : List Part} {regs : List Nat} (h : Works parts regs x y)
    (hp : Part.rst ∉ parts ∧ Part.safe ∉ parts ∧ Part.store ∉ parts) (hr : Reg.GLB_STAT ∉ regs ∧ Reg.GLB_CFG_STAT ∉ regs) :
    Stands x y :=
  .of_regs (congrArg StoreSt.absent (h.same _ hp.2.2)) (h.same _ hp.1) (congrArg SafeSt.running (h.same _ hp.2.1)) (h.reg _ hr.1 rfl)
    (h.reg _ hr.2 rfl) h.raised

/-! ## Registers apart -/

theorem apart_at {b : Nat} (h : 0x100 < b) (n : Nat) : Apart (b + n) := by
  simp only [Apart, Reg.GLB_STAT, Reg.GLB_CFG_STAT]
  omega

/-! ## One rule per operation of the state -/

section
variable {x y z : Dev}

theorem Stands.put (h : Stands x y) (a : Nat) (v : Word) (ha : Apart a) : Stands x (y.put a v) :=
  h.trans (.of_regs rfl rfl rfl (Dev.reg_put_ne y a _ v ha.1.symm) (Dev.reg_put_ne y a _ v ha.2.symm) ⟨[], (List.append_nil _).symm⟩)

theorem Stands.setFld (h : Stands x y) (f : Fld) (v : Nat) (ha : Apart f.addr) : Stands x (y.setFld f v) := h.put f.addr _ ha

theorem Stands.setFlag (h : Stands x y) (f : Fld) (b : Bool) (ha : Apart f.addr) : Stands x (y.setFlag f b) := h.put f.addr _ ha

theorem Stands.setBit (h : Stands x y) (a n : Nat) (b : Bool) (ha : Apart a) : Stands x (y.setBit a n b) := h.put a _ ha

theorem Stands.raise (h : Stands x y) (n a b : Nat) : Stands x (y.raise n a b) := h.trans (.of_regs rfl rfl rfl rfl rfl ⟨_, rfl⟩)

theorem Stands.sticky (h : Stands x y) (a n src : Nat) (ha : Apart a) : Stands x (y.sticky a n src) := by
  unfold Dev.sticky
  split
  · exact h
  · exact (h.setBit a n true ha).raise _ _ _

theorem Stands.putWide (h : Stands x y) (lo v : Nat) : Stands x (y.putWide lo v) :=
  h.trans (.of_regs rfl rfl rfl rfl rfl ⟨[], (List.append_nil _).symm⟩)

theorem Stands.setCnt (h : Stands x y) (c : Cnt) (v : Nat) (ha : Apart c.addr) : Stands x (y.setCnt c v) := by
  unfold Dev.setCnt
  split
  · exact h.putWide _ _
  · exact h.put _ _ ha

theorem Stands.bumpBy (h : Stands x y) (c : Cnt) (n : Nat) (ha : Apart c.addr) (hs : Apart c.sat) : Stands x (y.bumpBy c n) := by
  unfold Dev.bumpBy
  dsimp only
  split
  · exact ((h.setCnt c _ ha).setBit _ _ _ hs).raise _ _ _
  · exact h.setCnt c _ ha

theorem Stands.bump (h : Stands x y) (c : Cnt) (ha : Apart c.addr) (hs : Apart c.sat) : Stands x (y.bump c) := h.bumpBy c 1 ha hs

/-- Work on the state alone. -/
theorem Stands.state (h : Stands x y) (ha : z.store.absent = y.store.absent := by rfl) (hr : z.rst = y.rst := by rfl)
    (hs : z.safe.running = y.safe.running := by rfl) (hg : z.regs = y.regs := by rfl)
    (he : z.evt.raised = y.evt.raised := by rfl) : Stands x z :=
  h.trans (.of_regs ha hr hs (Dev.reg_congr hg _) (Dev.reg_congr hg _) ⟨[], he.trans (List.append_nil _).symm⟩)

theorem Stands.complete (h : Stands x y) (q tag status : Nat) (results : List Byte) : Stands x (y.complete q tag status results) :=
  h.trans ((works_complete (parts := []) (regs := []) y q tag status results).stands (by decide) (by decide))

theorem Stands.completeOwner (h : Stands x y) (o : Option (Nat × Nat)) (status : Nat) (results : List Byte) :
    Stands x (y.completeOwner o status results) :=
  h.trans ((works_completeOwner (parts := []) (regs := []) y o status results).stands (by decide) (by decide))

theorem Stands.ite {c : Prop} [Decidable c] (h : c → Stands x y) (g : ¬c → Stands x z) : Stands x (if c then y else z) := by
  split
  · exact h ‹_›
  · exact g ‹_›

end

theorem Stands.foldl {α : Type} {f : Dev → α → Dev} {x y : Dev} (h : Stands x y) (l : List α)
    (hf : ∀ z, ∀ a ∈ l, Stands z (f z a)) : Stands x (l.foldl f y) := by
  induction l generalizing y with
  | nil => exact h
  | cons a l ih => exact ih (h.trans (hf y a List.mem_cons_self)) fun z b hb => hf z b (List.mem_cons_of_mem a hb)

end Sys2Proof.Machine
end

section
/-! SUPPORT. What switching domains, starting and stopping chains, and a write of a register's fields leave to a restore (R496): the frame
of `Stands` for each. -/

namespace Sys2Proof.Machine

/-! ## Domains (R557, R562) -/

theorem stands_flushCrossing (d : Dev) (s : Nat) : Stands d (d.flushCrossing s) := by
  unfold Dev.flushCrossing
  dsimp only
  have hqueues := (Stands.refl d).foldl (List.range 8) (f := fun d c =>
    d.setChan (8 * s + c) { d.chan (8 * s + c) with queue := [], xflush := true, openPulse := none }) fun y _ _ =>
      (Stands.refl y).state
  have hblocks := hqueues.foldl (List.range 8) (f := fun d c =>
    d.setTdc (8 * s + c) { d.tdc (8 * s + c) with block := { (d.tdc (8 * s + c)).block with spoiled := true } }) fun y _ _ =>
      (Stands.refl y).state
  exact (hblocks.bumpBy (C.SLICE_EM_XDROP_CNT s) _ (apart_at (by decide) _) (apart_at (by decide) _)).setBit _ 10 true
    (apart_at (by decide) _)

theorem stands_burCancel (d : Dev) (u : Nat) : Stands d (d.burCancel u) :=
  (Stands.refl d).state.setFlag (y := d.setBurSlice u _) _ _ (apart_at (by decide) _)

theorem stands_burPending (d : Dev) (u reason : Nat) : Stands d (d.burPending u reason) := by
  have h (x : BurSlice) : Stands d (d.setBurSlice u x) := (Stands.refl d).state
  unfold Dev.burPending
  exact .ite (fun _ => ((h _).setFlag _ _ (apart_at (by decide) _)).setFld _ _ (apart_at (by decide) _)) fun _ => h _

theorem stands_requestEnd (d : Dev) (r : BurRequest) : Stands d (d.requestEnd r) := by
  unfold Dev.requestEnd
  split
  · exact (Stands.refl d).complete _ _ _ _
  · exact (Stands.refl d).complete _ _ _ _

theorem stands_putRequests (d : Dev) (rs : List BurRequest) : Stands d (d.putRequests rs) :=
  (Stands.refl d).state.foldl _ fun y r _ => stands_requestEnd y r

theorem stands_burnishFail (d : Dev) (u : Nat) : Stands d (d.burnishFail u) := by
  unfold Dev.burnishFail
  dsimp only
  refine .ite (fun _ => .refl d) fun _ => .trans ?_ (stands_putRequests _ _)
  refine ((Stands.refl d).foldl _ fun y r _ => ?_).foldl _ fun y r _ => ?_
  · exact (Stands.refl y).foldl _ fun z v _ => stands_burCancel z v
  · exact (Stands.refl y).foldl _ fun z v _ => stands_burPending z v 1

theorem stands_sliceOff (d : Dev) (s : Nat) : Stands d (d.sliceOff s) := by
  unfold Dev.sliceOff
  dsimp only
  refine .trans (.state ((stands_flushCrossing d s).foldl _ fun y c _ => ?_)) (stands_burnishFail _ s)
  exact (Stands.refl y).state

theorem stands_tapGroupOff (d : Dev) (g : Nat) : Stands d (d.tapGroupOff g) := by
  unfold Dev.tapGroupOff Dev.showTapGroups
  exact ((Stands.refl d).state.setFld _ _ (by decide)).setFld _ _ (by decide)

theorem stands_laneOff (d : Dev) {l : Nat} (hl : l < 4) : Stands d (d.laneOff l) :=
  (moved_laneOff d hl).alters.stands (by decide) (by decide)

theorem stands_switchOff (d : Dev) (n : Nat) : Stands d (d.switchOff n) := by
  have hrefill : Stands d (if n < 64 then d.refill else d) := .ite (fun _ => (Stands.refl d).state) fun _ => .refl d
  have hdom (x : Dev) : Stands x (x.setDom n false) := (Stands.refl x).setBit _ _ _ (apart_at (by decide) _)
  have hoff (x : Dev) : Stands x { x.setDom n false with pwr := { x.pwr with joining := x.pwr.joining.erase n } } := (hdom x).state
  unfold Dev.switchOff
  dsimp only
  refine .ite (fun _ => .refl d) fun _ => (hrefill.trans (hoff _)).trans ?_
  refine .ite (fun _ => stands_sliceOff _ n) fun _ => .ite (fun _ => stands_tapGroupOff _ _) fun _ => .ite (fun _ => ?_) fun _ =>
    .ite (fun h => stands_laneOff _ (by omega)) fun _ => .refl _
  exact (Stands.refl _).state.setBit _ _ _ (by decide)

theorem stands_retarget (d : Dev) : Stands d d.retarget := by
  have hdrop (ns : List Nat) : Stands d (d.dropUnwanted ns) := (Stands.refl d).foldl ns fun y n _ =>
    .ite (fun _ => .ite (fun _ => (Stands.refl y).state) fun _ => stands_switchOff y n) fun _ =>
      (Stands.refl y).state
  have hqueue (x : Dev) (ns : List Nat) : Stands x (x.queueWanted ns) := by
    unfold Dev.queueWanted Dev.showSwitching
    exact (Stands.refl x).state.setFlag _ _ (by decide)
  unfold Dev.retarget
  exact (Stands.ite (fun _ => .refl d) fun _ => hdrop _).trans (hqueue _ _)

/-! ## Chains (R172, R175) -/

theorem stands_setChain (d : Dev) (l : Bool) (c : Chain) : Stands d (d.setChain l c) := (Stands.refl d).state

theorem stands_lampsOff (d : Dev) : Stands d d.lampsOff :=
  (Stands.refl d).foldl _ fun y _ _ => .ite (fun _ => .refl y) fun _ => (Stands.refl y).put _ _ (apart_at (by decide) _)

theorem stands_dropChainOwners (d : Dev) (l : Bool) : Stands d (d.dropChainOwners l) := by
  have hwords (ws : List CtrlWord) : Stands d (ws.foldl (fun d w => d.completeOwner w.owner 0x0204) d) :=
    (Stands.refl d).foldl ws fun y w _ => (Stands.refl y).completeOwner _ _ _
  unfold Dev.dropChainOwners
  dsimp only
  exact .ite (fun _ => hwords _) fun _ => ((hwords _).foldl _ fun y x _ => (Stands.refl y).completeOwner _ _ _).state

theorem stands_chainFault (d : Dev) (l : Bool) : Stands d (d.chainFault l) := by
  have hflags : Stands d (((d.dropChainOwners l).setFlag (if l then F.BLW_STAT_L_FAULT else F.BLW_STAT_E_FAULT) true).setFlag
      (if l then F.BLW_STAT_L_UP else F.BLW_STAT_E_UP) false) := by
    cases l <;> exact ((stands_dropChainOwners d _).setFlag _ _ (by decide)).setFlag _ _ (by decide)
  have hraise := fun c => (hflags.trans (stands_setChain _ l c)).raise Ev.blwChain 0 0
  unfold Dev.chainFault
  exact .ite (fun _ => (hraise _).trans (stands_lampsOff _)) fun _ => (hraise _).state

theorem stands_chainEnable (d : Dev) (l : Bool) : Stands d (d.chainEnable l) := by
  have hen : Stands d (d.setFlag (if l then F.BLW_CTL_L_EN else F.BLW_CTL_E_EN) true) := by
    cases l <;> exact (Stands.refl d).setFlag _ _ (by decide)
  have hup := fun c => hen.trans (stands_setChain _ l c)
  unfold Dev.chainEnable
  exact .ite (fun _ => .refl d) fun _ => .ite (fun _ => hen) fun _ =>
    .ite (fun _ => (hup _).trans (stands_chainFault _ false)) fun _ => hup _

theorem stands_chainDisable (d : Dev) (l : Bool) : Stands d (d.chainDisable l) := by
  have hflags : Stands d ((((d.dropChainOwners l).setFlag (if l then F.BLW_CTL_L_EN else F.BLW_CTL_E_EN) false).setFlag
      (if l then F.BLW_STAT_L_UP else F.BLW_STAT_E_UP) false).setFlag (if l then F.BLW_STAT_L_FAULT else F.BLW_STAT_E_FAULT) false) := by
    cases l <;> exact (((stands_dropChainOwners d _).setFlag _ _ (by decide)).setFlag _ _ (by decide)).setFlag _ _ (by decide)
  have hdown := hflags.trans (stands_setChain _ l {})
  unfold Dev.chainDisable
  exact .ite (fun _ => .refl d) fun _ => .ite (fun _ => hdown.trans (stands_lampsOff _)) fun _ => hdown

end Sys2Proof.Machine
end

section
/-! SUPPORT. What a write of a register's fields, a parameter that takes a value, and what follows a change leave to a restore (R477, R485,
R496, R620): the frame of `Stands` for each. -/

namespace Sys2Proof.Machine

/-! ## Fields of a write (R620) -/

theorem stands_merge (d : Dev) (a : Nat) (v : Word) : Stands d (d.merge a v).2 := by
  cases hr : regRow? a with
  | none =>
    have h : d.merge a v = (d.reg a, d) := by unfold Dev.merge; rw [hr]
    exact h ▸ .refl d
  | some r =>
    rw [merge_eq hr]
    exact (alters_noteBad d _).stands (by decide) (by decide)

section
variable {a : Nat} (ha : Apart a)
include ha

theorem stands_putHeld (d : Dev) (v : Word) : Stands d (d.putHeld a v) := ((Stands.refl d).put a v ha).state

theorem stands_writeChCfg (d : Dev) (v : Word) : Stands d (d.writeChCfg a v) := by
  unfold Dev.writeChCfg
  exact .ite (fun _ => ((Stands.refl d).setBit _ _ true (apart_at (by decide) _)).trans (stands_putHeld ha _ _)) fun _ =>
    stands_putHeld ha d v

end

theorem stands_writeBlwCtl (d : Dev) (v : Word) : Stands d (d.writeBlwCtl v) := by
  have hen (x : Dev) (l b : Bool) : Stands x (if b then x.chainEnable l else x.chainDisable l) :=
    .ite (fun _ => stands_chainEnable x l) fun _ => stands_chainDisable x l
  unfold Dev.writeBlwCtl
  dsimp only
  refine .trans ?_ ((hen _ false _).trans (hen _ true _))
  exact (Stands.ite (fun _ => (Stands.refl d).bump _ (by decide) (by decide)) fun _ => .refl d).put _ _ (by decide)

theorem stands_sourceSet (d : Dev) : Stands d d.sourceSet := by
  unfold Dev.sourceSet Dev.setRate
  exact .ite (fun _ => ((Stands.refl d).state.put _ _ (by decide)).setFlag _ _ (by decide)) fun _ => .refl d

theorem stands_senseRestart (d : Dev) : Stands d d.senseRestart :=
  ((Stands.refl d).setFld F.HK_STAT_SENSE_CUR _ (by decide)).state

theorem stands_roundMode (d : Dev) : Stands d d.roundMode := (Stands.refl d).setFlag _ _ (by decide)

theorem stands_pwrCtlSet (d : Dev) : Stands d d.pwrCtlSet := (Stands.refl d).setFld _ _ (by decide)

theorem stands_chainReset (d : Dev) (c : Nat) : Stands d (d.chainReset c) := by
  unfold Dev.chainReset Dev.setHkChain
  exact ((Stands.refl d).state.setFlag _ _ (apart_at (by decide) _)).setBit _ _ _ (by decide)

theorem stands_chainCfgSet (d : Dev) (c : Nat) (old : Word) : Stands d (d.chainCfgSet c old) := by
  have hshift := fun v => (Stands.refl d).setFld (F.HK_CHAIN_CFG_DC_SHIFT c) v (apart_at (by decide) _)
  unfold Dev.chainCfgSet
  exact .ite (fun _ => hshift _) fun _ => (hshift _).trans (stands_chainReset _ c)

theorem stands_senseCfgSet (d : Dev) (i : Nat) (old : Word) : Stands d (d.senseCfgSet i old) := by
  have hset (x : Dev) (f : Fld) (v : Nat) (hf : f.addr = Reg.HK_SENSE_CFG i) : Stands x (x.setFld f v) :=
    (Stands.refl x).setFld f v (hf ▸ apart_at (by decide) _)
  have hword (x : Dev) : Stands x (x.put (Reg.HK_SENSE_WORD i) 0x00040000#32) := (Stands.refl x).put _ _ (apart_at (by decide) _)
  have hlast (x : Dev) : Stands x (if x.reg (Reg.HK_SENSE_CFG i) = old then x
      else if (x.put (Reg.HK_SENSE_WORD i) 0x00040000#32).fld F.HK_STAT_SENSE_CUR = i then
        { x.put (Reg.HK_SENSE_WORD i) 0x00040000#32 with hk := { x.hk with tripped := false } }
      else x.put (Reg.HK_SENSE_WORD i) 0x00040000#32) :=
    .ite (fun _ => .refl x) fun _ => .ite (fun _ => (hword x).state) fun _ => hword x
  unfold Dev.senseCfgSet
  exact (hset d (F.HK_SENSE_CFG_EXC i) _ rfl).trans <| (hset _ (F.HK_SENSE_CFG_SETTLE_US i) _ rfl).trans <|
    (Stands.ite (fun _ => hset _ (F.HK_SENSE_CFG_CURVE i) _ rfl) fun _ => .refl _).trans (hlast _)

theorem stands_settleWrite (d : Dev) (a : Nat) (old : Word) : Stands d (d.settleWrite a old) := by
  unfold Dev.settleWrite
  exact .ite (fun _ => .ite (fun _ => .refl d) fun _ => stands_sourceSet d) fun _ =>
    .ite (fun _ => .ite (fun _ => stands_senseRestart d) fun _ => .refl d) fun _ =>
    .ite (fun _ => stands_roundMode d) fun _ => .ite (fun _ => stands_pwrCtlSet d) fun _ =>
    .ite (fun _ => stands_chainCfgSet d _ _) fun _ => .ite (fun _ => stands_senseCfgSet d _ _) fun _ => .refl d

theorem stands_setPeerCtl (d : Dev) (v : Word) : Stands d (d.setPeerCtl v) := (alters_setPeerCtl d v).stands (by decide) (by decide)

theorem stands_writeFields (d : Dev) {a : Nat} (v : Word) (ha : Apart a) : Stands d (d.writeFields a v) := by
  have hmerge := stands_merge d a v
  unfold Dev.writeFields
  dsimp only
  refine .ite (fun _ => hmerge.trans (stands_writeChCfg ha _ _)) fun _ => .ite (fun _ => hmerge.trans (stands_putHeld ha _ _)) fun _ =>
    .ite (fun _ => hmerge.trans (stands_writeBlwCtl _ _)) fun _ => .ite (fun _ => ?_) fun _ =>
    .ite (fun _ => hmerge.state.put a _ ha) fun _ => (hmerge.put a _ ha).trans (stands_settleWrite _ a _)
  have hctl := hmerge.trans (stands_setPeerCtl _ (d.merge a v).1)
  exact .ite (fun _ => hctl) fun _ => hctl.trans (stands_retarget _)

/-! ## Parameters (R477) -/

/-- No parameter is a copy of a field of the two registers that show RESTORED and ABSENT. -/
theorem apart_paramParts (i e : Nat) : ∀ x ∈ paramParts i e, Apart x.1.addr := by
  unfold paramParts
  split
  case h_34 => exact fun _ hx => absurd hx List.not_mem_nil
  all_goals
    simp only [List.forall_mem_cons, List.not_mem_nil, false_imp_iff, implies_true, and_true, Apart, Reg.GLB_STAT, Reg.GLB_CFG_STAT,
      Reg.TIME_CTL, Reg.BLW_CTL, Reg.EVT_ROUTE, Reg.HK_CHAIN_CFG, Reg.HK_CTL, Reg.HK_SENSE_CFG, Reg.ING_CTL, Reg.ING_HIST_CFG,
      Reg.ING_HIST_COLS, Reg.ING_HIST_ROWS, Reg.ING_S_BASE_HI, Reg.ING_S_BASE_LO, Reg.ING_S_SIZE, Reg.KILN_BUR_CTL, Reg.PEER_CTL, Reg.PWR_CTL,
      Reg.SCN_CTL, Reg.SLICE_CH_CFG, Reg.SLICE_CH_THR_FIX, Reg.SLICE_EM_CTL, Reg.SLICE_EM_WIN_FIX, Reg.SLICE_KILN_CTL, Reg.TAP_CTL,
      Reg.TAP_T_CAL_X1, Reg.TAP_T_CAL_X2, Reg.TAP_T_DELAY, Reg.TURF_CTL, Reg.MEM_CTL, Reg.KILN_CTL, Reg.SLICE_FE_CTL, Reg.ING_S_CTL]
    omega

theorem mem_partAddrs {ps : List (Fld × Nat)} {a : Nat} (h : a ∈ partAddrs ps) : ∃ x ∈ ps, x.1.addr = a := by
  have step (l : List Nat) (x : Fld × Nat) (hm : a ∈ if l.contains x.1.addr then l else l ++ [x.1.addr]) : a ∈ l ∨ x.1.addr = a := by
    split at hm
    · exact .inl hm
    · exact (List.mem_append.mp hm).imp id fun h => (List.mem_singleton.mp h).symm
  have fold (qs : List (Fld × Nat)) (l : List Nat)
      (hm : a ∈ qs.foldl (fun l x => if l.contains x.1.addr then l else l ++ [x.1.addr]) l) : a ∈ l ∨ ∃ x ∈ qs, x.1.addr = a := by
    induction qs generalizing l with
    | nil => exact .inl hm
    | cons x qs ih =>
      rcases ih _ hm with hl | ⟨y, hy, e⟩
      · exact (step l x hl).imp id fun e => ⟨x, List.mem_cons_self, e⟩
      · exact .inr ⟨y, List.mem_cons_of_mem x hy, e⟩
  exact (fold ps [] h).resolve_left List.not_mem_nil

/-- The registers that a parameter's element is the copy of. -/
theorem apart_partAddrs {i e a : Nat} (h : a ∈ partAddrs (paramParts i e)) : Apart a := by
  obtain ⟨x, hx, rfl⟩ := mem_partAddrs h
  exact apart_paramParts i e x hx

theorem stands_setRing (d : Dev) (e v : Nat) : Stands d (d.setRing e v) := by
  unfold Dev.setRing
  exact ((((Stands.refl d).putWide _ _).put _ _ (apart_at (by decide) _)).put _ _ (apart_at (by decide) _)).setFld _ _
    (apart_at (by decide) _)

theorem stands_setPar (d : Dev) (i e v : Nat) : Stands d (d.setPar i e v) := by
  have hparts := apart_paramParts i e
  unfold Dev.setPar
  refine .ite (fun _ => stands_setRing d e v) fun _ => ?_
  split
  · exact (Stands.refl d).state
  · exact (Stands.refl d).foldl _ fun y x hx => (Stands.refl y).setFld _ _ (hparts x hx)

theorem stands_setLive (d : Dev) (k v : Nat) : Stands d (d.setLive k v) := by
  have haddrs : ∀ a ∈ partAddrs (paramParts (k / 2 ^ 20) (k % 2 ^ 20)), Apart a := fun _ => apart_partAddrs
  unfold Dev.setLive
  dsimp only
  refine .ite (fun _ => .ite (fun _ => (Stands.refl d).setFld _ _ (apart_at (by decide) _)) fun _ => stands_setRing d _ v) fun _ => ?_
  split
  · exact stands_setPar d _ _ v
  · exact (Stands.refl d).foldl _ fun y a ha => .ite (fun _ => .refl y) fun _ =>
      .ite (fun _ => stands_writeFields y _ (haddrs a ha)) fun _ => (Stands.refl y).put a _ (haddrs a ha)

/-! ## What follows a change (R485) -/

theorem stands_setDamper (d : Dev) : Stands d d.setDamper := by
  have hlevel (v : Nat) : Stands d (((d.setFld F.SCN_STAT_DAMPER v).setFld F.THM_STAT_IN_FORCE v).raise Ev.thmDamper) :=
    (((Stands.refl d).setFld _ _ (by decide)).setFld _ _ (by decide)).raise _ _ _
  have hcount (x : Dev) (c : Prop) [Decidable c] : Stands x (if c then x.bump C.THM_LEVEL_CNT else x) :=
    .ite (fun _ => (Stands.refl x).bump _ (by decide) (by decide)) fun _ => .refl x
  unfold Dev.setDamper
  exact .ite (fun _ => .refl d) fun _ => ((hlevel _).trans (hcount _ _)).state

theorem stands_regroup (d : Dev) : Stands d d.regroup := stands_setChain d false _

theorem stands_spareRefresh (d : Dev) : Stands d d.spareRefresh := by
  have hcodes (x : Dev) (k : Nat) : Stands x (x.clearCodes false k) := stands_setChain x false _
  unfold Dev.spareRefresh
  exact (Stands.refl d).foldl _ fun y k _ => ((Stands.ite (fun _ => hcodes y k) fun _ => .refl y).setFld _ _
    (apart_at (by decide) _)).setFld _ _ (apart_at (by decide) _)

theorem stands_autoSubst (d : Dev) (k : Nat) : Stands d (d.autoSubst k) := by
  unfold Dev.autoSubst
  split
  · exact .ite (fun _ => (Stands.refl d).state) fun _ => .refl d
  · exact .refl d

theorem stands_wear (d : Dev) (k n : Nat) : Stands d (d.wear k n) := by
  have hset (x : Dev) (f : Fld) (v : Nat) (hf : f.addr = Reg.BLW_SEG_STAT k) : Stands x (x.setFld f v) :=
    (Stands.refl x).setFld f v (hf ▸ apart_at (by decide) _)
  have hcount (v : Nat) : Stands d (d.putWide (Reg.BLW_SEG_PULSES_LO k) v) := (Stands.refl d).putWide _ _
  unfold Dev.wear
  dsimp only
  refine .ite (fun _ => (hcount _).trans (hset _ (F.BLW_SEG_STAT_WEAR k) 0 rfl)) fun _ => ?_
  have hwarn (x : Dev) (s : Sparse Bool) : Stands x ({ x with blw := { x.blw with wearSaid := s } }.raise Ev.segWear) :=
    (Stands.refl x).state.raise _ _ _
  have hworn (x : Dev) (c : Prop) [Decidable c] : Stands x (if c then (x.setFld (F.BLW_SEG_STAT_STATE k) segWorn).autoSubst k else x) :=
    .ite (fun _ => (hset x (F.BLW_SEG_STAT_STATE k) _ rfl).trans (stands_autoSubst _ k)) fun _ => .refl x
  exact (hcount _).trans ((hset _ (F.BLW_SEG_STAT_WEAR k) _ rfl).trans
    ((Stands.ite (fun _ => hwarn _ _) fun _ => .refl _).trans (hworn _ _)))

theorem stands_wearAll (d : Dev) : Stands d d.wearAll := (Stands.refl d).foldl _ fun y k _ => stands_wear y k 0

theorem stands_showLamp (d : Dev) (k code : Nat) : Stands d (d.showLamp k code) := by
  have hset (x : Dev) (f : Fld) (v : Nat) (hf : f.addr = Reg.BLW_LAMP_STAT k) : Stands x (x.setFld f v) :=
    (Stands.refl x).setFld f v (hf ▸ apart_at (by decide) _)
  unfold Dev.showLamp
  exact (hset d (F.BLW_LAMP_STAT_ON_CODE k) _ rfl).trans ((hset _ (F.BLW_LAMP_STAT_STATE k) _ rfl).trans
    (hset _ (F.BLW_LAMP_STAT_STRETCH k) _ rfl))

theorem stands_pumpL (d : Dev) : Stands d d.pumpL := by
  have hcommit (c : Chain) (f : Frame) : Stands d (d.commitL c f) :=
    (stands_setChain d true _).foldl _ fun y w _ => stands_showLamp y _ _
  unfold Dev.pumpL
  exact .ite (fun _ => hcommit _ _) fun _ => .refl d

theorem stands_refreshLamps (d : Dev) : Stands d d.refreshLamps := by
  unfold Dev.refreshLamps
  dsimp only
  refine .ite (fun _ => .trans ?_ (stands_pumpL _)) fun _ => .refl d
  refine (((Stands.refl d).foldl _ fun y n _ => ?_).foldl _ fun y k _ => ?_).foldl _ fun y k _ => stands_showLamp y k _
  · exact stands_setChain y true _
  · exact stands_setChain y true _

theorem stands_sendClaim (d : Dev) : Stands d d.sendClaim := by
  have hgrants (x : Dev) : Stands x x.recomputeGrants := by
    unfold Dev.recomputeGrants Dev.noteGrants
    exact .ite (fun _ => (Stands.refl x).state.setBit _ 2 true (by decide)) fun _ => (Stands.refl x).state
  have hlead (x : Dev) : Stands x x.leadClaim := by
    unfold Dev.leadClaim
    exact .ite (fun _ => (hgrants x).state) fun _ => .refl x
  exact (Stands.refl d).state.trans (hlead _)

theorem stands_afterChange (d : Dev) (is : List Nat) : Stands d (d.afterChange is) := by
  have hite {x y : Dev} (h : Stands x y) (c : Bool) : Stands x (if c then y else x) := .ite (fun _ => h) fun _ => .refl x
  have hphase (x : Dev) : Stands x x.showPhase := (Stands.refl x).setFld _ _ (by decide)
  unfold Dev.afterChange
  exact (hite (stands_setDamper _) _).trans <| (hite (stands_regroup _) _).trans <| (hite (stands_spareRefresh _) _).trans <|
    (hite (stands_wearAll _) _).trans <| (hite (stands_refreshLamps _) _).trans <| (hite (stands_retarget _) _).trans <|
    (hite (hphase _) _).trans (hite (stands_sendClaim _) _)

theorem stands_grantDone (d : Dev) : Stands d d.grantDone := by
  unfold Dev.grantDone
  split
  · exact .refl d
  · exact ((Stands.refl d).state.setFld _ _ (by decide)).raise _ _ _

/-- OVERLAY lies beside ABSENT in its register. -/
theorem stands_setOverlay (d : Dev) (k : Nat) : Stands d (d.setFld F.GLB_CFG_STAT_OVERLAY k) :=
  ⟨⟨rfl, Dev.flag_setFld_apart d _ _ k (by decide) (by decide), [], (List.append_nil _).symm⟩, rfl, rfl,
    Dev.flag_setFld_apart d _ _ k (by decide) (by decide)⟩

theorem stands_applyChange (d : Dev) (c : Change) (frame : Nat) : Stands d (d.applyChange c frame) := by
  have hlive (drops : List Nat) : Stands d (c.targets.foldl (fun d t => d.setLive t.1 t.2)
      { d with cfg := { d.cfg with live := d.cfg.live.filter fun e => !drops.contains e.1 } }) :=
    (Stands.refl d).state.foldl _ fun y t _ => stands_setLive y t.1 t.2
  have hoverlay (x : Dev) : Stands x (match c.overlay with
    | some k => x.setFld F.GLB_CFG_STAT_OVERLAY k
    | none => x) := by
    cases c.overlay with
    | some k => exact stands_setOverlay x k
    | none => exact .refl x
  have hgrant (x : Dev) : Stands x (if c.by_ = .peerGrant then x.grantDone else x) :=
    .ite (fun _ => stands_grantDone x) fun _ => .refl x
  have hcount (x : Dev) : Stands x ((x.bump C.GLB_CFG_APPLY_CNT).raise Ev.cfgApplied) :=
    ((Stands.refl x).bump _ (by decide) (by decide)).raise _ _ _
  have hend (x : Dev) (results : List Byte) : Stands x (match c.by_ with
    | .command q tag => x.complete q tag 0x0000 results
    | _ => x) := by
    cases c.by_ with
    | command q tag => exact (Stands.refl x).complete _ _ _ _
    | setCommand => exact .refl x
    | peerGrant => exact .refl x
  unfold Dev.applyChange
  exact (hlive (c.drops ++ d.groupDrops c.drops c.targets)).trans <| (hoverlay _).trans <| (hgrant _).trans <|
    (stands_afterChange _ _).trans <| (hcount _).trans <| .ite (fun _ => (Stands.refl _).state) fun _ => hend _ _

end Sys2Proof.Machine
end

section
/-! SUPPORT. The steps of a restore (R496, R497): what each leaves of the log's reading, of the reset state and of the safety island, and
what the last of them records. -/

namespace Sys2Proof.Machine

/-! ## Erasing sets (R498) -/

theorem absent_writeRec (st : StoreSt) (r : LogRec) : (st.writeRec r).absent = st.absent := by
  unfold StoreSt.writeRec
  split
  · split
    · rfl
    · split <;> rfl
  · split <;> rfl

theorem absent_foldl {α : Type} {f : StoreSt → α → StoreSt} (hf : ∀ st a, (f st a).absent = st.absent) (l : List α) (st : StoreSt) :
    (l.foldl f st).absent = st.absent :=
  List.foldlRecOn l f (motive := fun x => x.absent = st.absent) rfl fun x h a _ => (hf x a).trans h

theorem absent_relocate (st : StoreSt) (i : Nat) (keep : LogRec → Bool) : (st.relocate i keep).absent = st.absent := by
  unfold StoreSt.relocate
  split
  · rfl
  · refine (absent_foldl (fun st s => absent_writeRec st _) _ _).trans ((absent_foldl (fun st r => absent_writeRec st r) _ _).trans ?_)
    split <;> rfl

theorem absent_eraseSets (st : StoreSt) (sets : List Nat) : (st.eraseSets sets).absent = st.absent := by
  unfold StoreSt.eraseSets
  refine (absent_foldl (fun _ _ => ?_) _ _).trans ((absent_foldl (fun st _ => absent_writeRec st _) _ _).trans
    (absent_foldl (fun st i => absent_relocate st i _) _ _))
  rfl

/-! ## Step 1: the log is read -/

theorem stands_showStore (d : Dev) : Stands d d.showStore := by
  have hput (x : Dev) (a : Nat) (v : Word) (ha : Apart a) : Stands x (x.put a v) := (Stands.refl x).put a v ha
  unfold Dev.showStore
  refine .ite (fun _ => .refl d) fun _ => ?_
  have hshow := fun a b c e => (((hput d Reg.GLB_STORE_INFO a (by decide)).put Reg.GLB_STORE_FREE b (by decide)).put
    Reg.GLB_STORE_ERASE_MAX c (by decide)).put Reg.GLB_STORE_ERASE_MIN e (by decide)
  exact .ite (fun _ => (hshow _ _ _ _).sticky _ 2 _ (by decide)) fun _ => hshow _ _ _ _

/-- The store is absent or not, and the reset state, as they were. -/
structure Found (x y : Dev) : Prop where
  absent : y.store.absent = x.store.absent
  rst : y.rst = x.rst

theorem Found.trans {x y z : Dev} (h : Found x y) (g : Found y z) : Found x z := ⟨g.absent.trans h.absent, g.rst.trans h.rst⟩

theorem Stands.found {x y : Dev} (h : Stands x y) : Found x y := ⟨h.absent, h.rst⟩

theorem found_put (d : Dev) (a : Nat) (v : Word) : Found d (d.put a v) := ⟨rfl, rfl⟩

theorem found_setBit (d : Dev) (a n : Nat) (b : Bool) : Found d (d.setBit a n b) := ⟨rfl, rfl⟩

theorem Found.foldl {α : Type} {f : Dev → α → Dev} (hf : ∀ y a, Found y (f y a)) (l : List α) (x : Dev) : Found x (l.foldl f x) :=
  List.foldlRecOn l f (motive := Found x) ⟨rfl, rfl⟩ fun y h a _ => h.trans (hf y a)

/-- An absent store is shown and reported; the reset state stays. -/
theorem readLog_absent (d : Dev) (crcErrors : Nat) (older lost : List Nat) :
    Found { d with store := { d.store with absent := true } } (d.readLog true crcErrors older lost) ∧
    (d.readLog true crcErrors older lost).flag F.GLB_CFG_STAT_ABSENT = true ∧
    ⟨Ev.storeAbsent, false, 0, 0⟩ ∈ (d.readLog true crcErrors older lost).evt.raised :=
  ⟨⟨rfl, rfl⟩, Dev.flag_setFlag_self { d with store := { d.store with absent := true } } _ _ (by decide) rfl,
    List.mem_append_right _ (List.mem_singleton_self _)⟩

/-- A store that can be read is not absent; the reset state stays. -/
theorem readLog_present (d : Dev) (crcErrors : Nat) (older lost : List Nat) :
    Found { d with store := { d.store with absent := false } } (d.readLog false crcErrors older lost) := by
  have hcrc (x : Dev) : Found x (x.bumpBy C.GLB_STORE_CRC_ERR_CNT crcErrors) :=
    ((Stands.refl x).bumpBy _ _ (by decide) (by decide)).found
  have hback (x : Dev) : Found x { x with store := x.store.readBack older lost } := ⟨rfl, rfl⟩
  have hfell (x : Dev) (c : Prop) [Decidable c] : Found x (if c then x.sticky Reg.GLB_CFG_EVT 1 Ev.storeFallback else x) :=
    (Stands.ite (fun _ => (Stands.refl x).sticky _ 1 _ (by decide)) fun _ => .refl x).found
  have hlost (x : Dev) (c : Prop) [Decidable c] : Found x (if c then x else x.raise Ev.storeLost) :=
    (Stands.ite (fun _ => .refl x) fun _ => (Stands.refl x).raise _ _ _).found
  unfold Dev.readLog
  exact (hcrc _).trans <| (hback _).trans <| (hfell _ _).trans <| (Found.foldl (fun y k => found_setBit y _ _ _) _ _).trans <|
    (hlost _ _).trans <| (Found.foldl (fun y s => found_put y _ _) _ _).trans (stands_showStore _).found

theorem found_readLog (d : Dev) (absent : Bool) (crcErrors : Nat) (older lost : List Nat) :
    Found { d with store := { d.store with absent := absent } } (d.readLog absent crcErrors older lost) := by
  cases absent with
  | true => exact (readLog_absent d crcErrors older lost).1
  | false => exact readLog_present d crcErrors older lost

/-! ## A pending lifecycle change (R498, R598) -/

/-- COMMIT_BUSY lies beside ABSENT in its register. -/
theorem stands_setCommitBusy (d : Dev) (b : Bool) : Stands d (d.setFlag F.GLB_CFG_STAT_COMMIT_BUSY b) :=
  ⟨⟨rfl, Dev.flag_setFlag_apart d _ _ b (by decide) (by decide), [], (List.append_nil _).symm⟩, rfl, rfl,
    Dev.flag_setFlag_apart d _ _ b (by decide) (by decide)⟩

theorem lifecycleEnd_spec (d : Dev) (c : LifeChange) : LogKept d (d.lifecycleEnd c) ∧ (d.lifecycleEnd c).rst.life = none := by
  have hrest (x : Dev) (b : Bool) : Stands x ((Dev.completeOwner (((erasedSets c.target).foldl (fun (d : Dev) s =>
      d.put (Reg.GLB_STORE_GEN s) 0#32) x).showStore.setFlag F.GLB_CFG_STAT_COMMIT_BUSY b) c.owner 0x0000).raise Ev.lifecycle) :=
    ((((Stands.refl x).foldl _ fun y s _ => (Stands.refl y).put _ _ (apart_at (by decide) _)).trans (stands_showStore _)).trans
      (stands_setCommitBusy _ b) |>.completeOwner _ _ _).raise _ _ _
  let f : Fuses := { d.rst.fuses with
    lifecycle := c.target, seq := d.rst.fuses.seq + 1, svc := if c.target = 3 then d.rst.fuses.svc + 1 else d.rst.fuses.svc,
    identity := d.rst.fuses.identity || c.target == 1 }
  let x : Dev := { d with store := d.store.eraseSets (erasedSets c.target), rst := { d.rst with fuses := f, life := none } }
  have hx : LogKept d x := ⟨absent_eraseSets _ _, rfl, [], (List.append_nil _).symm⟩
  exact ⟨hx.trans (hrest x _).toLogKept, congrArg RstSt.life (hrest x _).rst⟩

theorem resumeLife_spec (d : Dev) : LogKept d d.resumeLife ∧ d.resumeLife.rst.life = none := by
  unfold Dev.resumeLife
  split
  · obtain ⟨hkept, hlife⟩ := lifecycleEnd_spec d ‹_›
    exact ⟨hkept.trans (Stands.state (z := (d.lifecycleEnd _).wipe 0 memCapacity) (.refl _)).toLogKept, hlife⟩
  · exact ⟨(Stands.refl d).toLogKept, ‹_›⟩

/-! ## Steps 2 to 5 -/

theorem stands_setParams (d : Dev) (es : List (Nat × Nat)) :
    Stands d (es.foldl (fun (d : Dev) e => d.setPar (e.1 / 2 ^ 20) (e.1 % 2 ^ 20) e.2) d) :=
  (Stands.refl d).foldl es fun y _ _ => stands_setPar y _ _ _

theorem stands_restoreSet (d : Dev) (set : Nat) : Stands d (d.restoreSet set) := stands_setParams d _

theorem stands_loadCopies (d : Dev) (set : ParamSet) : Stands d (d.loadCopies set) :=
  (Stands.refl d).foldl _ fun y _ _ => (Stands.refl y).foldl _ fun z _ _ => stands_setLive z _ _

theorem stands_loadCounters (d : Dev) : Stands d d.loadCounters := by
  unfold Dev.loadCounters
  exact .ite (fun _ => .refl d) fun _ => ((stands_restoreSet d 18).foldl _ fun y _ _ => (Stands.refl y).putWide _ _).state

theorem stands_loadOverlays (d : Dev) : Stands d d.loadOverlays := by
  have himages (imgs : Sparse Nat) : Stands d (if d.store.absent then d else { d with cfg := { d.cfg with images := imgs } }) :=
    .ite (fun _ => .refl d) fun _ => (Stands.refl d).state
  have happly (x : Dev) (o : Option (Nat × List Byte)) (c : Change) : Stands x (match o with
    | some _ => x
    | none => x.applyChange c x.nextFrameNo) := by
    cases o with
    | some _ => exact .refl x
    | none => exact stands_applyChange x c _
  unfold Dev.loadOverlays
  exact (himages _).trans (.ite (fun _ => .refl _) fun _ => happly _ _ _)

/-! ## Step 6: the safety island starts (R396) -/

theorem stands_lockWith (d : Dev) (causes first : Nat) (counts : Bool) : Stands d (d.lockWith causes first counts) := by
  have hcause (v : Nat) : Stands d (d.setFld F.SAFE_CAUSE_CAUSE v) := (Stands.refl d).setFld _ _ (by decide)
  have hcount (x : Dev) : Stands x (if counts then x.bump C.SAFE_QUENCH_CNT else x) :=
    .ite (fun _ => (Stands.refl x).bump _ (by decide) (by decide)) fun _ => .refl x
  unfold Dev.lockWith
  exact .ite (fun _ => hcause _) fun _ => ((((hcause _).setFld _ _ (by decide)).setFlag _ _ (by decide)).putWide _ _).trans (hcount _)
    |>.setFld _ _ (by decide)

theorem stands_quenchEvent (d : Dev) : Stands d d.quenchEvent := by
  unfold Dev.quenchEvent
  exact .ite (fun _ => .refl d) fun _ => ((Stands.refl d).setBit _ _ true (by decide)).raise _ _ _

theorem stands_setSwitch (d : Dev) (i : Nat) (x : SafeSwitch) : Stands d (d.setSwitch i x) := by
  unfold Dev.setSwitch
  exact ((Stands.refl d).state.setBit _ _ _ (by decide)).setBit _ _ _ (by decide)

theorem stands_setGate (d : Dev) (i : Nat) (on : Bool) : Stands d (d.setGate i on) := stands_setSwitch d i _

theorem stands_setPair2 (d : Dev) (b on : Bool) : Stands d (d.setPair2 b on) := by
  have hgates (i : Nat) : Stands d ((d.setGate i on).setGate (i + 1) on) := (stands_setGate d i on).trans (stands_setGate _ _ on)
  unfold Dev.setPair2
  exact .ite (fun _ => hgates _) fun _ => (hgates _).trans ((stands_setSwitch _ _ _).trans (stands_setSwitch _ _ _))

theorem stands_startTimers (d : Dev) (b : Bool) : Stands d (d.startTimers b) := (stands_setSwitch d _ _).trans (stands_setSwitch _ _ _)

theorem stands_outputA (d : Dev) : Stands d d.outputA := by
  have hset (x : Dev) (f : Fld) (v : Nat) (ha : Apart f.addr) : Stands x (x.setFld f v) := (Stands.refl x).setFld f v ha
  have hoff (x : Dev) : Stands x (if x.aState = 0 then x.setFld F.SAFE_STAT_A_STATE 1 else x) :=
    .ite (fun _ => hset x _ 1 (by decide)) fun _ => .refl x
  have hstart (x : Dev) : Stands x (((x.setFld F.SAFE_STAT_A_STATE 2).setPair2 false true).startTimers false) :=
    (hset x _ 2 (by decide)).trans ((stands_setPair2 _ false true).trans (stands_startTimers _ false))
  have hstop (x : Dev) : Stands x ((((x.setFld F.SAFE_STAT_A_STATE 1).setPair2 false false)).setFld F.SAFE_MOTION_STATE 0) :=
    ((hset x F.SAFE_STAT_A_STATE 1 (by decide)).trans (stands_setPair2 _ false false)).setFld _ _ (by decide)
  have hwait (w : Bool) : Stands d { d with safe := { d.safe with waitTurn := w } } := (Stands.refl d).state
  unfold Dev.outputA
  exact (hwait _).trans <| .ite (fun _ => .refl _) fun _ => (hoff _).trans <|
    .ite (fun _ => (hstart _).state.setFld _ _ (by decide)) fun _ => .ite (fun _ => hstop _) fun _ => .refl _

theorem stands_setB (d : Dev) (v : Nat) : Stands d (d.setB v) := by
  have hstate : Stands d (d.setFld F.SAFE_STAT_B_STATE v) := (Stands.refl d).setFld _ _ (by decide)
  unfold Dev.setB
  refine .ite (fun _ => hstate) fun _ => .ite (fun _ => ?_) fun _ => ?_
  · exact (hstate.trans ((stands_setPair2 _ true true).trans (stands_startTimers _ true))).sticky _ 5 _ (by decide)
  · exact (hstate.trans (stands_setPair2 _ true false)).sticky _ 4 _ (by decide)

theorem stands_outputB (d : Dev) : Stands d d.outputB := by
  have hset (v : Nat) (c : Prop) [Decidable c] : Stands d (if c then d.setB v else d) :=
    .ite (fun _ => stands_setB d v) fun _ => .refl d
  have hkeep (v : Nat) (c : Prop) [Decidable c] : Stands d (if c then d else d.setB v) :=
    .ite (fun _ => .refl d) fun _ => stands_setB d v
  unfold Dev.outputB Dev.fieldOff
  exact .ite (fun _ => .refl d) fun _ => .ite (fun _ => hkeep 0 _) fun _ => .ite (fun _ => hkeep 1 _) fun _ =>
    .ite (fun _ => (stands_setB d 2).state) fun _ => .refl d

/-- The part from which the safety island's lock record has been taken. -/
def Dev.endLockRecord (d : Dev) : Dev :=
  { d with rst := { d.rst with lockRecord := none }, safe := { d.safe with latchOff := d.quenchLock } }

/-- The safety island starts: it runs, and the lock record is taken. -/
structure IslandStarted (x y : Dev) : Prop extends LogKept x y where
  running : y.safe.running = true
  rst : y.rst = { x.rst with lockRecord := none }

theorem safetyStart_spec (d : Dev) : IslandStarted d d.safetyStart := by
  let x (w : Nat) : Dev := { d with safe := { d.safe with running := true, window := w } }
  have hcommissioned (y : Dev) (c : Prop) [Decidable c] (v : Word) :
      Stands y (if c then (y.setFlag F.SAFE_STAT_COMMISSIONED true).put Reg.SAFE_CHECK v else y) :=
    .ite (fun _ => ((Stands.refl y).setFlag _ _ (by decide)).put _ _ (by decide)) fun _ => .refl y
  have hinvalid (y : Dev) (c : Prop) [Decidable c] : Stands y (if c then y.sticky Reg.SAFE_EVT 10 Ev.safeCfgInvalid else y) :=
    .ite (fun _ => (Stands.refl y).sticky _ 10 _ (by decide)) fun _ => .refl y
  have hlock (y : Dev) (r : Option (Nat × Nat)) (power : Bool) (mask : Nat) : Stands y (match r with
      | some (causes, first) => (y.lockWith (causes ||| mask) first power).quenchEvent
      | none => if power then (y.lockWith mask Cause.powerup true).quenchEvent else y) := by
    cases r with
    | some p => exact (stands_lockWith y _ _ _).trans (stands_quenchEvent _)
    | none => exact .ite (fun _ => (stands_lockWith y _ _ _).trans (stands_quenchEvent _)) fun _ => .refl y
  have hoff (y : Dev) : Stands y.endLockRecord y.endLockRecord.outputA.outputB := (stands_outputA _).trans (stands_outputB _)
  have hx : ∃ y, Stands (x (d.slotNo / d.winSlots)) y ∧ d.safetyStart = y.endLockRecord.outputA.outputB :=
    ⟨_, (hcommissioned _ _ _).trans ((hinvalid _ _).trans (hlock _ _ _ _)), rfl⟩
  obtain ⟨y, hy, he⟩ := hx
  have hkept : LogKept d y := .trans (y := x _) ⟨rfl, rfl, [], (List.append_nil _).symm⟩ hy.toLogKept
  have hend : LogKept y y.endLockRecord := ⟨rfl, rfl, [], (List.append_nil _).symm⟩
  rw [he]
  refine ⟨hkept.trans (hend.trans (hoff y).toLogKept), (hoff y).running.trans hy.running, (hoff y).rst.trans ?_⟩
  exact congrArg (fun r => { r with lockRecord := none }) hy.rst

theorem Stands.islandStarted {x y z : Dev} (h : Stands x y) (g : IslandStarted y z) : IslandStarted x z :=
  ⟨h.toLogKept.trans g.toLogKept, g.running, g.rst.trans (congrArg (fun r => { r with lockRecord := none }) h.rst)⟩

theorem loadSafety_spec (d : Dev) : IslandStarted d d.loadSafety := by
  have hfixed (x : Dev) : Stands x ((List.range 256).foldl (fun (d : Dev) e =>
      (d.setPar P.safe_seg_slope e (d.par P.safe_seg_slope e)).setPar P.safe_seg_zero e (d.par P.safe_seg_zero e)) x) :=
    (Stands.refl x).foldl _ fun y e _ => (stands_setPar y P.safe_seg_slope e _).trans (stands_setPar _ P.safe_seg_zero e _)
  unfold Dev.loadSafety
  exact ((stands_setParams d _).trans (hfixed _)).islandStarted (safetyStart_spec _)

/-! ## Step 7 (R557, R604) -/

/-- What the last step of a restore leaves: RESTORED and the event that records the reset. -/
structure Recorded (x y : Dev) : Prop extends LogKept x y where
  restored : y.flag F.GLB_STAT_RESTORED = true
  running : y.safe.running = x.safe.running
  lockRecord : y.rst.lockRecord = x.rst.lockRecord
  life : y.rst.life = x.rst.life
  bakLost : y.rst.bakLost = false
  reset : ∃ r ∈ y.evt.raised, r.src = Ev.reset

/-- The record of the reset is written: nothing of it is reported again. -/
def Dev.noteReset (d : Dev) : Dev :=
  { d with rst := { d.rst with bakLost := false, fuseSeen := (d.reg Reg.RST_FUSE_RESTART_CNT).toNat } }

theorem stands_enterSafeMin (d : Dev) : Stands d d.enterSafeMin := by
  have hstate (x : Dev) : Stands x (x.setPwrState 2) := by
    unfold Dev.setPwrState
    exact .ite (fun _ => .refl x) fun _ => ((Stands.refl x).setFld _ _ (by decide)).raise _ _ _
  have hfrom (p : PwrSt) : Stands d { d with pwr := p } := (Stands.refl d).state
  unfold Dev.enterSafeMin
  exact .ite (fun _ => .refl d) fun _ => ((hfrom _).trans (hstate _)).trans
    (.ite (fun _ => .refl _) fun _ => (Stands.refl _).setFld _ _ (by decide))

theorem logKept_raiseFloor (d : Dev) : LogKept d d.raiseFloor ∧ d.raiseFloor.safe = d.safe ∧ d.raiseFloor.regs = d.regs ∧
    ∃ f, d.raiseFloor.rst = { d.rst with fuses := f } := by
  unfold Dev.raiseFloor
  dsimp only
  split
  · exact ⟨⟨rfl, rfl, [], (List.append_nil _).symm⟩, rfl, rfl, _, rfl⟩
  · exact ⟨(Stands.refl d).toLogKept, rfl, rfl, _, rfl⟩

theorem restored_spec (d : Dev) : Recorded d d.restored := by
  have hflag : LogKept d (d.setFlag F.GLB_STAT_RESTORED true) :=
    ⟨rfl, Dev.flag_setFlag_apart d _ _ true (by decide) (by decide), [], (List.append_nil _).symm⟩
  have hset : (d.setFlag F.GLB_STAT_RESTORED true).flag F.GLB_STAT_RESTORED = true := Dev.flag_setFlag_self d _ _ (by decide) rfl
  have hrun (x : Dev) : Stands x (Dev.roundMode (Dev.retarget
      { x.setFld F.PWR_VF_V 800 with hk := { x.hk with burnishCheck := true } })) :=
    ((Stands.refl x).setFld F.PWR_VF_V 800 (by decide)).state.trans ((stands_retarget _).trans (stands_roundMode _))
  have hsaid (x : Dev) (c : Prop) [Decidable c] (n : Nat) : Stands x (if c then x.raise n else x) :=
    .ite (fun _ => (Stands.refl x).raise n 0 0) fun _ => .refl x
  have hmin (x : Dev) (c : Prop) [Decidable c] : Stands x (if c then x.enterSafeMin else x) :=
    .ite (fun _ => stands_enterSafeMin x) fun _ => .refl x
  have hsteps : ∃ y z a b, Stands (d.setFlag F.GLB_STAT_RESTORED true) y ∧ Stands (y.raise Ev.reset a b) z ∧
      ∃ w, Stands z.noteReset w ∧ d.restored = w.raiseFloor :=
    ⟨_, _, _, _, hrun _, (hsaid _ _ Ev.bakLost).trans ((hsaid _ _ Ev.fuseRestart).trans (hsaid _ _ Ev.bootFallback)), _, hmin _ _, rfl⟩
  obtain ⟨y, z, a, b, hy, hz, w, hw, he⟩ := hsteps
  have hyz : Stands y z := ((Stands.refl y).raise Ev.reset a b).trans hz
  have hdz : Stands (d.setFlag F.GLB_STAT_RESTORED true) z := hy.trans hyz
  have hnote : LogKept z z.noteReset := ⟨rfl, rfl, [], (List.append_nil _).symm⟩
  obtain ⟨hfloor, hsafe, hregs, f, hrst⟩ := logKept_raiseFloor w
  have hzw : LogKept z w.raiseFloor := hnote.trans (hw.toLogKept.trans hfloor)
  rw [he]
  exact {
    toLogKept := hflag.trans (hdz.toLogKept.trans hzw)
    restored := by
      have hflag : w.raiseFloor.flag F.GLB_STAT_RESTORED = w.flag F.GLB_STAT_RESTORED := by
        unfold Dev.flag; rw [Dev.fld_congr hregs]
      exact hflag.trans (hw.restored.trans (hdz.restored.trans hset))
    running := by rw [hsafe]; exact hw.running.trans hdz.running
    lockRecord := by
      have hkept := congrArg RstSt.lockRecord hdz.rst
      rw [hrst, hw.rst]; exact hkept
    life := by
      have hkept := congrArg RstSt.life hdz.rst
      rw [hrst, hw.rst]; exact hkept
    bakLost := by rw [hrst, hw.rst]; rfl
    reset := ⟨⟨Ev.reset, false, a, b⟩, hzw.mem_raised (hz.mem_raised (List.mem_append_right _ (List.mem_singleton_self _))), rfl⟩ }

/-! ## The whole restore (R496) -/

/-- What holds of a restored part: RESTORED, the safety island runs, nothing of the time before the reset is pending, and the reset is
reported, as is a store that is absent. -/
structure RestoreDone (missing : Bool) (y : Dev) : Prop where
  restored : y.flag F.GLB_STAT_RESTORED = true
  running : y.safe.running = true
  absent : y.store.absent = missing
  lockRecord : y.rst.lockRecord = none
  life : y.rst.life = none
  bakLost : y.rst.bakLost = false
  reset : ∃ r ∈ y.evt.raised, r.src = Ev.reset
  noStore : missing = true → y.flag F.GLB_CFG_STAT_ABSENT = true ∧ ⟨Ev.storeAbsent, false, 0, 0⟩ ∈ y.evt.raised

/-- A restore that may begin: what steps 2 to 5 leave, and then the steps 6 and 7. -/
theorem restore_steps {d : Dev} (hphase : d.rst.phase = .running) (hready : d.flag F.CMDQ_STAT_READY = true)
    (hrestored : d.flag F.GLB_STAT_RESTORED = false) (hmem : (d.flag F.MEM_STAT_ACTIVE || d.memHalted) = true) (absent : Bool)
    (crcErrors : Nat) (older lost : List (Nat × Nat × Nat)) :
    ∃ y, Stands (d.readLog absent crcErrors (older.map elementKey) (lost.map elementKey)).resumeLife y ∧
      d.restore absent crcErrors older lost = y.loadSafety.restored := by
  have hempty (x : Dev) : Stands x { x with cfg := { x.cfg with live := [] } } := (Stands.refl x).state
  have hset (x : Dev) (n : Nat) (set : ParamSet) : Stands x ((x.restoreSet n).loadCopies set) :=
    (stands_restoreSet x n).trans (stands_loadCopies _ set)
  have hspeed (x : Dev) (c : Prop) [Decidable c] : Stands x (if c then x.showSpeed else x) :=
    .ite (fun _ => (Stands.refl x).setFld _ _ (by decide)) fun _ => .refl x
  have hguard : ¬(d.rst.phase ≠ .running ∨ d.flag F.CMDQ_STAT_READY = false ∨ d.flag F.GLB_STAT_RESTORED = true
      ∨ (d.flag F.MEM_STAT_ACTIVE || d.memHalted) = false) := by
    simp [hphase, hready, hrestored, hmem]
  unfold Dev.restore
  rw [if_neg hguard]
  exact ⟨_, (hempty _).trans <| (hset _ 16 .calibration).trans <| (stands_loadCounters _).trans <| (hset _ 0 .base).trans <|
    (hspeed _ _).trans <| (stands_afterChange _ _).trans (stands_loadOverlays _), rfl⟩

theorem restore_done {d : Dev} (hphase : d.rst.phase = .running) (hready : d.flag F.CMDQ_STAT_READY = true)
    (hrestored : d.flag F.GLB_STAT_RESTORED = false) (hmem : (d.flag F.MEM_STAT_ACTIVE || d.memHalted) = true) (absent : Bool)
    (crcErrors : Nat) (older lost : List (Nat × Nat × Nat)) : RestoreDone absent (d.restore absent crcErrors older lost) := by
  obtain ⟨y, hy, he⟩ := restore_steps hphase hready hrestored hmem absent crcErrors older lost
  have hlog := found_readLog d absent crcErrors (older.map elementKey) (lost.map elementKey)
  have hnone := readLog_absent d crcErrors (older.map elementKey) (lost.map elementKey)
  obtain ⟨hlife, hend⟩ := resumeLife_spec (d.readLog absent crcErrors (older.map elementKey) (lost.map elementKey))
  have hsafety := loadSafety_spec y
  have hlast := restored_spec y.loadSafety
  have hkept := hlife.trans (hy.toLogKept.trans (hsafety.toLogKept.trans hlast.toLogKept))
  rw [he]
  exact {
    restored := hlast.restored
    running := hlast.running.trans hsafety.running
    absent := hkept.absent.trans hlog.absent
    lockRecord := by rw [hlast.lockRecord, hsafety.rst]
    life := by
      have hyend : y.rst.life = none := by rw [hy.rst]; exact hend
      rw [hlast.life, hsafety.rst]; exact hyend
    bakLost := hlast.bakLost
    reset := hlast.reset
    noStore := by
      rintro rfl
      exact ⟨hkept.shown.trans hnone.2.1, hkept.mem_raised hnone.2.2⟩ }

end Sys2Proof.Machine
end

section
/-! SUPPORT. The reset sequence up to the choice of an image (R36, R582, R584, R587 to R589): what each of its events alters, and what it
leaves. -/

namespace Sys2Proof.Machine

/-! ## Parts of the state that these events write -/

theorem alters_rst (d : Dev) (v : RstSt) : Alters [.rst] [] d { d with rst := v } := by
  refine (Alters.refl d).direct (fun p hp => ?_) rfl rfl rfl rfl rfl
  cases p with
  | rst => exact absurd (List.mem_singleton_self _) hp
  | _ => rfl

theorem alters_rstPwr (d : Dev) (v : RstSt) (w : PwrSt) : Alters [.rst, .pwr] [] d { d with rst := v, pwr := w } := by
  refine (Alters.refl d).direct (fun p hp => ?_) rfl rfl rfl rfl rfl
  cases p with
  | rst => exact absurd List.mem_cons_self hp
  | pwr => exact absurd (List.mem_cons_of_mem _ List.mem_cons_self) hp
  | _ => rfl

theorem alters_safe (d : Dev) (v : SafeSt) : Alters [.safe] [] d { d with safe := v } := by
  refine (Alters.refl d).direct (fun p hp => ?_) rfl rfl rfl rfl rfl
  cases p with
  | safe => exact absurd (List.mem_singleton_self _) hp
  | _ => rfl

theorem alters_shot (d : Dev) (v : Option Shot) : Alters [.shot] [] d { d with shot := v } := by
  refine (Alters.refl d).direct (fun p hp => ?_) rfl rfl rfl rfl rfl
  cases p with
  | shot => exact absurd (List.mem_singleton_self _) hp
  | _ => rfl

theorem alters_kiln (d : Dev) (v : KilnSt) : Alters [.kiln] [] d { d with kiln := v } := by
  refine (Alters.refl d).direct (fun p hp => ?_) rfl rfl rfl rfl rfl
  cases p with
  | kiln => exact absurd (List.mem_singleton_self _) hp
  | _ => rfl

theorem alters_scan (d : Dev) (v : ScanSt) : Alters [.scan] [] d { d with scan := v } := by
  refine (Alters.refl d).direct (fun p hp => ?_) rfl rfl rfl rfl rfl
  cases p with
  | scan => exact absurd (List.mem_singleton_self _) hp
  | _ => rfl

theorem alters_scanRests (d : Dev) : Alters [.turf] [] d d.scanRests := by
  refine (Alters.refl d).direct (fun p hp => ?_) rfl rfl rfl rfl rfl
  cases p with
  | turf => exact absurd (List.mem_singleton_self _) hp
  | _ => rfl

theorem alters_endRetry (d : Dev) : Alters [.host] [] d d.endRetry := by
  refine (Alters.refl d).direct (fun p hp => ?_) rfl rfl rfl rfl rfl
  cases p with
  | host => exact absurd (List.mem_singleton_self _) hp
  | _ => rfl

/-- Work on one part of the state, among what may be altered. -/
theorem Alters.part {parts : List Part} {regs : List Nat} {x y z : Dev} {p : Part} (h : Alters parts regs x y)
    (g : Alters [p] [] y z) (hp : p ∈ parts) : Alters parts regs x z :=
  h.trans (g.mono (fun _ hq => List.mem_singleton.mp hq ▸ hp) fun _ ha => absurd ha List.not_mem_nil)

/-! ## The fuse load (R582, R584) -/

/-- The shadows have taken the array, and the domains begin to switch on. -/
def Dev.takeFuses (d : Dev) : Dev :=
  let x := (d.setFld F.RST_STAT_FUSE_RETRY (min 7 d.rst.fuseFails)).setFlag F.RST_STAT_FUSE_FAIL false
  Dev.showSwitching { x with
    rst := { d.rst with shadow := d.rst.fuses, fuseFails := 0, pinsLoaded := true, phase := .domains }
    pwr := { d.pwr with switchQ := resetDomains } }

/-- The load has failed once more, and restarts. -/
def Dev.restartFuses (d : Dev) : Dev :=
  Dev.bump { d with rst := { d.rst with fuseFails := d.rst.fuseFails + 1 } } C.RST_FUSE_RESTART_CNT

/-- The load has failed too often. -/
def Dev.giveUpFuses (d : Dev) : Dev := { d with rst := { d.rst with phase := .fuseFailed } }.setFlag F.RST_STAT_FUSE_FAIL true

theorem fuseLoaded_good {d : Dev} (h : d.rst.phase = .fuseLoad) : d.fuseLoaded true = d.takeFuses := by
  unfold Dev.fuseLoaded
  rw [if_neg (not_not.mpr h)]
  rfl

theorem fuseLoaded_bad {d : Dev} (h : d.rst.phase = .fuseLoad) :
    d.fuseLoaded false = if 7 ≤ d.rst.fuseFails then d.restartFuses.giveUpFuses else d.restartFuses := by
  unfold Dev.fuseLoaded
  rw [if_neg (not_not.mpr h)]
  simp only [Bool.false_eq_true, if_false, show 8 ≤ d.rst.fuseFails + 1 ↔ 7 ≤ d.rst.fuseFails by omega]
  rfl

theorem alters_takeFuses (d : Dev) : Alters [.rst, .pwr] [Reg.RST_STAT, Reg.PWR_STAT] d d.takeFuses := by
  have hflags (v : Nat) : Alters [.rst, .pwr] [Reg.RST_STAT, Reg.PWR_STAT] d
      ((d.setFld F.RST_STAT_FUSE_RETRY v).setFlag F.RST_STAT_FUSE_FAIL false) :=
    ((Alters.refl d).setFld _ _ (by decide)).setFlag _ _ (by decide)
  have hstate (x : Dev) (r : RstSt) (p : PwrSt) : Alters [.rst, .pwr] [Reg.RST_STAT, Reg.PWR_STAT] x { x with rst := r, pwr := p } :=
    (alters_rstPwr x r p).mono (fun _ hp => hp) fun _ ha => absurd ha List.not_mem_nil
  exact (hflags _).trans ((hstate _ _ _).setFlag F.PWR_STAT_SWITCHING _ (by decide))

theorem alters_restartFuses (d : Dev) :
    Alters [.rst] [Reg.RST_STAT, Reg.RST_FUSE_RESTART_CNT, C.RST_FUSE_RESTART_CNT.sat] d d.restartFuses :=
  ((Alters.refl d).part (alters_rst d _) (by decide)).bump _ (by decide) (by decide) rfl

theorem alters_giveUpFuses (d : Dev) : Alters [.rst] [Reg.RST_STAT] d d.giveUpFuses :=
  ((Alters.refl d).part (alters_rst d _) (by decide)).setFlag _ _ (by decide)

section
variable {s : State} (h : s.dev.rst.phase = .fuseLoad)
include h

theorem gives_fusesTaken : Gives (.fuseLoadDone true) s fun t =>
    t.dev.rst = { s.dev.rst with shadow := s.dev.rst.fuses, fuseFails := 0, pinsLoaded := true, phase := .domains } ∧
    t.dev.pwr.switchQ = resetDomains ∧ t.dev.flag F.RST_STAT_FUSE_FAIL = false ∧
    t.dev.fld F.RST_STAT_FUSE_RETRY = min 7 s.dev.rst.fuseFails ∧ Leaves [.rst, .pwr] [Reg.RST_STAT, Reg.PWR_STAT] s t := by
  obtain ⟨t, hx, ht, hl⟩ := gives_step (i := .fuseLoadDone true) (f := fun _ d => d.fuseLoaded true) rfl
    (fuseLoaded_good (d := s.dev.begin_) h) (alters_takeFuses _) (by decide) fun t ht _ => ht
  refine ⟨t, hx, ht.parts .rst, congrArg PwrSt.switchQ (ht.parts .pwr), ?_, ?_, hl⟩
  · rw [ht.flag _ rfl rfl]
    unfold Dev.takeFuses Dev.showSwitching
    rw [Dev.flag_setFlag_apart _ _ _ _ (by decide) (by decide)]
    exact Dev.flag_setFlag_self _ _ _ (by decide) rfl
  · rw [ht.fld _ rfl rfl]
    unfold Dev.takeFuses Dev.showSwitching
    rw [Dev.fld_setFlag_apart _ _ _ _ (by decide) (by decide)]
    refine (Dev.fld_setFlag_apart _ F.RST_STAT_FUSE_FAIL F.RST_STAT_FUSE_RETRY _ (by decide) (by decide)).trans ?_
    rw [Dev.fld_setFld_self _ _ _ (by decide)]
    exact Nat.mod_eq_of_lt (Nat.lt_of_le_of_lt (Nat.min_le_left _ _) (by decide))

theorem gives_fusesFailed : Gives (.fuseLoadDone false) s fun t => Counts C.RST_FUSE_RESTART_CNT 1 s t ∧
    t.dev.rst = { s.dev.rst with
      fuseFails := s.dev.rst.fuseFails + 1
      phase := if 7 ≤ s.dev.rst.fuseFails then .fuseFailed else .fuseLoad } ∧
    (7 ≤ s.dev.rst.fuseFails → t.dev.flag F.RST_STAT_FUSE_FAIL = true) ∧
    Leaves [.rst] [Reg.RST_STAT, Reg.RST_FUSE_RESTART_CNT, C.RST_FUSE_RESTART_CNT.sat] s t := by
  have hcnt : s.dev.begin_.restartFuses.cnt C.RST_FUSE_RESTART_CNT =
      min (cntTop C.RST_FUSE_RESTART_CNT) (s.dev.cnt C.RST_FUSE_RESTART_CNT + 1) := Dev.cnt_bumpBy _ _ 1 (by decide)
  have hrst : s.dev.begin_.restartFuses.rst = { s.dev.rst with fuseFails := s.dev.rst.fuseFails + 1 } := Dev.bump_rst _ _
  have hload := fuseLoaded_bad (d := s.dev.begin_) h
  by_cases hn : 7 ≤ s.dev.rst.fuseFails
  · rw [if_pos (c := 7 ≤ s.dev.begin_.rst.fuseFails) hn] at hload
    obtain ⟨t, hx, ht, hl⟩ := gives_step (i := .fuseLoadDone false) (f := fun _ d => d.fuseLoaded false) rfl hload
      ((alters_restartFuses _).trans ((alters_giveUpFuses _).mono (fun _ hp => hp) (by decide))) (by decide) fun t ht _ => ht
    refine ⟨t, hx, (ht.cnt _ rfl rfl).trans ?_, (ht.parts .rst).trans ?_, fun _ => ?_, hl⟩
    · exact (Dev.cnt_congr C.RST_FUSE_RESTART_CNT (Dev.reg_setFlag_ne _ F.RST_STAT_FUSE_FAIL true _ (by decide)) rfl).trans hcnt
    · rw [if_pos hn]
      exact congrArg (fun r => { r with phase := .fuseFailed }) hrst
    · rw [ht.flag _ rfl rfl]
      exact Dev.flag_setFlag_self _ _ _ (by decide) rfl
  · rw [if_neg (c := 7 ≤ s.dev.begin_.rst.fuseFails) hn] at hload
    obtain ⟨t, hx, ht, hl⟩ := gives_step (i := .fuseLoadDone false) (f := fun _ d => d.fuseLoaded false) rfl hload
      (alters_restartFuses _) (by decide) fun t ht _ => ht
    refine ⟨t, hx, (ht.cnt _ rfl rfl).trans hcnt, (ht.parts .rst).trans ?_, fun h7 => absurd h7 hn, hl⟩
    rw [if_neg hn, ← h]
    exact hrst

end

/-! ## The PLL locks (R36) -/

/-- The slots begin at lock. -/
def Dev.startSlots (d : Dev) : Dev :=
  { d with time := { d.time with slotLen := 8000, slotClk := 0, slotStart := d.time.ticks }, shot := some d.emptyShot }

/-- The part is locked, and a step of device time that was held is placed. -/
def Dev.takeLock (d : Dev) (fault : Bool) : Dev := ((d.setFlag F.TIME_STAT_LOCK true).persist Cause.internal fault).placeHeld

theorem lockPll_pll {d : Dev} (hl : d.locked = false) (hp : d.rst.phase = .pll) :
    d.lockPll = (Dev.takeLock { d with rst := { d.rst with phase := .running } } (d.flag F.BLW_STAT_E_FAULT)).startSlots := by
  unfold Dev.lockPll
  rw [if_neg (by simp [hl, hp])]
  simp only [hp, if_true]
  rfl

theorem lockPll_running {d : Dev} (hl : d.locked = false) (hp : d.rst.phase = .running) :
    d.lockPll = (Dev.takeLock (d.putWide Reg.TIME_SLOT_LO (d.slotNo + 1)) (d.flag F.BLW_STAT_E_FAULT)).startSlots := by
  unfold Dev.lockPll
  rw [if_neg (by simp [hl, hp])]
  simp only [hp, reduceCtorEq, if_false]
  rfl

theorem locked_placeHeld (d : Dev) : d.placeHeld.locked = d.locked := by
  have hset (x : Dev) (f : Fld) (b : Bool) (hw : f.lo + f.width ≤ 32)
      (ha : F.TIME_STAT_LOCK.addr ≠ f.addr ∨ F.TIME_STAT_LOCK.lo + F.TIME_STAT_LOCK.width ≤ f.lo ∨
        f.lo + f.width ≤ F.TIME_STAT_LOCK.lo) : (x.setFlag f b).locked = x.locked := Dev.flag_setFlag_apart x f _ b hw ha
  have hcount (x : Dev) : ((x.bump C.TIME_STEP_CNT).raise Ev.timeStep).locked = x.locked :=
    Dev.flag_bumpBy_ne x C.TIME_STEP_CNT 1 F.TIME_STAT_LOCK (by decide) (by decide)
  have hstep (ps : Int) : (d.stepNow ps).locked = d.locked := by
    unfold Dev.stepNow
    exact (hcount _).trans ((hset _ F.TIME_STAT_STEP_PENDING _ (by decide) (by decide)).trans
      (hset _ F.TIME_STAT_VALID _ (by decide) (by decide)))
  unfold Dev.placeHeld
  split
  · split
    · exact hstep _
    · rfl
  · rfl

theorem alters_takeLock (d : Dev) (fault : Bool) : Alters [.time, .shot, .safe] stepRegs d (d.takeLock fault) :=
  (((Alters.refl d).setFlag _ _ (by decide)).part (alters_safe _ _) (by decide)).trans
    ((alters_placeHeld _).mono (by decide) fun _ ha => ha)

theorem alters_startSlots (d : Dev) : Alters [.time, .shot, .safe] stepRegs d d.startSlots := by
  have hmove (v : TimeSt) : Alters [.time, .shot, .safe] stepRegs d { d with time := v } := (Alters.refl d).time v (by decide)
  exact (hmove { d.time with slotLen := 8000, slotClk := 0, slotStart := d.time.ticks }).part (alters_shot _ (some d.emptyShot)) (by decide)

theorem wide64_congr {x y : Dev} (h : y.wide = x.wide) (a : Nat) : y.wide64 a = x.wide64 a := by unfold Dev.wide64; rw [h]

theorem locked_takeLock (d : Dev) (fault : Bool) : (d.takeLock fault).startSlots.locked = true :=
  (locked_placeHeld _).trans (Dev.flag_setFlag_self d F.TIME_STAT_LOCK true (by decide) rfl)

section
variable {s : State} (hl : s.dev.locked = false)
include hl

theorem gives_firstLock (hp : s.dev.rst.phase = .pll) : Gives .pllLock s fun t => t.dev.locked = true ∧ t.dev.rst.phase = .running ∧
    t.dev.time.slotLen = 8000 ∧ t.dev.time.slotClk = 0 ∧ t.dev.slotNo = s.dev.slotNo ∧
    Leaves [.time, .shot, .rst, .safe] [Reg.TIME_STAT, Reg.TIME_STEP_CNT, C.TIME_STEP_CNT.sat] s t := by
  let x : Dev := { s.dev.begin_ with rst := { s.dev.rst with phase := .running } }
  have hlock (fault : Bool) : Alters [.time, .shot, .safe] stepRegs x (x.takeLock fault).startSlots :=
    (alters_takeLock x fault).trans (alters_startSlots _)
  have hsub : ∀ p ∈ [Part.time, .shot, .safe], p ∈ [Part.time, .shot, .rst, .safe] := by decide
  obtain ⟨t, hx, ht, hleaves⟩ := gives_step (i := .pllLock) (f := fun _ d => d.lockPll) rfl (lockPll_pll (d := s.dev.begin_) hl hp)
    (((Alters.refl _).part (alters_rst s.dev.begin_ _) (by decide)).trans ((hlock _).mono hsub fun _ ha => ha)) (by decide)
    fun t ht _ => ht
  have htime := ht.parts .time
  refine ⟨t, hx, (ht.flag _ rfl rfl).trans (locked_takeLock x _), ?_, congrArg TimeSt.slotLen htime, congrArg TimeSt.slotClk htime, ?_,
    hleaves⟩
  · exact congrArg RstSt.phase ((ht.parts .rst).trans ((hlock _).same .rst (by decide)))
  · exact (ht.wide64 _).trans (wide64_congr (x := s.dev) ((hlock _).same .wide (by decide)) _)

theorem gives_relock (hp : s.dev.rst.phase = .running) : Gives .pllLock s fun t => t.dev.locked = true ∧
    t.dev.slotNo = (s.dev.slotNo + 1) % 2 ^ 64 ∧ t.dev.time.slotClk = 0 ∧
    Leaves [.time, .shot, .safe, .wide] [Reg.TIME_STAT, Reg.TIME_STEP_CNT, C.TIME_STEP_CNT.sat] s t := by
  let x : Dev := s.dev.begin_.putWide Reg.TIME_SLOT_LO (s.dev.slotNo + 1)
  have hlock (fault : Bool) : Alters [.time, .shot, .safe] stepRegs x (x.takeLock fault).startSlots :=
    (alters_takeLock x fault).trans (alters_startSlots _)
  have hsub : ∀ p ∈ [Part.time, .shot, .safe], p ∈ [Part.time, .shot, .safe, .wide] := by decide
  obtain ⟨t, hx, ht, hleaves⟩ := gives_step (i := .pllLock) (f := fun _ d => d.lockPll) rfl (lockPll_running (d := s.dev.begin_) hl hp)
    (((Alters.refl _).putWide _ _ (by decide) (by decide)).trans ((hlock _).mono hsub fun _ ha => ha)) (by decide)
    fun t ht _ => ht
  refine ⟨t, hx, (ht.flag _ rfl rfl).trans (locked_takeLock x _), ?_, congrArg TimeSt.slotClk (ht.parts .time), hleaves⟩
  exact (ht.wide64 _).trans ((wide64_congr (x := x) ((hlock _).same .wide (by decide)) _).trans
    ((Dev.wide64_putWide _ _ _ _).trans (if_pos rfl)))

end

/-! ## The PLL loses lock (R36) -/

/-- The loss of lock is shown and counted. -/
def Dev.countUnlock (d : Dev) : Dev := ((d.setFlag F.TIME_STAT_LOCK false).setFlag F.TIME_STAT_VALID false).bump C.TIME_UNLOCK_CNT

/-- The loss of lock is reported, to the safety island too, and the dwells end. -/
def Dev.reportUnlock (d : Dev) : Dev := (((d.raise Ev.pllUnlock).detect Cause.internal).persist Cause.internal true).endDwells

/-- What the loss of lock does before scanning ends. -/
def Dev.lockLost (d : Dev) : Dev := d.countUnlock.reportUnlock

/-- What the loss of lock does to scanning. -/
def Dev.scanStops (d : Dev) : Dev := if d.atRest then d else d.toFault

theorem unlockPll_locked {d : Dev} (h : d.locked = true) : d.unlockPll = { d.lockLost.scanStops with shot := none } := by
  unfold Dev.unlockPll
  rw [if_neg (by simp [h])]
  rfl

/-- The registers that the loss of lock writes. -/
abbrev lostRegs : List Nat := [Reg.TIME_STAT, Reg.TIME_UNLOCK_CNT, C.TIME_UNLOCK_CNT.sat]

theorem alters_lockLost (d : Dev) : Alters [.safe, .kiln] lostRegs d d.lockLost := by
  have hcount : Alters [.safe, .kiln] lostRegs d d.countUnlock :=
    (((Alters.refl d).setFlag _ _ (by decide)).setFlag _ _ (by decide)).bump _ (by decide) (by decide) rfl
  have hreport (x : Dev) : Alters [.safe, .kiln] lostRegs x x.reportUnlock :=
    ((((Alters.refl x).raise Ev.pllUnlock 0 0).part (alters_safe _ _) (by decide)).part (alters_safe _ _) (by decide)).part
      (alters_kiln _ _) (by decide)
  exact hcount.trans (hreport _)

theorem reportUnlock_spec (d : Dev) : d.reportUnlock.regs = d.regs ∧ d.reportUnlock.wide = d.wide ∧ d.reportUnlock.safe =
    { d.safe with detected := orBit d.safe.detected Cause.internal, active := orBit d.safe.active Cause.internal } := ⟨rfl, rfl, rfl⟩

theorem safe_lockLost (d : Dev) : d.lockLost.safe =
    { d.safe with detected := orBit d.safe.detected Cause.internal, active := orBit d.safe.active Cause.internal } := by
  have hsafe : d.countUnlock.safe = d.safe := Dev.bump_safe _ _
  obtain ⟨-, -, hreport⟩ := reportUnlock_spec d.countUnlock
  rw [Dev.lockLost, hreport, hsafe]

theorem flag_lockLost (d : Dev) (f : Fld) (h1 : f.addr ≠ Reg.TIME_UNLOCK_CNT) (h2 : f.addr ≠ C.TIME_UNLOCK_CNT.sat) :
    d.lockLost.flag f = ((d.setFlag F.TIME_STAT_LOCK false).setFlag F.TIME_STAT_VALID false).flag f := by
  unfold Dev.flag
  rw [Dev.lockLost, Dev.fld_congr (reportUnlock_spec _).1, Dev.countUnlock, Dev.bump, Dev.fld_bumpBy_ne _ C.TIME_UNLOCK_CNT 1 f h1 h2]

theorem locked_lockLost (d : Dev) : d.lockLost.locked = false :=
  (flag_lockLost d F.TIME_STAT_LOCK (by decide) (by decide)).trans ((Dev.flag_setFlag_apart _ _ _ _ (by decide) (by decide)).trans
    (Dev.flag_setFlag_self _ _ _ (by decide) rfl))

theorem valid_lockLost (d : Dev) : d.lockLost.flag F.TIME_STAT_VALID = false :=
  (flag_lockLost d F.TIME_STAT_VALID (by decide) (by decide)).trans (Dev.flag_setFlag_self _ _ _ (by decide) rfl)

theorem cnt_lockLost (d : Dev) : d.lockLost.cnt C.TIME_UNLOCK_CNT = min (cntTop C.TIME_UNLOCK_CNT) (d.cnt C.TIME_UNLOCK_CNT + 1) := by
  obtain ⟨hregs, hwide, -⟩ := reportUnlock_spec d.countUnlock
  have hcount : d.countUnlock.cnt C.TIME_UNLOCK_CNT = min (cntTop C.TIME_UNLOCK_CNT) (d.cnt C.TIME_UNLOCK_CNT + 1) := by
    have hflags : ((d.setFlag F.TIME_STAT_LOCK false).setFlag F.TIME_STAT_VALID false).cnt C.TIME_UNLOCK_CNT = d.cnt C.TIME_UNLOCK_CNT :=
      Dev.cnt_congr _ ((Dev.reg_setFlag_ne _ _ _ _ (by decide)).trans (Dev.reg_setFlag_ne _ _ _ _ (by decide))) rfl
    rw [Dev.countUnlock, Dev.bump, Dev.cnt_bumpBy _ _ _ (by decide), hflags]
  exact (Dev.cnt_congr C.TIME_UNLOCK_CNT (Dev.reg_congr hregs _) hwide).trans hcount

theorem bitAt_orBit (m n : Nat) : bitAt (orBit m n) n = true := by
  have h : (m ||| 2 ^ n).testBit n = true := by rw [Nat.testBit_or, Nat.testBit_two_pow_self, Bool.or_true]
  rw [Nat.testBit_eq_decide_div_mod_eq, decide_eq_true_eq] at h
  exact beq_iff_eq.mpr h

/-- The part in FAULT, before a step of device time that was held is placed: `stopping` is whether it was being stopped. -/
def Dev.scanFails (d : Dev) (stopping : Bool) : Dev :=
  let d := (d.dropStart.setFld F.SCN_STAT_STATE (if stopping then stStopped else stFault)).scanRests
  let d := (d.completeOp 0x0202 0x0000).setFlag F.SCN_STAT_PARKED false
  { d with scan := { d.scan with phase := .off, ampOffNext := true, arm := false, pathX := [], pathY := [], faultNext := true,
                                 holdNext := false, stopNext := false, frameTaken := false } }

theorem works_dropStart (d : Dev) : Works [.scan, .turf] [Reg.SCN_STAT] d d.dropStart := by
  have hends : Works [.scan, .turf] [Reg.SCN_STAT] d ((d.completeOp 0x0201 0x0201).completeOp 0x0204 0x0201) :=
    (works_completeOp d _ _ _).trans (works_completeOp _ _ _ _)
  exact hends.trans ((Alters.refl _).part (alters_scan _ _) (by decide)).works

theorem works_scanFails (d : Dev) (stopping : Bool) : Works [.scan, .turf] [Reg.SCN_STAT] d (d.scanFails stopping) := by
  have hstate (x : Dev) (v : Nat) : Works [.scan, .turf] [Reg.SCN_STAT] x (x.setFld F.SCN_STAT_STATE v).scanRests :=
    (((Alters.refl x).setFld _ _ (by decide)).part (alters_scanRests _) (by decide)).works
  have hlast (x : Dev) (v : ScanSt) : Works [.scan, .turf] [Reg.SCN_STAT] x { x.setFlag F.SCN_STAT_PARKED false with scan := v } :=
    (((Alters.refl x).setFlag F.SCN_STAT_PARKED false (by decide)).part (alters_scan _ v) (by decide)).works
  exact (works_dropStart d).trans ((hstate _ _).trans ((works_completeOp _ _ _ _).trans (hlast _ _)))

theorem scanState_scanFails (d : Dev) (stopping : Bool) :
    (d.scanFails stopping).scanState = if stopping then stStopped else stFault := by
  let x : Dev := (d.dropStart.setFld F.SCN_STAT_STATE (if stopping then stStopped else stFault)).scanRests
  have hends : Works [] [] x (x.completeOp 0x0202 0x0000) := works_completeOp x _ _ _
  have hset : x.fld F.SCN_STAT_STATE = (if stopping then stStopped else stFault) % 2 ^ 3 := Dev.fld_setFld_self _ _ _ (by decide)
  have hparked : (d.scanFails stopping).scanState = (x.completeOp 0x0202 0x0000).fld F.SCN_STAT_STATE :=
    Dev.fld_setFlag_apart _ F.SCN_STAT_PARKED _ _ (by decide) (by decide)
  have hkept : (x.completeOp 0x0202 0x0000).fld F.SCN_STAT_STATE = x.fld F.SCN_STAT_STATE := by
    unfold Dev.fld
    rw [hends.reg _ List.not_mem_nil rfl]
  rw [hparked, hkept, hset]
  cases stopping <;> rfl

theorem arm_scanFails (d : Dev) (stopping : Bool) : (d.scanFails stopping).scan.arm = false := rfl

/-- A part that is not locked places no step of device time. -/
theorem placeHeld_unlocked {d : Dev} (h : d.locked = false) : d.placeHeld = d := by
  unfold Dev.placeHeld
  split
  · rw [h]; rfl
  · rfl

theorem toFault_unlocked {d : Dev} (h : d.locked = false) : d.toFault = d.scanFails (d.scanState == stStopping) := by
  have hreg : (d.scanFails (d.scanState == stStopping)).reg Reg.TIME_STAT = d.reg Reg.TIME_STAT :=
    (works_scanFails d _).reg _ (by decide) rfl
  have hlocked : (d.scanFails (d.scanState == stStopping)).locked = false := by
    unfold Dev.locked Dev.flag Dev.fld at h ⊢
    rw [hreg]; exact h
  exact placeHeld_unlocked hlocked

theorem scanStops_moving {d : Dev} (h : d.locked = false) (hr : d.atRest = false) :
    d.scanStops = d.scanFails (d.scanState == stStopping) := by
  unfold Dev.scanStops
  rw [if_neg (by rw [hr]; exact Bool.false_ne_true)]
  exact toFault_unlocked h

theorem works_scanStops {d : Dev} (h : d.locked = false) : Works [.scan, .turf] [Reg.SCN_STAT] d d.scanStops :=
  .ite (fun _ => .refl d) fun _ => toFault_unlocked h ▸ works_scanFails d _

theorem gives_unlock {s : State} (h : s.dev.locked = true) : Gives .pllUnlock s fun t => t.dev.locked = false ∧
    t.dev.flag F.TIME_STAT_VALID = false ∧ Counts C.TIME_UNLOCK_CNT 1 s t ∧ bitAt t.dev.safe.detected Cause.internal = true ∧
    bitAt t.dev.safe.active Cause.internal = true ∧ t.dev.shot = none ∧ t.dev.now = s.dev.now ∧
    (s.dev.atRest = false → t.dev.scan.arm = false ∧
      t.dev.scanState = if s.dev.scanState = stStopping then stStopped else stFault) := by
  let y := s.dev.begin_.lockLost
  have hlost : Alters [.safe, .kiln] lostRegs s.dev.begin_ y := alters_lockLost _
  have hstops : Works [.scan, .turf] [Reg.SCN_STAT] y y.scanStops := works_scanStops (locked_lockLost _)
  have hunlock : s.dev.begin_.unlockPll = { y.scanStops with shot := none } := unlockPll_locked (d := s.dev.begin_) h
  have ht := onDev_settled s fun _ d => d.unlockPll
  rw [hunlock] at ht
  refine ⟨_, rfl, ?_⟩
  generalize s.onDev (fun _ d => d.unlockPll) = t at ht
  have hreg (a : Nat) (ha : a ≠ Reg.SCN_STAT) (he : evtOwn a = false) (hc : cmdqOwn a = false) : t.dev.reg a = y.reg a :=
    (ht.reg a he hc).trans (hstops.reg a (fun hm => ha (List.mem_singleton.mp hm)) hc)
  have hsafe : t.dev.safe = y.safe := (ht.parts .safe).trans (hstops.same .safe (by decide))
  have hwide : t.dev.wide = y.wide := (ht.parts .wide).trans (hstops.same .wide (by decide))
  have hflag (f : Fld) (hf : f.addr = Reg.TIME_STAT) : t.dev.flag f = y.flag f := by
    unfold Dev.flag Dev.fld
    rw [hreg _ (by rw [hf]; decide) (by rw [hf]; rfl) (by rw [hf]; rfl)]
  have hrest : y.atRest = s.dev.atRest ∧ y.scanState = s.dev.scanState := by
    unfold Dev.atRest Dev.scanState Dev.fld
    rw [hlost.reg _ (by decide)]
    exact ⟨rfl, rfl⟩
  refine ⟨(hflag F.TIME_STAT_LOCK rfl).trans (locked_lockLost _), (hflag F.TIME_STAT_VALID rfl).trans (valid_lockLost _), ?_, ?_, ?_,
    ht.parts .shot, ?_, fun hr => ?_⟩
  · exact (Dev.cnt_congr C.TIME_UNLOCK_CNT (hreg Reg.TIME_UNLOCK_CNT (by decide) rfl rfl) hwide).trans (cnt_lockLost _)
  · rw [hsafe, safe_lockLost]
    exact bitAt_orBit _ _
  · rw [hsafe, safe_lockLost]
    exact bitAt_orBit _ _
  · have htime : t.dev.time = s.dev.time := (ht.parts .time).trans ((hstops.same .time (by decide)).trans (hlost.same .time (by decide)))
    unfold Dev.now
    rw [htime]
  · have hfails := scanStops_moving (locked_lockLost s.dev.begin_) (hrest.1.trans hr)
    have hstate := scanState_scanFails y (y.scanState == stStopping)
    have hscan : t.dev.scan = y.scanStops.scan := ht.parts .scan
    have hstat : t.dev.scanState = y.scanStops.scanState := ht.fld F.SCN_STAT_STATE rfl rfl
    rw [hscan, hstat, hfails, hstate, hrest.2]
    exact ⟨arm_scanFails _ _, by simp only [beq_iff_eq]⟩

end Sys2Proof.Machine
end

section
/-! SUPPORT. The choice of an image (R587 to R589), and the reset sequence as a whole (R36, R496, R582, R584, R587 to R589, R604). -/

namespace Sys2Proof.Machine

/-! ## The boot takes an image, or none (R588, R589) -/

/-- The part runs the image of slot `p`, its preferred one. -/
def Dev.runPreferred (d : Dev) : Dev :=
  let x := d.put Reg.SEC_BOOT_STAT (if d.rst.preferred = 0 then 1#32 else 16#32)
  let y := { x with rst := { d.rst with fellBack := false, running := d.rst.preferred } }.endRetry
  (y.setFlag F.CMDQ_STAT_READY true).put Reg.SEC_FW_VER (BitVec.ofNat 32 (headerVer (d.header d.rst.preferred)))

theorem slotResult_good {d : Dev} {p : Nat} (ha : d.store.absent = false)
    (hk : bitAt d.rst.shadow.revoked (headerKey (d.header p)) = false) (hf : d.rst.shadow.floor ≤ headerVer (d.header p) / 65536) :
    d.slotResult p 1 = 1 := by
  unfold Dev.slotResult
  rw [if_neg (by simp [ha]), if_neg (by decide), if_neg (by simp [hk]), if_neg (by omega)]

theorem slotResult_none (d : Dev) (p : Nat) : d.slotResult p 0 = 2 := by
  unfold Dev.slotResult
  rw [if_pos (by simp)]

theorem boot_preferred {d : Dev} (hp : d.rst.phase = .running) (hr : d.flag F.CMDQ_STAT_READY = false)
    (hgood : d.slotResult d.rst.preferred 1 = 1) : d.boot 1 1 = d.runPreferred := by
  have hstat : BitVec.ofNat 32 ((if d.rst.preferred = 0 then 1 + 16 * 0 else 0 + 16 * 1) + 256 * b2n false) =
      if d.rst.preferred = 0 then 1#32 else 16#32 := by
    split <;> rfl
  unfold Dev.boot
  rw [if_neg (by simp [hp, hr])]
  simp only [ite_self, hgood, if_true, ne_eq, not_true_eq_false, false_and, decide_false, true_or, hstat]
  rfl

/-- No image is good: the boot has failed, and is counted. -/
def Dev.findNoImage (d : Dev) (stat : Word) : Dev :=
  let x := (d.put Reg.SEC_BOOT_STAT stat).bump C.RST_BOOT_FAIL_CNT
  { x with rst := { x.rst with fellBack := false, phase := .noImage } }

theorem boot_none {d : Dev} (hp : d.rst.phase = .running) (hr : d.flag F.CMDQ_STAT_READY = false) :
    ∃ stat, d.boot 0 0 = d.findNoImage stat := by
  unfold Dev.boot
  rw [if_neg (by simp [hp, hr])]
  simp only [ite_self, slotResult_none, OfNat.ofNat_ne_one, if_false, and_false, decide_false, or_self]
  exact ⟨_, rfl⟩

theorem works_runPreferred (d : Dev) : Works [.rst, .host] [Reg.SEC_BOOT_STAT, Reg.SEC_FW_VER] d d.runPreferred := by
  have hready (x : Dev) : Works [.rst, .host] [Reg.SEC_BOOT_STAT, Reg.SEC_FW_VER] x (x.setFlag F.CMDQ_STAT_READY true) :=
    ⟨fun p _ => by cases p <;> rfl, fun a _ hc => Dev.reg_setFlag_ne x _ true a (by rintro rfl; exact absurd hc (by decide)), rfl, rfl,
      ⟨[], (List.append_nil _).symm⟩, grows_same fun _ => rfl⟩
  have hstat (v : Word) : Alters [.rst, .host] [Reg.SEC_BOOT_STAT, Reg.SEC_FW_VER] d (d.put Reg.SEC_BOOT_STAT v) :=
    (Alters.refl d).put _ v (by decide)
  have hrun (x : Dev) (r : RstSt) : Alters [.rst, .host] [Reg.SEC_BOOT_STAT, Reg.SEC_FW_VER] x (Dev.endRetry { x with rst := r }) :=
    ((Alters.refl x).part (alters_rst x r) (by decide)).part (alters_endRetry _) (by decide)
  have hver (x : Dev) (v : Word) : Alters [.rst, .host] [Reg.SEC_BOOT_STAT, Reg.SEC_FW_VER] x (x.put Reg.SEC_FW_VER v) :=
    (Alters.refl x).put _ v (by decide)
  exact (((hstat _).trans (hrun _ _)).works.trans (hready _)).trans (hver _ _).works

theorem alters_findNoImage (d : Dev) (stat : Word) :
    Alters [.rst] [Reg.SEC_BOOT_STAT, Reg.RST_BOOT_FAIL_CNT, C.RST_BOOT_FAIL_CNT.sat] d (d.findNoImage stat) :=
  (((Alters.refl d).put _ stat (by decide)).bump C.RST_BOOT_FAIL_CNT (by decide) (by decide) rfl).part (alters_rst _ _) (by decide)

section
variable {s : State} (hp : s.dev.rst.phase = .running) (hr : s.dev.flag F.CMDQ_STAT_READY = false)
include hp hr

theorem gives_imageRuns (ha : s.dev.store.absent = false)
    (hk : bitAt s.dev.rst.shadow.revoked (headerKey (s.dev.header s.dev.rst.preferred)) = false)
    (hf : s.dev.rst.shadow.floor ≤ headerVer (s.dev.header s.dev.rst.preferred) / 65536) :
    Gives (.firmwareVerified 1 1) s fun t => t.dev.flag F.CMDQ_STAT_READY = true ∧ t.dev.rst.running = s.dev.rst.preferred ∧
      t.dev.rst.fellBack = false ∧ t.dev.reg Reg.SEC_FW_VER = BitVec.ofNat 32 (headerVer (s.dev.header s.dev.rst.preferred)) ∧
      t.dev.reg Reg.SEC_BOOT_STAT = (if s.dev.rst.preferred = 0 then 1#32 else 16#32) ∧
      Leaves [.rst, .host] [Reg.SEC_BOOT_STAT, Reg.SEC_FW_VER] s t := by
  let f : List Host.Cell → Dev → Dev := fun _ d => d.boot 1 1
  have hboot : f s.mem s.dev.begin_ = s.dev.begin_.runPreferred :=
    boot_preferred (d := s.dev.begin_) hp hr (slotResult_good (d := s.dev.begin_) ha hk hf)
  have ht := onDev_settled s f
  rw [hboot] at ht
  have hrst : (s.onDev f).dev.rst = { s.dev.rst with fellBack := false, running := s.dev.rst.preferred } := ht.parts .rst
  refine ⟨_, rfl, ?_, congrArg RstSt.running hrst, congrArg RstSt.fellBack hrst, ?_, ?_,
    Works.stepLeaves (f := f) (hboot ▸ works_runPreferred _) (by decide)⟩
  · refine (onDev_flag s f F.CMDQ_STAT_READY rfl).trans ?_
    rw [hboot]
    exact (Dev.flag_put_ne _ F.CMDQ_STAT_READY Reg.SEC_FW_VER _ (by decide)).trans (Dev.flag_setFlag_self _ _ _ (by decide) rfl)
  · exact (ht.reg Reg.SEC_FW_VER rfl rfl).trans (Dev.reg_put_self _ _ _)
  · exact (ht.reg Reg.SEC_BOOT_STAT rfl rfl).trans ((Dev.reg_put_ne _ Reg.SEC_FW_VER _ _ (by decide)).trans
      ((Dev.reg_setFlag_ne _ F.CMDQ_STAT_READY true _ (by decide)).trans (Dev.reg_put_self s.dev.begin_ Reg.SEC_BOOT_STAT _)))

theorem gives_noImage : Gives (.firmwareVerified 0 0) s fun t => t.dev.flag F.CMDQ_STAT_READY = false ∧ t.dev.rst.phase = .noImage ∧
    Counts C.RST_BOOT_FAIL_CNT 1 s t ∧
    Leaves [.rst] [Reg.SEC_BOOT_STAT, Reg.RST_BOOT_FAIL_CNT, C.RST_BOOT_FAIL_CNT.sat] s t := by
  let f : List Host.Cell → Dev → Dev := fun _ d => d.boot 0 0
  obtain ⟨stat, hboot⟩ : ∃ stat, f s.mem s.dev.begin_ = s.dev.begin_.findNoImage stat := boot_none (d := s.dev.begin_) hp hr
  have halters := alters_findNoImage s.dev.begin_ stat
  have ht := onDev_settled s f
  rw [hboot] at ht
  have hrst := ht.parts .rst
  refine ⟨_, rfl, ?_, congrArg RstSt.phase hrst, ?_, Alters.stepLeaves (f := f) (hboot ▸ halters) (by decide)⟩
  · refine (onDev_flag s f F.CMDQ_STAT_READY rfl).trans ?_
    unfold Dev.flag Dev.fld at hr ⊢
    rw [hboot, halters.reg _ (by decide)]
    exact hr
  · have hput : (s.dev.begin_.put Reg.SEC_BOOT_STAT stat).cnt C.RST_BOOT_FAIL_CNT = s.dev.cnt C.RST_BOOT_FAIL_CNT :=
      Dev.cnt_congr _ (Dev.reg_put_ne _ _ _ _ (by decide)) rfl
    have hcount := Dev.cnt_bumpBy (s.dev.begin_.put Reg.SEC_BOOT_STAT stat) C.RST_BOOT_FAIL_CNT 1 (by decide)
    rw [hput] at hcount
    exact (ht.cnt _ rfl rfl).trans hcount

end

/-! ## The whole sequence -/

/-- A restore that may begin ends in RESTORED (R496, R604). -/
theorem gives_restored {s : State} (hp : s.dev.rst.phase = .running) (hr : s.dev.flag F.CMDQ_STAT_READY = true)
    (hn : s.dev.flag F.GLB_STAT_RESTORED = false) (hm : (s.dev.flag F.MEM_STAT_ACTIVE || s.dev.memHalted) = true) (absent : Bool)
    (crcErrors : Nat) (older lost : List (Nat × Nat × Nat)) :
    Gives (.restore absent crcErrors older lost) s fun t => t.dev.flag F.GLB_STAT_RESTORED = true ∧ t.dev.safe.running = true ∧
      t.dev.store.absent = absent ∧ t.dev.rst.lockRecord = none ∧ t.dev.rst.life = none ∧ t.dev.rst.bakLost = false ∧
      Pending t Ev.reset ∧ (absent = true → t.dev.flag F.GLB_CFG_STAT_ABSENT = true ∧ Pending t Ev.storeAbsent) := by
  let f : List Host.Cell → Dev → Dev := fun _ d => d.restore absent crcErrors older lost
  have hdone : RestoreDone absent (f s.mem s.dev.begin_) := restore_done (d := s.dev.begin_) hp hr hn hm absent crcErrors older lost
  have ht := onDev_settled s f
  generalize f s.mem s.dev.begin_ = y at hdone ht
  have hrst : (s.onDev f).dev.rst = y.rst := ht.parts .rst
  have hsafe : (s.onDev f).dev.safe = y.safe := ht.parts .safe
  have hstore : (s.onDev f).dev.store = y.store := ht.parts .store
  have hrestored : (s.onDev f).dev.flag F.GLB_STAT_RESTORED = true := (ht.flag F.GLB_STAT_RESTORED rfl rfl).trans hdone.restored
  have hshown : (s.onDev f).dev.flag F.GLB_CFG_STAT_ABSENT = y.flag F.GLB_CFG_STAT_ABSENT := ht.flag F.GLB_CFG_STAT_ABSENT rfl rfl
  have hpend (n : Nat) (hn : n < 640) (hx : ∃ r ∈ y.evt.raised, r.src = n) : Pending (s.onDev f) n := by
    obtain ⟨r, hmem, rfl⟩ := hx
    exact ht.raised r hmem hn
  have hexec : exec (.restore absent crcErrors older lost) s = .next (s.onDev f) := rfl
  generalize s.onDev f = t at hrst hsafe hstore hrestored hshown hpend hexec
  refine ⟨t, hexec, hrestored, ?_, ?_, ?_, ?_, ?_, hpend _ (by decide) hdone.reset, fun h => ?_⟩
  · rw [hsafe]; exact hdone.running
  · rw [hstore]; exact hdone.absent
  · rw [hrst]; exact hdone.lockRecord
  · rw [hrst]; exact hdone.life
  · rw [hrst]; exact hdone.bakLost
  · obtain ⟨hflag, hraised⟩ := hdone.noStore h
    exact ⟨hshown.trans hflag, hpend _ (by decide) ⟨_, hraised, rfl⟩⟩

/-- Settles O51: the rule of each event of the reset sequence, from the fuse load to RESTORED. -/
theorem bootRunsToRestored : Obligations.BootRunsToRestored := by
  unfold Obligations.BootRunsToRestored
  intro s
  refine ⟨fun h => ⟨gives_fusesTaken h, gives_fusesFailed h⟩, fun hl => ⟨gives_firstLock hl, gives_relock hl⟩, gives_unlock,
    fun hp hr => ⟨gives_imageRuns hp hr, gives_noImage hp hr⟩, ?_⟩
  intro absent crcErrors older lost hp hr hn hm
  exact gives_restored hp hr hn hm absent crcErrors older lost

end Sys2Proof.Machine
end

section
/-! SUPPORT. How an edge finds its shot (R79, R102, R103, R105, R109 to R111): what its placing may touch, and the stamp of one that is
accepted. -/

namespace Sys2Proof.Machine

/-! ## The comparators of a channel -/

theorem ChanSt.cmp_setCmp (c : ChanSt) (i : Nat) (x : CmpSt) : (c.setCmp i x).cmp i = x := by
  unfold ChanSt.cmp ChanSt.setCmp
  split_ifs <;> rfl

/-- Every field of a channel but its comparators stands when a comparator is set. -/
theorem ChanSt.setCmp_rest (c : ChanSt) (i : Nat) (x : CmpSt) :
    ∃ lo mid hi, c.setCmp i x = { c with lo := lo, mid := mid, hi := hi } := by
  unfold ChanSt.setCmp
  split_ifs
  · exact ⟨_, _, _, rfl⟩
  · exact ⟨_, _, _, rfl⟩
  · exact ⟨_, _, _, rfl⟩

/-- The comparators stand as they stood, but for the memory of a rising edge that was NEAR (R80). -/
def SameCmps (c c' : ChanSt) : Prop := ∀ j, c'.cmp j = { c.cmp j with nearRise := (c'.cmp j).nearRise }

theorem SameCmps.of_eq {c c' : ChanSt} (hl : c'.lo = c.lo) (hm : c'.mid = c.mid) (hh : c'.hi = c.hi) : SameCmps c c' := fun j => by
  have he : c'.cmp j = c.cmp j := by unfold ChanSt.cmp; rw [hl, hm, hh]
  rw [he]

theorem SameCmps.refl (c : ChanSt) : SameCmps c c := .of_eq rfl rfl rfl

theorem SameCmps.trans {a b c : ChanSt} (h : SameCmps a b) (g : SameCmps b c) : SameCmps a c := fun j => by
  rw [g j, h j]

theorem SameCmps.near (c : ChanSt) (i : Nat) (b : Bool) : SameCmps c (c.setCmp i { c.cmp i with nearRise := b }) := fun j => by
  unfold ChanSt.cmp ChanSt.setCmp
  split_ifs <;> rfl

theorem Dev.chan_congr {x y : Dev} (h : y.chans = x.chans) (n : Nat) : y.chan n = x.chan n := by unfold Dev.chan; rw [h]

/-! ## What counting an edge alters (R110) -/

/-- The counter of a class (R110). -/
def edgeCnt (s : Nat) : EdgeClass → Cnt
  | .precursor => C.SLICE_EM_PRE s
  | .near => C.SLICE_EM_NEAR s
  | .window => C.SLICE_EM_WIN s
  | .ovf => C.SLICE_EM_OVF s
  | .accepted => C.SLICE_EM_ACC s

theorem countEdge_eq (d : Dev) (s : Nat) (k : EdgeClass) : d.countEdge s k = d.bump (edgeCnt s k) := by cases k <;> rfl

theorem Alters.bumpWide {parts : List Part} {regs : List Nat} {x y : Dev} (h : Alters parts regs x y) (c : Cnt) (hw : c.wide = true)
    (hp : .wide ∈ parts) (hl : c.addr ≠ Reg.EVT_RING_BASE_LO) (hs : c.sat ∈ regs) : Alters parts regs x (y.bump c) := by
  unfold Dev.bump Dev.bumpBy Dev.setCnt
  simp only [hw, if_true]
  exact .ite (fun _ => ((h.putWide _ _ hp hl).setBit _ _ _ hs).raise _ _ _) fun _ => h.putWide _ _ hp hl

/-- The registers that placing an edge writes: its marks, and what its counters set (R110, R115). -/
abbrev placeRegs (s : Nat) : List Nat := [Reg.SLICE_EM_STAT s, Reg.SLICE_EM_OVF_SHOT_CNT s, Reg.SLICE_EM_CNT_SAT s]

theorem alters_countEdge (d : Dev) (s : Nat) (k : EdgeClass) :
    Alters [.chans, .wide, .kiln] (placeRegs s) d (d.countEdge s k) := by
  have hk : (edgeCnt s k).wide = true ∧ (edgeCnt s k).sat = Reg.SLICE_EM_CNT_SAT s ∧ 0x080000 ≤ (edgeCnt s k).addr := by
    cases k <;> exact ⟨rfl, rfl, Nat.le_add_right_of_le (by decide)⟩
  obtain ⟨hw, hs, ha⟩ := hk
  rw [countEdge_eq]
  exact (Alters.refl d).bumpWide _ hw (by decide) (by simp only [Reg.EVT_RING_BASE_LO]; omega) (by rw [hs]; simp)

theorem chans_countEdge (d : Dev) (s : Nat) (k : EdgeClass) : (d.countEdge s k).chans = d.chans := by
  rw [countEdge_eq, Dev.bump_chans]

/-! ## What placing an edge may touch -/

/-- What placing an edge on channel `n` leaves: the parts and registers that it does not write, and the channel's comparators but for
the memory of a rising edge that was NEAR. -/
structure Placed (n : Nat) (x y : Dev) : Prop where
  alters : Alters [.chans, .wide, .kiln] (placeRegs (n / 8)) x y
  cmps : SameCmps (x.chan n) (y.chan n)

section
variable {n : Nat} {x y z : Dev}

theorem Placed.refl (n : Nat) (x : Dev) : Placed n x x := ⟨.refl x, .refl _⟩

theorem Placed.trans (h : Placed n x y) (g : Placed n y z) : Placed n x z := ⟨h.alters.trans g.alters, h.cmps.trans g.cmps⟩

theorem Placed.ite {c : Prop} [Decidable c] (h : c → Placed n x y) (g : ¬c → Placed n x z) : Placed n x (if c then y else z) := by
  split
  · exact h ‹_›
  · exact g ‹_›

theorem Placed.foldl {α : Type} {f : Dev → α → Dev} (l : List α) (hf : ∀ y a, Placed n y (f y a)) (x : Dev) :
    Placed n x (l.foldl f x) := by
  induction l generalizing x with
  | nil => exact .refl n x
  | cons a l ih => exact (hf x a).trans (ih _)

/-- Work that touches no channel. -/
theorem Placed.of_alters (h : Alters [.chans, .wide, .kiln] (placeRegs (n / 8)) x y) (hc : y.chans = x.chans) : Placed n x y :=
  ⟨h, by rw [Dev.chan_congr hc]; exact .refl _⟩

theorem placed_setChan (x : Dev) {c : ChanSt} (h : SameCmps (x.chan n) c) : Placed n x (x.setChan n c) :=
  ⟨(alters_setChan x n c _).mono (by simp) fun _ ha => ha, by rw [chan_setChan]; exact h⟩

theorem placed_countEdge (n : Nat) (x : Dev) (k : EdgeClass) : Placed n x (x.countEdge (n / 8) k) :=
  .of_alters (alters_countEdge x _ k) (chans_countEdge x _ k)

/-- An edge is counted and its channel noted. -/
theorem placed_counted (x : Dev) (k : EdgeClass) {c : ChanSt} (h : SameCmps (x.chan n) c) :
    Placed n x ((x.countEdge (n / 8) k).setChan n c) :=
  (placed_countEdge n x k).trans (placed_setChan _ (by rwa [Dev.chan_congr (chans_countEdge x _ k)]))

theorem placed_kiln (n : Nat) (x : Dev) (v : KilnSt) : Placed n x { x with kiln := v } := by
  refine .of_alters ((Alters.refl x).direct (fun p hp => ?_) rfl rfl rfl rfl rfl) rfl
  cases p
  case kiln => exact absurd (by decide) hp
  all_goals rfl

end

/-! ## The places of an edge -/

/-- The channel after an edge of class `k`: a rising edge notes whether it was NEAR (R80), an LO rise its stamp. -/
def ChanSt.noteClass (c : ChanSt) (w : Window) (e : EdgeRec) (k : EdgeClass) : ChanSt :=
  let c' := if e.rise then c.setCmp e.cmp { c.cmp e.cmp with nearRise := k == .near } else c
  if e.cmp = 0 ∧ e.rise then { c' with loStamp := if k = .accepted then some (w.slot, (e.t - w.tref.getD w.base) / 16) else none } else c'

theorem sameCmps_noteClass (c : ChanSt) (w : Window) (e : EdgeRec) (k : EdgeClass) : SameCmps c (c.noteClass w e k) := by
  have hnear : SameCmps c (if e.rise then c.setCmp e.cmp { c.cmp e.cmp with nearRise := k == .near } else c) := by
    split
    · exact .near c _ _
    · exact .refl c
  unfold ChanSt.noteClass
  dsimp only
  split
  · exact hnear.trans (.of_eq rfl rfl rfl)
  · exact hnear

theorem queue_noteClass (c : ChanSt) (w : Window) (e : EdgeRec) (k : EdgeClass) : (c.noteClass w e k).queue = c.queue := by
  have hset : (if e.rise then c.setCmp e.cmp { c.cmp e.cmp with nearRise := k == .near } else c).queue = c.queue := by
    obtain ⟨lo, mid, hi, h⟩ := c.setCmp_rest e.cmp { c.cmp e.cmp with nearRise := k == .near }
    rw [h]
    split <;> rfl
  unfold ChanSt.noteClass
  dsimp only
  split
  · exact hset
  · exact hset

/-- The class of an edge against the window of its channel (R80, R110). -/
def Dev.classOf (d : Dev) (n : Nat) (w : Window) (e : EdgeRec) : EdgeClass :=
  w.classify e.t (((d.blanksOf (n / 8)).any fun b => decide (b.1 ≤ e.t ∧ e.t < b.2)) || (!e.rise && ((d.chan n).cmp e.cmp).nearRise))
    (decide (256 ≤ (d.chan n).queue.length))

/-- The stamp of an edge in its place in the queue (R102, R103). -/
abbrev ChanSt.stamped (c : ChanSt) (w : Window) (e : EdgeRec) : List StampRec := (insStamp ⟨w.slot, w.stamp e⟩ c.queue.reverse).reverse

/-- The dead intervals of a window are no part of a stamp. -/
theorem stamped_noteDead (c : ChanSt) (w : Window) (e : EdgeRec) (hold : Nat) (rose : Option Nat) :
    c.stamped (w.noteDead e hold rose) e = c.stamped w e := by
  unfold Window.noteDead
  split_ifs <;> rfl

/-- The part after an edge of class `k` is counted, with the channel's queue, its high-water mark and its window as given. -/
abbrev Dev.classed (d : Dev) (n : Nat) (w : Window) (e : EdgeRec) (k : EdgeClass) (q : List StampRec) (m : Nat) (v : Window) : Dev :=
  (d.countEdge (n / 8) k).setChan n { (d.chan n).noteClass w e k with queue := q, hwm := m, win := some v }

/-- The first edge that a shot's overflow drops is counted and marked (R115). -/
abbrev Dev.countCut (d : Dev) (n : Nat) : Dev :=
  (d.bump (C.SLICE_EM_OVF_SHOT_CNT (n / 8))).sticky (Reg.SLICE_EM_STAT (n / 8)) (n % 8) (Ev.emberOvf (n / 8))

/-- What classifying an edge does: it is counted and noted; an accepted one is stamped, and the first of an overflow counts more. -/
theorem classifyEdge_cases (d : Dev) (n : Nat) (w : Window) (e : EdgeRec) : ∃ k q m v, k = d.classOf n w e ∧
    (d.classifyEdge n w e = d.classed n w e k q m v ∧ (k = .accepted → q = ((d.chan n).noteClass w e k).stamped w e) ∨
      d.classifyEdge n w e = (d.classed n w e k q m v).countCut n ∧ k = .ovf) := by
  unfold Dev.classifyEdge
  extract_lets s c x blanked full k c1 c2 w1 d1 q
  have hk : k = d.classOf n w e := rfl
  have hc : c2 = (d.chan n).noteClass w e k := rfl
  have hd : d1 = d.countEdge (n / 8) k := rfl
  have hq : q = c2.stamped w1 e := rfl
  rw [stamped_noteDead] at hq
  unfold Dev.classed
  clear_value k c2 d1 q
  subst hc hd
  cases k with
  | precursor => exact ⟨_, _, _, _, hk, .inl ⟨rfl, nofun⟩⟩
  | near => exact ⟨_, _, _, _, hk, .inl ⟨rfl, nofun⟩⟩
  | window => exact ⟨_, _, _, _, hk, .inl ⟨rfl, nofun⟩⟩
  | accepted => exact ⟨_, _, _, _, hk, .inl ⟨rfl, fun _ => hq⟩⟩
  | ovf =>
    dsimp only
    split
    · exact ⟨_, _, _, _, hk, .inr ⟨rfl, rfl⟩⟩
    · exact ⟨_, _, _, _, hk, .inl ⟨rfl, nofun⟩⟩

theorem placed_classifyEdge (d : Dev) (n : Nat) (w : Window) (e : EdgeRec) : Placed n d (d.classifyEdge n w e) := by
  have hclass (k : EdgeClass) (q : List StampRec) (m : Nat) (v : Window) : Placed n d (d.classed n w e k q m v) :=
    placed_counted d k ((sameCmps_noteClass _ w e k).trans (.of_eq rfl rfl rfl))
  have hcut (x : Dev) : Placed n x (x.countCut n) :=
    .of_alters (((Alters.refl x).bump _ (by simp) (by simp) rfl).sticky _ _ _ (by simp)) (by simp)
  obtain ⟨k, q, m, v, -, ⟨h, -⟩ | ⟨h, -⟩⟩ := classifyEdge_cases d n w e
  · rw [h]; exact hclass k q m v
  · rw [h]; exact (hclass k q m v).trans (hcut _)

/-- An accepted edge is counted, and its stamp stands in its place in the queue (R102, R103, R110). -/
theorem classifyEdge_accepted {d : Dev} {n : Nat} {w : Window} {e : EdgeRec} (h : d.classOf n w e = .accepted) :
    ∃ c, d.classifyEdge n w e = (d.countEdge (n / 8) .accepted).setChan n c ∧ c.queue = (d.chan n).stamped w e := by
  obtain ⟨k, q, m, v, hk, ⟨he, hq⟩ | ⟨-, hovf⟩⟩ := classifyEdge_cases d n w e
  · obtain rfl : k = .accepted := hk.trans h
    refine ⟨_, he, (hq rfl).trans ?_⟩
    unfold ChanSt.stamped
    rw [queue_noteClass]
  · exact absurd (hovf.symm.trans (hk.trans h)) (by decide)

theorem placed_bufferEdge (d : Dev) (n : Nat) (e : EdgeRec) : Placed n d (d.bufferEdge n e) := by
  unfold Dev.bufferEdge
  dsimp only
  split
  · exact .ite (fun _ => placed_setChan d (.of_eq rfl rfl rfl)) fun _ => placed_counted d .precursor (.of_eq rfl rfl rfl)
  · exact .refl n d

theorem placed_lateEdge (d : Dev) (n slot : Nat) (e : EdgeRec) : Placed n d (d.lateEdge n slot e) := by
  unfold Dev.lateEdge
  extract_lets c x near c1 d1 add d2
  have hc : SameCmps (d.chan n) c1 := by
    unfold c1
    split
    · exact .near _ _ _
    · exact .refl _
  have hd : Placed n d d2 := placed_counted d _ (hc.trans (.of_eq rfl rfl rfl))
  exact hd.trans (placed_kiln n d2 _)

theorem placed_idleEdge (d : Dev) (n : Nat) (e : EdgeRec) : Placed n d (d.idleEdge n e) :=
  .ite (fun _ => placed_setChan d (.of_eq rfl rfl rfl)) fun _ => .refl n d

theorem placed_placeNow (d : Dev) (n : Nat) (e : EdgeRec) : Placed n d (d.placeNow n e) := by
  unfold Dev.placeNow
  dsimp only
  split
  · exact .ite (fun _ => placed_classifyEdge d n _ e) fun _ => .ite (fun _ => placed_bufferEdge d n e) fun _ => placed_idleEdge d n e
  · split
    · exact .ite (fun _ => placed_bufferEdge d n e) fun _ => placed_lateEdge d n _ e
    · exact .ite (fun _ => placed_idleEdge d n e) fun _ => .refl n d

theorem placed_settleWait (d : Dev) (n now : Nat) : Placed n d (d.settleWait n now) :=
  .trans (y := d.setChan n { d.chan n with wait := (d.settledBy n now (d.chan n).wait).2 }) (placed_setChan d (.of_eq rfl rfl rfl))
    (.foldl _ (fun y e => placed_placeNow y n e) _)

theorem placed_placeEdge (d : Dev) (n : Nat) (e : EdgeRec) : Placed n d (d.placeEdge n e) := by
  have hsettle : Placed n d (if (d.chan n).wait.isEmpty then d else d.settleWait n e.t) :=
    .ite (fun _ => .refl n d) fun _ => placed_settleWait d n e.t
  exact hsettle.trans (.ite (fun _ => placed_setChan _ (.of_eq rfl rfl rfl)) fun _ => placed_placeNow _ n e)

/-- The window of the present shot is that of no earlier one. -/
theorem earlierWin_present {d : Dev} {w : Window} {y : Shot} (hy : d.shot = some y) (hslot : w.slot = y.slot) :
    d.earlierWin w = false := by
  unfold Dev.earlierWin
  rw [hy]
  exact bne_eq_false_iff_eq.mpr hslot

/-- An edge whose class is settled, in the window of the present shot with none waiting before it, is classified at once. -/
theorem placeEdge_settled {d : Dev} {n : Nat} {e : EdgeRec} {w : Window} {y : Shot} (hw : (d.chan n).win = some w)
    (hy : d.shot = some y) (hslot : w.slot = y.slot) (hwait : (d.chan n).wait = []) (hopen : d.edgeOpen n e e.t = false) :
    d.placeEdge n e = d.classifyEdge n w e := by
  have hnow : d.placeNow n e = d.classifyEdge n w e := by
    unfold Dev.placeNow
    dsimp only
    rw [hw]
    exact if_pos (by rw [earlierWin_present hy hslot]; simp)
  unfold Dev.placeEdge
  simp only [hwait, List.isEmpty_nil, if_true, hopen]
  exact hnow

end Sys2Proof.Machine
end

section
/-! SUPPORT. A comparator's crossing up to the edge it makes (R61, R66, R68, R76, R77, R100): what its marks alter, and what they say. -/

namespace Sys2Proof.Machine

/-! ## What marking alters -/

/-- The registers that an over-range mark writes (R66). -/
abbrev markRegs (s : Nat) : List Nat := [Reg.SLICE_OVR_CNT s, Reg.SLICE_FE_CNT_SAT s]

theorem alters_accumulate (d : Dev) (n bin : Nat) (spare : Option (Fin 80)) : Alters [.bur] [] d (d.accumulate n bin spare) := by
  refine (Alters.refl d).direct (fun p hp => ?_) rfl rfl rfl rfl rfl
  cases p
  case bur => exact absurd List.mem_cons_self hp
  all_goals rfl

theorem alters_recoverFrom (d : Dev) (n t : Nat) (back : Option Nat) : Alters [.chans] [] d (d.recoverFrom n t back) := by
  cases back with
  | none => exact .refl d
  | some k => exact alters_setChan d n _ _

theorem Alters.bumpOvr {n : Nat} {x y : Dev} (h : Alters [.chans] (markRegs (n / 8)) x y) :
    Alters [.chans] (markRegs (n / 8)) x (y.bump (C.SLICE_OVR_CNT (n / 8))) := h.bump _ (by simp) (by simp) rfl

theorem alters_pulseOver (d : Dev) (n : Nat) : Alters [.chans] (markRegs (n / 8)) d (d.pulseOver n) := by
  unfold Dev.pulseOver
  exact .ite (fun _ => alters_setChan d n _ _) fun _ => .ite (fun _ => .refl d) fun _ =>
    (Alters.refl d).bumpOvr.trans (alters_setChan _ n _ _)

theorem alters_ovrEdge (d : Dev) (n cmp t : Nat) (rise above : Bool) :
    Alters [.chans] (markRegs (n / 8)) d (d.ovrEdge n cmp t rise above).1 := by
  unfold Dev.ovrEdge
  dsimp only
  split
  · exact .ite (fun _ => (alters_setChan d n _ _).bumpOvr) fun _ => alters_setChan d n _ _
  · exact .ite (fun _ => alters_pulseOver d n) fun _ => .refl d

/-! ## The over-range mark (R66, R68) -/

theorem cnt_le_top (d : Dev) (c : Cnt) : d.cnt c ≤ cntTop c := by
  unfold Dev.cnt Dev.wide64 cntTop
  split
  · exact Nat.le_sub_one_of_lt (BitVec.isLt _)
  · exact Nat.le_sub_one_of_lt (BitVec.isLt _)

/-- The pulse in progress is marked wherever it stands: its comparators stand. -/
theorem sameCmps_markPulse (c : ChanSt) : SameCmps c c.markPulse := by
  unfold ChanSt.markPulse
  dsimp only
  split
  · exact .of_eq rfl rfl rfl
  · exact .of_eq rfl rfl rfl

theorem sameCmps_pulseOver (d : Dev) (n : Nat) : SameCmps (d.chan n) ((d.pulseOver n).chan n) := by
  unfold Dev.pulseOver
  dsimp only
  split_ifs
  · rw [chan_setChan]; exact .of_eq rfl rfl rfl
  · exact .refl _
  · rw [chan_setChan]; exact sameCmps_markPulse _

/-- The mark of an LO rise, and its count. -/
theorem ovrEdge_loRise (d : Dev) (n t : Nat) (above : Bool) :
    let m := above || (d.chan n).ovrNext || (d.chan n).recovering t
    (d.ovrEdge n 0 t true above).2 = m ∧
    (d.ovrEdge n 0 t true above).1.chan n = { d.chan n with ovrNext := false, ovrSaid := m } ∧
    (d.ovrEdge n 0 t true above).1.cnt (C.SLICE_OVR_CNT (n / 8)) =
      min (cntTop (C.SLICE_OVR_CNT (n / 8))) (d.cnt (C.SLICE_OVR_CNT (n / 8)) + b2n m) := by
  intro m
  let y := d.setChan n { d.chan n with ovrNext := false, ovrSaid := m }
  have hy : d.ovrEdge n 0 t true above = (if m then y.bump (C.SLICE_OVR_CNT (n / 8)) else y, m) := rfl
  rw [hy]
  refine ⟨rfl, ?_, ?_⟩
  · have hc : (if m then y.bump (C.SLICE_OVR_CNT (n / 8)) else y).chans = y.chans := by
      split
      · exact Dev.bump_chans y _
      · rfl
    exact (Dev.chan_congr hc n).trans (chan_setChan _ _ _)
  · cases m with
    | true => exact Dev.cnt_bumpBy y _ 1 (by simp)
    | false => exact (Nat.min_eq_right (cnt_le_top d _)).symm

/-- An edge other than an LO rise is marked in a recovery time only. -/
theorem ovrEdge_other {d : Dev} {n cmp t : Nat} {rise : Bool} (h : ¬(cmp = 0 ∧ rise)) (above : Bool) :
    d.ovrEdge n cmp t rise above = (if above then d.pulseOver n else d, (d.chan n).recovering t) := if_neg h

/-! ## The comparator moves (R61, R66, R76, R77) -/

/-- The part after comparator `i` of channel `n` has moved to `x`, with the recovery time that V_t's return began noted. -/
def Dev.crossed (d : Dev) (n i t : Nat) (back : Option Nat) (x : CmpSt) : Dev :=
  (d.recoverFrom n t back).setChan n (((d.recoverFrom n t back).chan n).setCmp i x)

theorem alters_crossed (d : Dev) (n i t : Nat) (back : Option Nat) (x : CmpSt) : Alters [.chans] [] d (d.crossed n i t back x) :=
  (alters_recoverFrom d n t back).trans (alters_setChan _ n _ _)

/-- The recovery times of a channel after V_t's return: the new one is among them, and one is gone only if it is over (R61, R66). -/
theorem chan_recoverFrom (d : Dev) (n t : Nat) (back : Option Nat) :
    ∃ r, (d.recoverFrom n t back).chan n = { d.chan n with recovery := r } ∧
    (r.any fun r => decide (r.1 ≤ t ∧ t < r.2)) = (((d.chan n).recovery.any fun r => decide (r.1 ≤ t ∧ t < r.2)) ||
      (back.map fun k => 4096 * (d.time.slotStart + k)).any fun b => decide (b ≤ t ∧ t < b + 30720)) := by
  cases back with
  | none => exact ⟨_, rfl, (Bool.or_false _).symm⟩
  | some k =>
    refine ⟨_, chan_setChan d n _, ?_⟩
    have hover : (fun r : Nat × Nat => decide (t < r.2) && decide (r.1 ≤ t ∧ t < r.2)) = fun r => decide (r.1 ≤ t ∧ t < r.2) := by
      funext r
      rw [← Bool.decide_and]
      exact decide_eq_decide.mpr ⟨fun h => h.2, fun h => ⟨h.2, h⟩⟩
    rw [List.any_append, List.any_filter, hover, Nat.add_comm 30720]
    simp

/-- A channel whose comparator `i` has moved to `x`, with V_t's return inside full scale at `back` where it was beyond (R61, R66). -/
structure Moved (t : Nat) (back : Option Nat) (i : Nat) (x : CmpSt) (c c' : ChanSt) : Prop where
  cmp : c'.cmp i = x
  win : c'.win = c.win
  wait : c'.wait = c.wait
  queue : c'.queue = c.queue
  ovrNext : c'.ovrNext = c.ovrNext
  recovering : c'.recovering t = (c.recovering t || back.any fun b => decide (b ≤ t ∧ t < b + 30720))

theorem moved_crossed (d : Dev) (n i t : Nat) (back : Option Nat) (x : CmpSt) :
    Moved t (back.map fun k => 4096 * (d.time.slotStart + k)) i x (d.chan n) ((d.crossed n i t back x).chan n) := by
  obtain ⟨r, hchan, hany⟩ := chan_recoverFrom d n t back
  have hc : (d.crossed n i t back x).chan n = ({ d.chan n with recovery := r }).setCmp i x := by
    rw [← hchan]; exact chan_setChan _ _ _
  obtain ⟨lo, mid, hi, hrest⟩ := ({ d.chan n with recovery := r } : ChanSt).setCmp_rest i x
  refine ⟨by rw [hc]; exact ChanSt.cmp_setCmp _ _ _, ?_, ?_, ?_, ?_, ?_⟩
  all_goals rw [hc, hrest]
  unfold ChanSt.recovering
  rw [Bool.or_assoc, ← hany]

/-! ## What reads alike -/

section
variable {parts : List Part} {regs : List Nat} {x y : Dev}

theorem Alters.force (h : Alters parts regs x y) (hp : .held ∉ parts) {a : Nat} (ha : a ∉ regs) : y.force a = x.force a := by
  have hheld : y.held = x.held := h.same .held hp
  unfold Dev.force
  rw [hheld, h.reg a ha]

/-- A parameter that no register copies. -/
theorem Alters.par (h : Alters parts regs x y) (hp : .cfg ∉ parts) {i : Nat} (e : Nat) (hi : i ≠ P.out_ring)
    (hc : paramParts i e = []) : y.par i e = x.par i e := by
  have hcfg : y.cfg = x.cfg := h.same .cfg hp
  have hraw : y.rawPar = x.rawPar := by unfold Dev.rawPar; rw [hcfg]
  unfold Dev.par
  rw [if_neg hi, if_neg hi, hc, hcfg, hraw]

end

section
variable {n : Nat} {x y : Dev} (h : Alters [.chans, .bur] (markRegs n) x y)
include h

theorem blankU_marked (s : Nat) : y.blankU s = x.blankU s := by
  have ha : Reg.SLICE_FE_CTL s ∉ markRegs n := by
    simp only [List.mem_cons, List.not_mem_nil, or_false, Reg.SLICE_FE_CTL, Reg.SLICE_OVR_CNT, Reg.SLICE_FE_CNT_SAT]
    omega
  unfold Dev.blankU Dev.forceFld
  rw [h.force (by decide) ha]

theorem refTol_marked : y.refTol = x.refTol := by
  unfold Dev.refTol
  rw [h.par (by decide) 0 (by decide) rfl]

theorem blanksOf_marked (s : Nat) : y.blanksOf s = x.blanksOf s := by
  have hshot : y.shot = x.shot := h.same .shot (by decide)
  unfold Dev.blanksOf
  rw [hshot, refTol_marked h, blankU_marked h]

end

/-- In the window of the present shot the class of an edge is open only for a blanking interval that is not decided (R79). -/
theorem edgeOpen_present {d : Dev} {n : Nat} {w : Window} {y : Shot} (hw : (d.chan n).win = some w) (hy : d.shot = some y)
    (hslot : w.slot = y.slot) (e : EdgeRec) (now : Nat) : d.edgeOpen n e now =
      (!y.tref.isNone && (y.fires && decide (d.blankU (n / 8) ≠ 0) && y.undecided d.refTol e.t now)) := by
  unfold Dev.edgeOpen
  rw [hy, hw]
  dsimp only
  rw [earlierWin_present hy hslot]
  cases y.tref with
  | none => rfl
  | some r => rfl

/-! ## The edge that a crossing makes -/

/-- The part `y` in which an edge of comparator `i`, which has moved to `x`, is marked and counted, and finds its shot next. -/
structure EdgeMarked (n i : Nat) (x : CmpSt) (loRise ovr above : Bool) (d y : Dev) : Prop where
  alters : Alters [.chans, .bur] (markRegs (n / 8)) d y
  cmp : (y.chan n).cmp i = { x with nearRise := ((y.chan n).cmp i).nearRise }
  count : loRise = true → y.cnt (C.SLICE_OVR_CNT (n / 8)) =
    min (cntTop (C.SLICE_OVR_CNT (n / 8))) (d.cnt (C.SLICE_OVR_CNT (n / 8)) + b2n ovr)
  calm : (loRise = true ∨ above = false) →
    (y.chan n).win = (d.chan n).win ∧ (y.chan n).wait = (d.chan n).wait ∧ (y.chan n).queue = (d.chan n).queue ∧ (y.chan n).cmp i = x

/-- An LO rise over range, after one or in a recovery time is over range, and so is any edge in a recovery time (R66, R68). -/
def ChanSt.overRange (c : ChanSt) (t : Nat) (back : Option Nat) (loRise above : Bool) : Bool :=
  (c.recovering t || back.any fun b => decide (b ≤ t ∧ t < b + 30720)) || (loRise && (above || c.ovrNext))

/-- The mark of an edge as its channel's state has it, and what marking it leaves (R66, R68, R100). -/
theorem ovrEdge_marked (d : Dev) (n i t : Nat) (rise : Bool) (x : CmpSt) (bin : Nat) (spare : Option (Fin 80)) (above : Option Nat) :
    let a := (d.crossed n i t above x).accumulate n bin spare
    let loRise := decide (i = 0) && rise
    let ovr := (d.chan n).overRange t (above.map fun k => 4096 * (d.time.slotStart + k)) loRise above.isSome
    (a.ovrEdge n i t rise above.isSome).2 = ovr ∧
      EdgeMarked n i x loRise ovr above.isSome d (a.ovrEdge n i t rise above.isSome).1 := by
  intro a loRise ovr
  obtain ⟨hcmp, hwin, hwait, hqueue, hnext, hrec⟩ : Moved t _ i x (d.chan n) (a.chan n) := moved_crossed d n i t above x
  have ha : Alters [.chans, .bur] [] d a :=
    ((alters_crossed d n i t above x).mono (by decide) fun _ h => h).trans ((alters_accumulate _ n bin spare).mono (by decide) fun _ h => h)
  have halters : Alters [.chans, .bur] (markRegs (n / 8)) d (a.ovrEdge n i t rise above.isSome).1 :=
    (ha.mono (fun _ h => h) (by simp)).trans ((alters_ovrEdge a n i t rise above.isSome).mono (by decide) fun _ h => h)
  have hcmps {c : ChanSt} (h : SameCmps (a.chan n) c) : c.cmp i = { x with nearRise := (c.cmp i).nearRise } := by rw [h i, hcmp]
  by_cases hlo : i = 0 ∧ rise = true
  · obtain ⟨rfl, rfl⟩ := hlo
    obtain ⟨hmark, hchan, hcount⟩ := ovrEdge_loRise a n t above.isSome
    have hm : (above.isSome || (a.chan n).ovrNext || (a.chan n).recovering t) = ovr := by
      rw [hnext, hrec]
      exact Bool.or_comm _ _
    have hold : a.cnt (C.SLICE_OVR_CNT (n / 8)) = d.cnt (C.SLICE_OVR_CNT (n / 8)) :=
      Dev.cnt_congr _ (ha.reg _ List.not_mem_nil) (ha.same .wide (by decide))
    rw [hm] at hmark hchan hcount
    refine ⟨hmark, halters, hcmps (hchan ▸ .of_eq rfl rfl rfl), fun _ => hold ▸ hcount, fun _ => ?_⟩
    rw [hchan]
    exact ⟨hwin, hwait, hqueue, hcmp⟩
  · have hno : loRise = false := by
      rw [← Bool.not_eq_true, Bool.and_eq_true_iff, decide_eq_true_eq]
      exact hlo
    have hm : (a.chan n).recovering t = ovr := by
      rw [hrec]
      unfold ovr ChanSt.overRange
      rw [hno]
      exact (Bool.or_false _).symm
    rw [ovrEdge_other hlo] at halters ⊢
    refine ⟨hm, halters, hcmps ?_, fun h => absurd (hno.symm.trans h) Bool.false_ne_true, fun h => ?_⟩
    · split
      · exact sameCmps_pulseOver a n
      · exact .refl _
    · have habove : above.isSome = false := h.resolve_left fun h => Bool.false_ne_true (hno.symm.trans h)
      rw [habove]
      exact ⟨hwin, hwait, hqueue, hcmp⟩

/-- An edge in being, of a rise or of a fall that `FALL_EN` admits, counts in its TDC's block, is marked, and finds its shot (R73, R100). -/
theorem edge_eq {y : Dev} {n : Nat} {rise : Bool} (hfall : rise = true ∨ bitAt (y.chCfg n).toNat 6 = true) (i t bin : Nat)
    (spare : Option (Fin 80)) (above : Bool) :
    let r := (y.accumulate n bin spare).ovrEdge n i t rise above
    y.edge n i t rise bin spare above = r.1.placeEdge n ⟨i, rise, r.2, t⟩ :=
  if_neg (by rcases hfall with h | h <;> simp [h])

section
variable {d : Dev} {n i : Nat} {rise : Bool} {coarse bin : Nat} (hon : d.chanOn n = true) (hl : d.locked = true)
  (hen : bitAt (d.chCfg n).toNat (3 + i) = true) (spare : Option (Fin 80)) (above : Option Nat)
include hon hl hen

/-- A crossing of a comparator that is on (R76, R77): the comparator moves, and the crossing is an edge or not. -/
theorem crossing_on :
    let t := d.edgeTime n coarse bin
    let x := ((d.chan n).cmp i).cross (d.holdoffU (n / 8)) t rise
    d.crossing n i rise coarse bin spare above = if !x.2 || d.offline (n / 8) then d.crossed n i t above x.1
      else (d.crossed n i t above x.1).edge n i t rise bin spare above.isSome := by
  intro t x
  obtain ⟨hcfg, hdom⟩ := Bool.and_eq_true_iff.mp hon
  have hx : ((((d.recoverFrom n t above).chan n).cmp i).cross ((d.recoverFrom n t above).holdoffU (n / 8)) t rise) = x := by
    cases above with
    | none => rfl
    | some k =>
      have hc : ((d.recoverFrom n t (some k)).chan n).cmp i = (d.chan n).cmp i := by
        unfold Dev.recoverFrom
        rw [chan_setChan]
        rfl
      rw [hc]; rfl
  have hoff (y : CmpSt) : (d.crossed n i t above y).offline (n / 8) = d.offline (n / 8) := by
    cases above <;> rfl
  unfold Dev.crossing
  extract_lets s cfg y c x' z
  have hx' : x' = x := hx
  have hz : z = d.crossed n i t above x.1 := by rw [← hx']; rfl
  have hen' : (!bitAt cfg 0 || !d.locked || !bitAt cfg (3 + i)) = false := by
    rw [show bitAt cfg 0 = true from hcfg, hl, show bitAt cfg (3 + i) = true from hen]
    rfl
  have hdom' : (!d.domOn s) = false := by rw [show d.domOn s = true from hdom]; rfl
  rw [hen', hdom', hx', hz, show (d.crossed n i t above x.1).offline s = d.offline (n / 8) from hoff _]
  rfl

/-- On a slice that is held offline no crossing is an edge (R77, R100). -/
theorem crossing_offline (hoff : d.offline (n / 8) = true) :
    let t := d.edgeTime n coarse bin
    d.crossing n i rise coarse bin spare above =
      d.crossed n i t above (((d.chan n).cmp i).cross (d.holdoffU (n / 8)) t rise).1 := by
  intro t
  rw [crossing_on hon hl hen, hoff]
  exact if_pos (Bool.or_true _)

/-- A crossing that is an edge: it is marked and counted, and then finds its shot. -/
theorem crossing_edge (hoff : d.offline (n / 8) = false) (hfall : rise = true ∨ bitAt (d.chCfg n).toNat 6 = true) :
    let t := d.edgeTime n coarse bin
    let x := ((d.chan n).cmp i).cross (d.holdoffU (n / 8)) t rise
    let loRise := decide (i = 0) && rise
    let ovr := (d.chan n).overRange t (above.map fun k => 4096 * (d.time.slotStart + k)) loRise above.isSome
    x.2 = true → ∃ z, d.crossing n i rise coarse bin spare above = z.placeEdge n ⟨i, rise, ovr, t⟩ ∧
      EdgeMarked n i x.1 loRise ovr above.isSome d z := by
  intro t x loRise ovr hedge
  obtain ⟨hmark, hmade⟩ := ovrEdge_marked d n i t rise x.1 bin spare above
  have hcfg : (d.crossed n i t above x.1).chCfg n = d.chCfg n := (alters_crossed d n i t above x.1).force (by decide) List.not_mem_nil
  refine ⟨_, ?_, hmade⟩
  rw [crossing_on hon hl hen, hoff, if_neg (by rw [show _ = true from hedge]; decide), edge_eq (by rwa [hcfg]), hmark]

end

/-! ## The statement -/

/-- A counter of a slice lies apart from the registers of the event logic and of the command queues. -/
theorem Settled.sliceCnt {s t : State} {e : Dev} (h : Settled s e t) (c : Cnt) (ha : 0x080000 ≤ c.addr) : t.dev.cnt c = e.cnt c :=
  h.cnt c (by rw [evtOwn, decide_eq_false_iff_not]; omega) (by rw [cmdqOwn, decide_eq_false_iff_not]; omega)

theorem evtRingSize_not_edgeReg (s : Nat) : Reg.EVT_RING_SIZE ∉ edgeRegs s := by
  simp only [List.mem_cons, List.not_mem_nil, or_false, Reg.EVT_RING_SIZE, Reg.SLICE_OVR_CNT, Reg.SLICE_FE_CNT_SAT, Reg.SLICE_EM_STAT,
    Reg.SLICE_EM_NOMREF_CNT, Reg.SLICE_EM_OVF_SHOT_CNT, Reg.SLICE_EM_WCOERCE_CNT, Reg.SLICE_EM_CNT_SAT]
  omega

/-- An edge that is marked finds its shot: the comparator and the count of over-range edges stand. -/
theorem EdgeMarked.placed {n i : Nat} {x : CmpSt} {loRise ovr above : Bool} {d z : Dev} (h : EdgeMarked n i x loRise ovr above d z)
    (e : EdgeRec) : Alters [.chans, .bur, .wide, .kiln] (edgeRegs (n / 8)) d (z.placeEdge n e) ∧
      ((z.placeEdge n e).chan n).cmp i = { x with nearRise := (((z.placeEdge n e).chan n).cmp i).nearRise } ∧
      (z.placeEdge n e).cnt (C.SLICE_OVR_CNT (n / 8)) = z.cnt (C.SLICE_OVR_CNT (n / 8)) := by
  obtain ⟨halters, hcmps⟩ := placed_placeEdge z n e
  refine ⟨(h.alters.mono (by decide) (by simp)).trans (halters.mono (by decide) (by simp)), ?_, ?_⟩
  · rw [hcmps i, h.cmp]
  · unfold Dev.cnt
    rw [if_neg (by simp), if_neg (by simp), halters.reg _ (by simp)]

/-- An edge accepted in the window of the present shot, with none waiting before it and its class settled, is stamped in its place and
counted (R102, R103, R110). -/
theorem EdgeMarked.accepted {n i : Nat} {x : CmpSt} {loRise ovr above : Bool} {d z : Dev} (h : EdgeMarked n i x loRise ovr above d z)
    (hcalm : loRise = true ∨ above = false) {e : EdgeRec} (hi : e.cmp = i) {w : Window} {y : Shot} (hw : (d.chan n).win = some w)
    (hy : d.shot = some y) (hslot : w.slot = y.slot) (hwait : (d.chan n).wait = []) (hopen : d.edgeOpen n e e.t = false)
    (hclass : w.classify e.t (((d.blanksOf (n / 8)).any fun b => decide (b.1 ≤ e.t ∧ e.t < b.2)) || (!e.rise && x.nearRise))
      (decide (256 ≤ (d.chan n).queue.length)) = .accepted) :
    ((z.placeEdge n e).chan n).queue = (d.chan n).stamped w e ∧
    (z.placeEdge n e).cnt (C.SLICE_EM_ACC (n / 8)) =
      min (cntTop (C.SLICE_EM_ACC (n / 8))) (d.cnt (C.SLICE_EM_ACC (n / 8)) + 1) := by
  obtain ⟨hwin, hwait', hqueue, hcmp⟩ := h.calm hcalm
  have hshot : z.shot = d.shot := h.alters.same .shot (by decide)
  have hw' : (z.chan n).win = some w := hwin.trans hw
  have hy' : z.shot = some y := hshot.trans hy
  have hopen' : z.edgeOpen n e e.t = false := by
    rw [edgeOpen_present hw hy hslot] at hopen
    rwa [edgeOpen_present hw' hy' hslot, blankU_marked h.alters, refTol_marked h.alters]
  have hclass' : z.classOf n w e = .accepted := by
    unfold Dev.classOf
    rwa [blanksOf_marked h.alters, hi, hcmp, hqueue]
  obtain ⟨c, hc, hq⟩ := classifyEdge_accepted hclass'
  rw [placeEdge_settled hw' hy' hslot (hwait'.trans hwait) hopen', hc]
  refine ⟨?_, ?_⟩
  · rw [chan_setChan, hq]
    unfold ChanSt.stamped
    rw [hqueue]
  · have hcnt : z.cnt (C.SLICE_EM_ACC (n / 8)) = d.cnt (C.SLICE_EM_ACC (n / 8)) := by
      have hwide : z.wide = d.wide := h.alters.same .wide (by decide)
      unfold Dev.cnt Dev.wide64
      rw [hwide]
      rfl
    rw [← hcnt]
    exact Dev.cnt_bumpBy z (C.SLICE_EM_ACC (n / 8)) 1 (by simp)

/-- Settles O29: a crossing moves its comparator, and the edge it makes is marked, and then finds its shot. -/
theorem edgesAreStamped : Obligations.EdgesAreStamped := by
  unfold Obligations.EdgesAreStamped
  intro s slice ch cmp rise coarse bin spare above n c e hon hl hen
  rw [show slice.val = n / 8 by omega]
  intro x
  let f : List Host.Cell → Dev → Dev := fun _ d => d.crossing n cmp.val rise coarse bin.val spare above
  have ht := onDev_settled s f
  have hchan : (s.onDev f).dev.chan n = (f s.mem s.dev.begin_).chan n := Dev.chan_congr (ht.parts .chans) n
  refine ⟨fun hoff => ?_, fun hoff hedge hfall => ?_⟩
  · have hwork : f s.mem s.dev.begin_ = s.dev.begin_.crossed n cmp.val e above x.1 :=
      crossing_offline (d := s.dev.begin_) hon hl hen spare above hoff
    rw [hwork] at hchan
    refine ⟨_, rfl, ?_, Alters.stepLeaves (f := f) (hwork ▸ alters_crossed _ _ _ _ _ _) List.not_mem_nil⟩
    rw [hchan]
    exact (moved_crossed s.dev.begin_ n cmp.val e above x.1).cmp
  · intro loRise back recovering ovr r
    obtain ⟨z, hz, hmade⟩ : ∃ z, f s.mem s.dev.begin_ = z.placeEdge n r ∧
        EdgeMarked n cmp.val x.1 loRise ovr above.isSome s.dev.begin_ z := by
      have hlo : loRise = (decide (cmp.val = 0) && rise) := congrArg (· && rise) (decide_eq_decide.mpr Fin.val_eq_zero_iff.symm)
      have hovr : ovr = c.overRange e back loRise above.isSome := rfl
      unfold r
      rw [hovr, hlo]
      exact crossing_edge (d := s.dev.begin_) hon hl hen spare above hoff hfall hedge
    obtain ⟨halters, hcmp, hcnt⟩ := hmade.placed r
    rw [hz] at ht hchan
    refine ⟨_, rfl, ?_, fun h => ?_, fun w y hw hy hslot hwait hopen hcalm hclass => ?_,
      Alters.stepLeaves (f := f) (hz ▸ halters) (evtRingSize_not_edgeReg _)⟩
    · rw [hchan]
      exact hcmp
    · exact (ht.sliceCnt _ (by dsimp only [Reg.SLICE_OVR_CNT]; omega)).trans (hcnt.trans (hmade.count h))
    · have hcalm' : loRise = true ∨ above.isSome = false := hcalm.imp_right fun h => by rw [h]; rfl
      obtain ⟨hq, hacc⟩ := hmade.accepted hcalm' (e := r) rfl hw hy hslot hwait hopen hclass
      rw [hchan]
      exact ⟨hq, (ht.sliceCnt _ (by dsimp only [Reg.SLICE_EM_ACC_LO]; omega)).trans hacc⟩

end Sys2Proof.Machine
end

section
/-! SUPPORT. Commands that only ask: those that are accepted and leave the work to come, those that begin a commit, and those that begin
the prepare phase of a change (R148, R150, R151, R480, R481, R483, R484, R488, R492). -/

namespace Sys2Proof.Machine

section
variable {i : Instr} {c : Cmd} {op : Nat} {s : State} {body : Body}
  (hx : exec i s = .next (s.onDev fun mem d => runCmd op c body mem d))
include hx

/-- A command whose work is done when it completes. -/
theorem starts_waiting (hb : ∀ p m k, body (c.packet op) s.mem (withQueues s p m k) = .accept (withQueues s p m k) 0) :
    Starts i c op s 0 [] [] fun _ => True :=
  starts id hx (fun p m k _ _ => hb p m k) (fun _ _ _ => .refl _) List.not_mem_nil fun _ _ _ _ _ => trivial

/-- A command that begins the commit of a set (R492). -/
theorem starts_commit {set : Nat} (hb : ∀ p m k, body (c.packet op) s.mem (withQueues s p m k) =
      .accept ((withQueues s p m k).startCommit set (some (c.pair.val, c.tag.toNat)) op) 0) :
    Starts i c op s 0 [.cfg] [Reg.GLB_CFG_STAT] fun t => t.dev.flag F.GLB_CFG_STAT_COMMIT_BUSY = true ∧
      t.dev.cfg = { s.dev.cfg with
        commits := s.dev.cfg.commits ++ [⟨set, s.dev.setEntries set, some (c.pair.val, c.tag.toNat), op⟩] } := by
  refine starts (fun d => d.startCommit set (some (c.pair.val, c.tag.toNat)) op) hx (fun p m k _ _ => hb p m k)
    (fun _ _ _ => alters_startCommit _ _ _ _) (by decide) fun _ _ _ t ht => ⟨?_, ht.parts .cfg⟩
  rw [ht.flag F.GLB_CFG_STAT_COMMIT_BUSY rfl rfl]
  exact Dev.flag_setFlag_self _ _ _ (by decide) rfl

/-- A command that begins the prepare phase of a change (R484). -/
theorem starts_prepare {overlay : Option Nat} (hb : ∀ p m k, body (c.packet op) s.mem (withQueues s p m k) =
      .accept ((withQueues s p m k).startPrepare c.pair.val (c.packet op) overlay) 0) :
    Starts i c op s 0 [.cfg] [] fun t => t.dev.cfg = { s.dev.cfg with
      preparing := some ⟨.command c.pair.val c.tag.toNat, [], [], overlay, 0⟩ } :=
  starts (fun d => d.startPrepare c.pair.val (c.packet op) overlay) hx (fun p m k _ _ => hb p m k) (fun _ _ _ => alters_cfg _ _)
    List.not_mem_nil fun _ _ _ _ ht => ht.parts .cfg

end

/-! ## Where their own checks pass -/

section
variable {q : Nat} {p : Packet} {mem : List Host.Cell} {d : Dev}

theorem not_inDevMem {a n : Nat} (h : a + n ≤ devMemSize) : (!inDevMem a n) = false := not_of_true (decide_eq_true h)

theorem bodyCfgLoad_accept (h : p.u 0 8 + p.u 8 4 ≤ devMemSize) :
    bodyCfgLoad q p mem d = .accept (d.startPrepare q p none) 0 := refuseIf_false (not_inDevMem h) rfl

theorem bodyCalImport_accept (h : p.u 0 8 + 64 ≤ devMemSize) (hrest : d.atRest = true) :
    bodyCalImport q p mem d = .accept (d.startPrepare q p none) 0 :=
  refuseIf_false (not_inDevMem h) (refuseIf_false (not_of_true hrest) rfl)

theorem bodyOverlayApply_accept (hk : p.u 0 1 ≤ 15) (hgood : d.cfg.imageBad.contains (p.u 0 1) = false) :
    bodyOverlayApply q p mem d = .accept (d.startPrepare q p (some (p.u 0 1))) 0 :=
  refuseIf_false (decide_eq_false (Nat.not_lt.mpr hk)) (refuseIf_false hgood rfl)

theorem bodyCfgCommit_accept (hk : p.u 0 1 ≤ 15) (hroom : d.storeFull (p.u 0 1) (d.setEntries (p.u 0 1)) = false) :
    bodyCfgCommit q p mem d = .accept (d.startCommit (p.u 0 1) (some (q, p.tag.toNat)) 0x0604) 0 :=
  refuseIf_false (decide_eq_false (Nat.not_lt.mpr hk)) (refuseIf_false hroom rfl)

theorem bodyOverlayWrite_accept (hlo : 1 ≤ p.u 0 1) (hhi : p.u 0 1 ≤ 15) (hin : p.u 8 8 + p.u 16 4 ≤ devMemSize) :
    bodyOverlayWrite p mem d = .accept d 0 :=
  refuseIf_false (not_of_true (decide_eq_true ⟨hlo, hhi⟩)) (refuseIf_false (not_inDevMem hin) rfl)

/-- Overlay image `k` is forgotten, its marks of damage with it (R480). -/
def Dev.eraseImage (d : Dev) (k : Nat) : Dev :=
  { d with cfg := { d.cfg with images := dropSet k d.cfg.images, imageBad := d.cfg.imageBad.filter (· != k) } }

theorem bodyOverlayErase_ok (hlo : 1 ≤ p.u 0 1) (hhi : p.u 0 1 ≤ 15) (hidle : d.fld F.GLB_CFG_STAT_OVERLAY ≠ p.u 0 1) :
    bodyOverlayErase p mem d = .ok (d.eraseImage (p.u 0 1)) [] :=
  refuseIf_false (not_of_true (decide_eq_true ⟨hlo, hhi⟩)) (refuseIf_false (beq_eq_false_iff_ne.mpr hidle) rfl)

theorem bodyCfgDump_accept (hsrc : p.u 0 1 ≤ 16) (hin : p.u 8 8 + (d.dumpBlob (p.u 0 1)).length ≤ devMemSize)
    (hmax : (d.dumpBlob (p.u 0 1)).length ≤ p.u 16 4) : bodyCfgDump p mem d = .accept d 0 :=
  refuseIf_false (decide_eq_false (Nat.not_lt.mpr hsrc)) <| refuseIf_false (not_inDevMem hin) <|
    refuseIf_false (decide_eq_false (Nat.not_lt.mpr hmax)) rfl

end

/-! ## The commands of the configuration -/

theorem cfgOverlayErase_acts {s : State} {c : Cmd} {k : Nat} (hk : (c.packet 0x0607).u 0 1 = k) (hlo : 1 ≤ k) (hhi : k ≤ 15)
    (hidle : s.dev.fld F.GLB_CFG_STAT_OVERLAY ≠ k) : Acts (.cfgOverlayErase c) c 0x0607 s [] [.cfg] [] fun t =>
      t.dev.cfg = { s.dev.cfg with images := dropSet k s.dev.cfg.images, imageBad := s.dev.cfg.imageBad.filter (· != k) } := by
  subst hk
  exact acts (fun d => d.eraseImage _) rfl (fun _ _ _ _ _ => bodyOverlayErase_ok hlo hhi hidle) (fun _ _ _ => alters_cfg _ _)
    List.not_mem_nil fun _ _ _ _ ht => ht.parts .cfg

/-- Settles O22: each command begins a prepare phase or a commit, waits for its end, or acts at once. -/
theorem configurationCommandsAct : Obligations.ConfigurationCommandsAct := by
  unfold Obligations.ConfigurationCommandsAct
  intro s c
  refine ⟨fun hin => ?_, fun hin hrest => ?_, fun hk hgood => ?_, ?_, fun hk hroom => ?_, fun hlo hhi hin => ?_,
    fun hlo hhi hidle => cfgOverlayErase_acts rfl hlo hhi hidle, fun hsrc hin hmax => ?_⟩
  · exact starts_prepare rfl fun _ _ _ => bodyCfgLoad_accept hin
  · exact starts_prepare rfl fun _ _ _ => bodyCalImport_accept hin hrest
  · exact starts_prepare rfl fun _ _ _ => bodyOverlayApply_accept hk hgood
  · exact starts_prepare rfl fun _ _ _ => rfl
  · exact starts_commit rfl fun _ _ _ => bodyCfgCommit_accept hk hroom
  · exact starts_waiting rfl fun _ _ _ => bodyOverlayWrite_accept hlo hhi hin
  · exact starts_waiting rfl fun _ _ _ => bodyCfgDump_accept hsrc hin hmax

end Sys2Proof.Machine
end

section
/-! SUPPORT. The calibration commands (R143, R146, R148, R150): slices asked to apply, a measurement of range zero, and what their commands
check. -/

namespace Sys2Proof.Machine

/-! ## What Burnish alters -/

theorem alters_bur (d : Dev) (b : BurSt) : Alters [.bur] [] d { d with bur := b } := by
  refine (Alters.refl d).direct (fun p hp => ?_) rfl rfl rfl rfl rfl
  cases p with
  | bur => exact absurd (List.mem_singleton_self _) hp
  | _ => rfl

/-- The registers of the slices, and those above them, are none of the event logic's. -/
theorem evtOwn_slice {a : Nat} (h : 0x080000 ≤ a) : evtOwn a = false := by
  rw [evtOwn, decide_eq_false_iff_not]
  omega

/-- The registers of the slices, and those above them, are none of the command queues'. -/
theorem cmdqOwn_slice {a : Nat} (h : 0x080000 ≤ a) : cmdqOwn a = false := by
  rw [cmdqOwn, decide_eq_false_iff_not]
  omega

theorem burStat_ge (u : Nat) : 0x080000 ≤ Reg.SLICE_BUR_STAT u := by
  simp only [Reg.SLICE_BUR_STAT]
  omega

theorem burStat_inj {u v : Nat} (h : Reg.SLICE_BUR_STAT u = Reg.SLICE_BUR_STAT v) : u = v := by
  simp only [Reg.SLICE_BUR_STAT] at h
  omega

/-! ## A slice asked to apply (R143) -/

theorem burPending_slice (d : Dev) {u : Nat} (hu : u < 64) (reason : Nat) : d.burPending u reason =
    ((d.setBurSlice u { d.burSlice u with pending := true }).setFlag (F.SLICE_BUR_STAT_PENDING u) true).setFld
      (F.SLICE_BUR_STAT_REASON u) reason := if_pos hu

theorem burSlice_setBurSlice (d : Dev) (u v : Nat) (x : BurSlice) :
    (d.setBurSlice v x).burSlice u = if u = v then x else d.burSlice u := sget_sset (fun _ => ({} : BurSlice)) v u x d.bur.slices

theorem alters_setBurSlice (d : Dev) (u : Nat) (x : BurSlice) : Alters [.bur] [] d (d.setBurSlice u x) := alters_bur d _

theorem alters_burPending (d : Dev) {u : Nat} (hu : u < 64) (reason : Nat) :
    Alters [.bur] [Reg.SLICE_BUR_STAT u] d (d.burPending u reason) := by
  rw [burPending_slice d hu]
  exact (((Alters.refl d).part (alters_setBurSlice d u _) (List.mem_singleton_self _)).setFlag (F.SLICE_BUR_STAT_PENDING u) true
    (List.mem_singleton_self _)).setFld (F.SLICE_BUR_STAT_REASON u) reason (List.mem_singleton_self _)

/-- Slice `u` is pending by request, and its register says so. -/
structure Asked (u : Nat) (d : Dev) : Prop where
  pending : (d.burSlice u).pending = true
  shown : d.flag (F.SLICE_BUR_STAT_PENDING u) = true
  reason : d.fld (F.SLICE_BUR_STAT_REASON u) = 1

theorem asked_burPending_self (d : Dev) {u : Nat} (hu : u < 64) : Asked u (d.burPending u 1) := by
  rw [burPending_slice d hu]
  refine ⟨?_, ?_, Dev.fld_setFld_self _ (F.SLICE_BUR_STAT_REASON u) 1 (by decide : 4 + 2 ≤ 32)⟩
  · exact congrArg BurSlice.pending ((burSlice_setBurSlice d u u _).trans (if_pos rfl))
  · rw [Dev.flag_setFld_apart _ (F.SLICE_BUR_STAT_REASON u) (F.SLICE_BUR_STAT_PENDING u) 1 (by decide : 4 + 2 ≤ 32)
      (.inr (.inl (by decide : 0 + 1 ≤ 4)))]
    exact Dev.flag_setFlag_self _ _ true (by decide : 0 + 1 ≤ 32) rfl

/-- A slice that was asked stays asked when another is. -/
theorem Asked.burPending {d : Dev} {u v : Nat} (h : Asked u d) (hv : v < 64) (hne : u ≠ v) : Asked u (d.burPending v 1) := by
  have hreg : (d.burPending v 1).reg (Reg.SLICE_BUR_STAT u) = d.reg (Reg.SLICE_BUR_STAT u) :=
    (alters_burPending d hv 1).reg _ fun hm => hne (burStat_inj (List.mem_singleton.mp hm))
  have hfld {f : Fld} (hf : f.addr = Reg.SLICE_BUR_STAT u) : (d.burPending v 1).fld f = d.fld f := by
    unfold Dev.fld
    rw [hf, hreg]
  refine ⟨?_, ?_, (hfld rfl).trans h.reason⟩
  · rw [burPending_slice d hv]
    exact (congrArg BurSlice.pending ((burSlice_setBurSlice d u v _).trans (if_neg hne))).trans h.pending
  · exact (congrArg (· == 1) (hfld rfl)).trans h.shown

/-- Slices become pending by request, one after the other. -/
def Dev.askSlices (d : Dev) (us : List Nat) : Dev := us.foldl (fun d u => d.burPending u 1) d

theorem alters_askSlices (d : Dev) {us : List Nat} (hus : ∀ u ∈ us, u < 64) :
    Alters [.bur] (us.map fun u => Reg.SLICE_BUR_STAT u) d (d.askSlices us) :=
  Alters.foldlMem us (fun y u hu => (alters_burPending y (hus u hu) 1).mono (fun _ h => h)
    fun _ ha => List.mem_singleton.mp ha ▸ List.mem_map_of_mem hu) (.refl d)

theorem asked_askSlices {us : List Nat} (hus : ∀ u ∈ us, u < 64) {u : Nat} (d : Dev) (h : Asked u d ∨ u ∈ us) :
    Asked u (d.askSlices us) := by
  induction us generalizing d with
  | nil => exact h.resolve_right List.not_mem_nil
  | cons v us ih =>
    obtain ⟨hv, hus⟩ := List.forall_mem_cons.mp hus
    refine ih hus (d.burPending v 1) ?_
    by_cases hne : u = v
    · subst hne
      exact .inl (asked_burPending_self d hv)
    · exact h.imp (·.burPending hv hne) (List.mem_of_ne_of_mem hne)

/-- The requests that wait are no part of what a pending slice notes. -/
theorem requests_askSlices {us : List Nat} (hus : ∀ u ∈ us, u < 64) (d : Dev) : (d.askSlices us).bur.requests = d.bur.requests := by
  induction us generalizing d with
  | nil => rfl
  | cons v us ih =>
    obtain ⟨hv, hus⟩ := List.forall_mem_cons.mp hus
    exact (ih hus (d.burPending v 1)).trans (by rw [burPending_slice d hv]; rfl)

/-! ## `cal.burnish` (R143) -/

/-- The slices of a request are asked, and it waits for them. -/
def Dev.requestApply (d : Dev) (r : BurRequest) : Dev :=
  let x := d.askSlices r.waiting
  { x with bur := { x.bur with requests := x.bur.requests ++ [r] } }

theorem alters_requestApply (d : Dev) (r : BurRequest) (hus : ∀ u ∈ r.waiting, u < 64) :
    Alters [.bur] (r.waiting.map fun u => Reg.SLICE_BUR_STAT u) d (d.requestApply r) :=
  (alters_askSlices d hus).part (alters_bur _ _) (List.mem_singleton_self _)

theorem asked_requestApply (d : Dev) {r : BurRequest} (hus : ∀ u ∈ r.waiting, u < 64) {u : Nat} (hu : u ∈ r.waiting) :
    Asked u (d.requestApply r) := by
  obtain ⟨hp, hs, hr⟩ := asked_askSlices hus d (.inr hu)
  exact ⟨hp, hs, hr⟩

/-- A slice is asked in the state that a step leaves as its work left the slice. -/
theorem Settled.asked {s t : State} {e : Dev} (ht : Settled s e t) {u : Nat} (h : Asked u e) : Asked u t.dev := by
  have ho := evtOwn_slice (burStat_ge u)
  have hq := cmdqOwn_slice (burStat_ge u)
  have hbur : t.dev.bur = e.bur := ht.parts .bur
  refine ⟨?_, (ht.flag (F.SLICE_BUR_STAT_PENDING u) ho hq).trans h.shown, (ht.fld (F.SLICE_BUR_STAT_REASON u) ho hq).trans h.reason⟩
  unfold Dev.burSlice
  rw [hbur]
  exact h.pending

/-- The slices that `cal.burnish` names (R143). -/
abbrev burnishSlices (p : Packet) : List Nat := (List.range 64).filter (bitAt (p.u 0 8))

/-- What `cal.burnish` waits for. -/
abbrev burnishRequest (q : Nat) (p : Packet) : BurRequest := ⟨q, p.tag.toNat, burnishSlices p, [], none⟩

theorem burnishSlices_lt {p : Packet} : ∀ u ∈ burnishSlices p, u < 64 := fun _ hu => List.mem_range.mp (List.mem_of_mem_filter hu)

theorem bodyCalBurnish_accept {q : Nat} {p : Packet} {mem : List Host.Cell} {d : Dev} (hne : burnishSlices p ≠ [])
    (hready : ∀ u ∈ burnishSlices p, d.domOn u = true ∧ d.unitTdcs u ≠ [] ∧ d.unitReady u = true) :
    bodyCalBurnish q p mem d = .accept (d.requestApply (burnishRequest q p)) 0 := by
  have hfind : ((burnishSlices p).find? fun u => !d.domOn u || (d.unitTdcs u).isEmpty || !d.unitReady u) = none := by
    refine List.find?_eq_none.mpr fun u hu => ?_
    obtain ⟨hon, htdcs, hr⟩ := hready u hu
    simp [hon, htdcs, hr]
  have hsome : (burnishSlices p).isEmpty = false := List.isEmpty_eq_false_iff.mpr hne
  unfold bodyCalBurnish
  dsimp only
  rw [hfind]
  dsimp only
  rw [hsome]
  rfl

theorem bodyCalBurnish_none {q : Nat} {p : Packet} {mem : List Host.Cell} {d : Dev} (h : burnishSlices p = []) :
    bodyCalBurnish q p mem d = .ok d [] := by
  unfold bodyCalBurnish
  dsimp only
  rw [show (List.range 64).filter (bitAt (p.u 0 8)) = [] from h]
  rfl

section
variable {s : State} {c : Cmd}

theorem calBurnish_starts (hne : burnishSlices (c.packet 0x0401) ≠ [])
    (hready : ∀ u ∈ burnishSlices (c.packet 0x0401), s.dev.domOn u = true ∧ s.dev.unitTdcs u ≠ [] ∧ s.dev.unitReady u = true) :
    Starts (.calBurnish c) c 0x0401 s 0 [.bur] ((burnishSlices (c.packet 0x0401)).map fun u => Reg.SLICE_BUR_STAT u) fun t =>
      t.dev.bur.requests = s.dev.bur.requests ++ [⟨c.pair.val, c.tag.toNat, burnishSlices (c.packet 0x0401), [], none⟩] ∧
      ∀ u ∈ burnishSlices (c.packet 0x0401), (t.dev.burSlice u).pending = true ∧ t.dev.flag (F.SLICE_BUR_STAT_PENDING u) = true ∧
        t.dev.fld (F.SLICE_BUR_STAT_REASON u) = 1 := by
  refine starts (fun d => d.requestApply (burnishRequest c.pair.val (c.packet 0x0401))) rfl
    (fun _ _ _ _ _ => bodyCalBurnish_accept hne hready)
    (fun _ _ _ => alters_requestApply _ (burnishRequest c.pair.val (c.packet 0x0401)) burnishSlices_lt) (fun hm => ?_)
    fun p m k t ht => ⟨?_, fun u hu => ?_⟩
  · obtain ⟨u, -, hu⟩ := List.mem_map.mp hm
    exact absurd (burStat_ge u) (by rw [hu]; decide)
  · have hbur : t.dev.bur = _ := ht.parts .bur
    rw [hbur]
    exact congrArg (· ++ _) (requests_askSlices burnishSlices_lt (withQueues s p m k))
  · obtain ⟨hp, hs, hr⟩ := ht.asked (asked_requestApply _ burnishSlices_lt hu)
    exact ⟨hp, hs, hr⟩

theorem calBurnish_acts (h : burnishSlices (c.packet 0x0401) = []) :
    Acts (.calBurnish c) c 0x0401 s [] [] [] fun _ => True :=
  acts id rfl (fun _ _ _ _ _ => bodyCalBurnish_none h) (fun _ _ _ => .refl _) List.not_mem_nil fun _ _ _ _ _ => trivial

end

/-! ## The other calibration commands (R146, R148, R150) -/

/-- The measurement of range zero that a command asks for. -/
def askedRangeZero (p : Packet) : RangeZero := ⟨p.u 0 2, p.u 2 2, p.u 4 4, p.u 8 2, p.u 10 1, 0, [], 0, 0⟩

theorem bodyCalRangeZero_accept {p : Packet} {mem : List Host.Cell} {d : Dev} (hord : p.u 0 2 ≤ p.u 2 2) (htop : p.u 2 2 ≤ 511)
    (hshots : 64 ≤ p.u 8 2) (hrun : d.scanState = stRunning) :
    bodyCalRangeZero p mem d = .accept { d with bur := { d.bur with rangeZero := some (askedRangeZero p) } } 0 :=
  refuseIf_false (decide_eq_false (by omega)) <| refuseIf_false (decide_eq_false (by omega)) <|
    refuseIf_false (decide_eq_false (by omega)) <| refuseIf_false (bne_eq_false_iff_eq.mpr hrun) rfl

theorem bodyCalCommit_accept {q : Nat} {p : Packet} {mem : List Host.Cell} {d : Dev}
    (hroom : d.storeFull 16 (d.setEntries 16) = false) :
    bodyCalCommit q p mem d = .accept (d.startCommit 16 (some (q, p.tag.toNat)) 0x0402) 0 := refuseIf_false hroom rfl

theorem bodyCalExport_accept {p : Packet} {mem : List Host.Cell} {d : Dev} (halign : p.u 8 8 % 64 = 0)
    (hin : p.u 8 8 + calBlobLen ≤ devMemSize) (hmax : calBlobLen ≤ p.u 16 4) : bodyCalExport p mem d = .accept d 0 := by
  refine refuseIf_false ?_ (if_neg (Nat.not_lt.mpr hmax))
  rw [bne_eq_false_iff_eq.mpr halign, not_inDevMem hin]
  rfl

theorem calRangeZero_starts {s : State} {c : Cmd} (hord : (c.packet 0x0403).u 0 2 ≤ (c.packet 0x0403).u 2 2)
    (htop : (c.packet 0x0403).u 2 2 ≤ 511) (hshots : 64 ≤ (c.packet 0x0403).u 8 2) (hrun : s.dev.scanState = stRunning) :
    Starts (.calRangeZero c) c 0x0403 s 0 [.bur] [] fun t =>
      t.dev.bur = { s.dev.bur with rangeZero := some (askedRangeZero (c.packet 0x0403)) } :=
  starts (fun d => { d with bur := { d.bur with rangeZero := some (askedRangeZero (c.packet 0x0403)) } }) rfl
    (fun _ _ _ _ _ => bodyCalRangeZero_accept hord htop hshots hrun) (fun _ _ _ => alters_bur _ _) List.not_mem_nil
    fun _ _ _ _ ht => ht.parts .bur

/-- Settles O17: each clause is the rule of its command. -/
theorem calibrationCommandsAct : Obligations.CalibrationCommandsAct := by
  unfold Obligations.CalibrationCommandsAct
  intro s c
  refine ⟨calBurnish_starts, calBurnish_acts, fun hroom => ?_, calRangeZero_starts, fun halign hin hmax => ?_⟩
  · exact starts_commit rfl fun _ _ _ => bodyCalCommit_accept hroom
  · exact starts_waiting rfl fun _ _ _ => bodyCalExport_accept halign hin hmax

end Sys2Proof.Machine
end

section
/-! SUPPORT. The blocks of the TDCs (R129, R130, R144): a block that ends, one that is discarded, and those of the reference TDCs, whose
counts are free values. -/

namespace Sys2Proof.Machine

/-! ## A new block -/

theorem tdc_setTdc (d : Dev) (n : Nat) (x : TdcSt) : (d.setTdc n x).tdc n = x := sget_sset_self _ _ _ _

theorem alters_setTdc (d : Dev) (n : Nat) (x : TdcSt) : Alters [.bur] [] d (d.setTdc n x) := alters_bur d _

/-- The block that starts in a part on TDC `n` (R129, R130). -/
def Dev.freshBlock (d : Dev) (n : Nat) : BurBlock := { start := d.time.ticks, temp0 := d.knownTemp (tdcRegion n) }

theorem tdc_newBlock (d : Dev) (n : Nat) : (d.newBlock n).tdc n = { d.tdc n with block := d.freshBlock n } := tdc_setTdc _ _ _

theorem alters_newBlock (d : Dev) (n : Nat) : Alters [.bur] [] d (d.newBlock n) := alters_setTdc _ _ _

section
variable {parts : List Part} {regs : List Nat} {x y : Dev}

theorem Alters.regionTemp (h : Alters parts regs x y) (hp : .hk ∉ parts) (hr : Reg.THM_FAIL ∉ regs) (r : Nat) :
    y.regionTemp r = x.regionTemp r := by
  have hhk : y.hk = x.hk := h.same .hk hp
  unfold Dev.regionTemp Dev.sensor Dev.bit
  rw [hhk, h.reg _ hr]

theorem Alters.freshBlock (h : Alters parts regs x y) (hp : .hk ∉ parts) (ht : .time ∉ parts) (hr : Reg.THM_FAIL ∉ regs) (n : Nat) :
    y.freshBlock n = x.freshBlock n := by
  have hhk : y.hk = x.hk := h.same .hk hp
  have htime : y.time = x.time := h.same .time ht
  unfold Dev.freshBlock Dev.knownTemp Dev.sensor
  rw [hhk, htime, h.regionTemp hp hr]

end

/-! ## A discarded block (R130) -/

/-- The registers that discarding a block of slice `u` counts in. -/
abbrev discardRegs (u : Nat) : List Nat := [Reg.SLICE_BUR_DISCARD_CNT u, Reg.SLICE_BUR_CNT_SAT u]

theorem discardBlock_channel (d : Dev) {n : Nat} (hn : n < 512) :
    d.discardBlock n = (d.bump (C.SLICE_BUR_DISCARD_CNT (n / 8))).newBlock n := by
  unfold Dev.discardBlock
  rw [if_pos hn]

theorem discardBlock_ref (d : Dev) {n : Nat} (hn : 512 ≤ n) : d.discardBlock n = d.newBlock n := by
  unfold Dev.discardBlock
  rw [if_neg (Nat.not_lt.mpr hn)]

theorem alters_countDiscard (d : Dev) (u : Nat) : Alters [] (discardRegs u) d (d.bump (C.SLICE_BUR_DISCARD_CNT u)) :=
  (Alters.refl d).bump _ (by simp) (by simp) rfl

theorem not_discardReg {a : Nat} (h : a % 0x1000 < 0x300) (u : Nat) : a ∉ discardRegs u := by
  simp only [List.mem_cons, List.not_mem_nil, or_false, Reg.SLICE_BUR_DISCARD_CNT, Reg.SLICE_BUR_CNT_SAT]
  omega

/-- What discarding the block of a channel's TDC leaves: its result, a new block, and one count more. -/
structure Discarded (n : Nat) (x y : Dev) : Prop where
  alters : Alters [.bur] (discardRegs (n / 8)) x y
  result : (y.tdc n).result = (x.tdc n).result
  block : (y.tdc n).block = x.freshBlock n
  count : y.cnt (C.SLICE_BUR_DISCARD_CNT (n / 8)) =
    min (cntTop (C.SLICE_BUR_DISCARD_CNT (n / 8))) (x.cnt (C.SLICE_BUR_DISCARD_CNT (n / 8)) + 1)

theorem discarded_channel (d : Dev) {n : Nat} (hn : n < 512) : Discarded n d (d.discardBlock n) := by
  have hcount := alters_countDiscard d (n / 8)
  have htdc : (d.bump (C.SLICE_BUR_DISCARD_CNT (n / 8))).tdc n = d.tdc n := by unfold Dev.tdc; rw [Dev.bump_bur]
  rw [discardBlock_channel d hn]
  refine ⟨(hcount.mono nofun fun _ h => h).part (alters_newBlock _ n) (List.mem_singleton_self _), ?_, ?_, ?_⟩
  · rw [tdc_newBlock, htdc]
  · rw [tdc_newBlock]
    exact hcount.freshBlock List.not_mem_nil List.not_mem_nil (not_discardReg (by decide) _) n
  · exact Dev.cnt_bumpBy d (C.SLICE_BUR_DISCARD_CNT (n / 8)) 1 (by simp)

/-! ## A block that ends (R129) -/

/-- The block fails the test at its end (R130). -/
def Dev.blockBad (d : Dev) (n : Nat) (b : BurBlock) : Bool :=
  b.spoiled || d.blockMoved n b || spiked (d.par P.burnish_spike_pct 0) b

/-- The result that the block of TDC `n` becomes (R129, R131). -/
def Dev.frozen (d : Dev) (n : Nat) (b : BurBlock) : BurResult :=
  ⟨b.bins, b.spare, b.total, d.time.ticks, if b.tempCnt = 0 then d.regionTemp (tdcRegion n) else roundDiv b.tempSum b.tempCnt⟩

/-- The block of TDC `n` becomes its result, and a new one starts. -/
def Dev.freezeBlock (d : Dev) (n : Nat) : Dev :=
  (d.setTdc n { d.tdc n with result := some (d.frozen n (d.tdc n).block) }).newBlock n

theorem alters_freezeBlock (d : Dev) (n : Nat) : Alters [.bur] [] d (d.freezeBlock n) :=
  (alters_setTdc d n _).trans (alters_newBlock _ n)

theorem tdc_freezeBlock (d : Dev) (n : Nat) : (d.freezeBlock n).tdc n =
    { d.tdc n with result := some (d.frozen n (d.tdc n).block), block := d.freshBlock n } := by
  unfold Dev.freezeBlock
  rw [tdc_newBlock, tdc_setTdc]
  rfl

/-- A full block is tested (R129, R130). -/
def Dev.judgeBlock (d : Dev) (n : Nat) : Dev :=
  if d.blockBad n (d.tdc n).block then d.discardBlock n else d.freezeBlock n

theorem blockEnd_full {d : Dev} {n : Nat} (htime : n < 512 ∨ d.refTime 1 = true)
    (hfull : (d.refBlock n).par P.burnish_min_events 0 ≤ ((d.refBlock n).tdc n).block.total) :
    d.blockEnd n = (d.refBlock n).judgeBlock n := by
  have hgo : ¬((decide (512 ≤ n) && !d.refTime 1) = true) := by
    rcases htime with hn | ht
    · simp [Nat.not_le.mpr hn]
    · simp [ht]
  unfold Dev.blockEnd
  rw [if_neg hgo]
  exact if_neg (Nat.not_lt.mpr hfull)

theorem refBlock_channel (d : Dev) {n : Nat} (hn : n < 512) : d.refBlock n = d := if_pos hn

/-- A block whose temperature has not been read cannot have moved. -/
theorem blockMoved_eq (d : Dev) (n : Nat) (b : BurBlock) : d.blockMoved n b =
    (b.temp0.map fun x => tempOver (d.regionTemp (tdcRegion n)) x (d.par P.burnish_temp_spread 0)).getD false := by
  unfold Dev.blockMoved
  cases b.temp0 <;> rfl

/-! ## Reference TDCs (R144) -/

/-- Free counts are drawn, and nothing else changes. -/
theorem drawCounts_part (all : Bool) (n k left : Nat) (d : Dev) : ∃ v, (d.drawCounts all n k left).1 = { d with freeCtr := v } := by
  induction n generalizing k left d with
  | zero => exact ⟨d.freeCtr, rfl⟩
  | succ n ih => exact ih _ _ d.freeNext

theorem alters_free (d : Dev) (v : Nat) : Alters [.free] [] d { d with freeCtr := v } := by
  refine (Alters.refl d).direct (fun p hp => ?_) rfl rfl rfl rfl rfl
  cases p with
  | free => exact absurd (List.mem_singleton_self _) hp
  | _ => rfl

theorem alters_drawCounts (d : Dev) (all : Bool) (n k left : Nat) : Alters [.free] [] d (d.drawCounts all n k left).1 := by
  obtain ⟨v, hv⟩ := drawCounts_part all n k left d
  rw [hv]
  exact alters_free d v

/-- The block of a reference TDC holds its number of counts, whatever they fell on. -/
theorem refBlock_ref (d : Dev) {n : Nat} (hn : 512 ≤ n) : Alters [.bur, .free] [] d (d.refBlock n) ∧
    ((d.refBlock n).tdc n).block.total = d.par P.burnish_min_events 0 := by
  have hbins := alters_drawCounts d true 64 0 (d.par P.burnish_min_events 0)
  have hspare := alters_drawCounts (d.drawCounts true 64 0 (d.par P.burnish_min_events 0)).1 false 80 0 (d.par P.burnish_min_events 0)
  unfold Dev.refBlock
  rw [if_neg (Nat.not_lt.mpr hn)]
  refine ⟨?_, congrArg (·.block.total) (tdc_setTdc _ n _)⟩
  exact ((hbins.trans hspare).mono (by simp) fun _ h => h).part (alters_setTdc _ n _) (by simp)

/-- The block of a reference TDC starts anew, whatever comes of the one before it. -/
theorem judgeBlock_ref (d : Dev) {n : Nat} (hn : 512 ≤ n) : Alters [.bur] [] d (d.judgeBlock n) ∧
    ((d.judgeBlock n).tdc n).block = d.freshBlock n := by
  unfold Dev.judgeBlock
  split
  · rw [discardBlock_ref d hn, tdc_newBlock]
    exact ⟨alters_newBlock d n, rfl⟩
  · rw [tdc_freezeBlock]
    exact ⟨alters_freezeBlock d n, rfl⟩

/-! ## The events -/

theorem Settled.tdc {s t : State} {e : Dev} (ht : Settled s e t) (n : Nat) : t.dev.tdc n = e.tdc n := by
  have hbur : t.dev.bur = e.bur := ht.parts .bur
  unfold Dev.tdc
  rw [hbur]

section
variable {i : Instr} {s : State} {n : Nat} {f : List Host.Cell → Dev → Dev} (hx : exec i s = .next (s.onDev f))
include hx

/-- A step whose work discards the block of a channel's TDC. -/
theorem gives_discard (hn : n < 512) (hf : f s.mem s.dev.begin_ = s.dev.begin_.discardBlock n) : Gives i s fun t =>
    ((t.dev.tdc n).result = (s.dev.tdc n).result ∧ (t.dev.tdc n).block = s.dev.freshBlock n ∧
      Counts (C.SLICE_BUR_DISCARD_CNT (n / 8)) 1 s t) ∧ Leaves [.bur] (discardRegs (n / 8)) s t := by
  have h := discarded_channel s.dev.begin_ hn
  refine gives_step hx hf h.alters (not_discardReg (by decide) _) fun t ht _ => ?_
  rw [ht.tdc]
  exact ⟨h.result, h.block, (ht.sliceCnt _ (by dsimp only [Reg.SLICE_BUR_DISCARD_CNT]; omega)).trans h.count⟩

/-- A step whose work starts a new block on a TDC. -/
theorem gives_fresh {parts : List Part} {d : Dev} (hf : f s.mem s.dev.begin_ = d) (ha : Alters parts [] s.dev.begin_ d)
    (hb : (d.tdc n).block = s.dev.freshBlock n) : Gives i s fun t =>
    (t.dev.tdc n).block = s.dev.freshBlock n ∧ Leaves parts [] s t :=
  gives_step hx hf ha List.not_mem_nil fun t ht _ => by rw [ht.tdc, hb]

end

section
variable (s : State) (tdc : Fin 514)

/-- A full block of a channel's TDC that passes the test. -/
theorem gives_frozen (hn : tdc.val < 512) (hfull : s.dev.par P.burnish_min_events 0 ≤ (s.dev.tdc tdc.val).block.total)
    (hgood : s.dev.blockBad tdc.val (s.dev.tdc tdc.val).block = false) : Gives (.burnishBlockEnd tdc) s fun t =>
      (t.dev.tdc tdc.val = { s.dev.tdc tdc.val with
        result := some (s.dev.frozen tdc.val (s.dev.tdc tdc.val).block), block := s.dev.freshBlock tdc.val }) ∧
      Leaves [.bur] [] s t := by
  have hwork : s.dev.begin_.blockEnd tdc.val = s.dev.begin_.freezeBlock tdc.val := by
    rw [blockEnd_full (.inl hn) (by rw [refBlock_channel _ hn]; exact hfull), refBlock_channel _ hn]
    exact if_neg (Bool.eq_false_iff.mp hgood)
  refine gives_step rfl hwork (alters_freezeBlock _ _) List.not_mem_nil fun t ht _ => ?_
  rw [ht.tdc, tdc_freezeBlock]
  rfl

/-- A full block of a channel's TDC that fails the test. -/
theorem gives_failed (hn : tdc.val < 512) (hfull : s.dev.par P.burnish_min_events 0 ≤ (s.dev.tdc tdc.val).block.total)
    (hbad : s.dev.blockBad tdc.val (s.dev.tdc tdc.val).block = true) : Gives (.burnishBlockEnd tdc) s fun t =>
      ((t.dev.tdc tdc.val).result = (s.dev.tdc tdc.val).result ∧ (t.dev.tdc tdc.val).block = s.dev.freshBlock tdc.val ∧
        Counts (C.SLICE_BUR_DISCARD_CNT (tdc.val / 8)) 1 s t) ∧ Leaves [.bur] (discardRegs (tdc.val / 8)) s t := by
  have hwork : s.dev.begin_.blockEnd tdc.val = s.dev.begin_.discardBlock tdc.val := by
    rw [blockEnd_full (.inl hn) (by rw [refBlock_channel _ hn]; exact hfull), refBlock_channel _ hn]
    exact if_pos hbad
  exact gives_discard rfl hn hwork

/-- A reference TDC's block ends in its time. -/
theorem gives_refEnd (hn : 512 ≤ tdc.val) (htime : s.dev.refTime 1 = true) : Gives (.burnishBlockEnd tdc) s fun t =>
    (t.dev.tdc tdc.val).block = s.dev.freshBlock tdc.val ∧ Leaves [.bur, .free] [] s t := by
  obtain ⟨hfill, htotal⟩ := refBlock_ref s.dev.begin_ hn
  obtain ⟨hjudge, hblock⟩ := judgeBlock_ref (s.dev.begin_.refBlock tdc.val) hn
  have hpar : (s.dev.begin_.refBlock tdc.val).par P.burnish_min_events 0 = s.dev.begin_.par P.burnish_min_events 0 :=
    hfill.par (by decide) 0 (by decide) rfl
  refine gives_fresh rfl (blockEnd_full (d := s.dev.begin_) (.inr htime) (by rw [htotal, hpar]))
    (hfill.trans (hjudge.mono (by simp) fun _ h => h)) ?_
  rw [hblock]
  exact hfill.freshBlock (by decide) (by decide) List.not_mem_nil tdc.val

/-- A reference TDC's block does not end outside its time. -/
theorem gives_refStays (hn : 512 ≤ tdc.val) (htime : s.dev.refTime 1 = false) : Gives (.burnishBlockEnd tdc) s fun t =>
    Leaves [] [] s t := by
  have hwork : s.dev.begin_.blockEnd tdc.val = s.dev.begin_ := by
    refine if_pos ?_
    rw [show s.dev.begin_.refTime 1 = false from htime, decide_eq_true hn]
    rfl
  exact gives_leaves (gives_step rfl hwork (.refl _) List.not_mem_nil fun _ _ _ => trivial)

end

/-- Settles O18: a channel's block passes the test or fails it, a reference TDC's ends in its time, and every block can time out. -/
theorem blocksEndAsResults : Obligations.BlocksEndAsResults := by
  unfold Obligations.BlocksEndAsResults
  intro s tdc b region now moved bad fresh
  have hbad : bad = s.dev.blockBad tdc.val b := by
    unfold Dev.blockBad
    rw [blockMoved_eq]
  rw [hbad]
  refine ⟨fun hn hfull hgood => ?_, fun hn hfull hfail => ?_, gives_refEnd s tdc, gives_refStays s tdc, fun hn => ?_, fun hn => ?_⟩
  · refine gives_imp (gives_frozen s tdc hn hfull hgood) fun t ⟨htdc, hl⟩ => ?_
    rw [htdc]
    exact ⟨rfl, rfl, hl⟩
  · exact gives_imp (gives_failed s tdc hn hfull hfail) fun _ ⟨⟨hres, hblock, hcnt⟩, hl⟩ => ⟨hres, hblock, hcnt, hl⟩
  · exact gives_imp (gives_discard rfl hn rfl) fun _ ⟨⟨_, hblock, hcnt⟩, hl⟩ => ⟨hblock, hcnt, hl⟩
  · refine gives_fresh rfl (discardBlock_ref s.dev.begin_ hn) (alters_newBlock _ _) ?_
    rw [tdc_newBlock]
    rfl

end Sys2Proof.Machine
end

section
/-! SUPPORT. The end of a measurement of range zero (R146): live values of parameters that no register copies, and the completion. -/

namespace Sys2Proof.Machine

/-! ## Live values -/

section
variable {d : Dev} {i e : Nat} (hi : i ≠ P.out_ring) (hp : paramParts i e = [])
include hi hp

theorem setPar_live (v : Nat) : d.setPar i e v = { d with cfg := { d.cfg with live := sput (pkey i e) v d.cfg.live } } := by
  unfold Dev.setPar
  rw [if_neg hi, hp]

theorem alters_setPar (v : Nat) : Alters [.cfg] [] d (d.setPar i e v) := by
  rw [setPar_live hi hp]
  exact alters_cfg d _

theorem slook_setPar (v k : Nat) : slook k (d.setPar i e v).cfg.live = if k = pkey i e then some v else slook k d.cfg.live := by
  rw [setPar_live hi hp]
  exact slook_sput _ _ _ _

/-- An element reads the value that was set. -/
theorem par_live {v : Nat} (h : slook (pkey i e) d.cfg.live = some v) : d.par i e = v := by
  unfold Dev.par
  rw [if_neg hi, hp]
  dsimp only
  rw [h, Option.getD_some]

end

/-- Elements of one parameter that no register copies take values, one after the other. -/
def Dev.setElems (d : Dev) (i : Nat) (val : Nat → Nat) (es : List Nat) : Dev := es.foldl (fun d e => d.setPar i e (val e)) d

section
variable {i : Nat} (hi : i ≠ P.out_ring) (hp : ∀ e, paramParts i e = [])
include hi hp

theorem alters_setElems (d : Dev) (val : Nat → Nat) (es : List Nat) : Alters [.cfg] [] d (d.setElems i val es) :=
  Alters.foldl (fun _ e => alters_setPar hi (hp e) (val e)) es d d (.refl d)

theorem slook_setElems (val : Nat → Nat) {e : Nat} (es : List Nat) (d : Dev)
    (h : slook (pkey i e) d.cfg.live = some (val e) ∨ e ∈ es) : slook (pkey i e) (d.setElems i val es).cfg.live = some (val e) := by
  induction es generalizing d with
  | nil => exact h.resolve_right List.not_mem_nil
  | cons a es ih =>
    refine ih (d.setPar i a (val a)) ?_
    rw [slook_setPar hi (hp a)]
    by_cases hea : e = a
    · subst hea
      exact .inl (if_pos rfl)
    · have hkey : pkey i e ≠ pkey i a := by
        unfold pkey
        omega
      rw [if_neg hkey]
      exact h.imp_right (List.mem_of_ne_of_mem hea)

end

/-! ## The values of a measurement -/

/-- The range zero of a row: its mean time beyond the time of flight over the given distance (R146). -/
def RangeZero.zero (z : RangeZero) (k : Nat) : Nat := unsgn 16 (clampI (-32768) 32767
  (roundDiv (z.row k).1 (z.row k).2.2 - roundDiv ((z.dist : Int) * 5000000000000) 4684257156250))

/-- The mean temperature of a measurement is kept, where a housekeeping round fell within it. -/
def Dev.keepRzTemp (d : Dev) (z : RangeZero) : Dev :=
  if z.tempCnt = 0 then d else d.setPar P.burnish_rz_t0 0 (unsgn 16 (roundDiv z.tempSum z.tempCnt))

theorem alters_keepRzTemp (d : Dev) (z : RangeZero) : Alters [.cfg] [] d (d.keepRzTemp z) :=
  .ite (fun _ => .refl d) fun _ => alters_setPar (by decide) rfl _

theorem slook_keepRzTemp (d : Dev) (z : RangeZero) (k : Nat) :
    slook (pkey P.cal_range_zero k) (d.keepRzTemp z).cfg.live = slook (pkey P.cal_range_zero k) d.cfg.live := by
  have hkey : pkey P.cal_range_zero k ≠ pkey P.burnish_rz_t0 0 := by
    unfold pkey
    dsimp only [P.cal_range_zero, P.burnish_rz_t0]
    omega
  unfold Dev.keepRzTemp
  split
  · rfl
  · rw [slook_setPar (by decide) rfl, if_neg hkey]

/-- A measurement that is over: the values of its good rows and its temperature stand, and its command is not yet completed. -/
def Dev.keepZeros (d : Dev) (z : RangeZero) : Dev :=
  let x := (d.setElems P.cal_range_zero z.zero (z.rows.filter z.good)).keepRzTemp z
  { x with bur := { x.bur with rangeZero := none } }

/-- What the completion of a measurement says: how many rows are good and bad, and the first bad one. -/
def RangeZero.report (z : RangeZero) : List Byte :=
  leBytes 2 (z.rows.filter z.good).length ++ leBytes 2 (z.rows.filter fun k => !z.good k).length ++
    leBytes 2 ((z.rows.filter fun k => !z.good k).head?.getD 0xFFFF)

theorem rangeZeroEnd_eq (d : Dev) (z : RangeZero) : d.rangeZeroEnd z = (d.keepZeros z).completeOp 0x0403 0x0000 z.report := rfl

section
variable (d : Dev) (z : RangeZero)

theorem alters_zeros : Alters [.cfg] [] d ((d.setElems P.cal_range_zero z.zero (z.rows.filter z.good)).keepRzTemp z) :=
  (alters_setElems (by decide) (fun _ => rfl) d _ _).trans (alters_keepRzTemp _ z)

theorem alters_keepZeros : Alters [.bur, .cfg] [] d (d.keepZeros z) :=
  ((alters_zeros d z).mono (by simp) fun _ h => h).part (alters_bur _ _) (by simp)

theorem bur_keepZeros : (d.keepZeros z).bur = { d.bur with rangeZero := none } := by
  have hbur : ((d.setElems P.cal_range_zero z.zero (z.rows.filter z.good)).keepRzTemp z).bur = d.bur :=
    (alters_zeros d z).same .bur (by decide)
  unfold Dev.keepZeros
  dsimp only
  rw [hbur]

theorem live_keepZeros {k : Nat} (hk : k ∈ z.rows.filter z.good) :
    slook (pkey P.cal_range_zero k) (d.keepZeros z).cfg.live = some (z.zero k) :=
  (slook_keepRzTemp _ z k).trans (slook_setElems (by decide) (fun _ => rfl) z.zero _ d (.inr hk))

end

/-- A step whose work ends with the end of an ACCEPTED command: its reply, what its work left, and what it leaves. -/
theorem gives_finish {i : Instr} {s : State} {f : List Host.Cell → Dev → Dev} {e : Dev} {r : Running} {status : Nat}
    {results : List Byte} {parts : List Part} {regs : List Nat} (hx : exec i s = .next (s.onDev f))
    (hf : f s.mem s.dev.begin_ = e.finish r status results) (he : Alters parts regs s.dev.begin_ e) (ha : Awaits s.dev r)
    (hn : Reg.EVT_RING_SIZE ∉ regs) :
    Gives i s fun t => Completed s t r status results ∧ Settled s e t ∧ Leaves parts regs s t := by
  have hframe : CmdFrame (e.finish r status results) (f s.mem s.dev.begin_) := hf ▸ .refl _
  have hgrows : Grows (e.finish r status results) (f s.mem s.dev.begin_) := hf ▸ .refl _
  obtain ⟨hdone, hset⟩ := step_finish ha hframe hgrows he.cmd
  exact ⟨_, hx, hdone, hset, Works.stepLeaves (by rw [hf]; exact he.works.trans (works_finish _ _ _ _)) hn⟩

/-- A measurement whose rows all have their shots ends, and completes its command. -/
theorem gives_rangeZeroEnd {s : State} {z : RangeZero} {r : Running} (hz : s.dev.bur.rangeZero = some z)
    (hfull : ∀ k ∈ z.rows, z.full k = true) (hr : (s.dev.cmd.running.filter fun r => r.pkt.opcode.toNat == 0x0403) = [r])
    (ha : Awaits s.dev r) : Gives .rangeZeroComplete s fun t => Completed s t r 0x0000 z.report ∧
      t.dev.bur = { s.dev.bur with rangeZero := none } ∧
      (∀ k ∈ z.rows.filter z.good, t.dev.par P.cal_range_zero k = z.zero k) ∧ Leaves [.bur, .cfg] [] s t := by
  have he := alters_keepZeros s.dev.begin_ z
  have hz' : s.dev.begin_.bur.rangeZero = some z := hz
  have hall : (z.rows.all z.full || decide (65536 ≤ z.frames)) = true := by rw [List.all_eq_true.mpr hfull, Bool.true_or]
  have hend : s.dev.begin_.rangeZeroEnd z = (s.dev.begin_.keepZeros z).finish r 0x0000 z.report := by
    rw [rangeZeroEnd_eq, completeOp_one (r := r) (by rw [he.cmd]; exact hr)]
  refine gives_imp (gives_finish rfl (by simp only [hz', hall, if_true]; exact hend) he ha List.not_mem_nil)
    fun t ⟨hdone, hset, hleaves⟩ => ⟨hdone, ?_, fun k hk => ?_, hleaves⟩
  · exact (hset.parts .bur).trans (bur_keepZeros _ z)
  · have hcfg : t.dev.cfg = (s.dev.begin_.keepZeros z).cfg := hset.parts .cfg
    exact par_live (by decide) rfl (by rw [hcfg]; exact live_keepZeros _ z hk)

/-- Settles O20: the measurement's good rows take their values, and its command completes with their number. -/
theorem rangeZeroEnds : Obligations.RangeZeroEnds := by
  unfold Obligations.RangeZeroEnds
  intro s z r hz _ hfull hr ha
  exact gives_rangeZeroEnd hz hfull hr ha

end Sys2Proof.Machine
end

section
/-! SUPPORT. The lamps of chain L (R184, R185, R194): what their codes, the frames that carry these and the lamps' registers alter. -/

namespace Sys2Proof.Machine

/-- The state registers of the lamps (R191). -/
abbrev lampRegs : List Nat := (List.range 256).map fun k => Reg.BLW_LAMP_STAT k

theorem mem_lampRegs {k : Nat} (h : k < 256) : Reg.BLW_LAMP_STAT k ∈ lampRegs := List.mem_map_of_mem (List.mem_range.mpr h)

theorem lampRegs_ge {a : Nat} (h : a ∈ lampRegs) : 0x0D1000 ≤ a := by
  obtain ⟨k, -, rfl⟩ := List.mem_map.mp h
  exact Nat.le_add_right _ _

theorem evtRingSize_not_lampReg : Reg.EVT_RING_SIZE ∉ lampRegs := fun h => absurd (lampRegs_ge h) (by decide)

/-- Work on the lamps: the chains and the lamps' registers are all that it alters, and chain L keeps its drivers. -/
structure LampWork (x y : Dev) : Prop where
  alters : Alters [.blw] lampRegs x y
  drivers : y.blw.l.drivers = x.blw.l.drivers

theorem LampWork.refl (x : Dev) : LampWork x x := ⟨.refl x, rfl⟩

theorem LampWork.trans {x y z : Dev} (h : LampWork x y) (g : LampWork y z) : LampWork x z :=
  ⟨h.alters.trans g.alters, g.drivers.trans h.drivers⟩

theorem LampWork.foldl {α : Type} {f : Dev → α → Dev} (l : List α) (x : Dev) (hf : ∀ y, ∀ a ∈ l, LampWork y (f y a)) :
    LampWork x (l.foldl f x) :=
  List.foldlRecOn l f (motive := LampWork x) (.refl x) fun y h a ha => h.trans (hf y a ha)

theorem lampWork_setChain (d : Dev) {c : Chain} (h : c.drivers = d.blw.l.drivers) : LampWork d (d.setChain true c) :=
  ⟨(Alters.refl d).part (alters_blw d _) (List.mem_singleton_self _), h⟩

theorem lampWork_showLamp (d : Dev) {k : Nat} (hk : k < 256) (code : Nat) : LampWork d (d.showLamp k code) := by
  have hm := mem_lampRegs hk
  exact ⟨(((Alters.refl d).setFld (F.BLW_LAMP_STAT_ON_CODE k) _ hm).setFld (F.BLW_LAMP_STAT_STATE k) _ hm).setFlag
    (F.BLW_LAMP_STAT_STRETCH k) _ hm, rfl⟩

theorem lampWork_wantLamp (d : Dev) (k : Nat) : LampWork d (d.wantLamp k) :=
  lampWork_setChain d (List.foldlRecOn _ _ (motive := fun c : Chain => c.drivers = d.blw.l.drivers) rfl fun _ h _ _ => h)

/-! ## Frames of chain L (R164, R178) -/

theorem pick_driver {c : Chain} {n : Nat} : ∀ w, c.pick n = some w → w.seg / 16 = n := by
  refine List.foldlRecOn _ _ (motive := fun acc : Option CodeWrite => ∀ w, acc = some w → w.seg / 16 = n) nofun
    fun acc ih v hv w h => ?_
  have hv : v.seg / 16 = n := beq_iff_eq.mp (List.mem_filter.mp hv).2
  cases acc with
  | none => exact Option.some.inj h ▸ hv
  | some b =>
    dsimp only at h
    split at h
    · exact Option.some.inj h ▸ hv
    · exact ih w h

/-- The writes of a frame go to channels of the chain's drivers. -/
theorem form_writes {c : Chain} {slot page pulses : Nat} {units : List Nat} {ctrlOk : Bool} {w : CodeWrite}
    (h : w ∈ (c.form slot units page pulses ctrlOk).1.writes) : w.seg / 16 < c.drivers := by
  obtain ⟨n, hn, hw⟩ := List.mem_filterMap.mp h
  rw [pick_driver w hw]
  exact List.mem_range.mp (List.mem_of_mem_filter hn)

theorem lampWork_commitL (d : Dev) {c : Chain} {f : Frame} (hc : c.drivers = d.blw.l.drivers) (hf : ∀ w ∈ f.writes, w.seg < 256) :
    LampWork d (d.commitL c f) :=
  (lampWork_setChain d (c := c.commit true f) hc).trans (.foldl f.writes _ fun y w hw => lampWork_showLamp y (hf w hw) _)

/-- A chain holds no more than 16 drivers (R163), so its writes name lamps of the part. -/
theorem lampWork_pumpL {d : Dev} (h : d.blw.l.drivers ≤ 16) : LampWork d d.pumpL := by
  unfold Dev.pumpL
  dsimp only
  split
  · exact lampWork_commitL d rfl fun w hw => by have := form_writes hw; omega
  · exact .refl d

/-- The CTRL word that writes a driver's UNIT waits where the unit is to change (R165, R185). -/
def Dev.wantUnit (d : Dev) (n : Nat) : Dev :=
  let u := d.driverUnit n
  let c := d.blw.l
  let rest := c.ctrl.filter fun w => !(w.driver == n && w.rw && w.reg == 6)
  d.setChain true { c with ctrl := if sget (fun _ => 0) n c.units = u then rest else rest ++ [CtrlWord.mk n true 6 u none] }

/-- Lamps show their codes in force. -/
def Dev.showLamps (d : Dev) (ks : List Nat) : Dev := ks.foldl (fun d k => d.showLamp k (d.lampCodeNow k)) d

theorem refreshLamps_up {d : Dev} (h : d.chainUp true = true) : d.refreshLamps =
    let x := (List.range d.blw.l.drivers).foldl Dev.wantUnit d
    let ks := List.range (16 * x.blw.l.drivers)
    ((ks.foldl Dev.wantLamp x).showLamps ks).pumpL := if_pos h

theorem lampWork_showLamps (d : Dev) {ks : List Nat} (h : ∀ k ∈ ks, k < 256) : LampWork d (d.showLamps ks) :=
  .foldl ks d fun y k hk => lampWork_showLamp y (h k hk) _

theorem lampWork_refreshLamps {d : Dev} (h : d.blw.l.drivers ≤ 16) : LampWork d d.refreshLamps := by
  by_cases hup : d.chainUp true = true
  · rw [refreshLamps_up hup]
    have hunits : LampWork d ((List.range d.blw.l.drivers).foldl Dev.wantUnit d) := .foldl _ d fun y n _ => lampWork_setChain y rfl
    generalize (List.range d.blw.l.drivers).foldl Dev.wantUnit d = x at hunits ⊢
    have hks : ∀ k ∈ List.range (16 * x.blw.l.drivers), k < 256 := fun k hk => by
      have := List.mem_range.mp hk
      have := hunits.drivers
      omega
    have hwant : LampWork x ((List.range (16 * x.blw.l.drivers)).foldl Dev.wantLamp x) := .foldl _ x fun y k _ => lampWork_wantLamp y k
    have hshown := (hunits.trans hwant).trans (lampWork_showLamps _ hks)
    exact hshown.trans (lampWork_pumpL (hshown.drivers ▸ h))
  · rw [show d.refreshLamps = d from if_neg hup]
    exact .refl d

/-! ## `lamp.set` (R462) -/

/-- A lamp takes its source and duty. -/
def Dev.setLampPars (d : Dev) (k src duty : Nat) : Dev := (d.setPar P.lamp_src k src).setPar P.lamp_duty k duty

theorem alters_setLampPars (d : Dev) (k src duty : Nat) : Alters [.cfg] [] d (d.setLampPars k src duty) :=
  (alters_setPar (by decide) rfl _).trans (alters_setPar (by decide) rfl _)

theorem live_setLampPars (d : Dev) (k src duty : Nat) :
    slook (pkey P.lamp_src k) (d.setLampPars k src duty).cfg.live = some src ∧
    slook (pkey P.lamp_duty k) (d.setLampPars k src duty).cfg.live = some duty := by
  have hkey : pkey P.lamp_src k ≠ pkey P.lamp_duty k := by unfold pkey P.lamp_src P.lamp_duty; omega
  unfold Dev.setLampPars
  rw [slook_setPar (by decide) rfl, if_neg hkey, slook_setPar (by decide) rfl, if_pos rfl,
    slook_setPar (by decide) rfl, if_pos rfl]
  exact ⟨rfl, rfl⟩

theorem bodyLampSet_ok {p : Packet} {mem : List Host.Cell} {d : Dev} (hsrc : p.u 1 1 ≤ 8 ∨ p.u 1 1 = 255)
    (hup : d.chainUp true = true) :
    bodyLampSet p mem d = .ok (d.setLampPars (p.u 0 1) (p.u 1 1) (p.u 2 2)).refreshLamps [] :=
  refuseIf_false (decide_eq_false (by omega)) (refuseIf_false (not_of_true hup) rfl)

theorem alters_lampSet {d : Dev} (h : d.blw.l.drivers ≤ 16) (k src duty : Nat) :
    LampWork (d.setLampPars k src duty) (d.setLampPars k src duty).refreshLamps ∧
    Alters [.blw, .cfg] lampRegs d (d.setLampPars k src duty).refreshLamps := by
  have hpars := alters_setLampPars d k src duty
  have hblw : (d.setLampPars k src duty).blw = d.blw := hpars.same .blw (by decide)
  have hwork := lampWork_refreshLamps (d := d.setLampPars k src duty) (hblw ▸ h)
  exact ⟨hwork, (hpars.mono (by simp) fun _ ha => absurd ha List.not_mem_nil).trans (hwork.alters.mono (by simp) fun _ ha => ha)⟩

theorem lampSet_acts {s : State} {c : Cmd} (hsrc : (c.packet 0x0307).u 1 1 ≤ 8 ∨ (c.packet 0x0307).u 1 1 = 255)
    (hup : s.dev.chainUp true = true) (hdrv : s.dev.blw.l.drivers ≤ 16) :
    Acts (.lampSet c) c 0x0307 s [] [.blw, .cfg] lampRegs fun t =>
      t.dev.par P.lamp_src ((c.packet 0x0307).u 0 1) = (c.packet 0x0307).u 1 1 ∧
      t.dev.par P.lamp_duty ((c.packet 0x0307).u 0 1) = (c.packet 0x0307).u 2 2 := by
  refine acts (fun d => (d.setLampPars _ _ _).refreshLamps) rfl (fun _ _ _ _ _ => bodyLampSet_ok hsrc hup)
    (fun p m k => (alters_lampSet (d := withQueues s p m k) hdrv _ _ _).2) evtRingSize_not_lampReg fun p m k t ht => ?_
  have hcfg : t.dev.cfg = _ := (ht.parts .cfg).trans
    ((alters_lampSet (d := withQueues s p m k) hdrv _ _ _).1.alters.same .cfg (by decide))
  obtain ⟨hs, hd⟩ := live_setLampPars (withQueues s p m k) ((c.packet 0x0307).u 0 1) ((c.packet 0x0307).u 1 1) ((c.packet 0x0307).u 2 2)
  exact ⟨par_live (by decide) rfl (hcfg ▸ hs), par_live (by decide) rfl (hcfg ▸ hd)⟩

/-! ## A command that completes at once -/

theorem post_pair (d : Dev) (q : Nat) (p : Packet) (status : Nat) (results : List Byte) :
    ((d.post q p status results).pair q).fetched = (d.pair q).fetched ∧
    ((d.post q p status results).pair q).silent = (d.pair q).silent := by
  refine ⟨?_, ((post_frame d q p status results).2 q).1⟩
  unfold Dev.post
  dsimp only
  split
  · rw [Dev.pair_setPair_self]
  · split
    · rw [Dev.pair_raise, Dev.pair_setPair_self]
    · rw [Dev.pair_setPair_self]

/-- The end of an ACCEPTED command in whose pair no other waits: its reply is the newest. -/
theorem finish_alone (d : Dev) (r : Running) (status : Nat) (results : List Byte) (h : Awaits d r) (hf : (d.pair r.pair).fetched = []) :
    CmdFrame (d.retire r) (d.finish r status results) ∧ ((d.finish r status results).pair r.pair).replies =
      (d.pair r.pair).replies ++ [⟨status, r.pkt.opcode.toNat, r.pkt.tag.toNat, results⟩] := by
  have heq : d.finish r status results = ((d.retire r).post r.pair r.pkt status results).recount r.pair := by
    have hlen : ((d.retire r).pair r.pair).fetched.length = 0 := congrArg List.length hf
    unfold Dev.finish
    rw [h.heard]
    exact congrArg (fun n => Dev.refuseUnknown _ n r.pair) hlen
  obtain ⟨hframe, hreply⟩ := post_spec (d.retire r) r.pair r.pkt status results h.speaks
  rw [heq, pair_recount, hreply]
  exact ⟨hframe.trans (cmdFrame_recount _ _), rfl⟩

/-- The pair of a command that it took at once, after ACCEPTED: nothing waits in it, and it still speaks. -/
theorem accept_pair {s : State} {c : Cmd} {op aux : Nat} {body : Body} {e : Dev} (h : Takes s.dev c op)
    (hb : body (c.packet op) s.mem (atStart s c op) = .accept e aux) (hc : e.cmd = (atStart s c op).cmd) :
    ((runCmd op c body s.mem s.dev.begin_).pair c.pair.val).fetched = [] ∧
    ((runCmd op c body s.mem s.dev.begin_).pair c.pair.val).silent = false := by
  have hrun := runCmd_taken body s.mem (takes_begin h)
  rw [judge_taken body s.mem (takes_begin h), hb] at hrun
  have hpair : e.pair c.pair.val = (atStart s c op).pair c.pair.val := by unfold Dev.pair; rw [hc]
  obtain ⟨hfetched, hsilent⟩ := post_pair ((e.noteLatency c.pair.val s.dev.begin_.time.ticks).outstanding
    ⟨c.pair.val, c.packet op, false, aux⟩) c.pair.val (c.packet op) 0x0001 []
  have hnote : ((e.noteLatency c.pair.val s.dev.begin_.time.ticks).outstanding ⟨c.pair.val, c.packet op, false, aux⟩).pair c.pair.val =
      (e.noteLatency c.pair.val s.dev.begin_.time.ticks).pair c.pair.val := rfl
  rw [hnote, pair_noteLatency, hpair] at hfetched hsilent
  rw [hrun]
  refine ⟨(congrArg Pair.fetched (pair_recount _ _ _)).trans (hfetched.trans ?_),
    (congrArg Pair.silent (pair_recount _ _ _)).trans (hsilent.trans (atStart_replies h).2)⟩
  show ((atStart s c op).pair c.pair.val).fetched = []
  rw [atStart_pair h, if_pos rfl]

/-! ## `lamp.diagnose` (R187, R462) -/

/-- Lamps are due for diagnosis. -/
def Dev.dueLamps (d : Dev) (ks : List Nat) : Dev := ks.foldl (fun d k => d.setLamp k { d.lamp k with due := true }) d

theorem lamp_setLamp (d : Dev) (j k : Nat) (x : LampSt) : (d.setLamp k x).lamp j = if j = k then x else d.lamp j :=
  sget_sset (fun _ => ({} : LampSt)) k j x d.blw.lamps

theorem alters_dueLamps (d : Dev) (ks : List Nat) : Alters [.blw] [] d (d.dueLamps ks) :=
  Alters.foldl (fun y _ => alters_blw y _) ks d d (.refl d)

theorem diag_dueLamps (d : Dev) (ks : List Nat) : (d.dueLamps ks).blw.diag = d.blw.diag :=
  List.foldlRecOn ks _ (motive := fun y : Dev => y.blw.diag = d.blw.diag) rfl fun _ h _ _ => h

theorem due_dueLamps {k : Nat} (ks : List Nat) (d : Dev) (h : (d.lamp k).due = true ∨ k ∈ ks) :
    ((d.dueLamps ks).lamp k).due = true := by
  induction ks generalizing d with
  | nil => exact h.resolve_right List.not_mem_nil
  | cons j ks ih =>
    refine ih (d.setLamp j { d.lamp j with due := true }) ?_
    rw [lamp_setLamp]
    by_cases hj : k = j
    · exact .inl (by rw [if_pos hj])
    · rw [if_neg hj]
      exact h.imp id (List.mem_of_ne_of_mem hj)

/-- Lamps are due, and a command waits for them. -/
def Dev.diagnose (d : Dev) (x : LampDiag) : Dev :=
  let y := d.dueLamps x.waiting
  { y with blw := { y.blw with diag := y.blw.diag ++ [x] } }

theorem alters_diagnose (d : Dev) (x : LampDiag) : Alters [.blw] [] d (d.diagnose x) := (alters_dueLamps d x.waiting).trans (alters_blw _ _)

section
variable {q : Nat} {p : Packet} {mem : List Host.Cell} {d : Dev} (hup : d.chainUp true = true)
include hup

theorem bodyLampDiagnose_accept (h : maskLamps (p.u 0 32) ≠ []) :
    bodyLampDiagnose q p mem d = .accept (d.diagnose ⟨maskLamps (p.u 0 32), 0, 0, q, p.tag.toNat⟩) 0 :=
  refuseIf_false (not_of_true hup) (if_neg (by rwa [List.isEmpty_iff]))

theorem bodyLampDiagnose_none (h : maskLamps (p.u 0 32) = []) : bodyLampDiagnose q p mem d = .accept d 1 := by
  refine refuseIf_false (not_of_true hup) ?_
  rw [h]
  rfl

end

/-- The commands of `lamp.diagnose` that wait for no lamp. -/
def Running.empty (r : Running) : Bool := r.pkt.opcode.toNat == 0x0309 && r.aux == 1

/-- Those commands complete. -/
def Dev.endEmpty (d : Dev) : Dev := (d.cmd.running.filter Running.empty).foldl (fun d r => d.finish r 0x0000 (zeros 4)) d

theorem exec_lampDiagnose (c : Cmd) (s : State) : exec (.lampDiagnose c) s =
    .next (s.onDev fun mem d => (runCmd 0x0309 c (bodyLampDiagnose c.pair.val) mem d).endEmpty) := rfl

theorem onDev_congr {s : State} {f g : List Host.Cell → Dev → Dev} (h : f s.mem s.dev.begin_ = g s.mem s.dev.begin_) :
    s.onDev f = s.onDev g := by
  unfold State.onDev
  rw [h]

theorem filter_empty {l : List Running} (h : ∀ r ∈ l, r.pkt.opcode.toNat = 0x0309 → r.aux ≠ 1) : l.filter Running.empty = [] := by
  refine List.filter_eq_nil_iff.mpr fun r hr he => ?_
  obtain ⟨hop, haux⟩ := Bool.and_eq_true_iff.mp he
  exact h r hr (beq_iff_eq.mp hop) (beq_iff_eq.mp haux)

section
variable {s : State} {c : Cmd} (hup : s.dev.chainUp true = true)
  (hnone : ∀ r ∈ s.dev.cmd.running, r.pkt.opcode.toNat = 0x0309 → r.aux ≠ 1)
include hup hnone

theorem lampDiagnose_starts (hne : maskLamps ((c.packet 0x0309).u 0 32) ≠ []) :
    Starts (.lampDiagnose c) c 0x0309 s 0 [.blw] [] fun t =>
      t.dev.blw.diag = s.dev.blw.diag ++ [⟨maskLamps ((c.packet 0x0309).u 0 32), 0, 0, c.pair.val, c.tag.toNat⟩] ∧
      ∀ k ∈ maskLamps ((c.packet 0x0309).u 0 32), (t.dev.lamp k).due = true := by
  intro h
  let x : LampDiag := ⟨maskLamps ((c.packet 0x0309).u 0 32), 0, 0, c.pair.val, (c.packet 0x0309).tag.toNat⟩
  have hbody : bodyLampDiagnose c.pair.val (c.packet 0x0309) s.mem (atStart s c 0x0309) = .accept ((atStart s c 0x0309).diagnose x) 0 := by
    obtain ⟨p, m, k, hy⟩ := atStart_eq s c 0x0309
    rw [hy]
    exact bodyLampDiagnose_accept hup hne
  obtain ⟨-, hrun, -⟩ := command_accept h hbody (alters_diagnose _ x).cmd
  rw [Accepted, onDev_cmd] at hrun
  have hend : (runCmd 0x0309 c (bodyLampDiagnose c.pair.val) s.mem s.dev.begin_).endEmpty =
      runCmd 0x0309 c (bodyLampDiagnose c.pair.val) s.mem s.dev.begin_ := by
    unfold Dev.endEmpty
    rw [hrun, List.filter_append, filter_empty hnone]
    rfl
  refine starts (fun d => d.diagnose x) ((exec_lampDiagnose c s).trans (congrArg _ (onDev_congr hend)))
    (fun _ _ _ _ _ => bodyLampDiagnose_accept hup hne) (fun _ _ _ => alters_diagnose _ x) List.not_mem_nil
    (fun p m k t ht => ?_) h
  have hblw : t.dev.blw = _ := ht.parts .blw
  refine ⟨?_, fun j hj => ?_⟩
  · rw [hblw]
    exact congrArg (· ++ [x]) (diag_dueLamps (withQueues s p m k) x.waiting)
  · unfold Dev.lamp
    rw [hblw]
    exact due_dueLamps x.waiting (withQueues s p m k) (.inr hj)

theorem lampDiagnose_empty (hmask : maskLamps ((c.packet 0x0309).u 0 32) = []) (h : Takes s.dev c 0x0309) :
    Gives (.lampDiagnose c) s fun t => t.dev.cmd.running = s.dev.cmd.running ∧ t.dev.blw = s.dev.blw ∧
      (t.dev.pair c.pair.val).replies = (s.dev.pair c.pair.val).replies ++
        [⟨0x0001, 0x0309, c.tag.toNat, []⟩, ⟨0x0000, 0x0309, c.tag.toNat, zeros 4⟩] := by
  let r : Running := ⟨c.pair.val, c.packet 0x0309, false, 1⟩
  have hbody : bodyLampDiagnose c.pair.val (c.packet 0x0309) s.mem (atStart s c 0x0309) = .accept (atStart s c 0x0309) 1 := by
    obtain ⟨p, m, k, hy⟩ := atStart_eq s c 0x0309
    rw [hy]
    exact bodyLampDiagnose_none hup hmask
  obtain ⟨hreply, hrun, hset⟩ := command_accept h hbody rfl
  obtain ⟨hfetched, hsilent⟩ := accept_pair h hbody rfl
  have hblw : _ = s.dev.blw := (hset.parts .blw).trans (atStart_same s c 0x0309 .blw)
  unfold Replied Dev.pair at hreply
  rw [onDev_cmd] at hreply
  rw [Accepted, onDev_cmd] at hrun
  rw [onDev_blw] at hblw
  generalize hx : runCmd 0x0309 c (bodyLampDiagnose c.pair.val) s.mem s.dev.begin_ = x at hreply hrun hblw hfetched hsilent
  have hr : r ∉ s.dev.cmd.running := fun hm => hnone r hm rfl rfl
  have hend : x.endEmpty = x.finish r 0x0000 (zeros 4) := by
    unfold Dev.endEmpty
    rw [hrun, List.filter_append, filter_empty hnone]
    rfl
  obtain ⟨hframe, hfinal⟩ := finish_alone x r 0x0000 (zeros 4) ⟨rfl, hsilent⟩ hfetched
  refine ⟨_, exec_lampDiagnose c s, ?_, ?_, ?_⟩
  · rw [onDev_cmd, hx, hend, hframe.running]
    show x.cmd.running.erase r = _
    rw [hrun, List.erase_append_right _ hr, List.erase_cons_head, List.append_nil]
  · rw [onDev_blw, hx, hend]
    exact (hframe.same .blw).trans hblw
  · unfold Dev.pair at hfinal ⊢
    rw [onDev_cmd, hx, hend, hfinal, hreply, List.append_assoc]
    rfl

end

/-- Settles O13: the rule of `lamp.set`, and those of `lamp.diagnose` with lamps in its mask and without. -/
theorem lampCommandsAct : Obligations.LampCommandsAct := by
  unfold Obligations.LampCommandsAct
  intro s c
  exact ⟨lampSet_acts, fun hne hup hnone => lampDiagnose_starts hup hnone hne,
    fun hmask hup hnone h => lampDiagnose_empty hup hnone hmask h⟩

end Sys2Proof.Machine
end

section
/-! SUPPORT. Chains that start and stop (R170, R172, R175, R599): what each step of a chain does to it, and what it leaves. -/

namespace Sys2Proof.Machine

/-! ## Work that also ends commands -/

section
variable {parts : List Part} {regs : List Nat}

theorem Works.foldl {α : Type} {f : Dev → α → Dev} (l : List α) (x : Dev) (hf : ∀ y, ∀ a ∈ l, Works parts regs y (f y a)) :
    Works parts regs x (l.foldl f x) :=
  List.foldlRecOn l f (motive := Works parts regs x) (.refl x) fun y h a ha => h.trans (hf y a ha)

theorem Works.mono {ps : List Part} {rs : List Nat} {x y : Dev} (h : Works ps rs x y) (hp : ∀ p, p ∈ ps → p ∈ parts)
    (hr : ∀ a, a ∈ rs → a ∈ regs) : Works parts regs x y :=
  ⟨fun p hn => h.same p fun hm => hn (hp p hm), fun a hn => h.reg a fun hm => hn (hr a hm), h.outbox, h.base, h.raised, h.grows⟩

/-- A step whose work also ends commands: what it settles, and what it leaves. -/
theorem gives_works {i : Instr} {s : State} {f : List Host.Cell → Dev → Dev} {e : Dev} {effect : State → Prop}
    (hx : exec i s = .next (s.onDev f)) (hf : f s.mem s.dev.begin_ = e) (hw : Works parts regs s.dev.begin_ e)
    (hn : Reg.EVT_RING_SIZE ∉ regs) (he : ∀ t, Settled s e t → effect t) : Gives i s fun t => effect t ∧ Leaves parts regs s t := by
  subst hf
  exact ⟨_, hx, he _ (onDev_settled s f), hw.stepLeaves hn⟩

/-- The commands that wait for what a chain no longer does end, one after the other. -/
theorem works_dropOwners {α : Type} (owner : α → Option (Nat × Nat)) (l : List α) (d : Dev) :
    Works parts regs d (l.foldl (fun d x => d.completeOwner (owner x) 0x0204) d) :=
  .foldl l d fun y x _ => works_completeOwner y (owner x) _ _

end

/-! ## A chain drops its commands (R172) -/

/-- The CTRL words that a chain still holds: queued, shifted, or committed with their status to come. -/
def Chain.heldCtrl (c : Chain) : List CtrlWord :=
  c.ctrl ++ (c.shifted.map (·.ctrl)).getD [] ++ (if c.awaiting then (c.last.map (·.ctrl)).getD [] else [])

/-- The commands of the CTRL words that a chain holds end. -/
def Dev.dropCtrl (d : Dev) (l : Bool) : Dev := (d.chain l).heldCtrl.foldl (fun d w => d.completeOwner w.owner 0x0204) d

/-- The commands of the substitutions that wait end. -/
def Dev.dropSubst (d : Dev) : Dev := d.blw.subst.foldl (fun d x => d.completeOwner x.owner 0x0204) d

theorem dropChainOwners_E (d : Dev) : d.dropChainOwners false =
    { (d.dropCtrl false).dropSubst with blw := { (d.dropCtrl false).dropSubst.blw with subst := [] } } := rfl

section
variable {parts : List Part} {regs : List Nat} (d : Dev)

theorem works_dropCtrl (l : Bool) : Works parts regs d (d.dropCtrl l) := works_dropOwners CtrlWord.owner _ d

theorem works_dropSubst : Works parts regs d d.dropSubst := works_dropOwners Subst.owner _ d

theorem works_dropChainOwners (hb : .blw ∈ parts) (l : Bool) : Works parts regs d (d.dropChainOwners l) := by
  cases l with
  | true => exact works_dropCtrl d true
  | false => exact ((works_dropCtrl d false).trans (works_dropSubst _)).trans ((Alters.refl _).part (alters_blw _ _) hb).works

theorem blw_dropChainOwners (l : Bool) : (d.dropChainOwners l).blw = if l then d.blw else { d.blw with subst := [] } := by
  have hctrl (l : Bool) : (d.dropCtrl l).blw = d.blw := (works_dropCtrl (parts := []) (regs := []) d l).same .blw List.not_mem_nil
  cases l with
  | true => exact hctrl true
  | false =>
    have hsubst : (d.dropCtrl false).dropSubst.blw = d.blw :=
      ((works_dropSubst (parts := []) (regs := []) (d.dropCtrl false)).same .blw List.not_mem_nil).trans (hctrl false)
    rw [dropChainOwners_E, hsubst]
    rfl

end

/-! ## Chain E enters fault (R172) -/

/-- Chain E is in fault, and its event is raised. -/
structure FaultedE (d : Dev) : Prop where
  fault : d.flag F.BLW_STAT_E_FAULT = true
  down : d.flag F.BLW_STAT_E_UP = false
  raised : ⟨Ev.blwChain, false, 0, 0⟩ ∈ d.evt.raised
  bringup : d.blw.e.bringup = false

/-- Chain E in fault, as its registers show it. -/
def Dev.showFaultE (d : Dev) : Dev := (d.setFlag F.BLW_STAT_E_FAULT true).setFlag F.BLW_STAT_E_UP false

theorem flags_showFaultE (d : Dev) : d.showFaultE.flag F.BLW_STAT_E_FAULT = true ∧ d.showFaultE.flag F.BLW_STAT_E_UP = false :=
  ⟨(Dev.flag_setFlag_apart _ F.BLW_STAT_E_UP F.BLW_STAT_E_FAULT false (by decide) (by decide)).trans
    (Dev.flag_setFlag_self d F.BLW_STAT_E_FAULT true (by decide) rfl), Dev.flag_setFlag_self _ F.BLW_STAT_E_UP false (by decide) rfl⟩

/-- Chain E enters fault, and `c` is what is left of it. -/
def Dev.faultE (d : Dev) (c : Chain) : Dev := ((d.showFaultE.setChain false c).raise Ev.blwChain).detect Cause.internal

theorem alters_faultE (d : Dev) (c : Chain) : Alters [.blw, .safe] [Reg.BLW_STAT] d (d.faultE c) :=
  (((((Alters.refl d).setFlag _ _ (by decide)).setFlag _ _ (by decide)).part (alters_blw _ _) (by decide)).raise _ _ _).part
    (alters_safe _ _) (by decide)

theorem faultedE_faultE (d : Dev) {c : Chain} (h : c.bringup = false) : FaultedE (d.faultE c) := by
  obtain ⟨hfault, hdown⟩ := flags_showFaultE d
  exact ⟨hfault, hdown, List.mem_append_right _ (List.mem_singleton_self _), h⟩

theorem chainFault_E (d : Dev) : ∃ c : Chain, c.bringup = false ∧ d.chainFault false = (d.dropChainOwners false).faultE c :=
  ⟨_, rfl, rfl⟩

theorem works_chainFault (d : Dev) : Works [.blw, .safe] [Reg.BLW_STAT] d (d.chainFault false) := by
  obtain ⟨c, -, hc⟩ := chainFault_E d
  exact (works_dropChainOwners d (by decide) false).trans (hc ▸ (alters_faultE (d.dropChainOwners false) c).works)

theorem faultedE_chainFault (d : Dev) : FaultedE (d.chainFault false) := by
  obtain ⟨c, hb, hc⟩ := chainFault_E d
  rw [hc]
  exact faultedE_faultE (d.dropChainOwners false) hb

/-- A step settles a chain E that its work left in fault. -/
theorem Settled.faultedE {s t : State} {e : Dev} (ht : Settled s e t) (h : FaultedE e) : t.dev.flag F.BLW_STAT_E_FAULT = true ∧
    t.dev.flag F.BLW_STAT_E_UP = false ∧ Pending t Ev.blwChain ∧ t.dev.blw.e.bringup = false := by
  have hblw : t.dev.blw = e.blw := ht.parts .blw
  exact ⟨(ht.flag F.BLW_STAT_E_FAULT rfl rfl).trans h.fault, (ht.flag F.BLW_STAT_E_UP rfl rfl).trans h.down,
    ht.raised ⟨Ev.blwChain, false, 0, 0⟩ h.raised (by decide), (congrArg (·.e.bringup) hblw).trans h.bringup⟩

/-! ## An enable bit goes to 1 (R170, R175, R599) -/

/-- The enable bit of a chain. -/
abbrev enableFld (l : Bool) : Fld := if l then F.BLW_CTL_L_EN else F.BLW_CTL_E_EN

/-- A chain at the start of its bring-up, with the clock and resolution of the register. -/
def Dev.freshChain (d : Dev) (l : Bool) : Chain :=
  { bringup := true, clk := d.fld (if l then F.BLW_CTL_L_CLK else F.BLW_CTL_E_CLK),
    res := d.fld (if l then F.BLW_CTL_L_RES else F.BLW_CTL_E_RES) }

/-- The bring-up of a chain starts. -/
def Dev.startChain (d : Dev) (l : Bool) : Dev := (d.setFlag (enableFld l) true).setChain l (d.freshChain l)

/-- The enable bits lie apart from the fields that a bring-up takes. -/
theorem freshChain_setFlag (d : Dev) (l : Bool) : (d.setFlag (enableFld l) true).freshChain l = d.freshChain l := by
  unfold Dev.freshChain
  cases l <;> congr 1 <;> exact Dev.fld_setFlag_apart _ _ _ _ (by decide) (by decide)

theorem chainEnable_eq {d : Dev} {l : Bool} (hen : d.flag (enableFld l) = false) (hlife : l = false → d.rst.shadow.lifecycle ≠ 4) :
    d.chainEnable l = if l = false ∧ frameFits (d.par P.blw_e_drivers 0) (d.fld F.BLW_CTL_E_CLK) = false
      then (d.startChain l).chainFault false else d.startChain l := by
  have hpar (c : Chain) : ((d.setFlag (enableFld l) true).setChain l c).par P.blw_e_drivers 0 = d.par P.blw_e_drivers 0 := rfl
  have hlife : ¬(l = false ∧ (d.setFlag (enableFld l) true).rst.shadow.lifecycle = 4) := fun ⟨hl, h4⟩ => hlife hl h4
  have hunfold : d.chainEnable l = if l = false ∧ frameFits (d.par P.blw_e_drivers 0)
      ((d.setFlag (enableFld l) true).freshChain l).clk = false
      then ((d.setFlag (enableFld l) true).setChain l ((d.setFlag (enableFld l) true).freshChain l)).chainFault false
      else (d.setFlag (enableFld l) true).setChain l ((d.setFlag (enableFld l) true).freshChain l) := by
    unfold Dev.chainEnable
    dsimp only
    rw [if_neg (Bool.eq_false_iff.mp hen), if_neg hlife, hpar]
    rfl
  rw [hunfold, freshChain_setFlag]
  cases l <;> rfl

theorem alters_startChain (d : Dev) (l : Bool) : Alters [.blw] [Reg.BLW_CTL] d (d.startChain l) := by
  have hen : Alters [.blw] [Reg.BLW_CTL] d (d.setFlag (enableFld l) true) := by
    cases l <;> exact (Alters.refl d).setFlag _ _ (List.mem_singleton_self _)
  exact hen.part (alters_blw _ _) (List.mem_singleton_self _)

section
variable {s : State} {l : Bool} (hb : s.dev.barOpen = true) (hen : s.dev.flag (enableFld l) = false)
  (hlife : l = false → s.dev.rst.shadow.lifecycle ≠ 4)
include hb hen hlife

theorem gives_startChain (hfit : l = false → frameFits (s.dev.par P.blw_e_drivers 0) (s.dev.fld F.BLW_CTL_E_CLK) = true) :
    Gives (.chainEnable l) s fun t => (t.dev.flag (enableFld l) = true ∧
      t.dev.blw = (s.dev.setChain l (s.dev.freshChain l)).blw) ∧ Leaves [.blw] [Reg.BLW_CTL] s t := by
  have hwork : s.dev.begin_.chainEnable l = s.dev.begin_.startChain l :=
    (chainEnable_eq (d := s.dev.begin_) hen hlife).trans (if_neg fun ⟨hl, hf⟩ => Bool.eq_false_iff.mp hf (hfit hl))
  refine gives_bar rfl hb hwork (alters_startChain _ l) (by decide) fun t ht _ => ⟨?_, ht.parts .blw⟩
  rw [ht.flag (enableFld l) (by cases l <;> rfl) (by cases l <;> rfl)]
  cases l <;> exact Dev.flag_setFlag_self _ _ _ (by decide) rfl

end

/-- Where R170 fails for chain E, its bring-up ends in fault. -/
theorem gives_frameTooLong {s : State} (hb : s.dev.barOpen = true) (hen : s.dev.flag F.BLW_CTL_E_EN = false)
    (hlife : s.dev.rst.shadow.lifecycle ≠ 4)
    (hlong : frameFits (s.dev.par P.blw_e_drivers 0) (s.dev.fld F.BLW_CTL_E_CLK) = false) :
    Gives (.chainEnable false) s fun t => (t.dev.flag F.BLW_STAT_E_FAULT = true ∧ Pending t Ev.blwChain ∧
      t.dev.blw.e.bringup = false) ∧ Leaves [.blw, .safe] [Reg.BLW_CTL, Reg.BLW_STAT] s t := by
  have hwork : s.dev.begin_.chainEnable false = (s.dev.begin_.startChain false).chainFault false :=
    (chainEnable_eq (d := s.dev.begin_) (l := false) hen fun _ => hlife).trans (if_pos ⟨rfl, hlong⟩)
  have hworks : Works [.blw, .safe] [Reg.BLW_CTL, Reg.BLW_STAT] s.dev.begin_ ((s.dev.begin_.startChain false).chainFault false) :=
    ((alters_startChain _ false).works.mono (by decide) (by decide)).trans ((works_chainFault _).mono (by decide) (by decide))
  refine gives_works rfl ((if_pos hb).trans hwork) hworks (by decide) fun t ht => ?_
  obtain ⟨hfault, -, hpend, hdown⟩ := ht.faultedE (faultedE_chainFault _)
  exact ⟨hfault, hpend, hdown⟩

/-! ## An enable bit is written 0 (R172) -/

/-- The flags of a chain that stops. -/
def Dev.showStopped (d : Dev) (l : Bool) : Dev :=
  ((d.setFlag (enableFld l) false).setFlag (if l then F.BLW_STAT_L_UP else F.BLW_STAT_E_UP) false).setFlag
    (if l then F.BLW_STAT_L_FAULT else F.BLW_STAT_E_FAULT) false

/-- A chain stops: its commands end, and it is as it was before its bring-up. -/
def Dev.stopChain (d : Dev) (l : Bool) : Dev := ((d.dropChainOwners l).showStopped l).setChain l {}

theorem chainDisable_eq {d : Dev} {l : Bool} (hen : d.flag (enableFld l) = true) :
    d.chainDisable l = if l then (d.stopChain l).lampsOff else d.stopChain l := by
  unfold Dev.chainDisable
  dsimp only
  rw [if_neg (by rw [hen]; exact Bool.false_ne_true)]
  rfl

theorem works_stopChain (d : Dev) (l : Bool) : Works [.blw] [Reg.BLW_CTL, Reg.BLW_STAT] d (d.stopChain l) := by
  have hflags (x : Dev) : Alters [.blw] [Reg.BLW_CTL, Reg.BLW_STAT] x (x.showStopped l) := by
    cases l <;> exact (((Alters.refl x).setFlag _ _ (by decide)).setFlag _ _ (by decide)).setFlag _ _ (by decide)
  exact (works_dropChainOwners d (by decide) l).trans ((hflags _).part (alters_blw _ _) (by decide)).works

theorem flags_stopChain (d : Dev) (l : Bool) : (d.stopChain l).flag (enableFld l) = false ∧
    (d.stopChain l).flag (if l then F.BLW_STAT_L_UP else F.BLW_STAT_E_UP) = false ∧
    (d.stopChain l).flag (if l then F.BLW_STAT_L_FAULT else F.BLW_STAT_E_FAULT) = false := by
  show ((d.dropChainOwners l).showStopped l).flag _ = _ ∧ ((d.dropChainOwners l).showStopped l).flag _ = _ ∧
    ((d.dropChainOwners l).showStopped l).flag _ = _
  generalize d.dropChainOwners l = x
  unfold Dev.showStopped
  cases l
  all_goals
    refine ⟨?_, ?_, Dev.flag_setFlag_self _ _ _ (by decide) rfl⟩
    · rw [Dev.flag_setFlag_apart _ _ _ _ (by decide) (by decide), Dev.flag_setFlag_apart _ _ _ _ (by decide) (by decide)]
      exact Dev.flag_setFlag_self _ _ _ (by decide) rfl
    · rw [Dev.flag_setFlag_apart _ _ _ _ (by decide) (by decide)]
      exact Dev.flag_setFlag_self _ _ _ (by decide) rfl

theorem blw_stopChain (d : Dev) (l : Bool) :
    (d.stopChain l).blw = if l then { d.blw with l := {} } else { d.blw with e := {}, subst := [] } := by
  have hdrop := blw_dropChainOwners d l
  unfold Dev.stopChain Dev.setChain
  show (if l then { (d.dropChainOwners l).blw with l := {} } else { (d.dropChainOwners l).blw with e := {} }) = _
  rw [hdrop]
  cases l <;> rfl

/-- A lamp's register is cleared (R189). -/
def Dev.lampOff (d : Dev) (k : Nat) : Dev := if d.reg (Reg.BLW_LAMP_STAT k) = 0#32 then d else d.put (Reg.BLW_LAMP_STAT k) 0#32

theorem alters_lampOff (d : Dev) {k : Nat} (h : k < 256) : Alters [] lampRegs d (d.lampOff k) :=
  .ite (fun _ => .refl d) fun _ => (Alters.refl d).put _ _ (mem_lampRegs h)

theorem reg_lampOff (d : Dev) (j k : Nat) :
    (d.lampOff j).reg (Reg.BLW_LAMP_STAT k) = if k = j then 0#32 else d.reg (Reg.BLW_LAMP_STAT k) := by
  have haddr : Reg.BLW_LAMP_STAT k = Reg.BLW_LAMP_STAT j ↔ k = j := by simp only [Reg.BLW_LAMP_STAT]; omega
  unfold Dev.lampOff
  split
  · next hzero =>
    split
    · next hk => rw [hk, hzero]
    · rfl
  · simp only [Dev.reg_put, haddr]

theorem alters_lampsOff (d : Dev) : Alters [] lampRegs d d.lampsOff :=
  Alters.foldlMem _ (fun y _ hk => alters_lampOff y (List.mem_range.mp hk)) (.refl d)

theorem reg_foldl_lampOff {k : Nat} (ks : List Nat) (d : Dev) (h : d.reg (Reg.BLW_LAMP_STAT k) = 0#32 ∨ k ∈ ks) :
    (ks.foldl Dev.lampOff d).reg (Reg.BLW_LAMP_STAT k) = 0#32 := by
  induction ks generalizing d with
  | nil => exact h.resolve_right List.not_mem_nil
  | cons j ks ih =>
    refine ih (d.lampOff j) ?_
    rw [reg_lampOff]
    by_cases hj : k = j
    · exact .inl (if_pos hj)
    · rw [if_neg hj]
      exact h.imp id (List.mem_of_ne_of_mem hj)

/-- Every lamp's register reads 0 where the lamps are off. -/
theorem reg_lampsOff (d : Dev) {k : Nat} (h : k < 256) : d.lampsOff.reg (Reg.BLW_LAMP_STAT k) = 0#32 :=
  reg_foldl_lampOff (List.range 256) d (.inr (List.mem_range.mpr h))

theorem gives_stopE {s : State} (hb : s.dev.barOpen = true) (hen : s.dev.flag F.BLW_CTL_E_EN = true) :
    Gives (.chainDisable false) s fun t => (t.dev.flag F.BLW_CTL_E_EN = false ∧ t.dev.flag F.BLW_STAT_E_UP = false ∧
      t.dev.flag F.BLW_STAT_E_FAULT = false ∧ t.dev.blw = { s.dev.blw with e := {}, subst := [] }) ∧
      Leaves [.blw] [Reg.BLW_CTL, Reg.BLW_STAT] s t := by
  have hwork : s.dev.begin_.chainDisable false = s.dev.begin_.stopChain false := chainDisable_eq (d := s.dev.begin_) (l := false) hen
  obtain ⟨hoff, hdown, hclear⟩ := flags_stopChain s.dev.begin_ false
  exact gives_works rfl ((if_pos hb).trans hwork) (works_stopChain _ _) (by decide) fun t ht =>
    ⟨(ht.flag F.BLW_CTL_E_EN rfl rfl).trans hoff, (ht.flag F.BLW_STAT_E_UP rfl rfl).trans hdown,
      (ht.flag F.BLW_STAT_E_FAULT rfl rfl).trans hclear, (ht.parts .blw).trans (blw_stopChain _ false)⟩

theorem gives_stopL {s : State} (hb : s.dev.barOpen = true) (hen : s.dev.flag F.BLW_CTL_L_EN = true) :
    Gives (.chainDisable true) s fun t => (t.dev.flag F.BLW_CTL_L_EN = false ∧ t.dev.flag F.BLW_STAT_L_UP = false ∧
      t.dev.flag F.BLW_STAT_L_FAULT = false ∧ t.dev.blw = { s.dev.blw with l := {} } ∧
      ∀ k, k < 256 → t.dev.reg (Reg.BLW_LAMP_STAT k) = 0#32) ∧ Leaves [.blw] ([Reg.BLW_CTL, Reg.BLW_STAT] ++ lampRegs) s t := by
  have hwork : s.dev.begin_.chainDisable true = (s.dev.begin_.stopChain true).lampsOff :=
    chainDisable_eq (d := s.dev.begin_) (l := true) hen
  have hlamps := alters_lampsOff (s.dev.begin_.stopChain true)
  have hworks : Works [.blw] ([Reg.BLW_CTL, Reg.BLW_STAT] ++ lampRegs) s.dev.begin_ (s.dev.begin_.stopChain true).lampsOff :=
    ((works_stopChain _ _).mono (fun _ h => h) fun _ h => List.mem_append_left _ h).trans
      (hlamps.works.mono nofun fun _ h => List.mem_append_right _ h)
  have hn : Reg.EVT_RING_SIZE ∉ [Reg.BLW_CTL, Reg.BLW_STAT] ++ lampRegs := fun h =>
    (List.mem_append.mp h).elim (by decide) evtRingSize_not_lampReg
  have hapart {f : Fld} (hf : f.addr = Reg.BLW_CTL ∨ f.addr = Reg.BLW_STAT) : f.addr ∉ lampRegs := fun h => by
    have := lampRegs_ge h
    simp only [Reg.BLW_CTL, Reg.BLW_STAT] at hf
    omega
  have hflag {t : State} (ht : Settled s (s.dev.begin_.stopChain true).lampsOff t) (f : Fld)
      (hf : f.addr = Reg.BLW_CTL ∨ f.addr = Reg.BLW_STAT) : t.dev.flag f = (s.dev.begin_.stopChain true).flag f := by
    have ho : evtOwn f.addr = false ∧ cmdqOwn f.addr = false := by rcases hf with h | h <;> rw [h] <;> exact ⟨rfl, rfl⟩
    unfold Dev.flag Dev.fld
    rw [ht.reg _ ho.1 ho.2, hlamps.reg _ (hapart hf)]
  obtain ⟨hoff, hdown, hclear⟩ := flags_stopChain s.dev.begin_ true
  refine gives_works rfl ((if_pos hb).trans hwork) hworks hn fun t ht =>
    ⟨(hflag ht F.BLW_CTL_L_EN (.inl rfl)).trans hoff, (hflag ht F.BLW_STAT_L_UP (.inr rfl)).trans hdown,
      (hflag ht F.BLW_STAT_L_FAULT (.inr rfl)).trans hclear, ?_, fun k hk => ?_⟩
  · exact (ht.parts .blw).trans ((hlamps.same .blw List.not_mem_nil).trans (blw_stopChain _ true))
  · have hge : 0x080000 ≤ Reg.BLW_LAMP_STAT k := by simp only [Reg.BLW_LAMP_STAT]; omega
    exact (ht.reg _ (evtOwn_slice hge) (cmdqOwn_slice hge)).trans (reg_lampsOff _ hk)

/-! ## A bring-up of chain E ends (R175) -/

/-- The registers of the drivers of chain E (R191). -/
abbrev driverRegs : List Nat := (List.range 16).map fun k => Reg.BLW_E_DRV k

theorem alters_putDrivers (d : Dev) (drivers : List (BitVec 16 × BitVec 16)) : Alters [] driverRegs d (d.putDrivers false drivers) := by
  refine Alters.foldlMem _ (fun y n hn => ?_) (.refl d)
  have hm : Reg.BLW_E_DRV n ∈ driverRegs := List.mem_map_of_mem hn
  dsimp only
  split <;> exact (Alters.refl y).put _ _ hm

/-- The number of drivers that a bring-up found, and what they are. -/
def Dev.putFound (d : Dev) (n : Nat) (drivers : List (BitVec 16 × BitVec 16)) : Dev :=
  (d.setFld F.BLW_STAT_E_DRV n).putDrivers false drivers

/-- Chain E is up. -/
def Dev.upE (d : Dev) (c : Chain) (seed : Nat) : Dev :=
  (Dev.setFlag { d with freeCtr := seed } F.BLW_STAT_E_UP true).setChain false c

/-- What a bring-up reads again after it has shown its count. -/
theorem par_setCount (d : Dev) (n : Nat) : (d.setFld F.BLW_STAT_E_DRV n).par P.blw_e_drivers 0 = d.par P.blw_e_drivers 0 := rfl

theorem bringupDone_found {d : Dev} {n : Nat} {drivers : List (BitVec 16 × BitVec 16)} (hb : d.blw.e.bringup = true)
    (hpar : d.par P.blw_e_drivers 0 = n) (hn : n ≤ 16) (hlen : drivers.length = n) (hcls : ∀ x ∈ drivers, x.1.toNat / 256 = 1) :
    ∃ c seed, c.bringup = false ∧ c.drivers = n ∧ d.bringupDone false n drivers = (d.putFound n drivers).upE c seed := by
  have hcount : ¬(n = 17 ∨ n ≠ (d.setFld F.BLW_STAT_E_DRV n).par P.blw_e_drivers 0) := by
    rw [par_setCount, hpar]
    omega
  have hsame : ¬(drivers.length ≠ n ∨ (drivers.any fun x => decide (x.1.toNat / 256 ≠ 1)) = true) := by
    rw [List.any_eq_true]
    rintro (hne | ⟨x, hx, hbad⟩)
    · exact hne hlen
    · exact of_decide_eq_true hbad (hcls x hx)
  unfold Dev.bringupDone
  dsimp only
  rw [if_neg (by simp [Dev.chain, hb])]
  simp only [Bool.false_eq_true, if_false, if_neg hcount, List.take_of_length_le hlen.le, if_neg hsame]
  refine Exists.intro _ (Exists.intro _ (And.intro ?_ (And.intro ?_ rfl)))
  · rfl
  · rfl

theorem bringupDone_otherCount {d : Dev} {count : Nat} (drivers : List (BitVec 16 × BitVec 16)) (hb : d.blw.e.bringup = true)
    (h : count = 17 ∨ count ≠ d.par P.blw_e_drivers 0) :
    d.bringupDone false count drivers = (d.setFld F.BLW_STAT_E_DRV count).chainFault false := by
  unfold Dev.bringupDone
  dsimp only
  rw [if_neg (by simp [Dev.chain, hb])]
  exact if_pos h

theorem gives_chainUp {s : State} {n : Nat} {drivers : List (BitVec 16 × BitVec 16)} (hb : s.dev.blw.e.bringup = true)
    (hpar : s.dev.par P.blw_e_drivers 0 = n) (hn : n ≤ 16) (hlen : drivers.length = n) (hcls : ∀ x ∈ drivers, x.1.toNat / 256 = 1) :
    Gives (.chainBringupDone false n drivers) s fun t => (t.dev.flag F.BLW_STAT_E_UP = true ∧ t.dev.fld F.BLW_STAT_E_DRV = n ∧
      t.dev.blw.e.bringup = false ∧ t.dev.blw.e.drivers = n) ∧ Leaves [.blw, .free] ([Reg.BLW_STAT] ++ driverRegs) s t := by
  obtain ⟨c, seed, hup, hdrv, hwork⟩ := bringupDone_found (d := s.dev.begin_) hb hpar hn hlen hcls
  have hstat : Reg.BLW_STAT ∈ [Reg.BLW_STAT] ++ driverRegs := List.mem_append_left _ (List.mem_singleton_self _)
  have hput := alters_putDrivers (s.dev.begin_.setFld F.BLW_STAT_E_DRV n) drivers
  have hfound : Alters [.blw, .free] ([Reg.BLW_STAT] ++ driverRegs) s.dev.begin_ (s.dev.begin_.putFound n drivers) :=
    ((Alters.refl _).setFld F.BLW_STAT_E_DRV n hstat).trans (hput.mono nofun fun _ h => List.mem_append_right _ h)
  have hall : Alters [.blw, .free] ([Reg.BLW_STAT] ++ driverRegs) s.dev.begin_
      ((s.dev.begin_.putFound n drivers).upE c seed) :=
    ((hfound.part (alters_free _ _) (by decide)).setFlag F.BLW_STAT_E_UP true hstat).part (alters_blw _ _) (by decide)
  refine gives_step rfl hwork hall (by decide) fun t ht _ => ?_
  have hblw : t.dev.blw.e = c := congrArg BlwSt.e (ht.parts .blw)
  rw [hblw]
  refine ⟨?_, ?_, hup, hdrv⟩
  · exact (ht.flag F.BLW_STAT_E_UP rfl rfl).trans (Dev.flag_setFlag_self _ F.BLW_STAT_E_UP true (by decide) rfl)
  · have hkept : ((s.dev.begin_.putFound n drivers).upE c seed).fld F.BLW_STAT_E_DRV =
        (s.dev.begin_.putFound n drivers).fld F.BLW_STAT_E_DRV :=
      Dev.fld_setFlag_apart _ F.BLW_STAT_E_UP F.BLW_STAT_E_DRV true (by decide) (by decide)
    have hcount : (s.dev.begin_.putFound n drivers).fld F.BLW_STAT_E_DRV =
        (s.dev.begin_.setFld F.BLW_STAT_E_DRV n).fld F.BLW_STAT_E_DRV :=
      congrArg (fun w => field w 0 5) (hput.reg Reg.BLW_STAT (by decide))
    rw [ht.fld F.BLW_STAT_E_DRV rfl rfl, hkept, hcount, Dev.fld_setFld_self _ _ _ (by decide)]
    exact Nat.mod_eq_of_lt (by show n < 32; omega)

theorem gives_otherCount {s : State} {count : Nat} {drivers : List (BitVec 16 × BitVec 16)} (hb : s.dev.blw.e.bringup = true)
    (h : count = 17 ∨ count ≠ s.dev.par P.blw_e_drivers 0) :
    Gives (.chainBringupDone false count drivers) s fun t => (t.dev.flag F.BLW_STAT_E_FAULT = true ∧
      t.dev.flag F.BLW_STAT_E_UP = false ∧ Pending t Ev.blwChain ∧ t.dev.blw.e.bringup = false) ∧
      Leaves [.blw, .safe] [Reg.BLW_STAT] s t := by
  have hworks : Works [.blw, .safe] [Reg.BLW_STAT] s.dev.begin_ ((s.dev.begin_.setFld F.BLW_STAT_E_DRV count).chainFault false) :=
    ((Alters.refl _).setFld F.BLW_STAT_E_DRV count (List.mem_singleton_self _)).works.trans (works_chainFault _)
  exact gives_works rfl (bringupDone_otherCount (d := s.dev.begin_) drivers hb h) hworks (by decide) fun t ht =>
    ht.faultedE (faultedE_chainFault _)

/-! ## The statement -/

/-- Settles O14: each clause is the rule of a chain that starts, stops, or ends its bring-up. -/
theorem chainsComeUpAndGoDown : Obligations.ChainsComeUpAndGoDown := by
  unfold Obligations.ChainsComeUpAndGoDown
  intro s
  refine ⟨fun hb hen hlife hfit => ?_, fun hb hen hlife hlong => ?_, fun hb hen => ?_, fun hb hen => ?_, fun hb hen => ?_,
    fun drivers hb hn hlen hcls => ?_, fun count drivers hb h => ?_⟩
  · exact gives_imp (gives_startChain (l := false) hb hen (fun _ => hlife) fun _ => hfit) fun _ => and_assoc.mp
  · exact gives_imp (gives_frameTooLong hb hen hlife hlong) fun _ ⟨⟨hfault, hpend, hdown⟩, hl⟩ => ⟨hfault, hpend, hdown, hl⟩
  · exact gives_imp (gives_startChain (l := true) hb hen nofun nofun) fun _ => and_assoc.mp
  · exact gives_imp (gives_stopE hb hen) fun _ ⟨⟨hoff, hdown, hclear, hblw⟩, hl⟩ => ⟨hoff, hdown, hclear, hblw, hl⟩
  · exact gives_imp (gives_stopL hb hen) fun _ ⟨⟨hoff, hdown, hclear, hblw, hlamps⟩, hl⟩ =>
      ⟨hoff, hdown, hclear, hblw, hlamps, hl⟩
  · exact gives_imp (gives_chainUp hb rfl hn hlen hcls) fun _ ⟨⟨hup, hcount, hdone, hdrv⟩, hl⟩ =>
      ⟨hup, hcount, hdone, hdrv, hl⟩
  · exact gives_imp (gives_otherCount hb h) fun _ ⟨⟨hfault, hdown, hpend, hdone⟩, hl⟩ => ⟨hfault, hdown, hpend, hdone, hl⟩

end Sys2Proof.Machine
end

section
/-! SUPPORT. A START that carries a code write (R164, R178, R184): the write is in force from its commit, and the lamp's register shows it
(R194). -/

namespace Sys2Proof.Machine

/-- Chain L up with one driver, lamp 0 on the source of page 8, and its write waiting while the status of a frame is outstanding. -/
def writeWaits : Dev :=
  let d := State.reset.dev.setFlag F.BLW_STAT_L_UP true
  { d with
    cfg := { d.cfg with live := [(pkey P.lamp_src 0, 8)] }
    blw := { d.blw with l := { d.blw.l with drivers := 1, queue := [⟨8, 0, 0x8000⟩], awaiting := true } } }

/-- The START of page 8 commits the write, and lamp 0 shows the code and OK, where its register read 0. -/
theorem lampStat_writeWaits : ∃ t, exec (.lampStartCommit 8) { State.reset with dev := writeWaits } = .next t ∧
    t.dev.reg (Reg.BLW_LAMP_STAT 0) = 0x80000001#32 ∧ writeWaits.reg (Reg.BLW_LAMP_STAT 0) = 0#32 :=
  ⟨_, rfl, by decide +kernel, by decide +kernel⟩

/-- Refutes O16: a START whose frame carries a code write changes the register of the lamp written, which its clause leaves as it was. -/
theorem not_lampsFollowTheirSources : ¬ Obligations.LampsFollowTheirSources := by
  unfold Obligations.LampsFollowTheirSources
  intro h
  obtain ⟨-, -, hstart, -⟩ := h { State.reset with dev := writeWaits }
  obtain ⟨t, hx, -, -, -, -, -, hregs, -⟩ := hstart 8 (by decide +kernel) (by decide +kernel)
  obtain ⟨u, hu, hafter, hbefore⟩ := lampStat_writeWaits
  have htu : t = u := Host.Outcome.next.inj (hx.symm.trans hu)
  have hkept := hregs (Reg.BLW_LAMP_STAT 0) List.not_mem_nil rfl rfl
  rw [htu, hafter, hbefore] at hkept
  exact absurd hkept (by decide)

end Sys2Proof.Machine
end

section
/-! SUPPORT. The commands of the taps and the registers of a host region (R232, R243, R244, R248), and the end of a ZERO calibration (R244,
R246). -/

namespace Sys2Proof.Machine

theorem alters_taps (d : Dev) (x : TapsSt) : Alters [.taps] [] d { d with taps := x } := by
  refine (Alters.refl d).direct (fun p hp => ?_) rfl rfl rfl rfl rfl
  cases p with
  | taps => exact absurd (List.mem_singleton_self _) hp
  | _ => rfl

/-! ## `cal.tap` (R243, R244) -/

/-- The calibration that a `cal.tap` of pair `q` asks for, its applied voltage taken at the tap. -/
def Dev.askedCalTap (d : Dev) (q : Nat) (p : Packet) : CalTap :=
  ⟨p.u 0 1, p.u 1 1 == 1, p.u 2 2, p.u 4 2, p.u 8 8, d.appliedVt (p.u 2 2) (sgn 32 (p.u 16 4)), p.u 20 4, [], q, p.tag.toNat⟩

/-- A calibration begins: the Ladles of the next slot are dropped, and `TAP_STAT` shows CAL_BUSY. -/
def Dev.startCalTap (d : Dev) (c : CalTap) : Dev :=
  { d with taps := { d.taps with next := [], cal := some c } }.setFlag F.TAP_STAT_CAL_BUSY true

theorem alters_startCalTap (d : Dev) (c : CalTap) : Alters [.taps] [Reg.TAP_STAT] d (d.startCalTap c) :=
  ((Alters.refl d).part (alters_taps d _) (List.mem_singleton_self _)).setFlag F.TAP_STAT_CAL_BUSY true (List.mem_singleton_self _)

/-- The channels and the range that a `cal.tap` names are ones that its step may use (R243): one channel for ZERO, and for CH_OFFSET
channels of the part, measured in ×1. -/
structure CalTapNames (p : Packet) : Prop where
  step : p.u 0 1 = 0 ∨ p.u 0 1 = 2
  zero : p.u 0 1 = 0 → p.u 4 2 = 0 ∧ p.u 2 2 ≤ 511
  chOffset : p.u 0 1 = 2 → (p.u 1 1 == 1) = false ∧ p.u 4 2 ≠ 0 ∧ p.u 2 2 + p.u 4 2 ≤ 512

theorem CalTapNames.good {p : Packet} (h : CalTapNames p) :
    (if p.u 0 1 = 2 then p.u 1 1 == 1 || p.u 4 2 == 0 || decide (512 < p.u 2 2 + p.u 4 2)
      else p.u 4 2 != 0 || decide (511 < p.u 2 2)) = false := by
  obtain hstep | hstep := h.step
  · obtain ⟨hcount, hchan⟩ := h.zero hstep
    rw [if_neg (by omega), hcount, decide_eq_false (Nat.not_lt.mpr hchan)]
    rfl
  · obtain ⟨hrange, hcount, hchan⟩ := h.chOffset hstep
    rw [if_pos hstep, hrange, beq_eq_false_iff_ne.mpr hcount, decide_eq_false (Nat.not_lt.mpr hchan)]
    rfl

theorem bodyCalTap_accept {q : Nat} {p : Packet} {mem : List Host.Cell} {d : Dev} (h : CalTapNames p) (hlo : 4096 ≤ p.u 20 4)
    (hhi : p.u 20 4 ≤ 1048576) (hrest : d.atRest = true) :
    bodyCalTap q p mem d = .accept (d.startCalTap (d.askedCalTap q p)) 0 := by
  have hfull : (p.u 0 1 == 1) = false := beq_eq_false_iff_ne.mpr (by have := h.step; omega)
  have hsamples : (!decide (4096 ≤ p.u 20 4 ∧ p.u 20 4 ≤ 1048576)) = false := not_of_true (decide_eq_true ⟨hlo, hhi⟩)
  refine refuseIf_false (Bool.or_eq_false_iff.mpr ⟨h.good, hsamples⟩) <| refuseIf_false (by rw [hfull]; rfl) <|
    refuseIf_false (not_of_true hrest) <| refuseIf_false (by rw [hfull]; rfl) rfl

theorem calTap_starts {s : State} {c : Cmd} (h : CalTapNames (c.packet 0x0406)) (hlo : 4096 ≤ (c.packet 0x0406).u 20 4)
    (hhi : (c.packet 0x0406).u 20 4 ≤ 1048576) (hrest : s.dev.atRest = true) :
    Starts (.calTap c) c 0x0406 s 0 [.taps] [Reg.TAP_STAT] fun t => t.dev.flag F.TAP_STAT_CAL_BUSY = true ∧
      t.dev.taps = { s.dev.taps with next := [], cal := some (s.dev.askedCalTap c.pair.val (c.packet 0x0406)) } := by
  refine starts (fun d => d.startCalTap (d.askedCalTap c.pair.val (c.packet 0x0406))) rfl
    (fun _ _ _ _ _ => bodyCalTap_accept h hlo hhi hrest) (fun _ _ _ => alters_startCalTap _ _) (by decide)
    fun _ _ _ t ht => ⟨?_, ht.parts .taps⟩
  rw [ht.flag F.TAP_STAT_CAL_BUSY rfl rfl]
  exact Dev.flag_setFlag_self _ _ _ (by decide) rfl

/-! ## Host regions (R232, R248) -/

/-- The registers of region `r` (R248). -/
abbrev regionRegs (r : Nat) : List Nat := [Reg.TAP_REQ_ROWS r, Reg.TAP_REQ_COLS r, Reg.TAP_REQ_CFG r]

theorem regionRegs_ge {r a : Nat} (ha : a ∈ regionRegs r) : 0x0C0100 ≤ a := by
  simp only [List.mem_cons, List.not_mem_nil, or_false, Reg.TAP_REQ_ROWS, Reg.TAP_REQ_COLS, Reg.TAP_REQ_CFG] at ha
  omega

theorem evtRingSize_not_regionReg (r : Nat) : Reg.EVT_RING_SIZE ∉ regionRegs r := fun h => absurd (regionRegs_ge h) (by decide)

/-- The registers of a region lie apart. -/
theorem regionRegs_apart (r : Nat) : Reg.TAP_REQ_ROWS r ≠ Reg.TAP_REQ_COLS r ∧ Reg.TAP_REQ_ROWS r ≠ Reg.TAP_REQ_CFG r ∧
    Reg.TAP_REQ_COLS r ≠ Reg.TAP_REQ_CFG r := by
  simp only [Reg.TAP_REQ_ROWS, Reg.TAP_REQ_COLS, Reg.TAP_REQ_CFG]
  omega

/-- A step leaves the registers of a region as its work left them. -/
theorem Settled.regionReg {s t : State} {e : Dev} (ht : Settled s e t) {r a : Nat} (ha : a ∈ regionRegs r) : t.dev.reg a = e.reg a :=
  have hge : 0x080000 ≤ a := Nat.le_trans (by decide) (regionRegs_ge ha)
  ht.reg a (evtOwn_slice hge) (cmdqOwn_slice hge)

/-- The registers of region `r` take values. -/
def Dev.showRegion (d : Dev) (r : Nat) (rows cols cfg : Word) : Dev :=
  ((d.put (Reg.TAP_REQ_ROWS r) rows).put (Reg.TAP_REQ_COLS r) cols).put (Reg.TAP_REQ_CFG r) cfg

theorem putRegion_set (d : Dev) {r prio r0 r1 c0 c1 range len32 frames : Nat} (h : prio ≠ 0) :
    d.putRegion r prio r0 r1 c0 c1 range len32 frames = d.showRegion r (BitVec.ofNat 32 (r0 + 2 ^ 16 * r1))
      (BitVec.ofNat 32 (c0 + 2 ^ 16 * c1)) (BitVec.ofNat 32 (prio + 2 ^ 4 * range + 2 ^ 6 * len32 + 2 ^ 16 * frames)) := if_neg h

theorem putRegion_clear (d : Dev) (r r0 r1 c0 c1 range len32 frames : Nat) :
    d.putRegion r 0 r0 r1 c0 c1 range len32 frames = d.showRegion r 0#32 0#32 0#32 := rfl

section
variable (d : Dev) (r : Nat) (rows cols cfg : Word)

theorem alters_showRegion : Alters [] (regionRegs r) d (d.showRegion r rows cols cfg) :=
  (((Alters.refl d).put _ rows (by simp)).put _ cols (by simp)).put _ cfg (by simp)

theorem showRegion_rows : (d.showRegion r rows cols cfg).reg (Reg.TAP_REQ_ROWS r) = rows := by
  obtain ⟨hcols, hcfg, -⟩ := regionRegs_apart r
  unfold Dev.showRegion
  rw [Dev.reg_put_ne _ _ _ _ hcfg, Dev.reg_put_ne _ _ _ _ hcols, Dev.reg_put_self]

theorem showRegion_cols : (d.showRegion r rows cols cfg).reg (Reg.TAP_REQ_COLS r) = cols := by
  obtain ⟨-, -, hcfg⟩ := regionRegs_apart r
  unfold Dev.showRegion
  rw [Dev.reg_put_ne _ _ _ _ hcfg, Dev.reg_put_self]

theorem showRegion_cfg : (d.showRegion r rows cols cfg).reg (Reg.TAP_REQ_CFG r) = cfg := Dev.reg_put_self _ _ _

end

/-- The region that an `out.tap_request` names is written with its fields where they are in range. -/
theorem bodyOutTapRequest_ok {p : Packet} {mem : List Host.Cell} {d : Dev} (hr : p.u 0 1 ≤ 15)
    (hok : regionOk (p.u 1 1) (p.u 2 2) (p.u 4 2) (p.u 6 1) (p.u 7 1) (p.u 8 1) (p.u 9 1) = true) :
    bodyOutTapRequest p mem d =
      .ok (d.putRegion (p.u 0 1) (p.u 1 1) (p.u 2 2) (p.u 4 2) (p.u 6 1) (p.u 7 1) (p.u 8 1) (p.u 9 1) (p.u 10 2)) [] :=
  refuseIf_false (decide_eq_false (Nat.not_lt.mpr hr)) (refuseIf_false (not_of_true hok) rfl)

theorem outTapRequest_acts {s : State} {c : Cmd} {r : Nat} {rows cols cfg : Word}
    (hb : ∀ mem d, bodyOutTapRequest (c.packet 0x0505) mem d = .ok (d.showRegion r rows cols cfg) []) :
    Acts (.outTapRequest c) c 0x0505 s [] [] (regionRegs r) fun t =>
      t.dev.reg (Reg.TAP_REQ_ROWS r) = rows ∧ t.dev.reg (Reg.TAP_REQ_COLS r) = cols ∧ t.dev.reg (Reg.TAP_REQ_CFG r) = cfg := by
  refine acts (fun d => d.showRegion r rows cols cfg) rfl (fun _ _ _ _ _ => hb _ _) (fun _ _ _ => alters_showRegion _ _ _ _ _)
    (evtRingSize_not_regionReg r) fun _ _ _ t ht => ⟨?_, ?_, ?_⟩
  · exact (ht.regionReg (r := r) (by simp)).trans (showRegion_rows _ _ _ _ _)
  · exact (ht.regionReg (r := r) (by simp)).trans (showRegion_cols _ _ _ _ _)
  · exact (ht.regionReg (r := r) (by simp)).trans (showRegion_cfg _ _ _ _ _)

/-- What a host write of the rows of a region leaves in the register: its two fields, and 0 elsewhere (R248). -/
abbrev writtenRows (v : Word) : Word := BitVec.ofNat 32 (bits v.toNat 0 9 + bits v.toNat 16 9 * 2 ^ 16)

/-- A host write of a region's rows takes effect where the region's fields are in range with them. -/
theorem writeRegion_rows {d : Dev} {r : Nat} {v : Word} (hr : r < 16)
    (hok : regionOk (d.fld (F.TAP_REQ_CFG_PRIO r)) (bits v.toNat 0 9) (bits v.toNat 16 9) (d.fld (F.TAP_REQ_COLS_FIRST r))
      (d.fld (F.TAP_REQ_COLS_LAST r)) (d.fld (F.TAP_REQ_CFG_RANGE r)) (d.fld (F.TAP_REQ_CFG_LEN32 r)) = true) :
    d.writeRegion (Reg.TAP_REQ_ROWS r) v = d.put (Reg.TAP_REQ_ROWS r) (writtenRows v) := by
  have hoff : Reg.TAP_REQ_ROWS r - Reg.TAP_REQ_ROWS 0 = 16 * r := Nat.add_sub_cancel_left _ _
  have hrow : 16 * r / 16 = r := Nat.mul_div_cancel_left r (by decide)
  have hword : 16 * r % 16 = 0 := Nat.mul_mod_right 16 r
  have hin : ¬(Reg.TAP_REQ_ROWS r < Reg.TAP_REQ_ROWS 0 ∨ 16 ≤ r ∨ 12 ≤ 16 * r % 16 ∨ 16 * r % 4 ≠ 0) := by
    simp only [Reg.TAP_REQ_ROWS]
    omega
  unfold Dev.writeRegion
  dsimp only
  rw [hoff, hrow, if_neg hin, hword]
  exact if_pos hok

theorem gives_tapReqRows {s : State} {r : Fin 16} {v : Word} (hb : s.dev.barOpen = true)
    (hok : regionOk (s.dev.fld (F.TAP_REQ_CFG_PRIO r.val)) (bits v.toNat 0 9) (bits v.toNat 16 9)
      (s.dev.fld (F.TAP_REQ_COLS_FIRST r.val)) (s.dev.fld (F.TAP_REQ_COLS_LAST r.val)) (s.dev.fld (F.TAP_REQ_CFG_RANGE r.val))
      (s.dev.fld (F.TAP_REQ_CFG_LEN32 r.val)) = true) :
    Gives (.tapReqWrite (Reg.TAP_REQ_ROWS r.val) v) s fun t =>
      t.dev.reg (Reg.TAP_REQ_ROWS r.val) = writtenRows v ∧ Leaves [] [Reg.TAP_REQ_ROWS r.val] s t := by
  refine gives_bar rfl hb (writeRegion_rows (d := s.dev.begin_) r.isLt hok) ((Alters.refl _).put _ _ (List.mem_singleton_self _))
    (fun h => evtRingSize_not_regionReg r.val (List.mem_cons.mpr (.inl (List.mem_singleton.mp h)))) fun t ht _ => ?_
  exact (ht.regionReg (r := r.val) (by simp)).trans (Dev.reg_put_self _ _ _)

/-- Settles O33: each clause is the rule of its command, or of the write of a region's rows. -/
theorem tapCommandsAct : Obligations.TapCommandsAct := by
  unfold Obligations.TapCommandsAct
  intro s c
  refine ⟨fun hzero hoffset hstep hlo hhi hrest => ?_, fun hr hok hprio => ?_, fun hr hok hprio => ?_, fun r v hb hok => ?_⟩
  · exact calTap_starts ⟨hstep, hzero, hoffset⟩ hlo hhi hrest
  · exact outTapRequest_acts fun _ _ => by rw [bodyOutTapRequest_ok hr hok, putRegion_set _ hprio]
  · exact outTapRequest_acts fun _ _ => by rw [bodyOutTapRequest_ok hr (by rwa [hprio]), hprio, putRegion_clear]
  · exact gives_tapReqRows hb hok

/-! ## A ZERO calibration ends (R244, R246) -/

/-- The calibration that runs is over, and its sums are held for FULL; its command is not yet completed. -/
def Dev.holdZero (d : Dev) (c : CalTap) : Dev :=
  let x := { d with taps := { d.taps with cal := none } }.setFlag F.TAP_STAT_CAL_BUSY false
  { x with taps := { x.taps with zero := some ⟨c.channel, c.x2, c.mask, c.vin, c.sums⟩ } }

theorem alters_holdZero (d : Dev) (c : CalTap) : Alters [.taps] [Reg.TAP_STAT] d (d.holdZero c) := by
  have hover : Alters [.taps] [Reg.TAP_STAT] d ({ d with taps := { d.taps with cal := none } }.setFlag F.TAP_STAT_CAL_BUSY false) :=
    ((Alters.refl d).part (alters_taps d _) (List.mem_singleton_self _)).setFlag F.TAP_STAT_CAL_BUSY false (List.mem_singleton_self _)
  exact hover.part (alters_taps _ _) (List.mem_singleton_self _)

/-- What ZERO reports: all its taps are measured, none failed, and how far the gains in force lie from 1 at most (R246). -/
def Dev.zeroReport (d : Dev) (c : CalTap) : List Byte :=
  calTapResults c.units.length 65535 (c.units.foldl (fun a u => max a (absI ((d.tapGain u c.x2 : Int) - 32768))) 0)

theorem calTapEnd_zero {d : Dev} {c : CalTap} (h0 : c.step = 0) (hok : ∀ u ∈ c.units, d.calUnitOk c u = true) :
    d.calTapEnd c = (d.holdZero c).complete c.pair c.tag 0x0000 (d.zeroReport c) := by
  have hoff : (c.units.filter fun u => !d.calUnitOk c u) = [] :=
    List.filter_eq_nil_iff.mpr fun u hu => by rw [hok u hu]; decide
  unfold Dev.calTapEnd Dev.zeroReport Dev.holdZero
  simp [hoff, h0]

theorem gives_zeroEnd {s : State} {c : CalTap} {r : Running} (hc : s.dev.taps.cal = some c) (h0 : c.step = 0)
    (hall : ∀ u ∈ c.units, c.open_ u = false ∧ s.dev.calUnitOk c u = true) (hr : s.dev.running? c.pair c.tag = some r)
    (ha : Awaits s.dev r) : Gives .calTapComplete s fun t => Completed s t r 0x0000 (s.dev.zeroReport c) ∧
      t.dev.taps = { s.dev.taps with cal := none, zero := some ⟨c.channel, c.x2, c.mask, c.vin, c.sums⟩ } ∧
      t.dev.flag F.TAP_STAT_CAL_BUSY = false ∧ Leaves [.taps] [Reg.TAP_STAT] s t := by
  have hc' : s.dev.begin_.taps.cal = some c := hc
  have hfull : (c.units.all fun u => !c.open_ u || !s.dev.begin_.calUnitOk c u) = true :=
    List.all_eq_true.mpr fun u hu => by rw [(hall u hu).1]; rfl
  have hend : s.dev.begin_.calTapEnd c = (s.dev.begin_.holdZero c).finish r 0x0000 (s.dev.zeroReport c) :=
    (calTapEnd_zero (d := s.dev.begin_) h0 fun u hu => (hall u hu).2).trans (complete_one hr)
  refine gives_imp (gives_finish rfl (by simp only [hc', hfull, if_true]; exact hend) (alters_holdZero _ c) ha (by decide))
    fun t ⟨hdone, hset, hleaves⟩ => ⟨hdone, hset.parts .taps, ?_, hleaves⟩
  rw [hset.flag F.TAP_STAT_CAL_BUSY rfl rfl]
  exact Dev.flag_setFlag_self _ _ _ (by decide) rfl

/-- Settles O36: the sums of the ZERO are held, and its command completes with what ZERO reports. -/
theorem tapCalibrationEnds : Obligations.TapCalibrationEnds := by
  unfold Obligations.TapCalibrationEnds
  intro s c r hc h0 hall hr ha
  exact gives_zeroEnd hc h0 hall hr ha

end Sys2Proof.Machine
end

section
/-! SUPPORT. The turf as the host reads it (R276, R277): the snapshot of one sod, and the end of a `turf.dump`. -/

namespace Sys2Proof.Machine

theorem alters_turf (d : Dev) (x : TurfSt) : Alters [.turf] [] d { d with turf := x } := by
  refine (Alters.refl d).direct (fun p hp => ?_) rfl rfl rfl rfl rfl
  cases p with
  | turf => exact absurd (List.mem_singleton_self _) hp
  | _ => rfl

/-! ## What a sod reads -/

section
variable {parts : List Part} {regs : List Nat} {x y : Dev}

theorem Alters.sodWord (h : Alters parts regs x y) (hp : .turf ∉ parts) (i w : Nat) : y.sodWord i w = x.sodWord i w := by
  have hturf : y.turf = x.turf := h.same .turf hp
  unfold Dev.sodWord
  rw [hturf]

theorem Alters.sodAge (h : Alters parts regs x y) (hp : .turf ∉ parts) (hf : Reg.TIME_FRAME ∉ regs) (i : Nat) :
    y.sodAge i = x.sodAge i := by
  unfold Dev.sodAge Dev.ageOf Dev.gNow
  rw [h.sodWord hp, h.reg _ hf]

theorem Alters.servesAcq (h : Alters parts regs x y) (hp : .turf ∉ parts) (hf : Reg.TIME_FRAME ∉ regs) (hc : Reg.TURF_CTL ∉ regs)
    (i : Nat) : y.servesAcq i = x.servesAcq i := by
  have hctl : y.fld F.TURF_CTL_ACQ_ALL = x.fld F.TURF_CTL_ACQ_ALL := congrArg (field · 1 1) (h.reg _ hc)
  unfold Dev.servesAcq Dev.sodStale Dev.flag
  rw [hctl, h.sodWord hp, h.sodAge hp hf]

end

/-! ## The snapshot (R276) -/

/-- The registers that show the words of a snapshot. -/
abbrev snapshotRegs : List Nat := (List.range 12).map fun k => Reg.TURF_RD_DATA k

theorem mem_snapshotRegs {k : Nat} (hk : k < 12) : Reg.TURF_RD_DATA k ∈ snapshotRegs :=
  List.mem_map_of_mem (List.mem_range.mpr hk)

/-- Words are shown in the registers of a snapshot, from number `n` on. -/
def Dev.showWords (d : Dev) (n : Nat) (ws : List Word) : Dev :=
  (ws.zipIdx n).foldl (fun (d : Dev) (x : Word × Nat) => d.put (Reg.TURF_RD_DATA x.2) x.1) d

theorem showWords_cons (d : Dev) (n : Nat) (w : Word) (ws : List Word) :
    d.showWords n (w :: ws) = (d.put (Reg.TURF_RD_DATA n) w).showWords (n + 1) ws := rfl

theorem reg_showWords_below {k n : Nat} (hk : k < n) (ws : List Word) (d : Dev) :
    (d.showWords n ws).reg (Reg.TURF_RD_DATA k) = d.reg (Reg.TURF_RD_DATA k) := by
  induction ws generalizing n d with
  | nil => rfl
  | cons w ws ih =>
    rw [showWords_cons, ih (Nat.lt_succ_of_lt hk), Dev.reg_put_ne _ _ _ _ (by simp only [Reg.TURF_RD_DATA]; omega)]

theorem reg_showWords (ws : List Word) (d : Dev) (n k : Nat) (hk : k < ws.length) :
    (d.showWords n ws).reg (Reg.TURF_RD_DATA (n + k)) = ws.getD k 0#32 := by
  induction ws generalizing d n k with
  | nil => exact absurd hk (Nat.not_lt_zero k)
  | cons w ws ih =>
    rw [showWords_cons]
    cases k with
    | zero => exact (reg_showWords_below (Nat.lt_succ_self n) ws _).trans (Dev.reg_put_self _ _ _)
    | succ k =>
      rw [show n + (k + 1) = n + 1 + k by omega]
      exact ih _ (n + 1) k (Nat.lt_of_succ_lt_succ hk)

theorem alters_showWords {ws : List Word} (hw : ws.length ≤ 12) (d : Dev) : Alters [] snapshotRegs d (d.showWords 0 ws) :=
  .foldlMem _ (fun y a ha => (Alters.refl y).put _ _ (mem_snapshotRegs (by have := List.snd_lt_of_mem_zipIdx ha; omega))) (.refl d)

theorem length_sod (d : Dev) (i : Nat) : (d.sod i).length = 12 := by
  rw [Dev.sod, List.length_map, List.length_range]

/-- What `TURF_RD_STAT` says of a snapshot: it is valid, whether a read would serve acquisition settings, and its age. -/
def Dev.snapshotStat (d : Dev) (i : Nat) : Word := BitVec.ofNat 32 (1 + b2n (d.servesAcq i) * 2 + d.sodAge i * 2 ^ 8)

/-- The index and the words of a snapshot stand in their registers. -/
def Dev.showSod (d : Dev) (i : Nat) : Dev := (d.put Reg.TURF_RD_IDX (BitVec.ofNat 32 i)).showWords 0 (d.sod i)

theorem alters_showSod (d : Dev) (i : Nat) : Alters [] (Reg.TURF_RD_IDX :: snapshotRegs) d (d.showSod i) :=
  ((Alters.refl d).put _ _ List.mem_cons_self).trans
    ((alters_showWords (length_sod d i).le _).mono (fun _ hp => hp) fun _ ha => List.mem_cons_of_mem _ ha)

theorem snapshotSod_eq (d : Dev) (v : Word) :
    d.snapshotSod v = (d.showSod (field v 0 17)).put Reg.TURF_RD_STAT (d.snapshotStat (field v 0 17)) := by
  have h := alters_showSod d (field v 0 17)
  unfold Dev.snapshotStat
  rw [← h.servesAcq List.not_mem_nil (by decide) (by decide), ← h.sodAge List.not_mem_nil (by decide)]
  rfl

theorem gives_snapshot {s : State} (v : Word) (hb : s.dev.barOpen = true) : Gives (.turfRdIdxWrite v) s fun t =>
    (t.dev.reg Reg.TURF_RD_IDX = BitVec.ofNat 32 (field v 0 17) ∧
      (∀ k, k < 12 → t.dev.reg (Reg.TURF_RD_DATA k) = (s.dev.sod (field v 0 17)).getD k 0#32) ∧
      t.dev.reg Reg.TURF_RD_STAT = s.dev.snapshotStat (field v 0 17)) ∧
    Leaves [] ([Reg.TURF_RD_IDX, Reg.TURF_RD_STAT] ++ snapshotRegs) s t := by
  have hshow := (alters_showSod s.dev.begin_ (field v 0 17)).mono
    (regs := [Reg.TURF_RD_IDX, Reg.TURF_RD_STAT] ++ snapshotRegs) (fun _ hp => hp) (by decide)
  refine gives_bar rfl hb (snapshotSod_eq s.dev.begin_ v) (hshow.put _ _ (by decide)) (by decide) fun t ht _ => ⟨?_, fun k hk => ?_, ?_⟩
  · rw [ht.reg _ rfl rfl, Dev.reg_put_ne _ _ _ _ (by decide)]
    exact ((alters_showWords (length_sod _ _).le _).reg _ (by decide)).trans (Dev.reg_put_self _ _ _)
  · have hge : 0x080000 ≤ Reg.TURF_RD_DATA k := by simp only [Reg.TURF_RD_DATA]; omega
    rw [ht.reg _ (evtOwn_slice hge) (cmdqOwn_slice hge), Dev.reg_put_ne _ _ _ _ (by simp only [Reg.TURF_RD_DATA, Reg.TURF_RD_STAT]; omega)]
    have hword := reg_showWords (s.dev.sod (field v 0 17)) (s.dev.begin_.put Reg.TURF_RD_IDX (BitVec.ofNat 32 (field v 0 17))) 0 k
      (by rw [length_sod]; exact hk)
    rwa [Nat.zero_add] at hword
  · exact (ht.reg _ rfl rfl).trans (Dev.reg_put_self _ _ _)

/-! ## The end of a dump (R277) -/

/-- The bytes of a dump whose first `k` sods are read, the others as they now stand. -/
def Dev.dumpBytes (d : Dev) (j : TurfJob) (k : Nat) : List Byte :=
  (j.words ++ (j.indices.drop k).flatMap d.sod).flatMap fun w => leBytes 4 w.toNat

/-- What a dump of `n` bytes reports: its size, G_now at its first read and (`last`) at its last, and the slot of the first (R277). -/
def Dev.dumpReport (d : Dev) (j : TurfJob) (n last : Nat) : List Byte :=
  let first := j.first.getD (d.gNow, d.slotNo)
  leBytes 4 n ++ leBytes 1 first.1 ++ leBytes 1 last ++ zeros 2 ++ leBytes 8 first.2

/-- No dump runs any more; its bytes are not yet written, and its command is not yet completed. -/
def Dev.endDump (d : Dev) : Dev := { d with turf := { d.turf with dump := none } }.setFlag F.TURF_STAT_DUMP_BUSY false

theorem alters_endDump (d : Dev) : Alters [.turf] [Reg.TURF_STAT] d d.endDump :=
  ((Alters.refl d).part (alters_turf d _) (List.mem_singleton_self _)).setFlag F.TURF_STAT_DUMP_BUSY false (List.mem_singleton_self _)

/-- The reads that a dump still lacks: the words of all the sods from number `k` on, and the instant of the first read where none
was yet. -/
theorem dumpRead_rest (d : Dev) {j : TurfJob} {k : Nat} (hk : j.words.length = 12 * k) :
    let r := d.dumpRead j j.indices.length
    r.words = j.words ++ (j.indices.drop k).flatMap d.sod ∧ r.first.getD (d.gNow, d.slotNo) = j.first.getD (d.gNow, d.slotNo) ∧
    r.addr = j.addr ∧ r.pair = j.pair ∧ r.tag = j.tag := by
  have hrest : (j.indices.drop (j.words.length / 12)).take j.indices.length = j.indices.drop k := by
    rw [hk, Nat.mul_div_cancel_left k (by decide)]
    exact List.take_of_length_le (by rw [List.length_drop]; omega)
  unfold Dev.dumpRead
  dsimp only
  rw [hrest]
  split
  next hnone =>
    rw [List.isEmpty_iff.mp hnone, List.flatMap_nil, List.append_nil]
    exact ⟨rfl, rfl, rfl, rfl, rfl⟩
  next => exact ⟨rfl, by cases j.first <;> rfl, rfl, rfl, rfl⟩

theorem dumpDone_eq {d : Dev} {j : TurfJob} {k : Nat} (hj : d.turf.dump = some j) (hk : j.words.length = 12 * k) :
    d.dumpDone = (d.endDump.memw j.addr (d.dumpBytes j k)).complete j.pair j.tag 0x0000
      (d.dumpReport j (d.dumpBytes j k).length d.gNow) := by
  obtain ⟨hwords, hfirst, haddr, hpair, htag⟩ := dumpRead_rest d hk
  have hnow : d.endDump.gNow = d.gNow := congrArg (fun v => v.toNat % 256) ((alters_endDump d).reg _ (by decide))
  unfold Dev.dumpDone
  simp only [hj]
  rw [hwords, hfirst, haddr, hpair, htag]
  exact congrArg (fun last => Dev.complete _ j.pair j.tag 0x0000 (d.dumpReport j _ last)) hnow

/-- A step whose work writes bytes to a memory that is not halted, and ends with the end of an ACCEPTED command. -/
theorem gives_finishWrite {i : Instr} {s : State} {f : List Host.Cell → Dev → Dev} {e : Dev} {r : Running} {status b : Nat}
    {bs results : List Byte} {parts : List Part} {regs : List Nat} (hx : exec i s = .next (s.onDev f))
    (hf : f s.mem s.dev.begin_ = (e.memw b bs).finish r status results) (he : Alters parts regs s.dev.begin_ e) (ha : Awaits s.dev r)
    (hn : Reg.EVT_RING_SIZE ∉ regs) (hm : Reg.MEM_STAT ∉ regs) (hh : s.dev.memHalted = false) :
    Gives i s fun t => Completed s t r status results ∧ Settled s (e.memw b bs) t ∧ Writes b bs s t ∧ Keeps parts s t ∧
      KeepsRegs regs s t := by
  have hframe : CmdFrame ((e.memw b bs).finish r status results) (f s.mem s.dev.begin_) := hf ▸ .refl _
  have hgrows : Grows ((e.memw b bs).finish r status results) (f s.mem s.dev.begin_) := hf ▸ .refl _
  obtain ⟨hdone, hset⟩ := step_finish ha hframe hgrows he.cmd
  have hout : (e.memw b bs).outbox = [.write b bs] := congrArg (· ++ [MemOp.write b bs]) he.outbox
  have hsame : ∀ p : Part, p.same e (e.memw b bs) := fun p => by cases p <;> rfl
  refine ⟨_, hx, hdone, hset, hset.written b bs hout he.base (he.reg _ hn) ((memHalted_congr (he.reg _ hm)).trans hh),
    fun p hp => ?_, fun a hr h1 h2 => (hset.reg a h1 h2).trans (he.reg a hr)⟩
  exact same_trans (begin_same s.dev p) (same_trans (he.same p hp) (same_trans (hsame p) (hset.parts p)))

theorem gives_dumpEnd {s : State} {j : TurfJob} {k : Nat} {r : Running} (hj : s.dev.turf.dump = some j)
    (hk : j.words.length = 12 * k) (hr : s.dev.running? j.pair j.tag = some r) (ha : Awaits s.dev r) (hh : s.dev.memHalted = false) :
    Gives .turfDumpComplete s fun t =>
      Completed s t r 0x0000 (s.dev.dumpReport j (s.dev.dumpBytes j k).length s.dev.gNow) ∧ Writes j.addr (s.dev.dumpBytes j k) s t ∧
      t.dev.turf = { s.dev.turf with dump := none } ∧ t.dev.flag F.TURF_STAT_DUMP_BUSY = false ∧
      Keeps [.turf] s t ∧ KeepsRegs [Reg.TURF_STAT] s t := by
  have hend : s.dev.begin_.dumpDone = (s.dev.begin_.endDump.memw j.addr (s.dev.dumpBytes j k)).finish r 0x0000
      (s.dev.dumpReport j (s.dev.dumpBytes j k).length s.dev.gNow) := (dumpDone_eq (d := s.dev.begin_) hj hk).trans (complete_one hr)
  refine gives_imp (gives_finishWrite rfl hend (alters_endDump _) ha (by decide) (by decide) hh)
    fun t ⟨hdone, hset, hmem, hkeeps⟩ => ⟨hdone, hmem, hset.parts .turf, ?_, hkeeps⟩
  exact (hset.flag F.TURF_STAT_DUMP_BUSY rfl rfl).trans (Dev.flag_setFlag_self _ _ _ (by decide) rfl)

/-- Settles O40: the snapshot stands in its registers, and the end of a dump writes what the dump read and the sods that it had not. -/
theorem turfIsRead : Obligations.TurfIsRead := by
  unfold Obligations.TurfIsRead
  intro s
  refine ⟨fun v hb => ?_, fun j k r hj hk hr ha hh => gives_dumpEnd hj hk hr ha hh⟩
  exact gives_imp (gives_snapshot v hb) fun _ ⟨⟨hidx, hdata, hstat⟩, hl⟩ => ⟨hidx, hdata, hstat, hl⟩

end Sys2Proof.Machine
end

section
/-! SUPPORT. The commands of the output streams and of the turf (R277, R278, R324, R327, R334): where each passes its checks, and what
it does to the part. -/

namespace Sys2Proof.Machine

theorem alters_out (d : Dev) (x : OutSt) : Alters [.out] [] d { d with out := x } := by
  refine (Alters.refl d).direct (fun p hp => ?_) rfl rfl rfl rfl rfl
  cases p with
  | out => exact absurd (List.mem_singleton_self _) hp
  | _ => rfl

/-- A parameter of `n` bytes is below 2 to the number of its bits. -/
theorem packet_u_lt (p : Packet) (o n : Nat) : p.u o n < 2 ^ (8 * n) := Nat.mod_lt _ (Nat.two_pow_pos _)

/-! ## `out.ring` (R327) -/

theorem ringRegs_ge {n a : Nat} (ha : a ∈ [Reg.ING_S_SIZE n, Reg.ING_S_BASE_LO n]) : 0x080000 ≤ a := by
  simp only [List.mem_cons, List.not_mem_nil, or_false, Reg.ING_S_SIZE, Reg.ING_S_BASE_LO] at ha
  omega

/-- The size and the base of a stream's ring stand in its registers. -/
def Dev.nameRing (d : Dev) (n size base : Nat) : Dev :=
  ((d.putWide (Reg.ING_S_BASE_LO n) base).put (Reg.ING_S_SIZE n) (BitVec.ofNat 32 size)).put (Reg.ING_S_BASE_LO n) (BitVec.ofNat 32 base)

section
variable (d : Dev) (n size base : Nat)

theorem alters_nameRing : Alters [.wide] [Reg.ING_S_SIZE n, Reg.ING_S_BASE_LO n] d (d.nameRing n size base) :=
  (((Alters.refl d).putWide _ base (List.mem_singleton_self _) (by simp only [Reg.ING_S_BASE_LO, Reg.EVT_RING_BASE_LO]; omega)).put _ _
    (by simp)).put _ _ (by simp)

variable {size base}

theorem reg_nameRing_size : (d.nameRing n size base).reg (Reg.ING_S_SIZE n) = BitVec.ofNat 32 size := by
  unfold Dev.nameRing
  rw [Dev.reg_put_ne _ _ _ _ (by simp only [Reg.ING_S_SIZE, Reg.ING_S_BASE_LO]; omega), Dev.reg_put_self]

theorem wide64_nameRing_base (hbase : base < 2 ^ 64) : (d.nameRing n size base).wide64 (Reg.ING_S_BASE_LO n) = base :=
  (Dev.wide64_putWide d _ base _).trans ((if_pos rfl).trans (Nat.mod_eq_of_lt hbase))

end

theorem bodyOutRing_ok {p : Packet} {mem : List Host.Cell} {d : Dev} (hn : p.u 0 1 ≤ 2) (hsize : ringSizeOk (p.u 0 1) (p.u 4 4) = true)
    (hbase : ringBaseOk (p.u 0 1) (p.u 4 4) (p.u 8 8) = true) (hen : d.flag (F.ING_S_CTL_EN (p.u 0 1)) = false) :
    bodyOutRing p mem d = .ok (d.nameRing (p.u 0 1) (p.u 4 4) (p.u 8 8)) [] :=
  refuseIf_false (decide_eq_false (Nat.not_lt.mpr hn)) <| refuseIf_false (not_of_true hsize) <|
    refuseIf_false (not_of_true hbase) <| refuseIf_false hen rfl

theorem outRing_acts {s : State} {c : Cmd} {n : Nat} (hstream : (c.packet 0x0502).u 0 1 = n) (hn : n ≤ 2)
    (hsize : ringSizeOk n ((c.packet 0x0502).u 4 4) = true)
    (hbase : ringBaseOk n ((c.packet 0x0502).u 4 4) ((c.packet 0x0502).u 8 8) = true)
    (hen : s.dev.flag (F.ING_S_CTL_EN n) = false) :
    Acts (.outRing c) c 0x0502 s [] [.wide] [Reg.ING_S_SIZE n, Reg.ING_S_BASE_LO n] fun t =>
      t.dev.ringSize n = (c.packet 0x0502).u 4 4 ∧ t.dev.wide64 (Reg.ING_S_BASE_LO n) = (c.packet 0x0502).u 8 8 := by
  subst hstream
  refine acts (fun d => d.nameRing _ _ _) rfl (fun _ _ _ _ _ => bodyOutRing_ok hn hsize hbase hen) (fun _ _ _ => alters_nameRing _ _ _ _)
    (fun h => absurd (ringRegs_ge h) (by decide)) fun _ _ _ t ht => ⟨?_, ?_⟩
  · have hge : 0x080000 ≤ Reg.ING_S_SIZE ((c.packet 0x0502).u 0 1) := ringRegs_ge List.mem_cons_self
    unfold Dev.ringSize
    rw [ht.reg _ (evtOwn_slice hge) (cmdqOwn_slice hge), reg_nameRing_size]
    exact Nat.mod_eq_of_lt (packet_u_lt _ 4 4)
  · exact (ht.wide64 _).trans (wide64_nameRing_base _ _ (packet_u_lt _ 8 8))

/-! ## `out.hist_region` (R334) -/

/-- The registers of the histogram region take values. -/
def Dev.setHistRegion (d : Dev) (rows cols : Word) (every : Nat) : Dev :=
  ((d.put Reg.ING_HIST_ROWS rows).put Reg.ING_HIST_COLS cols).setFld F.ING_HIST_CFG_EVERY every

theorem alters_setHistRegion (d : Dev) (rows cols : Word) (every : Nat) :
    Alters [] [Reg.ING_HIST_ROWS, Reg.ING_HIST_COLS, Reg.ING_HIST_CFG] d (d.setHistRegion rows cols every) :=
  (((Alters.refl d).put _ rows (by decide)).put _ cols (by decide)).setFld F.ING_HIST_CFG_EVERY every (by decide)

theorem bodyOutHistRegion_ok {p : Packet} {mem : List Host.Cell} {d : Dev} (hfirst : p.u 0 2 ≤ 511) (hlast : p.u 2 2 ≤ 511) :
    bodyOutHistRegion p mem d = .ok (d.setHistRegion (BitVec.ofNat 32 (p.u 0 2 + 2 ^ 16 * p.u 2 2))
      (BitVec.ofNat 32 (p.u 4 1 + 2 ^ 16 * p.u 5 1)) (p.u 6 1)) [] :=
  refuseIf_false (decide_eq_false (Nat.not_lt.mpr hfirst)) (refuseIf_false (decide_eq_false (Nat.not_lt.mpr hlast)) rfl)

theorem outHistRegion_acts {s : State} {c : Cmd} (hfirst : (c.packet 0x0503).u 0 2 ≤ 511) (hlast : (c.packet 0x0503).u 2 2 ≤ 511) :
    Acts (.outHistRegion c) c 0x0503 s [] [] [Reg.ING_HIST_ROWS, Reg.ING_HIST_COLS, Reg.ING_HIST_CFG] fun t =>
      t.dev.reg Reg.ING_HIST_ROWS = BitVec.ofNat 32 ((c.packet 0x0503).u 0 2 + 2 ^ 16 * (c.packet 0x0503).u 2 2) ∧
      t.dev.reg Reg.ING_HIST_COLS = BitVec.ofNat 32 ((c.packet 0x0503).u 4 1 + 2 ^ 16 * (c.packet 0x0503).u 5 1) ∧
      t.dev.fld F.ING_HIST_CFG_EVERY = (c.packet 0x0503).u 6 1 := by
  refine acts (fun d => d.setHistRegion _ _ _) rfl (fun _ _ _ _ _ => bodyOutHistRegion_ok hfirst hlast)
    (fun _ _ _ => alters_setHistRegion _ _ _ _) (by decide) fun _ _ _ t ht => ⟨?_, ?_, ?_⟩
  · rw [ht.reg _ rfl rfl, Dev.setHistRegion, Dev.reg_setFld_ne _ _ _ _ (by decide), Dev.reg_put_ne _ _ _ _ (by decide), Dev.reg_put_self]
  · rw [ht.reg _ rfl rfl, Dev.setHistRegion, Dev.reg_setFld_ne _ _ _ _ (by decide), Dev.reg_put_self]
  · rw [ht.fld _ rfl rfl, Dev.setHistRegion, Dev.fld_setFld_self _ _ _ (by decide)]
    exact Nat.mod_eq_of_lt (packet_u_lt _ 6 1)

/-! ## `out.rate` (R324) -/

/-- The record rate, the empty records and the time limit stand in `ING_CTL`, the credit of the old rate taken first. -/
def Dev.setOutRate (d : Dev) (rate empty limit : Nat) : Dev :=
  ((d.refill.setFld F.ING_CTL_REC_RATE rate).setFld F.ING_CTL_EMPTY_REC empty).setFld F.ING_CTL_MAX_US limit

section
variable (d : Dev) {rate empty limit : Nat}

theorem alters_setOutRate : Alters [.out] [Reg.ING_CTL] d (d.setOutRate rate empty limit) := by
  have hrefill : Alters [.out] [Reg.ING_CTL] d d.refill := (Alters.refl d).part (alters_out d _) (List.mem_singleton_self _)
  exact ((hrefill.setFld F.ING_CTL_REC_RATE _ (by decide)).setFld F.ING_CTL_EMPTY_REC _ (by decide)).setFld F.ING_CTL_MAX_US _ (by decide)

theorem fld_setOutRate_rate (h : rate < 2 ^ 6) : (d.setOutRate rate empty limit).fld F.ING_CTL_REC_RATE = rate := by
  rw [Dev.setOutRate, Dev.fld_setFld_apart _ _ _ _ (by decide) (by decide), Dev.fld_setFld_apart _ _ _ _ (by decide) (by decide),
    Dev.fld_setFld_self _ _ _ (by decide)]
  exact Nat.mod_eq_of_lt h

theorem fld_setOutRate_empty (h : empty < 2 ^ 1) : (d.setOutRate rate empty limit).fld F.ING_CTL_EMPTY_REC = empty := by
  rw [Dev.setOutRate, Dev.fld_setFld_apart _ _ _ _ (by decide) (by decide), Dev.fld_setFld_self _ _ _ (by decide)]
  exact Nat.mod_eq_of_lt h

theorem fld_setOutRate_limit (h : limit < 2 ^ 13) : (d.setOutRate rate empty limit).fld F.ING_CTL_MAX_US = limit := by
  rw [Dev.setOutRate, Dev.fld_setFld_self _ _ _ (by decide)]
  exact Nat.mod_eq_of_lt h

end

theorem bodyOutRate_ok {p : Packet} {mem : List Host.Cell} {d : Dev} (hlo : 1 ≤ p.u 0 1) (hhi : p.u 0 1 ≤ 48) (hempty : p.u 1 1 ≤ 1)
    (hmin : 50 ≤ p.u 2 2) (hmax : p.u 2 2 ≤ 6000) : bodyOutRate p mem d = .ok (d.setOutRate (p.u 0 1) (p.u 1 1) (p.u 2 2)) [] :=
  refuseIf_false (not_of_true (decide_eq_true ⟨hlo, hhi⟩)) <| refuseIf_false (decide_eq_false (Nat.not_lt.mpr hempty)) <|
    refuseIf_false (not_of_true (decide_eq_true ⟨hmin, hmax⟩)) rfl

theorem outRate_acts {s : State} {c : Cmd} (hlo : 1 ≤ (c.packet 0x0504).u 0 1) (hhi : (c.packet 0x0504).u 0 1 ≤ 48)
    (hempty : (c.packet 0x0504).u 1 1 ≤ 1) (hmin : 50 ≤ (c.packet 0x0504).u 2 2) (hmax : (c.packet 0x0504).u 2 2 ≤ 6000) :
    Acts (.outRate c) c 0x0504 s [] [.out] [Reg.ING_CTL] fun t => t.dev.fld F.ING_CTL_REC_RATE = (c.packet 0x0504).u 0 1 ∧
      t.dev.fld F.ING_CTL_EMPTY_REC = (c.packet 0x0504).u 1 1 ∧ t.dev.fld F.ING_CTL_MAX_US = (c.packet 0x0504).u 2 2 := by
  refine acts (fun d => d.setOutRate _ _ _) rfl (fun _ _ _ _ _ => bodyOutRate_ok hlo hhi hempty hmin hmax)
    (fun _ _ _ => alters_setOutRate _) (by decide) fun _ _ _ t ht => ⟨?_, ?_, ?_⟩
  · exact (ht.fld _ rfl rfl).trans (fld_setOutRate_rate _ (by omega))
  · exact (ht.fld _ rfl rfl).trans (fld_setOutRate_empty _ (by omega))
  · exact (ht.fld _ rfl rfl).trans (fld_setOutRate_limit _ (by omega))

/-! ## `turf.dump` and `turf.clear` (R277, R278) -/

/-- The turf takes a job, and a flag of `TURF_STAT` shows it. -/
def Dev.beginTurf (d : Dev) (x : TurfSt) (f : Fld) : Dev := { d with turf := x }.setFlag f true

theorem alters_beginTurf (d : Dev) (x : TurfSt) {f : Fld} (hf : f.addr = Reg.TURF_STAT) :
    Alters [.turf] [Reg.TURF_STAT] d (d.beginTurf x f) :=
  ((Alters.refl d).part (alters_turf d x) (List.mem_singleton_self _)).setFlag f true (List.mem_singleton.mpr hf)

/-- A command whose body gives the turf a job. -/
theorem starts_turf {i : Instr} {c : Cmd} {op : Nat} {s : State} {body : Body} {f : Fld} (job : TurfSt → TurfSt)
    (hx : exec i s = .next (s.onDev fun mem d => runCmd op c body mem d)) (hf : f.addr = Reg.TURF_STAT) (hw : f.width = 1)
    (hlo : f.lo + f.width ≤ 32) (hb : ∀ mem d, body (c.packet op) mem d = .accept (d.beginTurf (job d.turf) f) 0) :
    Starts i c op s 0 [.turf] [Reg.TURF_STAT] fun t => t.dev.turf = job s.dev.turf ∧ t.dev.flag f = true := by
  refine starts (fun d => d.beginTurf (job d.turf) f) hx (fun _ _ _ _ _ => hb _ _) (fun _ _ _ => alters_beginTurf _ _ hf) (by decide)
    fun _ _ _ t ht => ⟨ht.parts .turf, ?_⟩
  exact (ht.flag f (hf ▸ rfl) (hf ▸ rfl)).trans (Dev.flag_setFlag_self _ _ _ hlo hw)

theorem bodyTurfDump_accept {q : Nat} {p : Packet} {mem : List Host.Cell} {d : Dev} (hok : (turfJob p q).ok = true)
    (halign : (turfJob p q).addr % 64 = 0) (hin : (turfJob p q).addr + (turfJob p q).size ≤ devMemSize) :
    bodyTurfDump q p mem d = .accept (d.beginTurf { d.turf with dump := some (turfJob p q) } F.TURF_STAT_DUMP_BUSY) 0 :=
  refuseIf_false (not_of_true hok) <|
    refuseIf_false (Bool.or_eq_false_iff.mpr ⟨bne_eq_false_iff_eq.mpr halign, not_inDevMem hin⟩) rfl

theorem bodyTurfClear_accept {q : Nat} {p : Packet} {mem : List Host.Cell} {d : Dev} (hok : (turfJob p q).ok = true) :
    bodyTurfClear q p mem d = .accept (d.beginTurf { d.turf with clear := some (turfJob p q) } F.TURF_STAT_CLEAR_PEND) 0 :=
  refuseIf_false (not_of_true hok) rfl

/-- Settles O37: each command passes its checks, and sets its registers or gives the turf its job. -/
theorem outputCommandsAct : Obligations.OutputCommandsAct := by
  unfold Obligations.OutputCommandsAct
  intro s c
  refine ⟨fun hn hsize hbase hen => outRing_acts rfl hn hsize hbase hen, fun hfirst hlast => outHistRegion_acts hfirst hlast,
    fun hlo hhi hempty hmin hmax => outRate_acts hlo hhi hempty hmin hmax, fun hok halign hin => ?_, fun hok => ?_⟩
  · exact starts_turf (fun x => { x with dump := some _ }) rfl rfl rfl (by decide) fun _ _ => bodyTurfDump_accept hok halign hin
  · exact starts_turf (fun x => { x with clear := some _ }) rfl rfl rfl (by decide) fun _ _ => bodyTurfClear_accept hok

end Sys2Proof.Machine
end

section
/-! SUPPORT. The scan commands (R260, R310 to R314): where each passes its checks, and what it does to the part. -/

namespace Sys2Proof.Machine

/-! ## The turf wakes (R260) -/

theorem alters_sweepAll (d : Dev) : Alters [.turf] [] d d.sweepAll := alters_turf d _

theorem alters_wakeTurf (d : Dev) : Alters [.scan, .turf] [Reg.TURF_STAT] d d.wakeTurf := by
  have hsweep : Alters [.scan, .turf] [Reg.TURF_STAT] d d.sweepAll := (Alters.refl d).part (alters_sweepAll d) (by decide)
  unfold Dev.wakeTurf
  split
  · exact .refl d
  · exact .ite (fun _ => (hsweep.setFlag _ true (by decide)).part (alters_scan _ _) (by decide)) fun _ => .refl d

/-! ## Setpoints (R310, R313) -/

theorem alters_setPaths (d : Dev) (x y : List Seg) : Alters [.scan] [] d (d.setPaths x y) := alters_scan d _

theorem alters_rampTo (d : Dev) (x0 y0 x1 y1 : Int) : Alters [.scan] [] d (d.rampTo x0 y0 x1 y1) := alters_setPaths d _ _

theorem alters_uniformPlan (d : Dev) : Alters [.scan] [] d d.uniformPlan := alters_scan d _

/-! ## `scan.start` (R310) -/

/-- Under the uniform plan, both setpoints leave the mirror's position for the start of the run-in. -/
def Dev.rampToRunIn (d : Dev) : Dev :=
  let d := d.uniformPlan
  d.rampTo (65536 * d.scan.posX) (65536 * d.scan.posY) d.runInStart (d.yOf d.nextFrame)

/-- The loop starts afresh in the ramp, with the amplifier on. -/
def Dev.restartLoop (d : Dev) : Dev :=
  { d with scan := { d.scan with
      phase := .ramp, stE := { m := [0, 0, 0, 0] }, stP := {}, stI := {}, stD := {}, stU := {}, coef := [], alpha := [],
      clipX := false, clipY := false, late := 0, overran := false, overruns := 0, trackX := 0, trackY := 0, settleFrom := none,
      mirAmpEn := true, ampOffNext := false } }

/-- Every record credit is full again (R324). -/
def Dev.refillCredits (d : Dev) : Dev := { d with out := { d.out with used := [], refilled := d.time.ticks } }

/-- What `scan.start` does to the part. -/
def Dev.startScan (d : Dev) : Dev := (d.wakeTurf.setFld F.SCN_STAT_STATE stStarting).rampToRunIn.restartLoop.refillCredits

theorem alters_startScan (d : Dev) : Alters [.scan, .turf, .out] [Reg.SCN_STAT, Reg.TURF_STAT] d d.startScan := by
  have hwake : Alters [.scan, .turf, .out] [Reg.SCN_STAT, Reg.TURF_STAT] d d.wakeTurf :=
    (alters_wakeTurf d).mono (by decide) (by decide)
  have hramp (x : Dev) : Alters [.scan] [] x x.rampToRunIn := (alters_uniformPlan x).trans (alters_rampTo _ _ _ _ _)
  exact (((hwake.setFld _ _ (by decide)).part (hramp _) (by decide)).part (alters_scan _ _) (by decide)).part (alters_out _ _) (by decide)

theorem fld_startScan (d : Dev) (f : Fld) : d.startScan.fld f = (d.wakeTurf.setFld F.SCN_STAT_STATE stStarting).fld f := rfl

theorem scanState_startScan (d : Dev) : d.startScan.scanState = stStarting :=
  (fld_startScan d _).trans (Dev.fld_setFld_self _ _ _ (by decide))

theorem bodyScanStart_accept {p : Packet} {mem : List Host.Cell} {d : Dev} (hr : d.atRest = true) (hl : d.locked = true)
    (hp : d.fld F.PWR_STAT_STATE ≠ 1) (he : d.chainUp false = true ∨ d.par P.emit_e_max 0 = 0) :
    bodyScanStart p mem d = .accept d.startScan 0 := by
  have hchain : (!d.chainUp false && d.par P.emit_e_max 0 != 0) = false := by
    rcases he with h | h
    · rw [h]; rfl
    · rw [h]; exact Bool.and_false _
  exact refuseIf_false (not_of_true hr) <|
    refuseIf_false (Bool.or_eq_false_iff.mpr ⟨not_of_true hl, beq_eq_false_iff_ne.mpr hp⟩) <| refuseIf_false hchain rfl

theorem scanStart_starts {s : State} {c : Cmd} (hr : s.dev.atRest = true) (hl : s.dev.locked = true) (hp : s.dev.fld F.PWR_STAT_STATE ≠ 1)
    (he : s.dev.chainUp false = true ∨ s.dev.par P.emit_e_max 0 = 0) :
    Starts (.scanStart c) c 0x0201 s 0 [.scan, .turf, .out] [Reg.SCN_STAT, Reg.TURF_STAT] fun t =>
      t.dev.scanState = stStarting ∧ t.dev.scan.phase = .ramp ∧ t.dev.scan.mirAmpEn = true ∧ t.dev.out.used = [] := by
  refine starts Dev.startScan rfl (fun _ _ _ _ _ => bodyScanStart_accept hr hl hp he) (fun _ _ _ => alters_startScan _) (by decide)
    fun _ _ _ t ht => ?_
  have hscan : t.dev.scan = _ := ht.parts .scan
  exact ⟨(ht.fld F.SCN_STAT_STATE rfl rfl).trans (scanState_startScan _), by rw [hscan]; rfl, by rw [hscan]; rfl,
    congrArg OutSt.used (ht.parts .out)⟩

/-! ## `scan.stop` (R313) -/

theorem bodyScanStop_stopped {p : Packet} {mem : List Host.Cell} {d : Dev} (h : d.scanState = stStopped) :
    bodyScanStop p mem d = .ok d [] := if_pos h

theorem bodyScanStop_fault {p : Packet} {mem : List Host.Cell} {d : Dev} (h : d.scanState = stFault) :
    bodyScanStop p mem d = .ok (d.setFld F.SCN_STAT_STATE stStopped) [] :=
  (if_neg (by rw [h]; decide)).trans (if_pos h)

/-- A stop acts from the next slot boundary, but where a stop is already in progress. -/
def Dev.askStop (d : Dev) : Dev :=
  { d with scan := { d.scan with stopNext := d.scan.stopNext || decide (d.scanState ≠ stStopping) } }

theorem bodyScanStop_moving {p : Packet} {mem : List Host.Cell} {d : Dev} (hs : d.scanState ≠ stStopped) (hf : d.scanState ≠ stFault) :
    bodyScanStop p mem d = .accept d.askStop 0 := by
  unfold bodyScanStop Dev.askStop
  rw [if_neg hs, if_neg hf]
  by_cases h : d.scanState = stStopping
  · rw [if_pos h, decide_eq_false (not_not.mpr h), Bool.or_false]
  · rw [if_neg h, decide_eq_true h, Bool.or_true]

section
variable {s : State} {c : Cmd}

theorem scanStop_stopped (h : s.dev.scanState = stStopped) : Acts (.scanStop c) c 0x0202 s [] [] [] fun _ => True :=
  acts id rfl (fun _ _ _ _ _ => bodyScanStop_stopped h) (fun _ _ _ => .refl _) List.not_mem_nil fun _ _ _ _ _ => trivial

theorem scanStop_fault (h : s.dev.scanState = stFault) :
    Acts (.scanStop c) c 0x0202 s [] [] [Reg.SCN_STAT] fun t => t.dev.scanState = stStopped :=
  acts (fun d => d.setFld F.SCN_STAT_STATE stStopped) rfl (fun _ _ _ _ _ => bodyScanStop_fault h)
    (fun _ _ _ => (Alters.refl _).setFld _ _ (by decide)) (by decide)
    fun _ _ _ _ ht => (ht.fld F.SCN_STAT_STATE rfl rfl).trans (Dev.fld_setFld_self _ _ _ (by decide))

theorem scanStop_starts (hs : s.dev.scanState ≠ stStopped) (hf : s.dev.scanState ≠ stFault) :
    Starts (.scanStop c) c 0x0202 s 0 [.scan] [] fun t =>
      t.dev.scan = { s.dev.scan with stopNext := s.dev.scan.stopNext || decide (s.dev.scanState ≠ stStopping) } :=
  starts Dev.askStop rfl (fun _ _ _ _ _ => bodyScanStop_moving hs hf) (fun _ _ _ => alters_scan _ _) List.not_mem_nil
    fun _ _ _ _ ht => ht.parts .scan

end

/-! ## `scan.hold` and `scan.resume` (R311, R312, R314) -/

theorem bodyScanHold_running {p : Packet} {mem : List Host.Cell} {d : Dev} (h : d.scanState = stRunning) :
    bodyScanHold p mem d = .ok { d with scan := { d.scan with holdNext := true } } (leBytes 8 (d.slotNo + 1)) :=
  refuseIf_false (by rw [h]; rfl) (if_pos h)

theorem bodyScanHold_held {p : Packet} {mem : List Host.Cell} {d : Dev} (h : d.scanState = stHolding) (hr : d.scan.resumeReq = false) :
    bodyScanHold p mem d = .ok d (leBytes 8 (d.slotNo + 1)) :=
  refuseIf_false (by rw [h]; rfl) ((if_neg (by rw [h]; decide)).trans (if_neg (by rw [hr]; exact Bool.false_ne_true)))

/-- A resume asks for the run-in, and the turf wakes. -/
def Dev.askResume (d : Dev) : Dev := { d.wakeTurf with scan := { d.wakeTurf.scan with resumeReq := true } }

theorem bodyScanResume_accept {p : Packet} {mem : List Host.Cell} {d : Dev} (h : d.scanState = stHolding)
    (hs : d.flag F.THM_STAT_SAFE = false) : bodyScanResume p mem d = .accept d.askResume 0 :=
  refuseIf_false (by rw [h, hs]; rfl) rfl

section
variable {s : State} {c : Cmd}

theorem scanHold_running (h : s.dev.scanState = stRunning) : ActsFast (.scanHold c) c 0x0203 s (leBytes 8 (s.dev.slotNo + 1)) [.scan] []
    fun t => t.dev.scan = { s.dev.scan with holdNext := true } :=
  actsFast (fun d => { d with scan := { d.scan with holdNext := true } }) rfl (fun _ _ _ => bodyScanHold_running h)
    (fun _ _ _ => alters_scan _ _) List.not_mem_nil fun _ _ _ _ ht => ht.parts .scan

theorem scanHold_held (h : s.dev.scanState = stHolding) (hr : s.dev.scan.resumeReq = false) :
    ActsFast (.scanHold c) c 0x0203 s (leBytes 8 (s.dev.slotNo + 1)) [] [] fun _ => True :=
  actsFast id rfl (fun _ _ _ => bodyScanHold_held h hr) (fun _ _ _ => .refl _) List.not_mem_nil fun _ _ _ _ _ => trivial

theorem scanResume_starts (h : s.dev.scanState = stHolding) (hs : s.dev.flag F.THM_STAT_SAFE = false) :
    Starts (.scanResume c) c 0x0204 s 0 [.scan, .turf] [Reg.TURF_STAT] fun t => t.dev.scan.resumeReq = true :=
  starts Dev.askResume rfl (fun _ _ _ _ _ => bodyScanResume_accept h hs)
    (fun _ _ _ => (alters_wakeTurf _).part (alters_scan _ _) (by decide)) (by decide)
    fun _ _ _ _ ht => congrArg ScanSt.resumeReq (ht.parts .scan)

end

/-- Settles O9: each clause is the rule of its command in the scan state it names. -/
theorem scanCommandsAct : Obligations.ScanCommandsAct := by
  unfold Obligations.ScanCommandsAct
  intro s c
  exact ⟨scanStart_starts, scanStop_stopped, scanStop_fault, scanStop_starts, scanHold_running, scanHold_held, scanResume_starts⟩

end Sys2Proof.Machine
end

section
/-! SUPPORT. The events of starting and stopping (R310 to R313): what each does in the phase of the mirror that it ends. -/

namespace Sys2Proof.Machine

/-! ## The run-in begins (R310, R312) -/

/-- Both setpoints leave for the first edge of the coming sweep, which they reach at the end of the run-in with its velocity. -/
def Dev.runInPaths (d : Dev) : Dev :=
  let e := d.sweepStart (d.nextFrame % 2 == 1) d.planDue
  let len := 8000 * d.runInSlots + d.time.slotLen - 8000
  d.setPaths [{ shape := .hermite, t0 := d.time.slotStart, len := len, x0 := d.setpoints.1, x1 := e.1, v0 := 0, v1 := e.2 }]
    [{ shape := .hermite, t0 := d.time.slotStart, len := len, x0 := d.setpoints.2, x1 := d.yOf d.nextFrame, v0 := 0, v1 := 0 }]

/-- The run-in of `slots` slots, with ARM raised and the holding of the chains withdrawn. -/
def Dev.armRunIn (d : Dev) (slots : Nat) : Dev :=
  let d := d.setFlag F.SCN_STAT_PARKED false
  let d := { d with scan := { d.scan with
    phase := .runIn, runInLeft := slots, arm := true, grants := [], endedUnits := [], subKey := none } }
  { d with blw := { d.blw with holdReq := false } }

theorem sweepAllDone_none {d : Dev} (h : d.scan.sweepAllEnd = none) : d.sweepAllDone = d := by
  unfold Dev.sweepAllDone
  rw [h]

theorem beginRunIn_ready {d : Dev} (hd : d.scan.sweepAllEnd = none) (h : d.runInReady = true) :
    d.beginRunIn = d.runInPaths.armRunIn d.runInSlots := by
  unfold Dev.beginRunIn
  rw [sweepAllDone_none hd]
  exact if_pos h

theorem alters_armRunIn (d : Dev) (slots : Nat) : Alters [.scan, .blw] [Reg.SCN_STAT] d (d.armRunIn slots) :=
  (((Alters.refl d).setFlag F.SCN_STAT_PARKED false (by decide)).part (alters_scan _ _) (by decide)).part (alters_blw _ _) (by decide)

theorem alters_runIn (d : Dev) (slots : Nat) : Alters [.scan, .blw] [Reg.SCN_STAT] d (d.runInPaths.armRunIn slots) :=
  ((Alters.refl d).part (alters_setPaths d _ _) (by decide)).trans (alters_armRunIn _ _)

/-- A mirror that has settled may begin its run-in with phase lock, where nothing holds or stops it and no marking runs. -/
theorem runInReady_settled {d : Dev} (hd : d.scan.sweepAllEnd = none) (hl : d.flag F.TIME_STAT_PHASE_LOCK = true)
    (hs : d.scan.stopNext = false) (hh : d.scan.holdNext = false) (hp : d.scan.phase = .settle) (he : d.settled = true) :
    d.runInReady = true := by
  unfold Dev.runInReady
  rw [hd, hl, hs, hh, hp, he]
  rfl

/-! ## The mirror parks, and ramps to the centre (R311, R313) -/

theorem alters_centre (d : Dev) : Alters [.scan] [Reg.SCN_STAT] d d.centre :=
  (((Alters.refl d).part (alters_rampTo d _ _ _ _) (by decide)).part (alters_scan _ _) (by decide)).setFlag _ _ (by decide)

theorem parked_centre (d : Dev) : d.centre.flag F.SCN_STAT_PARKED = false := Dev.flag_setFlag_self _ _ _ (by decide) rfl

/-- The mirror rests where it parked. -/
def Dev.rest (d : Dev) : Dev := { d with scan := { d.scan with phase := .parked } }.setFlag F.SCN_STAT_PARKED true

theorem alters_rest (d : Dev) : Alters [.scan] [Reg.SCN_STAT] d d.rest :=
  ((Alters.refl d).part (alters_scan d _) (by decide)).setFlag _ _ (by decide)

/-! ## The stop ends (R313) -/

/-- Scanning has stopped: the DACs stand at mid code and the amplifier is off. -/
def Dev.stopped (d : Dev) : Dev :=
  let d := ((d.setFld F.SCN_STAT_STATE stStopped).put Reg.SCN_MIR_DAC 0x80008000#32).scanRests
  { d with scan := { d.scan with phase := .off, mirAmpEn := false, pathX := [], pathY := [] } }

theorem alters_stopped (d : Dev) : Alters [.scan, .turf] [Reg.SCN_STAT, Reg.SCN_MIR_DAC] d d.stopped :=
  ((((Alters.refl d).setFld _ _ (by decide)).put _ _ (by decide)).part (alters_scanRests _) (by decide)).part (alters_scan _ _) (by decide)

theorem scanState_stopped (d : Dev) : d.stopped.scanState = stStopped :=
  (Dev.fld_put_ne (d.setFld F.SCN_STAT_STATE stStopped) F.SCN_STAT_STATE Reg.SCN_MIR_DAC 0x80008000#32 (by decide)).trans
    (Dev.fld_setFld_self _ _ _ (by decide))

theorem dac_stopped (d : Dev) : d.stopped.reg Reg.SCN_MIR_DAC = 0x80008000#32 :=
  Dev.reg_put_self (d.setFld F.SCN_STAT_STATE stStopped) Reg.SCN_MIR_DAC 0x80008000#32

/-! ## The events as steps -/

section
variable {s : State}

theorem gives_scanRampEnd (h : s.dev.scan.phase = .ramp) :
    Gives .scanRampEnd s fun t => t.dev.scan.phase = .settle ∧ Leaves [.scan] [] s t :=
  gives_step rfl (if_pos h) (alters_scan _ _) List.not_mem_nil fun _ ht _ => congrArg ScanSt.phase (ht.parts .scan)

theorem gives_runInStart (hd : s.dev.scan.sweepAllEnd = none) (h : s.dev.runInReady = true) : Gives .runInStart s fun t =>
    (t.dev.scan.phase = .runIn ∧ t.dev.scan.arm = true ∧ t.dev.scan.runInLeft = s.dev.runInSlots ∧
      t.dev.flag F.SCN_STAT_PARKED = false) ∧ Leaves [.scan, .blw] [Reg.SCN_STAT] s t := by
  refine gives_step (f := fun _ d => d.beginRunIn) rfl (beginRunIn_ready (d := s.dev.begin_) hd h) (alters_runIn _ _) (by decide)
    fun t ht _ => ?_
  have hscan : t.dev.scan = _ := ht.parts .scan
  rw [hscan]
  exact ⟨rfl, rfl, rfl, (ht.flag F.SCN_STAT_PARKED rfl rfl).trans (Dev.flag_setFlag_self _ _ _ (by decide) rfl)⟩

section
variable (h : s.dev.scan.phase = .parking)
include h

theorem gives_mirrorParked_rest (hs : s.dev.scanState ≠ stStopping) : Gives .mirrorParked s fun t =>
    (t.dev.scan = { s.dev.scan with phase := .parked } ∧ t.dev.flag F.SCN_STAT_PARKED = true) ∧ Leaves [.scan] [Reg.SCN_STAT] s t :=
  gives_step rfl ((if_pos (beq_iff_eq.mpr h)).trans (if_neg hs)) (alters_rest s.dev.begin_) (by decide) fun _ ht _ =>
    ⟨ht.parts .scan, (ht.flag F.SCN_STAT_PARKED rfl rfl).trans (Dev.flag_setFlag_self _ _ _ (by decide) rfl)⟩

theorem gives_mirrorParked_centre (hs : s.dev.scanState = stStopping) : Gives .mirrorParked s fun t =>
    (t.dev.scan.phase = .stopRamp ∧ t.dev.flag F.SCN_STAT_PARKED = false) ∧ Leaves [.scan] [Reg.SCN_STAT] s t :=
  gives_step rfl ((if_pos (beq_iff_eq.mpr h)).trans (if_pos hs)) (alters_centre s.dev.begin_) (by decide) fun _ ht _ =>
    ⟨congrArg ScanSt.phase (ht.parts .scan), (ht.flag F.SCN_STAT_PARKED rfl rfl).trans (parked_centre _)⟩

end

theorem gives_stopRampEnd {r : Running} (h : s.dev.scan.phase = .stopRamp)
    (hr : (s.dev.cmd.running.filter fun r => r.pkt.opcode.toNat == 0x0202) = [r]) (ha : Awaits s.dev r) :
    Gives .stopRampEnd s fun t => Completed s t r 0x0000 [] ∧ t.dev.scanState = stStopped ∧
      t.dev.reg Reg.SCN_MIR_DAC = 0x80008000#32 ∧ t.dev.scan.mirAmpEn = false ∧ t.dev.scan.phase = .off ∧
      Leaves [.scan, .turf] [Reg.SCN_STAT, Reg.SCN_MIR_DAC] s t := by
  let f : List Host.Cell → Dev → Dev := fun _ d => if d.scan.phase == .stopRamp then d.stopped.completeOp 0x0202 0x0000 else d
  have hend : f s.mem s.dev.begin_ = s.dev.begin_.stopped.finish r 0x0000 [] :=
    (if_pos (beq_iff_eq.mpr h)).trans (completeOp_one (d := s.dev.begin_.stopped) hr)
  have hworks : Works [.scan, .turf] [Reg.SCN_STAT, Reg.SCN_MIR_DAC] s.dev.begin_ (f s.mem s.dev.begin_) := by
    rw [hend]
    exact (alters_stopped _).works.trans (works_finish _ _ _ _)
  obtain ⟨hdone, ht⟩ := step_finish (f := f) (e := s.dev.begin_.stopped) (r := r) (status := 0x0000) (results := []) ha (hend ▸ .refl _)
    (hend ▸ .refl _) rfl
  have hscan : (s.onDev f).dev.scan = _ := ht.parts .scan
  exact ⟨_, rfl, hdone, (ht.fld F.SCN_STAT_STATE rfl rfl).trans (scanState_stopped _),
    (ht.reg Reg.SCN_MIR_DAC rfl rfl).trans (dac_stopped _), congrArg ScanSt.mirAmpEn hscan, congrArg ScanSt.phase hscan,
    hworks.stepLeaves (by decide)⟩

end

/-- Settles O10: each clause is the rule of its event in the phase of the mirror that it ends. -/
theorem scanMovesOn : Obligations.ScanMovesOn := by
  unfold Obligations.ScanMovesOn
  intro s
  refine ⟨gives_scanRampEnd, fun hd hl hs hh hp he => ?_, fun h hs => ?_, fun h hs => ?_, fun _ => gives_stopRampEnd⟩
  · exact gives_imp (gives_runInStart hd (runInReady_settled hd hl hs hh hp he)) fun _ ⟨⟨hphase, harm, hleft, hparked⟩, hleaves⟩ =>
      ⟨hphase, harm, hleft, hparked, hleaves⟩
  · exact gives_imp (gives_mirrorParked_rest h hs) fun _ => and_assoc.mp
  · exact gives_imp (gives_mirrorParked_centre h hs) fun _ => and_assoc.mp

end Sys2Proof.Machine
end

section
/-! SUPPORT. The waveform stream (R332, R336): what the tap writer does with its oldest record, and a step whose work writes to device
memory. -/

namespace Sys2Proof.Machine

/-- A step whose work writes bytes to a memory that is not halted. -/
theorem gives_write {i : Instr} {s : State} {f : List Host.Cell → Dev → Dev} {e : Dev} {b : Nat} {bs : List Byte} {parts : List Part}
    {regs : List Nat} {effect : State → Prop} (hx : exec i s = .next (s.onDev f)) (hf : f s.mem s.dev.begin_ = e)
    (ha : Alters parts regs (s.dev.begin_.memw b bs) e) (hn : Reg.EVT_RING_SIZE ∉ regs) (hm : Reg.MEM_STAT ∉ regs)
    (hh : s.dev.memHalted = false) (he : ∀ t, Settled s e t → effect t) :
    Gives i s fun t => effect t ∧ Writes b bs s t ∧ Keeps parts s t ∧ KeepsRegs regs s t := by
  subst hf
  have ht := onDev_settled s f
  have hsame : ∀ p : Part, p.same s.dev.begin_ (s.dev.begin_.memw b bs) := fun p => by cases p <;> rfl
  refine ⟨_, hx, he _ ht, ht.written b bs ha.outbox ha.base (ha.reg _ hn) ((memHalted_congr (ha.reg _ hm)).trans hh),
    fun p hp => ?_, fun a hr h1 h2 => (ht.reg a h1 h2).trans (ha.reg a hr)⟩
  exact same_trans (begin_same s.dev p) (same_trans (hsame p) (same_trans (ha.same p hp) (ht.parts p)))

/-- A sticky bit is set, whether or not it was (R11). -/
theorem bit_sticky_self (d : Dev) (a src : Nat) {n : Nat} (h : n < 32) : (d.sticky a n src).bit a n = true := by
  unfold Dev.sticky
  split
  next hset => exact hset
  next => exact Dev.bit_setBit_self d a n true h

theorem reg_sticky_ne (d : Dev) {a b : Nat} (n src : Nat) (h : b ≠ a) : (d.sticky a n src).reg b = d.reg b := by
  unfold Dev.sticky
  split
  · rfl
  · exact Dev.reg_setBit_ne d a n true b h

/-- A stream that takes items runs and is not halted. -/
theorem streamRuns_iff {d : Dev} {n : Nat} :
    d.streamRuns n = true ↔ d.flag (F.ING_S_STAT_RUN n) = true ∧ d.flag (F.ING_S_STAT_HALTED n) = false := by
  rw [Dev.streamRuns, Bool.and_eq_true, Bool.not_eq_true']

/-! ## The oldest record leaves -/

theorem alters_popWindow (d : Dev) (w : TapWin) : Alters [.taps] [] d (d.popWindow w) := (alters_taps d _).trans (alters_taps _ _)

theorem queue_popWindow {d : Dev} {w : TapWin} {rest : List TapWin} (h : d.taps.queue = w :: rest) (x : TapWin) :
    (d.popWindow x).taps.queue = rest := congrArg (List.drop 1) h

theorem alters_waveItem (d : Dev) : Alters [.out] [] d d.waveItem :=
  .ite (fun _ => (alters_out d _).raise _ _ _) fun _ => alters_out d _

theorem waveItem_frame (d : Dev) : d.waveItem.taps = d.taps ∧ ∀ a, d.waveItem.reg a = d.reg a :=
  ⟨(alters_waveItem d).same .taps (by decide), fun a => (alters_waveItem d).reg a List.not_mem_nil⟩

/-- The writer waits for room, and says so. -/
def Dev.stallWave (d : Dev) : Dev := (d.setFlag (F.ING_S_STAT_FULL 2) true).sticky Reg.ING_EVT 3 Ev.waveStall

/-- A record has its bytes in the ring, and WR passes it. -/
def Dev.passWave (d : Dev) (at_ : Nat) (w : TapWin) : Dev :=
  (((d.put (Reg.ING_S_WR 2) (BitVec.ofNat 32 (at_ + w.units))).setFlag (F.ING_S_STAT_FULL 2) false).popWindow w).waveItem

/-- Where the next record lies in device memory (R328, R336). -/
def Dev.waveAddr (d : Dev) : Nat := d.wide64 (Reg.ING_S_BASE_LO 2) + d.waveStart * 32 % (d.ringSize 2 * 128 * 32)

theorem alters_stallWave (d : Dev) : Alters [] [Reg.ING_S_STAT 2, Reg.ING_EVT] d d.stallWave :=
  ((Alters.refl d).setFlag (F.ING_S_STAT_FULL 2) true (by decide)).sticky Reg.ING_EVT 3 Ev.waveStall (by decide)

theorem alters_passWave (d : Dev) (at_ : Nat) (w : TapWin) :
    Alters [.taps, .out] [Reg.ING_S_WR 2, Reg.ING_S_STAT 2] d (d.passWave at_ w) :=
  ((((Alters.refl d).put (Reg.ING_S_WR 2) _ (by decide)).setFlag (F.ING_S_STAT_FULL 2) false (by decide)).part
    (alters_popWindow _ w) (by decide)).part (alters_waveItem _) (by decide)

theorem reg_passWave_wr (d : Dev) (at_ : Nat) (w : TapWin) :
    (d.passWave at_ w).reg (Reg.ING_S_WR 2) = BitVec.ofNat 32 (at_ + w.units) := by
  rw [Dev.passWave, (waveItem_frame _).2, (alters_popWindow _ w).reg _ List.not_mem_nil, Dev.reg_setFlag_ne _ _ _ _ (by decide),
    Dev.reg_put_self]

theorem queue_passWave {d : Dev} {w : TapWin} {rest : List TapWin} (h : d.taps.queue = w :: rest) (at_ : Nat) :
    (d.passWave at_ w).taps.queue = rest := by
  rw [Dev.passWave, (waveItem_frame _).1]
  exact queue_popWindow h w

/-! ## The writer's cases -/

section
variable {d : Dev} {w : TapWin} {rest : List TapWin} (hq : d.taps.queue = w :: rest)
include hq

theorem writeWave_stopped (h : d.flag (F.ING_S_STAT_RUN 2) = false) : d.writeWave = d.popWindow w := by
  simp only [Dev.writeWave, hq, h, Bool.not_false, if_true]

variable (hrun : d.streamRuns 2 = true) (hh : d.memHalted = false)
include hrun hh

/-- A stream that runs writes its record once the reference is fixed, or waits for room. -/
theorem writeWave_runs : d.writeWave = if d.headerOpen w then d else if d.waveFits w then
    (d.memw d.waveAddr (w.bytes w.headerOnly)).passWave d.waveStart w else d.stallWave := by
  obtain ⟨hr, hhalt⟩ := streamRuns_iff.mp hrun
  unfold Dev.writeWave
  simp only [hq, hr, hhalt, hh, Bool.not_true, Bool.false_eq_true, if_false, Bool.false_or]
  cases d.waveFits w <;> rfl

end

/-- Settles O35: each case of the tap writer, from what it does with its oldest record. -/
theorem waveRecordsAreWritten : Obligations.WaveRecordsAreWritten := by
  unfold Obligations.WaveRecordsAreWritten
  intro s w rest hq
  have hruns (hrun : s.dev.streamRuns 2 = true) (hh : s.dev.memHalted = false) :=
    writeWave_runs (d := s.dev.begin_) hq hrun hh
  refine ⟨fun hstop => ?_, fun hrun hh hopen => ?_, fun hrun hh hfixed => ⟨fun hfull => ?_, fun hroom => ?_⟩⟩
  · refine gives_step rfl (writeWave_stopped (d := s.dev.begin_) hq hstop) (alters_popWindow _ w) List.not_mem_nil fun t ht _ => ?_
    exact (congrArg TapsSt.queue (ht.parts .taps)).trans (queue_popWindow (d := s.dev.begin_) hq w)
  · exact gives_leaves (gives_step rfl ((hruns hrun hh).trans (if_pos hopen)) (.refl _) List.not_mem_nil fun _ _ _ => trivial)
  · have hstall := ((hruns hrun hh).trans (if_neg (ne_true_of_eq_false hfixed))).trans
      (if_neg (by rw [Dev.waveFits, decide_eq_true_iff]; exact Nat.not_le.mpr hfull))
    refine gives_imp (gives_step (effect := fun t => t.dev.flag (F.ING_S_STAT_FULL 2) = true ∧ t.dev.bit Reg.ING_EVT 3 = true) rfl hstall
      (alters_stallWave _) (by decide) fun t ht _ => ⟨?_, ?_⟩) fun _ => and_assoc.mp
    · rw [ht.flag _ rfl rfl]
      unfold Dev.flag Dev.fld Dev.stallWave
      rw [reg_sticky_ne _ _ _ (by decide)]
      exact Dev.flag_setFlag_self _ (F.ING_S_STAT_FULL 2) true (by decide) rfl
    · unfold Dev.bit
      rw [ht.reg _ rfl rfl]
      exact bit_sticky_self _ _ _ (by decide)
  · have hpass := ((hruns hrun hh).trans (if_neg (ne_true_of_eq_false hfixed))).trans (if_pos (decide_eq_true hroom))
    refine gives_imp (gives_write (effect := fun t => t.dev.taps.queue = rest ∧
      t.dev.reg (Reg.ING_S_WR 2) = BitVec.ofNat 32 (s.dev.waveStart + w.units)) rfl hpass (alters_passWave _ _ w) (by decide) (by decide) hh
      fun t ht => ⟨?_, ?_⟩) fun _ => and_assoc.mp
    · exact (congrArg TapsSt.queue (ht.parts .taps)).trans (queue_passWave (d := s.dev.begin_.memw _ _) hq _)
    · exact (ht.reg _ rfl rfl).trans (reg_passWave_wr _ _ w)

end Sys2Proof.Machine
end

section
/-! SUPPORT. Streams start and stop, and the host releases their items (R327, R328, R332). -/

namespace Sys2Proof.Machine

/-! ## The streams' registers -/

section
variable {s t : State} {e : Dev} (ht : Settled s e t)
include ht

/-- The registers of the streams after a step are as the work left them. -/
theorem Settled.outReg {a : Nat} (ha : 0x080000 ≤ a) : t.dev.reg a = e.reg a := ht.reg a (evtOwn_slice ha) (cmdqOwn_slice ha)

theorem Settled.outFld {f : Fld} (ha : 0x080000 ≤ f.addr) : t.dev.fld f = e.fld f := ht.fld f (evtOwn_slice ha) (cmdqOwn_slice ha)

theorem Settled.outFlag {f : Fld} (ha : 0x080000 ≤ f.addr) : t.dev.flag f = e.flag f := ht.flag f (evtOwn_slice ha) (cmdqOwn_slice ha)

end

section
variable {x y : Dev} {parts : List Part} {regs : List Nat} (h : Alters parts regs x y) {f : Fld}
include h

theorem Alters.fld (hf : f.addr ∉ regs) : y.fld f = x.fld f := by
  unfold Dev.fld
  rw [h.reg _ hf]

theorem Alters.flag (hf : f.addr ∉ regs) : y.flag f = x.flag f := by
  unfold Dev.flag
  rw [h.fld hf]

end

/-- The registers that starting and stopping stream `n` writes. -/
abbrev streamRegs (n : Nat) : List Nat := [Reg.ING_S_CTL n, Reg.ING_S_STAT n, Reg.ING_S_WR n, Reg.ING_S_RD n, Reg.ING_STAT]

theorem streamRegs_ge {n a : Nat} (ha : a ∈ streamRegs n) : 0x080000 ≤ a := by
  simp only [List.mem_cons, List.not_mem_nil, or_false, Reg.ING_S_CTL, Reg.ING_S_STAT, Reg.ING_S_WR, Reg.ING_S_RD, Reg.ING_STAT] at ha
  omega

theorem evtRingSize_not_streamReg (n : Nat) : Reg.EVT_RING_SIZE ∉ streamRegs n ++ [Reg.ING_S_STAT 0] := fun h => by
  rcases List.mem_append.mp h with h | h
  · exact absurd (streamRegs_ge h) (by decide)
  · exact absurd h (by decide)

theorem ctl_ne_stat (n m : Nat) : Reg.ING_S_CTL n ≠ Reg.ING_S_STAT m := by
  simp only [Reg.ING_S_CTL, Reg.ING_S_STAT]
  omega

theorem stat_ne_ingStat (n : Nat) : Reg.ING_S_STAT n ≠ Reg.ING_STAT := by
  simp only [Reg.ING_S_STAT, Reg.ING_STAT]
  omega

theorem ctl_ne_ingStat (n : Nat) : Reg.ING_S_CTL n ≠ Reg.ING_STAT := by
  simp only [Reg.ING_S_CTL, Reg.ING_STAT]
  omega

theorem rd_not_statusReg (n : Nat) : Reg.ING_S_RD n ∉ [Reg.ING_STAT, Reg.ING_S_STAT 0] := by
  simp [Reg.ING_S_RD, Reg.ING_STAT, Reg.ING_S_STAT]
  omega

theorem ctl_not_statusReg (n : Nat) : Reg.ING_S_CTL n ∉ [Reg.ING_STAT, Reg.ING_S_STAT 0] := by
  simp only [List.mem_cons, List.not_mem_nil, or_false, not_or]
  exact ⟨ctl_ne_ingStat n, ctl_ne_stat n 0⟩

theorem alters_outStatus (d : Dev) : Alters [] [Reg.ING_STAT, Reg.ING_S_STAT 0] d d.outStatus :=
  (((Alters.refl d).setFld F.ING_STAT_STAGE_FILL _ (by decide)).setFlag F.ING_STAT_STAGE_FULL _ (by decide)).setFlag
    (F.ING_S_STAT_FULL 0) _ (by decide)

/-- Showing the status leaves whether a stream runs. -/
theorem run_outStatus (d : Dev) (n : Nat) : d.outStatus.flag (F.ING_S_STAT_RUN n) = d.flag (F.ING_S_STAT_RUN n) := by
  unfold Dev.outStatus
  dsimp only
  rw [Dev.flag_setFlag_apart _ _ _ _ (by decide) (.inr (.inl (Nat.le_of_ble_eq_true rfl))),
    Dev.flag_setFlag_apart _ _ _ _ (by decide) (.inl (stat_ne_ingStat n)),
    Dev.flag_setFld_apart _ _ _ _ (by decide) (.inl (stat_ne_ingStat n))]

/-! ## A stream starts (R327) -/

/-- The ring of a stream is one that R327 allows. -/
def Dev.ringGood (d : Dev) (n : Nat) : Bool := ringSizeOk n (d.ringSize n) && ringBaseOk n (d.ringSize n) (d.wide64 (Reg.ING_S_BASE_LO n))

/-- EVERY takes its value from a write of `ING_S_CTL`. -/
def Dev.setEvery (d : Dev) (n : Nat) (v : Word) : Dev := d.setFld (F.ING_S_CTL_EVERY n) (bits v.toNat 16 16)

/-- A stream runs, and nothing is left of an earlier run. -/
def Dev.clearStream (d : Dev) (n : Nat) : Dev :=
  let x := ((d.put (Reg.ING_S_STAT n) 1#32).put (Reg.ING_S_WR n) 0#32).put (Reg.ING_S_RD n) 0#32
  let y := x.setFlag F.ING_STAT_HALT ((List.range 3).any fun t => x.flag (F.ING_S_STAT_HALTED t))
  if n = 2 then { y with out := { y.out with waveItems := 0 } } else y

section
variable (d : Dev) (n : Nat) (v : Word)

theorem alters_setEvery : Alters [] [Reg.ING_S_CTL n] d (d.setEvery n v) := (Alters.refl d).setFld _ _ (List.mem_singleton_self _)

theorem en_setEvery : (d.setEvery n v).flag (F.ING_S_CTL_EN n) = d.flag (F.ING_S_CTL_EN n) :=
  Dev.flag_setFld_apart d _ _ _ (Nat.le_of_ble_eq_true rfl) (.inr (.inl (Nat.le_of_ble_eq_true rfl)))

theorem every_setEvery : (d.setEvery n v).fld (F.ING_S_CTL_EVERY n) = bits v.toNat 16 16 :=
  (Dev.fld_setFld_self d _ _ (Nat.le_of_ble_eq_true rfl)).trans (Nat.mod_mod _ _)

theorem ringGood_setEvery : (d.setEvery n v).ringGood n = d.ringGood n := by
  have hsize : (d.setEvery n v).ringSize n = d.ringSize n :=
    congrArg BitVec.toNat (Dev.reg_setFld_ne d _ _ _ (by simp only [Reg.ING_S_SIZE, Reg.ING_S_CTL]; omega))
  have hbase : (d.setEvery n v).wide64 (Reg.ING_S_BASE_LO n) = d.wide64 (Reg.ING_S_BASE_LO n) := rfl
  rw [Dev.ringGood, hsize, hbase]
  rfl

theorem alters_clearStream : Alters [.out] [Reg.ING_S_STAT n, Reg.ING_S_WR n, Reg.ING_S_RD n, Reg.ING_STAT] d (d.clearStream n) := by
  have hregs (b : Bool) : Alters [.out] [Reg.ING_S_STAT n, Reg.ING_S_WR n, Reg.ING_S_RD n, Reg.ING_STAT] d
      ((((d.put (Reg.ING_S_STAT n) 1#32).put (Reg.ING_S_WR n) 0#32).put (Reg.ING_S_RD n) 0#32).setFlag F.ING_STAT_HALT b) :=
    ((((Alters.refl d).put _ _ (by simp)).put _ _ (by simp)).put _ _ (by simp)).setFlag _ _ (by simp)
  exact .ite (fun _ => (hregs _).part (alters_out _ _) (List.mem_singleton_self _)) fun _ => hregs _

theorem ctl_not_cleared : Reg.ING_S_CTL n ∉ [Reg.ING_S_STAT n, Reg.ING_S_WR n, Reg.ING_S_RD n, Reg.ING_STAT] := by
  simp [Reg.ING_S_CTL, Reg.ING_S_STAT, Reg.ING_S_WR, Reg.ING_S_RD, Reg.ING_STAT]
  omega

theorem reg_clearStream : (d.clearStream n).reg (Reg.ING_S_STAT n) = 1#32 ∧ (d.clearStream n).reg (Reg.ING_S_WR n) = 0#32 ∧
    (d.clearStream n).reg (Reg.ING_S_RD n) = 0#32 := by
  have hstep (a : Nat) (ha : a ≠ Reg.ING_STAT) : (d.clearStream n).reg a =
      (((d.put (Reg.ING_S_STAT n) 1#32).put (Reg.ING_S_WR n) 0#32).put (Reg.ING_S_RD n) 0#32).reg a := by
    unfold Dev.clearStream
    dsimp only
    split <;> exact Dev.reg_setFlag_ne _ _ _ _ ha
  refine ⟨?_, ?_, ?_⟩
  all_goals
    rw [hstep _ (by simp only [Reg.ING_S_STAT, Reg.ING_S_WR, Reg.ING_S_RD, Reg.ING_STAT]; omega)]
    simp [Dev.reg_put, Reg.ING_S_STAT, Reg.ING_S_WR, Reg.ING_S_RD]

end

theorem enableStream_good {d : Dev} {n : Nat} (h : d.ringGood n = true) :
    d.enableStream n = (d.setFlag (F.ING_S_CTL_EN n) true).clearStream n := if_pos h

theorem enableStream_bad {d : Dev} {n : Nat} (h : d.ringGood n = false) :
    d.enableStream n = d.setFlag (F.ING_S_STAT_CFG_ERR n) true := if_neg (ne_true_of_eq_false h)

theorem writeStreamCtl_starts {d : Dev} {n : Nat} (v : Word) (h : d.flag (F.ING_S_CTL_EN n) = false) :
    d.writeStreamCtl n (v ||| 1#32) = (d.setEvery n (v ||| 1#32)).enableStream n := by
  simp only [Dev.writeStreamCtl, bitAt_or_one, h]
  rfl

section
variable {s : State} {n : Fin 3} (v : Word) (hb : s.dev.barOpen = true) (hen : s.dev.flag (F.ING_S_CTL_EN n.val) = false)
include hb hen

theorem gives_streamEnable_good (hgood : s.dev.ringGood n.val = true) : Gives (.streamEnable n v) s fun t =>
    (t.dev.flag (F.ING_S_CTL_EN n.val) = true ∧ t.dev.fld (F.ING_S_CTL_EVERY n.val) = bits v.toNat 16 16 ∧
      t.dev.reg (Reg.ING_S_STAT n.val) = 1#32 ∧ t.dev.reg (Reg.ING_S_WR n.val) = 0#32 ∧ t.dev.reg (Reg.ING_S_RD n.val) = 0#32) ∧
    Leaves [.out] (streamRegs n.val) s t := by
  have hstart := (writeStreamCtl_starts (d := s.dev.begin_) v hen).trans
    (enableStream_good ((ringGood_setEvery s.dev.begin_ n.val _).trans hgood))
  have hclear := alters_clearStream ((s.dev.begin_.setEvery n.val (v ||| 1#32)).setFlag (F.ING_S_CTL_EN n.val) true) n.val
  have halters : Alters [.out] (streamRegs n.val) s.dev.begin_ _ :=
    (((alters_setEvery s.dev.begin_ n.val (v ||| 1#32)).mono (fun _ hp => absurd hp List.not_mem_nil) (by simp)).setFlag
      (F.ING_S_CTL_EN n.val) true (by simp)).trans (hclear.mono (fun _ => id) fun _ ha => List.mem_cons_of_mem _ ha)
  refine gives_bar rfl hb hstart halters (fun h => evtRingSize_not_streamReg n.val (List.mem_append_left _ h)) fun t ht _ => ?_
  obtain ⟨hstat, hwr, hrd⟩ := reg_clearStream ((s.dev.begin_.setEvery n.val (v ||| 1#32)).setFlag (F.ING_S_CTL_EN n.val) true) n.val
  refine ⟨?_, ?_, ?_, ?_, ?_⟩
  · rw [ht.outFlag (Nat.le_add_right_of_le (by decide)), hclear.flag (ctl_not_cleared n.val)]
    exact Dev.flag_setFlag_self _ _ true (Nat.le_of_ble_eq_true rfl) rfl
  · rw [ht.outFld (Nat.le_add_right_of_le (by decide)), hclear.fld (ctl_not_cleared n.val),
      Dev.fld_setFlag_apart _ _ _ _ (Nat.le_of_ble_eq_true rfl) (.inr (.inr (Nat.le_of_ble_eq_true rfl))), every_setEvery]
    exact field_or_one v (by decide) 16
  · rw [ht.outReg (Nat.le_add_right_of_le (by decide)), hstat]
  · rw [ht.outReg (Nat.le_add_right_of_le (by decide)), hwr]
  · rw [ht.outReg (Nat.le_add_right_of_le (by decide)), hrd]

theorem gives_streamEnable_bad (hbad : s.dev.ringGood n.val = false) : Gives (.streamEnable n v) s fun t =>
    (t.dev.flag (F.ING_S_CTL_EN n.val) = false ∧ t.dev.flag (F.ING_S_STAT_CFG_ERR n.val) = true) ∧
    Leaves [] (streamRegs n.val) s t := by
  have hrefuse := (writeStreamCtl_starts (d := s.dev.begin_) v hen).trans
    (enableStream_bad ((ringGood_setEvery s.dev.begin_ n.val _).trans hbad))
  have halters : Alters [] (streamRegs n.val) s.dev.begin_ _ :=
    ((alters_setEvery s.dev.begin_ n.val (v ||| 1#32)).mono (fun _ => id) (by simp)).setFlag (F.ING_S_STAT_CFG_ERR n.val) true (by simp)
  refine gives_bar rfl hb hrefuse halters (fun h => evtRingSize_not_streamReg n.val (List.mem_append_left _ h)) fun t ht _ => ⟨?_, ?_⟩
  · rw [ht.outFlag (Nat.le_add_right_of_le (by decide)),
      Dev.flag_setFlag_apart _ _ _ _ (Nat.le_of_ble_eq_true rfl) (.inl (ctl_ne_stat n.val n.val)), en_setEvery]
    exact hen
  · rw [ht.outFlag (Nat.le_add_right_of_le (by decide))]
    exact Dev.flag_setFlag_self _ _ true (Nat.le_of_ble_eq_true rfl) rfl

end

/-! ## A stream stops (R332) -/

theorem bitAt_and_even (v : Word) : bitAt (v &&& 0xFFFFFFFE#32).toNat 0 = false := by
  unfold bitAt
  rw [BitVec.toNat_and, pow_zero, Nat.div_one, ← pow_one 2, Nat.and_mod_two_pow, show (0xFFFFFFFE#32).toNat % 2 ^ 1 = 0 from rfl,
    Nat.and_zero]
  rfl

/-- Other closed Ingots wait. -/
def Dev.withClosed (d : Dev) (is : List Ingot) : Dev := { d with out := { d.out with closed := is } }

/-- The Ingots of stream 0 go to the slots that are free, and the rest is dropped. -/
def Dev.emptyIngots (d : Dev) : Dev :=
  let x := d.closeIngot 6
  let y := x.placeAll x.out.closed.length
  (y.withClosed []).dropRecords (y.out.closed.foldl (fun a i => a + i.records.length) 0)

/-- Stream 1 discards what it has queued, and stream 2 has no queue of its own. -/
def Dev.dropQueued (d : Dev) (n : Nat) : Dev := if n = 1 then { d with out := { d.out with hist := [] } } else d

/-- A stream no longer runs. -/
def Dev.stopRunning (d : Dev) (n : Nat) : Dev := (d.setFlag (F.ING_S_STAT_RUN n) false).outStatus

theorem disableStream_queued {d : Dev} {n : Nat} (hn : n ≠ 0) :
    d.disableStream n = ((d.setFlag (F.ING_S_CTL_EN n) false).dropQueued n).stopRunning n := by
  unfold Dev.disableStream
  simp only [if_neg hn]
  rfl

theorem disableStream_ingots (d : Dev) :
    d.disableStream 0 = (d.setFlag (F.ING_S_CTL_EN 0) false).emptyIngots.stopRunning 0 := rfl

theorem writeStreamCtl_stops {d : Dev} {n : Nat} (v : Word) (h : d.flag (F.ING_S_CTL_EN n) = true) :
    d.writeStreamCtl n (v &&& 0xFFFFFFFE#32) = (d.setEvery n (v &&& 0xFFFFFFFE#32)).disableStream n := by
  simp only [Dev.writeStreamCtl, bitAt_and_even, h]
  rfl

section
variable (d : Dev) (n : Nat)

theorem alters_dropQueued : Alters [.out] [] d (d.dropQueued n) := .ite (fun _ => alters_out d _) fun _ => .refl d

theorem alters_stopRunning : Alters [] [Reg.ING_S_STAT n, Reg.ING_STAT, Reg.ING_S_STAT 0] d (d.stopRunning n) :=
  ((Alters.refl d).setFlag (F.ING_S_STAT_RUN n) false List.mem_cons_self).trans
    ((alters_outStatus _).mono (fun _ => id) fun _ ha => List.mem_cons_of_mem _ ha)

theorem run_stopRunning : (d.stopRunning n).flag (F.ING_S_STAT_RUN n) = false := by
  rw [Dev.stopRunning, run_outStatus]
  exact Dev.flag_setFlag_self d _ false (Nat.le_of_ble_eq_true rfl) rfl

theorem ctl_not_stopped : Reg.ING_S_CTL n ∉ [Reg.ING_S_STAT n, Reg.ING_STAT, Reg.ING_S_STAT 0] := by
  rw [List.mem_cons, not_or]
  exact ⟨ctl_ne_stat n n, ctl_not_statusReg n⟩

end

section
variable {s : State} {n : Fin 3} (v : Word) (hb : s.dev.barOpen = true) (hen : s.dev.flag (F.ING_S_CTL_EN n.val) = true)
include hb hen

theorem gives_streamDisable_queued (hn : n.val ≠ 0) : Gives (.streamDisable n v) s fun t =>
    (t.dev.flag (F.ING_S_CTL_EN n.val) = false ∧ t.dev.flag (F.ING_S_STAT_RUN n.val) = false ∧ (n.val = 1 → t.dev.out.hist = [])) ∧
    Leaves [.out] (streamRegs n.val ++ [Reg.ING_S_STAT 0]) s t := by
  let x := (s.dev.begin_.setEvery n.val (v &&& 0xFFFFFFFE#32)).setFlag (F.ING_S_CTL_EN n.val) false
  have hstop : s.dev.begin_.writeStreamCtl n.val (v &&& 0xFFFFFFFE#32) = (x.dropQueued n.val).stopRunning n.val :=
    (writeStreamCtl_stops (d := s.dev.begin_) v hen).trans (disableStream_queued hn)
  have hoff : Alters [.out] (streamRegs n.val ++ [Reg.ING_S_STAT 0]) s.dev.begin_ x :=
    ((alters_setEvery s.dev.begin_ n.val _).mono (fun _ hp => absurd hp List.not_mem_nil) (by simp)).setFlag _ false (by simp)
  have hdrop := alters_dropQueued x n.val
  have hrest := alters_stopRunning (x.dropQueued n.val) n.val
  refine gives_bar rfl hb hstop ((hoff.trans (hdrop.mono (fun _ => id) (by simp))).trans
    (hrest.mono (fun _ hp => absurd hp List.not_mem_nil) (by simp))) (evtRingSize_not_streamReg n.val)
    fun t ht _ => ⟨?_, ?_, fun h1 => ?_⟩
  · rw [ht.outFlag (Nat.le_add_right_of_le (by decide)), hrest.flag (ctl_not_stopped n.val), hdrop.flag List.not_mem_nil]
    exact Dev.flag_setFlag_self _ _ false (Nat.le_of_ble_eq_true rfl) rfl
  · rw [ht.outFlag (Nat.le_add_right_of_le (by decide)), run_stopRunning]
  · have hout : t.dev.out = (x.dropQueued n.val).out := ht.parts .out
    rw [hout, Dev.dropQueued, if_pos h1]

end

/-! ## The Ingots of stream 0 as it stops (R329, R332) -/

theorem headIngot_headed {d : Dev} (h : ∀ i, d.out.openIngot = some i → i.headed = true) : d.headIngot = d := by
  unfold Dev.headIngot
  split
  next => rfl
  next i hi => rw [h i hi, Bool.true_or, Bool.true_or]; rfl

/-- The header of the open Ingot goes to device memory, and alters no other part of the state. -/
theorem headIngot_frame (d : Dev) : (∀ a, d.headIngot.reg a = d.reg a) ∧ ∀ p : Part, p ≠ .out → p.same d d.headIngot := by
  unfold Dev.headIngot
  split
  next => exact ⟨fun _ => rfl, fun p _ => same_refl p d⟩
  next i _ =>
    dsimp only
    split
    · exact ⟨fun _ => rfl, fun p _ => same_refl p d⟩
    · refine ⟨fun _ => rfl, fun p hp => ?_⟩
      cases p with
      | out => exact absurd rfl hp
      | _ => rfl

theorem alters_closeIngot (d : Dev) (code : Nat) : Alters [.out] [Reg.ING_STAT, Reg.ING_S_STAT 0] d (d.closeIngot code) := by
  unfold Dev.closeIngot
  split
  · exact .refl d
  · exact ((Alters.refl d).part (alters_out d _) (List.mem_singleton_self _)).trans
      ((alters_outStatus _).mono (fun _ hp => absurd hp List.not_mem_nil) fun _ => id)

theorem openIngot_closeIngot (d : Dev) (code : Nat) : (d.closeIngot code).out.openIngot = none := by
  unfold Dev.closeIngot
  split
  next h => exact h
  next => rfl

/-- Closed Ingots leave stream 0: none opens, and the stream's control stands. -/
structure IngotsLeave (x y : Dev) : Prop where
  noneOpen : x.out.openIngot = none → y.out.openIngot = none
  ctl : y.reg (Reg.ING_S_CTL 0) = x.reg (Reg.ING_S_CTL 0)

theorem IngotsLeave.refl (x : Dev) : IngotsLeave x x := ⟨id, rfl⟩

theorem IngotsLeave.trans {x y z : Dev} (h : IngotsLeave x y) (g : IngotsLeave y z) : IngotsLeave x z :=
  ⟨fun hx => g.noneOpen (h.noneOpen hx), g.ctl.trans h.ctl⟩

theorem ingotsLeave_outStatus (d : Dev) : IngotsLeave d d.outStatus := ⟨id, (alters_outStatus d).reg _ (ctl_not_statusReg 0)⟩

theorem ingotsLeave_headIngot (d : Dev) : IngotsLeave d d.headIngot := by
  refine ⟨fun h => ?_, (headIngot_frame d).1 _⟩
  rw [headIngot_headed fun i hi => absurd (h.symm.trans hi) nofun]
  exact h

/-- The slot that WR names holds an Ingot, WR passes it, and its records are counted. -/
def Dev.fillSlot (d : Dev) (i : Ingot) : Dev :=
  ((d.memw (d.slotAddr 0) (ingotBytes i)).put (Reg.ING_S_WR 0) (d.reg (Reg.ING_S_WR 0) + 1)).bumpBy C.ING_REC i.records.length

/-- The oldest closed Ingot stands in its slot, and the next to close has its header where a slot is free. -/
def Dev.placed (d : Dev) (i : Ingot) (rest : List Ingot) : Dev := ((d.fillSlot i).withClosed rest).outStatus.headIngot

/-- What placing can do: nothing, or one Ingot leaves, with its completion event where that is due. -/
theorem placeIngot_cases (d : Dev) : d.placeIngot = d ∨
    ∃ i rest, d.placeIngot = d.placed i rest ∨ d.placeIngot = (d.placed i rest).raise Ev.ingDone := by
  unfold Dev.placeIngot
  split
  next => exact .inl rfl
  next i rest _ =>
    dsimp only
    split
    · refine .inr ⟨i, rest, ?_⟩
      split
      · exact .inr rfl
      · exact .inl rfl
    · exact .inl rfl

theorem ingotsLeave_withClosed (d : Dev) (is : List Ingot) : IngotsLeave d (d.withClosed is) := ⟨id, rfl⟩

theorem ingotsLeave_fillSlot (d : Dev) (i : Ingot) : IngotsLeave d (d.fillSlot i) := by
  unfold Dev.fillSlot
  refine ⟨fun h => ?_, ?_⟩
  · rw [Dev.bumpBy_out]
    exact h
  · rw [Dev.reg_bumpBy_ne _ _ _ _ (by decide) (by decide), Dev.reg_put_ne _ _ _ _ (by decide)]
    rfl

theorem ingotsLeave_placed (d : Dev) (i : Ingot) (rest : List Ingot) : IngotsLeave d (d.placed i rest) :=
  (ingotsLeave_fillSlot d i).trans <| (ingotsLeave_withClosed _ rest).trans <| (ingotsLeave_outStatus _).trans (ingotsLeave_headIngot _)

theorem ingotsLeave_placeIngot (d : Dev) : IngotsLeave d d.placeIngot := by
  rcases placeIngot_cases d with h | ⟨i, rest, h | h⟩ <;> rw [h]
  · exact .refl d
  · exact ingotsLeave_placed d i rest
  · exact (ingotsLeave_placed d i rest).trans ⟨id, rfl⟩

theorem ingotsLeave_placeAll (k : Nat) (d : Dev) : IngotsLeave d (d.placeAll k) := by
  induction k generalizing d with
  | zero => exact .refl d
  | succ k ih => exact (ingotsLeave_placeIngot d).trans (ih d.placeIngot)

theorem ingotsLeave_dropRecords (d : Dev) (k : Nat) : IngotsLeave d (d.dropRecords k) := by
  unfold Dev.dropRecords
  split
  · exact .refl d
  · dsimp only
    have hcount : IngotsLeave d (d.bumpBy C.ING_DROP_FULL k) :=
      ⟨fun h => by rw [Dev.bumpBy_out]; exact h, Dev.reg_bumpBy_ne _ _ _ _ (by decide) (by decide)⟩
    have hsay (x : Dev) : IngotsLeave x (x.sticky Reg.ING_EVT 0 Ev.ingFull) :=
      ⟨fun h => by rw [Dev.sticky_out]; exact h, reg_sticky_ne x _ _ (by decide)⟩
    refine hcount.trans (.trans ?_ (hsay _))
    split
    next i hi => exact ⟨fun h => absurd (h.symm.trans hi) nofun, rfl⟩
    next => exact ⟨id, rfl⟩

theorem closed_dropRecords (d : Dev) (k : Nat) : (d.dropRecords k).out.closed = d.out.closed := by
  unfold Dev.dropRecords
  split
  · rfl
  · dsimp only
    have hcount : (d.bumpBy C.ING_DROP_FULL k).out.closed = d.out.closed := congrArg OutSt.closed (Dev.bumpBy_out d _ k)
    rw [Dev.sticky_out]
    split <;> exact hcount

/-- Stream 0 is empty once its Ingots have left, and its control stands. -/
theorem emptyIngots_spec (d : Dev) : d.emptyIngots.out.openIngot = none ∧ d.emptyIngots.out.closed = [] ∧
    d.emptyIngots.reg (Reg.ING_S_CTL 0) = d.reg (Reg.ING_S_CTL 0) := by
  have hplace := ingotsLeave_placeAll (d.closeIngot 6).out.closed.length (d.closeIngot 6)
  have hall : IngotsLeave (d.closeIngot 6) d.emptyIngots :=
    hplace.trans ((ingotsLeave_withClosed _ []).trans (ingotsLeave_dropRecords _ _))
  exact ⟨hall.noneOpen (openIngot_closeIngot d 6), closed_dropRecords _ _,
    hall.ctl.trans ((alters_closeIngot d 6).reg _ (ctl_not_statusReg 0))⟩

theorem gives_streamDisable_ingots {s : State} {n : Fin 3} (v : Word) (hb : s.dev.barOpen = true)
    (hen : s.dev.flag (F.ING_S_CTL_EN n.val) = true) (hn : n.val = 0) : Gives (.streamDisable n v) s fun t =>
    t.dev.flag (F.ING_S_CTL_EN n.val) = false ∧ t.dev.flag (F.ING_S_STAT_RUN n.val) = false ∧ t.dev.out.openIngot = none ∧
    t.dev.out.closed = [] := by
  obtain rfl : n = 0 := Fin.ext hn
  let x := (s.dev.begin_.setEvery 0 (v &&& 0xFFFFFFFE#32)).setFlag (F.ING_S_CTL_EN 0) false
  have hstop : s.dev.begin_.writeStreamCtl 0 (v &&& 0xFFFFFFFE#32) = x.emptyIngots.stopRunning 0 :=
    (writeStreamCtl_stops (d := s.dev.begin_) v hen).trans (disableStream_ingots _)
  obtain ⟨hopen, hclosed, hctl⟩ := emptyIngots_spec x
  refine gives_imp (settled_bar rfl hb hstop) fun t ht => ?_
  have hout : t.dev.out = x.emptyIngots.out := ht.parts .out
  refine ⟨?_, ?_, hout ▸ hopen, hout ▸ hclosed⟩
  · rw [ht.outFlag (by decide), (alters_stopRunning x.emptyIngots 0).flag (ctl_not_stopped 0)]
    unfold Dev.flag Dev.fld
    rw [show (F.ING_S_CTL_EN (0 : Fin 3).val).addr = Reg.ING_S_CTL 0 from rfl, hctl]
    exact Dev.flag_setFlag_self _ (F.ING_S_CTL_EN 0) false (by decide) rfl
  · rw [ht.outFlag (by decide)]
    exact run_stopRunning _ 0

/-! ## The host releases items (R328) -/

section
variable {s : State} {n : Fin 3} {v : Word} (hb : s.dev.barOpen = true)
include hb

theorem gives_ringRdWrite_ok (h : serialAhead (s.dev.reg (Reg.ING_S_RD n.val)).toNat v.toNat ≤ s.dev.ringUsed n.val) :
    Gives (.ringRdWrite n v) s fun t => t.dev.reg (Reg.ING_S_RD n.val) = v ∧ Keeps [.out] s t ∧
      KeepsRegs [Reg.ING_S_RD n.val, Reg.ING_STAT, Reg.ING_S_STAT 0] s t ∧
      ((∀ i, s.dev.out.openIngot = some i → i.headed = true) →
        Leaves [] [Reg.ING_S_RD n.val, Reg.ING_STAT, Reg.ING_S_STAT 0] s t) := by
  let x := (s.dev.begin_.put (Reg.ING_S_RD n.val) v).outStatus
  have hrd : s.dev.begin_.writeRingRd n.val v = x.headIngot := if_pos h
  have hx : Alters [] [Reg.ING_S_RD n.val, Reg.ING_STAT, Reg.ING_S_STAT 0] s.dev.begin_ x :=
    ((Alters.refl s.dev.begin_).put (Reg.ING_S_RD n.val) v List.mem_cons_self).trans
      ((alters_outStatus _).mono (fun _ => id) fun _ ha => List.mem_cons_of_mem _ ha)
  obtain ⟨hreg, hsame⟩ := headIngot_frame x
  refine gives_imp (settled_bar rfl hb hrd) fun t ht => ⟨?_, fun p hp => ?_, fun a ha h1 h2 => ?_, fun hheaded => ?_⟩
  · rw [ht.outReg (Nat.le_add_right_of_le (by decide)), hreg, (alters_outStatus _).reg _ (rd_not_statusReg n.val), Dev.reg_put_self]
  · exact same_trans (begin_same s.dev p) (same_trans (hx.same p List.not_mem_nil)
      (same_trans (hsame p fun he => hp (he ▸ List.mem_singleton_self _)) (ht.parts p)))
  · exact (ht.reg a h1 h2).trans ((hreg a).trans (hx.reg a ha))
  · rw [headIngot_headed (d := x) hheaded] at ht
    refine hx.leaves (begin_same s.dev) (fun _ => rfl) rfl rfl (fun he => ?_) ht
    rcases List.mem_cons.mp he with he | he
    · exact absurd (he ▸ Nat.le_add_right_of_le (by decide) : 0x080000 ≤ Reg.EVT_RING_SIZE) (by decide)
    · exact absurd he (by decide)

theorem gives_ringRdWrite_bad (h : s.dev.ringUsed n.val < serialAhead (s.dev.reg (Reg.ING_S_RD n.val)).toNat v.toNat) :
    Gives (.ringRdWrite n v) s fun t => t.dev.flag (F.ING_S_STAT_RD_ERR n.val) = true ∧ Leaves [] [Reg.ING_S_STAT n.val] s t := by
  have hrefuse : s.dev.begin_.writeRingRd n.val v = s.dev.begin_.setFlag (F.ING_S_STAT_RD_ERR n.val) true := if_neg (Nat.not_le.mpr h)
  refine gives_bar rfl hb hrefuse ((Alters.refl _).setFlag _ true (List.mem_singleton_self _)) (fun he => ?_) fun t ht _ => ?_
  · exact evtRingSize_not_streamReg n.val (by rw [List.mem_singleton.mp he]; simp)
  · rw [ht.outFlag (Nat.le_add_right_of_le (by decide))]
    exact Dev.flag_setFlag_self _ _ true (Nat.le_of_ble_eq_true rfl) rfl

end

/-- Settles O38: each clause is the rule of its write in its case. -/
theorem streamsStartAndStop : Obligations.StreamsStartAndStop := by
  unfold Obligations.StreamsStartAndStop
  intro s n v hb
  refine ⟨fun hen hgood => ?_, fun hen hbad => ?_, fun hen hn => ?_, fun hen hn => gives_streamDisable_ingots v hb hen hn,
    fun h => gives_ringRdWrite_ok hb h, fun h => gives_ringRdWrite_bad hb h⟩
  · exact gives_imp (gives_streamEnable_good v hb hen hgood) fun _ ⟨⟨hon, hevery, hstat, hwr, hrd⟩, hl⟩ =>
      ⟨hon, hevery, hstat, hwr, hrd, hl⟩
  · exact gives_imp (gives_streamEnable_bad v hb hen hbad) fun _ => and_assoc.mp
  · exact gives_imp (gives_streamDisable_queued v hb hen hn) fun _ ⟨⟨hoff, hrun, hhist⟩, hl⟩ => ⟨hoff, hrun, hhist, hl⟩

end Sys2Proof.Machine
end

section
/-! SUPPORT. An Ingot that leaves while device memory is halted (R329, R333, R517). A start sets ING_S_STAT to 1 whatever MEM_STAT says
(R327), so a stream may run without being halted while the groups accept nothing. -/

namespace Sys2Proof.Machine

/-- An Ingot of one record that waits for a slot; the first byte of its header, that of SEQ, is 1. -/
def waitingIngot : Ingot :=
  { seq := 1, frame := 0, time := 0, overlay := 0, damper := 0, domain := 0, dir := 0, ysel := 0, timeValid := true, holdover := false,
    opened := 0, posFirst := 0, posLast := 0, records := [[1#32, 2#32, 3#32, 4#32]] }

/-- Stream 0 running on a ring of 16 slots from address 0, slot 1 the next, with both groups of device memory halted. -/
def placesWhileHalted : Dev :=
  let d := (State.reset.dev.setFlag F.MEM_STAT_HALT_A true).setFlag F.MEM_STAT_HALT_B true
  let x := (((d.put (Reg.ING_S_SIZE 0) 16#32).put (Reg.ING_S_STAT 0) 1#32).put (Reg.ING_S_WR 0) 1#32).put (Reg.ING_S_RD 0) 1#32
  { x with out := { x.out with closed := [waitingIngot] } }

/-- Slot 1 starts at 65,600, outside the event ring. -/
theorem slot_placesWhileHalted : placesWhileHalted.slotAddr 0 = 65600 ∧ ¬InRing placesWhileHalted 65600 := by
  unfold InRing
  decide +kernel

/-- The slot keeps what it held, and WR passes it all the same. -/
theorem placed_placesWhileHalted : ∃ t, exec .ingotPlace { State.reset with dev := placesWhileHalted } = .next t ∧
    memByte t.mem 65600 = 0#8 ∧ t.dev.reg (Reg.ING_S_WR 0) = 2#32 :=
  ⟨_, rfl, by decide +kernel, by decide +kernel⟩

/-- Refutes O39: an Ingot placed while device memory is halted does not stand in its slot, which the clause of a closed Ingot says without
the premise that its clause of histogram records has. -/
theorem not_ingotsAndHistogramsLeave : ¬ Obligations.IngotsAndHistogramsLeave := by
  unfold Obligations.IngotsAndHistogramsLeave
  intro h
  obtain ⟨-, hplace, -⟩ := h { State.reset with dev := placesWhileHalted }
  obtain ⟨t, hx, -, -, -, hwrites, -⟩ := hplace waitingIngot [] rfl (by decide +kernel) (by decide +kernel) fun _ _ ho => nomatch ho
  obtain ⟨u, hu, hkept, -⟩ := placed_placesWhileHalted
  have htu : t = u := Host.Outcome.next.inj (hx.symm.trans hu)
  obtain ⟨haddr, hring⟩ := slot_placesWhileHalted
  have hbytes : 0 < (ingotBytes waitingIngot).length ∧ (ingotBytes waitingIngot).getD 0 0#8 = 1#8 := by decide +kernel
  have hbyte := hwrites 65600 hring
  rw [haddr, if_pos ⟨Nat.le_refl _, Nat.lt_add_of_pos_right hbytes.1⟩, Nat.sub_self, hbytes.2, htu, hkept] at hbyte
  exact absurd hbyte (by decide)

end Sys2Proof.Machine
end

section
/-! SUPPORT. Sparse tables as maps of present values: what is found after keys are removed, and after a value is kept or taken away. -/

namespace Sys2Proof.Machine

section
variable {β : Type}

theorem slook_filter (p : Nat → Bool) (k : Nat) (m : Sparse β) :
    slook k (m.filter fun e => p e.1) = if p k then slook k m else none := by
  induction m with
  | nil => exact (ite_self none).symm
  | cons e m ih =>
    obtain ⟨j, v⟩ := e
    by_cases hj : j = k
    · subst hj
      cases hp : p j <;> simp [slook, hp, ih]
    · cases hp : p j <;> simp [slook, hp, hj, ih]

theorem slook_sdel (k j : Nat) (m : Sparse β) : slook j (sdel k m) = if j = k then none else slook j m := by
  rw [sdel, slook_filter fun n => n != k]
  by_cases h : j = k <;> simp [h]

theorem slook_sclear (p : Nat → Bool) (k : Nat) (m : Sparse β) : slook k (sclear p m) = if p k then none else slook k m := by
  rw [sclear, slook_filter fun n => !p n]
  cases p k <;> rfl

theorem slook_sopt (k j : Nat) (v : Option β) (m : Sparse β) : slook j (sopt k v m) = if j = k then v else slook j m := by
  cases v with
  | none => exact slook_sdel k j m
  | some x => exact slook_sput k j x m

end

end Sys2Proof.Machine
end

section
/-! SUPPORT. A step whose effect names the messages that it sends: the link's state after it is all as its work left it, the messages
of the step with it. -/

namespace Sys2Proof.Machine

variable {i : Instr} {s : State} {e : Dev} {parts : List Part} {regs : List Nat} {effect : State → Prop}

/-- An event on the link. -/
theorem gives_link {f : List Host.Cell → Dev → Dev} (hx : exec i s = .next (s.onDev f)) (hf : f s.mem s.dev.begin_ = e)
    (ha : Alters parts regs s.dev.begin_ e) (hn : Reg.EVT_RING_SIZE ∉ regs)
    (he : ∀ t, Settled s e t → t.dev.peer = e.peer → effect t) : Gives i s fun t => effect t ∧ Leaves parts regs s t := by
  subst hf
  exact ⟨_, hx, he _ (onDev_settled s f) (onDev_peer s f), ha.stepLeaves hn⟩

/-- A command on the link that acts. -/
theorem acts_link {c : Cmd} {op : Nat} {res : List Byte} {body : Body} (g : Dev → Dev)
    (hx : exec i s = .next (s.onDev fun mem d => runCmd op c body mem d))
    (hb : ∀ p m k, body (c.packet op) s.mem (withQueues s p m k) = .ok (g (withQueues s p m k)) res)
    (ha : ∀ p m k, Alters parts regs (withQueues s p m k) (g (withQueues s p m k))) (hn : Reg.EVT_RING_SIZE ∉ regs)
    (he : ∀ p m k t, t.dev.peer = (g (withQueues s p m k)).peer → effect t) : Acts i c op s res parts regs effect := by
  intro h
  obtain ⟨p, m, k, hy⟩ := atStart_eq s c op
  have hbody : body (c.packet op) s.mem (atStart s c op) = .ok (g (withQueues s p m k)) res := by rw [hy]; exact hb p m k
  have hcmd : (g (withQueues s p m k)).cmd = (atStart s c op).cmd := by rw [hy]; exact (ha p m k).cmd
  obtain ⟨hreply, ht⟩ := command_ok (body := body) h hbody hcmd
  have hframe := (command_done h hbody (grows_same fun q => by unfold Dev.pair; rw [hcmd])).1
  refine ⟨_, hx, hreply, he p m k _ ?_, (ha p m k).leaves (fun q => by cases q <;> rfl) (fun _ => rfl) rfl rfl hn ht⟩
  obtain ⟨_, _, _, _, _, _, hrest⟩ := hframe.rest
  rw [onDev_peer, hrest]

theorem Settled.laneState {t : State} (h : Settled s e t) (l : Nat) : t.dev.laneState l = e.laneState l :=
  h.fld (F.PEER_LANE_STAT_STATE l) (evtOwn_laneStat l) (cmdqOwn_laneStat l)

theorem Settled.farLane {t : State} (h : Settled s e t) (l : Nat) : t.dev.farLane l = e.farLane l :=
  h.fld (F.PEER_LANE_STAT_REMOTE_LANE l) (evtOwn_laneStat l) (cmdqOwn_laneStat l)

end Sys2Proof.Machine
end

section
/-! SUPPORT. Showing the domain (R359, R360): beyond the registers it moves only the partners at the transmit halves, so that it
reaches neither a grant nor an Ingot. -/

namespace Sys2Proof.Machine

theorem alters_peer (d : Dev) (p : PeerSt) : Alters [.peer] [] d { d with peer := p } := by
  refine (Alters.refl d).direct (fun q hq => ?_) rfl rfl rfl rfl rfl
  cases q with
  | peer => exact absurd (List.mem_singleton_self _) hq
  | _ => rfl

/-- A change within the domain's parts that touches neither grants nor Ingots. -/
theorem Alters.linkOnly {x y : Dev} {regs : List Nat} (h : Alters domainParts regs x y) (hc : y.cfg = x.cfg) (ho : y.out = x.out) :
    Alters [.peer, .wide] regs x y := by
  refine { h with same := fun q hq => ?_ }
  cases q
  case cfg => exact hc
  case out => exact ho
  case peer | wide => exact absurd (by decide) hq
  all_goals exact h.same _ (by decide)

/-- A change that shows: configuration and Ingots stand, the link's state but for the partners at the transmit halves, and the lane
that each lane faces. -/
structure OnlyShown (x y : Dev) : Prop where
  cfg : y.cfg = x.cfg
  out : y.out = x.out
  peer : y.peer = { x.peer with facing := y.peer.facing }
  far : ∀ l, y.farLane l = x.farLane l

theorem OnlyShown.refl (x : Dev) : OnlyShown x x := ⟨rfl, rfl, rfl, fun _ => rfl⟩

theorem OnlyShown.trans {x y z : Dev} (h : OnlyShown x y) (g : OnlyShown y z) : OnlyShown x z :=
  ⟨g.cfg.trans h.cfg, g.out.trans h.out, g.peer.trans (congrArg (fun p : PeerSt => { p with facing := z.peer.facing }) h.peer),
    fun l => (g.far l).trans (h.far l)⟩

theorem OnlyShown.ite {x y z : Dev} {c : Prop} [Decidable c] (h : OnlyShown x y) (g : OnlyShown x z) :
    OnlyShown x (if c then y else z) := by
  split
  · exact h
  · exact g

theorem OnlyShown.foldl {α : Type} {f : Dev → α → Dev} (hf : ∀ y a, OnlyShown y (f y a)) (l : List α) (x : Dev) :
    OnlyShown x (l.foldl f x) := by
  induction l generalizing x with
  | nil => exact .refl x
  | cons a l ih => exact (hf x a).trans (ih _)

/-- A field of `PEER_STAT`, or one of a lane's register apart from the lane that it faces. -/
theorem OnlyShown.setFld (x : Dev) (f : Fld) (v : Nat) (hw : f.lo + f.width ≤ 32)
    (ha : f.addr = Reg.PEER_STAT ∨ f.lo + f.width ≤ 2 ∨ 4 ≤ f.lo) : OnlyShown x (x.setFld f v) := by
  refine ⟨rfl, rfl, rfl, fun l => Dev.fld_setFld_apart x f _ v hw ?_⟩
  rcases ha with ha | ha | ha
  · refine .inl ?_
    simp only [ha, Reg.PEER_LANE_STAT, Reg.PEER_STAT]
    omega
  · exact .inr (.inr ha)
  · exact .inr (.inl ha)

theorem onlyShown_raise (d : Dev) (n a b : Nat) : OnlyShown d (d.raise n a b) := ⟨rfl, rfl, rfl, fun _ => rfl⟩

theorem onlyShown_setFacing (d : Dev) (l : Nat) (p : Option Wide) : OnlyShown d (d.setFacing l p) := by
  unfold Dev.setFacing
  exact .ite (.refl d) (.ite ⟨rfl, rfl, rfl, fun _ => rfl⟩ ⟨rfl, rfl, rfl, fun _ => rfl⟩)

theorem onlyShown_memberEntry (d : Dev) (i id : Nat) (v : Word) :
    OnlyShown d ((d.putWide (Reg.PEER_MEM_ID_LO i) id).put (Reg.PEER_MEM_STAT i) v) := by
  refine ⟨rfl, rfl, rfl, fun l => Dev.fld_put_ne _ _ _ _ ?_⟩
  simp only [Reg.PEER_LANE_STAT, Reg.PEER_MEM_STAT]
  omega

theorem onlyShown_showDomain (d : Dev) : OnlyShown d d.showDomain := by
  unfold Dev.showDomain
  dsimp only
  refine (OnlyShown.setFld _ F.PEER_STAT_LEADER _ (by decide) (.inl rfl)).trans <|
    (OnlyShown.setFld _ F.PEER_STAT_MASTER _ (by decide) (.inl rfl)).trans <|
    (OnlyShown.setFld _ F.PEER_STAT_NO_MASTER _ (by decide) (.inl rfl)).trans <|
    (OnlyShown.setFld _ F.PEER_STAT_MEMBERS _ (by decide) (.inl rfl)).trans <|
    (OnlyShown.setFld _ F.PEER_STAT_UPSTREAM _ (by decide) (.inl rfl)).trans <|
    (OnlyShown.setFld _ F.PEER_STAT_UP_VALID _ (by decide) (.inl rfl)).trans <|
    (OnlyShown.foldl (fun y l => onlyShown_setFacing y l _) _ _).trans <|
    (OnlyShown.foldl (fun y l => ?_) _ _).trans <| OnlyShown.foldl (fun y i => ?_) _ _
  · exact (OnlyShown.setFld y (F.PEER_LANE_STAT_TWO_WAY l) _ (by decide : 4 + 1 ≤ 32) (.inr (.inr (by decide : 4 ≤ 4)))).trans <|
      (OnlyShown.setFld _ (F.PEER_LANE_STAT_RX_MEMBER l) _ (by decide : 8 + 5 ≤ 32) (.inr (.inr (by decide : 4 ≤ 8)))).trans <|
      OnlyShown.setFld _ (F.PEER_LANE_STAT_TX_MEMBER l) _ (by decide : 16 + 5 ≤ 32) (.inr (.inr (by decide : 4 ≤ 16)))
  · split
    · exact onlyShown_memberEntry y i _ _
    · exact onlyShown_memberEntry y i _ _

theorem alters_showDomain (d : Dev) : Alters [.peer, .wide] domainRegs d d.showDomain :=
  (shown_showDomain d).alters.linkOnly (onlyShown_showDomain d).cfg (onlyShown_showDomain d).out

end Sys2Proof.Machine
end

section
/-! SUPPORT. The leader's grants and a pod's CLAIM (R355, R356): what they move of the link's state. -/

namespace Sys2Proof.Machine

/-- What is known of a pod but for the events raised for it and the grant it has. -/
def Member.told (m : Member) : Member := { m with saidMismatch := false, saidLimit := false, codes := [], phase := 0 }

theorem map_told {f : Member → Member} (h : ∀ m, (f m).told = m.told) (l : List Member) :
    (l.map f).map Member.told = l.map Member.told := by
  rw [List.map_map]
  exact List.map_congr_left fun m _ => h m

theorem told_ite {c : Prop} [Decidable c] {x y m : Member} (hx : x.told = m.told) (hy : y.told = m.told) :
    (if c then x else y).told = m.told := by
  split
  · exact hx
  · exact hy

theorem told_noteGrants (d : Dev) (gs : List (Wide × List Nat × Nat)) :
    (d.noteGrants gs).peer.pods.map Member.told = d.peer.pods.map Member.told :=
  map_told (fun m => by split <;> rfl) d.peer.pods

theorem told_recomputeGrants (d : Dev) : d.recomputeGrants.peer.pods.map Member.told = d.peer.pods.map Member.told := by
  unfold Dev.recomputeGrants
  dsimp only
  split
  · exact told_noteGrants d _
  · exact told_noteGrants d _

theorem alters_recomputeGrants (d : Dev) : Alters [.peer] [Reg.PEER_EVT] d d.recomputeGrants := by
  have hnote (gs : List (Wide × List Nat × Nat)) : Alters [.peer] [Reg.PEER_EVT] d (d.noteGrants gs) :=
    (alters_peer d _).mono (fun _ h => h) fun _ h => absurd h List.not_mem_nil
  unfold Dev.recomputeGrants
  exact .ite (fun _ => (hnote _).setBit _ _ _ (List.mem_singleton_self _)) fun _ => hnote _

theorem peer_recomputeGrants (d : Dev) : d.recomputeGrants.peer = { d.peer with pods := d.recomputeGrants.peer.pods } := by
  unfold Dev.recomputeGrants
  dsimp only
  split <;> rfl

theorem alters_leadClaim (d : Dev) : Alters [.peer] [Reg.PEER_EVT] d d.leadClaim := by
  unfold Dev.leadClaim
  exact .ite (fun _ => (alters_recomputeGrants d).trans ((alters_peer _ _).mono (fun _ h => h) fun _ h => absurd h List.not_mem_nil))
    fun _ => .refl d

theorem peer_leadClaim (d : Dev) :
    d.leadClaim.peer = { d.peer with pods := d.leadClaim.peer.pods, grantDue := d.leadClaim.peer.grantDue } := by
  unfold Dev.leadClaim
  split
  · exact congrArg (fun p : PeerSt => { p with grantDue := true }) (peer_recomputeGrants d)
  · rfl

theorem told_leadClaim (d : Dev) : d.leadClaim.peer.pods.map Member.told = d.peer.pods.map Member.told := by
  unfold Dev.leadClaim
  split
  · exact told_recomputeGrants d
  · rfl

/-- The CLAIM of this pod (R355). -/
def Dev.ownClaim (d : Dev) : Claim :=
  ⟨Config.deviceId, d.selfMember.claim.map (Fin.ofNat 64), Fin.ofNat 16 d.selfMember.claimPhase, d.peer.claimResult⟩

/-- The part that has sent its CLAIM. -/
def Dev.toldClaim (d : Dev) : Dev :=
  { d with peer := { d.peer with sent := d.peer.sent ++ [.claim d.ownClaim], claimResult := none } }

theorem sendClaim_eq (d : Dev) : d.sendClaim = d.toldClaim.leadClaim := rfl

theorem alters_sendClaim (d : Dev) : Alters [.peer] [Reg.PEER_EVT] d d.sendClaim :=
  ((alters_peer d _).mono (fun _ h => h) fun _ h => absurd h List.not_mem_nil).trans (alters_leadClaim d.toldClaim)

end Sys2Proof.Machine
end

section
/-! SUPPORT. The domain worked out again (R349 to R351, R355): what stays of the link's state, and what is known of each pod. -/

namespace Sys2Proof.Machine

/-- A change of the domain: the partners at the receive halves, the lanes' alignment, this pod's own ANNOUNCE and what is known of each
pod stand. -/
structure DomainKept (x y : Dev) : Prop where
  partners : y.peer.partners = x.peer.partners
  aligned : y.peer.aligned = x.peer.aligned
  annSeq : y.peer.annSeq = x.peer.annSeq
  rank : y.peer.rank = x.peer.rank
  told : y.peer.pods.map Member.told = x.peer.pods.map Member.told

theorem DomainKept.same {x y : Dev} (h : y.peer = x.peer) : DomainKept x y := by constructor <;> rw [h]

theorem DomainKept.refl (x : Dev) : DomainKept x x := .same rfl

theorem DomainKept.trans {x y z : Dev} (h : DomainKept x y) (g : DomainKept y z) : DomainKept x z :=
  ⟨g.partners.trans h.partners, g.aligned.trans h.aligned, g.annSeq.trans h.annSeq, g.rank.trans h.rank, g.told.trans h.told⟩

theorem DomainKept.ite {x y z : Dev} {c : Prop} [Decidable c] (h : DomainKept x y) (g : DomainKept x z) :
    DomainKept x (if c then y else z) := by
  split
  · exact h
  · exact g

theorem DomainKept.foldl {α : Type} {f : Dev → α → Dev} (hf : ∀ y a, DomainKept y (f y a)) (l : List α) (x : Dev) :
    DomainKept x (l.foldl f x) := by
  induction l generalizing x with
  | nil => exact .refl x
  | cons a l ih => exact (hf x a).trans (ih _)

theorem OnlyShown.kept {x y : Dev} (h : OnlyShown x y) : DomainKept x y := by constructor <;> rw [h.peer]

/-- A pod that was known is known still, and what is known of it. -/
theorem DomainKept.pod {x y : Dev} (h : DomainKept x y) {m : Member} (hm : m ∈ x.peer.pods) : ∃ n ∈ y.peer.pods, n.told = m.told := by
  have hmem : m.told ∈ y.peer.pods.map Member.told := h.told ▸ List.mem_map_of_mem hm
  exact List.mem_map.mp hmem

/-- The same pods are known. -/
theorem DomainKept.knows {x y : Dev} (h : DomainKept x y) (id : Wide) :
    (y.peer.pods.any fun m => m.id == id) = x.peer.pods.any fun m => m.id == id := by
  have hany (l : List Member) : ((l.map Member.told).any fun m => m.id == id) = l.any fun m => m.id == id := List.any_map
  exact (hany _).symm.trans ((congrArg (fun l => l.any fun m : Member => m.id == id) h.told).trans (hany _))

theorem kept_sendPeer (d : Dev) (m : PeerMsg) : DomainKept d (d.sendPeer m) := ⟨rfl, rfl, rfl, rfl, rfl⟩

theorem kept_leadClaim (d : Dev) : DomainKept d d.leadClaim := by
  refine ⟨?_, ?_, ?_, ?_, told_leadClaim d⟩ <;> rw [peer_leadClaim]

theorem kept_sendClaim (d : Dev) : DomainKept d d.sendClaim :=
  DomainKept.trans (y := d.toldClaim) ⟨rfl, rfl, rfl, rfl, rfl⟩ (kept_leadClaim _)

theorem kept_reportPods (d : Dev) : DomainKept d d.reportPods := by
  have hset (x : Dev) (m : Member) (f : Member → Member) (hf : ∀ n, (f n).told = n.told) (n src : Nat) :
      DomainKept x ({ x.mark Reg.PEER_EVT n with
        peer := { x.peer with pods := x.peer.pods.map fun y : Member => if y.id = m.id then f y else y } }.raiseReg src Reg.PEER_EVT) :=
    ⟨rfl, rfl, rfl, rfl, map_told (fun y => told_ite (hf y) rfl) x.peer.pods⟩
  have hself : DomainKept d ({ d.mark Reg.PEER_EVT 1 with peer := { d.peer with saidLimit := true } }.raiseReg Ev.peerLimit Reg.PEER_EVT) :=
    ⟨rfl, rfl, rfl, rfl, rfl⟩
  unfold Dev.reportPods
  dsimp only
  refine (DomainKept.ite hself (.refl d)).trans (.foldl (fun y m => ?_) _ _)
  exact (DomainKept.ite (hset y m (fun n => { n with saidMismatch := true }) (fun _ => rfl) 0 _) (.refl y)).trans
    (.ite (hset _ m (fun n => { n with saidLimit := true }) (fun _ => rfl) 1 _) (.refl _))

theorem kept_diffMembers (d : Dev) : DomainKept d d.diffMembers := by
  have htell (src : Nat) (x : Dev) (i : Wide) :
      DomainKept x ((x.bump C.PEER_MEMBER_CHG_CNT).raise src (i.toNat % 2 ^ 32) (i.toNat / 2 ^ 32)) := .same (Dev.bump_peer x _)
  unfold Dev.diffMembers
  dsimp only
  exact (DomainKept.foldl (htell _) _ d).trans ((DomainKept.foldl (htell _) _ _).trans ⟨rfl, rfl, rfl, rfl, rfl⟩)

theorem kept_closeIngot (d : Dev) (code : Nat) : DomainKept d (d.closeIngot code) := by
  unfold Dev.closeIngot
  split
  · exact .refl d
  · exact .same rfl

theorem kept_raise (d : Dev) (n a b : Nat) : DomainKept d (d.raise n a b) := .same rfl

theorem kept_setFld (d : Dev) (f : Fld) (v : Nat) : DomainKept d (d.setFld f v) := .same rfl

theorem kept_dropGrant (d : Dev) : DomainKept d d.dropGrant := ⟨rfl, rfl, rfl, rfl, rfl⟩

theorem kept_elect (d : Dev) : DomainKept d d.elect := by
  have hvote (l m : Option Wide) : DomainKept d { d with peer := { d.peer with leader := l, master := m } } :=
    ⟨rfl, rfl, rfl, rfl, rfl⟩
  unfold Dev.elect
  dsimp only
  refine (hvote _ _).trans <| (DomainKept.ite ((kept_dropGrant _).trans (kept_raise _ _ _ _)) (.refl _)).trans <|
    (DomainKept.ite (kept_raise _ _ _ _) (.refl _)).trans <| .ite (.refl _) ?_
  exact ((kept_setFld _ _ _).trans ((kept_raise _ _ _ _).trans (kept_closeIngot _ 5))).trans (.ite (kept_setFld _ _ _) (.refl _))

theorem kept_watchUpstream (d : Dev) (old : Option Nat) : DomainKept d (d.watchUpstream old) := by
  unfold Dev.watchUpstream
  exact .ite (.refl d) ⟨rfl, rfl, rfl, rfl, rfl⟩

theorem kept_claimOnJoin (d : Dev) (old : List Wide) : DomainKept d (d.claimOnJoin old) := by
  unfold Dev.claimOnJoin
  exact .ite (kept_sendClaim d) (.refl d)

theorem kept_refreshDomain (d : Dev) : DomainKept d d.refreshDomain := by
  unfold Dev.refreshDomain
  exact (kept_reportPods d).trans <| (kept_diffMembers _).trans <| (kept_elect _).trans <| (kept_watchUpstream _ _).trans <|
    (kept_claimOnJoin _ _).trans (onlyShown_showDomain _).kept

end Sys2Proof.Machine
end

section
/-! SUPPORT. Lanes and links that change state (R346 to R348): the partners and the alignment of their lanes. -/

namespace Sys2Proof.Machine

/-! ## One lane -/

@[simp] theorem peer_setLane (d : Dev) (l v : Nat) : (d.setLane l v).peer = d.peer := by
  unfold Dev.setLane
  split <;> rfl

theorem partner_setPartner (d : Dev) (l n : Nat) (p : Option Wide) :
    slook n (d.setPartner l p).peer.partners = if n = l then p else slook n d.peer.partners := by
  unfold Dev.setPartner
  dsimp only
  split
  · next h =>
    split
    · next hn => rw [hn, h]
    · rfl
  · exact slook_sopt l n p d.peer.partners

@[simp] theorem pods_setPartner (d : Dev) (l : Nat) (p : Option Wide) : (d.setPartner l p).peer.pods = d.peer.pods := by
  unfold Dev.setPartner
  dsimp only
  split <;> rfl

/-! ## The lanes of a link -/

theorem mem_link (d : Dev) {l : Nat} (hl : l < 4) : l ∈ d.link l := by
  unfold Dev.link linkLanes
  split_ifs <;> simp <;> omega

theorem link_lt (d : Dev) {l n : Nat} (hl : l < 4) (h : n ∈ d.link l) : n < 4 := linkLanes_lt hl h

theorem partner_moveLanes (next : Nat → Nat) (ls : List Nat) (n : Nat) (d : Dev) :
    slook n (d.moveLanes next ls).peer.partners = if n ∈ ls then none else slook n d.peer.partners := by
  induction ls generalizing d with
  | nil => rfl
  | cons l ls ih =>
    refine (ih _).trans ?_
    rw [partner_setPartner, peer_setLane]
    by_cases hn : n ∈ ls
    · rw [if_pos hn, if_pos (List.mem_cons_of_mem l hn)]
    · by_cases hl : n = l
      · rw [if_neg hn, if_pos hl, if_pos (hl ▸ List.mem_cons_self)]
      · rw [if_neg hn, if_neg hl, if_neg fun h => (List.mem_cons.mp h).elim hl hn]

/-- The lanes of a list take a state. -/
def Dev.setLanes (d : Dev) (v : Nat) (ls : List Nat) : Dev := ls.foldl (fun d l => d.setLane l v) d

theorem alters_setLanes (d : Dev) (v : Nat) {ls : List Nat} (h : ∀ l ∈ ls, l < 4) : Alters domainParts domainRegs d (d.setLanes v ls) :=
  Alters.foldlMem ls (fun y l hl => alters_setLane y (h l hl) v) (.refl d)

theorem onlyShown_setLanes (d : Dev) (v : Nat) (ls : List Nat) : OnlyShown d (d.setLanes v ls) := by
  refine .foldl (fun y l => ?_) ls d
  unfold Dev.setLane
  exact .ite (.refl y) ((OnlyShown.setFld y (F.PEER_LANE_STAT_STATE l) v (by decide : 0 + 2 ≤ 32)
    (.inr (.inl (by decide : 0 + 2 ≤ 2)))).trans (onlyShown_raise _ _ _ _))

theorem laneState_setLanes (v : Nat) (ls : List Nat) (n : Nat) (d : Dev) :
    (d.setLanes v ls).laneState n = if n ∈ ls then v % 4 else d.laneState n := by
  induction ls generalizing d with
  | nil => rfl
  | cons l ls ih =>
    refine (ih _).trans ?_
    rw [laneState_setLane]
    by_cases hn : n ∈ ls
    · rw [if_pos hn, if_pos (List.mem_cons_of_mem l hn)]
    · by_cases hl : n = l
      · rw [if_neg hn, if_pos hl, if_pos (hl ▸ List.mem_cons_self)]
      · rw [if_neg hn, if_neg hl, if_neg fun h => (List.mem_cons.mp h).elim hl hn]

@[simp] theorem peer_setLanes (v : Nat) (ls : List Nat) (d : Dev) : (d.setLanes v ls).peer = d.peer := by
  induction ls generalizing d with
  | nil => rfl
  | cons l ls ih => exact (ih _).trans (peer_setLane d l v)

/-- Each lane that changes state raises its event (R348). -/
theorem raised_setLanes {v l : Nat} {ls : List Nat} (hls : ∀ n ∈ ls, n < 4) (hl : l ∈ ls) {d : Dev} (hv : d.laneState l ≠ v) :
    ∃ r ∈ (d.setLanes v ls).evt.raised, r.src = Ev.peerLane l := by
  induction ls generalizing d with
  | nil => exact absurd hl List.not_mem_nil
  | cons n ls ih =>
    have htail : ∀ k ∈ ls, k < 4 := fun k hk => hls k (List.mem_cons_of_mem n hk)
    by_cases hn : l = n
    · subst hn
      obtain ⟨rs, hrs⟩ := (alters_setLanes (d.setLane l v) v htail).raised
      have hset : d.setLane l v = (d.setFld (F.PEER_LANE_STAT_STATE l) v).raise (Ev.peerLane l) := if_neg hv
      refine ⟨⟨Ev.peerLane l, false, 0, 0⟩, ?_, rfl⟩
      show _ ∈ ((d.setLane l v).setLanes v ls).evt.raised
      rw [hrs, hset]
      exact List.mem_append_left _ (List.mem_append_right _ (List.mem_singleton_self _))
    · refine ih htail (List.mem_of_ne_of_mem hn hl) (d := d.setLane n v) ?_
      rwa [laneState_setLane, if_neg hn]

/-! ## A link that leaves UP or ALIGNED -/

/-- The lanes of the link of `l` that are not DOWN. -/
def Dev.liveLanes (d : Dev) (l : Nat) : List Nat := (d.link l).filter fun n => decide (d.laneState n ≠ 0)

theorem mem_liveLanes {d : Dev} {l n : Nat} : n ∈ d.liveLanes l ↔ n ∈ d.link l ∧ d.laneState n ≠ 0 := by
  rw [Dev.liveLanes, List.mem_filter, decide_eq_true_iff]

/-- The lanes of a link in their new state; those that hunt again have lost what they received. -/
def Dev.lanesLeft (d : Dev) (l v : Nat) : Dev :=
  let x := d.moveLanes (fun _ => v) (d.liveLanes l)
  if v = 1 then { x with peer := x.peer.unalign (d.liveLanes l) } else x

theorem laneState_lanesLeft (d : Dev) (l v n : Nat) :
    (d.lanesLeft l v).laneState n = if n ∈ d.liveLanes l then v % 4 else d.laneState n := by
  rw [← laneState_moveLanes (fun _ => v)]
  unfold Dev.lanesLeft
  dsimp only
  split <;> rfl

theorem partner_lanesLeft (d : Dev) (l v n : Nat) :
    slook n (d.lanesLeft l v).peer.partners = if n ∈ d.liveLanes l then none else slook n d.peer.partners := by
  rw [← partner_moveLanes fun _ => v]
  unfold Dev.lanesLeft
  dsimp only
  split <;> rfl

theorem aligned_lanesLeft (d : Dev) {l n : Nat} (h : n ∈ d.liveLanes l) : slook n (d.lanesLeft l 1).peer.aligned = none := by
  refine (slook_sclear (fun k => (d.liveLanes l).contains k) n _).trans (if_pos ?_)
  exact List.contains_iff_mem.mpr h

/-- The domain after the lanes of a link have left: from UP, without the pods that the link alone reached. -/
def Dev.afterLeaving (d : Dev) (l : Nat) (wasUp : Bool) : Dev :=
  if wasUp then
    let pods := d.peer.pods.map fun m => { m with via := sdel (d.linkHead l) m.via }
    { d with peer := { d.peer with pods := pods.filter fun m => !m.via.isEmpty } }.refreshDomain
  else if d.flag F.PEER_CTL_EN then d.showDomain
  else d

theorem linkTo_eq (d : Dev) (l v : Nat) :
    d.linkTo l v = (d.lanesLeft l v).afterLeaving l ((d.liveLanes l).any fun n => d.laneState n == 3) := rfl

theorem shown_afterLeaving (d : Dev) (l : Nat) (wasUp : Bool) : LinkShown d (d.afterLeaving l wasUp) := by
  unfold Dev.afterLeaving
  exact .ite ((LinkShown.peer d _).trans (shown_refreshDomain _)) (.ite (shown_showDomain d) (.refl d))

/-- The partners and the alignment of the lanes stand when the domain follows. -/
theorem lanes_afterLeaving (d : Dev) (l : Nat) (wasUp : Bool) :
    (d.afterLeaving l wasUp).peer.partners = d.peer.partners ∧ (d.afterLeaving l wasUp).peer.aligned = d.peer.aligned := by
  unfold Dev.afterLeaving
  dsimp only
  split
  · exact ⟨(kept_refreshDomain _).partners, (kept_refreshDomain _).aligned⟩
  · split
    · exact ⟨(onlyShown_showDomain d).kept.partners, (onlyShown_showDomain d).kept.aligned⟩
    · exact ⟨rfl, rfl⟩

theorem laneState_linkTo (d : Dev) (l v : Nat) {n : Nat} (hn : n < 4) :
    (d.linkTo l v).laneState n = if n ∈ d.liveLanes l then v % 4 else d.laneState n := by
  rw [linkTo_eq, (shown_afterLeaving _ _ _).lanes n hn, laneState_lanesLeft]

theorem partner_linkTo {d : Dev} {l n : Nat} (v : Nat) (h : n ∈ d.liveLanes l) : slook n (d.linkTo l v).peer.partners = none := by
  rw [linkTo_eq, (lanes_afterLeaving _ _ _).1, partner_lanesLeft, if_pos h]

theorem aligned_linkTo {d : Dev} {l n : Nat} (h : n ∈ d.liveLanes l) : slook n (d.linkTo l 1).peer.aligned = none := by
  rw [linkTo_eq, (lanes_afterLeaving _ _ _).2, aligned_lanesLeft d h]

end Sys2Proof.Machine
end

section
/-! SUPPORT. The peer commands (R348, R355, R467): the member table asked for, the CLAIM sent again, and lanes that hunt again. -/

namespace Sys2Proof.Machine

theorem mem_liveLanes_self {d : Dev} {l : Nat} (hl : l < 4) (h : d.laneState l ≠ 0) : l ∈ d.liveLanes l :=
  mem_liveLanes.mpr ⟨mem_link d hl, h⟩

/-- `peer.lane_reset` at one lane: a lane of its mask that is not DOWN hunts again. -/
def Dev.resetLane (m : Nat) (d : Dev) (l : Nat) : Dev := if bitAt m l && d.laneState l != 0 then d.linkTo l 1 else d

theorem alters_resetLane (m : Nat) (d : Dev) {l : Nat} (hl : l < 4) : Alters domainParts domainRegs d (d.resetLane m l) :=
  .ite (fun _ => (moved_linkTo d hl 1 false).alters) fun _ => .refl d

/-- Another lane stays, or hunts again with its link. -/
theorem laneState_resetLane (m : Nat) (d : Dev) (l : Nat) {n : Nat} (hn : n < 4) :
    (d.resetLane m l).laneState n = d.laneState n ∨ (d.resetLane m l).laneState n = 1 := by
  unfold Dev.resetLane
  split
  · rw [laneState_linkTo d l 1 hn]
    split
    · exact .inr rfl
    · exact .inl rfl
  · exact .inl rfl

theorem laneState_resetLane_self {m : Nat} {d : Dev} {l : Nat} (hl : l < 4) (hm : bitAt m l = true) (h : d.laneState l ≠ 0) :
    (d.resetLane m l).laneState l = 1 := by
  have hc : (bitAt m l && d.laneState l != 0) = true := by rw [hm, Bool.true_and, bne_iff_ne]; exact h
  rw [Dev.resetLane, if_pos hc, laneState_linkTo d l 1 hl, if_pos (mem_liveLanes_self hl h)]

/-- A lane of the mask that is not DOWN hunts once its own turn has come, and whatever lanes follow. -/
theorem laneState_resetLanes {m l : Nat} (hl : l < 4) (hm : bitAt m l = true) (ls : List Nat) :
    ∀ d : Dev, l ∈ ls ∧ d.laneState l ≠ 0 ∨ d.laneState l = 1 → (ls.foldl (Dev.resetLane m) d).laneState l = 1 := by
  induction ls with
  | nil => exact fun d h => h.elim (fun h => absurd h.1 List.not_mem_nil) id
  | cons n ls ih =>
    intro d h
    refine ih _ ?_
    have hlive : d.laneState l ≠ 0 := h.elim And.right fun h => by rw [h]; decide
    by_cases hn : l = n
    · exact .inr (hn ▸ laneState_resetLane_self hl hm hlive)
    · rcases laneState_resetLane m d n hl with hs | hs
      · rw [hs]
        exact h.imp (fun h => ⟨List.mem_of_ne_of_mem hn h.1, hlive⟩) id
      · exact .inr hs

section
variable {s : State} {c : Cmd}

theorem peerMembers_starts (h : (c.packet 0x0802).u 0 8 + 512 ≤ devMemSize) : Starts (.peerMembers c) c 0x0802 s 0 [] [] fun _ => True :=
  starts id rfl (fun _ _ _ _ _ => refuseIf_false (not_inDevMem h) rfl) (fun _ _ _ => .refl _) (by decide) fun _ _ _ _ _ => trivial

theorem peerReclaim_acts (h : s.dev.flag F.PEER_CTL_EN = true) : Acts (.peerReclaim c) c 0x0803 s [] [.peer] [Reg.PEER_EVT] fun t =>
    t.dev.peer.claimResult = none ∧ t.dev.peer.sent = [.claim s.dev.ownClaim] := by
  refine acts_link Dev.sendClaim rfl (fun _ _ _ => refuseIf_false (not_of_true h) rfl) (fun _ _ _ => alters_sendClaim _) (by decide)
    fun p m k t ht => ?_
  rw [ht, sendClaim_eq, peer_leadClaim]
  exact ⟨rfl, rfl⟩

theorem peerLaneReset_acts (h : (c.packet 0x0804).u 0 1 ≤ 15) :
    Acts (.peerLaneReset c) c 0x0804 s [] [.peer, .wide, .cfg, .out] domainRegs fun t =>
      ∀ l, l < 4 → bitAt ((c.packet 0x0804).u 0 1) l = true → s.dev.laneState l ≠ 0 → t.dev.laneState l = 1 := by
  refine acts (fun d => (List.range 4).foldl (Dev.resetLane ((c.packet 0x0804).u 0 1)) d) rfl
    (fun _ _ _ _ _ => refuseIf_false (decide_eq_false (Nat.not_lt.mpr h)) rfl) (fun p m k => ?_) (by decide)
    fun p m k t ht l hl hm h0 => ?_
  · exact (Alters.foldlMem _ (fun y l hl => alters_resetLane _ y (List.mem_range.mp hl)) (.refl _)).mono (by decide) fun _ ha => ha
  · rw [ht.laneState]
    exact laneState_resetLanes hl hm _ _ (.inl ⟨List.mem_range.mpr hl, h0⟩)

end

/-- Settles O24: each clause is the rule of its command. -/
theorem peerCommandsAct : Obligations.PeerCommandsAct := by
  unfold Obligations.PeerCommandsAct
  exact fun s c => ⟨peerMembers_starts, peerReclaim_acts, peerLaneReset_acts⟩

end Sys2Proof.Machine
end

section
/-! SUPPORT. Lanes align, are lost, and meet their partners (R346 to R348). -/

namespace Sys2Proof.Machine

/-! ## Alignment (R346, R347) -/

/-- A lane's headers are valid, and its markers name the lane that it faces. -/
def Dev.noteAligned (d : Dev) (l remote : Nat) : Dev :=
  { d with peer := { d.peer with aligned := sput l remote d.peer.aligned } }.setFld (F.PEER_LANE_STAT_REMOTE_LANE l) remote

/-- The lane ids that the lanes of a link have received, lane `l` the id `remote`. -/
def Dev.linkIds (d : Dev) (l remote : Nat) : List Nat := (d.link l).filterMap fun x => slook x (sput l remote d.peer.aligned)

theorem laneStat_mem {l : Nat} (hl : l < 4) : Reg.PEER_LANE_STAT l ∈ domainRegs :=
  List.mem_append_left _ (List.mem_append_right _ (List.mem_map_of_mem (List.mem_range.mpr hl)))

theorem alters_noteAligned (d : Dev) {l : Nat} (hl : l < 4) (remote : Nat) :
    Alters [.peer, .wide] domainRegs d (d.noteAligned l remote) :=
  ((alters_peer d _).mono (by decide) fun _ ha => absurd ha List.not_mem_nil).setFld _ _ (laneStat_mem hl)

theorem laneState_noteAligned (d : Dev) (l remote n : Nat) : (d.noteAligned l remote).laneState n = d.laneState n :=
  Dev.fld_setFld_apart _ (F.PEER_LANE_STAT_REMOTE_LANE l) (F.PEER_LANE_STAT_STATE n) remote (by decide : 2 + 2 ≤ 32)
    (.inr (.inl (by decide : 0 + 2 ≤ 2)))

theorem farLane_noteAligned (d : Dev) (l remote : Nat) : (d.noteAligned l remote).farLane l = remote % 4 :=
  Dev.fld_setFld_self _ (F.PEER_LANE_STAT_REMOTE_LANE l) remote (by decide : 2 + 2 ≤ 32)

theorem link_noteAligned (d : Dev) (l remote n : Nat) : (d.noteAligned l remote).link n = d.link n := by
  have hne : F.PEER_CTL_LANE_MODE.addr ≠ (F.PEER_LANE_STAT_REMOTE_LANE l).addr := by
    simp only [Reg.PEER_CTL, Reg.PEER_LANE_STAT]
    omega
  unfold Dev.link
  congr 1
  exact Dev.fld_put_ne _ _ _ _ hne

theorem laneAligned_hunting {d : Dev} {l : Nat} (remote : Nat) (skewOk : Bool) (h : d.laneState l = 1) :
    d.laneAligned l remote skewOk =
      let x := d.noteAligned l remote
      let ids := (x.link l).filterMap fun n => slook n x.peer.aligned
      if ids.length = (x.link l).length ∧ ((x.link l).length = 1 ∨ (idsOk ids = true ∧ skewOk = true)) then
        (x.setLanes 2 (x.link l)).showDomain
      else x := if_neg (not_not.mpr h)

/-- The last lane of a link that aligns brings the link to ALIGNED. -/
theorem laneAligned_last {d : Dev} {l remote : Nat} {skewOk : Bool} (h : d.laneState l = 1)
    (hall : (d.linkIds l remote).length = (d.link l).length)
    (hids : (d.link l).length = 1 ∨ (idsOk (d.linkIds l remote) = true ∧ skewOk = true)) :
    d.laneAligned l remote skewOk = ((d.noteAligned l remote).setLanes 2 (d.link l)).showDomain := by
  rw [laneAligned_hunting remote skewOk h]
  dsimp only
  rw [link_noteAligned]
  exact if_pos ⟨hall, hids⟩

theorem gives_laneAligned {s : State} {lane remote : Fin 4} {skewOk : Bool} (h : s.dev.laneState lane.val = 1)
    (hall : (s.dev.linkIds lane.val remote.val).length = (s.dev.link lane.val).length)
    (hids : (s.dev.link lane.val).length = 1 ∨ (idsOk (s.dev.linkIds lane.val remote.val) = true ∧ skewOk = true)) :
    Gives (.laneAligned lane remote skewOk) s fun t => ((∀ x ∈ s.dev.link lane.val, t.dev.laneState x = 2) ∧
      t.dev.farLane lane.val = remote.val ∧ Pending t (Ev.peerLane lane.val)) ∧ Leaves [.peer, .wide] domainRegs s t := by
  let x := s.dev.begin_.noteAligned lane.val remote.val
  have hlt : ∀ n ∈ s.dev.link lane.val, n < 4 := fun n => link_lt s.dev lane.isLt
  have hset := onlyShown_setLanes x 2 (s.dev.link lane.val)
  have hshow := onlyShown_showDomain (x.setLanes 2 (s.dev.link lane.val))
  have halter := (alters_noteAligned s.dev.begin_ lane.isLt remote.val).trans
    (((alters_setLanes x 2 hlt).linkOnly hset.cfg hset.out).trans (alters_showDomain _))
  refine gives_step (e := (x.setLanes 2 (s.dev.link lane.val)).showDomain) rfl (laneAligned_last h hall hids) halter (by decide)
    fun t ht _ => ⟨fun n hn => ?_, ?_, ?_⟩
  · rw [ht.laneState, (shown_showDomain _).lanes n (hlt n hn), laneState_setLanes]
    exact if_pos hn
  · rw [ht.farLane, hshow.far, hset.far, farLane_noteAligned]
    exact Nat.mod_eq_of_lt remote.isLt
  · have hstate : x.laneState lane.val ≠ 2 := by
      rw [laneState_noteAligned]
      exact fun he => absurd (h.symm.trans he) (by decide)
    obtain ⟨r, hr, hsrc⟩ := raised_setLanes hlt (mem_link s.dev lane.isLt) hstate
    obtain ⟨rs, hrs⟩ := (alters_showDomain (x.setLanes 2 (s.dev.link lane.val))).raised
    rw [← hsrc]
    refine ht.raised r (hrs ▸ List.mem_append_left _ hr) ?_
    rw [hsrc]
    show 544 + lane.val < 640
    omega

/-! ## Loss (R346, R348) -/

theorem laneState_bump (d : Dev) (n : Nat) : (d.bump C.PEER_LOSS_CNT).laneState n = d.laneState n :=
  Dev.fld_bumpBy_ne d C.PEER_LOSS_CNT 1 _ (by simp only [Reg.PEER_LANE_STAT, Reg.PEER_LOSS_CNT]; omega)
    (by simp only [Reg.PEER_LANE_STAT, Reg.PEER_CNT_SAT]; omega)

theorem gives_laneAlignmentLost {s : State} {lane : Fin 4} (h : s.dev.laneState lane.val ≠ 0)
    (hal : (slook lane.val s.dev.peer.aligned).isSome = true) :
    Gives (.laneAlignmentLost lane) s fun t => (t.dev.laneState lane.val = 1 ∧ slook lane.val t.dev.peer.partners = none ∧
      slook lane.val t.dev.peer.aligned = none ∧ Counts C.PEER_LOSS_CNT 1 s t) ∧
      Leaves [.peer, .wide, .cfg, .out] (domainRegs ++ [Reg.PEER_LOSS_CNT]) s t := by
  let x := s.dev.begin_.bump C.PEER_LOSS_CNT
  have hlost : s.dev.begin_.laneLost lane.val = x.linkTo lane.val 1 :=
    if_neg (not_or.mpr ⟨h, by rw [Option.isNone_iff_eq_none]; exact Option.isSome_iff_ne_none.mp hal⟩)
  have hlive : lane.val ∈ x.liveLanes lane.val := mem_liveLanes_self lane.isLt (by rw [laneState_bump]; exact h)
  have hmove := (moved_linkTo x lane.isLt 1 false).alters
  have halter : Alters [.peer, .wide, .cfg, .out] (domainRegs ++ [Reg.PEER_LOSS_CNT]) s.dev.begin_ (x.linkTo lane.val 1) :=
    ((Alters.refl _).bump C.PEER_LOSS_CNT (by decide) (by decide) rfl).trans
      (hmove.mono (by decide) fun a => List.mem_append_left _)
  refine gives_link rfl hlost halter (by decide) fun t ht hpeer => ⟨?_, ?_, ?_, ?_⟩
  · rw [ht.laneState, laneState_linkTo x _ 1 lane.isLt, if_pos hlive]
  · rw [hpeer, partner_linkTo 1 hlive]
  · rw [hpeer, aligned_linkTo hlive]
  · have hcnt : (x.linkTo lane.val 1).cnt C.PEER_LOSS_CNT = x.cnt C.PEER_LOSS_CNT :=
      congrArg BitVec.toNat (hmove.reg Reg.PEER_LOSS_CNT (by decide))
    exact (ht.cnt C.PEER_LOSS_CNT rfl rfl).trans (hcnt.trans (Dev.cnt_bumpBy _ _ 1 (by decide)))

theorem gives_partnerTimeout {s : State} {lane : Fin 4} (h : s.dev.laneState lane.val = 3) :
    Gives (.partnerTimeout lane) s fun t => (t.dev.laneState lane.val = 2 ∧ slook lane.val t.dev.peer.partners = none) ∧
      Leaves [.peer, .wide, .cfg, .out] domainRegs s t := by
  have hlive : lane.val ∈ s.dev.begin_.liveLanes lane.val := mem_liveLanes_self lane.isLt fun h0 => absurd (h.symm.trans h0) (by decide)
  refine gives_link (e := s.dev.begin_.linkTo lane.val 2) rfl (if_pos h)
    ((moved_linkTo _ lane.isLt 2 false).alters.mono (by decide) fun _ ha => ha) (by decide) fun t ht hpeer => ⟨?_, ?_⟩
  · rw [ht.laneState, laneState_linkTo _ _ 2 lane.isLt, if_pos hlive]
  · rw [hpeer, partner_linkTo 2 hlive]

/-! ## An ANNOUNCE (R348, R349) -/

/-- The lanes of a list hear a partner. -/
def Dev.setPartners (d : Dev) (p : Option Wide) (ls : List Nat) : Dev := ls.foldl (fun d l => d.setPartner l p) d

theorem shown_setPartners (d : Dev) (p : Option Wide) (ls : List Nat) : LinkShown d (d.setPartners p ls) :=
  .foldl ls (fun y l _ => shown_setPartner y l p) d

theorem partner_setPartners (p : Option Wide) (ls : List Nat) (n : Nat) (d : Dev) :
    slook n (d.setPartners p ls).peer.partners = if n ∈ ls then p else slook n d.peer.partners := by
  induction ls generalizing d with
  | nil => rfl
  | cons l ls ih =>
    refine (ih _).trans ?_
    rw [partner_setPartner]
    by_cases hn : n ∈ ls
    · rw [if_pos hn, if_pos (List.mem_cons_of_mem l hn)]
    · by_cases hl : n = l
      · rw [if_neg hn, if_pos hl, if_pos (hl ▸ List.mem_cons_self)]
      · rw [if_neg hn, if_neg hl, if_neg fun h => (List.mem_cons.mp h).elim hl hn]

@[simp] theorem pods_setPartners (p : Option Wide) (ls : List Nat) (d : Dev) : (d.setPartners p ls).peer.pods = d.peer.pods := by
  induction ls generalizing d with
  | nil => rfl
  | cons l ls ih => exact (ih _).trans (pods_setPartner d l p)

/-- The link of a lane after an ANNOUNCE on it: UP, its partner the origin where the ANNOUNCE has made no hop. -/
def Dev.meet (d : Dev) (l : Nat) (a : Announce) : Dev :=
  (if a.hops.val = 0 then d.setPartners (some a.origin) (d.link l) else d).setLanes 3 (d.link l)

theorem announced_meets {d : Dev} {l : Nat} {a : Announce} (hen : d.flag F.PEER_CTL_EN = true) (hl : 2 ≤ d.laneState l)
    (ho : a.origin ≠ Config.deviceId) : d.announced l a = (d.meet l a).hearPod (d.linkHead l) a := by
  have hpartner : (a.hops.val = 0 ∧ a.origin ≠ Config.deviceId) = (a.hops.val = 0) := propext (and_iff_left ho)
  unfold Dev.announced
  rw [if_pos (by rw [hen, decide_eq_true hl]; rfl)]
  dsimp only
  rw [if_neg ho]
  simp only [hpartner]
  rfl

theorem alters_meet (d : Dev) {l : Nat} (hl : l < 4) (a : Announce) : Alters domainParts domainRegs d (d.meet l a) :=
  (LinkShown.ite (shown_setPartners d _ _) (.refl d)).alters.trans (alters_setLanes _ 3 fun _ => link_lt d hl)

theorem laneState_meet (d : Dev) {l : Nat} (hl : l < 4) (a : Announce) : (d.meet l a).laneState l = 3 := by
  rw [Dev.meet, laneState_setLanes, if_pos (mem_link d hl)]

theorem partner_meet (d : Dev) {l : Nat} (hl : l < 4) {a : Announce} (h : a.hops.val = 0) :
    slook l (d.meet l a).peer.partners = some a.origin := by
  rw [Dev.meet, peer_setLanes, if_pos h, partner_setPartners, if_pos (mem_link d hl)]

theorem pods_meet (d : Dev) (l : Nat) (a : Announce) : (d.meet l a).peer.pods = d.peer.pods := by
  rw [Dev.meet, peer_setLanes]
  split
  · exact pods_setPartners _ _ _
  · rfl

/-- A pod that was not known joins those that are. -/
def Dev.joinPod (d : Dev) (m : Member) : Dev := { d with peer := { d.peer with pods := d.peer.pods ++ [m] } }

/-- An ANNOUNCE leaves on every link of a list. -/
def Dev.forward (d : Dev) (a : Announce) (ls : List Nat) : Dev := ls.foldl (fun d l => d.sendPeer (.announce l a)) d

theorem shown_forward (d : Dev) (a : Announce) (ls : List Nat) : LinkShown d (d.forward a ls) := .foldl ls (fun y _ _ => .peer y _) d

theorem kept_forward (d : Dev) (a : Announce) (ls : List Nat) : DomainKept d (d.forward a ls) := .foldl (fun y _ => kept_sendPeer y _) ls d

/-- A pod that is heard for the first time joins, the domain follows, and its ANNOUNCE is forwarded. -/
theorem hearPod_new {d : Dev} {h : Nat} {a : Announce} (hnew : (d.peer.pods.find? fun m => m.id == a.origin) = none)
    (hops : a.hops.val < 15) : ∃ b ls, d.hearPod h a = ((d.joinPod (heardPod none h a)).refreshDomain).forward b ls := by
  unfold Dev.hearPod
  dsimp only
  rw [hnew, if_neg (Nat.ne_of_lt hops)]
  simp only [if_true, Option.isSome_none, Bool.false_eq_true, if_false]
  split
  · exact ⟨_, _, rfl⟩
  · exact ⟨a, [], rfl⟩

theorem gives_announceReceived {s : State} {lane : Fin 4} {a : Announce} (hen : s.dev.flag F.PEER_CTL_EN = true)
    (hl : 2 ≤ s.dev.laneState lane.val) (ho : a.origin ≠ Config.deviceId)
    (hnew : (s.dev.peer.pods.find? fun m => m.id == a.origin) = none) (hops : a.hops.val < 15) :
    Gives (.announceReceived lane a) s fun t => (t.dev.laneState lane.val = 3 ∧
      (a.hops.val = 0 → slook lane.val t.dev.peer.partners = some a.origin) ∧
      ∃ m ∈ t.dev.peer.pods, m.id = a.origin ∧ m.rank = a.rank.val ∧ m.valid = a.valid ∧ m.seq = a.seq.toNat) ∧
      Leaves [.peer, .wide, .cfg, .out] domainRegs s t := by
  let x := s.dev.begin_.meet lane.val a
  let m := heardPod none (s.dev.linkHead lane.val) a
  obtain ⟨b, ls, hhear⟩ := hearPod_new (d := x) (h := s.dev.linkHead lane.val) (a := a) (by rw [pods_meet]; exact hnew) hops
  have hshow : LinkShown x (((x.joinPod m).refreshDomain).forward b ls) :=
    (LinkShown.peer x _).trans ((shown_refreshDomain _).trans (shown_forward _ b ls))
  have hkept : DomainKept (x.joinPod m) (((x.joinPod m).refreshDomain).forward b ls) :=
    (kept_refreshDomain _).trans (kept_forward _ b ls)
  refine gives_link rfl ((announced_meets (d := s.dev.begin_) hen hl ho).trans hhear)
    (((alters_meet _ lane.isLt a).trans hshow.alters).mono (by decide) fun _ ha => ha) (by decide) fun t ht hpeer => ⟨?_, fun h0 => ?_, ?_⟩
  · rw [ht.laneState, hshow.lanes _ lane.isLt, laneState_meet _ lane.isLt]
  · rw [hpeer, hkept.partners]
    exact partner_meet _ lane.isLt h0
  · obtain ⟨n, hn, htold⟩ := hkept.pod (m := m) (List.mem_append_right _ (List.mem_singleton_self m))
    rw [hpeer]
    exact ⟨n, hn, congrArg Member.id htold, congrArg Member.rank htold, congrArg Member.valid htold, congrArg Member.seq htold⟩

/-! ## The statement -/

/-- Settles O25: each clause is the rule of its event. -/
theorem lanesChangeState : Obligations.LanesChangeState := by
  unfold Obligations.LanesChangeState
  refine fun s lane => ⟨fun remote skewOk h hall hids => ?_, fun h hal => ?_, fun a hen hl ho hnew hops => ?_, fun h => ?_⟩
  · exact gives_imp (gives_laneAligned h hall hids) fun _ ⟨⟨hup, hfar, hev⟩, hleave⟩ => ⟨hup, hfar, hev, hleave⟩
  · exact gives_imp (gives_laneAlignmentLost h hal) fun _ ⟨⟨hst, hpart, hal, hcnt⟩, hleave⟩ => ⟨hst, hpart, hal, hcnt, hleave⟩
  · exact gives_imp (gives_announceReceived hen hl ho hnew hops) fun _ ⟨⟨hst, hpart, hpod⟩, hleave⟩ => ⟨hst, hpart, hpod, hleave⟩
  · exact gives_imp (gives_partnerTimeout h) fun _ => and_assoc.mp

end Sys2Proof.Machine
end

section
/-! SUPPORT. Blocks (R344, R346, R347): what a lane's block does to its link, and that a block that was discarded joins no message. -/

namespace Sys2Proof.Machine

/-! ## The lanes of a link in the order of the ids that they receive -/

/-- The lanes of a list in lane-id order. -/
def byLane (far : Nat → Nat) (ls : List Nat) : List Nat := (List.range 4).flatMap fun i => ls.filter fun x => far x == i

theorem farLane_lt (d : Dev) (l : Nat) : d.farLane l < 4 := field_lt _ 2 2

section
variable {far : Nat → Nat}

theorem mem_byLane (hfar : ∀ x, far x < 4) {ls : List Nat} {x : Nat} : x ∈ byLane far ls ↔ x ∈ ls := by
  simp only [byLane, List.mem_flatMap, List.mem_range, List.mem_filter, beq_iff_eq]
  exact ⟨fun ⟨_, _, hx, _⟩ => hx, fun hx => ⟨far x, hfar x, hx, rfl⟩⟩

theorem length_byLane (hfar : ∀ x, far x < 4) (ls : List Nat) : (byLane far ls).length = ls.length := by
  have hparts : (byLane far ls).length = ls.countP (far · == 0) + ls.countP (far · == 1) + ls.countP (far · == 2)
      + ls.countP (far · == 3) := by
    show (ls.filter _ ++ (ls.filter _ ++ (ls.filter _ ++ (ls.filter _ ++ [])))).length = _
    simp only [List.length_append, List.length_nil, List.countP_eq_length_filter]
    omega
  rw [hparts]
  clear hparts
  induction ls with
  | nil => rfl
  | cons x ls ih =>
    have hx := hfar x
    simp only [List.countP_cons, List.length_cons, beq_iff_eq]
    split_ifs <;> omega

theorem byLane_singleton (hfar : ∀ x, far x < 4) (l : Nat) : byLane far [l] = [l] := by
  obtain ⟨x, hx⟩ := List.length_eq_one_iff.mp (length_byLane hfar [l])
  have hmem : x ∈ [l] := (mem_byLane hfar).mp (hx ▸ List.mem_singleton_self x)
  rw [hx, List.mem_singleton.mp hmem]

end

/-! ## A block of a lane -/

/-- The blocks of a link's lanes that were not discarded, in lane-id order, once lane `l` has received `b`. -/
def Dev.linkBlocks (d : Dev) (l : Nat) (b : Option (Nat × List Byte)) : List (Nat × List Byte) :=
  (byLane d.farLane (d.link l)).filterMap fun x => (slook x (sput l b d.peer.stripes)).getD none

/-- A link's lanes wait for their next blocks. -/
def Dev.clearStripes (d : Dev) (ls : List Nat) : Dev :=
  { d with peer := { d.peer with stripes := sclear (fun k => ls.contains k) d.peer.stripes } }

/-- The blocks of all lanes of a link, alike in type, are one block of the link. -/
def Dev.joinBlocks (d : Dev) (l : Nat) (bs : List (Nat × List Byte)) : Dev :=
  match bs with
  | [] => d
  | b :: _ => if bs.length = (d.link l).length ∧ bs.all (fun x => x.1 == b.1) then
      d.segment (d.linkHead l) b.1 (striped (bs.map (·.2))) else d

theorem stripe_eq (d : Dev) (l : Nat) (b : Option (Nat × List Byte)) : d.stripe l b =
    if ((d.link l).filterMap fun x => slook x (sput l b d.peer.stripes)).length < (d.link l).length then
      { d with peer := { d.peer with stripes := sput l b d.peer.stripes } }
    else (d.clearStripes (d.link l)).joinBlocks l (d.linkBlocks l b) := rfl

theorem alters_joinBlocks (d : Dev) (l : Nat) (bs : List (Nat × List Byte)) : Alters [.peer] [] d (d.joinBlocks l bs) := by
  unfold Dev.joinBlocks
  split
  · exact .refl d
  · exact .ite (fun _ => alters_peer d _) fun _ => .refl d

theorem alters_stripe (d : Dev) (l : Nat) (b : Option (Nat × List Byte)) : Alters [.peer] [] d (d.stripe l b) := by
  rw [stripe_eq]
  exact .ite (fun _ => alters_peer d _) fun _ => Alters.trans (y := d.clearStripes (d.link l)) (alters_peer d _) (alters_joinBlocks _ _ _)

/-- Blocks of fewer lanes than the link has make none of the link. -/
theorem joinBlocks_short {d : Dev} {l : Nat} {bs : List (Nat × List Byte)} (h : bs.length < (d.link l).length) :
    d.joinBlocks l bs = d := by
  unfold Dev.joinBlocks
  split
  · rfl
  · exact if_neg fun hc => absurd hc.1 (Nat.ne_of_lt h)

/-- A block that was discarded joins no message: the link waits, or starts anew. -/
theorem stripe_discarded (d : Dev) {l : Nat} (hl : l < 4) :
    (d.stripe l none).peer = { d.peer with stripes := (d.stripe l none).peer.stripes } := by
  have hlost : (d.linkBlocks l none).length < (d.link l).length := by
    have hshort : (d.linkBlocks l none).length < (byLane d.farLane (d.link l)).length := by
      refine List.length_filterMap_lt_length_iff_exists.mpr ⟨l, (mem_byLane (farLane_lt d)).mpr (mem_link d hl), ?_⟩
      rw [slook_sput, if_pos rfl]
      rfl
    rwa [length_byLane (farLane_lt d)] at hshort
  rw [stripe_eq, joinBlocks_short (d := d.clearStripes (d.link l)) hlost]
  split <;> rfl

/-- A block of a link of which another lane still waits for its own. -/
theorem stripe_waits {d : Dev} {l : Nat} {b : Option (Nat × List Byte)}
    (h : ∃ x ∈ d.link l, x ≠ l ∧ slook x d.peer.stripes = none) :
    d.stripe l b = { d with peer := { d.peer with stripes := sput l b d.peer.stripes } } := by
  obtain ⟨x, hx, hne, hnone⟩ := h
  rw [stripe_eq]
  refine if_pos (List.length_filterMap_lt_length_iff_exists.mpr ⟨x, hx, ?_⟩)
  rw [slook_sput, if_neg hne, hnone]

/-- One block of a link of one lane is a block of the link. -/
theorem joinBlocks_one {d : Dev} {l : Nat} (h : d.link l = [l]) (b : Nat × List Byte) :
    d.joinBlocks l [b] = d.segment l b.1 (striped [b.2]) := by
  have hhead : d.linkHead l = l := by rw [Dev.linkHead, h]; rfl
  have hall : [b].length = (d.link l).length ∧ [b].all (fun x => x.1 == b.1) = true := by simp [h]
  have hjoin : d.joinBlocks l [b] = d.segment (d.linkHead l) b.1 (striped [b.2]) := if_pos hall
  rw [hjoin, hhead]

theorem striped_singleton {p : List Byte} (h : p.length = 60) : striped [p] = p := by
  have hmap : striped [p] = (List.range 60).map fun i => p.getD i 0 := List.map_eq_flatMap.symm
  rw [hmap]
  refine List.ext_getElem (by simp [h]) fun i hi hp => ?_
  simp [hp]

/-- A block of a lane that is a link of its own is a block of the link. -/
theorem stripe_alone {d : Dev} {l t : Nat} {p : List Byte} (h : d.link l = [l]) (hp : p.length = 60) :
    d.stripe l (some (t, p)) = (d.clearStripes [l]).segment l t p := by
  have hfind : slook l (sput l (some (t, p)) d.peer.stripes) = some (some (t, p)) := by rw [slook_sput, if_pos rfl]
  have hblocks : d.linkBlocks l (some (t, p)) = [(t, p)] := by
    rw [Dev.linkBlocks, h, byLane_singleton (farLane_lt d), List.filterMap_cons, hfind]
    rfl
  rw [stripe_eq, h, List.filterMap_cons, hfind, if_neg (by simp), hblocks, joinBlocks_one (d := d.clearStripes [l]) h, striped_singleton hp]

/-- A block of a message type ends what its link has received of the message. -/
theorem segment_last (d : Dev) (h : Nat) {t : Nat} (p : List Byte) (hlo : 2 ≤ t) (hhi : t ≤ 5) :
    ∃ ps, slook h (d.segment h t p).peer.segments = some (t, ps ++ [p]) := by
  have hput (x : List (List Byte)) : slook h (sput h (t, x) d.peer.segments) = some (t, x) := by rw [slook_sput, if_pos rfl]
  unfold Dev.segment
  dsimp only
  rw [if_neg (by omega)]
  split
  · split
    · exact ⟨_, hput _⟩
    · exact ⟨[], hput _⟩
  · exact ⟨[], hput _⟩

/-! ## What a lane receives -/

theorem peerBlock_violated {d : Dev} {l : Nat} (marker : Bool) (chars : List Byte) (h : 2 ≤ d.laneState l) :
    d.peerBlock l marker true chars = (d.bump C.PEER_CRC_ERR_CNT).stripe l none := by
  unfold Dev.peerBlock
  dsimp only
  rw [if_neg (Nat.not_lt.mpr h)]
  rfl

/-- A block with a good header and a good CRC. -/
structure GoodBlock (chars : List Byte) : Prop where
  header : (chars.getD 0 0).toNat = 0xBC
  crc : crc16 ((chars.drop 1).take 61) = (chars.getD 62 0).toNat + 256 * (chars.getD 63 0).toNat
  lo : 2 ≤ (chars.getD 1 0).toNat
  hi : (chars.getD 1 0).toNat ≤ 5

theorem peerBlock_good {d : Dev} {l : Nat} {chars : List Byte} (h : 2 ≤ d.laneState l) (hg : GoodBlock chars) :
    d.peerBlock l false false chars = d.stripe l (some ((chars.getD 1 0).toNat, (chars.drop 2).take 60)) := by
  have hok : (false || (chars.getD 0 0).toNat != 0xBC ||
      crc16 ((chars.drop 1).take 61) != (chars.getD 62 0).toNat + 256 * (chars.getD 63 0).toNat) = false := by
    simp only [hg.header, hg.crc, bne_self_eq_false, Bool.or_self]
  unfold Dev.peerBlock
  dsimp only
  rw [if_neg (Nat.not_lt.mpr h), if_neg (Bool.eq_false_iff.mp hok), if_neg Bool.false_ne_true,
    if_pos ⟨Nat.le_of_succ_le hg.lo, hg.hi⟩]

section
variable {s : State} {lane : Fin 4} {chars : List Byte}

theorem gives_badBlock (marker : Bool) (hlen : chars.length = 64) (h : 2 ≤ s.dev.laneState lane.val) :
    Gives (.peerBlockReceived lane marker true chars) s fun t => (Counts C.PEER_CRC_ERR_CNT 1 s t ∧
      t.dev.peer = { s.dev.peer with stripes := t.dev.peer.stripes, sent := [] }) ∧
      Leaves [.peer] [Reg.PEER_CRC_ERR_CNT, C.PEER_CRC_ERR_CNT.sat] s t := by
  let x := s.dev.begin_.bump C.PEER_CRC_ERR_CNT
  have hstripe := alters_stripe x lane.val none
  refine gives_link (if_pos hlen) (peerBlock_violated (d := s.dev.begin_) marker chars h)
    (((Alters.refl _).bump C.PEER_CRC_ERR_CNT (by decide) (by decide) rfl).trans
      (hstripe.mono (fun _ hp => hp) fun _ ha => absurd ha List.not_mem_nil)) (by decide) fun t ht hpeer => ⟨?_, ?_⟩
  · have hcnt : (x.stripe lane.val none).cnt C.PEER_CRC_ERR_CNT = x.cnt C.PEER_CRC_ERR_CNT :=
      congrArg BitVec.toNat (hstripe.reg Reg.PEER_CRC_ERR_CNT List.not_mem_nil)
    exact (ht.cnt C.PEER_CRC_ERR_CNT rfl rfl).trans (hcnt.trans (Dev.cnt_bumpBy _ _ 1 (by decide)))
  · rw [hpeer, stripe_discarded x lane.isLt, Dev.bump_peer]
    rfl

theorem gives_segment (hlen : chars.length = 64) (h : 2 ≤ s.dev.laneState lane.val) (hg : GoodBlock chars)
    (hone : s.dev.link lane.val = [lane.val]) : Gives (.peerBlockReceived lane false false chars) s fun t =>
      (∃ l, slook lane.val t.dev.peer.segments = some ((chars.getD 1 0).toNat, l ++ [(chars.drop 2).take 60])) ∧ Leaves [.peer] [] s t := by
  have hpay : ((chars.drop 2).take 60).length = 60 := by rw [List.length_take, List.length_drop, hlen]; rfl
  refine gives_link (if_pos hlen) (peerBlock_good (d := s.dev.begin_) h hg) (alters_stripe _ _ _) (by decide) fun t _ hpeer => ?_
  rw [hpeer, stripe_alone (d := s.dev.begin_) hone hpay]
  exact segment_last _ _ _ hg.lo hg.hi

theorem gives_waits (hlen : chars.length = 64) (h : 2 ≤ s.dev.laneState lane.val) (hg : GoodBlock chars)
    (hwait : ∃ x ∈ s.dev.link lane.val, x ≠ lane.val ∧ slook x s.dev.peer.stripes = none) :
    Gives (.peerBlockReceived lane false false chars) s fun t =>
      t.dev.peer = { s.dev.peer with
        stripes := sput lane.val (some ((chars.getD 1 0).toNat, (chars.drop 2).take 60)) s.dev.peer.stripes, sent := [] } ∧
      Leaves [.peer] [] s t := by
  refine gives_link (if_pos hlen) (peerBlock_good (d := s.dev.begin_) h hg) (alters_stripe _ _ _) (by decide) fun t _ hpeer => ?_
  rw [hpeer, stripe_waits (d := s.dev.begin_) hwait]
  rfl

end

end Sys2Proof.Machine
end

section
/-! SUPPORT. Messages of the domain (R349, R352, R355): a claim, this pod's ANNOUNCE, the start of an exchange, and a pod that is not
heard. -/

namespace Sys2Proof.Machine

section
variable {s : State}

/-! ## A claim (R355) -/

/-- A pod claims codes and a phase index. -/
def Dev.noteClaim (d : Dev) (c : Claim) : Dev :=
  { d with peer := { d.peer with pods := d.peer.pods.map fun m => if m.id = c.origin then
      { m with claim := c.codes.map (·.val), claimPhase := c.phase.val } else m } }

theorem claimed_member {d : Dev} {c : Claim} (hen : d.flag F.PEER_CTL_EN = true)
    (h : (d.peer.pods.any fun m => m.id == c.origin && !m.foreign d.bookId) = true) :
    d.claimed c = if d.peer.leader = some Config.deviceId then (d.noteClaim c).leadClaim.showDomain else d.noteClaim c := by
  unfold Dev.claimed
  dsimp only
  rw [if_pos (by rw [hen, h]; rfl)]
  rfl

theorem gives_claimReceived {c : Claim} (hen : s.dev.flag F.PEER_CTL_EN = true)
    (h : (s.dev.peer.pods.any fun m => m.id == c.origin && !m.foreign s.dev.bookId) = true) :
    Gives (.claimReceived c) s fun t => (∃ m ∈ t.dev.peer.pods, m.id = c.origin ∧ m.claim = c.codes.map (·.val) ∧
      m.claimPhase = c.phase.val) ∧ Leaves [.peer, .wide] domainRegs s t := by
  let x := s.dev.begin_.noteClaim c
  have hx : Alters [.peer, .wide] domainRegs s.dev.begin_ x :=
    (alters_peer _ _).mono (by decide) fun _ ha => absurd ha List.not_mem_nil
  have hlead : Alters [.peer, .wide] domainRegs x x.leadClaim.showDomain :=
    ((alters_leadClaim x).mono (by decide) (by decide)).trans (alters_showDomain _)
  refine gives_link rfl (claimed_member (d := s.dev.begin_) hen h) (hx.trans (.ite (fun _ => hlead) fun _ => .refl x)) (by decide)
    fun t _ hpeer => ?_
  obtain ⟨m, hm, hid⟩ := List.any_eq_true.mp h
  have horigin : m.id = c.origin := beq_iff_eq.mp (Bool.and_eq_true_iff.mp hid).1
  have hnoted : { m with claim := c.codes.map (·.val), claimPhase := c.phase.val } ∈ x.peer.pods :=
    List.mem_map.mpr ⟨m, hm, if_pos horigin⟩
  have hkept : DomainKept x (if s.dev.begin_.peer.leader = some Config.deviceId then x.leadClaim.showDomain else x) :=
    .ite ((kept_leadClaim x).trans (onlyShown_showDomain _).kept) (.refl x)
  obtain ⟨n, hn, htold⟩ := hkept.pod hnoted
  rw [hpeer]
  exact ⟨n, hn, (congrArg Member.id htold).trans horigin, congrArg Member.claim htold, congrArg Member.claimPhase htold⟩

/-! ## This pod's ANNOUNCE (R349) -/

/-- This pod's next ANNOUNCE has its number, and the RANK in force. -/
def Dev.nextAnnounce (d : Dev) : Dev :=
  { d with peer := { d.peer with rank := d.par P.peer_rank 0, annSeq := (d.peer.annSeq + 1) % 2 ^ 16 } }

theorem announce_enabled {d : Dev} (h : d.flag F.PEER_CTL_EN = true) :
    ∃ a ls, d.announce = d.nextAnnounce.refreshDomain.forward a ls := ⟨_, _, if_pos h⟩

theorem gives_announceTimer (h : s.dev.flag F.PEER_CTL_EN = true) : Gives .announceTimer s fun t =>
    (t.dev.peer.annSeq = (s.dev.peer.annSeq + 1) % 2 ^ 16 ∧ t.dev.peer.rank = s.dev.par P.peer_rank 0) ∧
    Leaves [.peer, .wide, .cfg, .out] domainRegs s t := by
  obtain ⟨a, ls, hsent⟩ := announce_enabled (d := s.dev.begin_) h
  let x := s.dev.begin_.nextAnnounce
  have hshow : LinkShown s.dev.begin_ (x.refreshDomain.forward a ls) :=
    (LinkShown.peer _ _).trans ((shown_refreshDomain x).trans (shown_forward _ a ls))
  have hkept := (kept_refreshDomain x).trans (kept_forward _ a ls)
  refine gives_link rfl hsent (hshow.alters.mono (by decide) fun _ ha => ha) (by decide) fun t _ hpeer => ?_
  rw [hpeer]
  exact ⟨hkept.annSeq, hkept.rank⟩

/-! ## The start of an exchange (R352) -/

theorem startExchange_downstream {d : Dev} {l : Nat} {p : Wide} (hen : d.flag F.PEER_CTL_EN = true)
    (hup : d.laneState (d.linkHead l) = 3) (htwo : d.twoWay (d.linkHead l) = true)
    (hp : slook (d.linkHead l) d.peer.partners = some p) (hm : d.peer.members.contains p = true)
    (hdown : d.upstream ≠ some (d.linkHead l)) (hmaster : d.peer.master.isSome = true) :
    d.startExchange l = { d with peer := { d.peer with exchNo := (d.peer.exchNo + 1) % 2 ^ 16 } }.sendPeer
      (.time (d.linkHead l) ((d.peer.exchNo + 1) % 2 ^ 16) d.nowPs none) := by
  unfold Dev.startExchange
  refine if_pos ?_
  rw [hp, hen, hup, htwo, hmaster, bne_iff_ne.mpr hdown]
  dsimp only
  rw [hm]
  rfl

theorem gives_timeExchangeTick {lane : Fin 4} {p : Wide} (hen : s.dev.flag F.PEER_CTL_EN = true)
    (hup : s.dev.laneState (s.dev.linkHead lane.val) = 3) (htwo : s.dev.twoWay (s.dev.linkHead lane.val) = true)
    (hp : slook (s.dev.linkHead lane.val) s.dev.peer.partners = some p) (hm : s.dev.peer.members.contains p = true)
    (hdown : s.dev.upstream ≠ some (s.dev.linkHead lane.val)) (hmaster : s.dev.peer.master.isSome = true) :
    Gives (.timeExchangeTick lane) s fun t =>
      (t.dev.peer.sent = [.time (s.dev.linkHead lane.val) ((s.dev.peer.exchNo + 1) % 2 ^ 16) s.dev.nowPs none] ∧
      t.dev.peer.exchNo = (s.dev.peer.exchNo + 1) % 2 ^ 16) ∧ Leaves [.peer] [] s t := by
  refine gives_link rfl (startExchange_downstream (d := s.dev.begin_) hen hup htwo hp hm hdown hmaster) (alters_peer _ _) (by decide)
    fun t _ hpeer => ?_
  rw [hpeer]
  exact ⟨rfl, rfl⟩

/-! ## A pod that is not heard (R349) -/

/-- A pod is known no more. -/
def Dev.forgetPod (d : Dev) (id : Wide) : Dev := { d with peer := { d.peer with pods := d.peer.pods.filter fun m => m.id != id } }

theorem knows_forgetPod (d : Dev) (id : Wide) : ((d.forgetPod id).peer.pods.any fun m => m.id == id) = false := by
  refine List.any_eq_false.mpr fun m hm he => ?_
  have hne : (m.id != id) = true := (List.mem_filter.mp hm).2
  exact bne_iff_ne.mp hne (beq_iff_eq.mp he)

theorem gives_memberTimeout {id : Wide} (h : (s.dev.peer.pods.any fun m => m.id == id) = true) : Gives (.memberTimeout id) s fun t =>
    (t.dev.peer.pods.any fun m => m.id == id) = false ∧ Leaves [.peer, .wide, .cfg, .out] domainRegs s t := by
  let x := s.dev.begin_.forgetPod id
  refine gives_link (e := x.refreshDomain) rfl (if_pos h)
    (((LinkShown.peer _ _).trans (shown_refreshDomain x)).alters.mono (by decide) fun _ ha => ha) (by decide) fun t _ hpeer => ?_
  rw [hpeer, (kept_refreshDomain x).knows]
  exact knows_forgetPod _ id

end

/-! ## The statement -/

/-- Settles O26: each clause is the rule of its message; a good block is one of its link, or waits for those of the other lanes. -/
theorem domainMessagesAct : Obligations.DomainMessagesAct := by
  unfold Obligations.DomainMessagesAct
  refine fun s => ⟨fun lane marker chars hlen h => ?_, fun lane chars hlen h hhead hcrc hlo hhi => ?_,
    fun c hen h => gives_claimReceived hen h, fun h => ?_, fun lane p hen hup htwo hp hm hdown hmaster => ?_,
    fun id h => gives_memberTimeout h⟩
  · exact gives_imp (gives_badBlock marker hlen h) fun _ => and_assoc.mp
  · exact ⟨gives_segment hlen h ⟨hhead, hcrc, hlo, hhi⟩, gives_waits hlen h ⟨hhead, hcrc, hlo, hhi⟩⟩
  · exact gives_imp (gives_announceTimer h) fun _ => and_assoc.mp
  · exact gives_imp (gives_timeExchangeTick hen hup htwo hp hm hdown hmaster) fun _ => and_assoc.mp

end Sys2Proof.Machine
end

section
/-! SUPPORT. A completed exchange with the upstream partner (R352): its answer, its delay among the last 16, and its offset. -/

namespace Sys2Proof.Machine

/-! ## The servo leaves the link's state -/

theorem peer_stepNow (d : Dev) (ps : Int) : (d.stepNow ps).peer = d.peer := by
  unfold Dev.stepNow
  simp only [Dev.raise_peer, Dev.bump_peer, Dev.setFlag_peer]

theorem peer_placeStep (d : Dev) (ps : Int) : (d.placeStep ps).peer = d.peer := by
  unfold Dev.placeStep
  dsimp only
  split_ifs
  · rfl
  · exact peer_stepNow d ps
  · rfl

theorem peer_learnOn (d : Dev) : d.learnOn.peer = d.peer := by
  unfold Dev.learnOn
  dsimp only
  split <;> rfl

theorem peer_servoActs (d : Dev) (theta : Int) (dt : Nat) : (d.servoActs theta dt).peer = d.peer := by
  unfold Dev.servoActs
  split_ifs
  · exact peer_placeStep d theta
  · exact peer_placeStep d theta
  · rfl

theorem peer_applyOffset (d : Dev) (theta : Int) : (d.applyOffset theta).peer = d.peer := by
  obtain ⟨dt, h⟩ := applyOffset_eq d theta
  rw [h, peer_servoActs]
  exact peer_learnOn d

/-! ## The exchange -/

/-- The delay of an exchange in ps: half of the two ways together, rounded down. -/
def exchangeDelay (x : TimeExchange) : Int := (((x.t4 : Int) - x.t3) + ((x.t2 : Int) - x.t1)).fdiv 2

/-- The offset of an exchange on lane `l` in ps. -/
def Dev.exchangeOffset (d : Dev) (l : Nat) (x : TimeExchange) : Int :=
  (((x.t4 : Int) - x.t3) - ((x.t2 : Int) - x.t1)).fdiv 2 + d.parI P.peer_asym_ps (d.linkHead l)

/-- The answer of an exchange on lane `l`, with t2 and t3. -/
def Dev.answerOf (d : Dev) (l : Nat) (x : TimeExchange) : PeerMsg := .time (d.linkHead l) x.number x.t1 (some (x.t2, x.t3))

/-- The part that has answered an exchange and holds its delay among the last 16. -/
def Dev.noteExchange (d : Dev) (l : Nat) (x : TimeExchange) : Dev :=
  { d with peer := { d.peer with
      sent := d.peer.sent ++ [d.answerOf l x], delays := (exchangeDelay x :: d.peer.delays).take 16 } }

/-- The delay of an exchange lies more than 20 ns from the median of the last. -/
def Dev.farDelay (d : Dev) (x : TimeExchange) : Bool :=
  !d.peer.delays.isEmpty && decide (40000 < (2 * exchangeDelay x - median2 d.peer.delays).natAbs)

/-- The offset and the delay of an exchange are applied and shown. -/
def Dev.applyExchange (d : Dev) (theta delay : Int) : Dev :=
  ((d.applyOffset theta).put Reg.PEER_OFFSET (BitVec.ofInt 32 (clampI (-2 ^ 31) (2 ^ 31 - 1) (roundDiv theta 100)))).put Reg.PEER_DELAY
    (BitVec.ofInt 32 (clampI 0 (2 ^ 32 - 1) (roundDiv delay 100)))

theorem exchange_upstream {d : Dev} {l : Nat} (x : TimeExchange) (h : d.upstream = some (d.linkHead l)) :
    d.exchange l x = if d.farDelay x || d.activeSrc != 2 then d.noteExchange l x
      else (d.noteExchange l x).applyExchange (d.exchangeOffset l x) (exchangeDelay x) := if_pos h

theorem not_farDelay {d : Dev} {x : TimeExchange}
    (h : d.peer.delays = [] ∨ (2 * exchangeDelay x - median2 d.peer.delays).natAbs ≤ 40000) : d.farDelay x = false := by
  rcases h with h | h
  · rw [Dev.farDelay, h]
    rfl
  · rw [Dev.farDelay, decide_eq_false (Nat.not_lt.mpr h), Bool.and_false]

theorem alters_applyExchange (d : Dev) (theta delay : Int) :
    Alters [.time] (Reg.PEER_OFFSET :: Reg.PEER_DELAY :: servoRegs) d (d.applyExchange theta delay) :=
  (((alters_applyOffset d theta).mono (fun _ hp => hp) fun _ ha => List.mem_cons_of_mem _ (List.mem_cons_of_mem _ ha)).put _ _
    (by decide)).put _ _ (by decide)

theorem peer_applyExchange (d : Dev) (theta delay : Int) : (d.applyExchange theta delay).peer = d.peer := peer_applyOffset d theta

section
variable {s : State} {lane : Fin 4} {x : TimeExchange}

theorem gives_exchange_noted (h : s.dev.upstream = some (s.dev.linkHead lane.val)) (hsrc : s.dev.activeSrc ≠ 2) :
    Gives (.timeBlockReceived lane x) s fun t => (t.dev.peer.sent = [s.dev.answerOf lane.val x] ∧
      t.dev.peer.delays = (exchangeDelay x :: s.dev.peer.delays).take 16) ∧ Leaves [.peer] [] s t := by
  have hkeep : (s.dev.begin_.farDelay x || s.dev.begin_.activeSrc != 2) = true := by
    rw [show (s.dev.begin_.activeSrc != 2) = true from bne_iff_ne.mpr hsrc, Bool.or_true]
  refine gives_link rfl ((exchange_upstream (d := s.dev.begin_) x h).trans (if_pos hkeep)) (alters_peer _ _) (by decide)
    fun t _ hpeer => ?_
  rw [hpeer]
  exact ⟨rfl, rfl⟩

theorem gives_exchange_applied (h : s.dev.upstream = some (s.dev.linkHead lane.val)) (hsrc : s.dev.activeSrc = 2)
    (hnear : s.dev.peer.delays = [] ∨ (2 * exchangeDelay x - median2 s.dev.peer.delays).natAbs ≤ 40000) :
    Gives (.timeBlockReceived lane x) s fun t => (t.dev.peer.sent = [s.dev.answerOf lane.val x] ∧
      t.dev.peer.delays = (exchangeDelay x :: s.dev.peer.delays).take 16 ∧
      t.dev.reg Reg.PEER_OFFSET =
        BitVec.ofInt 32 (clampI (-2 ^ 31) (2 ^ 31 - 1) (roundDiv (s.dev.exchangeOffset lane.val x) 100)) ∧
      t.dev.reg Reg.PEER_DELAY = BitVec.ofInt 32 (clampI 0 (2 ^ 32 - 1) (roundDiv (exchangeDelay x) 100))) ∧
      Leaves [.peer, .time] [Reg.PEER_OFFSET, Reg.PEER_DELAY, Reg.TIME_STAT, Reg.TIME_RATE, Reg.TIME_STEP_CNT,
        C.TIME_STEP_CNT.sat] s t := by
  have happly : ¬(s.dev.begin_.farDelay x || s.dev.begin_.activeSrc != 2) = true := by
    rw [not_farDelay (d := s.dev.begin_) hnear, show (s.dev.begin_.activeSrc != 2) = false from bne_eq_false_iff_eq.mpr hsrc]
    exact Bool.false_ne_true
  let y := s.dev.begin_.noteExchange lane.val x
  have halter : Alters [.peer, .time] [Reg.PEER_OFFSET, Reg.PEER_DELAY, Reg.TIME_STAT, Reg.TIME_RATE, Reg.TIME_STEP_CNT,
      C.TIME_STEP_CNT.sat] s.dev.begin_ (y.applyExchange (s.dev.begin_.exchangeOffset lane.val x) (exchangeDelay x)) :=
    Alters.trans (y := y) ((alters_peer _ _).mono (by decide) fun _ ha => absurd ha List.not_mem_nil)
      ((alters_applyExchange y _ _).mono (by decide) (by decide))
  refine gives_link rfl ((exchange_upstream (d := s.dev.begin_) x h).trans (if_neg happly)) halter (by decide)
    fun t ht hpeer => ⟨?_, ?_, ?_, ?_⟩
  · rw [hpeer, peer_applyExchange]
    rfl
  · rw [hpeer, peer_applyExchange]
    rfl
  · rw [ht.reg Reg.PEER_OFFSET rfl rfl, Dev.applyExchange, Dev.reg_put_ne _ _ _ _ (by decide), Dev.reg_put_self]
    rfl
  · rw [ht.reg Reg.PEER_DELAY rfl rfl, Dev.applyExchange, Dev.reg_put_self]

end

/-- Settles O27: an exchange whose offset is not applied is noted; any other is applied and shown. -/
theorem exchangesGiveDelayAndOffset : Obligations.ExchangesGiveDelayAndOffset := by
  unfold Obligations.ExchangesGiveDelayAndOffset
  refine fun s lane x h => ⟨fun hsrc => ?_, fun hsrc hnear => ?_⟩
  · exact gives_imp (gives_exchange_noted h hsrc) fun _ => and_assoc.mp
  · exact gives_imp (gives_exchange_applied h hsrc hnear) fun _ ⟨⟨hsent, hdelays, hoff, hdelay⟩, hl⟩ =>
      ⟨hsent, hdelays, hoff, hdelay, hl⟩

end Sys2Proof.Machine
end

section
/-! SUPPORT. Grants (R355, R356): what is noted of one, what a pod does with its own while it applies none, and the leader's sending. -/

namespace Sys2Proof.Machine

/-! ## A grant to this pod while CODE_MODE is 0 (R356) -/

/-- CODE_SHARED says whether a code is shared; one that is raises its event (R357). -/
def Dev.shareCode (d : Dev) (on : Bool) : Dev :=
  if on then (d.setFlag F.PEER_STAT_CODE_SHARED true).raise Ev.peerCode else d.setFlag F.PEER_STAT_CODE_SHARED false

/-- A grant that is not applied only reports: a conflict, and a shared code. -/
theorem takeGrant_reports {d : Dev} (h : d.flag F.PEER_CTL_CODE_MODE = false) (leader : Wide) (n : Nat) (codes : List Nat) (phase : Nat) :
    ∃ conflict shared : Bool, d.takeGrant leader n codes phase = (if conflict then d.mark Reg.PEER_EVT 2 else d).shareCode shared :=
  ⟨_, _, if_neg (Bool.eq_false_iff.mp h)⟩

/-- What a pod makes of a grant that it does not apply. -/
structure GrantReported (x y : Dev) : Prop where
  alters : Alters [] [Reg.PEER_EVT, Reg.PEER_STAT] x y
  peer : y.peer = x.peer

theorem GrantReported.refl (x : Dev) : GrantReported x x := ⟨.refl x, rfl⟩

theorem reported_takeGrant {d : Dev} (h : d.flag F.PEER_CTL_CODE_MODE = false) (leader : Wide) (n : Nat) (codes : List Nat)
    (phase : Nat) : GrantReported d (d.takeGrant leader n codes phase) := by
  obtain ⟨conflict, shared, he⟩ := takeGrant_reports h leader n codes phase
  have hmark : GrantReported d (if conflict then d.mark Reg.PEER_EVT 2 else d) := by
    split
    · exact ⟨(Alters.refl d).setBit _ _ _ (by decide), rfl⟩
    · exact .refl d
  rw [he]
  unfold Dev.shareCode
  split
  · exact ⟨(hmark.alters.setFlag _ _ (by decide)).raise _ _ _, hmark.peer⟩
  · exact ⟨hmark.alters.setFlag _ _ (by decide), hmark.peer⟩

/-- What follows when a grant has been reported and the domain is shown. -/
theorem GrantReported.shown {x y : Dev} (h : GrantReported x y) : Alters [.peer, .wide] domainRegs x y.showDomain :=
  (h.alters.mono (by decide) (by decide)).trans (alters_showDomain y)

theorem GrantReported.peer_shown {x y : Dev} (h : GrantReported x y) :
    y.showDomain.peer = { x.peer with facing := y.showDomain.peer.facing } := by
  rw [(onlyShown_showDomain y).peer, h.peer]

/-! ## A grant of the leader -/

/-- A code of a grant, 0xFF for none. -/
def grantedCode (x : Option (Fin 64)) : Nat := (x.map (·.val)).getD 0xFF

/-- The grants of the members are noted, and the number of the GRANT. -/
def Dev.noteGrant (d : Dev) (g : GrantMsg) : Dev :=
  let x := d.noteGrants (g.members.map fun m => (m.1, m.2.1.map grantedCode, m.2.2.val))
  { x with peer := { x.peer with grantNo := g.number.toNat, grantTaken := true } }

/-- The pod's own place in a GRANT. -/
def Dev.takeNamed (d : Dev) (g : GrantMsg) : Dev :=
  match g.members.find? fun m => m.1 == Config.deviceId with
  | some m => d.takeGrant g.leader g.number.toNat (m.2.1.map grantedCode) m.2.2.val
  | none => d

theorem granted_leader {d : Dev} {g : GrantMsg} (hen : d.flag F.PEER_CTL_EN = true) (hlead : d.peer.leader = some g.leader)
    (hother : g.leader ≠ Config.deviceId) (hnew : d.peer.grantTaken = true → d.peer.grantNo ≠ g.number.toNat) :
    d.granted g = ((d.noteGrant g).takeNamed g).showDomain := by
  have hfresh : (d.peer.grantTaken && d.peer.grantNo == g.number.toNat) = false :=
    Bool.and_eq_false_imp.mpr fun ht => beq_eq_false_iff_ne.mpr (hnew ht)
  refine if_pos ?_
  rw [hen, hlead, hfresh, bne_iff_ne.mpr hother, beq_self_eq_true]
  rfl

theorem alters_noteGrant (d : Dev) (g : GrantMsg) : Alters [.peer] [] d (d.noteGrant g) := alters_peer d _

theorem gives_granted {s : State} {g : GrantMsg} (hen : s.dev.flag F.PEER_CTL_EN = true) (hlead : s.dev.peer.leader = some g.leader)
    (hother : g.leader ≠ Config.deviceId) (hnew : s.dev.peer.grantTaken = true → s.dev.peer.grantNo ≠ g.number.toNat)
    (hrep : GrantReported (s.dev.begin_.noteGrant g) ((s.dev.begin_.noteGrant g).takeNamed g)) :
    Gives (.grantReceived g) s fun t => (t.dev.peer.grantNo = g.number.toNat ∧ t.dev.peer.grantTaken = true ∧ t.dev.cfg = s.dev.cfg) ∧
      Leaves [.peer, .wide] domainRegs s t := by
  have halter := ((alters_noteGrant s.dev.begin_ g).mono (by decide) fun _ ha => absurd ha List.not_mem_nil).trans hrep.shown
  refine gives_link rfl (granted_leader (d := s.dev.begin_) hen hlead hother hnew) halter (by decide) fun t ht hpeer => ⟨?_, ?_, ?_⟩
  · rw [hpeer, hrep.peer_shown]
    rfl
  · rw [hpeer, hrep.peer_shown]
    rfl
  · exact (ht.parts .cfg).trans (halter.same .cfg (by decide))

/-- A GRANT that names other pods only. -/
theorem takeNamed_foreign {d : Dev} {g : GrantMsg} (h : ∀ m ∈ g.members, m.1 ≠ Config.deviceId) : d.takeNamed g = d := by
  have hnone : (g.members.find? fun m => m.1 == Config.deviceId) = none :=
    List.find?_eq_none.mpr fun m hm he => h m hm (beq_iff_eq.mp he)
  rw [Dev.takeNamed, hnone]

theorem reported_takeNamed {d : Dev} (h : d.flag F.PEER_CTL_CODE_MODE = false) (g : GrantMsg) : GrantReported d (d.takeNamed g) := by
  unfold Dev.takeNamed
  split
  · exact reported_takeGrant h _ _ _ _
  · exact .refl d

/-! ## The leader's sending (R355) -/

/-- The GRANT of this pod as the leader. -/
def ownGrant (n : Nat) (gs : List Member) : GrantMsg :=
  ⟨Config.deviceId, BitVec.ofNat 16 n,
    gs.map fun m => (m.id, m.codes.map fun c => if c < 64 then some (Fin.ofNat 64 c) else none, Fin.ofNat 16 m.phase)⟩

/-- A GRANT has its number and leaves, where there are members to receive it. -/
def Dev.postGrant (d : Dev) (n : Nat) (gs : List Member) : Dev :=
  let x : Dev := { d with peer := { d.peer with grantNo := n, grantDue := false } }
  if x.peer.members.isEmpty then x else x.sendPeer (.grant (ownGrant n gs))

/-- The leader takes its own grant. -/
def Dev.takeOwn (d : Dev) (n : Nat) (gs : List Member) : Dev :=
  match gs.find? fun m => m.id == Config.deviceId with
  | some m => d.takeGrant Config.deviceId n m.codes m.phase
  | none => d

theorem sendGrant_leader {d : Dev} (hen : d.flag F.PEER_CTL_EN = true) (hdue : d.peer.grantDue = true)
    (hlead : d.peer.leader = some Config.deviceId) :
    d.sendGrant =
      let x := d.recomputeGrants
      let n := (x.peer.grantNo + 1) % 2 ^ 16
      ((x.postGrant n x.grants).takeOwn n x.grants).showDomain := by
  refine if_pos ?_
  rw [hen, hdue, hlead, beq_self_eq_true]
  rfl

theorem alters_postGrant (d : Dev) (n : Nat) (gs : List Member) : Alters [.peer] [] d (d.postGrant n gs) := by
  unfold Dev.postGrant
  exact .ite (fun _ => alters_peer d _) fun _ => alters_peer d _

/-- A GRANT takes the next number, and goes to the members. -/
theorem peer_postGrant (d : Dev) (n : Nat) (gs : List Member) :
    (d.postGrant n gs).peer.grantNo = n ∧ (d.postGrant n gs).peer.grantDue = false ∧
    (d.peer.members ≠ [] → (d.postGrant n gs).peer.sent = d.peer.sent ++ [.grant (ownGrant n gs)]) := by
  unfold Dev.postGrant
  dsimp only
  split
  · next h => exact ⟨rfl, rfl, fun hm => absurd (List.isEmpty_iff.mp h) hm⟩
  · exact ⟨rfl, rfl, fun _ => rfl⟩

theorem reported_takeOwn {d : Dev} (h : d.flag F.PEER_CTL_CODE_MODE = false) (n : Nat) (gs : List Member) :
    GrantReported d (d.takeOwn n gs) := by
  unfold Dev.takeOwn
  split
  · exact reported_takeGrant h _ _ _ _
  · exact .refl d

theorem gives_grantSend {s : State} (hen : s.dev.flag F.PEER_CTL_EN = true) (hdue : s.dev.peer.grantDue = true)
    (hlead : s.dev.peer.leader = some Config.deviceId) (hmode : s.dev.flag F.PEER_CTL_CODE_MODE = false) :
    Gives .grantSend s fun t => (t.dev.peer.grantNo = (s.dev.peer.grantNo + 1) % 2 ^ 16 ∧ t.dev.peer.grantDue = false ∧
      (s.dev.peer.members ≠ [] → ∃ l, t.dev.peer.sent = [.grant ⟨Config.deviceId,
        BitVec.ofNat 16 ((s.dev.peer.grantNo + 1) % 2 ^ 16), l⟩])) ∧ Leaves [.peer, .wide] domainRegs s t := by
  let x := s.dev.begin_.recomputeGrants
  let n := (s.dev.peer.grantNo + 1) % 2 ^ 16
  let y := x.postGrant n x.grants
  have hx : x.peer = { s.dev.begin_.peer with pods := x.peer.pods } := peer_recomputeGrants _
  have hno : x.peer.grantNo = s.dev.peer.grantNo := (congrArg PeerSt.grantNo hx).trans rfl
  have hmem : x.peer.members = s.dev.peer.members := (congrArg PeerSt.members hx).trans rfl
  have hnone : x.peer.sent = [] := congrArg PeerSt.sent hx
  have hsend : s.dev.begin_.sendGrant = (y.takeOwn n x.grants).showDomain := by
    rw [sendGrant_leader (d := s.dev.begin_) hen hdue hlead]
    dsimp only
    rw [hno]
  have hrecompute := alters_recomputeGrants s.dev.begin_
  have hymode : y.flag F.PEER_CTL_CODE_MODE = false :=
    ((alters_postGrant x n x.grants).flag List.not_mem_nil).trans ((hrecompute.flag (by decide)).trans hmode)
  have hrep := reported_takeOwn hymode n x.grants
  have halter := (hrecompute.mono (by decide) (by decide)).trans
    (((alters_postGrant x n x.grants).mono (by decide) fun _ ha => absurd ha List.not_mem_nil).trans hrep.shown)
  obtain ⟨hnum, hdone, hsent⟩ := peer_postGrant x n x.grants
  refine gives_link rfl hsend halter (by decide) fun t _ hpeer => ?_
  rw [hpeer, hrep.peer_shown]
  have hall (hm : s.dev.peer.members ≠ []) : y.peer.sent = [.grant (ownGrant n x.grants)] := by
    simpa only [hnone, List.nil_append] using hsent (hmem.symm ▸ hm)
  exact ⟨hnum, hdone, fun hm => ⟨(ownGrant n x.grants).members, hall hm⟩⟩

/-! ## The statement -/

/-- Settles O28: a GRANT of the leader that names this pod not at all, or under CODE_MODE 0, is noted; a GRANT of its own is sent. -/
theorem grantsAreTaken : Obligations.GrantsAreTaken := by
  unfold Obligations.GrantsAreTaken
  refine fun s => ⟨fun g hen hlead hother hnew hforeign => ?_, fun g hen hlead hother hnew hmode => ?_, fun hen hdue hlead hmode => ?_⟩
  · exact gives_imp (gives_granted hen hlead hother hnew (takeNamed_foreign hforeign ▸ .refl _)) fun _ ⟨⟨hno, htaken, _⟩, hl⟩ =>
      ⟨hno, htaken, hl⟩
  · have hnoted := ((alters_noteGrant s.dev.begin_ g).flag List.not_mem_nil).trans hmode
    exact gives_imp (gives_granted hen hlead hother hnew (reported_takeNamed hnoted g)) fun _ ⟨⟨hno, _, hcfg⟩, hl⟩ =>
      ⟨hno, hcfg, hl⟩
  · exact gives_imp (gives_grantSend hen hdue hlead hmode) fun _ ⟨⟨hno, hdue, hsent⟩, hl⟩ => ⟨hno, hdue, hsent, hl⟩

end Sys2Proof.Machine
end

section
/-! SUPPORT. What any command or event does (R437, R446, R652): work on the part in the frame of a step, or the fault of operands that
cannot be laid out (log entry 4). -/

namespace Sys2Proof.Machine

/-- A result is that of some work on the part, or the fault of operands that cannot be laid out. -/
def WorkOrFault (wf : Bool) (s : State) (r : Host.Outcome State Fault Refusal) : Prop :=
  (∃ f, r = .next (s.onDev f)) ∨ (wf = false ∧ r = .fault .illFormed)

theorem workOrFault_next {wf : Bool} {s : State} (f : List Host.Cell → Dev → Dev) : WorkOrFault wf s (.next (s.onDev f)) := .inl ⟨f, rfl⟩

theorem workOrFault_ite {c : Prop} [Decidable c] {wf : Bool} {s : State} (f : List Host.Cell → Dev → Dev) (h : ¬c → wf = false) :
    WorkOrFault wf s (if c then .next (s.onDev f) else .fault .illFormed) := by
  split
  · exact workOrFault_next f
  · exact .inr ⟨h ‹_›, rfl⟩

theorem exec_workOrFault (i : Instr) (s : State) : WorkOrFault i.wf s (exec i s) := by
  cases i
  case resetRelease flushed => exact workOrFault_ite _ fun h => beq_eq_false_iff_ne.mpr h
  case hkRound regions spots => exact workOrFault_ite _ fun h => by simpa [Instr.wf] using h
  case fastRound spots => exact workOrFault_ite _ fun h => beq_eq_false_iff_ne.mpr h
  case hotspotCompare spots => exact workOrFault_ite _ fun h => beq_eq_false_iff_ne.mpr h
  case governorTick pace => exact workOrFault_ite _ fun h => beq_eq_false_iff_ne.mpr h
  case peerBlockReceived lane marker violation chars => exact workOrFault_ite _ fun h => beq_eq_false_iff_ne.mpr h
  case apertureAccess offset length write upset =>
    refine workOrFault_ite _ fun h => ?_
    rw [Instr.wf, Bool.eq_false_iff.mpr h, Bool.false_and]
  all_goals exact workOrFault_next _

theorem onDev_inv (s : State) (f : List Host.Cell → Dev → Dev) (h : Memory.wf s.mem = true) : Inv (s.onDev f) :=
  ⟨onDev_wf s f h, onDev_outbox s f, onDev_raised s f⟩

/-- Settles O58: the frame of a step never touches the queue, and the fault is that of the operands' lengths. -/
theorem wellFormedCommandsComplete : Obligations.WellFormedCommandsComplete := by
  unfold Obligations.WellFormedCommandsComplete
  intro s
  refine ⟨fun i hi => ?_, fun l h => if_neg h, fun l m h => if_neg h, fun l h => if_neg h, fun l h => if_neg h, fun l h => if_neg h,
    fun o n b u h => if_neg fun hb => h (eq_of_beq hb), fun lane m v l h => if_neg h⟩
  rcases exec_workOrFault i s with ⟨f, hf⟩ | ⟨hw, -⟩
  · exact ⟨_, hf, rfl⟩
  · exact absurd (hi.symm.trans hw) (by decide)

/-- Settles O59: a step that answers a next state is some work in the frame of a step. -/
theorem everyStepKeepsTheInvariant : Obligations.EveryStepKeepsTheInvariant := by
  unfold Obligations.EveryStepKeepsTheInvariant
  rintro s t ⟨hwf, -, -⟩ hstep
  unfold step at hstep
  cases hp : s.pending with
  | nil =>
    rw [hp] at hstep
    cases hstep
    exact ⟨onDev_inv s _ hwf, hp⟩
  | cons c rest =>
    rw [hp] at hstep
    rcases exec_workOrFault c { s with pending := rest } with ⟨f, hf⟩ | ⟨-, hf⟩
    · cases hstep.symm.trans hf
      exact ⟨onDev_inv { s with pending := rest } f hwf, rfl⟩
    · cases hstep.symm.trans hf

theorem alters_idleTick (d : Dev) : Alters [.time] [] d d.idleTick := by
  unfold Dev.idleTick
  exact .ite (fun _ => alters_time d _) fun _ => .refl d

theorem ticks_idleTick (d : Dev) : d.idleTick.time.ticks = d.time.ticks + b2n d.locked := by
  unfold Dev.idleTick
  cases d.locked <;> rfl

/-- Settles O57: the front of the queue by the definition of a step, and the idle period by what it alters. -/
theorem stepRunsTheFront : Obligations.StepRunsTheFront := by
  unfold Obligations.StepRunsTheFront
  intro s
  refine ⟨fun c rest hp => by unfold step; rw [hp], fun hp => ⟨s.onDev fun _ d => d.idleTick, by unfold step; rw [hp], hp, ?_,
    (alters_idleTick s.dev.begin_).stepLeaves List.not_mem_nil⟩⟩
  rw [onDev_time]
  exact ticks_idleTick s.dev.begin_

end Sys2Proof.Machine
end

section
/-! SUPPORT. The commands that report (R459 to R472): each answers with what its row lays out. -/

namespace Sys2Proof.Machine

/-- Settles O1: each body answers at once and leaves the part to the reply machinery. -/
theorem reportingCommandsAnswer : Obligations.ReportingCommandsAnswer := by
  unfold Obligations.ReportingCommandsAnswer
  intro s c
  exact ⟨answers (body := bodySysNop) rfl fun _ _ _ _ _ => rfl, answers (body := bodySysIdent) rfl fun _ _ _ _ _ => rfl,
    answers (body := bodySysStatus) rfl fun _ _ _ _ _ => rfl, answers (body := bodyTimeGet) rfl fun _ _ _ _ _ => rfl,
    answers (body := bodySafetyStatus) rfl fun _ _ _ _ _ => rfl, answers (body := bodyPeerStatus) rfl fun _ _ _ _ _ => rfl,
    answers (body := bodyMemStatus) rfl fun _ _ _ _ _ => rfl, answers (body := bodyPwrStatus) rfl fun _ _ _ _ _ => rfl,
    answers (body := bodyThmStatus) rfl fun _ _ _ _ _ => rfl⟩

theorem outStatus_answers {s : State} {c : Cmd} (h : (c.packet 0x0501).u 0 1 ≤ 2) : Answers (.outStatus c) c 0x0501 s
    (leBytes 4 (s.dev.reg (Reg.ING_S_WR ((c.packet 0x0501).u 0 1))).toNat ++ leBytes 4 (s.dev.reg (Reg.ING_S_RD ((c.packet 0x0501).u 0 1))).toNat
      ++ leBytes 4 (s.dev.reg (Reg.ING_S_STAT ((c.packet 0x0501).u 0 1))).toNat ++ leBytes 4 (s.dev.reg Reg.ING_SEQ).toNat
      ++ leBytes 8 (s.dev.wide64 Reg.ING_DROP_FULL_LO)) :=
  answers (body := bodyOutStatus) rfl fun _ _ _ _ _ => refuseIf_false (decide_eq_false (Nat.not_lt.mpr h)) rfl

/-- The value of an element that `cfg.get` reports, from the source it names (R464). -/
def Dev.reported (d : Dev) (i e src : Nat) : Option Nat :=
  if src = 0 then some (d.par i e) else if src = 1 then d.committed 0 (pkey i e) else slook (setKey (src - 1) (pkey i e)) d.cfg.images

/-- The results of `cfg.get`: none where its source holds no value (R464). -/
def reportResults (size : Nat) : Option Nat → List Byte
  | some v => leBytes 1 size ++ zeros 7 ++ leBytes 16 (v % 2 ^ (8 * size))
  | none => []

theorem bodyCfgGet_ok {p : Packet} {mem : List Host.Cell} {d : Dev} {r : Param} (hr : param? (p.u 0 2) = some r)
    (he : p.u 4 4 < r.elems) (hsrc : p.u 8 1 ≤ 16) :
    bodyCfgGet p mem d = .ok d (reportResults r.esize (d.reported (p.u 0 2) (p.u 4 4) (p.u 8 1))) := by
  unfold bodyCfgGet
  dsimp only
  rw [hr]
  dsimp only
  rw [if_neg (by omega), show (if p.u 8 1 = 0 then some (d.par (p.u 0 2) (p.u 4 4)) else if p.u 8 1 = 1 then
    d.committed 0 (pkey (p.u 0 2) (p.u 4 4)) else slook (setKey (p.u 8 1 - 1) (pkey (p.u 0 2) (p.u 4 4))) d.cfg.images) =
    d.reported (p.u 0 2) (p.u 4 4) (p.u 8 1) from rfl]
  cases d.reported (p.u 0 2) (p.u 4 4) (p.u 8 1) <;> rfl

theorem cfgGet_answers {s : State} {c : Cmd} {r : Param} (hr : param? ((c.packet 0x0601).u 0 2) = some r)
    (he : (c.packet 0x0601).u 4 4 < r.elems) (hsrc : (c.packet 0x0601).u 8 1 ≤ 16) : Answers (.cfgGet c) c 0x0601 s
      (reportResults r.esize (s.dev.reported ((c.packet 0x0601).u 0 2) ((c.packet 0x0601).u 4 4) ((c.packet 0x0601).u 8 1))) :=
  answers (body := bodyCfgGet) rfl fun _ _ _ _ _ => bodyCfgGet_ok hr he hsrc

theorem hkRead_answers {s : State} {c : Cmd} (h : (c.packet 0x0A02).u 0 1 ≤ 31) : Answers (.hkRead c) c 0x0A02 s
    (leBytes 2 (field (s.dev.reg (Reg.HK_SENSE_WORD ((c.packet 0x0A02).u 0 1))) 0 16)
      ++ leBytes 1 (field (s.dev.reg (Reg.HK_SENSE_WORD ((c.packet 0x0A02).u 0 1))) 16 3) ++ zeros 5
      ++ leBytes 8 (sget (fun _ => 0) ((c.packet 0x0A02).u 0 1) s.dev.hk.sampled)) :=
  answers (body := bodyHkRead) rfl fun _ _ _ _ _ => refuseIf_false (decide_eq_false (Nat.not_lt.mpr h)) rfl

/-- `dbg.cmd_stats` finds its own fetch counted already, where it reports on its own pair (R472). -/
theorem dbgCmdStats_answers {s : State} {c : Cmd} (h : (c.packet 0x0D04).u 0 1 ≤ 15) : Answers (.dbgCmdStats c) c 0x0D04 s
    (leBytes 4 ((s.dev.pair ((c.packet 0x0D04).u 0 1)).nFetched + if (c.packet 0x0D04).u 0 1 = c.pair.val then 1 else 0)
      ++ leBytes 4 (s.dev.pair ((c.packet 0x0D04).u 0 1)).ackMax ++ leBytes 4 (s.dev.pair ((c.packet 0x0D04).u 0 1)).nMiss
      ++ leBytes 4 (s.dev.pair ((c.packet 0x0D04).u 0 1)).nRefused) := by
  refine answers (body := bodyDbgCmdStats) rfl fun p m k ht hq => refuseIf_false (decide_eq_false (Nat.not_lt.mpr h)) ?_
  rw [← hq, atStart_pair ht]
  split <;> rfl

/-- Settles O2: each body answers at once where its item is in range. -/
theorem itemReportsAnswer : Obligations.ItemReportsAnswer := by
  unfold Obligations.ItemReportsAnswer
  intro s c
  exact ⟨answers (body := bodyEmitSegStatus) rfl fun _ _ _ _ _ => rfl, answers (body := bodyLampStatus) rfl fun _ _ _ _ _ => rfl,
    outStatus_answers, fun _ hr he hsrc => cfgGet_answers hr he hsrc, hkRead_answers, dbgCmdStats_answers⟩

end Sys2Proof.Machine
end

section
/-! SUPPORT. The system, telemetry and debug commands (R459, R606, R616), and the telemetry period. -/

namespace Sys2Proof.Machine

theorem alters_tel (d : Dev) (x : TelSt) : Alters [.tel] [] d { d with tel := x } := by
  refine (Alters.refl d).direct (fun p hp => ?_) rfl rfl rfl rfl rfl
  cases p
  case tel => exact absurd (List.mem_singleton.mpr rfl) hp
  all_goals rfl

theorem sysReset_acts {s : State} {c : Cmd} (hkey : (c.packet 0x0004).u 0 2 = 0x5253) (hidle : s.dev.cfg.commits = []) :
    Acts (.sysReset c) c 0x0004 s [] [.rst] [] fun t => t.dev.rst = { s.dev.rst with softDue := true } := by
  refine acts (body := bodySysReset) (fun d => { d with rst := { d.rst with softDue := true } }) rfl (fun p m k _ _ => ?_)
    (fun _ _ _ => alters_rst _ _) List.not_mem_nil fun _ _ _ t ht => ht.parts .rst
  refine refuseIf_false ?_ (refuseIf_false (bne_eq_false_iff_eq.mpr hkey) rfl)
  show (!s.dev.cfg.commits.isEmpty) = false
  rw [hidle]
  rfl

/-- The telemetry runs with a period into a ring (R616). -/
def Dev.configTel (d : Dev) (period addr size : Nat) : Dev :=
  { d with tel := { d.tel with addr := addr, size := size, rmsXSum := 0, rmsYSum := 0, rmsCnt := 0 } }.put Reg.TEL_STAT
    (BitVec.ofNat 32 (period + if period = 0 then 0 else 2 ^ 16))

theorem alters_configTel (d : Dev) (period addr size : Nat) : Alters [.tel] [Reg.TEL_STAT] d (d.configTel period addr size) :=
  ((alters_tel d _).mono (fun _ hp => hp) fun _ ha => absurd ha List.not_mem_nil).put _ _ (List.mem_singleton_self _)

theorem bodyTelConfig_ok {p : Packet} {mem : List Host.Cell} {d : Dev} (h10 : p.u 0 4 % 10 = 0) (hmax : p.u 0 4 ≤ 60000)
    (hpage : p.u 8 8 % 4096 = 0) (hfit : p.u 8 8 + p.u 16 4 ≤ devMemSize) (h256 : p.u 16 4 % 256 = 0) (hlo : 4096 ≤ p.u 16 4)
    (hhi : p.u 16 4 ≤ 2 ^ 26) : bodyTelConfig p mem d = .ok (d.configTel (p.u 0 4) (p.u 8 8) (p.u 16 4)) [] := by
  have haddr : (p.u 8 8 % 4096 != 0 || !inDevMem (p.u 8 8) (p.u 16 4)) = false := by
    rw [hpage, inDevMem, decide_eq_true hfit]
    rfl
  exact refuseIf_false (not_of_true (decide_eq_true ⟨h10, hmax⟩)) (refuseIf_false haddr
    (refuseIf_false (not_of_true (decide_eq_true ⟨h256, hlo, hhi⟩)) rfl))

theorem telConfig_acts {s : State} {c : Cmd} {period addr size : Nat} (hp : (c.packet 0x0D01).u 0 4 = period)
    (ha : (c.packet 0x0D01).u 8 8 = addr) (hs : (c.packet 0x0D01).u 16 4 = size) (h10 : period % 10 = 0) (hmax : period ≤ 60000)
    (hpage : addr % 4096 = 0) (hfit : addr + size ≤ devMemSize) (h256 : size % 256 = 0) (hlo : 4096 ≤ size) (hhi : size ≤ 2 ^ 26) :
    Acts (.telConfig c) c 0x0D01 s [] [.tel] [Reg.TEL_STAT] fun t => t.dev.tel.addr = addr ∧ t.dev.tel.size = size ∧
      t.dev.reg Reg.TEL_STAT = BitVec.ofNat 32 (period + if period = 0 then 0 else 2 ^ 16) := by
  subst hp ha hs
  refine acts (fun d => d.configTel _ _ _) rfl (fun _ _ _ _ _ => bodyTelConfig_ok h10 hmax hpage hfit h256 hlo hhi)
    (fun _ _ _ => alters_configTel _ _ _ _) (by decide) fun p m k t ht => ?_
  have htel : t.dev.tel = _ := ht.parts .tel
  exact ⟨congrArg TelSt.addr htel, congrArg TelSt.size htel, (ht.reg Reg.TEL_STAT rfl rfl).trans (Dev.reg_put_self _ _ _)⟩

theorem telSnapshot_starts {s : State} {c : Cmd} (h : (c.packet 0x0D02).u 0 8 + 256 ≤ devMemSize) :
    Starts (.telSnapshot c) c 0x0D02 s 0 [] [] fun _ => True :=
  starts (fun d => d) rfl (fun _ _ _ _ _ => refuseIf_false (not_of_true (decide_eq_true h)) rfl) (fun _ _ _ => .refl _)
    List.not_mem_nil fun _ _ _ _ _ => trivial

/-- A test raises its source, and takes free values for details that it has none of (R606). -/
theorem raiseTest_raises (d : Dev) (n : Nat) : ∃ k a b, d.raiseTest n = { d with freeCtr := k }.raiseAs n true a b := by
  unfold Dev.raiseTest
  split_ifs with h h h h
  · exact ⟨_, _, _, rfl⟩
  · exact ⟨d.freeCtr, _, _, rfl⟩
  · exact ⟨d.freeCtr, _, _, rfl⟩
  · exact ⟨d.freeCtr, _, _, rfl⟩
  · exact ⟨d.freeCtr, _, _, rfl⟩

theorem dbgEventTest_acts {s : State} {c : Cmd} (h : (c.packet 0x0D03).u 0 2 ≤ 639) : Acts (.dbgEventTest c) c 0x0D03 s [] [.free] []
    fun t => Pending t ((c.packet 0x0D03).u 0 2) := by
  refine acts (body := bodyDbgEventTest) (fun d => d.raiseTest ((c.packet 0x0D03).u 0 2)) rfl
    (fun _ _ _ _ _ => refuseIf_false (decide_eq_false (Nat.not_lt.mpr h)) rfl) (fun p m k => ?_) List.not_mem_nil fun p m k t ht => ?_
  · obtain ⟨n, a, b, hraise⟩ := raiseTest_raises (withQueues s p m k) ((c.packet 0x0D03).u 0 2)
    rw [hraise]
    exact (alters_free _ n).raiseAs _ _ _ _
  · obtain ⟨n, a, b, hraise⟩ := raiseTest_raises (withQueues s p m k) ((c.packet 0x0D03).u 0 2)
    rw [hraise] at ht
    exact ht.raised ⟨_, true, a, b⟩ (List.mem_append_right _ (List.mem_singleton_self _)) (Nat.lt_succ_of_le h)

/-- Settles O3: each clause is the rule of its command. -/
theorem systemCommandsAct : Obligations.SystemCommandsAct := by
  unfold Obligations.SystemCommandsAct
  intro s c
  exact ⟨sysReset_acts, telConfig_acts rfl rfl rfl, telSnapshot_starts, dbgEventTest_acts⟩

/-- The number of the next telemetry record (R616). -/
def Dev.nextTel (d : Dev) : Nat := if d.tel.started then ((d.reg Reg.TEL_SEQ).toNat + 1) % 2 ^ 32 else 0

/-- The next record has been formed, and the sums of the loop errors start again. -/
def Dev.noteTel (d : Dev) : Dev :=
  { d with tel := { d.tel with started := true, rmsXSum := 0, rmsYSum := 0, rmsCnt := 0 } }.put Reg.TEL_SEQ (BitVec.ofNat 32 d.nextTel)

theorem alters_noteTel (d : Dev) : Alters [.tel] [Reg.TEL_SEQ] d d.noteTel :=
  ((alters_tel d _).mono (fun _ hp => hp) fun _ ha => absurd ha List.not_mem_nil).put _ _ (List.mem_singleton_self _)

theorem telPeriod_eq {d : Dev} (hrun : d.flag F.TEL_STAT_RUN = true) (hmem : d.memHalted = false) :
    d.telPeriod = d.noteTel.memw (d.tel.addr + d.nextTel % (d.tel.size / 256) * 256) (d.telRecord d.nextTel) := by
  unfold Dev.telPeriod
  rw [hrun, hmem]
  rfl

/-- Settles O5: the period is one write and what notes it. -/
theorem telemetryWritesItsRecord : Obligations.TelemetryWritesItsRecord := by
  unfold Obligations.TelemetryWritesItsRecord
  intro s hrun hmem
  have hperiod := telPeriod_eq (d := s.dev.begin_) hrun hmem
  have hnote := alters_noteTel s.dev.begin_
  have ht := onDev_settled s fun _ d => d.telPeriod
  rw [hperiod] at ht
  have htel : (s.onDev fun _ d => d.telPeriod).dev.tel = s.dev.begin_.noteTel.tel := ht.parts .tel
  refine ⟨_, rfl, (ht.reg Reg.TEL_SEQ rfl rfl).trans (Dev.reg_put_self _ _ _), congrArg TelSt.started htel, ht.written _ _ rfl rfl ?_ ?_,
    fun p hp => same_trans (same_trans (begin_same s.dev p) (hnote.same p hp)) (ht.parts p),
    fun a ha he hc => (ht.reg a he hc).trans (hnote.reg a ha)⟩
  · exact hnote.reg _ (by decide)
  · exact (memHalted_congr (hnote.reg Reg.MEM_STAT (by decide))).trans hmem

end Sys2Proof.Machine
end

section
/-! SUPPORT. A `lamp.diagnose` that is refused while an earlier one of an empty mask is outstanding (R188): the step that refuses it ends
the earlier one too. -/

namespace Sys2Proof.Machine

/-- The first pair running with entries of 512, and a `lamp.diagnose` of an empty mask of the second pair still outstanding. -/
def emptyDiagnoseWaits : Dev :=
  let d := (State.reset.dev.put (Reg.CMDQ_Q_CTL 0) 0x9801#32).put (Reg.CMDQ_Q_STAT 0) 1#32
  { d with cmd := { d.cmd with running := [⟨1, ⟨0x0309#16, 0#8, 32#8, 0#32, 0⟩, false, 1⟩] } }

/-- A `lamp.diagnose` of the first pair without parameter bytes. -/
def bareDiagnose : Cmd := ⟨0, 0#8, 0#8, 7#32, 0⟩

theorem reaches_bareDiagnose : Reaches emptyDiagnoseWaits bareDiagnose 0x0309 := by
  constructor <;> decide +kernel

/-- The outstanding command ends in the step that refuses the other. -/
theorem running_bareDiagnose : ∃ t, exec (.lampDiagnose bareDiagnose) { State.reset with dev := emptyDiagnoseWaits } = .next t ∧
    t.dev.cmd.running = [] :=
  ⟨_, rfl, by rw [onDev_cmd]; decide +kernel⟩

/-- Refutes O56: a refused `lamp.diagnose` leaves the outstanding commands as they were, but for one of an empty mask, which ends. -/
theorem not_commonRefusalsComeInOrder : ¬ Obligations.CommonRefusalsComeInOrder := by
  unfold Obligations.CommonRefusalsComeInOrder
  intro h
  obtain ⟨hform, -⟩ := h { State.reset with dev := emptyDiagnoseWaits } bareDiagnose (.lampDiagnose bareDiagnose, 0x0309)
    (by unfold commandsOf; simp only [List.mem_cons, true_or, or_true]) reaches_bareDiagnose
  obtain ⟨t, hx, -, hrunning, -⟩ := hform (by decide)
  obtain ⟨u, hu, hends⟩ := running_bareDiagnose
  have htu : t = u := Host.Outcome.next.inj (hx.symm.trans hu)
  rw [htu, hends] at hrunning
  exact absurd hrunning (by decide)

end Sys2Proof.Machine
end

section
/-! SUPPORT. The abort of an outstanding command (R449). -/

namespace Sys2Proof.Machine

/-- The work of a command other than `mem.scrub` stops without touching any command. -/
theorem cmd_stopWork (d : Dev) {r : Running} (h : r.pkt.opcode.toNat ≠ 0x0901) : (d.stopWork r).cmd = d.cmd := by
  unfold Dev.stopWork
  dsimp only
  rw [if_neg h]
  split_ifs <;> rfl

theorem abort_eq {d : Dev} {r : Running} (hr : r ∈ d.cmd.running) (h : r.pkt.opcode.toNat ≠ 0x0901) :
    d.abort r = (d.stopWork r).finish r 0x0206 [] := by
  refine if_pos ?_
  rw [cmd_stopWork d h]
  exact List.contains_iff_mem.mpr hr

theorem bodySysAbort_ok {p : Packet} {mem : List Host.Cell} {d : Dev} {r : Running}
    (hfind : (d.cmd.running.find? fun r => r.pair == p.u 0 1 && r.pkt.tag.toNat == p.u 4 4 && !r.mute) = some r)
    (hable : r.abortable = true) : bodySysAbort p mem d = .ok (d.abort r) [] := by
  unfold bodySysAbort
  rw [hfind]
  exact refuseIf_false (not_of_true hable) rfl

/-- The doorbell and the fetch of a command leave every pair its replies, and let it speak as before. -/
theorem atStart_speaks {s : State} {c : Cmd} {op : Nat} (h : Takes s.dev c op) (q : Nat) :
    ((atStart s c op).pair q).replies = (s.dev.pair q).replies ∧ ((atStart s c op).pair q).silent = (s.dev.pair q).silent := by
  rw [atStart_pair h]
  split <;> exact ⟨rfl, rfl⟩

/-- Settles O4: the target's work stops, its completion is posted, and then the reply of the abort. -/
theorem abortEndsItsTarget : Obligations.AbortEndsItsTarget := by
  unfold Obligations.AbortEndsItsTarget
  intro s c r pair tag ht hfind hable hawait hop
  have hrunning : (atStart s c 0x0005).cmd.running = s.dev.cmd.running := (atStart_frame s c 0x0005).running
  have hcmd := cmd_stopWork (atStart s c 0x0005) hop
  have hpair (q : Nat) : ((atStart s c 0x0005).stopWork r).pair q = (atStart s c 0x0005).pair q := by unfold Dev.pair; rw [hcmd]
  obtain ⟨hreplies, hsilent⟩ := atStart_speaks ht r.pair
  have hbody := bodySysAbort_ok (p := c.packet 0x0005) (mem := s.mem) (d := atStart s c 0x0005) (hrunning ▸ hfind) hable
  rw [abort_eq (hrunning ▸ List.mem_of_find?_eq_some hfind) hop] at hbody
  obtain ⟨hframe, hgrows, hreply⟩ := command_done ht hbody
    ((grows_same hpair).trans (finish_grows _ r 0x0206 []))
  obtain ⟨hends, later, hfinal⟩ := finish_spec ((atStart s c 0x0005).stopWork r) r 0x0206 []
    ⟨hawait.heard, by rw [hpair, hsilent]; exact hawait.speaks⟩
  obtain ⟨-, more, hmore⟩ := hgrows r.pair
  refine ⟨_, rfl, ⟨⟨later ++ more, ?_⟩, ?_⟩, ((((atStart s c 0x0005).stopWork r).finish r 0x0206 []).pair c.pair.val).replies, ?_⟩
  · show (sget _ r.pair (s.onDev (runCmd 0x0005 c bodySysAbort)).dev.cmd.pairs).replies = _
    rw [onDev_cmd]
    refine hmore.trans ?_
    rw [hfinal, hpair, hreplies, List.append_assoc, List.cons_append]
  · rw [onDev_cmd, hframe.running, hends.running]
    show ((atStart s c 0x0005).stopWork r).cmd.running.erase r = _
    rw [hcmd, hrunning]
  · show (sget _ c.pair.val (s.onDev (runCmd 0x0005 c bodySysAbort)).dev.cmd.pairs).replies = _
    rw [onDev_cmd]
    exact hreply

end Sys2Proof.Machine
end

section
/-! SUPPORT. Housekeeping: the calibration of an input, the reset of the chains, the freeze of their DC stages, and the Damper's
level in force (R535, R536, R542, R547). -/

namespace Sys2Proof.Machine

theorem alters_hk (d : Dev) (v : HkSt) : Alters [.hk] [] d { d with hk := v } := by
  refine (Alters.refl d).direct (fun p hp => ?_) rfl rfl rfl rfl rfl
  cases p with
  | hk => exact absurd (List.mem_singleton_self _) hp
  | _ => rfl

/-! ## The calibration of an input -/

/-- A measurement of an input has begun. -/
def Dev.beginCalHk (d : Dev) (q : Nat) (p : Packet) : Dev :=
  { d with hk := { d.hk with cal := some { step := p.u 0 1, input := p.u 1 1, vin := sgn 32 (p.u 4 4), samples := p.u 8 4, pair := q, tag := p.tag.toNat } } }

theorem bodyCalHk_accept {q : Nat} {p : Packet} {mem : List Host.Cell} {d : Dev} (hin : p.u 1 1 ≤ 35) (hn : p.u 8 4 ≠ 0)
    (hrest : p.u 1 1 < 4 → d.atRest = true)
    (hspan : p.u 0 1 = 1 → ∃ z, slook (p.u 1 1) d.hk.zeros = some z ∧ hkSpanOk (p.u 1 1) (sgn 32 (p.u 4 4)) z.2.2 = true) :
    bodyCalHk q p mem d = .accept (d.beginCalHk q p) 0 := by
  have hwaits : (decide (p.u 1 1 < 4) && !d.atRest) = false := by
    by_cases h : p.u 1 1 < 4
    · rw [hrest h, Bool.not_true, Bool.and_false]
    · rw [decide_eq_false h, Bool.false_and]
  by_cases hstep : p.u 0 1 = 1
  · obtain ⟨z, hz, hok⟩ := hspan hstep
    unfold bodyCalHk
    simp only [hz, hok, hwaits, hstep, Nat.not_lt.mpr hin, beq_false_of_ne hn, refuseIf, decide_false, Bool.or_false, Bool.not_true,
      Bool.and_false, Option.isNone_some, Bool.false_eq_true, if_false, Dev.beginCalHk]
  · unfold bodyCalHk
    simp only [hwaits, Nat.not_lt.mpr hin, refuseIf, decide_false, Bool.or_false, Bool.false_and,
      beq_false_of_ne hstep, beq_false_of_ne hn, Bool.false_eq_true, if_false, Dev.beginCalHk]

/-! ## The sync of the chains -/

/-- Chain `k` settles anew, as its configuration in `cfg` has it: its output is not valid, and its SETTLING bit is set. -/
structure Dev.Resettles (cfg d : Dev) (k : Nat) : Prop where
  chain : d.hkChain k = { settling := hkSettle (cfg.fld (F.HK_CHAIN_CFG_PRESET k)) }
  invalid : d.flag (F.HK_CHAIN_OUT_VALID k) = false
  settles : d.bit Reg.HK_STAT k = true

abbrev syncRegs : List Nat := Reg.HK_STAT :: (List.range 8).map fun k => Reg.HK_CHAIN_OUT k

theorem chainOut_mem {k : Nat} (h : k < 8) : Reg.HK_CHAIN_OUT k ∈ syncRegs :=
  List.mem_cons_of_mem _ (List.mem_map_of_mem (List.mem_range.mpr h))

theorem alters_chainReset (d : Dev) {k : Nat} (h : k < 8) : Alters [.hk] syncRegs d (d.chainReset k) :=
  (((Alters.refl d).part (alters_hk d _) (List.mem_singleton_self _)).setFlag (F.HK_CHAIN_OUT_VALID k) false (chainOut_mem h)).setBit _ _ _
    List.mem_cons_self

theorem chainCfg_not_mem {n : Nat} (hn : n < 8) : Reg.HK_CHAIN_CFG n ∉ syncRegs := by
  intro hm
  obtain he | hm := List.mem_cons.mp hm
  · simp only [Reg.HK_CHAIN_CFG, Reg.HK_STAT] at he
    omega
  · obtain ⟨k, -, he⟩ := List.mem_map.mp hm
    simp only [Reg.HK_CHAIN_CFG, Reg.HK_CHAIN_OUT] at he
    omega

/-- The setting of a chain's configuration stands in a register of its own. -/
theorem chainCfg_chainReset (d : Dev) {k n : Nat} (h : k < 8) (hn : n < 8) :
    (d.chainReset k).fld (F.HK_CHAIN_CFG_PRESET n) = d.fld (F.HK_CHAIN_CFG_PRESET n) := by
  unfold Dev.fld
  rw [(alters_chainReset d h).reg _ (chainCfg_not_mem hn)]

theorem Dev.bit_eq_flag (d : Dev) (a n : Nat) : d.bit a n = d.flag ⟨a, n, 1⟩ := rfl

theorem resettles_chainReset (d : Dev) {k : Nat} (h : k < 8) : d.Resettles (d.chainReset k) k where
  chain := sget_sset_self _ _ _ _
  invalid := (Dev.flag_setFlag_apart _ ⟨_, k, 1⟩ _ _ (by show k + 1 ≤ 32; omega)
    (.inl (by show 0x150060 + 4 * k ≠ 0x150004; omega))).trans (Dev.flag_setFlag_self _ (F.HK_CHAIN_OUT_VALID k) _ (show 16 + 1 ≤ 32 by decide) rfl)
  settles := Dev.bit_setBit_self _ _ _ _ (by omega)

theorem Dev.Resettles.chainReset {cfg d : Dev} {k n : Nat} (h : cfg.Resettles d k) (hn : n < 8) (hk : k < 8) (hne : k ≠ n) :
    cfg.Resettles (d.chainReset n) k where
  chain := (sget_sset_ne _ hne _ _).trans h.chain
  invalid := (Dev.flag_setFlag_apart _ ⟨_, n, 1⟩ _ _ (by show n + 1 ≤ 32; omega)
    (.inl (by show 0x150060 + 4 * k ≠ 0x150004; omega))).trans ((Dev.flag_setFlag_apart _ _ (F.HK_CHAIN_OUT_VALID k) _ (show 16 + 1 ≤ 32 by decide)
      (.inl (by show 0x150060 + 4 * k ≠ 0x150060 + 4 * n; omega))).trans h.invalid)
  settles := by
    rw [Dev.chainReset, Dev.bit_setBit _ _ _ _ _ _ (by omega), if_neg (by omega), Dev.bit_eq_flag,
      Dev.flag_setFlag_apart _ _ _ _ (show 16 + 1 ≤ 32 by decide) (.inl (show 0x150004 ≠ 0x150060 + 4 * n by omega))]
    exact h.settles

/-- Chains are reset one after the other. -/
theorem resettles_foldl {cfg : Dev} {k : Nat} (hk : k < 8) : ∀ (ns : List Nat) (d : Dev), (∀ n ∈ ns, n < 8) →
    d.fld (F.HK_CHAIN_CFG_PRESET k) = cfg.fld (F.HK_CHAIN_CFG_PRESET k) → k ∈ ns ∨ cfg.Resettles d k →
    cfg.Resettles (ns.foldl Dev.chainReset d) k
  | [], _, _, _, h => h.resolve_left List.not_mem_nil
  | n :: ns, d, hns, hcfg, h => by
    have hn := hns n List.mem_cons_self
    refine resettles_foldl hk ns (d.chainReset n) (fun m hm => hns m (List.mem_cons_of_mem _ hm))
      ((chainCfg_chainReset d hn hk).trans hcfg) ?_
    by_cases hkn : k = n
    · subst hkn
      have hreset := resettles_chainReset d hk
      exact .inr ⟨hcfg ▸ hreset.chain, hreset.invalid, hreset.settles⟩
    · exact h.imp (List.mem_of_ne_of_mem hkn) fun h => h.chainReset hn hk hkn

/-- The device time of the first common trigger at least 100 ns from now (R536). -/
def Dev.syncTime (d : Dev) : Nat :=
  ((d.time.acc : Int) + ((d.time.ticks + 250 + 124) / 125 * 125 - d.time.ticks : Nat) * (2 ^ 40 + d.time.rate)).toNat * 2 / (5 * 2 ^ 40)

/-- All chains and the averager start again. -/
def Dev.restartChains (d : Dev) : Dev :=
  (((List.range 8).foldl Dev.chainReset d).putWide Reg.HK_SYNC_TIME_LO d.syncTime).senseRestart

theorem hkSync_eq (d : Dev) : d.hkSync = (d.restartChains, d.syncTime) := rfl

theorem alters_senseRestart (d : Dev) : Alters [.hk] [Reg.HK_STAT] d d.senseRestart :=
  ((Alters.refl d).setFld F.HK_STAT_SENSE_CUR _ (List.mem_singleton_self _)).part (alters_hk _ _) (List.mem_singleton_self _)

theorem alters_restartChains (d : Dev) : Alters [.hk, .wide] syncRegs d d.restartChains := by
  have hchains : Alters [.hk, .wide] syncRegs d ((List.range 8).foldl Dev.chainReset d) :=
    Alters.foldlMem _ (fun y n hn => (alters_chainReset y (List.mem_range.mp hn)).mono (by decide) fun _ h => h) (.refl d)
  exact (hchains.putWide _ _ (by decide) (by decide)).trans ((alters_senseRestart _).mono (by decide) (by decide))

/-- The averager starts again, and the time of the sync stands; the chains are as they were. -/
theorem Dev.Resettles.averager {cfg d : Dev} {k : Nat} (hk : k < 8) (h : cfg.Resettles d k) (v : Nat) :
    cfg.Resettles (d.putWide Reg.HK_SYNC_TIME_LO v).senseRestart k where
  chain := h.chain
  invalid := (Dev.flag_setFld_apart (d.putWide Reg.HK_SYNC_TIME_LO v) F.HK_STAT_SENSE_CUR (F.HK_CHAIN_OUT_VALID k) _ (by decide)
    (.inl (show 0x150060 + 4 * k ≠ 0x150004 by omega))).trans h.invalid
  settles := (Dev.flag_setFld_apart (d.putWide Reg.HK_SYNC_TIME_LO v) F.HK_STAT_SENSE_CUR ⟨Reg.HK_STAT, k, 1⟩ _ (by decide)
    (.inr (.inl (show k + 1 ≤ 8 by omega)))).trans h.settles

theorem resettles_restartChains (d : Dev) {k : Nat} (hk : k < 8) : d.Resettles d.restartChains k :=
  (resettles_foldl hk (List.range 8) d (fun _ hn => List.mem_range.mp hn) rfl (.inl (List.mem_range.mpr hk))).averager hk _

/-- What a step leaves whose work is a sync. -/
theorem synced_settled {s t : State} {d : Dev} (h : Settled s d.restartChains t) :
    (∀ k, k < 8 → t.dev.hkChain k = { settling := hkSettle (d.fld (F.HK_CHAIN_CFG_PRESET k)) } ∧
      t.dev.flag (F.HK_CHAIN_OUT_VALID k) = false ∧ t.dev.bit Reg.HK_STAT k = true) ∧
    t.dev.wide64 Reg.HK_SYNC_TIME_LO = d.syncTime % 2 ^ 64 := by
  refine ⟨fun k hk => ?_, ?_⟩
  · obtain ⟨hchain, hinvalid, hsettles⟩ := resettles_restartChains d hk
    have hhk : t.dev.hk = d.restartChains.hk := h.parts .hk
    exact ⟨(congrArg (fun x : HkSt => sget (fun _ => ({} : HkChain)) k x.chains) hhk).trans hchain,
      (h.outFlag (f := F.HK_CHAIN_OUT_VALID k) (show 0x080000 ≤ 0x150060 + 4 * k by omega)).trans hinvalid,
      (congrArg (fun x : Word => bitAt x.toNat k) (h.reg Reg.HK_STAT rfl rfl)).trans hsettles⟩
  · exact (h.wide64 _).trans ((Dev.wide64_putWide _ _ _ _).trans (if_pos rfl))

/-! ## The freeze of the DC stages -/

/-- The DC stages of the chains of a mask are frozen, or run again. -/
def Dev.freezeDc (d : Dev) (mask : Nat) (b : Bool) : Dev :=
  ((List.range 8).filter (bitAt mask)).foldl (fun (d : Dev) c => d.setFlag (F.HK_CHAIN_CFG_DC_FREEZE c) b) d

theorem alters_freezeDc (d : Dev) (mask : Nat) (b : Bool) :
    Alters [] ((List.range 8).map fun k => Reg.HK_CHAIN_CFG k) d (d.freezeDc mask b) :=
  Alters.foldlMem _ (fun y n hn => (Alters.refl y).setFlag (F.HK_CHAIN_CFG_DC_FREEZE n) b
    (List.mem_map_of_mem (f := fun k => Reg.HK_CHAIN_CFG k) (List.mem_of_mem_filter hn))) (.refl d)

theorem reg_freezeFold (b : Bool) (k : Nat) : ∀ (ns : List Nat) (d : Dev), ns.Nodup →
    (ns.foldl (fun (d : Dev) c => d.setFlag (F.HK_CHAIN_CFG_DC_FREEZE c) b) d).reg (Reg.HK_CHAIN_CFG k) =
      if k ∈ ns then withField (d.reg (Reg.HK_CHAIN_CFG k)) 5 1 (b2n b) else d.reg (Reg.HK_CHAIN_CFG k)
  | [], _, _ => rfl
  | n :: ns, d, h => by
    obtain ⟨hn, hns⟩ := List.nodup_cons.mp h
    refine (reg_freezeFold b k ns _ hns).trans ?_
    by_cases hkn : k = n
    · subst hkn
      rw [if_neg hn, if_pos List.mem_cons_self]
      exact Dev.reg_put_self _ _ _
    · have hreg : (d.setFlag (F.HK_CHAIN_CFG_DC_FREEZE n) b).reg (Reg.HK_CHAIN_CFG k) = d.reg (Reg.HK_CHAIN_CFG k) :=
        Dev.reg_setFlag_ne _ _ _ _ (show 0x150040 + 4 * k ≠ 0x150040 + 4 * n by omega)
      simp only [hreg, List.mem_cons, or_iff_right hkn]

theorem reg_freezeDc (d : Dev) (mask : Nat) (b : Bool) {k : Nat} (hk : k < 8) : (d.freezeDc mask b).reg (Reg.HK_CHAIN_CFG k) =
    if bitAt mask k then withField (d.reg (Reg.HK_CHAIN_CFG k)) 5 1 (b2n b) else d.reg (Reg.HK_CHAIN_CFG k) := by
  have hmem : k ∈ (List.range 8).filter (bitAt mask) ↔ bitAt mask k = true := by rw [List.mem_filter, List.mem_range]; tauto
  refine (reg_freezeFold b k _ d (List.nodup_range.filter _)).trans ?_
  simp only [hmem]

/-! ## The level in force -/

theorem alters_noteDamper (d : Dev) : Alters [.out] [] d d.noteDamper := alters_out d _

/-- The level that is to be in force (R547). -/
def Dev.levelDue (d : Dev) : Nat := if d.flag F.THM_STAT_SAFE then 7 else max (d.fld F.THM_STAT_LEVEL) (d.par P.thm_damper_min 0)

/-- The level due stands in the registers, and the change is reported. -/
def Dev.showLevel (d : Dev) : Dev := ((d.setFld F.SCN_STAT_DAMPER d.levelDue).setFld F.THM_STAT_IN_FORCE d.levelDue).raise Ev.thmDamper

theorem setDamper_eq (d : Dev) : d.setDamper = if d.levelDue = d.damper then d else
    (if d.damper < d.levelDue then d.showLevel.bump C.THM_LEVEL_CNT else d.showLevel).noteDamper := rfl

abbrev damperRegs : List Nat := [Reg.SCN_STAT, Reg.THM_STAT, Reg.THM_LEVEL_CNT, C.THM_LEVEL_CNT.sat]

theorem alters_setDamper (d : Dev) : Alters [.out] damperRegs d d.setDamper := by
  have hshown : Alters [.out] damperRegs d d.showLevel :=
    (((Alters.refl d).setFld _ _ (by decide)).setFld _ _ (by decide)).raise _ _ _
  rw [setDamper_eq]
  exact .ite (fun _ => .refl d) fun _ => Alters.part
    (.ite (fun _ => hshown.bump _ (by decide) (by decide) rfl) fun _ => hshown) (alters_noteDamper _) (by decide)

theorem fld_bump (d : Dev) (c : Cnt) (f : Fld) (hc : f.addr ∉ [c.addr, c.sat]) (hw : c.wide = false) : (d.bump c).fld f = d.fld f := by
  unfold Dev.fld
  rw [((Alters.refl d (parts := []) (regs := [c.addr, c.sat])).bump c (by simp) (by simp) hw).reg _ hc]

theorem damper_setDamper (d : Dev) (h : d.levelDue < 8) : d.setDamper.damper = d.levelDue := by
  have hshown : d.showLevel.fld F.SCN_STAT_DAMPER = d.levelDue :=
    (Dev.fld_setFld_apart _ F.THM_STAT_IN_FORCE F.SCN_STAT_DAMPER _ (by decide) (by decide)).trans
      ((Dev.fld_setFld_self _ F.SCN_STAT_DAMPER _ (by decide)).trans (Nat.mod_eq_of_lt h))
  have hcounted : (d.showLevel.bump C.THM_LEVEL_CNT).fld F.SCN_STAT_DAMPER = d.levelDue :=
    (fld_bump _ C.THM_LEVEL_CNT _ (by decide) rfl).trans hshown
  rw [setDamper_eq]
  split
  next hsame => exact hsame.symm
  next =>
    show Dev.fld (if d.damper < d.levelDue then d.showLevel.bump C.THM_LEVEL_CNT else d.showLevel) F.SCN_STAT_DAMPER = _
    split
    · exact hcounted
    · exact hshown

/-- The level that `v` as the least level asks for (R547). -/
theorem levelDue_setPar (d : Dev) (v : Nat) : (d.setPar P.thm_damper_min 0 v).levelDue =
    if d.flag F.THM_STAT_SAFE then 7 else max (d.fld F.THM_STAT_LEVEL) v := by
  have hpar : (d.setPar P.thm_damper_min 0 v).par P.thm_damper_min 0 = v :=
    par_live (by decide) rfl (slook_setPar (by decide) rfl v _ |>.trans (if_pos rfl))
  have hreg (a : Nat) : (d.setPar P.thm_damper_min 0 v).reg a = d.reg a :=
    (alters_setPar (by decide) rfl v).reg a List.not_mem_nil
  unfold Dev.levelDue Dev.flag Dev.fld
  rw [hpar, hreg]

theorem thmDamperMin_acts {s : State} {c : Cmd} {v : Nat} (hv : (c.packet 0x0B04).u 0 1 = v) (h : v ≤ 7) :
    Acts (.thmDamperMin c) c 0x0B04 s [] [.cfg, .out] damperRegs fun t => t.dev.par P.thm_damper_min 0 = v ∧
      t.dev.damper = if s.dev.flag F.THM_STAT_SAFE then 7 else max (s.dev.fld F.THM_STAT_LEVEL) v := by
  subst hv
  refine acts (body := bodyThmDamperMin) (fun d => (d.setPar P.thm_damper_min 0 ((c.packet 0x0B04).u 0 1)).setDamper) rfl
    (fun _ _ _ _ _ => refuseIf_false (decide_eq_false (Nat.not_lt.mpr h)) rfl)
    (fun p m k => ((alters_setPar (by decide) rfl _).mono (by decide) (by simp)).trans
      ((alters_setDamper _).mono (by decide) fun _ h => h)) (by decide) fun p m k t ht => ?_
  have hlt : ((withQueues s p m k).setPar P.thm_damper_min 0 ((c.packet 0x0B04).u 0 1)).levelDue < 8 := by
    have hfield : (withQueues s p m k).fld F.THM_STAT_LEVEL < 8 := field_lt _ _ _
    rw [levelDue_setPar]
    split <;> omega
  constructor
  · have hcfg : t.dev.cfg = ((withQueues s p m k).setPar P.thm_damper_min 0 ((c.packet 0x0B04).u 0 1)).cfg :=
      (ht.parts .cfg).trans ((alters_setDamper _).same .cfg (by decide))
    refine par_live (by decide) rfl ?_
    rw [hcfg, slook_setPar (by decide) rfl, if_pos rfl]
  · exact (ht.fld F.SCN_STAT_DAMPER rfl rfl).trans ((damper_setDamper _ hlt).trans (levelDue_setPar _ _))

/-- Settles O41: each clause is the rule of its command, and SYNC_IN does the work of `hk.sync`. -/
theorem housekeepingCommandsAct : Obligations.HousekeepingCommandsAct := by
  unfold Obligations.HousekeepingCommandsAct
  intro s c
  refine ⟨fun hin hn hrest hspan => ?_, ?_, fun hen hon => ?_, fun hmask => ?_, thmDamperMin_acts rfl⟩
  · exact starts (body := bodyCalHk c.pair.val) (fun d => d.beginCalHk c.pair.val (c.packet 0x0407)) rfl (fun p m k _ _ => bodyCalHk_accept hin hn hrest hspan) (fun _ _ _ => alters_hk _ _)
      List.not_mem_nil fun p m k t ht => ht.parts .hk
  · exact acts (body := bodyHkSync) Dev.restartChains rfl (fun _ _ _ _ _ => rfl) (fun _ _ _ => alters_restartChains _) (by decide)
      fun p m k t ht => by
        have hsynced := synced_settled ht
        exact hsynced
  · have hwork : (if (s.dev.begin_.flag F.HK_CTL_SYNC_EN && s.dev.begin_.domOn 144) = true then s.dev.begin_.hkSync.1 else s.dev.begin_) =
        s.dev.begin_.restartChains := if_pos (by rw [Bool.and_eq_true]; exact ⟨hen, hon⟩)
    have ht := onDev_settled s fun _ d => if d.flag F.HK_CTL_SYNC_EN && d.domOn 144 then d.hkSync.1 else d
    have hleaves := Alters.stepLeaves (s := s) (f := fun _ d => if d.flag F.HK_CTL_SYNC_EN && d.domOn 144 then d.hkSync.1 else d)
      (hwork ▸ alters_restartChains s.dev.begin_) (by decide)
    rw [hwork] at ht
    have hsynced := synced_settled ht
    exact ⟨_, rfl, hsynced, hleaves⟩
  · refine acts (body := bodyHkDcFreeze) (fun d => d.freezeDc ((c.packet 0x0A03).u 0 1) ((c.packet 0x0A03).u 1 1 == 1)) rfl
      (fun _ _ _ _ _ => refuseIf_false (bne_eq_false_iff_eq.mpr hmask) rfl) (fun _ _ _ => alters_freezeDc _ _ _) (by decide)
      fun p m k t ht n hn => ?_
    exact (ht.outReg (show 0x080000 ≤ 0x150040 + 4 * n by omega)).trans (reg_freezeDc _ _ _ hn)

end Sys2Proof.Machine
end

section
/-! SUPPORT. The safety island's outputs and its lock: what each operation alters, and what stands after it (R365 to R369, R381, R388). -/

namespace Sys2Proof.Machine

variable (d : Dev)

/-! ## What the operations alter -/

theorem alters_setSwitch (i : Nat) (x : SafeSwitch) : Alters [.safe] [Reg.SAFE_IN] d (d.setSwitch i x) :=
  (((Alters.refl d).part (alters_safe d _) (by decide)).setBit Reg.SAFE_IN _ _ (by decide)).setBit Reg.SAFE_IN _ _ (by decide)

theorem alters_setGate (i : Nat) (on : Bool) : Alters [.safe] [Reg.SAFE_IN] d (d.setGate i on) := alters_setSwitch d i _

theorem alters_setPair2 (b on : Bool) : Alters [.safe] [Reg.SAFE_IN] d (d.setPair2 b on) := by
  have hgates (i : Nat) : Alters [.safe] [Reg.SAFE_IN] d ((d.setGate i on).setGate (i + 1) on) :=
    (alters_setGate d i on).trans (alters_setGate _ _ on)
  unfold Dev.setPair2
  exact .ite (fun _ => hgates _) fun _ => (hgates _).trans ((alters_setSwitch _ _ _).trans (alters_setSwitch _ _ _))

theorem alters_startTimers (b : Bool) : Alters [.safe] [Reg.SAFE_IN] d (d.startTimers b) :=
  (alters_setSwitch d _ _).trans (alters_setSwitch _ _ _)

/-- The registers that show an output's state. -/
abbrev outputRegs : List Nat := [Reg.SAFE_STAT, Reg.SAFE_IN, Reg.SAFE_EVT]

theorem alters_setB (v : Nat) : Alters [.safe] outputRegs d (d.setB v) := by
  have hstate : Alters [.safe] outputRegs d (d.setFld F.SAFE_STAT_B_STATE v) := (Alters.refl d).setFld _ _ (by decide)
  have hpair (x : Dev) (on : Bool) : Alters [.safe] outputRegs x (x.setPair2 true on) :=
    (alters_setPair2 x true on).mono (fun _ h => h) (by decide)
  have htimers (x : Dev) : Alters [.safe] outputRegs x (x.startTimers true) :=
    (alters_startTimers x true).mono (fun _ h => h) (by decide)
  unfold Dev.setB
  exact .ite (fun _ => hstate) fun _ => .ite (fun _ => (hstate.trans ((hpair _ _).trans (htimers _))).sticky _ _ _ (by decide))
    fun _ => (hstate.trans (hpair _ _)).sticky _ _ _ (by decide)

theorem alters_fieldOff : Alters [.safe] outputRegs d d.fieldOff := (alters_setB d 2).part (alters_safe _ _) (by decide)

theorem alters_outputB : Alters [.safe] outputRegs d d.outputB := by
  unfold Dev.outputB
  exact .ite (fun _ => .refl d) fun _ => .ite (fun _ => .ite (fun _ => .refl d) fun _ => alters_setB d 0) fun _ =>
    .ite (fun _ => .ite (fun _ => .refl d) fun _ => alters_setB d 1) fun _ => .ite (fun _ => alters_fieldOff d) fun _ => .refl d

/-- The registers of the lock. -/
abbrev lockRegs : List Nat := [Reg.SAFE_STAT, Reg.SAFE_CAUSE, Reg.SAFE_QUENCH_CNT, C.SAFE_QUENCH_CNT.sat]

theorem alters_lockWith (causes first : Nat) (counts : Bool) : Alters [.wide] lockRegs d (d.lockWith causes first counts) := by
  have hcause : Alters [.wide] lockRegs d (d.setFld F.SAFE_CAUSE_CAUSE (d.fld F.SAFE_CAUSE_CAUSE ||| causes)) :=
    (Alters.refl d).setFld _ _ (by decide)
  have hlock : Alters [.wide] lockRegs d ((((d.setFld F.SAFE_CAUSE_CAUSE (d.fld F.SAFE_CAUSE_CAUSE ||| causes)).setFld F.SAFE_CAUSE_FIRST
      first).setFlag F.SAFE_STAT_LOCK true).putWide Reg.SAFE_LOCK_TIME_LO
      (d.setFld F.SAFE_CAUSE_CAUSE (d.fld F.SAFE_CAUSE_CAUSE ||| causes)).now) :=
    ((hcause.setFld _ _ (by decide)).setFlag _ _ (by decide)).putWide _ _ (by decide) (by decide)
  unfold Dev.lockWith
  exact .ite (fun _ => hcause) fun _ => (Alters.ite (fun _ => hlock.bump _ (by decide) (by decide) rfl) fun _ => hlock).setFld _ _ (by decide)

theorem alters_quenchEvent : Alters [] [Reg.SAFE_EVT] d d.quenchEvent := by
  unfold Dev.quenchEvent
  exact .ite (fun _ => .refl d) fun _ => ((Alters.refl d).setBit _ _ _ (by decide)).raise _ _ _

/-- The registers of a Quench. -/
abbrev quenchRegs : List Nat := [Reg.SAFE_STAT, Reg.SAFE_CAUSE, Reg.SAFE_IN, Reg.SAFE_MOTION, Reg.SAFE_EVT, Reg.SAFE_QUENCH_CNT,
  C.SAFE_QUENCH_CNT.sat]

/-! ## Switches -/

theorem switch_setSwitch_ne {i j : Nat} (x : SafeSwitch) (h : j ≠ i) : (d.setSwitch i x).switch j = d.switch j := by
  show (d.safe.switches.set i x).getD j {} = d.safe.switches.getD j {}
  rw [List.getD_eq_getElem?_getD, List.getD_eq_getElem?_getD, List.getElem?_set_ne h.symm]

theorem switch_setSwitch_self {i : Nat} (x : SafeSwitch) (h : i < d.safe.switches.length) : (d.setSwitch i x).switch i = x := by
  show (d.safe.switches.set i x).getD i {} = x
  rw [List.getD_eq_getElem?_getD, List.getElem?_set_self h, Option.getD_some]

/-- A switch that the part does not have. -/
theorem switch_setSwitch_none {i : Nat} (x : SafeSwitch) (h : d.safe.switches.length ≤ i) : (d.setSwitch i x).switch i = {} ∧ d.switch i = {} := by
  constructor
  · show (d.safe.switches.set i x).getD i {} = {}
    rw [List.getD_eq_default _ _ (by rw [List.length_set]; exact h)]
  · exact List.getD_eq_default _ _ h

@[simp] theorem length_setSwitch (i : Nat) (x : SafeSwitch) : (d.setSwitch i x).safe.switches.length = d.safe.switches.length :=
  List.length_set

@[simp] theorem length_setGate (i : Nat) (on : Bool) : (d.setGate i on).safe.switches.length = d.safe.switches.length := List.length_set

theorem gate_setGate_off (i : Nat) : ((d.setGate i false).switch i).gate = false := by
  by_cases h : i < d.safe.switches.length
  · exact congrArg SafeSwitch.gate (switch_setSwitch_self d _ h)
  · exact congrArg SafeSwitch.gate (switch_setSwitch_none d _ (Nat.le_of_not_lt h)).1

theorem gate_setGate_on {i : Nat} (h : i < d.safe.switches.length) : ((d.setGate i true).switch i).gate = true :=
  congrArg SafeSwitch.gate (switch_setSwitch_self d _ h)

/-- A change that leaves a switch's gate alone leaves every gate alone. -/
theorem gate_setSwitch {i : Nat} {x : SafeSwitch} (hx : x.gate = (d.switch i).gate) (j : Nat) :
    ((d.setSwitch i x).switch j).gate = (d.switch j).gate := by
  by_cases hj : j = i
  · subst hj
    by_cases h : j < d.safe.switches.length
    · rw [switch_setSwitch_self d x h, hx]
    · obtain ⟨hnew, hold⟩ := switch_setSwitch_none d x (Nat.le_of_not_lt h)
      rw [hnew, hold]
  · rw [switch_setSwitch_ne d x hj]

/-- The switches of an output. -/
abbrev pairFirst (b : Bool) : Nat := if b then 2 else 0

/-- The tests of two switches are forgotten, or start again: their gates stay. -/
theorem gate_setSwitch_pair {i : Nat} {x y : SafeSwitch} (hx : x.gate = (d.switch i).gate) (hy : y.gate = (d.switch (i + 1)).gate) (j : Nat) :
    (((d.setSwitch i x).setSwitch (i + 1) y).switch j).gate = (d.switch j).gate := by
  have hnext : (d.setSwitch i x).switch (i + 1) = d.switch (i + 1) := switch_setSwitch_ne d x (Nat.succ_ne_self i)
  exact (gate_setSwitch _ (by rw [hnext, hy]) j).trans (gate_setSwitch d hx j)

theorem gates_setPair2_off (b : Bool) : ((d.setPair2 b false).switch (pairFirst b)).gate = false ∧
    ((d.setPair2 b false).switch (pairFirst b + 1)).gate = false := by
  have hgate (j : Nat) : ((d.setPair2 b false).switch j).gate =
      (((d.setGate (pairFirst b) false).setGate (pairFirst b + 1) false).switch j).gate := by
    unfold Dev.setPair2
    dsimp only
    rw [if_neg Bool.false_ne_true]
    exact gate_setSwitch_pair _ (by dsimp only) (by dsimp only) j
  rw [hgate, hgate]
  exact ⟨(congrArg SafeSwitch.gate (switch_setSwitch_ne _ _ (Nat.ne_of_lt (Nat.lt_succ_self _)))).trans (gate_setGate_off d _),
    gate_setGate_off _ _⟩

theorem switch_setPair2_apart (b on : Bool) {j : Nat} (h1 : j ≠ pairFirst b) (h2 : j ≠ pairFirst b + 1) :
    (d.setPair2 b on).switch j = d.switch j := by
  have hgates : (((d.setGate (pairFirst b) on).setGate (pairFirst b + 1) on)).switch j = d.switch j :=
    (switch_setSwitch_ne _ _ h2).trans (switch_setSwitch_ne _ _ h1)
  unfold Dev.setPair2
  dsimp only
  split
  · exact hgates
  · exact ((switch_setSwitch_ne _ _ h2).trans (switch_setSwitch_ne _ _ h1)).trans hgates

theorem gates_setPair2_on (b : Bool) (h : pairFirst b + 1 < d.safe.switches.length) : ((d.setPair2 b true).switch (pairFirst b)).gate = true ∧
    ((d.setPair2 b true).switch (pairFirst b + 1)).gate = true := by
  have hne : pairFirst b ≠ pairFirst b + 1 := Nat.ne_of_lt (Nat.lt_succ_self _)
  exact ⟨(congrArg SafeSwitch.gate (switch_setSwitch_ne _ _ hne)).trans (gate_setGate_on d (Nat.lt_of_succ_lt h)),
    gate_setGate_on _ (by rw [length_setGate]; exact h)⟩

theorem gate_startTimers (b : Bool) (j : Nat) : ((d.startTimers b).switch j).gate = (d.switch j).gate := by
  unfold Dev.startTimers
  exact gate_setSwitch_pair d (by dsimp only) (by dsimp only) j

/-- The operations on switches leave the rest of the island as it was. -/
def SwitchesOnly (x y : Dev) : Prop := y.safe = { x.safe with switches := y.safe.switches }

theorem SwitchesOnly.trans {x y z : Dev} (h : SwitchesOnly x y) (g : SwitchesOnly y z) : SwitchesOnly x z := by
  unfold SwitchesOnly at *
  rw [g, h]

theorem switchesOnly_refl : SwitchesOnly d d := rfl

theorem SwitchesOnly.ite {x y z : Dev} {c : Prop} [Decidable c] (h : SwitchesOnly x y) (g : SwitchesOnly x z) :
    SwitchesOnly x (if c then y else z) := by
  split
  · exact h
  · exact g

theorem switchesOnly_setPair2 (b on : Bool) : SwitchesOnly d (d.setPair2 b on) := .ite rfl rfl

theorem switchesOnly_sticky (a n src : Nat) : SwitchesOnly d (d.sticky a n src) := by
  unfold SwitchesOnly
  rw [Dev.sticky_safe]

theorem switchesOnly_setB (v : Nat) : SwitchesOnly d (d.setB v) := by
  have hstate : SwitchesOnly d (d.setFld F.SAFE_STAT_B_STATE v) := rfl
  have htimers (x : Dev) : SwitchesOnly x (x.startTimers true) := rfl
  unfold Dev.setB
  exact .ite hstate (.ite (hstate.trans ((switchesOnly_setPair2 _ _ _).trans ((htimers _).trans (switchesOnly_sticky _ _ _ _))))
    (hstate.trans ((switchesOnly_setPair2 _ _ _).trans (switchesOnly_sticky _ _ _ _))))

/-! ## The outputs -/

theorem bState_setB (v : Nat) (h : v < 8) : (d.setB v).bState = v := by
  have hset : (d.setFld F.SAFE_STAT_B_STATE v).fld F.SAFE_STAT_B_STATE = v :=
    (Dev.fld_setFld_self d F.SAFE_STAT_B_STATE v (by decide)).trans (Nat.mod_eq_of_lt h)
  have hpair (x : Dev) (on : Bool) : (x.setPair2 true on).fld F.SAFE_STAT_B_STATE = x.fld F.SAFE_STAT_B_STATE :=
    (alters_setPair2 x true on).fld (by decide)
  have htimers (x : Dev) : (x.startTimers true).fld F.SAFE_STAT_B_STATE = x.fld F.SAFE_STAT_B_STATE :=
    (alters_startTimers x true).fld (by decide)
  have hsticky (x : Dev) (n src : Nat) : (x.sticky Reg.SAFE_EVT n src).fld F.SAFE_STAT_B_STATE = x.fld F.SAFE_STAT_B_STATE :=
    ((Alters.refl x (parts := []) (regs := [Reg.SAFE_EVT])).sticky _ _ _ (by decide)).fld (by decide)
  unfold Dev.setB Dev.bState
  dsimp only
  split
  · exact hset
  · split
    · exact (hsticky _ _ _).trans ((htimers _).trans ((hpair _ _).trans hset))
    · exact (hsticky _ _ _).trans ((hpair _ _).trans hset)

/-- What work leaves that alters nothing but the island's own state and registers. -/
theorem Alters.fnB {x y : Dev} {parts : List Part} {regs : List Nat} (h : Alters parts regs x y) (hp : .cfg ∉ parts)
    (hc : y.flag F.SAFE_STAT_COMMISSIONED = x.flag F.SAFE_STAT_COMMISSIONED) : y.fnB = x.fnB := by
  unfold Dev.fnB
  rw [hc, h.par hp 0 (by decide) rfl]

/-- While the island runs, output B follows whether function B is in use, and the lock (R380). -/
theorem bState_outputB (hr : d.safe.running = true) (hl : d.quenchLock = true) : d.outputB.bState = b2n d.fnB := by
  unfold Dev.outputB
  rw [hr, hl]
  cases d.fnB with
  | false =>
    by_cases h : d.bState = 0
    · exact (congrArg Dev.bState (if_pos h)).trans h
    · exact (congrArg Dev.bState (if_neg h)).trans (bState_setB d 0 (by decide))
  | true =>
    by_cases h : d.bState = 1
    · exact (congrArg Dev.bState (if_pos h)).trans h
    · exact (congrArg Dev.bState (if_neg h)).trans (bState_setB d 1 (by decide))

/-- The rest of the island's state: neither its switches nor what a Quench or a loss of the field sets. -/
def OutputsOnly (x y : Dev) : Prop :=
  y.safe = { x.safe with switches := y.safe.switches, latchOff := y.safe.latchOff, clearFrames := y.safe.clearFrames }

theorem OutputsOnly.trans {x y z : Dev} (h : OutputsOnly x y) (g : OutputsOnly y z) : OutputsOnly x z := by
  unfold OutputsOnly at *
  rw [g, h]

theorem outputsOnly_of_safe {x y : Dev} (h : y.safe = x.safe) : OutputsOnly x y := by
  unfold OutputsOnly
  rw [h]

theorem SwitchesOnly.outputs {x y : Dev} (h : SwitchesOnly x y) : OutputsOnly x y := by
  unfold SwitchesOnly at h
  unfold OutputsOnly
  rw [h]

/-- Output B leaves the latch and the gates of output A as they are. -/
structure OutputA (x y : Dev) : Prop where
  rest : OutputsOnly x y
  latch : y.safe.latchOff = x.safe.latchOff
  hs : y.switch 0 = x.switch 0
  ls : y.switch 1 = x.switch 1

theorem OutputA.refl (x : Dev) : OutputA x x := ⟨rfl, rfl, rfl, rfl⟩

theorem outputA_setB (v : Nat) : OutputA d (d.setB v) := by
  have honly := switchesOnly_setB d v
  have hswitch {j : Nat} (hj : j < 2) : (d.setB v).switch j = d.switch j := by
    have hpair (x : Dev) (on : Bool) : (x.setPair2 true on).switch j = x.switch j :=
      switch_setPair2_apart x true on (show j ≠ 2 by omega) (show j ≠ 3 by omega)
    have htimers (x : Dev) : (x.startTimers true).switch j = x.switch j :=
      (switch_setSwitch_ne _ _ (show j ≠ 3 by omega)).trans (switch_setSwitch_ne _ _ (show j ≠ 2 by omega))
    have hsticky (x : Dev) (n src : Nat) : (x.sticky Reg.SAFE_EVT n src).switch j = x.switch j := by
      unfold Dev.switch
      rw [Dev.sticky_safe]
    unfold Dev.setB
    dsimp only
    split
    · rfl
    · split
      · exact (hsticky _ _ _).trans ((htimers _).trans (hpair _ _))
      · exact (hsticky _ _ _).trans (hpair _ _)
  refine ⟨honly.outputs, ?_, hswitch (by decide), hswitch (by decide)⟩
  unfold SwitchesOnly at honly
  rw [honly]

theorem outputA_fieldOff : OutputA d d.fieldOff := by
  obtain ⟨hrest, hlatch, hhs, hls⟩ := outputA_setB d 2
  exact ⟨hrest.trans rfl, hlatch, hhs, hls⟩

theorem outputA_outputB : OutputA d d.outputB := by
  have hite {y z : Dev} {c : Prop} [Decidable c] (h : OutputA d y) (g : OutputA d z) : OutputA d (if c then y else z) := by
    split
    · exact h
    · exact g
  unfold Dev.outputB
  exact hite (.refl d) (hite (hite (.refl d) (outputA_setB d 0)) (hite (hite (.refl d) (outputA_setB d 1))
    (hite (outputA_fieldOff d) (.refl d))))

/-! ## The lock -/

/-- What shows Quench lock is as it was: its causes, count and time, and `SAFE_STAT` but for output B's state. -/
structure LockKept (x y : Dev) : Prop where
  cause : y.reg Reg.SAFE_CAUSE = x.reg Reg.SAFE_CAUSE
  count : y.reg Reg.SAFE_QUENCH_CNT = x.reg Reg.SAFE_QUENCH_CNT
  wide : y.wide = x.wide
  stat : ∀ f : Fld, f.addr = Reg.SAFE_STAT → f.lo + f.width ≤ 8 ∨ 11 ≤ f.lo → y.fld f = x.fld f

theorem LockKept.refl (x : Dev) : LockKept x x := ⟨rfl, rfl, rfl, fun _ _ _ => rfl⟩

theorem LockKept.trans {x y z : Dev} (h : LockKept x y) (g : LockKept y z) : LockKept x z :=
  ⟨g.cause.trans h.cause, g.count.trans h.count, g.wide.trans h.wide, fun f ha hf => (g.stat f ha hf).trans (h.stat f ha hf)⟩

theorem LockKept.ite {x y z : Dev} {c : Prop} [Decidable c] (h : LockKept x y) (g : LockKept x z) : LockKept x (if c then y else z) := by
  split
  · exact h
  · exact g

theorem Alters.lockKept {x y : Dev} {parts : List Part} {regs : List Nat} (h : Alters parts regs x y) (hp : .wide ∉ parts)
    (hr : ∀ a ∈ [Reg.SAFE_STAT, Reg.SAFE_CAUSE, Reg.SAFE_QUENCH_CNT], a ∉ regs) : LockKept x y where
  cause := h.reg _ (hr _ (by decide))
  count := h.reg _ (hr _ (by decide))
  wide := h.same .wide hp
  stat f ha _ := h.fld (ha ▸ hr Reg.SAFE_STAT (by decide))

theorem lockKept_bState (v : Nat) : LockKept d (d.setFld F.SAFE_STAT_B_STATE v) where
  cause := Dev.reg_setFld_ne _ _ _ _ (by decide)
  count := Dev.reg_setFld_ne _ _ _ _ (by decide)
  wide := rfl
  stat f _ hf := Dev.fld_setFld_apart d F.SAFE_STAT_B_STATE f v (by decide) (.inr hf)

theorem lockKept_setB (v : Nat) : LockKept d (d.setB v) := by
  have hpair (x : Dev) (on : Bool) : LockKept x (x.setPair2 true on) := (alters_setPair2 x true on).lockKept (by decide) (by decide)
  have htimers (x : Dev) : LockKept x (x.startTimers true) := (alters_startTimers x true).lockKept (by decide) (by decide)
  have hsticky (x : Dev) (n src : Nat) : LockKept x (x.sticky Reg.SAFE_EVT n src) :=
    ((Alters.refl x (parts := []) (regs := [Reg.SAFE_EVT])).sticky _ _ _ (by decide)).lockKept (by decide) (by decide)
  unfold Dev.setB
  exact .ite (lockKept_bState d v) (.ite ((lockKept_bState d v).trans ((hpair _ _).trans ((htimers _).trans (hsticky _ _ _))))
    ((lockKept_bState d v).trans ((hpair _ _).trans (hsticky _ _ _))))

theorem lockKept_fieldOff : LockKept d d.fieldOff :=
  (lockKept_setB d 2).trans ((alters_safe _ _).lockKept (by decide) (by decide))

theorem lockKept_outputB : LockKept d d.outputB := by
  unfold Dev.outputB
  exact .ite (.refl d) (.ite (.ite (.refl d) (lockKept_setB d 0)) (.ite (.ite (.refl d) (lockKept_setB d 1))
    (.ite (lockKept_fieldOff d) (.refl d))))

/-- Quench lock is set with causes: the first of them, the count and the time stand where no lock stood (R368, R369, R401). -/
structure LockSet (x y : Dev) (causes first : Nat) : Prop where
  lock : y.flag F.SAFE_STAT_LOCK = true
  cause : y.fld F.SAFE_CAUSE_CAUSE = x.fld F.SAFE_CAUSE_CAUSE ||| causes
  commissioned : y.flag F.SAFE_STAT_COMMISSIONED = x.flag F.SAFE_STAT_COMMISSIONED
  new : x.quenchLock = false → y.fld F.SAFE_CAUSE_FIRST = first ∧
    y.cnt C.SAFE_QUENCH_CNT = min (cntTop C.SAFE_QUENCH_CNT) (x.cnt C.SAFE_QUENCH_CNT + 1) ∧ y.fld F.SAFE_STAT_A_STATE = 0 ∧
    y.wide64 Reg.SAFE_LOCK_TIME_LO = x.now % 2 ^ 64

theorem LockSet.kept {x y z : Dev} {causes first : Nat} (h : LockSet x y causes first) (g : LockKept y z) : LockSet x z causes first where
  lock := (congrArg (· == 1) (g.stat F.SAFE_STAT_LOCK rfl (by decide))).trans h.lock
  cause := (congrArg (field · _ _) g.cause).trans h.cause
  commissioned := (congrArg (· == 1) (g.stat F.SAFE_STAT_COMMISSIONED rfl (by decide))).trans h.commissioned
  new hx := by
    obtain ⟨hfirst, hcount, haOff, htime⟩ := h.new hx
    exact ⟨(congrArg (field · _ _) g.cause).trans hfirst, (Dev.cnt_congr _ g.count g.wide).trans hcount,
      (g.stat F.SAFE_STAT_A_STATE rfl (by decide)).trans haOff, (wide64_congr g.wide _).trans htime⟩

/-- The causes stand beside those before. -/
def Dev.addCauses (d : Dev) (causes : Nat) : Dev := d.setFld F.SAFE_CAUSE_CAUSE (d.fld F.SAFE_CAUSE_CAUSE ||| causes)

/-- The lock is set, with its first cause and its time. -/
def Dev.newLock (d : Dev) (first : Nat) : Dev :=
  ((d.setFld F.SAFE_CAUSE_FIRST first).setFlag F.SAFE_STAT_LOCK true).putWide Reg.SAFE_LOCK_TIME_LO d.now

theorem lockWith_eq (causes first : Nat) : d.lockWith causes first true = if d.quenchLock then d.addCauses causes else
    (((d.addCauses causes).newLock first).bump C.SAFE_QUENCH_CNT).setFld F.SAFE_STAT_A_STATE 0 := rfl

theorem causes_addCauses {causes : Nat} (h : causes < 2 ^ 13) :
    (d.addCauses causes).fld F.SAFE_CAUSE_CAUSE = d.fld F.SAFE_CAUSE_CAUSE ||| causes :=
  (Dev.fld_setFld_self d F.SAFE_CAUSE_CAUSE _ (by decide)).trans
    (Nat.mod_eq_of_lt (Nat.or_lt_two_pow (field_lt _ _ 13) h))

theorem lockSet_lockWith {causes first : Nat} (h : causes < 2 ^ 13) (hf : first < 2 ^ 5) :
    LockSet d (d.lockWith causes first true) causes first := by
  rw [lockWith_eq]
  have hadd : Alters [] [Reg.SAFE_CAUSE] d (d.addCauses causes) := (Alters.refl d).setFld F.SAFE_CAUSE_CAUSE _ (by decide)
  split
  next hlock =>
    exact ⟨(hadd.flag (by decide)).trans hlock, causes_addCauses d h, hadd.flag (by decide), fun hno => absurd hlock (by rw [hno]; decide)⟩
  next hlock =>
    generalize hx : d.addCauses causes = x at hadd
    have hcause : x.fld F.SAFE_CAUSE_CAUSE = d.fld F.SAFE_CAUSE_CAUSE ||| causes := hx ▸ causes_addCauses d h
    have hcounted : Alters [] [Reg.SAFE_QUENCH_CNT, C.SAFE_QUENCH_CNT.sat] (x.newLock first) ((x.newLock first).bump C.SAFE_QUENCH_CNT) :=
      (Alters.refl _).bump C.SAFE_QUENCH_CNT (by decide) (by decide) rfl
    have hstate : Alters [] [Reg.SAFE_STAT] ((x.newLock first).bump C.SAFE_QUENCH_CNT)
        (((x.newLock first).bump C.SAFE_QUENCH_CNT).setFld F.SAFE_STAT_A_STATE 0) := (Alters.refl _).setFld F.SAFE_STAT_A_STATE 0 (by decide)
    have hnew : Alters [.wide] [Reg.SAFE_CAUSE, Reg.SAFE_STAT] x (x.newLock first) :=
      ((((Alters.refl x).setFld F.SAFE_CAUSE_FIRST _ (by decide)).setFlag F.SAFE_STAT_LOCK _ (by decide)).putWide _ _ (by decide) (by decide))
    have hflag (f : Fld) (hf : f.addr = Reg.SAFE_STAT) (hapart : f.lo + f.width ≤ 4 ∨ 6 ≤ f.lo) :
        (((x.newLock first).bump C.SAFE_QUENCH_CNT).setFld F.SAFE_STAT_A_STATE 0).flag f = (x.newLock first).flag f :=
      (Dev.flag_setFld_apart _ F.SAFE_STAT_A_STATE f _ (by decide) (.inr hapart)).trans (hcounted.flag (by rw [hf]; decide))
    have hword (f : Fld) (hf : f.addr = Reg.SAFE_CAUSE) :
        (((x.newLock first).bump C.SAFE_QUENCH_CNT).setFld F.SAFE_STAT_A_STATE 0).fld f = (x.setFld F.SAFE_CAUSE_FIRST first).fld f :=
      (hstate.fld (by rw [hf]; decide)).trans ((hcounted.fld (by rw [hf]; decide)).trans
        (Dev.fld_setFlag_apart _ F.SAFE_STAT_LOCK f _ (by decide) (.inl (by rw [hf]; decide))))
    refine ⟨?_, ?_, ?_, fun _ => ⟨?_, ?_, ?_, ?_⟩⟩
    · exact (hflag F.SAFE_STAT_LOCK rfl (by decide)).trans (Dev.flag_setFlag_self _ F.SAFE_STAT_LOCK true (by decide) rfl)
    · exact (hword F.SAFE_CAUSE_CAUSE rfl).trans ((Dev.fld_setFld_apart _ F.SAFE_CAUSE_FIRST F.SAFE_CAUSE_CAUSE _ (by decide) (by decide)).trans hcause)
    · exact (hflag F.SAFE_STAT_COMMISSIONED rfl (by decide)).trans ((Dev.flag_setFlag_apart _ F.SAFE_STAT_LOCK F.SAFE_STAT_COMMISSIONED _ (by decide)
        (by decide)).trans ((Dev.flag_setFld_apart _ F.SAFE_CAUSE_FIRST F.SAFE_STAT_COMMISSIONED _ (by decide) (by decide)).trans (hadd.flag (by decide))))
    · exact (hword F.SAFE_CAUSE_FIRST rfl).trans ((Dev.fld_setFld_self _ F.SAFE_CAUSE_FIRST _ (by decide)).trans (Nat.mod_eq_of_lt hf))
    · have hbefore : (x.newLock first).cnt C.SAFE_QUENCH_CNT = d.cnt C.SAFE_QUENCH_CNT :=
        congrArg BitVec.toNat ((hnew.reg Reg.SAFE_QUENCH_CNT (by decide)).trans (hadd.reg _ (by decide)))
      rw [← hbefore]
      exact (Dev.cnt_congr _ (hstate.reg _ (by decide)) (hstate.same .wide (by decide))).trans (Dev.cnt_bumpBy _ _ _ (by decide))
    · exact Dev.fld_setFld_self _ F.SAFE_STAT_A_STATE 0 (by decide)
    · have htime : x.now = d.now := by unfold Dev.now; rw [hadd.same .time (by decide)]
      have hwide := same_trans (hcounted.same .wide (by decide)) (hstate.same .wide (by decide))
      refine (wide64_congr hwide _).trans ?_
      exact (Dev.wide64_putWide _ _ _ _).trans ((if_pos rfl).trans (congrArg (· % 2 ^ 64) htime))

/-! ## A Quench -/

/-- Motion supervision ends with output A, or has found the loss of motion (R368, R379). -/
def Dev.endMotion (d : Dev) (causes : Nat) : Dev :=
  if bitAt causes Cause.motion then (d.setFld F.SAFE_MOTION_STATE 2).sticky Reg.SAFE_EVT 3 Ev.motionLost
  else if d.fld F.SAFE_MOTION_STATE = 1 then d.setFld F.SAFE_MOTION_STATE 0 else d

/-- The latch of chain E is held. -/
def Dev.holdLatch (d : Dev) : Dev := { d with safe := { d.safe with latchOff := true } }

theorem quenchNow_eq (causes : Nat) : d.quenchNow causes =
    let x := (((d.lockWith causes (firstCause causes) true).setPair2 false false).endMotion causes).holdLatch.outputB
    if d.quenchLock then x else x.quenchEvent := rfl

theorem alters_endMotion (causes : Nat) : Alters [] [Reg.SAFE_MOTION, Reg.SAFE_EVT] d (d.endMotion causes) := by
  have hset (v : Nat) : Alters [] [Reg.SAFE_MOTION, Reg.SAFE_EVT] d (d.setFld F.SAFE_MOTION_STATE v) := (Alters.refl d).setFld _ _ (by decide)
  unfold Dev.endMotion
  exact .ite (fun _ => (hset 2).sticky _ _ _ (by decide)) fun _ => .ite (fun _ => hset 0) fun _ => .refl d

/-- What a Quench leaves (R368, R369). -/
structure Quenched (x y : Dev) (causes : Nat) : Prop where
  lockSet : LockSet x y causes (firstCause causes)
  hs : (y.switch 0).gate = false
  ls : (y.switch 1).gate = false
  latch : y.safe.latchOff = true
  bState : x.safe.running = true → y.bState = b2n x.fnB
  rest : OutputsOnly x y
  alters : Alters [.safe, .wide] quenchRegs x y

theorem firstCause_lt (m : Nat) : firstCause m < 2 ^ 5 := by
  unfold firstCause
  cases h : (List.range 13).find? (bitAt m) with
  | none => decide
  | some n => exact Nat.lt_trans (List.mem_range.mp (List.mem_of_find?_eq_some h)) (by decide)

theorem quenched_quenchNow {causes : Nat} (h : causes < 2 ^ 13) : Quenched d (d.quenchNow causes) causes := by
  generalize hx : d.lockWith causes (firstCause causes) true = x
  generalize hy : (x.setPair2 false false).endMotion causes = y
  have hset : LockSet d x causes (firstCause causes) := hx ▸ lockSet_lockWith d h (firstCause_lt causes)
  have hlock : Alters [.wide] lockRegs d x := hx ▸ alters_lockWith d _ _ _
  have hoff : Alters [.safe] [Reg.SAFE_IN] x (x.setPair2 false false) := alters_setPair2 x false false
  have hmotion : Alters [] [Reg.SAFE_MOTION, Reg.SAFE_EVT] (x.setPair2 false false) y := hy ▸ alters_endMotion _ causes
  have hlatch : Alters [.safe] [] y y.holdLatch := alters_safe y _
  have hb := alters_outputB y.holdLatch
  have hout := outputA_outputB y.holdLatch
  have hevent := alters_quenchEvent y.holdLatch.outputB
  have hsafe : y.safe = (x.setPair2 false false).safe := hmotion.same .safe (by decide)
  have hxsafe : x.safe = d.safe := hlock.same .safe (by decide)
  have hkept : LockKept x y.holdLatch := (hoff.lockKept (by decide) (by decide)).trans
    ((hmotion.lockKept (by decide) (by decide)).trans (hlatch.lockKept (by decide) (by decide)))
  have hheld := hset.kept hkept
  obtain ⟨hhs, hls⟩ := gates_setPair2_off x false
  have hswitch (j : Nat) : y.holdLatch.switch j = (x.setPair2 false false).switch j := by
    show y.switch j = _
    unfold Dev.switch
    rw [hsafe]
  have hrun : y.holdLatch.safe.running = d.safe.running := by
    have honly := switchesOnly_setPair2 x false false
    show y.safe.running = _
    rw [hsafe, honly, hxsafe]
  have hfn : y.holdLatch.fnB = d.fnB := by
    have hall : Alters [.safe, .wide] quenchRegs d y.holdLatch :=
      (hlock.mono (by decide) (by decide)).trans ((hoff.mono (by decide) (by decide)).trans
        ((hmotion.mono (by decide) (by decide)).trans (hlatch.mono (by decide) (by decide))))
    exact hall.fnB (by decide) hheld.commissioned
  have hbefore : Quenched d y.holdLatch.outputB causes := by
    refine ⟨hheld.kept (lockKept_outputB _), ?_, ?_, ?_, fun hr => ?_, ?_, ?_⟩
    · rw [hout.hs, hswitch]; exact hhs
    · rw [hout.ls, hswitch]; exact hls
    · rw [hout.latch]; rfl
    · rw [bState_outputB _ (hrun.trans hr) hheld.lock, hfn]
    · exact (outputsOnly_of_safe hxsafe).trans ((switchesOnly_setPair2 x false false).outputs.trans
        ((outputsOnly_of_safe hsafe).trans (.trans rfl hout.rest)))
    · exact (hlock.mono (by decide) (by decide)).trans ((hoff.mono (by decide) (by decide)).trans
        ((hmotion.mono (by decide) (by decide)).trans ((hlatch.mono (by decide) (by decide)).trans (hb.mono (by decide) (by decide)))))
  rw [quenchNow_eq, hx, hy]
  dsimp only
  split
  · exact hbefore
  · have hesafe : y.holdLatch.outputB.quenchEvent.safe = y.holdLatch.outputB.safe := hevent.same .safe (by decide)
    have heswitch (j : Nat) : y.holdLatch.outputB.quenchEvent.switch j = y.holdLatch.outputB.switch j :=
      congrArg (fun s : SafeSt => s.switches.getD j {}) hesafe
    refine ⟨hbefore.lockSet.kept (hevent.lockKept (by decide) (by decide)), ?_, ?_, ?_, fun hr => ?_, ?_, ?_⟩
    · rw [heswitch, hbefore.hs]
    · rw [heswitch, hbefore.ls]
    · rw [hesafe, hbefore.latch]
    · exact (hevent.fld (f := F.SAFE_STAT_B_STATE) (by decide)).trans (hbefore.bState hr)
    · exact hbefore.rest.trans (outputsOnly_of_safe hesafe)
    · exact hbefore.alters.trans (hevent.mono (by decide) (by decide))

end Sys2Proof.Machine
end

section
/-! SUPPORT. The end of a commit to the store and of a prepare phase (R484, R485, R492, R494). -/

namespace Sys2Proof.Machine

/-! ## Writing to the log -/

/-- The log has been written: its blocks, its head and its sequence number, and nothing else of the store. -/
def LogOnly (x y : StoreSt) : Prop := y = { x with blocks := y.blocks, head := y.head, seq := y.seq }

theorem LogOnly.trans {x y z : StoreSt} (h : LogOnly x y) (g : LogOnly y z) : LogOnly x z := by
  unfold LogOnly at *
  rw [g, h]

theorem logOnly_refl (x : StoreSt) : LogOnly x x := rfl

theorem LogOnly.foldl {α : Type} {f : StoreSt → α → StoreSt} (hf : ∀ st a, LogOnly st (f st a)) (l : List α) (st : StoreSt) :
    LogOnly st (l.foldl f st) :=
  List.foldlRecOn l f (motive := LogOnly st) rfl fun _ h a _ => h.trans (hf _ a)

theorem logOnly_writeRec (st : StoreSt) (r : LogRec) : LogOnly st (st.writeRec r) := by
  have hnext : LogOnly st (match st.nextFree with | some j => st.addTo j r | none => st) := by
    split
    · exact rfl
    · exact rfl
  unfold StoreSt.writeRec
  split
  · split
    · exact rfl
    · exact hnext
  · exact hnext

theorem logOnly_relocate (st : StoreSt) (i : Nat) (keep : LogRec → Bool) : LogOnly st (st.relocate i keep) := by
  have hhead : LogOnly st (if st.head = some i then { st with head := none } else st) := by
    split
    · exact rfl
    · exact rfl
  unfold StoreSt.relocate
  split
  · exact rfl
  · exact hhead.trans ((LogOnly.foldl logOnly_writeRec _ _).trans
      ((LogOnly.foldl (fun st s => logOnly_writeRec st ⟨s, sget (fun _ => 0) s st.gens, none, 8⟩) _ _).trans rfl))

theorem logOnly_collect : ∀ (n : Nat) (st : StoreSt), LogOnly st (st.collect n)
  | 0, _ => rfl
  | n + 1, st => by
    unfold StoreSt.collect
    split
    · exact rfl
    · split
      · exact (logOnly_relocate st _ _).trans (logOnly_collect n _)
      · exact rfl

theorem logOnly_level (st : StoreSt) : LogOnly st st.level := by
  unfold StoreSt.level
  split
  · split
    · exact logOnly_relocate st _ _
    · exact rfl
  · exact rfl

/-- A commit writes the log and the values of its set; the safety set's check value and release stay. -/
theorem addCommit_safety (st : StoreSt) (c : Commit) :
    (st.addCommit c).safeCheck = st.safeCheck ∧ (st.addCommit c).safeReleased = st.safeReleased := by
  have hlog (l : List LogRec) : LogOnly st (l.foldl (fun (st : StoreSt) r => (st.writeRec r).collect 4) st).level :=
    (LogOnly.foldl (fun st r => (logOnly_writeRec st r).trans (logOnly_collect 4 _)) l st).trans (logOnly_level _)
  have hcheck (l : List LogRec) := congrArg StoreSt.safeCheck (hlog l)
  have hreleased (l : List LogRec) := congrArg StoreSt.safeReleased (hlog l)
  unfold StoreSt.addCommit
  dsimp only
  split
  · exact ⟨hcheck _, hreleased _⟩
  · exact ⟨hcheck _, hreleased _⟩

/-- The generation of a set that is committed counts, but for an overlay that is erased. -/
theorem addCommit_gen (st : StoreSt) {c : Commit} (h : c.set = 0 ∨ 16 ≤ c.set ∨ c.entries ≠ []) :
    sget (fun _ => 0) c.set (st.addCommit c).gens = sget (fun _ => 0) c.set st.gens + 1 := by
  have hkept : (decide (1 ≤ c.set ∧ c.set ≤ 15) && c.entries.isEmpty) = false := by
    rw [Bool.and_eq_false_iff, decide_eq_false_iff_not, List.isEmpty_eq_false_iff]
    obtain h | h | h := h
    · exact .inl (by omega)
    · exact .inl (by omega)
    · exact .inr h
  unfold StoreSt.addCommit
  dsimp only
  rw [hkept]
  simp only [Bool.false_eq_true, if_false, sget_sset_self]

/-! ## The end of a commit -/

theorem alters_store (d : Dev) (v : StoreSt) : Alters [.store] [] d { d with store := v } := by
  refine (Alters.refl d).direct (fun p hp => ?_) rfl rfl rfl rfl rfl
  cases p with
  | store => exact absurd (List.mem_singleton_self _) hp
  | _ => rfl

/-- The registers that show the store. -/
abbrev storeRegs : List Nat := [Reg.GLB_STORE_INFO, Reg.GLB_STORE_FREE, Reg.GLB_STORE_ERASE_MAX, Reg.GLB_STORE_ERASE_MIN, Reg.GLB_CFG_EVT]

theorem alters_showStore (d : Dev) : Alters [] storeRegs d d.showStore := by
  unfold Dev.showStore
  refine .ite (fun _ => .refl d) fun _ => ?_
  have hshow (a b c e : Word) : Alters [] storeRegs d ((((d.put Reg.GLB_STORE_INFO a).put Reg.GLB_STORE_FREE b).put Reg.GLB_STORE_ERASE_MAX
      c).put Reg.GLB_STORE_ERASE_MIN e) :=
    ((((Alters.refl d).put _ a (by decide)).put _ b (by decide)).put _ c (by decide)).put _ e (by decide)
  exact .ite (fun _ => (hshow _ _ _ _).sticky _ _ _ (by decide)) fun _ => hshow _ _ _ _

/-- The commit is in the store. -/
def Dev.keepCommit (d : Dev) (c : Commit) (rest : List Commit) : Dev :=
  let x := { d with store := { d.store.addCommit c with sums := sset (fun _ => 0) c.set (d.free 32) d.store.sums },
                    cfg := { d.cfg with commits := rest } }.freeNext
  if c.set = 18 then { x with store := { x.store with pulses := x.segPulses, paired := x.blw.paired } } else x

/-- The generation of set `n` is shown, and the commit is counted and reported; COMMIT_BUSY stays while others wait. -/
def Dev.showCommit (d : Dev) (n : Nat) (more : Bool) : Dev :=
  (((d.put (Reg.GLB_STORE_GEN n) (BitVec.ofNat 32 (sget (fun _ => 0) n d.store.gens))).showStore.setFlag
    F.GLB_CFG_STAT_COMMIT_BUSY (more || d.rst.life.isSome)).bump C.GLB_STORE_COMMIT_CNT).raise Ev.storeCommit

theorem commitDone_eq (d : Dev) (c : Commit) (rest : List Commit) : d.commitDone c rest =
    ((d.keepCommit c rest).showCommit c.set (!rest.isEmpty)).completeOwner c.owner 0x0000 := rfl

theorem alters_keepCommit (d : Dev) (c : Commit) (rest : List Commit) : Alters [.cfg, .store, .free] [] d (d.keepCommit c rest) := by
  have hstored (v : StoreSt) (w : CfgSt) (n : Nat) : Alters [.cfg, .store, .free] [] d { d with store := v, cfg := w, freeCtr := n } :=
    (((Alters.refl d).part (alters_store d v) (by decide)).part (alters_cfg _ w) (by decide)).part (alters_free _ n) (by decide)
  unfold Dev.keepCommit
  exact .ite (fun _ => (hstored _ _ _).part (alters_store _ _) (by decide)) fun _ => hstored _ _ _

theorem cfg_keepCommit (d : Dev) (c : Commit) (rest : List Commit) : (d.keepCommit c rest).cfg = { d.cfg with commits := rest } := by
  unfold Dev.keepCommit
  dsimp only
  split <;> rfl

theorem gen_keepCommit (d : Dev) {c : Commit} (rest : List Commit) (h : c.set = 0 ∨ 16 ≤ c.set ∨ c.entries ≠ []) :
    sget (fun _ => 0) c.set (d.keepCommit c rest).store.gens = sget (fun _ => 0) c.set d.store.gens + 1 := by
  rw [← addCommit_gen d.store h]
  unfold Dev.keepCommit
  dsimp only
  split <;> rfl

theorem safety_keepCommit (d : Dev) (c : Commit) (rest : List Commit) :
    (d.keepCommit c rest).store.safeCheck = d.store.safeCheck ∧ (d.keepCommit c rest).store.safeReleased = d.store.safeReleased := by
  obtain ⟨hcheck, hreleased⟩ := addCommit_safety d.store c
  unfold Dev.keepCommit
  dsimp only
  split <;> exact ⟨hcheck, hreleased⟩

/-- The registers of a commit of set `n`. -/
abbrev commitRegs (n : Nat) : List Nat := [Reg.GLB_CFG_STAT, Reg.GLB_CFG_EVT, Reg.GLB_STORE_GEN n, Reg.GLB_STORE_INFO, Reg.GLB_STORE_FREE,
  Reg.GLB_STORE_ERASE_MAX, Reg.GLB_STORE_ERASE_MIN, Reg.GLB_STORE_COMMIT_CNT, C.GLB_STORE_COMMIT_CNT.sat]

theorem alters_showCommit (d : Dev) (n : Nat) (more : Bool) : Alters [] (commitRegs n) d (d.showCommit n more) := by
  have hgen : Alters [] (commitRegs n) d (d.put (Reg.GLB_STORE_GEN n) (BitVec.ofNat 32 (sget (fun _ => 0) n d.store.gens))) :=
    (Alters.refl d).put _ _ (by simp)
  exact (((hgen.trans ((alters_showStore _).mono (fun _ h => h) (by simp))).setFlag F.GLB_CFG_STAT_COMMIT_BUSY _ (by simp)).bump
    C.GLB_STORE_COMMIT_CNT (by simp) (by simp) rfl).raise _ _ _

/-- The generation of a set has a register of its own. -/
theorem storeGen_ne {n : Nat} (h : n ≤ 18) {a : Nat} (ha : a ∈ [Reg.GLB_CFG_STAT, Reg.GLB_STORE_COMMIT_CNT, C.GLB_STORE_COMMIT_CNT.sat] ++ storeRegs) :
    Reg.GLB_STORE_GEN n ≠ a := by
  have hlow : a < 0x140 := by revert a; decide
  simp only [Reg.GLB_STORE_GEN]
  omega

theorem gen_showCommit (d : Dev) {n : Nat} (h : n ≤ 18) (more : Bool) :
    (d.showCommit n more).reg (Reg.GLB_STORE_GEN n) = BitVec.ofNat 32 (sget (fun _ => 0) n d.store.gens) := by
  generalize hx : d.put (Reg.GLB_STORE_GEN n) (BitVec.ofNat 32 (sget (fun _ => 0) n d.store.gens)) = x
  have hrest : Alters [] ([Reg.GLB_CFG_STAT, Reg.GLB_STORE_COMMIT_CNT, C.GLB_STORE_COMMIT_CNT.sat] ++ storeRegs) x (d.showCommit n more) := by
    unfold Dev.showCommit
    rw [hx]
    exact ((((alters_showStore x).mono (fun _ h => h) (by decide)).setFlag F.GLB_CFG_STAT_COMMIT_BUSY _ (by decide)).bump
      C.GLB_STORE_COMMIT_CNT (by decide) (by decide) rfl).raise _ _ _
  rw [hrest.reg _ fun hm => storeGen_ne h hm rfl, ← hx]
  exact Dev.reg_put_self _ _ _

theorem cnt_showCommit (d : Dev) {n : Nat} (h : n ≤ 18) (more : Bool) :
    (d.showCommit n more).cnt C.GLB_STORE_COMMIT_CNT = min (cntTop C.GLB_STORE_COMMIT_CNT) (d.cnt C.GLB_STORE_COMMIT_CNT + 1) := by
  have hbefore (b : Bool) : ((d.put (Reg.GLB_STORE_GEN n) (BitVec.ofNat 32 (sget (fun _ => 0) n d.store.gens))).showStore.setFlag
      F.GLB_CFG_STAT_COMMIT_BUSY b).cnt C.GLB_STORE_COMMIT_CNT = d.cnt C.GLB_STORE_COMMIT_CNT := by
    refine congrArg BitVec.toNat ((Dev.reg_setFlag_ne _ _ _ _ (by decide)).trans (((alters_showStore _).reg _ (by decide)).trans ?_))
    exact Dev.reg_put_ne _ _ _ _ (storeGen_ne h (by decide)).symm
  have hcount := hbefore (more || d.rst.life.isSome)
  unfold Dev.showCommit
  generalize (Dev.setFlag _ F.GLB_CFG_STAT_COMMIT_BUSY (more || d.rst.life.isSome)) = x at hcount ⊢
  rw [← hcount]
  exact Dev.cnt_bumpBy x C.GLB_STORE_COMMIT_CNT 1 (by decide)

/-- What the end of a commit leaves, whatever waits for it. -/
theorem works_commitDone (d : Dev) (c : Commit) (rest : List Commit) :
    Works [.cfg, .store, .free] (commitRegs c.set) d (d.commitDone c rest) := by
  rw [commitDone_eq]
  exact (((alters_keepCommit d c rest).mono (fun _ h => h) (by simp)).trans ((alters_showCommit _ _ _).mono (by simp) fun _ h => h)).works.trans
    (works_completeOwner _ _ _ _)

/-- What a part shows after a commit of set `n`. -/
structure CommitShown (x y : Dev) (c : Commit) (rest : List Commit) : Prop where
  cfg : y.cfg = { x.cfg with commits := rest }
  count : y.cnt C.GLB_STORE_COMMIT_CNT = min (cntTop C.GLB_STORE_COMMIT_CNT) (x.cnt C.GLB_STORE_COMMIT_CNT + 1)
  gen : c.set = 0 ∨ 16 ≤ c.set ∨ c.entries ≠ [] →
    y.reg (Reg.GLB_STORE_GEN c.set) = BitVec.ofNat 32 (sget (fun _ => 0) c.set x.store.gens + 1)
  check : y.store.safeCheck = x.store.safeCheck
  released : y.store.safeReleased = x.store.safeReleased
  raised : ⟨Ev.storeCommit, false, 0, 0⟩ ∈ y.evt.raised

theorem raised_showCommit (d : Dev) (n : Nat) (more : Bool) : ⟨Ev.storeCommit, false, 0, 0⟩ ∈ (d.showCommit n more).evt.raised :=
  List.mem_append_right _ (List.mem_singleton_self _)

theorem commitDone_shown (d : Dev) {c : Commit} (h : c.set ≤ 18) (rest : List Commit) : CommitShown d (d.commitDone c rest) c rest := by
  have hkeep := alters_keepCommit d c rest
  have hkcfg := cfg_keepCommit d c rest
  have hkgen := gen_keepCommit d (c := c) rest
  obtain ⟨hcheck, hreleased⟩ := safety_keepCommit d c rest
  rw [commitDone_eq]
  generalize d.keepCommit c rest = x at *
  have hshow := alters_showCommit x c.set (!rest.isEmpty)
  have hgen := gen_showCommit x h (!rest.isEmpty)
  have hcount := cnt_showCommit x h (!rest.isEmpty)
  have hraise := raised_showCommit x c.set (!rest.isEmpty)
  generalize x.showCommit c.set (!rest.isEmpty) = y at *
  have hends := works_completeOwner (parts := []) (regs := []) y c.owner 0x0000 []
  have hstore : (y.completeOwner c.owner 0x0000).store = x.store := same_trans (hshow.same .store (by decide)) (hends.same .store (by decide))
  have hcfg : (y.completeOwner c.owner 0x0000).cfg = x.cfg := same_trans (hshow.same .cfg (by decide)) (hends.same .cfg (by decide))
  have hown : cmdqOwn (Reg.GLB_STORE_GEN c.set) = false := by
    simp only [cmdqOwn, Reg.GLB_STORE_GEN, decide_eq_false_iff_not]
    omega
  have hbefore : x.cnt C.GLB_STORE_COMMIT_CNT = d.cnt C.GLB_STORE_COMMIT_CNT := congrArg BitVec.toNat (hkeep.reg _ List.not_mem_nil)
  obtain ⟨l, hl⟩ := hends.raised
  exact {
    cfg := hcfg.trans hkcfg
    count := (congrArg BitVec.toNat (hends.reg _ List.not_mem_nil rfl)).trans (hbefore ▸ hcount)
    gen := fun hset => (hends.reg _ List.not_mem_nil hown).trans (hkgen hset ▸ hgen)
    check := hstore ▸ hcheck
    released := hstore ▸ hreleased
    raised := hl ▸ List.mem_append_left _ hraise }

theorem evtRingSize_not_commitReg (n : Nat) (h : n ≤ 18) : Reg.EVT_RING_SIZE ∉ commitRegs n := by
  intro hm
  obtain hm | hm : Reg.EVT_RING_SIZE = Reg.GLB_STORE_GEN n ∨ Reg.EVT_RING_SIZE ∈
      [Reg.GLB_CFG_STAT, Reg.GLB_STORE_COMMIT_CNT, C.GLB_STORE_COMMIT_CNT.sat] ++ storeRegs := by
    revert hm
    simp only [List.mem_cons, List.mem_append, List.not_mem_nil, or_false]
    tauto
  · simp only [Reg.EVT_RING_SIZE, Reg.GLB_STORE_GEN] at hm
    omega
  · exact absurd hm (by decide)

/-- A commit of the configuration is in the store (R492). -/
theorem gives_commitDone {s : State} {c : Commit} {rest : List Commit} (hc : s.dev.cfg.commits = c :: rest) (h2 : c.opcode ≠ 0x0702)
    (h3 : c.opcode ≠ 0x0703) (hset : c.set ≤ 18) (hgen : c.set = 0 ∨ 16 ≤ c.set ∨ c.entries ≠ []) :
    Gives .storeCommitComplete s fun t => t.dev.cfg = { s.dev.cfg with commits := rest } ∧ Counts C.GLB_STORE_COMMIT_CNT 1 s t ∧
      Pending t Ev.storeCommit ∧
      t.dev.reg (Reg.GLB_STORE_GEN c.set) = BitVec.ofNat 32 (sget (fun _ => 0) c.set s.dev.store.gens + 1) ∧
      Leaves [.cfg, .store, .free] (commitRegs c.set) s t := by
  have hwork : s.dev.begin_.storeCommitEnd = s.dev.begin_.commitDone c rest := by
    unfold Dev.storeCommitEnd
    rw [show s.dev.begin_.cfg.commits = c :: rest from hc]
    dsimp only
    rw [if_neg h2, if_neg h3, if_neg h2, if_neg h3]
  have hshown := commitDone_shown s.dev.begin_ hset rest
  have ht := onDev_settled s fun _ d => d.storeCommitEnd
  rw [hwork] at ht
  have hown : evtOwn (Reg.GLB_STORE_GEN c.set) = false ∧ cmdqOwn (Reg.GLB_STORE_GEN c.set) = false := by
    simp only [evtOwn, cmdqOwn, Reg.GLB_STORE_GEN, decide_eq_false_iff_not]
    omega
  have hworks := works_commitDone s.dev.begin_ c rest
  rw [← hwork] at hworks
  have hleaves := Works.stepLeaves (f := fun _ d => d.storeCommitEnd) hworks (evtRingSize_not_commitReg c.set hset)
  generalize s.dev.begin_.commitDone c rest = e at ht hshown
  have hcfg : (s.onDev fun _ d => d.storeCommitEnd).dev.cfg = e.cfg := ht.parts .cfg
  have hcount : Counts C.GLB_STORE_COMMIT_CNT 1 s (s.onDev fun _ d => d.storeCommitEnd) :=
    (ht.cnt C.GLB_STORE_COMMIT_CNT rfl rfl).trans hshown.count
  have hpend : Pending (s.onDev fun _ d => d.storeCommitEnd) Ev.storeCommit := ht.raised ⟨Ev.storeCommit, false, 0, 0⟩ hshown.raised (by decide)
  have hgenreg := (ht.reg (Reg.GLB_STORE_GEN c.set) hown.1 hown.2).trans (hshown.gen hgen)
  exact ⟨_, rfl, hcfg.trans hshown.cfg, hcount, hpend, hgenreg, hleaves⟩

/-! ## The checks of a prepare phase

They look at the values of parameters only: the queues, and what a step has sent and raised, are nothing to them. -/

/-- The part as a step begins, with other command queues. -/
def Dev.withCmd (d : Dev) (c : CmdSt) : Dev := { d.begin_ with cmd := c }

theorem foldl_withCmd {α : Type} {f : Dev → α → Dev} (c : CmdSt) (hf : ∀ y a, f (y.withCmd c) a = (f y a).withCmd c) :
    ∀ (l : List α) (d : Dev), l.foldl f (d.withCmd c) = (l.foldl f d).withCmd c
  | [], _ => rfl
  | a :: l, d => by
    rw [List.foldl_cons, hf, foldl_withCmd c hf l, List.foldl_cons]

theorem setPar_withCmd (d : Dev) (c : CmdSt) (i e v : Nat) : (d.withCmd c).setPar i e v = (d.setPar i e v).withCmd c := by
  unfold Dev.setPar
  split
  · rfl
  · split
    · rfl
    · exact foldl_withCmd c (fun _ _ => rfl) _ d

theorem assume_withCmd (d : Dev) (c : CmdSt) (drops : List Nat) (ts : List (Nat × Nat)) :
    (d.withCmd c).assume_ drops ts = (d.assume_ drops ts).withCmd c :=
  foldl_withCmd c (fun y _ => setPar_withCmd y c _ _ _) ts { d with cfg := { d.cfg with live := d.cfg.live.filter fun e => !drops.contains e.1 } }

theorem ahead_withCmd (d : Dev) (c : CmdSt) : (d.withCmd c).ahead = d.ahead.withCmd c :=
  foldl_withCmd c (fun y _ => assume_withCmd y c _ _) d.cfg.waiting d

theorem groupDrops_withCmd (d : Dev) (c : CmdSt) (drops : List Nat) (ts : List (Nat × Nat)) :
    (d.withCmd c).groupDrops drops ts = d.groupDrops drops ts := by
  unfold Dev.groupDrops
  rw [assume_withCmd]
  rfl

theorem prepareCheck_withCmd (d : Dev) (c : CmdSt) (drops : List Nat) (ts : List (Nat × Nat)) (fmt : Bool) :
    (d.withCmd c).prepareCheck drops ts fmt = d.prepareCheck drops ts fmt := by
  unfold Dev.prepareCheck
  rw [ahead_withCmd]
  dsimp only
  rw [groupDrops_withCmd, assume_withCmd]
  rfl

/-! ## The end of a prepare phase -/

/-- The prepare phase is over. -/
def Dev.endPrepare (d : Dev) : Dev := { d with cfg := { d.cfg with preparing := none } }

/-- A change waits for a frame boundary. -/
def Dev.await (d : Dev) (c : Change) : Dev :=
  Dev.showPending { d with cfg := { d.cfg with waiting := d.cfg.waiting ++ [{ c with prepared := d.time.ticks }] } }

theorem placeChange_waits {d : Dev} {c : Change} (h : (hasClassF (c.targets.map (·.1) ++ c.drops) && !d.atRest) = true) :
    d.placeChange c = d.await c := if_pos h

theorem alters_await (d : Dev) (c : Change) : Alters [.cfg] [Reg.GLB_CFG_STAT] d (d.await c) :=
  (((Alters.refl d).part (alters_cfg d _) (by decide)).setFlag F.GLB_CFG_STAT_PENDING _ (by decide)).setFld
    F.GLB_CFG_STAT_PEND_OVERLAY _ (by decide)

theorem pending_await (d : Dev) (c : Change) : (d.await c).flag F.GLB_CFG_STAT_PENDING = true := by
  refine (Dev.flag_setFld_apart _ F.GLB_CFG_STAT_PEND_OVERLAY F.GLB_CFG_STAT_PENDING _ (by decide) (by decide)).trans
    ((Dev.flag_setFlag_self _ F.GLB_CFG_STAT_PENDING _ (by decide) rfl).trans ?_)
  show (!(d.cfg.waiting ++ [_]).isEmpty) = true
  rw [List.isEmpty_eq_false_iff.mpr (List.append_ne_nil_of_right_ne_nil _ (List.cons_ne_nil _ _))]
  rfl

section
variable {s : State} {c : Change} {r : Running} (hp : s.dev.cfg.preparing = some c)
  (hr : (s.dev.cmd.running.find? fun r => c.by_ == .command r.pair r.pkt.tag.toNat) = some r) (hop : r.pkt.opcode.toNat = 0x0606)
  (hts : ∀ y ∈ (s.dev.overlayTargets (c.overlay.getD 0)).1, s.dev.peerOwned y.1 = false)
  (hds : ∀ k ∈ (s.dev.overlayTargets (c.overlay.getD 0)).2, s.dev.peerOwned k = false)
include hp hr hop hts hds

/-- The prepare phase of an overlay that the peer link owns nothing of. -/
theorem prepareEnd_overlay (mem : List Host.Cell) : s.dev.begin_.prepareEnd mem =
    match s.dev.prepareCheck (s.dev.overlayTargets (c.overlay.getD 0)).2 (s.dev.overlayTargets (c.overlay.getD 0)).1 true with
    | some f => s.dev.begin_.refuseChange r f.1 f.2
    | none => s.dev.begin_.endPrepare.placeChange
      { c with targets := (s.dev.overlayTargets (c.overlay.getD 0)).1, drops := (s.dev.overlayTargets (c.overlay.getD 0)).2 } := by
  generalize hx : s.dev.overlayTargets (c.overlay.getD 0) = x at *
  obtain ⟨ts, drops⟩ := x
  have htargets : s.dev.begin_.overlayTargets (c.overlay.getD 0) = (ts, drops) := hx
  have hnone : (ts.any (fun t => s.dev.begin_.peerOwned t.1) || drops.any s.dev.begin_.peerOwned) = false := by
    rw [Bool.or_eq_false_iff, List.any_eq_false, List.any_eq_false]
    exact ⟨fun y hy => Bool.eq_false_iff.mp (hts y hy), fun k hk => Bool.eq_false_iff.mp (hds k hk)⟩
  have hts' : ts.filter (fun t => !s.dev.begin_.peerOwned t.1) = ts := List.filter_eq_self.mpr fun y hy => by
    rw [show s.dev.begin_.peerOwned y.1 = false from hts y hy]; rfl
  have hds' : drops.filter (fun k => !s.dev.begin_.peerOwned k) = drops := List.filter_eq_self.mpr fun k hk => by
    rw [show s.dev.begin_.peerOwned k = false from hds k hk]; rfl
  have hcheck : s.dev.begin_.prepareCheck drops ts true = s.dev.prepareCheck drops ts true :=
    prepareCheck_withCmd s.dev s.dev.cmd drops ts true
  unfold Dev.prepareEnd
  rw [show s.dev.begin_.cfg.preparing = some c from hp]
  dsimp only
  rw [show (s.dev.begin_.cmd.running.find? fun r => c.by_ == .command r.pair r.pkt.tag.toNat) = some r from hr]
  dsimp only
  rw [if_pos hop, htargets]
  dsimp only
  rw [hnone, hts', hds', hop, show ((0x0606 : Nat) != 0x0608) = true from rfl, hcheck]
  cases s.dev.prepareCheck drops ts true with
  | some f => rfl
  | none => rfl

end

/-- The change of an overlay that passes every check, and holds a class-F element while the scan moves, waits. -/
theorem gives_prepareWaits {s : State} {c : Change} {r : Running} (hp : s.dev.cfg.preparing = some c)
    (hr : (s.dev.cmd.running.find? fun r => c.by_ == .command r.pair r.pkt.tag.toNat) = some r) (hop : r.pkt.opcode.toNat = 0x0606)
    (hts : ∀ y ∈ (s.dev.overlayTargets (c.overlay.getD 0)).1, s.dev.peerOwned y.1 = false)
    (hds : ∀ k ∈ (s.dev.overlayTargets (c.overlay.getD 0)).2, s.dev.peerOwned k = false)
    (hcheck : s.dev.prepareCheck (s.dev.overlayTargets (c.overlay.getD 0)).2 (s.dev.overlayTargets (c.overlay.getD 0)).1 true = none)
    (hf : (hasClassF ((s.dev.overlayTargets (c.overlay.getD 0)).1.map (·.1) ++ (s.dev.overlayTargets (c.overlay.getD 0)).2) &&
      !s.dev.atRest) = true) :
    Gives .preparePhaseEnd s fun t => t.dev.flag F.GLB_CFG_STAT_PENDING = true ∧
      t.dev.cfg = { s.dev.cfg with
        preparing := none
        waiting := s.dev.cfg.waiting ++ [{ c with
          targets := (s.dev.overlayTargets (c.overlay.getD 0)).1, drops := (s.dev.overlayTargets (c.overlay.getD 0)).2,
          prepared := s.dev.time.ticks }] } ∧
      Leaves [.cfg] [Reg.GLB_CFG_STAT] s t := by
  have hwork := prepareEnd_overlay hp hr hop hts hds s.mem
  rw [hcheck] at hwork
  generalize s.dev.overlayTargets (c.overlay.getD 0) = x at *
  have hplace : s.dev.begin_.prepareEnd s.mem = s.dev.begin_.endPrepare.await { c with targets := x.1, drops := x.2 } :=
    hwork.trans (placeChange_waits (d := s.dev.begin_.endPrepare) (c := { c with targets := x.1, drops := x.2 }) hf)
  have halters : Alters [.cfg] [Reg.GLB_CFG_STAT] s.dev.begin_ (s.dev.begin_.endPrepare.await { c with targets := x.1, drops := x.2 }) :=
    ((alters_cfg s.dev.begin_ _).mono (fun _ h => h) (by decide)).trans (alters_await s.dev.begin_.endPrepare _)
  have ht := onDev_settled s fun mem d => d.prepareEnd mem
  rw [hplace] at ht
  refine ⟨_, rfl, (ht.flag F.GLB_CFG_STAT_PENDING rfl rfl).trans (pending_await _ _), ht.parts .cfg, Alters.stepLeaves ?_ (by decide)⟩
  rw [hplace]
  exact halters

/-- The refused change is counted, and its command is not yet completed. -/
def Dev.countChange (d : Dev) : Dev := d.endPrepare.bump C.GLB_CFG_REFUSE_CNT

theorem alters_countChange (d : Dev) : Alters [.cfg] [Reg.GLB_CFG_REFUSE_CNT, C.GLB_CFG_REFUSE_CNT.sat] d d.countChange :=
  ((Alters.refl d).part (alters_cfg d _) (by decide)).bump C.GLB_CFG_REFUSE_CNT (by decide) (by decide) rfl

/-- A final refusal is counted by the command queues, and a refusal of the security island is reported. -/
theorem cmdFrame_countRefused (d : Dev) (code : Nat) : CmdFrame d (d.countRefused code) ∧ (d.countRefused code).cmd = d.cmd := by
  have hsec (y : Dev) : CmdFrame y (if code / 256 = 6 then y.raise evSecRefused else y) ∧
      (if code / 256 = 6 then y.raise evSecRefused else y).cmd = y.cmd := by
    split
    · exact ⟨cmdFrame_raise y _ _ _, rfl⟩
    · exact ⟨.refl y, rfl⟩
  have hfmt : CmdFrame d (if code / 256 = 1 then d.bump C.CMDQ_FMT_ERR_CNT else d) ∧
      (if code / 256 = 1 then d.bump C.CMDQ_FMT_ERR_CNT else d).cmd = d.cmd := by
    split
    · exact ⟨cmdFrame_bump_fmt d, Dev.bump_cmd d _⟩
    · exact ⟨.refl d, rfl⟩
  exact ⟨hfmt.1.trans (hsec _).1, (hsec _).2.trans hfmt.2⟩

/-- The change of an overlay that a check refuses ends its command, and changes nothing else. -/
theorem gives_prepareRefused {s : State} {c : Change} {r : Running} {f : Nat × List Byte} (hp : s.dev.cfg.preparing = some c)
    (hr : (s.dev.cmd.running.find? fun r => c.by_ == .command r.pair r.pkt.tag.toNat) = some r) (hop : r.pkt.opcode.toNat = 0x0606)
    (hts : ∀ y ∈ (s.dev.overlayTargets (c.overlay.getD 0)).1, s.dev.peerOwned y.1 = false)
    (hds : ∀ k ∈ (s.dev.overlayTargets (c.overlay.getD 0)).2, s.dev.peerOwned k = false)
    (hcheck : s.dev.prepareCheck (s.dev.overlayTargets (c.overlay.getD 0)).2 (s.dev.overlayTargets (c.overlay.getD 0)).1 true = some f)
    (ha : Awaits s.dev r) :
    Gives .preparePhaseEnd s fun t => Completed s t r f.1 f.2 ∧ t.dev.cfg = { s.dev.cfg with preparing := none } ∧
      Counts C.GLB_CFG_REFUSE_CNT 1 s t ∧ Leaves [.cfg] [Reg.GLB_CFG_REFUSE_CNT, C.GLB_CFG_REFUSE_CNT.sat] s t := by
  have hwork := prepareEnd_overlay hp hr hop hts hds s.mem
  rw [hcheck] at hwork
  obtain ⟨hframe, hcmd⟩ := cmdFrame_countRefused s.dev.begin_.countChange f.1
  have hcount := alters_countChange s.dev.begin_
  have hfinish : s.dev.begin_.prepareEnd s.mem = (s.dev.begin_.countChange.countRefused f.1).finish r f.1 f.2 := hwork
  have hpair (q : Nat) : (s.dev.begin_.countChange.countRefused f.1).pair q = s.dev.begin_.countChange.pair q := by
    unfold Dev.pair
    rw [hcmd]
  obtain ⟨hdone, ht⟩ := step_finish (f := fun mem d => d.prepareEnd mem) (e := s.dev.begin_.countChange.countRefused f.1) ha
    (by rw [hfinish]; exact .refl _) (by rw [hfinish]; exact .refl _) (hcmd.trans hcount.cmd)
  have hset := hframe.settled ht
  have hbefore : s.dev.begin_.endPrepare.cnt C.GLB_CFG_REFUSE_CNT = s.dev.cnt C.GLB_CFG_REFUSE_CNT := rfl
  have hcfg : s.dev.begin_.countChange.cfg = s.dev.begin_.endPrepare.cfg := Dev.bump_cfg _ _
  refine ⟨_, rfl, hdone, Eq.trans (hset.parts .cfg) hcfg, (hset.cnt C.GLB_CFG_REFUSE_CNT rfl rfl).trans ?_, Works.stepLeaves ?_ (by decide)⟩
  · rw [← hbefore]
    exact Dev.cnt_bumpBy _ _ _ (by decide)
  · rw [hfinish]
    exact hcount.works.trans ((hframe.works (grows_same hpair)).trans (works_finish _ _ _ _))

/-- Settles O23: a change waits or is refused as its prepare phase ends, and a commit is shown as it ends. -/
theorem changesAndCommitsEnd : Obligations.ChangesAndCommitsEnd := by
  unfold Obligations.ChangesAndCommitsEnd
  intro s
  exact ⟨fun _ _ => gives_prepareWaits, fun _ _ _ => gives_prepareRefused, fun _ _ => gives_commitDone⟩

end Sys2Proof.Machine
end

section
/-! SUPPORT. The safety and memory commands (R398, R466, R468, R522, R524, R525), and a commission or release that is stored (R398). -/

namespace Sys2Proof.Machine

/-! ## The commands that start -/

theorem alters_memc (d : Dev) (v : MemSt) : Alters [.memc] [] d { d with memc := v } := by
  refine (Alters.refl d).direct (fun p hp => ?_) rfl rfl rfl rfl rfl
  cases p with
  | memc => exact absurd (List.mem_singleton_self _) hp
  | _ => rfl

/-- The safety set is released when this commit is stored. -/
def Dev.startRelease (d : Dev) (q tag : Nat) : Dev :=
  { d with cfg := { d.cfg with commits := d.cfg.commits ++ [Commit.mk 17 [] (some (q, tag)) 0x0703] } }.setFlag F.GLB_CFG_STAT_COMMIT_BUSY true

theorem alters_startRelease (d : Dev) (q tag : Nat) : Alters [.cfg] [Reg.GLB_CFG_STAT] d (d.startRelease q tag) :=
  ((Alters.refl d).part (alters_cfg d _) (by decide)).setFlag F.GLB_CFG_STAT_COMMIT_BUSY true (by decide)

/-- A scrub pass runs. -/
def Dev.startScrub (d : Dev) (p : Packet) (q : Nat) : Dev :=
  { d with memc := { d.memc with scrub := some { addr := p.u 0 8, length := p.u 8 8, repair := p.u 16 1 == 1, summary := p.u 24 8, pair := q, tag := p.tag.toNat, started := d.now } } }.setFlag
    F.MEM_STAT_SCRUB_BUSY true

theorem alters_startScrub (d : Dev) (p : Packet) (q : Nat) : Alters [.memc] [Reg.MEM_STAT] d (d.startScrub p q) :=
  ((Alters.refl d).part (alters_memc d _) (by decide)).setFlag F.MEM_STAT_SCRUB_BUSY true (by decide)

theorem beq_false_of {a b : Nat} (h : a = b) : (a != b) = false := bne_eq_false_iff_eq.mpr h

section
variable {s : State} {c : Cmd}

theorem safetyCommission_starts (hvalid : s.dev.safetyInvalid = false) (hrest : s.dev.atRest = true) (hcom : s.dev.commissioned = false)
    (hroom : s.dev.storeFull 17 (s.dev.setEntries 17) = false) (hcheck : (c.packet 0x0702).u 0 4 = s.dev.checkLive) :
    Starts (.safetyCommission c) c 0x0702 s 0 [.cfg] [Reg.GLB_CFG_STAT] fun t =>
      t.dev.cfg = { s.dev.cfg with commits := s.dev.cfg.commits ++ [⟨17, s.dev.setEntries 17, some (c.pair.val, c.tag.toNat), 0x0702⟩] } ∧
        t.dev.flag F.GLB_CFG_STAT_COMMIT_BUSY = true :=
  starts (body := bodySafetyCommission c.pair.val) (fun d => d.startCommit 17 (some (c.pair.val, c.tag.toNat)) 0x0702) rfl
    (fun _ _ _ _ _ => refuseIf_false hvalid (refuseIf_false (not_of_true hrest) (refuseIf_false hcom (refuseIf_false hroom
      (refuseIf_false (beq_false_of hcheck) rfl)))))
    (fun _ _ _ => alters_startCommit _ _ _ _) (by decide) fun _ _ _ t ht =>
      ⟨ht.parts .cfg, (ht.flag F.GLB_CFG_STAT_COMMIT_BUSY rfl rfl).trans (Dev.flag_setFlag_self _ _ _ (by decide) rfl)⟩

theorem safetyRelease_starts (hrest : s.dev.atRest = true) (hcom : s.dev.commissioned = true) (hroom : s.dev.storeFull 17 [] = false)
    (hcheck : (c.packet 0x0703).u 0 4 = (s.dev.reg Reg.SAFE_CHECK).toNat) :
    Starts (.safetyRelease c) c 0x0703 s 0 [.cfg] [Reg.GLB_CFG_STAT] fun t =>
      t.dev.cfg = { s.dev.cfg with commits := s.dev.cfg.commits ++ [⟨17, [], some (c.pair.val, c.tag.toNat), 0x0703⟩] } ∧
        t.dev.flag F.GLB_CFG_STAT_COMMIT_BUSY = true :=
  starts (body := bodySafetyRelease c.pair.val) (fun d => d.startRelease c.pair.val c.tag.toNat) rfl
    (fun _ _ _ _ _ => refuseIf_false (not_of_true hrest) (refuseIf_false (not_of_true hcom) (refuseIf_false hroom
      (refuseIf_false (beq_false_of hcheck) rfl))))
    (fun _ _ _ => alters_startRelease _ _ _) (by decide) fun _ _ _ t ht =>
      ⟨ht.parts .cfg, (ht.flag F.GLB_CFG_STAT_COMMIT_BUSY rfl rfl).trans (Dev.flag_setFlag_self _ _ _ (by decide) rfl)⟩

theorem safetyFieldLoad_starts (hrange : (c.packet 0x0704).u 0 4 + (c.packet 0x0704).u 4 4 ≤ 131072)
    (hmem : (c.packet 0x0704).u 8 8 + 2 * (c.packet 0x0704).u 4 4 ≤ devMemSize) (hcom : s.dev.commissioned = false) :
    Starts (.safetyFieldLoad c) c 0x0704 s 0 [] [] fun _ => True :=
  starts (body := bodySafetyFieldLoad) (fun d => d) rfl
    (fun _ _ _ _ _ => refuseIf_false (decide_eq_false (Nat.not_lt.mpr hrange)) (refuseIf_false (not_of_true (decide_eq_true hmem))
      (refuseIf_false hcom rfl)))
    (fun _ _ _ => .refl _) List.not_mem_nil fun _ _ _ _ _ => trivial

theorem memPatrol_acts (hen : (c.packet 0x0903).u 0 1 ≤ 1) (hlo : 1 ≤ (c.packet 0x0903).u 4 4) (hhi : (c.packet 0x0903).u 4 4 ≤ 720) :
    Acts (.memPatrol c) c 0x0903 s [] [] [Reg.MEM_CTL] fun t =>
      t.dev.fld F.MEM_CTL_PATROL_EN = (c.packet 0x0903).u 0 1 ∧ t.dev.fld F.MEM_CTL_PATROL_H = (c.packet 0x0903).u 4 4 := by
  refine acts (body := bodyMemPatrol) (fun d => (d.setFld F.MEM_CTL_PATROL_EN ((c.packet 0x0903).u 0 1)).setFld F.MEM_CTL_PATROL_H
    ((c.packet 0x0903).u 4 4)) rfl
    (fun _ _ _ _ _ => refuseIf_false (decide_eq_false (Nat.not_lt.mpr hen)) (refuseIf_false (not_of_true (decide_eq_true ⟨hlo, hhi⟩)) rfl))
    (fun _ _ _ => ((Alters.refl _).setFld F.MEM_CTL_PATROL_EN _ (by decide)).setFld F.MEM_CTL_PATROL_H _ (by decide)) (by decide)
    fun p m k t ht => ⟨(ht.fld F.MEM_CTL_PATROL_EN rfl rfl).trans ?_, (ht.fld F.MEM_CTL_PATROL_H rfl rfl).trans ?_⟩
  · exact (Dev.fld_setFld_apart _ F.MEM_CTL_PATROL_H F.MEM_CTL_PATROL_EN _ (by decide) (by decide)).trans
      ((Dev.fld_setFld_self _ F.MEM_CTL_PATROL_EN _ (by decide)).trans (Nat.mod_eq_of_lt (Nat.lt_succ_of_le hen)))
  · exact (Dev.fld_setFld_self _ F.MEM_CTL_PATROL_H _ (by decide)).trans (Nat.mod_eq_of_lt (Nat.lt_of_le_of_lt hhi (by decide)))

theorem memWipe_starts (hrange : scrubRangeOk ((c.packet 0x0904).u 0 8) ((c.packet 0x0904).u 8 8) = true)
    (hrings : ∀ r ∈ s.dev.enabledRings, overlaps ((c.packet 0x0904).u 0 8) ((c.packet 0x0904).u 8 8) r.1 r.2 = false)
    (hhalt : s.dev.memHalted = false) :
    Starts (.memWipe c) c 0x0904 s 0 [] [Reg.MEM_STAT] fun t => t.dev.flag F.MEM_STAT_WIPE_BUSY = true :=
  starts (body := bodyMemWipe) (fun d => d.setFlag F.MEM_STAT_WIPE_BUSY true) rfl
    (fun _ _ _ _ _ => refuseIf_false (not_of_true hrange) (refuseIf_false
      (List.any_eq_false.mpr fun r hr => Bool.eq_false_iff.mp (hrings r hr)) (refuseIf_false hhalt rfl)))
    (fun _ _ _ => (Alters.refl _).setFlag F.MEM_STAT_WIPE_BUSY _ (by decide)) (by decide) fun _ _ _ t ht =>
      (ht.flag F.MEM_STAT_WIPE_BUSY rfl rfl).trans (Dev.flag_setFlag_self _ _ _ (by decide) rfl)

end

/-- The body of `mem.scrub`, which names the pair that waits for the pass. -/
def bodyMemScrubOf (q : Nat) : Body := fun p mem d =>
  match bodyMemScrub p mem d with
  | .accept d x => .accept { d with memc := { d.memc with scrub := d.memc.scrub.map fun j => { j with pair := q } } } x
  | v => v

theorem bodyMemScrubOf_accept {q : Nat} {p : Packet} {mem : List Host.Cell} {d : Dev} (hrange : scrubRangeOk (p.u 0 8) (p.u 8 8) = true)
    (halign : p.u 24 8 % 64 = 0) (hmem : p.u 24 8 + 256 ≤ devMemSize) (hapart : overlaps (p.u 24 8) 256 (p.u 0 8) (p.u 8 8) = false)
    (hhalt : d.memHalted = false) : bodyMemScrubOf q p mem d = .accept (d.startScrub p q) 0 := by
  have hsummary : (p.u 24 8 % 64 != 0 || !inDevMem (p.u 24 8) 256 || overlaps (p.u 24 8) 256 (p.u 0 8) (p.u 8 8)) = false := by
    rw [hapart, halign, inDevMem, decide_eq_true hmem]
    rfl
  have hbody : bodyMemScrub p mem d = .accept (d.startScrub p 0) 0 :=
    refuseIf_false (not_of_true hrange) (refuseIf_false hsummary (refuseIf_false hhalt rfl))
  unfold bodyMemScrubOf
  rw [hbody]
  rfl

theorem memScrub_starts {s : State} {c : Cmd} (hrange : scrubRangeOk ((c.packet 0x0901).u 0 8) ((c.packet 0x0901).u 8 8) = true)
    (halign : (c.packet 0x0901).u 24 8 % 64 = 0) (hmem : (c.packet 0x0901).u 24 8 + 256 ≤ devMemSize)
    (hapart : overlaps ((c.packet 0x0901).u 24 8) 256 ((c.packet 0x0901).u 0 8) ((c.packet 0x0901).u 8 8) = false)
    (hhalt : s.dev.memHalted = false) :
    Starts (.memScrub c) c 0x0901 s 0 [.memc] [Reg.MEM_STAT] fun t => t.dev.flag F.MEM_STAT_SCRUB_BUSY = true ∧
      t.dev.memc = { s.dev.memc with
        scrub := some { addr := (c.packet 0x0901).u 0 8, length := (c.packet 0x0901).u 8 8, repair := (c.packet 0x0901).u 16 1 == 1,
                        summary := (c.packet 0x0901).u 24 8, pair := c.pair.val, tag := c.tag.toNat, started := s.dev.now }
        faults := t.dev.memc.faults
        lines := t.dev.memc.lines } := by
  refine starts (body := bodyMemScrubOf c.pair.val) (fun d => d.startScrub (c.packet 0x0901) c.pair.val) rfl
    (fun _ _ _ _ _ => bodyMemScrubOf_accept hrange halign hmem hapart hhalt) (fun _ _ _ => alters_startScrub _ _ _) (by decide)
    fun _ _ _ t ht => ⟨(ht.flag F.MEM_STAT_SCRUB_BUSY rfl rfl).trans (Dev.flag_setFlag_self _ _ _ (by decide) rfl), ht.parts .memc⟩

/-! ## A commission or a release is stored -/

/-- The safety set is commissioned: its check value stands, and the accounts of its window begin (R372, R398). -/
def Dev.takeCommission (d : Dev) (v : Nat) : Dev :=
  let x := { d with store := { d.store with safeCheck := some v, safeReleased := false } }.put Reg.SAFE_CHECK (BitVec.ofNat 32 v)
  (x.setFlag F.SAFE_STAT_COMMISSIONED true).windowAt x.slotNo

/-- Quench lock is set with cause POWERUP, and the commission is reported. -/
def Dev.lockPowerup (d : Dev) : Dev := (d.quenchNow (2 ^ Cause.powerup)).sticky Reg.SAFE_EVT 9 Ev.safeCommissioned

theorem commissionDone_eq (d : Dev) : d.commissionDone = (d.takeCommission d.checkLive).lockPowerup := rfl

theorem alters_windowAt (d : Dev) (slot : Nat) : Alters [.safe] [] d (d.windowAt slot) := .ite (fun _ => .refl d) fun _ => alters_safe d _

/-- What a commission with check value `v` leaves. -/
structure Commissioned (v : Nat) (y : Dev) : Prop where
  flag : y.flag F.SAFE_STAT_COMMISSIONED = true
  check : y.reg Reg.SAFE_CHECK = BitVec.ofNat 32 v
  lock : y.flag F.SAFE_STAT_LOCK = true
  cause : y.bit Reg.SAFE_CAUSE Cause.powerup = true
  stored : y.store.safeCheck = some v
  released : y.store.safeReleased = false

/-- Work that leaves the registers and the store's safety record alone. -/
theorem Commissioned.kept {v : Nat} {x y : Dev} (h : Commissioned v x) (hr : ∀ a ∈ [Reg.SAFE_STAT, Reg.SAFE_CHECK, Reg.SAFE_CAUSE], y.reg a = x.reg a)
    (hc : y.store.safeCheck = x.store.safeCheck) (hs : y.store.safeReleased = x.store.safeReleased) : Commissioned v y := by
  have hstat := hr Reg.SAFE_STAT (by decide)
  exact ⟨(congrArg (field · 0 1 == 1) hstat).trans h.flag, (hr _ (by decide)).trans h.check, (congrArg (field · 1 1 == 1) hstat).trans h.lock,
    (congrArg (fun x : Word => bitAt x.toNat 0) (hr Reg.SAFE_CAUSE (by decide))).trans h.cause, hc.trans h.stored, hs.trans h.released⟩

/-- The lowest bit of a field that begins with its word. -/
theorem bitAt_zero_field (x : Word) {w : Nat} (h : 0 < w) : bitAt (field x 0 w) 0 = bitAt x.toNat 0 := by
  obtain ⟨n, rfl⟩ := Nat.exists_eq_succ_of_ne_zero h.ne'
  unfold bitAt field
  rw [Nat.pow_zero, Nat.div_one, Nat.div_one, Nat.mod_mod_of_dvd _ (Dvd.intro_left _ (Nat.pow_succ ..).symm)]

/-- What stands of a commission before its Quench. -/
structure Taken (v : Nat) (x : Dev) : Prop where
  flag : x.flag F.SAFE_STAT_COMMISSIONED = true
  check : x.reg Reg.SAFE_CHECK = BitVec.ofNat 32 v
  stored : x.store.safeCheck = some v
  released : x.store.safeReleased = false

theorem taken_takeCommission (d : Dev) (v : Nat) : Taken v (d.takeCommission v) := by
  have hwindow (x : Dev) (n : Nat) := alters_windowAt x n
  have hstore : (d.takeCommission v).store = { d.store with safeCheck := some v, safeReleased := false } := (hwindow _ _).same .store (by decide)
  exact ⟨((hwindow _ _).flag List.not_mem_nil).trans (Dev.flag_setFlag_self _ F.SAFE_STAT_COMMISSIONED true (by decide) rfl),
    ((hwindow _ _).reg _ List.not_mem_nil).trans ((Dev.reg_setFlag_ne _ _ _ _ (by decide)).trans (Dev.reg_put_self _ _ _)),
    congrArg StoreSt.safeCheck hstore, congrArg StoreSt.safeReleased hstore⟩

theorem powerup_quenched {x y : Dev} (h : Quenched x y (2 ^ Cause.powerup)) : y.bit Reg.SAFE_CAUSE Cause.powerup = true := by
  have hbit : bitAt (y.fld F.SAFE_CAUSE_CAUSE) 0 = true := by
    rw [h.lockSet.cause]
    exact bitAt_orBit _ 0
  rw [← hbit]
  exact (bitAt_zero_field _ (by decide)).symm

theorem commissioned_lockPowerup {v : Nat} {x : Dev} (hx : Taken v x) : Commissioned v x.lockPowerup := by
  have hq := quenched_quenchNow x (causes := 2 ^ Cause.powerup) (by decide)
  unfold Dev.lockPowerup
  generalize x.quenchNow (2 ^ Cause.powerup) = y at *
  have hstore : y.store = x.store := hq.alters.same .store (by decide)
  have hend : Alters [] [Reg.SAFE_EVT] y (y.sticky Reg.SAFE_EVT 9 Ev.safeCommissioned) := (Alters.refl y).sticky _ _ _ (by decide)
  have hendstore : (y.sticky Reg.SAFE_EVT 9 Ev.safeCommissioned).store = y.store := hend.same .store (by decide)
  have hbefore : Commissioned v y := ⟨hq.lockSet.commissioned.trans hx.flag, (hq.alters.reg _ (by decide)).trans hx.check, hq.lockSet.lock,
    powerup_quenched hq, by rw [hstore, hx.stored], by rw [hstore, hx.released]⟩
  exact hbefore.kept (fun a ha => hend.reg a (by revert a; decide)) (by rw [hendstore]) (by rw [hendstore])

theorem commissioned_commissionDone {d : Dev} {v : Nat} (hv : d.checkLive = v) : Commissioned v d.commissionDone := by
  have h := commissioned_lockPowerup (taken_takeCommission d v)
  rw [commissionDone_eq, hv]
  exact h

theorem safety_not_commitReg {a : Nat} (h : a ∈ [Reg.SAFE_STAT, Reg.SAFE_CHECK, Reg.SAFE_CAUSE]) : a ∉ commitRegs 17 := by
  revert a
  decide

theorem storeCommitEnd_commission {d : Dev} {c : Commit} {rest : List Commit} (hc : d.cfg.commits = c :: rest) (hop : c.opcode = 0x0702) :
    d.storeCommitEnd = (d.commissionDone.commitDone { c with owner := none } rest).completeOwner c.owner 0x0000 (leBytes 4 d.checkLive) := by
  unfold Dev.storeCommitEnd
  rw [hc]
  dsimp only
  rw [if_pos hop, if_pos hop]

/-- The safety set has been committed: the commission stands (R398). -/
theorem gives_commission {s : State} {x : Commit} {rest : List Commit} (hc : s.dev.cfg.commits = x :: rest) (hset : x.set = 17)
    (hop : x.opcode = 0x0702) :
    Gives .storeCommitComplete s fun t => t.dev.flag F.SAFE_STAT_COMMISSIONED = true ∧
      t.dev.reg Reg.SAFE_CHECK = BitVec.ofNat 32 s.dev.checkLive ∧ t.dev.flag F.SAFE_STAT_LOCK = true ∧
      t.dev.bit Reg.SAFE_CAUSE Cause.powerup = true ∧ t.dev.store.safeCheck = some s.dev.checkLive ∧ t.dev.store.safeReleased = false := by
  obtain ⟨set, entries, owner, opcode⟩ := x
  subst hset hop
  have hv : s.dev.begin_.checkLive = s.dev.checkLive := rfl
  have hwork := storeCommitEnd_commission (d := s.dev.begin_) hc rfl
  have hdone := commissioned_commissionDone hv
  generalize s.dev.begin_.commissionDone = y at *
  have hshown := commitDone_shown y (c := ⟨17, entries, none, 0x0702⟩) (show 17 ≤ 18 by decide) rest
  have hcommit := works_commitDone y ⟨17, entries, none, 0x0702⟩ rest
  generalize y.commitDone ⟨17, entries, none, 0x0702⟩ rest = z at *
  have hends := works_completeOwner (parts := []) (regs := []) z owner 0x0000 (leBytes 4 s.dev.begin_.checkLive)
  generalize z.completeOwner owner 0x0000 (leBytes 4 s.dev.begin_.checkLive) = w at *
  have hstore : w.store = z.store := hends.same .store (by decide)
  have hkept : Commissioned s.dev.checkLive w := hdone.kept
    (fun a ha => (hends.reg a List.not_mem_nil (by revert a; decide)).trans (hcommit.reg a (safety_not_commitReg ha) (by revert a; decide)))
    (by rw [hstore, hshown.check]) (by rw [hstore, hshown.released])
  have ht := onDev_settled s fun _ d => d.storeCommitEnd
  rw [hwork] at ht
  have htstore : (s.onDev fun _ d => d.storeCommitEnd).dev.store = w.store := ht.parts .store
  obtain ⟨hflag, hcheck, hlock, hcause, hstored, hreleased⟩ := hkept.kept (y := (s.onDev fun _ d => d.storeCommitEnd).dev)
    (fun a ha => ht.reg a (by revert a; decide) (by revert a; decide)) (by rw [htstore]) (by rw [htstore])
  exact ⟨_, rfl, hflag, hcheck, hlock, hcause, hstored, hreleased⟩

/-- The built-in limits are back: output B follows (R377, R398). -/
def Dev.takeRelease (d : Dev) : Dev :=
  let x := { d with store := { d.store with safeReleased := true } }.setFlag F.SAFE_STAT_COMMISSIONED false
  x.windowAt x.slotNo

theorem releaseDone_eq (d : Dev) : d.releaseDone = d.takeRelease.outputB := rfl

/-- The commit of a release leaves the queue. -/
def Dev.endRelease (d : Dev) (rest : List Commit) : Dev :=
  let x := { d with cfg := { d.cfg with commits := rest } }
  x.setFlag F.GLB_CFG_STAT_COMMIT_BUSY (!rest.isEmpty || x.rst.life.isSome)

theorem bState_outputB_unused {d : Dev} (hr : d.safe.running = true) (hb : d.fnB = false) : d.outputB.bState = 0 := by
  unfold Dev.outputB
  rw [hr, hb]
  by_cases h : d.bState = 0
  · exact (congrArg Dev.bState (if_pos h)).trans h
  · exact (congrArg Dev.bState (if_neg h)).trans (bState_setB d 0 (by decide))

theorem storeCommitEnd_release {d : Dev} {c : Commit} {rest : List Commit} (hc : d.cfg.commits = c :: rest) (hop : c.opcode = 0x0703) :
    d.storeCommitEnd = (d.takeRelease.outputB.endRelease rest).completeOwner c.owner 0x0000 := by
  have hne : c.opcode ≠ 0x0702 := by
    rw [hop]
    decide
  unfold Dev.storeCommitEnd
  rw [hc]
  dsimp only
  rw [if_neg hne, if_pos hop, if_neg hne, if_pos hop]
  rfl

/-- A release of the safety set has been committed (R398). -/
theorem gives_release {s : State} {x : Commit} {rest : List Commit} (hc : s.dev.cfg.commits = x :: rest) (hop : x.opcode = 0x0703) :
    Gives .storeCommitComplete s fun t => t.dev.flag F.SAFE_STAT_COMMISSIONED = false ∧ t.dev.store.safeReleased = true ∧
      (s.dev.safe.running = true → t.dev.fld F.SAFE_STAT_B_STATE = 0) := by
  obtain ⟨set, entries, owner, opcode⟩ := x
  subst hop
  have hwork := storeCommitEnd_release (d := s.dev.begin_) hc rfl
  have hwindow (x : Dev) (n : Nat) := alters_windowAt x n
  have hflag : s.dev.begin_.takeRelease.flag F.SAFE_STAT_COMMISSIONED = false :=
    ((hwindow _ _).flag List.not_mem_nil).trans (Dev.flag_setFlag_self _ F.SAFE_STAT_COMMISSIONED false (by decide) rfl)
  have hstore : s.dev.begin_.takeRelease.store.safeReleased = true :=
    (congrArg StoreSt.safeReleased ((hwindow _ _).same .store (by decide))).trans rfl
  have hrun : s.dev.begin_.takeRelease.safe.running = s.dev.safe.running := by
    unfold Dev.takeRelease Dev.windowAt
    dsimp only
    split <;> rfl
  have hfn : s.dev.begin_.takeRelease.fnB = false := by
    unfold Dev.fnB
    rw [hflag]
    rfl
  generalize s.dev.begin_.takeRelease = y at *
  have hout := alters_outputB y
  have hkept := lockKept_outputB y
  have hb := fun hr => bState_outputB_unused (d := y) hr hfn
  generalize y.outputB = z at *
  have hend : Alters [.cfg] [Reg.GLB_CFG_STAT] z (z.endRelease rest) :=
    ((Alters.refl z).part (alters_cfg z _) (by decide)).setFlag F.GLB_CFG_STAT_COMMIT_BUSY _ (by decide)
  have hdone := hend.works.trans (works_completeOwner (parts := [.cfg]) (regs := [Reg.GLB_CFG_STAT]) (z.endRelease rest) owner 0x0000 [])
  rw [← hwork] at hdone
  have ht := onDev_settled s fun _ d => d.storeCommitEnd
  have hstat : (s.onDev fun _ d => d.storeCommitEnd).dev.reg Reg.SAFE_STAT = z.reg Reg.SAFE_STAT :=
    (ht.reg Reg.SAFE_STAT rfl rfl).trans (hdone.reg _ (by decide) rfl)
  have htstore : (s.onDev fun _ d => d.storeCommitEnd).dev.store = y.store :=
    same_trans (hout.same .store (by decide)) (same_trans (hdone.same .store (by decide)) (ht.parts .store))
  refine ⟨_, rfl, ?_, (congrArg StoreSt.safeReleased htstore).trans hstore, fun hr => ?_⟩
  · exact (congrArg (field · 0 1 == 1) hstat).trans ((congrArg (· == 1) (hkept.stat F.SAFE_STAT_COMMISSIONED rfl (by decide))).trans hflag)
  · exact (congrArg (field · 8 3) hstat).trans (hb (hrun.trans hr))

/-- Settles O44: each clause is the rule of its command, or of the commit that it started. -/
theorem safetyAndMemoryCommandsAct : Obligations.SafetyAndMemoryCommandsAct := by
  unfold Obligations.SafetyAndMemoryCommandsAct
  intro s c
  exact ⟨safetyCommission_starts, safetyRelease_starts, safetyFieldLoad_starts,
    fun _ _ hc hset => ⟨gives_commission hc hset, gives_release hc⟩, memScrub_starts, memPatrol_acts, memWipe_starts⟩

end Sys2Proof.Machine
end

section
/-! SUPPORT. The engine cycle, the accountant and the conditions of a Quench (R361, R371 to R379, R388 to R393). -/

namespace Sys2Proof.Machine

/-! ## What a Quench shows -/

theorem Quenched.shown {s t : State} {x e : Dev} {causes : Nat} (ht : Settled s e t) (h : LockSet x e causes (firstCause causes))
    (hs : (e.switch 0).gate = false ∧ (e.switch 1).gate = false ∧ e.safe.latchOff = true)
    (hcause : x.fld F.SAFE_CAUSE_CAUSE = s.dev.fld F.SAFE_CAUSE_CAUSE) (hlock : x.quenchLock = s.dev.quenchLock)
    (hcnt : x.cnt C.SAFE_QUENCH_CNT = s.dev.cnt C.SAFE_QUENCH_CNT) (hnow : x.now = s.dev.now) :
    t.dev.flag F.SAFE_STAT_LOCK = true ∧
    t.dev.fld F.SAFE_CAUSE_CAUSE = s.dev.fld F.SAFE_CAUSE_CAUSE ||| causes ∧ (t.dev.switch 0).gate = false ∧
    (t.dev.switch 1).gate = false ∧ t.dev.safe.latchOff = true ∧
    (s.dev.quenchLock = false → t.dev.fld F.SAFE_CAUSE_FIRST = firstCause causes ∧ Counts C.SAFE_QUENCH_CNT 1 s t ∧
      t.dev.fld F.SAFE_STAT_A_STATE = 0 ∧ t.dev.wide64 Reg.SAFE_LOCK_TIME_LO = s.dev.now % 2 ^ 64) := by
  have hsafe : t.dev.safe = e.safe := ht.parts .safe
  have hswitch (j : Nat) : t.dev.switch j = e.switch j := by
    unfold Dev.switch
    rw [hsafe]
  obtain ⟨hhs, hls, hlatch⟩ := hs
  refine ⟨(ht.flag F.SAFE_STAT_LOCK rfl rfl).trans h.lock, (ht.fld F.SAFE_CAUSE_CAUSE rfl rfl).trans (by rw [h.cause, hcause]),
    by rw [hswitch, hhs], by rw [hswitch, hls], by rw [hsafe, hlatch], fun hno => ?_⟩
  obtain ⟨hfirst, hcount, haOff, htime⟩ := h.new (hlock.trans hno)
  exact ⟨(ht.fld F.SAFE_CAUSE_FIRST rfl rfl).trans hfirst, (ht.cnt C.SAFE_QUENCH_CNT rfl rfl).trans (by rw [hcount, hcnt]),
    (ht.fld F.SAFE_STAT_A_STATE rfl rfl).trans haOff, (ht.wide64 _).trans (by rw [htime, hnow])⟩

/-! ## The engine cycle -/

/-- The switches' timers run on (R388). -/
def Dev.ageSwitches (d : Dev) : Dev :=
  { d with safe := { d.safe with switches := d.safe.switches.map fun (x : SafeSwitch) => { x with since := x.since + 1 } } }

/-- The conditions that the cycle itself sees persist or have ended (R393). -/
def Dev.persistSeen (d : Dev) (disagree clockBad configBad : Bool) : Dev :=
  ((d.persist Cause.disagree disagree).persist Cause.clock clockBad).persist Cause.config configBad

/-- No condition is left detected. -/
def Dev.noneDetected (d : Dev) : Dev := { d with safe := { d.safe with detected := 0 } }

/-- The conditions that a cycle acts on (R361). -/
def Dev.seen (d : Dev) (disagree clockBad configBad : Bool) : Nat :=
  d.safe.detected ||| (if disagree then 2 ^ Cause.disagree else 0) ||| (if clockBad then 2 ^ Cause.clock else 0)
    ||| (if configBad then 2 ^ Cause.config else 0)

/-- The part when a cycle acts on what it sees. -/
def Dev.beginCycle (d : Dev) (disagree clockBad configBad : Bool) : Dev := (d.ageSwitches.persistSeen disagree clockBad configBad).noneDetected

theorem safetyCycle_eq {d : Dev} (hr : d.safe.running = true) (disagree clockBad configBad : Bool) :
    d.safetyCycle disagree clockBad configBad =
      Dev.outputB (Dev.outputA (if d.seen disagree clockBad configBad = 0 then d.beginCycle disagree clockBad configBad
        else (d.beginCycle disagree clockBad configBad).quenchNow (d.seen disagree clockBad configBad))) := by
  have hseen : (d.ageSwitches.persistSeen disagree clockBad configBad).seen disagree clockBad configBad = d.seen disagree clockBad configBad := rfl
  have hunfold : d.safetyCycle disagree clockBad configBad = if !d.ageSwitches.safe.running then d.ageSwitches else
      let x := d.ageSwitches.persistSeen disagree clockBad configBad
      Dev.outputB (Dev.outputA (if x.seen disagree clockBad configBad = 0 then x.noneDetected
        else x.noneDetected.quenchNow (x.seen disagree clockBad configBad))) := rfl
  rw [hunfold, show d.ageSwitches.safe.running = true from hr]
  dsimp only
  rw [hseen]
  exact if_neg Bool.false_ne_true

theorem alters_beginCycle (d : Dev) (disagree clockBad configBad : Bool) :
    Alters [.safe] [] d (d.beginCycle disagree clockBad configBad) := by
  have hage : Alters [.safe] [] d d.ageSwitches := alters_safe d _
  have hpersist (x : Dev) (c : Nat) (on : Bool) : Alters [.safe] [] x (x.persist c on) := alters_safe x _
  have hnone (x : Dev) : Alters [.safe] [] x x.noneDetected := alters_safe x _
  exact hage.trans (((hpersist _ _ _).trans ((hpersist _ _ _).trans (hpersist _ _ _))).trans (hnone _))

/-- A wait for a turnaround ends with ARM (R367). -/
def Dev.endWait (d : Dev) : Dev := { d with safe := { d.safe with waitTurn := d.safe.waitTurn && d.scan.arm } }

/-- While the lock stands output A stays as it is. -/
theorem outputA_locked {d : Dev} (h : d.quenchLock = true) : d.outputA = d.endWait := by
  unfold Dev.outputA
  refine if_pos ?_
  rw [Bool.or_eq_true]
  exact .inr h

/-- Output A goes on: both gates, its test timers, and motion supervision from its start (R366, R379). -/
def Dev.goOn (d : Dev) : Dev :=
  let x := ((d.setFld F.SAFE_STAT_A_STATE 2).setPair2 false true).startTimers false
  { x with safe := { x.safe with still := 0, outTravel := 0, overCur := 0, optBad := 0 } }.setFld F.SAFE_MOTION_STATE 1

theorem alters_goOn (d : Dev) : Alters [.safe] [Reg.SAFE_STAT, Reg.SAFE_IN, Reg.SAFE_MOTION] d d.goOn := by
  have hstate : Alters [.safe] [Reg.SAFE_STAT, Reg.SAFE_IN, Reg.SAFE_MOTION] d (d.setFld F.SAFE_STAT_A_STATE 2) :=
    (Alters.refl d).setFld F.SAFE_STAT_A_STATE 2 (by decide)
  have hpair := alters_setPair2 (d.setFld F.SAFE_STAT_A_STATE 2) false true
  have htimers := alters_startTimers ((d.setFld F.SAFE_STAT_A_STATE 2).setPair2 false true) false
  exact ((hstate.trans ((hpair.trans htimers).mono (fun _ h => h) (by decide))).part (alters_safe _ _) (by decide)).setFld
    F.SAFE_MOTION_STATE 1 (by decide)

section
variable {d : Dev}

/-- Output A on: it is ON, its gates are on, and no sample without motion is counted. -/
structure GoneOn (x : Dev) : Prop where
  state : x.aState = 2
  hs : (x.switch 0).gate = true
  ls : (x.switch 1).gate = true
  still : x.safe.still = 0

theorem goneOn_goOn (h : d.safe.switches.length = 4) : GoneOn d.goOn := by
  generalize hx : d.setFld F.SAFE_STAT_A_STATE 2 = x
  have hlen : x.safe.switches.length = 4 := hx ▸ h
  obtain ⟨hhs, hls⟩ := gates_setPair2_on x false (by rw [hlen]; decide)
  have hgate (j : Nat) : (d.goOn.switch j).gate = ((x.setPair2 false true).switch j).gate := by
    rw [← gate_startTimers (x.setPair2 false true) false j, ← hx]
    rfl
  have hstate : d.goOn.aState = x.aState := by
    have hset : Alters [.safe] [Reg.SAFE_IN, Reg.SAFE_MOTION] x d.goOn := by
      unfold Dev.goOn
      rw [hx]
      exact (((alters_setPair2 x false true).trans (alters_startTimers _ false)).mono (fun _ h => h) (by decide)).trans
        (((Alters.refl _).part (alters_safe _ _) (by decide)).setFld F.SAFE_MOTION_STATE 1 (by decide))
    exact hset.fld (f := F.SAFE_STAT_A_STATE) (by decide)
  refine ⟨hstate.trans ?_, (hgate 0).trans hhs, (hgate 1).trans hls, rfl⟩
  rw [← hx]
  exact Dev.fld_setFld_self d F.SAFE_STAT_A_STATE 2 (by decide)

theorem outputA_eq (hr : d.safe.running = true) (hl : d.quenchLock = false) (harm : d.scan.arm = true) (hstops : d.stopsHigh = true)
    (hwait : d.safe.waitTurn = false) (ha : d.aState ≤ 1) :
    d.outputA = (if d.endWait.aState = 0 then d.endWait.setFld F.SAFE_STAT_A_STATE 1 else d.endWait).goOn := by
  have hunfold : d.outputA = let x := d.endWait
      if !x.safe.running || x.quenchLock then x else
      let y := if x.aState = 0 then x.setFld F.SAFE_STAT_A_STATE 1 else x
      if y.aState = 1 ∧ y.scan.arm = true ∧ y.stopsHigh = true ∧ y.safe.waitTurn = false then y.goOn
      else if y.aOn && !y.scan.arm then
        (((y.setFld F.SAFE_STAT_A_STATE 1).setPair2 false false)).setFld F.SAFE_MOTION_STATE 0
      else y := rfl
  have hends : d.endWait.safe.waitTurn = false := by
    show (d.safe.waitTurn && d.scan.arm) = false
    rw [hwait]; rfl
  have hrun : d.endWait.safe.running = true := hr
  have hlock : d.endWait.quenchLock = false := hl
  have hshown : d.endWait.aState = d.aState := rfl
  have hstopsx : d.endWait.stopsHigh = true := hstops
  have harmx : d.endWait.scan.arm = true := harm
  rw [hunfold]
  generalize d.endWait = x at *
  dsimp only
  rw [hrun, hlock, Bool.not_true, Bool.or_false, if_neg Bool.false_ne_true]
  by_cases h0 : x.aState = 0
  · rw [if_pos h0]
    exact if_pos ⟨Dev.fld_setFld_self x F.SAFE_STAT_A_STATE 1 (by decide), harmx, hstopsx, hends⟩
  · rw [if_neg h0]
    exact if_pos ⟨by omega, harmx, hstopsx, hends⟩

end

section
variable {s : State}

theorem gives_quenchCycle {disagree clockBad configBad : Bool} (hr : s.dev.safe.running = true)
    (hseen : s.dev.seen disagree clockBad configBad ≠ 0) (hlt : s.dev.seen disagree clockBad configBad < 2 ^ 13) :
    Gives (.safetyCycle disagree clockBad configBad) s fun t =>
      (t.dev.flag F.SAFE_STAT_LOCK = true ∧
        t.dev.fld F.SAFE_CAUSE_CAUSE = s.dev.fld F.SAFE_CAUSE_CAUSE ||| s.dev.seen disagree clockBad configBad ∧
        (t.dev.switch 0).gate = false ∧ (t.dev.switch 1).gate = false ∧ t.dev.safe.latchOff = true ∧
        (s.dev.quenchLock = false → t.dev.fld F.SAFE_CAUSE_FIRST = firstCause (s.dev.seen disagree clockBad configBad) ∧
          Counts C.SAFE_QUENCH_CNT 1 s t ∧ t.dev.fld F.SAFE_STAT_A_STATE = 0 ∧
          t.dev.wide64 Reg.SAFE_LOCK_TIME_LO = s.dev.now % 2 ^ 64)) ∧
      t.dev.safe.detected = 0 ∧ t.dev.fld F.SAFE_STAT_B_STATE = b2n s.dev.fnB ∧ Leaves [.safe, .wide] quenchRegs s t := by
  have hwork := safetyCycle_eq (d := s.dev.begin_) hr disagree clockBad configBad
  rw [if_neg (show s.dev.begin_.seen disagree clockBad configBad ≠ 0 from hseen)] at hwork
  have hbegin := alters_beginCycle s.dev.begin_ disagree clockBad configBad
  have hx : (s.dev.begin_.beginCycle disagree clockBad configBad).safe.running = true ∧
    (s.dev.begin_.beginCycle disagree clockBad configBad).safe.detected = 0 := ⟨hr, rfl⟩
  have hfn : (s.dev.begin_.beginCycle disagree clockBad configBad).fnB = s.dev.fnB := rfl
  have hcause : (s.dev.begin_.beginCycle disagree clockBad configBad).fld F.SAFE_CAUSE_CAUSE = s.dev.fld F.SAFE_CAUSE_CAUSE := rfl
  have hlock : (s.dev.begin_.beginCycle disagree clockBad configBad).quenchLock = s.dev.quenchLock := rfl
  have hcnt : (s.dev.begin_.beginCycle disagree clockBad configBad).cnt C.SAFE_QUENCH_CNT = s.dev.cnt C.SAFE_QUENCH_CNT := rfl
  have hnow : (s.dev.begin_.beginCycle disagree clockBad configBad).now = s.dev.now := rfl
  rw [show s.dev.begin_.seen disagree clockBad configBad = s.dev.seen disagree clockBad configBad from rfl] at hwork
  generalize s.dev.seen disagree clockBad configBad = seen at *
  generalize s.dev.begin_.beginCycle disagree clockBad configBad = x at *
  have hq := quenched_quenchNow x hlt
  generalize x.quenchNow seen = y at *
  rw [outputA_locked hq.lockSet.lock] at hwork
  have hwait : Alters [.safe] [] y y.endWait := alters_safe y _
  have hb := alters_outputB y.endWait
  have hA := outputA_outputB y.endWait
  have hlockz : y.endWait.quenchLock = true := hq.lockSet.lock
  have hrest : y.endWait.safe.running = true ∧ y.endWait.safe.detected = 0 := by
    have hsafe := hq.rest
    unfold OutputsOnly at hsafe
    exact ⟨(congrArg SafeSt.running hsafe).trans hx.1, (congrArg SafeSt.detected hsafe).trans hx.2⟩
  have hfnB : y.endWait.fnB = s.dev.fnB := (hq.alters.fnB (by decide) hq.lockSet.commissioned).trans hfn
  have hset := (hq.lockSet.kept (hwait.lockKept (by decide) (by decide))).kept (lockKept_outputB y.endWait)
  refine gives_imp (gives_step (e := y.endWait.outputB) (parts := [.safe, .wide]) (regs := quenchRegs) rfl hwork ?_ (by decide)
    (effect := fun t => (t.dev.flag F.SAFE_STAT_LOCK = true ∧ t.dev.fld F.SAFE_CAUSE_CAUSE = s.dev.fld F.SAFE_CAUSE_CAUSE ||| seen ∧
        (t.dev.switch 0).gate = false ∧ (t.dev.switch 1).gate = false ∧ t.dev.safe.latchOff = true ∧
        (s.dev.quenchLock = false → t.dev.fld F.SAFE_CAUSE_FIRST = firstCause seen ∧ Counts C.SAFE_QUENCH_CNT 1 s t ∧
          t.dev.fld F.SAFE_STAT_A_STATE = 0 ∧ t.dev.wide64 Reg.SAFE_LOCK_TIME_LO = s.dev.now % 2 ^ 64)) ∧
      t.dev.safe.detected = 0 ∧ t.dev.fld F.SAFE_STAT_B_STATE = b2n s.dev.fnB) fun t ht _ => ⟨?_, ?_, ?_⟩) fun t ht => ?_
  · exact (hbegin.mono (by decide) (by decide)).trans (hq.alters.trans ((hwait.mono (by decide) (by decide)).trans (hb.mono (by decide) (by decide))))
  · exact Quenched.shown ht hset ⟨(congrArg SafeSwitch.gate hA.hs).trans hq.hs, (congrArg SafeSwitch.gate hA.ls).trans hq.ls,
      hA.latch.trans hq.latch⟩ hcause hlock hcnt hnow
  · have hsafe : t.dev.safe = _ := ht.parts .safe
    have hrestB := hA.rest
    unfold OutputsOnly at hrestB
    rw [hsafe, hrestB]
    exact hrest.2
  · exact (ht.fld F.SAFE_STAT_B_STATE rfl rfl).trans ((bState_outputB _ hrest.1 hlockz).trans (congrArg b2n hfnB))
  · obtain ⟨⟨hq, hd, hb⟩, hl⟩ := ht
    exact ⟨hq, hd, hb, hl⟩

theorem gives_goOnCycle (hr : s.dev.safe.running = true) (hnone : s.dev.safe.detected = 0) (hl : s.dev.quenchLock = false)
    (harm : s.dev.scan.arm = true) (hstops : s.dev.stopsHigh = true) (hwait : s.dev.safe.waitTurn = false) (ha : s.dev.aState ≤ 1)
    (hlen : s.dev.safe.switches.length = 4) :
    Gives (.safetyCycle false false false) s fun t => (t.dev.aState = 2 ∧ (t.dev.switch 0).gate = true ∧ (t.dev.switch 1).gate = true ∧
      t.dev.safe.still = 0) ∧ Leaves [.safe] quenchRegs s t := by
  have hwork := safetyCycle_eq (d := s.dev.begin_) hr false false false
  have hseen : s.dev.begin_.seen false false false = 0 := by
    show s.dev.safe.detected ||| 0 ||| 0 ||| 0 = 0
    rw [hnone]; rfl
  rw [if_pos hseen] at hwork
  have hbegin := alters_beginCycle s.dev.begin_ false false false
  have hlenx : (s.dev.begin_.beginCycle false false false).safe.switches.length = 4 := (List.length_map ..).trans hlen
  have hax := outputA_eq (d := s.dev.begin_.beginCycle false false false) hr hl harm hstops hwait ha
  generalize s.dev.begin_.beginCycle false false false = x at *
  rw [hax] at hwork
  have hready (y : Dev) (hy : y.safe.switches.length = 4) :
      Alters [.safe] quenchRegs y (if y.aState = 0 then y.setFld F.SAFE_STAT_A_STATE 1 else y).goOn ∧
      GoneOn (if y.aState = 0 then y.setFld F.SAFE_STAT_A_STATE 1 else y).goOn := by
    have hstate : Alters [.safe] quenchRegs y (if y.aState = 0 then y.setFld F.SAFE_STAT_A_STATE 1 else y) :=
      .ite (fun _ => (Alters.refl y).setFld F.SAFE_STAT_A_STATE 1 (by decide)) fun _ => .refl y
    have hkept : (if y.aState = 0 then y.setFld F.SAFE_STAT_A_STATE 1 else y).safe.switches.length = 4 := by
      split
      · exact hy
      · exact hy
    exact ⟨hstate.trans ((alters_goOn _).mono (fun _ h => h) (by decide)), goneOn_goOn hkept⟩
  have hends : Alters [.safe] [] x x.endWait := alters_safe x _
  obtain ⟨halters, hon⟩ := hready x.endWait hlenx
  generalize Dev.goOn _ = y at *
  have hb := alters_outputB y
  have hA := outputA_outputB y
  refine gives_step (e := y.outputB) rfl hwork ?_ (by decide) fun t ht _ => ?_
  · exact (hbegin.mono (by decide) (by decide)).trans ((hends.mono (by decide) (by decide)).trans
      (halters.trans (hb.mono (by decide) (by decide))))
  · have hsafe : t.dev.safe = y.outputB.safe := ht.parts .safe
    have hswitch (j : Nat) : t.dev.switch j = y.outputB.switch j := congrArg (fun s : SafeSt => s.switches.getD j {}) hsafe
    have hrest := hA.rest
    unfold OutputsOnly at hrest
    refine ⟨?_, ?_, ?_, ?_⟩
    · exact (ht.fld F.SAFE_STAT_A_STATE rfl rfl).trans (((lockKept_outputB y).stat F.SAFE_STAT_A_STATE rfl (by decide)).trans hon.state)
    · rw [hswitch, hA.hs, hon.hs]
    · rw [hswitch, hA.ls, hon.ls]
    · rw [hsafe, hrest]
      exact hon.still

/-! ## Reported events stay reported -/

/-- Every bit of `SAFE_EVT` that is set stays set. -/
def EventsStay (x y : Dev) : Prop := ∀ n, x.bit Reg.SAFE_EVT n = true → y.bit Reg.SAFE_EVT n = true

theorem EventsStay.trans {x y z : Dev} (h : EventsStay x y) (g : EventsStay y z) : EventsStay x z := fun n hn => g n (h n hn)

theorem EventsStay.ite {x y z : Dev} {c : Prop} [Decidable c] (h : EventsStay x y) (g : EventsStay x z) : EventsStay x (if c then y else z) := by
  split
  · exact h
  · exact g

theorem eventsStay_refl (x : Dev) : EventsStay x x := fun _ h => h

theorem Alters.eventsStay {x y : Dev} {parts : List Part} {regs : List Nat} (h : Alters parts regs x y) (hn : Reg.SAFE_EVT ∉ regs) :
    EventsStay x y := by
  intro n hx
  unfold Dev.bit at hx ⊢
  rw [h.reg Reg.SAFE_EVT hn, hx]

theorem eventsStay_sticky (x : Dev) {n : Nat} (src : Nat) (hn : n < 32) : EventsStay x (x.sticky Reg.SAFE_EVT n src) := by
  intro m hm
  unfold Dev.sticky
  split
  · exact hm
  · show (x.setBit Reg.SAFE_EVT n true).bit Reg.SAFE_EVT m = true
    rw [Dev.bit_setBit _ _ _ _ _ _ hn]
    split
    · rfl
    · exact hm

theorem eventsStay_setB (x : Dev) (v : Nat) : EventsStay x (x.setB v) := by
  have hstate : EventsStay x (x.setFld F.SAFE_STAT_B_STATE v) :=
    ((Alters.refl x (parts := [])).setFld (regs := [Reg.SAFE_STAT]) F.SAFE_STAT_B_STATE v (by decide)).eventsStay (by decide)
  have hpair (y : Dev) (on : Bool) : EventsStay y (y.setPair2 true on) := (alters_setPair2 y true on).eventsStay (by decide)
  have htimers (y : Dev) : EventsStay y (y.startTimers true) := (alters_startTimers y true).eventsStay (by decide)
  unfold Dev.setB
  exact .ite hstate (.ite (hstate.trans ((hpair _ _).trans ((htimers _).trans (eventsStay_sticky _ _ (by decide)))))
    (hstate.trans ((hpair _ _).trans (eventsStay_sticky _ _ (by decide)))))

theorem eventsStay_fieldOff (x : Dev) : EventsStay x x.fieldOff :=
  (eventsStay_setB x 2).trans ((alters_safe _ _).eventsStay (by decide))

theorem eventsStay_outputB (x : Dev) : EventsStay x x.outputB := by
  unfold Dev.outputB
  exact .ite (eventsStay_refl x) (.ite (.ite (eventsStay_refl x) (eventsStay_setB x 0)) (.ite (.ite (eventsStay_refl x) (eventsStay_setB x 1))
    (.ite (eventsStay_fieldOff x) (eventsStay_refl x))))

theorem eventsStay_quenchEvent (x : Dev) : EventsStay x x.quenchEvent := by
  intro n hn
  unfold Dev.quenchEvent
  split
  · exact hn
  · show (x.setBit Reg.SAFE_EVT 0 true).bit Reg.SAFE_EVT n = true
    rw [Dev.bit_setBit _ _ _ _ _ _ (by decide)]
    split
    · rfl
    · exact hn

theorem eventsStay_endMotion (x : Dev) (causes : Nat) : EventsStay x (x.endMotion causes) := by
  have hset (v : Nat) : EventsStay x (x.setFld F.SAFE_MOTION_STATE v) :=
    ((Alters.refl x (parts := [])).setFld (regs := [Reg.SAFE_MOTION]) F.SAFE_MOTION_STATE v (by decide)).eventsStay (by decide)
  unfold Dev.endMotion
  exact .ite ((hset 2).trans (eventsStay_sticky _ _ (by decide))) (.ite (hset 0) (eventsStay_refl x))

theorem eventsStay_quenchNow (x : Dev) (causes : Nat) : EventsStay x (x.quenchNow causes) := by
  have hheld : EventsStay x (((x.lockWith causes (firstCause causes) true).setPair2 false false).endMotion causes).holdLatch.outputB :=
    ((alters_lockWith x causes _ true).eventsStay (by decide)).trans (((alters_setPair2 _ false false).eventsStay (by decide)).trans
      ((eventsStay_endMotion _ causes).trans (((alters_safe _ _).eventsStay (by decide)).trans (eventsStay_outputB _))))
  rw [quenchNow_eq]
  exact .ite hheld (hheld.trans (eventsStay_quenchEvent _))

/-! ## The accountant -/

/-- The segments of a shot that are charged. -/
def Dev.chargedSegs (d : Dev) (f : Frame) : List Nat :=
  (List.range 256).filter fun k => f.units.contains (k / 16) && d.blw.e.code f.page k != 0

/-- The units of a segment of a shot, and whether its energy passes the limit of one segment. -/
def Dev.shotCharge (d : Dev) (f : Frame) (k : Nat) : Nat × Bool := d.segCharge k (d.blw.e.code f.page k) f.pulses

/-- The charges of a shot, summed by direction (R373, R374). -/
def Dev.shotCharges (d : Dev) (f : Frame) : Sparse Nat :=
  sumCharges ((d.chargedSegs f).flatMap fun k => (d.segRows k).flatMap fun r =>
    (d.chargedColumns (d.safe.xs.headD 0)).map fun c => (r * 256 + c, (d.shotCharge f k).1))

/-- The accountant vetoes the shot (R375). -/
def Dev.vetoes (d : Dev) (f : Frame) : Bool :=
  (d.chargedSegs f).any (fun k => (d.shotCharge f k).2) ||
    (d.shotCharges f).any fun x => decide (d.eBudget < d.account f.slot x.1 + x.2)

theorem vetoes_iff (d : Dev) (f : Frame) : d.vetoes f = true ↔ (∃ k ∈ d.chargedSegs f, (d.shotCharge f k).2 = true) ∨
    ∃ x ∈ d.shotCharges f, d.eBudget < d.account f.slot x.1 + x.2 := by
  unfold Dev.vetoes
  rw [Bool.or_eq_true, List.any_eq_true, List.any_eq_true]
  simp only [decide_eq_true_eq]

/-- The shot is decided, with the charges that a commit will make. -/
def Dev.decideShot (d : Dev) (charges : Sparse Nat) : Dev := { d with safe := { d.safe with decided := true, charges := charges } }

/-- A vetoed shot is counted and reported (R375, R403). -/
def Dev.countVeto (d : Dev) : Dev := (d.bump C.SAFE_VETO_CNT).sticky Reg.SAFE_EVT 2 Ev.energyVeto

theorem accountant_eq {d : Dev} {f : Frame} (hf : d.blw.e.shifted = some f) (hd : d.safe.decided = false) :
    d.accountant = if d.vetoes f then ((d.decideShot []).countVeto).quenchNow (2 ^ Cause.energy) else d.decideShot (d.shotCharges f) := by
  unfold Dev.accountant
  dsimp only
  rw [hd, hf, if_neg Bool.false_ne_true]
  unfold Dev.vetoes Dev.shotCharges Dev.chargedSegs Dev.shotCharge Dev.decideShot Dev.countVeto
  simp only [List.flatMap_map, List.any_map, Function.comp_def]
  generalize (_ || _ : Bool) = veto
  cases veto with
  | false => simp only [Bool.false_eq_true, if_false]
  | true => simp only [if_true]

theorem alters_decideShot (d : Dev) (charges : Sparse Nat) : Alters [.safe] [] d (d.decideShot charges) := alters_safe d _

theorem alters_countVeto (d : Dev) : Alters [] [Reg.SAFE_VETO_CNT, C.SAFE_VETO_CNT.sat, Reg.SAFE_EVT] d d.countVeto :=
  ((Alters.refl d).bump C.SAFE_VETO_CNT (by decide) (by decide) rfl).sticky _ _ _ (by decide)

theorem gives_veto {f : Frame} (hf : s.dev.blw.e.shifted = some f) (hd : s.dev.safe.decided = false) (hv : s.dev.vetoes f = true) :
    Gives .accountantDecision s fun t =>
      ((t.dev.flag F.SAFE_STAT_LOCK = true ∧ t.dev.fld F.SAFE_CAUSE_CAUSE = s.dev.fld F.SAFE_CAUSE_CAUSE ||| 2 ^ Cause.energy ∧
        (t.dev.switch 0).gate = false ∧ (t.dev.switch 1).gate = false ∧ t.dev.safe.latchOff = true ∧
        (s.dev.quenchLock = false → t.dev.fld F.SAFE_CAUSE_FIRST = firstCause (2 ^ Cause.energy) ∧ Counts C.SAFE_QUENCH_CNT 1 s t ∧
          t.dev.fld F.SAFE_STAT_A_STATE = 0 ∧ t.dev.wide64 Reg.SAFE_LOCK_TIME_LO = s.dev.now % 2 ^ 64)) ∧
      Counts C.SAFE_VETO_CNT 1 s t ∧ t.dev.safe.charges = [] ∧ t.dev.bit Reg.SAFE_EVT 2 = true) ∧
      Leaves [.safe, .wide] (quenchRegs ++ [Reg.SAFE_VETO_CNT, C.SAFE_VETO_CNT.sat]) s t := by
  have hwork := accountant_eq (d := s.dev.begin_) hf hd
  rw [if_pos (show s.dev.begin_.vetoes f = true from hv)] at hwork
  have hdecide := alters_decideShot s.dev.begin_ []
  have hcharges : (s.dev.begin_.decideShot []).safe.charges = [] := rfl
  have hregs (a : Nat) : (s.dev.begin_.decideShot []).reg a = s.dev.reg a := rfl
  have hwide : (s.dev.begin_.decideShot []).wide = s.dev.wide := rfl
  have hnow : (s.dev.begin_.decideShot []).now = s.dev.now := rfl
  generalize s.dev.begin_.decideShot [] = x at *
  have hcount := alters_countVeto x
  have hvetoed : x.countVeto.cnt C.SAFE_VETO_CNT = min (cntTop C.SAFE_VETO_CNT) (x.cnt C.SAFE_VETO_CNT + 1) := by
    have hsticky : Alters [] [Reg.SAFE_EVT] (x.bump C.SAFE_VETO_CNT) x.countVeto := (Alters.refl _).sticky _ _ _ (by decide)
    exact (Dev.cnt_congr _ (hsticky.reg _ (by decide)) (hsticky.same .wide (by decide))).trans (Dev.cnt_bumpBy _ _ _ (by decide))
  have hset : x.countVeto.bit Reg.SAFE_EVT 2 = true := bit_sticky_self _ _ _ (by decide)
  have hkept (a : Nat) (ha : a ∉ [Reg.SAFE_VETO_CNT, C.SAFE_VETO_CNT.sat, Reg.SAFE_EVT]) : x.countVeto.reg a = s.dev.reg a :=
    (hcount.reg a ha).trans (hregs a)
  have hflags (f : Fld) (ha : f.addr ∉ [Reg.SAFE_VETO_CNT, C.SAFE_VETO_CNT.sat, Reg.SAFE_EVT]) : x.countVeto.fld f = s.dev.fld f :=
    congrArg (field · _ _) (hkept _ ha)
  have hwidey : x.countVeto.wide = s.dev.wide := same_trans (p := .wide) hwide (hcount.same .wide (by decide))
  have hnowy : x.countVeto.now = s.dev.now := by
    unfold Dev.now at hnow ⊢
    rw [hcount.same .time (by decide), hnow]
  have hnone : x.countVeto.safe.charges = [] := (congrArg SafeSt.charges (hcount.same .safe (by decide))).trans hcharges
  have hbefore : x.cnt C.SAFE_VETO_CNT = s.dev.cnt C.SAFE_VETO_CNT := congrArg BitVec.toNat (hregs _)
  generalize x.countVeto = y at *
  have hq := quenched_quenchNow y (causes := 2 ^ Cause.energy) (by decide)
  have hstay := eventsStay_quenchNow y (2 ^ Cause.energy)
  generalize y.quenchNow (2 ^ Cause.energy) = z at *
  refine gives_step (e := z) rfl hwork ?_ (by decide) fun t ht _ => ⟨?_, ?_, ?_, ?_⟩
  · exact (hdecide.mono (by decide) (by decide)).trans ((hcount.mono (by decide) (by decide)).trans (hq.alters.mono (by decide) (by decide)))
  · exact Quenched.shown ht hq.lockSet ⟨hq.hs, hq.ls, hq.latch⟩ (hflags F.SAFE_CAUSE_CAUSE (by decide))
      (congrArg (· == 1) (hflags F.SAFE_STAT_LOCK (by decide))) (Dev.cnt_congr _ (hkept _ (by decide)) hwidey) hnowy
  · refine (ht.cnt C.SAFE_VETO_CNT rfl rfl).trans ?_
    rw [← hbefore, ← hvetoed]
    exact congrArg BitVec.toNat (hq.alters.reg Reg.SAFE_VETO_CNT (by decide))
  · have hrest := hq.rest
    unfold OutputsOnly at hrest
    exact (congrArg SafeSt.charges (ht.parts .safe)).trans ((congrArg SafeSt.charges hrest).trans hnone)
  · have hbit : t.dev.bit Reg.SAFE_EVT 2 = z.bit Reg.SAFE_EVT 2 := by
      unfold Dev.bit
      rw [ht.reg Reg.SAFE_EVT rfl rfl]
    exact hbit.trans (hstay 2 hset)

theorem gives_decide {f : Frame} (hf : s.dev.blw.e.shifted = some f) (hd : s.dev.safe.decided = false) (hv : s.dev.vetoes f = false) :
    Gives .accountantDecision s fun t => t.dev.safe = { s.dev.safe with decided := true, charges := s.dev.shotCharges f } ∧
      Leaves [.safe] [] s t := by
  have hwork := accountant_eq (d := s.dev.begin_) hf hd
  rw [if_neg (show ¬s.dev.begin_.vetoes f = true by rw [show s.dev.begin_.vetoes f = s.dev.vetoes f from rfl, hv]; decide)] at hwork
  exact gives_step rfl hwork (alters_decideShot _ _) (by decide) fun t ht _ => ht.parts .safe

/-! ## Windows, motion and the conditions that are detected -/

theorem gives_windowBoundary (hl : s.dev.locked = true) : Gives .safetyWindowBoundary s fun t =>
    t.dev.safe = { s.dev.safe with
      window := (s.dev.slotNo + 1) / s.dev.winSlots,
      accounts := if (s.dev.slotNo + 1) / s.dev.winSlots = s.dev.safe.window then s.dev.safe.accounts else [] } ∧ Leaves [.safe] [] s t := by
  have hsafe : (s.dev.begin_.windowAt (s.dev.slotNo + 1)).safe = { s.dev.safe with
      window := (s.dev.slotNo + 1) / s.dev.winSlots,
      accounts := if (s.dev.slotNo + 1) / s.dev.winSlots = s.dev.safe.window then s.dev.safe.accounts else [] } := by
    unfold Dev.windowAt
    dsimp only
    rw [show s.dev.begin_.winSlots = s.dev.winSlots from rfl, show s.dev.begin_.safe = s.dev.safe from rfl]
    split
    next h => rw [h]; rfl
    next => rfl
  refine gives_step rfl (if_pos hl) (alters_windowAt s.dev.begin_ (s.dev.slotNo + 1)) (by decide) fun t ht _ => ?_
  exact (show t.dev.safe = _ from ht.parts .safe).trans hsafe

/-- One sample, before what it shows is judged: the runs of samples that it continues or ends. -/
def Dev.sampled (d : Dev) (x : Int) (still out above bad : Nat) : Dev :=
  { d with safe := { d.safe with xs := (x :: d.safe.xs).take 26, still := still, outTravel := out, overCur := above, optBad := bad } }.setFld
    F.SAFE_MOTION_STILL (min 65535 (still * 4 / 10))

theorem alters_sampled (d : Dev) (x : Int) (still out above bad : Nat) :
    Alters [.safe] [Reg.SAFE_MOTION] d (d.sampled x still out above bad) :=
  ((Alters.refl d).part (alters_safe d _) (by decide)).setFld F.SAFE_MOTION_STILL _ (by decide)

/-- A sample counts how long X has been out of the travel, and motion is lost past 100 µs with output A on (R379). -/
theorem motionSample_cases (d : Dev) (x opt cur : Int) : ∃ still above bad,
    let out := runLen d.safe.outTravel (decide (x < d.parI P.safe_travel_lo 0 ∨ d.parI P.safe_travel_hi 0 < x))
    let y := d.sampled x still out above bad
    (d.motionSample x opt cur = y ∨ d.motionSample x opt cur = y.detect Cause.motion) ∧
    (d.aOn = false → d.motionSample x opt cur = y) ∧ (d.aOn = true → 26 < out → d.motionSample x opt cur = y.detect Cause.motion) := by
  have hsample : ∃ still above bad, let out := runLen d.safe.outTravel (decide (x < d.parI P.safe_travel_lo 0 ∨ d.parI P.safe_travel_hi 0 < x))
      let y := d.sampled x still out above bad
      d.motionSample x opt cur = if y.aOn && decide (d.par P.safe_still_max_us 0 < still * 4 ∨ 100 < (out - 1) * 4 ∨ 1000 < (above - 1) * 4 ∨
        1000 < (bad - 1) * 4) then y.detect Cause.motion else y := ⟨_, _, _, rfl⟩
  obtain ⟨still, above, bad, heq⟩ := hsample
  refine ⟨still, above, bad, ?_⟩
  dsimp only at heq ⊢
  generalize runLen d.safe.outTravel _ = out at *
  have hon : (d.sampled x still out above bad).aOn = d.aOn := by
    unfold Dev.aOn Dev.aState
    rw [(alters_sampled d x still out above bad).fld (by decide)]
  rw [heq, hon]
  refine ⟨?_, fun hoff => ?_, fun hon hout => ?_⟩
  · split
    · exact .inr rfl
    · exact .inl rfl
  · rw [hoff, Bool.false_and, if_neg Bool.false_ne_true]
  · rw [hon, Bool.true_and]
    exact if_pos (decide_eq_true (.inr (.inl (by omega))))

theorem gives_motionSample (x opt current : BitVec 16) :
    let n := if x.toInt < s.dev.parI P.safe_travel_lo 0 ∨ s.dev.parI P.safe_travel_hi 0 < x.toInt then s.dev.safe.outTravel + 1 else 0
    Gives (.safetyMotionSample x opt current) s fun t => (t.dev.safe.xs = (x.toInt :: s.dev.safe.xs).take 26 ∧
      t.dev.safe.outTravel = n ∧ (s.dev.aOn = true → 26 < n → bitAt t.dev.safe.detected Cause.motion = true) ∧
      (s.dev.aOn = false → t.dev.safe.detected = s.dev.safe.detected)) ∧ Leaves [.safe] [Reg.SAFE_MOTION] s t := by
  obtain ⟨still, above, bad, heq⟩ := motionSample_cases s.dev.begin_ x.toInt opt.toInt current.toInt
  dsimp only at heq ⊢
  rw [show s.dev.begin_.parI = s.dev.parI from rfl, show s.dev.begin_.safe = s.dev.safe from rfl] at heq
  have hn : runLen s.dev.safe.outTravel (decide (x.toInt < s.dev.parI P.safe_travel_lo 0 ∨ s.dev.parI P.safe_travel_hi 0 < x.toInt)) =
      if x.toInt < s.dev.parI P.safe_travel_lo 0 ∨ s.dev.parI P.safe_travel_hi 0 < x.toInt then s.dev.safe.outTravel + 1 else 0 := by
    unfold runLen
    simp only [decide_eq_true_eq]
  rw [hn] at heq
  generalize (if x.toInt < s.dev.parI P.safe_travel_lo 0 ∨ s.dev.parI P.safe_travel_hi 0 < x.toInt then s.dev.safe.outTravel + 1 else 0) = n at *
  have hy := alters_sampled s.dev.begin_ x.toInt still n above bad
  have hxs : (s.dev.begin_.sampled x.toInt still n above bad).safe.xs = (x.toInt :: s.dev.safe.xs).take 26 ∧
      (s.dev.begin_.sampled x.toInt still n above bad).safe.outTravel = n ∧
      (s.dev.begin_.sampled x.toInt still n above bad).safe.detected = s.dev.safe.detected := ⟨rfl, rfl, rfl⟩
  generalize s.dev.begin_.sampled x.toInt still n above bad = y at *
  obtain ⟨hcases, hoff, hlost⟩ := heq
  obtain ⟨hx, hout, hdet⟩ := hxs
  have hsafe : ∀ z, z = s.dev.begin_.motionSample x.toInt opt.toInt current.toInt → z.safe.xs = y.safe.xs ∧ z.safe.outTravel = y.safe.outTravel ∧
      Alters [.safe] [Reg.SAFE_MOTION] s.dev.begin_ z := by
    rintro z rfl
    rcases hcases with h | h
    · rw [h]
      exact ⟨rfl, rfl, hy⟩
    · rw [h]
      exact ⟨rfl, rfl, hy.part (alters_safe _ _) (by decide)⟩
  obtain ⟨hzx, hzo, halters⟩ := hsafe _ rfl
  refine gives_step rfl rfl halters (by decide) fun t ht _ => ?_
  have hts : t.dev.safe = (s.dev.begin_.motionSample x.toInt opt.toInt current.toInt).safe := ht.parts .safe
  refine ⟨?_, ?_, fun hon hlong => ?_, fun hno => ?_⟩
  · rw [hts, hzx, hx]
  · rw [hts, hzo, hout]
  · rw [hts, hlost hon hlong]
    exact bitAt_orBit _ _
  · rw [hts, hoff hno, hdet]

/-- A condition is detected, whatever else the work alters. -/
theorem gives_detect {i : Instr} {f : List Host.Cell → Dev → Dev} {x e : Dev} {cause : Nat} {regs : List Nat}
    (hx : exec i s = .next (s.onDev f)) (hf : f s.mem s.dev.begin_ = e) (ha : Alters [.safe] regs s.dev.begin_ e)
    (hn : Reg.EVT_RING_SIZE ∉ regs) (he : e.safe.detected = (x.detect cause).safe.detected) :
    Gives i s fun t => bitAt t.dev.safe.detected cause = true ∧ Leaves [.safe] regs s t := by
  refine gives_step hx hf ha hn fun t ht _ => ?_
  rw [show t.dev.safe = e.safe from ht.parts .safe, he]
  exact bitAt_orBit _ _

theorem alters_detect (d : Dev) (cause : Nat) : Alters [.safe] [] d (d.detect cause) := alters_safe d _

theorem gives_discrepancy (restart : Bool) (h : (if restart then s.dev.safe.restart1.high != s.dev.safe.restart2.high
    else s.dev.safe.stop1.high != s.dev.safe.stop2.high) = true) :
    Gives (.inputDiscrepancyTimeout restart) s fun t => bitAt t.dev.safe.detected Cause.input = true ∧ Leaves [.safe] [] s t := by
  have hpersist : Alters [.safe] [] s.dev.begin_ ((s.dev.begin_.detect Cause.input).persist Cause.input true) :=
    (alters_detect _ _).trans (alters_safe _ _)
  refine gives_detect (x := s.dev.begin_) rfl (if_pos h) ?_ (by decide) ?_
  · exact .ite (fun _ => hpersist.trans (alters_safe _ _)) fun _ => hpersist
  · cases restart with
    | false => rfl
    | true => rfl

theorem alters_testFail (d : Dev) :
    Alters [.safe] [Reg.SAFE_EVT, Reg.SAFE_TEST_FAIL_CNT, C.SAFE_TEST_FAIL_CNT.sat] d d.testFail :=
  (((Alters.refl d).part (alters_detect d _) (by decide)).bump C.SAFE_TEST_FAIL_CNT (by decide) (by decide) rfl).sticky _ _ _ (by decide)

/-- A failed test is detected, counted and reported (R389, R403). -/
theorem testFail_shows (d : Dev) : d.testFail.safe.detected = (d.detect Cause.test).safe.detected ∧
    d.testFail.cnt C.SAFE_TEST_FAIL_CNT = min (cntTop C.SAFE_TEST_FAIL_CNT) (d.cnt C.SAFE_TEST_FAIL_CNT + 1) ∧
    d.testFail.bit Reg.SAFE_EVT 6 = true := by
  have hsticky : Alters [] [Reg.SAFE_EVT] ((d.detect Cause.test).bump C.SAFE_TEST_FAIL_CNT) d.testFail := (Alters.refl _).sticky _ _ _ (by decide)
  have hall : Alters [] [Reg.SAFE_EVT, Reg.SAFE_TEST_FAIL_CNT, C.SAFE_TEST_FAIL_CNT.sat] (d.detect Cause.test) d.testFail :=
    ((Alters.refl _).bump C.SAFE_TEST_FAIL_CNT (by decide) (by decide) rfl).sticky _ _ _ (by decide)
  refine ⟨congrArg SafeSt.detected (show d.testFail.safe = _ from hall.same .safe (by decide)), ?_, bit_sticky_self _ _ _ (by decide)⟩
  exact (Dev.cnt_congr _ (hsticky.reg _ (by decide)) (hsticky.same .wide (by decide))).trans (Dev.cnt_bumpBy _ _ _ (by decide))

theorem gives_testOverdue (sw : Fin 4) (h : (if sw.val < 2 then s.dev.aOn else s.dev.bOn) = true) :
    Gives (.testOverdue sw) s fun t => (bitAt t.dev.safe.detected Cause.test = true ∧ Counts C.SAFE_TEST_FAIL_CNT 1 s t) ∧
      Leaves [.safe] [Reg.SAFE_EVT, Reg.SAFE_TEST_FAIL_CNT, C.SAFE_TEST_FAIL_CNT.sat] s t := by
  obtain ⟨hdet, hcnt, -⟩ := testFail_shows s.dev.begin_
  refine gives_step rfl (if_pos h) (alters_testFail s.dev.begin_) (by decide) fun t ht _ => ⟨?_, ?_⟩
  · rw [show t.dev.safe = s.dev.begin_.testFail.safe from ht.parts .safe, hdet]
    exact bitAt_orBit _ _
  · exact (ht.cnt C.SAFE_TEST_FAIL_CNT rfl rfl).trans hcnt

theorem gives_readback (sw : Fin 4) (h : (s.dev.switch sw.val).testing = false) :
    Gives (.readbackMismatch sw) s fun t => bitAt t.dev.safe.detected Cause.readback = true ∧ Leaves [.safe] [Reg.SAFE_IN] s t := by
  have hgo : ¬(s.dev.begin_.switch sw.val).testing = true := by
    show ¬(s.dev.switch sw.val).testing = true
    rw [h]
    exact Bool.false_ne_true
  exact gives_detect rfl (if_neg hgo) ((alters_setSwitch _ _ _).part (alters_detect _ _) (by decide)) (by decide) rfl

end

/-- Settles O45: each condition goes through its own rule above. -/
theorem quenchesFollowTheirCauses : Obligations.QuenchesFollowTheirCauses := by
  unfold Obligations.QuenchesFollowTheirCauses
  intro s quenched regs detects
  refine ⟨fun disagree clockBad configBad hr => ?_, fun hr hnone hl harm hstops hwait ha hlen => ?_, fun f hf hd => ?_,
    gives_windowBoundary, fun x opt current => ?_, fun ch hlow => ?_, fun h => ?_, fun h => ?_, fun sw => ⟨gives_readback sw, fun h => ⟨?_, ?_⟩⟩⟩
  · intro seen hseen hlt
    exact gives_quenchCycle hr hseen hlt
  · exact gives_imp (gives_goOnCycle hr hnone hl harm hstops hwait ha hlen) fun t ⟨⟨h1, h2, h3, h4⟩, hl⟩ => ⟨h1, h2, h3, h4, hl⟩
  · intro segs q charges bad
    have hiff : s.dev.vetoes f = true ↔ bad := vetoes_iff s.dev f
    exact ⟨fun h => gives_imp (gives_veto hf hd (hiff.mpr h)) fun t ⟨⟨h1, h2, h3, h4⟩, hl⟩ => ⟨h1, h2, h3, h4, hl⟩,
      fun h => gives_decide hf hd (Bool.eq_false_iff.mpr fun hv => h (hiff.mp hv))⟩
  · exact gives_imp (gives_motionSample x opt current) fun t ⟨⟨h1, h2, h3, h4⟩, hl⟩ => ⟨h1, h2, h3, h4, hl⟩
  · have hgo : ¬(if ch = 0 then s.dev.safe.stop1 else s.dev.safe.stop2).high = true := by
      rw [hlow]
      exact Bool.false_ne_true
    exact gives_detect (x := s.dev.begin_) rfl (if_neg hgo) (alters_detect _ _) (by decide) rfl
  · exact gives_discrepancy false (bne_iff_ne.mpr h)
  · exact gives_discrepancy true (bne_iff_ne.mpr h)
  · exact gives_imp (gives_testOverdue sw h) fun t ⟨⟨h1, _⟩, hl⟩ => ⟨h1, hl⟩
  · exact gives_imp (gives_testOverdue sw h) fun t ⟨⟨_, h2⟩, _⟩ => h2

end Sys2Proof.Machine
end

section
/-! SUPPORT. The inputs of the safety island, its test pulses and its protective field (R382 to R394). -/

namespace Sys2Proof.Machine

/-- A bit of a register as the settled work left it. -/
theorem Settled.bit {s t : State} {e : Dev} (h : Settled s e t) (a n : Nat) (h1 : evtOwn a = false) (h2 : cmdqOwn a = false) :
    t.dev.bit a n = e.bit a n := by
  unfold Dev.bit
  rw [h.reg a h1 h2]

/-! ## Input levels -/

/-- The bits of `SAFE_IN` that show the STOP and RESTART inputs stay. -/
def InputsStay (x y : Dev) : Prop := ∀ n < 4, y.bit Reg.SAFE_IN n = x.bit Reg.SAFE_IN n

theorem InputsStay.trans {x y z : Dev} (h : InputsStay x y) (g : InputsStay y z) : InputsStay x z := fun n hn => (g n hn).trans (h n hn)

theorem InputsStay.ite {x y z : Dev} {c : Prop} [Decidable c] (h : InputsStay x y) (g : InputsStay x z) : InputsStay x (if c then y else z) := by
  split
  · exact h
  · exact g

theorem inputsStay_refl (x : Dev) : InputsStay x x := fun _ _ => rfl

theorem Alters.inputsStay {x y : Dev} {parts : List Part} {regs : List Nat} (h : Alters parts regs x y) (hn : Reg.SAFE_IN ∉ regs) :
    InputsStay x y := by
  intro n _
  unfold Dev.bit
  rw [h.reg Reg.SAFE_IN hn]

theorem inputsStay_setSwitch (x : Dev) {i : Nat} (v : SafeSwitch) (hi : i < 4) : InputsStay x (x.setSwitch i v) := by
  intro n hn
  unfold Dev.setSwitch
  dsimp only
  rw [Dev.bit_setBit _ _ _ _ _ _ (by omega), if_neg (by omega), Dev.bit_setBit _ _ _ _ _ _ (by omega), if_neg (by omega)]
  rfl

theorem inputsStay_setPair2 (x : Dev) (b on : Bool) : InputsStay x (x.setPair2 b on) := by
  have hlt : pairFirst b < 4 ∧ pairFirst b + 1 < 4 := by cases b <;> decide
  obtain ⟨h1, h2⟩ := hlt
  have hgates : InputsStay x ((x.setGate (pairFirst b) on).setGate (pairFirst b + 1) on) :=
    (inputsStay_setSwitch x _ h1).trans (inputsStay_setSwitch _ _ h2)
  unfold Dev.setPair2
  dsimp only
  split
  · exact hgates
  · exact hgates.trans ((inputsStay_setSwitch _ _ h1).trans (inputsStay_setSwitch _ _ h2))

theorem inputsStay_startTimers (x : Dev) (b : Bool) : InputsStay x (x.startTimers b) :=
  (inputsStay_setSwitch x _ (by cases b <;> decide)).trans (inputsStay_setSwitch _ _ (by cases b <;> decide))

theorem inputsStay_setB (x : Dev) (v : Nat) : InputsStay x (x.setB v) := by
  have hstate : InputsStay x (x.setFld F.SAFE_STAT_B_STATE v) :=
    ((Alters.refl x (parts := [])).setFld (regs := [Reg.SAFE_STAT]) F.SAFE_STAT_B_STATE v (by decide)).inputsStay (by decide)
  have hsticky (y : Dev) (n src : Nat) : InputsStay y (y.sticky Reg.SAFE_EVT n src) :=
    ((Alters.refl y (parts := []) (regs := [Reg.SAFE_EVT])).sticky _ _ _ (by decide)).inputsStay (by decide)
  unfold Dev.setB
  exact .ite hstate (.ite (hstate.trans ((inputsStay_setPair2 _ _ _).trans ((inputsStay_startTimers _ _).trans (hsticky _ _ _))))
    (hstate.trans ((inputsStay_setPair2 _ _ _).trans (hsticky _ _ _))))

theorem inputsStay_fieldOff (x : Dev) : InputsStay x x.fieldOff := (inputsStay_setB x 2).trans ((alters_safe _ _).inputsStay (by decide))

theorem OutputsOnly.pins {x y : Dev} (h : OutputsOnly x y) : y.safe.restart1 = x.safe.restart1 ∧ y.safe.restart2 = x.safe.restart2 := by
  unfold OutputsOnly at h
  rw [h]
  exact ⟨rfl, rfl⟩

/-! ## The lock is released -/

/-- The registers that a press of RESTART may change. -/
abbrev pressRegs : List Nat :=
  [Reg.SAFE_IN, Reg.SAFE_STAT, Reg.SAFE_CAUSE, Reg.SAFE_MOTION, Reg.SAFE_EVT, Reg.SAFE_RESTART_CNT, C.SAFE_RESTART_CNT.sat]

/-- The lock, its causes and the motion supervision end, and output A is READY. -/
def Dev.clearStat (d : Dev) : Dev :=
  (((d.put Reg.SAFE_CAUSE 0x001F0000#32).setFlag F.SAFE_STAT_LOCK false).setFld F.SAFE_STAT_A_STATE 1).setFld F.SAFE_MOTION_STATE 0

/-- The lock is cleared: under ARM output A waits for a turnaround. -/
def Dev.clearLock (d : Dev) : Dev := { d.clearStat with safe := { d.clearStat.safe with waitTurn := d.clearStat.scan.arm } }

/-- The lock ends, and output B awaits clear frames where function B is in use. -/
def Dev.endLock (d : Dev) : Dev := if d.clearLock.fnB then d.clearLock.fieldOff else d.clearLock

theorem releaseLock_eq (d : Dev) : d.releaseLock = (d.endLock.bump C.SAFE_RESTART_CNT).sticky Reg.SAFE_EVT 1 Ev.safeRelease := rfl

theorem alters_clearLock (d : Dev) : Alters [.safe] [Reg.SAFE_CAUSE, Reg.SAFE_STAT, Reg.SAFE_MOTION] d d.clearLock :=
  (((((Alters.refl d).put Reg.SAFE_CAUSE _ (by decide)).setFlag F.SAFE_STAT_LOCK _ (by decide)).setFld F.SAFE_STAT_A_STATE _ (by decide)).setFld
    F.SAFE_MOTION_STATE _ (by decide)).part (alters_safe _ _) (by decide)

/-- No Quench lock stands: the released state of its registers. -/
structure Released (x : Dev) : Prop where
  lock : x.quenchLock = false
  cause : x.reg Reg.SAFE_CAUSE = 0x001F0000#32
  ready : x.aState = 1

theorem Released.kept {x y : Dev} (h : Released x) (g : LockKept x y) : Released y where
  lock := (congrArg (· == 1) (g.stat F.SAFE_STAT_LOCK rfl (by decide))).trans h.lock
  cause := g.cause.trans h.cause
  ready := (g.stat F.SAFE_STAT_A_STATE rfl (by decide)).trans h.ready

section
variable (d : Dev)

theorem released_clearLock : Released d.clearLock := by
  have hwait : LockKept d.clearStat d.clearLock := (alters_safe _ _).lockKept (by decide) (by decide)
  refine Released.kept ?_ hwait
  generalize hx : d.put Reg.SAFE_CAUSE 0x001F0000#32 = x
  have hcause : x.reg Reg.SAFE_CAUSE = 0x001F0000#32 := hx ▸ Dev.reg_put_self d _ _
  unfold Dev.clearStat
  rw [hx]
  have hset : Alters [] [Reg.SAFE_STAT, Reg.SAFE_MOTION] x
      (((x.setFlag F.SAFE_STAT_LOCK false).setFld F.SAFE_STAT_A_STATE 1).setFld F.SAFE_MOTION_STATE 0) :=
    (((Alters.refl x).setFlag F.SAFE_STAT_LOCK _ (by decide)).setFld F.SAFE_STAT_A_STATE _ (by decide)).setFld F.SAFE_MOTION_STATE _ (by decide)
  have hmotion : Alters [] [Reg.SAFE_MOTION] ((x.setFlag F.SAFE_STAT_LOCK false).setFld F.SAFE_STAT_A_STATE 1)
      (((x.setFlag F.SAFE_STAT_LOCK false).setFld F.SAFE_STAT_A_STATE 1).setFld F.SAFE_MOTION_STATE 0) :=
    (Alters.refl _).setFld F.SAFE_MOTION_STATE _ (by decide)
  refine ⟨?_, (hset.reg _ (by decide)).trans hcause, ?_⟩
  · exact (hmotion.flag (f := F.SAFE_STAT_LOCK) (by decide)).trans ((Dev.flag_setFld_apart _ F.SAFE_STAT_A_STATE F.SAFE_STAT_LOCK _ (by decide)
      (by decide)).trans (Dev.flag_setFlag_self _ F.SAFE_STAT_LOCK _ (by decide) rfl))
  · exact (hmotion.fld (f := F.SAFE_STAT_A_STATE) (by decide)).trans (Dev.fld_setFld_self _ F.SAFE_STAT_A_STATE 1 (by decide))

theorem fnB_clearLock : d.clearLock.fnB = d.fnB := by
  have hcommissioned : d.clearLock.flag F.SAFE_STAT_COMMISSIONED = d.flag F.SAFE_STAT_COMMISSIONED := by
    have hmotion (x : Dev) : Alters [] [Reg.SAFE_MOTION] x (x.setFld F.SAFE_MOTION_STATE 0) := (Alters.refl _).setFld F.SAFE_MOTION_STATE _ (by decide)
    have hput : Alters [] [Reg.SAFE_CAUSE] d (d.put Reg.SAFE_CAUSE 0x001F0000#32) := (Alters.refl _).put _ _ (by decide)
    exact ((hmotion _).flag (by decide)).trans ((Dev.flag_setFld_apart _ F.SAFE_STAT_A_STATE F.SAFE_STAT_COMMISSIONED _ (by decide)
      (by decide)).trans ((Dev.flag_setFlag_apart _ F.SAFE_STAT_LOCK F.SAFE_STAT_COMMISSIONED _ (by decide) (by decide)).trans
        (hput.flag (by decide))))
  exact (alters_clearLock d).fnB (by decide) hcommissioned

/-- Released, with output B in OFF_FIELD where function B is in use, and the pins as they were (R386, R393). -/
theorem endLock_shows : Released d.endLock ∧ (d.fnB = true → d.endLock.bState = 2) ∧ InputsStay d d.endLock ∧
    Alters [.safe] [Reg.SAFE_CAUSE, Reg.SAFE_STAT, Reg.SAFE_MOTION, Reg.SAFE_IN, Reg.SAFE_EVT] d d.endLock ∧
    d.endLock.safe.restart1 = d.safe.restart1 ∧ d.endLock.safe.restart2 = d.safe.restart2 := by
  have hreleased := released_clearLock d
  have halters := alters_clearLock d
  have hpins : d.clearLock.safe.restart1 = d.safe.restart1 ∧ d.clearLock.safe.restart2 = d.safe.restart2 := ⟨rfl, rfl⟩
  unfold Dev.endLock
  rw [fnB_clearLock]
  generalize d.clearLock = x at *
  have hstay := halters.inputsStay (by decide)
  have hwide : Alters [.safe] [Reg.SAFE_CAUSE, Reg.SAFE_STAT, Reg.SAFE_MOTION, Reg.SAFE_IN, Reg.SAFE_EVT] d x :=
    halters.mono (fun _ h => h) (by decide)
  split
  next hfn =>
    obtain ⟨h1, h2⟩ := (outputA_fieldOff x).rest.pins
    refine ⟨hreleased.kept (lockKept_fieldOff x), fun _ => bState_setB x 2 (by decide), hstay.trans (inputsStay_fieldOff x),
      hwide.trans ((alters_fieldOff x).mono (fun _ h => h) (by decide)), h1.trans hpins.1, h2.trans hpins.2⟩
  next hfn => exact ⟨hreleased, fun h => absurd h hfn, hstay, hwide, hpins⟩

theorem alters_countRelease (x : Dev) : Alters [] [Reg.SAFE_RESTART_CNT, C.SAFE_RESTART_CNT.sat, Reg.SAFE_EVT] x
    ((x.bump C.SAFE_RESTART_CNT).sticky Reg.SAFE_EVT 1 Ev.safeRelease) :=
  ((Alters.refl x).bump C.SAFE_RESTART_CNT (by decide) (by decide) rfl).sticky _ _ _ (by decide)

/-- The lock is released: it is counted and reported (R393, R403). -/
theorem releaseLock_shows : Released d.releaseLock ∧ (d.fnB = true → d.releaseLock.bState = 2) ∧
    d.releaseLock.cnt C.SAFE_RESTART_CNT = min (cntTop C.SAFE_RESTART_CNT) (d.cnt C.SAFE_RESTART_CNT + 1) ∧
    d.releaseLock.bit Reg.SAFE_EVT 1 = true := by
  obtain ⟨hreleased, hb, -, halters, -⟩ := endLock_shows d
  have hcount := alters_countRelease d.endLock
  have hsticky : Alters [] [Reg.SAFE_EVT] (d.endLock.bump C.SAFE_RESTART_CNT) d.releaseLock := (Alters.refl _).sticky _ _ _ (by decide)
  rw [← releaseLock_eq] at hcount
  refine ⟨hreleased.kept (hcount.lockKept (by decide) (by decide)), fun hfn => (hcount.fld (f := F.SAFE_STAT_B_STATE) (by decide)).trans (hb hfn), ?_,
    bit_sticky_self _ _ _ (by decide)⟩
  have hbefore : d.endLock.cnt C.SAFE_RESTART_CNT = d.cnt C.SAFE_RESTART_CNT := congrArg BitVec.toNat (halters.reg Reg.SAFE_RESTART_CNT (by decide))
  rw [← hbefore]
  exact (Dev.cnt_congr _ (hsticky.reg _ (by decide)) (hsticky.same .wide (by decide))).trans (Dev.cnt_bumpBy _ _ _ (by decide))

/-- What a press leaves: the pins as they are, and all but the registers of a press (R393). -/
structure PressKeeps (x y : Dev) : Prop where
  inputs : InputsStay x y
  alters : Alters [.safe] pressRegs x y
  pin1 : y.safe.restart1 = x.safe.restart1
  pin2 : y.safe.restart2 = x.safe.restart2

theorem pressKeeps_pressed : PressKeeps d d.pressed := by
  have hsticky : Alters [] [Reg.SAFE_EVT] d (d.sticky Reg.SAFE_EVT 8 Ev.restartRefused) := (Alters.refl d).sticky _ _ _ (by decide)
  have hset : PressKeeps d (d.setB 4) := by
    obtain ⟨h1, h2⟩ := (outputA_setB d 4).rest.pins
    exact ⟨inputsStay_setB d 4, (alters_setB d 4).mono (fun _ h => h) (by decide), h1, h2⟩
  have hrelease : PressKeeps d d.releaseLock := by
    obtain ⟨-, -, hstay, halters, h1, h2⟩ := endLock_shows d
    have hcount := alters_countRelease d.endLock
    rw [← releaseLock_eq] at hcount
    have hsafe : d.releaseLock.safe = d.endLock.safe := hcount.same .safe (by decide)
    exact ⟨hstay.trans (hcount.inputsStay (by decide)), (halters.mono (fun _ h => h) (by decide)).trans (hcount.mono (by decide) (by decide)),
      (congrArg SafeSt.restart1 hsafe).trans h1, (congrArg SafeSt.restart2 hsafe).trans h2⟩
  have hrefuse : PressKeeps d (d.sticky Reg.SAFE_EVT 8 Ev.restartRefused) :=
    ⟨hsticky.inputsStay (by decide), hsticky.mono (by decide) (by decide), congrArg SafeSt.restart1 (hsticky.same .safe (by decide)),
      congrArg SafeSt.restart2 (hsticky.same .safe (by decide))⟩
  have hnone : PressKeeps d d := ⟨inputsStay_refl d, .refl d, rfl, rfl⟩
  unfold Dev.pressed
  split
  · exact hnone
  · split
    · split
      · exact hrelease
      · exact hrefuse
    · split
      · exact hset
      · exact hnone

/-! ## Pins -/

/-- A pin takes a level at a time. -/
def SafePin.take (p : SafePin) (level : Bool) (us : Nat) : SafePin :=
  if level then { p with high := true, rose := us } else { p with high := false, fell := some us }

theorem high_take (p : SafePin) (level : Bool) (us : Nat) : (p.take level us).high = level := by
  cases level <;> rfl

/-- The times of a press start again as both pins leave their rest. -/
def SafeSt.freshPress (s : SafeSt) (level : Bool) : SafeSt :=
  if s.restart1.high && s.restart2.high && !level then
    { s with restart1 := { s.restart1 with fell := none }, restart2 := { s.restart2 with fell := none }, pressBad := false }
  else s

/-- A RESTART pin takes a level; one that falls twice spoils the press. -/
def SafeSt.takeRestart (s : SafeSt) (ch : Nat) (level : Bool) (us : Nat) : SafeSt :=
  let x := s.freshPress level
  let p := if ch = 0 then x.restart1 else x.restart2
  let y := { x with pressBad := x.pressBad || (!level && p.high && p.fell.isSome) }
  if ch = 0 then { y with restart1 := p.take level us } else { y with restart2 := p.take level us }

/-- The island shows the level, and a discrepancy between channels may have ended. -/
def Dev.takeRestart (d : Dev) (ch : Nat) (level : Bool) (us : Nat) : Dev :=
  let s := d.safe.takeRestart ch level us
  let x := { d with safe := s }.setBit Reg.SAFE_IN (2 + ch) (!level)
  if s.restart1.high = s.restart2.high ∧ s.stop1.high = s.stop2.high then x.persist Cause.input false else x

theorem restartPin_eq (ch : Nat) (level : Bool) (us : Nat) : d.restartPin ch level us =
    let s := d.safe.takeRestart ch level us
    let x := d.takeRestart ch level us
    if s.restart1.high && s.restart2.high && !(d.safe.restart1.high && d.safe.restart2.high) then
      let y := x.setFlag F.SAFE_STAT_RESTART_HELD false
      if s.validPress && !x.flag F.SAFE_STAT_RESTART_HELD then y.pressed else y
    else x := rfl

theorem alters_takeRestart (ch : Nat) (level : Bool) (us : Nat) : Alters [.safe] [Reg.SAFE_IN] d (d.takeRestart ch level us) := by
  have hset (s : SafeSt) : Alters [.safe] [Reg.SAFE_IN] d ({ d with safe := s }.setBit Reg.SAFE_IN (2 + ch) (!level)) :=
    ((Alters.refl d).part (alters_safe d s) (by decide)).setBit _ _ _ (by decide)
  unfold Dev.takeRestart
  exact .ite (fun _ => (hset _).part (alters_safe _ _) (by decide)) fun _ => hset _

/-- A pin of a pair. -/
abbrev pinOf (ch : Fin 2) (x y : SafePin) : SafePin := if ch = 0 then x else y

theorem takeRestart_shows (ch : Fin 2) (level : Bool) (us : Nat) :
    (pinOf ch (d.takeRestart ch.val level us).safe.restart1 (d.takeRestart ch.val level us).safe.restart2).high = level ∧
    (d.takeRestart ch.val level us).bit Reg.SAFE_IN (2 + ch.val) = !level := by
  have hset (s : SafeSt) (n : Nat) (hn : n < 32) : ({ d with safe := s }.setBit Reg.SAFE_IN n (!level)).bit Reg.SAFE_IN n = !level :=
    Dev.bit_setBit_self _ _ _ _ hn
  unfold Dev.takeRestart
  dsimp only
  generalize hs : d.safe.takeRestart ch.val level us = s
  have hpin : (pinOf ch s.restart1 s.restart2).high = level := by
    rw [← hs]
    match ch with
    | 0 => exact high_take _ _ _
    | 1 => exact high_take _ _ _
  split
  · exact ⟨hpin, hset s _ (by omega)⟩
  · exact ⟨hpin, hset s _ (by omega)⟩

theorem alters_unheld (x : Dev) : Alters [] [Reg.SAFE_STAT] x (x.setFlag F.SAFE_STAT_RESTART_HELD false) :=
  (Alters.refl x).setFlag F.SAFE_STAT_RESTART_HELD false (by decide)

/-- What follows the level leaves the pins as they are. -/
theorem pressKeeps_restartPin (ch : Nat) (level : Bool) (us : Nat) : PressKeeps (d.takeRestart ch level us) (d.restartPin ch level us) := by
  have hnone (x : Dev) : PressKeeps x x := ⟨inputsStay_refl x, .refl x, rfl, rfl⟩
  have hunheld (x : Dev) : PressKeeps x (x.setFlag F.SAFE_STAT_RESTART_HELD false) :=
    ⟨(alters_unheld x).inputsStay (by decide), (alters_unheld x).mono (by decide) (by decide), rfl, rfl⟩
  have htrans {x y z : Dev} (h : PressKeeps x y) (g : PressKeeps y z) : PressKeeps x z :=
    ⟨h.inputs.trans g.inputs, h.alters.trans g.alters, g.pin1.trans h.pin1, g.pin2.trans h.pin2⟩
  rw [restartPin_eq]
  dsimp only
  generalize d.takeRestart ch level us = x
  split
  · split
    · exact htrans (hunheld x) (pressKeeps_pressed _)
    · exact hunheld x
  · exact hnone x

end

section
variable {s : State}

theorem gives_restartInput (ch : Fin 2) (level : Bool) (us : Nat) : Gives (.restartInputChange ch level us) s fun t =>
    ((pinOf ch t.dev.safe.restart1 t.dev.safe.restart2).high = level ∧ t.dev.bit Reg.SAFE_IN (2 + ch.val) = !level) ∧
      Leaves [.safe] pressRegs s t := by
  have htake := alters_takeRestart s.dev.begin_ ch.val level us
  obtain ⟨hhigh, hbit⟩ := takeRestart_shows s.dev.begin_ ch level us
  obtain ⟨hstay, halters, h1, h2⟩ := pressKeeps_restartPin s.dev.begin_ ch.val level us
  generalize s.dev.begin_.takeRestart ch.val level us = x at *
  refine gives_step rfl rfl ((htake.mono (fun _ h => h) (by decide)).trans halters) (by decide) fun t ht _ => ⟨?_, ?_⟩
  · rw [show t.dev.safe = _ from ht.parts .safe, h1, h2, hhigh]
  · rw [ht.bit Reg.SAFE_IN _ rfl rfl, hstay _ (by omega), hbit]

/-- A STOP pin takes a level. -/
def Dev.takeStop (d : Dev) (ch : Nat) (level : Bool) (us : Nat) : Dev :=
  (if ch = 0 then { d with safe := { d.safe with stop1 := d.safe.stop1.take level us } }
    else { d with safe := { d.safe with stop2 := d.safe.stop2.take level us } }).setBit Reg.SAFE_IN ch (!level)

theorem stopPin_eq (d : Dev) (ch : Nat) (level : Bool) (us : Nat) : d.stopPin ch level us =
    let x := d.takeStop ch level us
    if x.safe.stop1.high = x.safe.stop2.high ∧ x.safe.restart1.high = x.safe.restart2.high then x.persist Cause.input false else x := rfl

theorem gives_stopInput (ch : Fin 2) (level : Bool) (us : Nat) : Gives (.stopInputChange ch level us) s fun t =>
    ((pinOf ch t.dev.safe.stop1 t.dev.safe.stop2).high = level ∧ t.dev.bit Reg.SAFE_IN ch.val = !level) ∧ Leaves [.safe] [Reg.SAFE_IN] s t := by
  have htake : Alters [.safe] [Reg.SAFE_IN] s.dev.begin_ (s.dev.begin_.takeStop ch.val level us) := by
    have hpin : Alters [.safe] [Reg.SAFE_IN] s.dev.begin_ (if ch.val = 0 then
        { s.dev.begin_ with safe := { s.dev.begin_.safe with stop1 := s.dev.begin_.safe.stop1.take level us } }
        else { s.dev.begin_ with safe := { s.dev.begin_.safe with stop2 := s.dev.begin_.safe.stop2.take level us } }) :=
      .ite (fun _ => (Alters.refl _).part (alters_safe _ _) (by decide)) fun _ => (Alters.refl _).part (alters_safe _ _) (by decide)
    exact hpin.setBit _ _ _ (by decide)
  have hhigh : (pinOf ch (s.dev.begin_.takeStop ch.val level us).safe.stop1 (s.dev.begin_.takeStop ch.val level us).safe.stop2).high = level := by
    match ch with
    | 0 => exact high_take _ _ _
    | 1 => exact high_take _ _ _
  have hbit : (s.dev.begin_.takeStop ch.val level us).bit Reg.SAFE_IN ch.val = !level := Dev.bit_setBit_self _ _ _ _ (by omega)
  have heq := stopPin_eq s.dev.begin_ ch.val level us
  generalize s.dev.begin_.takeStop ch.val level us = x at *
  have hshows (y : Dev) (hy : y = s.dev.begin_.stopPin ch.val level us) : (pinOf ch y.safe.stop1 y.safe.stop2).high = level ∧
      y.bit Reg.SAFE_IN ch.val = !level ∧ Alters [.safe] [Reg.SAFE_IN] s.dev.begin_ y := by
    rw [hy, heq]
    dsimp only
    split
    · exact ⟨hhigh, hbit, htake.part (alters_safe _ _) (by decide)⟩
    · exact ⟨hhigh, hbit, htake⟩
  obtain ⟨hpin, hin, halters⟩ := hshows _ rfl
  refine gives_step rfl rfl halters (by decide) fun t ht _ => ⟨?_, ?_⟩
  · rw [show t.dev.safe = _ from ht.parts .safe, hpin]
  · exact (ht.bit Reg.SAFE_IN _ rfl rfl).trans hin

/-! ## A valid press (R393) -/

/-- Pin 1's rise ends a valid press, and no stuck pin was reported. -/
structure ValidPress (s : State) (us : Nat) : Prop where
  valid : { s.dev.safe with restart1 := { s.dev.safe.restart1 with high := true, rose := us } }.validPress = true
  low : s.dev.safe.restart1.high = false
  high : s.dev.safe.restart2.high = true
  unheld : s.dev.flag F.SAFE_STAT_RESTART_HELD = false
  running : s.dev.safe.running = true

/-- What a valid press acts on: the part as it was but for the pin and the flags that show it. -/
structure Pressed (s : State) (x : Dev) : Prop where
  alters : Alters [.safe] [Reg.SAFE_IN, Reg.SAFE_STAT] s.dev.begin_ x
  stat : ∀ f : Fld, f.addr = Reg.SAFE_STAT → f.lo + f.width ≤ 2 ∨ 3 ≤ f.lo → x.fld f = s.dev.fld f
  running : x.safe.running = true
  stops : x.stopsHigh = s.dev.stopsHigh
  switches : x.safe.switches = s.dev.safe.switches
  detected : x.safe.detected = s.dev.safe.detected
  active : s.dev.safe.active = 0 → x.safe.active = 0

theorem takeRestart_rise (z : SafeSt) (us : Nat) :
    z.takeRestart 0 true us = { z with restart1 := { z.restart1 with high := true, rose := us } } := by
  have hfresh : z.freshPress true = z := by
    refine if_neg ?_
    rw [Bool.not_true, Bool.and_false]
    exact Bool.false_ne_true
  unfold SafeSt.takeRestart
  rw [hfresh]
  simp only [Bool.not_true, Bool.false_and, Bool.or_false]
  rfl

theorem persist_false_active {x : Dev} (c : Nat) (h : x.safe.active = 0) : (x.persist c false).safe.active = 0 := by
  show clrBit x.safe.active c = 0
  unfold clrBit
  rw [h]
  split
  · exact Nat.zero_sub _
  · rfl

theorem restartPin_valid {us : Nat} (h : ValidPress s us) : ∃ x, Pressed s x ∧ s.dev.begin_.restartPin 0 true us = x.pressed := by
  obtain ⟨hvalid, hlow, hhigh, hunheld, hrun⟩ := h
  have hsafe : s.dev.begin_.safe.takeRestart 0 true us =
      { s.dev.safe with restart1 := { s.dev.safe.restart1 with high := true, rose := us } } := takeRestart_rise _ us
  have htake := alters_takeRestart s.dev.begin_ 0 true us
  have hkept : (s.dev.begin_.takeRestart 0 true us).safe.running = true ∧ (s.dev.begin_.takeRestart 0 true us).stopsHigh = s.dev.stopsHigh ∧
      (s.dev.begin_.takeRestart 0 true us).safe.switches = s.dev.safe.switches ∧
      (s.dev.begin_.takeRestart 0 true us).safe.detected = s.dev.safe.detected ∧
      (s.dev.safe.active = 0 → (s.dev.begin_.takeRestart 0 true us).safe.active = 0) := by
    unfold Dev.takeRestart
    rw [hsafe]
    dsimp only
    split
    · exact ⟨hrun, rfl, rfl, rfl, persist_false_active _⟩
    · exact ⟨hrun, rfl, rfl, rfl, id⟩
  have heq := restartPin_eq s.dev.begin_ 0 true us
  rw [hsafe] at heq
  dsimp only at heq
  generalize s.dev.begin_.takeRestart 0 true us = y at *
  have hpress : ((true && s.dev.safe.restart2.high && !(s.dev.begin_.safe.restart1.high && s.dev.begin_.safe.restart2.high)) = true) := by
    rw [show s.dev.begin_.safe = s.dev.safe from rfl, hlow, hhigh]; rfl
  have hheld : y.flag F.SAFE_STAT_RESTART_HELD = false := (htake.flag (by decide)).trans hunheld
  rw [if_pos hpress, hvalid, hheld, if_pos (show (true && !false) = true from rfl)] at heq
  obtain ⟨hr, hs, hw, hd, ha⟩ := hkept
  refine ⟨_, ⟨(htake.mono (fun _ h => h) (by decide)).trans ((alters_unheld y).mono (by decide) (by decide)), fun f haddr hf => ?_, hr, hs, hw, hd, ha⟩, heq⟩
  exact (Dev.fld_setFlag_apart y F.SAFE_STAT_RESTART_HELD f false (by decide) (.inr hf)).trans (htake.fld (by rw [haddr]; decide))

theorem Pressed.lock {x : Dev} (h : Pressed s x) : x.quenchLock = s.dev.quenchLock :=
  congrArg (· == 1) (h.stat F.SAFE_STAT_LOCK rfl (by decide))

theorem gives_pressRelease {us : Nat} (h : ValidPress s us) (hlock : s.dev.quenchLock = true) (hstops : s.dev.stopsHigh = true)
    (hok : s.dev.safe.switches.all SafeSwitch.ok = true) (hactive : s.dev.safe.active = 0) (hdet : s.dev.safe.detected = 0)
    (hpll : s.dev.locked = true) (hfault : s.dev.flag F.BLW_STAT_E_FAULT = false) :
    Gives (.restartInputChange 0 true us) s fun t => t.dev.quenchLock = false ∧ t.dev.reg Reg.SAFE_CAUSE = 0x001F0000#32 ∧ t.dev.aState = 1 ∧
      (s.dev.fnB = true → t.dev.bState = 2) ∧ Counts C.SAFE_RESTART_CNT 1 s t ∧ t.dev.bit Reg.SAFE_EVT 1 = true := by
  obtain ⟨x, hx, heq⟩ := restartPin_valid h
  have hclear : x.causesClear = true := by
    have hpllx : x.locked = true := (hx.alters.flag (by decide)).trans hpll
    have hfaultx : x.flag F.BLW_STAT_E_FAULT = false := (hx.alters.flag (by decide)).trans hfault
    unfold Dev.causesClear
    rw [hx.stops, hx.switches, hx.detected, hx.active hactive, hpllx, hfaultx, hstops, hok, hdet]
    rfl
  have hfn : x.fnB = s.dev.fnB := hx.alters.fnB (by decide) (congrArg (· == 1) (hx.stat F.SAFE_STAT_COMMISSIONED rfl (by decide)))
  have hcnt : x.cnt C.SAFE_RESTART_CNT = s.dev.cnt C.SAFE_RESTART_CNT := congrArg BitVec.toNat (hx.alters.reg Reg.SAFE_RESTART_CNT (by decide))
  have hwork : x.pressed = x.releaseLock := by
    unfold Dev.pressed
    rw [hx.running, hx.lock, hlock, hclear]
    rfl
  obtain ⟨hreleased, hb, hcount, hevt⟩ := releaseLock_shows x
  have ht := onDev_settled s fun _ d => d.restartPin 0 true us
  rw [heq, hwork] at ht
  refine ⟨_, rfl, (ht.flag F.SAFE_STAT_LOCK rfl rfl).trans hreleased.lock, (ht.reg _ rfl rfl).trans hreleased.cause,
    (ht.fld F.SAFE_STAT_A_STATE rfl rfl).trans hreleased.ready, fun hB => (ht.fld F.SAFE_STAT_B_STATE rfl rfl).trans (hb (hfn.trans hB)), ?_, ?_⟩
  · exact (ht.cnt C.SAFE_RESTART_CNT rfl rfl).trans (by rw [hcount, hcnt])
  · exact (ht.bit Reg.SAFE_EVT _ rfl rfl).trans hevt

theorem gives_refusedPress {us : Nat} (h : ValidPress s us) (hlock : s.dev.quenchLock = true) (hstops : s.dev.stopsHigh = false) :
    Gives (.restartInputChange 0 true us) s fun t => (t.dev.quenchLock = true ∧ t.dev.bit Reg.SAFE_EVT 8 = true) ∧
      Leaves [.safe] [Reg.SAFE_IN, Reg.SAFE_STAT, Reg.SAFE_EVT] s t := by
  obtain ⟨x, hx, heq⟩ := restartPin_valid h
  have hclear : x.causesClear = false := by
    unfold Dev.causesClear
    rw [hx.stops, hstops]
    simp only [Bool.false_and]
  have hwork : x.pressed = x.sticky Reg.SAFE_EVT 8 Ev.restartRefused := by
    unfold Dev.pressed
    rw [hx.running, hx.lock, hlock, hclear]
    rfl
  have hsticky : Alters [] [Reg.SAFE_EVT] x (x.sticky Reg.SAFE_EVT 8 Ev.restartRefused) := (Alters.refl x).sticky _ _ _ (by decide)
  refine gives_step rfl (heq.trans hwork) ((hx.alters.mono (fun _ h => h) (by decide)).trans (hsticky.mono (by decide) (by decide))) (by decide)
    fun t ht _ => ⟨(ht.flag F.SAFE_STAT_LOCK rfl rfl).trans ((hsticky.flag (by decide)).trans (hx.lock.trans hlock)), ?_⟩
  exact (ht.bit Reg.SAFE_EVT _ rfl rfl).trans (bit_sticky_self x Reg.SAFE_EVT Ev.restartRefused (n := 8) (by decide))

theorem gives_interlock {us : Nat} (h : ValidPress s us) (hlock : s.dev.quenchLock = false) (hb : s.dev.bState = 3) :
    Gives (.restartInputChange 0 true us) s fun t => t.dev.bState = 4 := by
  obtain ⟨x, hx, heq⟩ := restartPin_valid h
  have hwork : x.pressed = x.setB 4 := by
    unfold Dev.pressed
    rw [hx.running, hx.lock, hlock, show x.bState = 3 from (hx.stat F.SAFE_STAT_B_STATE rfl (by decide)).trans hb]
    rfl
  have ht := onDev_settled s fun _ d => d.restartPin 0 true us
  rw [heq, hwork] at ht
  exact ⟨_, rfl, (ht.fld F.SAFE_STAT_B_STATE rfl rfl).trans (bState_setB x 4 (by decide))⟩

/-- A pin is stuck low: the press in progress is invalid, and the stuck pin is shown. -/
def Dev.spoilPress (d : Dev) : Dev := { d with safe := { d.safe with pressBad := true } }.setFlag F.SAFE_STAT_RESTART_HELD true

theorem alters_spoilPress (x : Dev) : Alters [.safe] [Reg.SAFE_STAT] x x.spoilPress :=
  ((Alters.refl x).part (alters_safe _ _) (by decide)).setFlag F.SAFE_STAT_RESTART_HELD true (by decide)

theorem gives_restartStuck (h : s.dev.safe.restart1.high = false ∨ s.dev.safe.restart2.high = false) : Gives .restartStuck s fun t =>
    (t.dev.flag F.SAFE_STAT_RESTART_HELD = true ∧ t.dev.bit Reg.SAFE_EVT 7 = true) ∧ Leaves [.safe] [Reg.SAFE_STAT, Reg.SAFE_EVT] s t := by
  have hlow : ¬(s.dev.begin_.safe.restart1.high && s.dev.begin_.safe.restart2.high) = true := by
    show ¬(s.dev.safe.restart1.high && s.dev.safe.restart2.high) = true
    rcases h with h | h
    · rw [h, Bool.false_and]; exact Bool.false_ne_true
    · rw [h, Bool.and_false]; exact Bool.false_ne_true
  have hheld : s.dev.begin_.spoilPress.flag F.SAFE_STAT_RESTART_HELD = true := Dev.flag_setFlag_self _ F.SAFE_STAT_RESTART_HELD true (by decide) rfl
  have hsticky (x : Dev) : Alters [] [Reg.SAFE_EVT] x (x.sticky Reg.SAFE_EVT 7 Ev.restartStuck) := (Alters.refl x).sticky _ _ _ (by decide)
  refine gives_step (e := s.dev.begin_.spoilPress.sticky Reg.SAFE_EVT 7 Ev.restartStuck) rfl (if_neg hlow)
    (((alters_spoilPress _).mono (fun _ h => h) (by decide)).trans ((hsticky _).mono (by decide) (by decide))) (by decide) fun t ht _ => ⟨?_, ?_⟩
  · exact (ht.flag F.SAFE_STAT_RESTART_HELD rfl rfl).trans (((hsticky _).flag (by decide)).trans hheld)
  · exact (ht.bit Reg.SAFE_EVT _ rfl rfl).trans (bit_sticky_self _ Reg.SAFE_EVT Ev.restartStuck (n := 7) (by decide))

/-! ## Test pulses (R388, R389) -/

/-- A switch as the settled work left it. -/
theorem Settled.switch {t : State} {e : Dev} (h : Settled s e t) (j : Nat) : t.dev.switch j = e.switch j :=
  congrArg (fun z : SafeSt => z.switches.getD j {}) (h.parts .safe)

/-- A test of a switch is due. -/
def Dev.markDue (d : Dev) (i : Nat) : Dev := d.setSwitch i { d.switch i with due := true }

theorem gives_testADue {sw : Fin 4} (hlen : s.dev.safe.switches.length = 4) (hsw : sw.val < 2) (hon : s.dev.aOn = true)
    (htest : (s.dev.switch sw.val).testing = false) : Gives (.testPulseDue sw) s fun t =>
    t.dev.switch sw.val = { s.dev.switch sw.val with due := true } ∧ Leaves [.safe] [Reg.SAFE_IN] s t := by
  have hgo : ((if sw.val < 2 then s.dev.begin_.aOn else s.dev.begin_.bOn) && !(s.dev.begin_.switch sw.val).testing) = true := by
    rw [if_pos hsw, show s.dev.begin_.aOn = true from hon, show (s.dev.begin_.switch sw.val).testing = false from htest]
    rfl
  refine gives_step rfl ((if_pos hgo).trans (if_neg fun h => absurd h.1 (by omega))) (alters_setSwitch _ _ _) (by decide) fun t ht _ => ?_
  exact (ht.switch _).trans (switch_setSwitch_self _ _ (by show _ < s.dev.safe.switches.length; omega))

/-- A test pulse of output B begins: the switch's gate is off, and the output is in TEST. -/
theorem beginTest_shows {x : Dev} {i : Nat} (h2 : 2 ≤ i) (hlen : i < x.safe.switches.length) :
    ((x.beginTest i).switch i).gate = false ∧ ((x.beginTest i).switch i).testing = true ∧ (x.beginTest i).bState = 5 ∧
    Alters [.safe] [Reg.SAFE_IN, Reg.SAFE_STAT] x (x.beginTest i) := by
  have hgate := gate_setGate_off x i
  have hlen' : i < (x.setGate i false).safe.switches.length := by rw [length_setGate]; exact hlen
  have halters := alters_setGate x i false
  have heq : x.beginTest i = ((x.setGate i false).setSwitch i { (x.setGate i false).switch i with testing := true, due := false }).setFld
      F.SAFE_STAT_B_STATE 5 := if_neg (by omega)
  rw [heq]
  generalize x.setGate i false = y at *
  have hset := switch_setSwitch_self y { y.switch i with testing := true, due := false } hlen'
  refine ⟨(congrArg SafeSwitch.gate hset).trans hgate, congrArg SafeSwitch.testing hset, Dev.fld_setFld_self _ F.SAFE_STAT_B_STATE 5 (by decide), ?_⟩
  exact ((halters.trans (alters_setSwitch y i _)).mono (fun _ h => h) (by decide)).setFld F.SAFE_STAT_B_STATE 5 (by decide)

theorem gives_testBDue {sw : Fin 4} (hlen : s.dev.safe.switches.length = 4) (hsw : 2 ≤ sw.val) (hb : s.dev.bState = 4)
    (htest : (s.dev.switch sw.val).testing = false) : Gives (.testPulseDue sw) s fun t =>
    ((t.dev.switch sw.val).gate = false ∧ (t.dev.switch sw.val).testing = true ∧ t.dev.bState = 5) ∧
      Leaves [.safe] [Reg.SAFE_IN, Reg.SAFE_STAT] s t := by
  have hgo : ((if sw.val < 2 then s.dev.begin_.aOn else s.dev.begin_.bOn) && !(s.dev.begin_.switch sw.val).testing) = true := by
    rw [if_neg (by omega), show s.dev.begin_.bOn = true by unfold Dev.bOn; rw [show s.dev.begin_.bState = 4 from hb]; rfl,
      show (s.dev.begin_.switch sw.val).testing = false from htest]
    rfl
  have hdue : Alters [.safe] [Reg.SAFE_IN] s.dev.begin_ (s.dev.begin_.markDue sw.val) := alters_setSwitch _ _ _
  have hbx : (s.dev.begin_.markDue sw.val).bState = 4 :=
    (hdue.fld (f := F.SAFE_STAT_B_STATE) (by decide)).trans hb
  have hlenx : (s.dev.begin_.markDue sw.val).safe.switches.length = 4 :=
    (length_setSwitch _ _ _).trans hlen
  obtain ⟨hgate, htesting, hstate, halters⟩ := beginTest_shows (x := s.dev.begin_.markDue sw.val)
    hsw (by rw [hlenx]; exact sw.isLt)
  refine gives_step (e := (s.dev.begin_.markDue sw.val).beginTest sw.val) rfl ((if_pos hgo).trans (if_pos (show 2 ≤ sw.val ∧ (s.dev.begin_.markDue sw.val).bState = 4 from ⟨hsw, hbx⟩)))
    ((hdue.mono (fun _ h => h) (by decide)).trans halters) (by decide) fun t ht _ => ⟨?_, ?_, ?_⟩
  · rw [ht.switch, hgate]
  · rw [ht.switch, htesting]
  · exact (ht.fld F.SAFE_STAT_B_STATE rfl rfl).trans hstate

/-- A test of output A, which is ON, has ended: its switch is on again and output A is ON. -/
def Dev.testAOver (d : Dev) (i : Nat) : Dev :=
  ((d.setSwitch i { d.switch i with testing := false }).setGate i true).setFld F.SAFE_STAT_A_STATE 2

theorem endTest_eq {d : Dev} {i : Nat} (hi : i < 2) (htest : (d.switch i).testing = true) (hon : d.aOn = true) (offSeen : Bool) :
    d.endTest i offSeen true = if offSeen then (d.testAOver i).setSwitch i { (d.testAOver i).switch i with since := 0 }
      else (d.testAOver i).testFail := by
  have h2 : ¬2 ≤ i := by omega
  unfold Dev.endTest
  simp only [htest, hon, hi, h2, Bool.not_true, Bool.false_eq_true, if_true, if_false, false_and, Bool.or_true, Bool.and_true]
  rfl

theorem testAOver_shows {d : Dev} {i : Nat} (h : i < d.safe.switches.length) : ((d.testAOver i).switch i).gate = true ∧
    ((d.testAOver i).switch i).testing = false ∧ (d.testAOver i).aState = 2 ∧ (d.testAOver i).safe.switches.length = d.safe.switches.length ∧
    Alters [.safe] [Reg.SAFE_IN, Reg.SAFE_STAT] d (d.testAOver i) := by
  have hset := switch_setSwitch_self d { d.switch i with testing := false } h
  have hlen : i < (d.setSwitch i { d.switch i with testing := false }).safe.switches.length := by rw [length_setSwitch]; exact h
  have hlen' := length_setSwitch d i { d.switch i with testing := false }
  have halters := alters_setSwitch d i { d.switch i with testing := false }
  unfold Dev.testAOver
  generalize d.setSwitch i { d.switch i with testing := false } = x at *
  have hon : (x.setGate i true).switch i = _ := switch_setSwitch_self x _ hlen
  refine ⟨congrArg SafeSwitch.gate hon, (congrArg SafeSwitch.testing hon).trans (congrArg SafeSwitch.testing hset),
    Dev.fld_setFld_self _ F.SAFE_STAT_A_STATE 2 (by decide), (length_setGate x i true).trans hlen', ?_⟩
  exact ((halters.trans (alters_setGate x i true)).mono (fun _ h => h) (by decide)).setFld F.SAFE_STAT_A_STATE 2 (by decide)

theorem gives_testPassed {sw : Fin 4} (hlen : s.dev.safe.switches.length = 4) (htest : (s.dev.switch sw.val).testing = true) (hsw : sw.val < 2)
    (hon : s.dev.aOn = true) : Gives (.testPulseEnd sw true true) s fun t =>
    ((t.dev.switch sw.val).gate = true ∧ (t.dev.switch sw.val).testing = false ∧ (t.dev.switch sw.val).since = 0 ∧ t.dev.aState = 2) ∧
      Leaves [.safe] [Reg.SAFE_IN, Reg.SAFE_STAT] s t := by
  have hwork := endTest_eq (d := s.dev.begin_) hsw htest hon true
  rw [if_pos rfl] at hwork
  obtain ⟨hgate, htesting, hstate, hlenx, halters⟩ := testAOver_shows (d := s.dev.begin_) (i := sw.val)
    (by show _ < s.dev.safe.switches.length; omega)
  generalize s.dev.begin_.testAOver sw.val = x at *
  have hset := switch_setSwitch_self x (i := sw.val) { x.switch sw.val with since := 0 }
    (by rw [hlenx]; show _ < s.dev.safe.switches.length; omega)
  have hlast := alters_setSwitch x sw.val { x.switch sw.val with since := 0 }
  refine gives_step rfl hwork (halters.trans (hlast.mono (fun _ h => h) (by decide))) (by decide) fun t ht _ => ⟨?_, ?_, ?_, ?_⟩
  · rw [ht.switch, hset]; exact hgate
  · rw [ht.switch, hset]; exact htesting
  · rw [ht.switch, hset]
  · exact (ht.fld F.SAFE_STAT_A_STATE rfl rfl).trans ((hlast.fld (f := F.SAFE_STAT_A_STATE) (by decide)).trans hstate)

theorem gives_testFailed {sw : Fin 4} (hlen : s.dev.safe.switches.length = 4) (htest : (s.dev.switch sw.val).testing = true) (hsw : sw.val < 2)
    (hon : s.dev.aOn = true) : Gives (.testPulseEnd sw false true) s fun t =>
    (bitAt t.dev.safe.detected Cause.test = true ∧ Counts C.SAFE_TEST_FAIL_CNT 1 s t ∧ t.dev.bit Reg.SAFE_EVT 6 = true) ∧
      Leaves [.safe] [Reg.SAFE_IN, Reg.SAFE_STAT, Reg.SAFE_EVT, Reg.SAFE_TEST_FAIL_CNT, C.SAFE_TEST_FAIL_CNT.sat] s t := by
  have hwork := endTest_eq (d := s.dev.begin_) hsw htest hon false
  rw [if_neg Bool.false_ne_true] at hwork
  obtain ⟨-, -, -, -, halters⟩ := testAOver_shows (d := s.dev.begin_) (i := sw.val) (by show _ < s.dev.safe.switches.length; omega)
  generalize s.dev.begin_.testAOver sw.val = x at *
  obtain ⟨hdet, hcnt, hevt⟩ := testFail_shows x
  have hbefore : x.cnt C.SAFE_TEST_FAIL_CNT = s.dev.cnt C.SAFE_TEST_FAIL_CNT := congrArg BitVec.toNat (halters.reg Reg.SAFE_TEST_FAIL_CNT (by decide))
  refine gives_step rfl hwork ((halters.mono (fun _ h => h) (by decide)).trans ((alters_testFail x).mono (fun _ h => h) (by decide))) (by decide)
    fun t ht _ => ⟨?_, ?_, ?_⟩
  · rw [show t.dev.safe = x.testFail.safe from ht.parts .safe, hdet]
    exact bitAt_orBit _ _
  · exact (ht.cnt C.SAFE_TEST_FAIL_CNT rfl rfl).trans (by rw [hcnt, hbefore])
  · exact (ht.bit Reg.SAFE_EVT _ rfl rfl).trans hevt

/-! ## The protective field (R382 to R385) -/

/-- The island notes a copy's result and its row (R382). -/
def Dev.noteCopy (d : Dev) (x : PixelCopy) : Dev :=
  let results := sput (1024 * x.row + x.pos) (d.infringes x) d.safe.results
  let batch := if d.safe.batch.contains x.row then d.safe.batch else d.safe.batch ++ [x.row]
  { d with safe := { d.safe with results := results, batch := batch } }

/-- The first copy on its way has arrived. -/
def Dev.popCopy (d : Dev) (rest : List PixelCopy) : Dev := { d with safe := { d.safe with copies := rest } }

theorem gives_pixelCopy (ok : Bool) {x : PixelCopy} {rest : List PixelCopy} (hcopies : s.dev.safe.copies = x :: rest) :
    Gives (.pixelCopyReceived ok) s fun t => (t.dev.safe.copies = rest ∧
      ((ok && s.dev.fnB) = true → slook (1024 * x.row + x.pos) t.dev.safe.results = some (s.dev.infringes x)) ∧
      ((ok && s.dev.fnB) = false → t.dev.safe = { s.dev.safe with copies := rest })) ∧ Leaves [.safe] [] s t := by
  have heq : s.dev.begin_.copyReceived ok = if ok && s.dev.fnB then (s.dev.begin_.popCopy rest).noteCopy x else s.dev.begin_.popCopy rest := by
    unfold Dev.copyReceived
    rw [show s.dev.begin_.safe.copies = x :: rest from hcopies]
    rfl
  have halters : Alters [.safe] [] s.dev.begin_ (s.dev.begin_.copyReceived ok) := by
    rw [heq]
    have hpop : Alters [.safe] [] s.dev.begin_ (s.dev.begin_.popCopy rest) := alters_safe _ _
    exact .ite (fun _ => hpop.trans (alters_safe _ _)) fun _ => hpop
  refine gives_step rfl rfl halters (by decide) fun t ht _ => ?_
  have hsafe : t.dev.safe = (s.dev.begin_.copyReceived ok).safe := ht.parts .safe
  rw [heq] at hsafe
  cases hgo : ok && s.dev.fnB with
  | true =>
    rw [hgo, if_pos rfl] at hsafe
    rw [hsafe]
    exact ⟨rfl, fun _ => (slook_sput ..).trans (if_pos rfl), fun h => absurd h (by decide)⟩
  | false =>
    rw [hgo, if_neg Bool.false_ne_true] at hsafe
    rw [hsafe]
    exact ⟨rfl, fun h => absurd h (by decide), fun _ => rfl⟩

/-- The batch of rows is closed. -/
def Dev.closeBatch (d : Dev) : Dev := { d with safe := { d.safe with batch := [] } }

theorem batchClose_eq (d : Dev) (hfn : d.fnB = true) {bad : Bool} (hbad : (d.safe.batch.any fun r => decide (0 < d.rowRuns false r)) = bad) :
    (if d.fnB then
      let bad := d.safe.batch.any fun r => decide (0 < d.rowRuns false r)
      let d := { d with safe := { d.safe with batch := [] } }
      if bad then d.infringe else d
    else d) = if bad then d.closeBatch.infringe else d.closeBatch := by
  rw [hfn, if_pos rfl]
  dsimp only
  rw [hbad]
  rfl

/-- The field is infringed. -/
def Dev.markInfringed (d : Dev) : Dev := { d with safe := { d.safe with infringed := true } }

theorem infringe_eq {d : Dev} (h : 3 ≤ d.bState) : d.infringe = d.markInfringed.fieldOff.bump C.SAFE_INFR_CNT := if_pos h

theorem gives_infringed (hfn : s.dev.fnB = true) (hbad : ∃ r ∈ s.dev.safe.batch, 0 < s.dev.rowRuns false r) (hb : 3 ≤ s.dev.bState) :
    Gives .fieldBatchClose s fun t => (t.dev.bState = 2 ∧ t.dev.safe.clearFrames = 0 ∧ t.dev.safe.infringed = true ∧
      Counts C.SAFE_INFR_CNT 1 s t) ∧
      Leaves [.safe] (outputRegs ++ [Reg.SAFE_INFR_CNT, C.SAFE_INFR_CNT.sat]) s t := by
  have hany : (s.dev.begin_.safe.batch.any fun r => decide (0 < s.dev.begin_.rowRuns false r)) = true := by
    obtain ⟨r, hr, hruns⟩ := hbad
    exact List.any_eq_true.mpr ⟨r, hr, decide_eq_true hruns⟩
  have hwork := batchClose_eq s.dev.begin_ hfn hany
  rw [if_pos rfl, infringe_eq (d := s.dev.begin_.closeBatch) hb] at hwork
  have hmark : Alters [.safe] [] s.dev.begin_ s.dev.begin_.closeBatch.markInfringed := (alters_safe s.dev.begin_ _).trans (alters_safe _ _)
  have hinfr : s.dev.begin_.closeBatch.markInfringed.safe.infringed = true := rfl
  generalize s.dev.begin_.closeBatch.markInfringed = x at *
  have hoff := alters_fieldOff x
  have hcount : Alters [] [Reg.SAFE_INFR_CNT, C.SAFE_INFR_CNT.sat] x.fieldOff (x.fieldOff.bump C.SAFE_INFR_CNT) :=
    (Alters.refl _).bump C.SAFE_INFR_CNT (by decide) (by decide) rfl
  have hclear : x.fieldOff.safe.clearFrames = 0 := rfl
  have hrest := (outputA_fieldOff x).rest
  unfold OutputsOnly at hrest
  have hstate : x.fieldOff.bState = 2 := bState_setB x 2 (by decide)
  have hbefore : x.fieldOff.cnt C.SAFE_INFR_CNT = s.dev.cnt C.SAFE_INFR_CNT :=
    congrArg BitVec.toNat ((hoff.reg Reg.SAFE_INFR_CNT (by decide)).trans (hmark.reg _ (by decide)))
  have hinfrx : x.fieldOff.safe.infringed = true := (congrArg SafeSt.infringed hrest).trans hinfr
  generalize x.fieldOff = y at *
  refine gives_step rfl hwork ((hmark.mono (fun _ h => h) (by decide)).trans ((hoff.mono (fun _ h => h) (by decide)).trans
    (hcount.mono (by decide) (by decide)))) (by decide) fun t ht _ => ⟨?_, ?_, ?_, ?_⟩
  · exact (ht.fld F.SAFE_STAT_B_STATE rfl rfl).trans ((hcount.fld (f := F.SAFE_STAT_B_STATE) (by decide)).trans hstate)
  · exact (congrArg SafeSt.clearFrames (show t.dev.safe = _ from ht.parts .safe)).trans
      ((congrArg SafeSt.clearFrames (show _ = y.safe from hcount.same .safe (by decide))).trans hclear)
  · exact (congrArg SafeSt.infringed (show t.dev.safe = _ from ht.parts .safe)).trans
      ((congrArg SafeSt.infringed (show _ = y.safe from hcount.same .safe (by decide))).trans hinfrx)
  · refine (ht.cnt C.SAFE_INFR_CNT rfl rfl).trans ?_
    rw [← hbefore]
    exact Dev.cnt_bumpBy _ _ _ (by decide)

theorem gives_notInfringed (hfn : s.dev.fnB = true) (hgood : ∀ r ∈ s.dev.safe.batch, s.dev.rowRuns false r = 0) :
    Gives .fieldBatchClose s fun t => t.dev.safe = { s.dev.safe with batch := [] } ∧ Leaves [.safe] [] s t := by
  have hany : (s.dev.begin_.safe.batch.any fun r => decide (0 < s.dev.begin_.rowRuns false r)) = false := by
    refine List.any_eq_false.mpr fun r hr hruns => ?_
    have hpos : 0 < s.dev.rowRuns false r := of_decide_eq_true hruns
    rw [hgood r hr] at hpos
    exact absurd hpos (Nat.lt_irrefl 0)
  have hwork := batchClose_eq s.dev.begin_ hfn hany
  rw [if_neg Bool.false_ne_true] at hwork
  exact gives_step rfl hwork (alters_safe _ _) (by decide) fun t ht _ => ht.parts .safe

/-- Output B off, from ON or TEST: both its gates are off. -/
theorem gates_fieldOff {x : Dev} (h : x.bOn = true) : ((x.fieldOff).switch 2).gate = false ∧ ((x.fieldOff).switch 3).gate = false := by
  have heq : x.setB 2 = ((x.setFld F.SAFE_STAT_B_STATE 2).setPair2 true false).sticky Reg.SAFE_EVT 4 Ev.fieldOff := by
    unfold Dev.setB
    dsimp only
    rw [h]
    rfl
  obtain ⟨h2, h3⟩ := gates_setPair2_off (x.setFld F.SAFE_STAT_B_STATE 2) true
  have hswitch (j : Nat) : x.fieldOff.switch j = ((x.setFld F.SAFE_STAT_B_STATE 2).setPair2 true false).switch j := by
    have hsafe : (x.setB 2).safe = ((x.setFld F.SAFE_STAT_B_STATE 2).setPair2 true false).safe := by rw [heq, Dev.sticky_safe]
    show (x.setB 2).safe.switches.getD j {} = _
    rw [hsafe]
    rfl
  exact ⟨(congrArg SafeSwitch.gate (hswitch 2)).trans h2, (congrArg SafeSwitch.gate (hswitch 3)).trans h3⟩

theorem gives_frameMissing (hfn : s.dev.fnB = true) (hb : 3 ≤ s.dev.bState) : Gives .frameMissingTimeout s fun t =>
    (t.dev.bState = 2 ∧ t.dev.safe.clearFrames = 0 ∧ (s.dev.bOn = true → (t.dev.switch 2).gate = false ∧ (t.dev.switch 3).gate = false)) ∧
      Leaves [.safe] outputRegs s t := by
  have hgo : (s.dev.begin_.fnB && decide (3 ≤ s.dev.begin_.bState)) = true := by
    rw [show s.dev.begin_.fnB = true from hfn, decide_eq_true (show 3 ≤ s.dev.begin_.bState from hb)]
    rfl
  refine gives_step rfl (if_pos hgo) (alters_fieldOff _) (by decide) fun t ht _ => ⟨?_, ?_, fun hon => ?_⟩
  · exact (ht.fld F.SAFE_STAT_B_STATE rfl rfl).trans (bState_setB s.dev.begin_ 2 (by decide))
  · exact (congrArg SafeSt.clearFrames (show t.dev.safe = _ from ht.parts .safe)).trans rfl
  · rw [ht.switch, ht.switch]
    exact gates_fieldOff (x := s.dev.begin_) hon

end

/-- Settles O46: each input, test and infringement by its own rule above. -/
theorem inputsTestsAndFieldAct : Obligations.InputsTestsAndFieldAct := by
  unfold Obligations.InputsTestsAndFieldAct
  intro s inRegs
  refine ⟨fun ch level us => ⟨?_, ?_⟩, fun us hvalid hlow hhigh hunheld hrun => ?_, fun h => ?_, fun sw => ?_, fun ok x rest h => ?_, fun hfn => ?_⟩
  · exact gives_imp (gives_stopInput ch level us) fun t ⟨⟨h1, h2⟩, hl⟩ => ⟨h1, h2, hl⟩
  · exact gives_imp (gives_restartInput ch level us) fun t ⟨⟨h1, h2⟩, hl⟩ => ⟨h1, h2, hl⟩
  · have hpress : ValidPress s us := ⟨hvalid, hlow, hhigh, hunheld, hrun⟩
    exact ⟨gives_pressRelease hpress, fun hlock hstops => gives_imp (gives_refusedPress hpress hlock hstops) fun t ⟨⟨h1, h2⟩, hl⟩ => ⟨h1, h2, hl⟩,
      gives_interlock hpress⟩
  · exact gives_imp (gives_restartStuck h) fun t ⟨⟨h1, h2⟩, hl⟩ => ⟨h1, h2, hl⟩
  · intro x hlen
    refine ⟨gives_testADue hlen, fun h2 hb ht => ?_, fun ht hsw hon => ⟨?_, ?_⟩⟩
    · exact gives_imp (gives_testBDue hlen h2 hb ht) fun t ⟨⟨h1, h2, h3⟩, hl⟩ => ⟨h1, h2, h3, hl⟩
    · exact gives_imp (gives_testPassed hlen ht hsw hon) fun t ⟨⟨h1, h2, h3, h4⟩, hl⟩ => ⟨h1, h2, h3, h4, hl⟩
    · exact gives_imp (gives_testFailed hlen ht hsw hon) fun t ⟨⟨h1, h2, h3⟩, hl⟩ => ⟨h1, h2, h3, hl⟩
  · exact gives_imp (gives_pixelCopy ok h) fun t ⟨⟨h1, h2, h3⟩, hl⟩ => ⟨h1, h2, h3, hl⟩
  · intro fieldRegs
    refine ⟨fun hbad hb => ?_, gives_notInfringed hfn, fun hb => ?_⟩
    · exact gives_imp (gives_infringed hfn hbad hb) fun t ⟨⟨h1, h2, h3, h4⟩, hl⟩ => ⟨h1, h2, h3, h4, hl⟩
    · exact gives_imp (gives_frameMissing hfn hb) fun t ⟨⟨h1, h2, h3⟩, hl⟩ => ⟨h1, h2, h3, hl⟩

end Sys2Proof.Machine
end

section
/-! SUPPORT. A fast round that enters thermal safe state (R544, R549). -/

namespace Sys2Proof.Machine

/-- Housekeeping has power, fast rounds run without the crystal trim, and two rounds in a row were at 127 °C or above. -/
def hotTwice : Dev :=
  let d := ((State.reset.dev.setBit (Reg.PWR_DOM_ON 4) 16 true).setFlag F.THM_STAT_FAST_ROUND true).setFlag F.TIME_CTL_XO_COMP_EN false
  { d with hk := { d.hk with hotRounds := 2 } }

/-- A hot-spot sensor reads 127 °C. -/
def hotSpot : BitVec 16 × Nat := (2032#16, 0)

/-- The third such round enters thermal safe state, and with it `SAFE_MIN` (R549, R559). -/
theorem pwrStat_thirdHotRound : ∃ t, exec (.fastRound (List.replicate 20 hotSpot)) { State.reset with dev := hotTwice } = .next t ∧
    t.dev.reg Reg.PWR_STAT ≠ hotTwice.reg Reg.PWR_STAT := by
  refine ⟨_, rfl, ?_⟩
  rw [onDev_reg _ _ _ (by decide)]
  decide +kernel

/-- Refutes O43: the statement's clause on the fast round names the registers 0x160100 + 4 r of every natural r, of which `PWR_STAT` is one
(r = 16,321); a fast round that enters thermal safe state changes it. -/
theorem not_thermalRoundsAct : ¬ Obligations.ThermalRoundsAct := by
  unfold Obligations.ThermalRoundsAct
  intro h
  obtain ⟨-, hfast, -⟩ := h { State.reset with dev := hotTwice }
  obtain ⟨t, hx, -, -, -, hregion, -⟩ := hfast (List.replicate 20 hotSpot) rfl (by decide +kernel) (by decide +kernel)
  obtain ⟨u, hu, hchanged⟩ := pwrStat_thirdHotRound
  have htu : t = u := Host.Outcome.next.inj (hx.symm.trans hu)
  rw [htu] at hregion
  exact hchanged (hregion 16321)

end Sys2Proof.Machine
end

section
/-! SUPPORT. A chain whose DC stage alone saturates (R532, R535). -/

namespace Sys2Proof.Machine

/-- A chain whose input has fallen: its words were just at −30,000, its mean still at 30,000. -/
def fallenChain : HkChain := { fir := [0, -58514285715, 0, 0], dc := 2 ^ 24 * 30000 }

/-- Housekeeping has power, and chain 4, of preset 0, has settled with its DC stage enabled. -/
def dcFalls : Dev :=
  (((State.reset.dev.setBit (Reg.PWR_DOM_ON 4) 16 true).setFld (F.HK_CHAIN_CFG_PRESET 4) 0).setFlag (F.HK_CHAIN_CFG_DC_EN 4) true).setHkChain 4
    fallenChain

/-- Eighty samples of zero. -/
def quietCodes : List (BitVec 12) := List.replicate 80 0#12

theorem block_fallenChain : (fallenChain.block 0 quietCodes).2 = (-30000, false) := by decide +kernel

/-- The DC stage would give −60,000: the word saturates, and SAT shows it. -/
theorem sat_dcFalls : ∃ t, exec (.hkChainOutput 4 quietCodes) { State.reset with dev := dcFalls } = .next t ∧
    t.dev.flag (F.HK_CHAIN_OUT_SAT 4) = true := by
  refine ⟨_, rfl, ?_⟩
  unfold Dev.flag Dev.fld
  rw [onDev_reg _ _ _ (by decide)]
  decide +kernel

/-- Refutes O42: the statement gives SAT of the word before the DC stage alone; a word that only the DC stage saturates has SAT set. -/
theorem not_convertersReport : ¬ Obligations.ConvertersReport := by
  unfold Obligations.ConvertersReport
  intro h
  obtain ⟨hchain, -⟩ := h { State.reset with dev := dcFalls } (by decide +kernel)
  obtain ⟨-, hsettled⟩ := hchain 4 quietCodes (by decide +kernel) rfl
  obtain ⟨t, hx, -, hsat, -⟩ := hsettled (by decide +kernel)
  obtain ⟨u, hu, hset⟩ := sat_dcFalls
  have htu : t = u := Host.Outcome.next.inj (hx.symm.trans hu)
  have hshown := hset.symm.trans ((congrArg (fun x : State => x.dev.flag (F.HK_CHAIN_OUT_SAT 4)) htu.symm).trans hsat)
  have hblock : (dcFalls.hkChain 4).block (dcFalls.fld (F.HK_CHAIN_CFG_PRESET 4)) quietCodes = fallenChain.block 0 quietCodes := by decide +kernel
  have hnone : ((dcFalls.hkChain 4).block (dcFalls.fld (F.HK_CHAIN_CFG_PRESET 4)) quietCodes).2.2 = false := by
    rw [hblock, block_fallenChain]
  exact absurd (hshown.trans hnone) (by decide)

end Sys2Proof.Machine
end

section
/-! SUPPORT. Host access to device memory (R416 to R419, R423, R431, R432). -/

namespace Sys2Proof.Machine

theorem alters_host (d : Dev) (v : HostSt) : Alters [.host] [] d { d with host := v } := by
  refine (Alters.refl d).direct (fun p hp => ?_) rfl rfl rfl rfl rfl
  cases p with
  | host => exact absurd (List.mem_singleton_self _) hp
  | _ => rfl

/-! ## Reads -/

section
variable {d : Dev}

/-- No stored error and no halt: no beat is suspect. -/
theorem suspectBeats_clean (hf : d.memc.faults = []) (hh : d.memHalted = false) (a n : Nat) : d.suspectBeats a n = [] := by
  unfold Dev.suspectBeats
  rw [hh, hf]
  split
  · rfl
  · rfl

theorem readMem_clean (hf : d.memc.faults = []) (hh : d.memHalted = false) (a n : Nat) : d.readMem a n = (d, false) := by
  unfold Dev.readMem
  rw [suspectBeats_clean hf hh]
  rfl

/-- What the last read of the host returned. -/
def Dev.answerRead (d : Dev) (bs : List Byte) (poison : Bool) : Dev := { d with host := { d.host with lastRead := some ⟨bs, poison⟩ } }

theorem hostRead_clean (hf : d.memc.faults = []) (hh : d.memHalted = false) (mem : List Host.Cell) (a n : Nat) :
    d.hostRead mem a n = (d.answerRead (memRead mem a n) false, false) := by
  unfold Dev.hostRead
  rw [readMem_clean hf hh]
  rfl

/-- One beat of a read. -/
def readStep (x : Dev × Bool) (b : Nat) : Dev × Bool :=
  match x.1.readBeat b with
  | .good => x
  | .corrected die => (x.1.noteCorrected b die, x.2)
  | .bad => (x.1.noteUe b, true)

theorem readMem_eq (d : Dev) (a n : Nat) : d.readMem a n = (d.suspectBeats a n).foldl readStep (d, false) := rfl

/-- An uncorrectable beat stays in the answer. -/
theorem foldl_readStep_bad (l : List Nat) (x : Dev × Bool) (h : x.2 = true) : (l.foldl readStep x).2 = true := by
  induction l generalizing x with
  | nil => exact h
  | cons b l ih =>
    refine ih _ ?_
    unfold readStep
    split
    · exact h
    · exact h
    · rfl

theorem memHalted_of_haltedAt {a : Nat} (h : d.haltedAt a = true) : d.memHalted = true := by
  unfold Dev.haltedAt at h
  unfold Dev.memHalted
  split at h
  · rw [h, Bool.or_true]
  · rw [h, Bool.true_or]

/-- A read that begins in a halted group is uncorrectable (R431, R517). -/
theorem readMem_halted {a n : Nat} (ha : a % 16 = 0) (hn : 0 < n) (h : d.haltedAt a = true) : (d.readMem a n).2 = true := by
  have hbeats : d.suspectBeats a n = (List.range ((a + n - 1) / 16 - a / 16 + 1)).map (a / 16 + ·) := by
    unfold Dev.suspectBeats
    rw [if_neg (by omega), if_pos (memHalted_of_haltedAt h)]
  have hbad : d.readBeat (a / 16) = .bad := by
    unfold Dev.readBeat
    rw [show a / 16 * 16 = a by omega, h]
    rfl
  rw [readMem_eq, hbeats, List.range_succ_eq_map, List.map_cons, List.foldl_cons]
  refine foldl_readStep_bad _ _ ?_
  show (readStep (d, false) (a / 16)).2 = true
  unfold readStep
  rw [hbad]

/-- The part after an uncorrectable read, its event not yet raised. -/
def Dev.poisoned (d : Dev) (a n : Nat) : Dev :=
  { ((d.readMem a n).1.answerRead (((d.readMem a n).1.freeBytes (n / 8 + 1)).take n) true) with
    freeCtr := (d.readMem a n).1.freeCtr + n / 8 + 1 }

theorem hostRead_bad {a n : Nat} (h : (d.readMem a n).2 = true) (mem : List Host.Cell) :
    d.hostRead mem a n = ((d.poisoned a n).raise Ev.poison, true) := if_pos h

/-! ## The decoder -/

theorem dpa_inside {hpa : Nat} (hc : d.host.committed = true) (h : d.host.hdmBase ≤ hpa ∧ hpa < d.host.hdmBase + d.host.hdmSize) :
    d.dpa? hpa = some (hpa - d.host.hdmBase) := by
  unfold Dev.dpa?
  rw [hc, decide_eq_true h]
  rfl

theorem dpa_outside {hpa : Nat} (h : d.host.committed = false ∨ ¬(d.host.hdmBase ≤ hpa ∧ hpa < d.host.hdmBase + d.host.hdmSize)) :
    d.dpa? hpa = none := by
  unfold Dev.dpa?
  refine if_neg fun hin => ?_
  rw [Bool.and_eq_true, decide_eq_true_eq] at hin
  obtain ⟨hc, hr⟩ := hin
  rcases h with h | h
  · rw [h] at hc
    exact Bool.false_ne_true hc
  · exact h hr

end

section
variable {s : State}

theorem gives_hdmCommit {base size ways : Nat} {bi lock : Bool} (hb : s.dev.barOpen = true) (hc : s.dev.answersConfig = true)
    (hm : s.dev.cxlMode = true) (hl : (s.dev.host.committed && s.dev.host.locked) = false) (ok : Bool) (hok : s.dev.commitOk size ways bi = ok) :
    Gives (.hdmCommit base size ways bi lock) s fun t =>
      t.dev.host = { (if ok then { s.dev.host with committed := true, notCommitted := false, locked := lock, hdmBase := base - base % 2 ^ 28, hdmSize := size }
        else { s.dev.host with committed := false, notCommitted := true }) with writes := t.dev.host.writes, pba := t.dev.host.pba } ∧
      Leaves [.host] [] s t := by
  have hgo : (!(s.dev.begin_.answersConfig && s.dev.begin_.cxlMode) || (s.dev.begin_.host.committed && s.dev.begin_.host.locked)) = false := by
    show (!(s.dev.answersConfig && s.dev.cxlMode) || (s.dev.host.committed && s.dev.host.locked)) = false
    rw [hc, hm, hl]
    rfl
  refine gives_bar rfl hb ((if_neg (by rw [hgo]; exact Bool.false_ne_true)).trans
    (show _ = { s.dev.begin_ with host := if ok then { s.dev.begin_.host with committed := true, notCommitted := false, locked := lock, hdmBase := base - base % 2 ^ 28, hdmSize := size }
        else { s.dev.begin_.host with committed := false, notCommitted := true } } from ?_)) (alters_host _ _) (by decide) fun t ht _ => ?_
  · rw [show s.dev.begin_.commitOk size ways bi = ok from hok]
    cases ok <;> rfl
  · refine (show t.dev.host = _ from ht.parts .host).trans ?_
    cases ok <;> rfl

/-- The bytes that a read of the host returns from memory without fault. -/
theorem gives_cleanRead {i : Instr} {f : List Host.Cell → Dev → Dev} {a n : Nat} (hx : exec i s = .next (s.onDev f))
    (hf : f s.mem s.dev.begin_ = s.dev.begin_.answerRead (memRead s.mem a n) false) :
    Gives i s fun t => t.dev.host.lastRead = some ⟨memRead s.mem a n, false⟩ ∧ Leaves [.host] [] s t :=
  gives_step hx hf (alters_host _ _) (by decide) fun t ht _ => congrArg HostSt.lastRead (show t.dev.host = _ from ht.parts .host)

/-- A line read inside the decoder. -/
theorem cxlMemRead_inside {hpa : Nat} (hm : s.dev.cxlMem = true) (hc : s.dev.host.committed = true)
    (hin : s.dev.host.hdmBase ≤ hpa ∧ hpa < s.dev.host.hdmBase + s.dev.host.hdmSize) :
    ∃ f, exec (.cxlMemRead hpa []) s = .next (s.onDev f) ∧ ∀ r,
      s.dev.begin_.hostRead s.mem (hpa - s.dev.host.hdmBase - (hpa - s.dev.host.hdmBase) % 64) 64 = r → f s.mem s.dev.begin_ =
        if r.2 then { r.1 with host := { r.1.host with rasPoison := true, headerLog := if r.1.host.rasPoison then r.1.host.headerLog else hpa - hpa % 64 } }
        else r.1 := by
  refine ⟨_, rfl, fun r hr => ?_⟩
  have hdpa : s.dev.begin_.dpa? hpa = some (hpa - s.dev.host.hdmBase) := dpa_inside (d := s.dev.begin_) hc hin
  have hup : s.dev.begin_.upset [] = s.dev.begin_ := rfl
  rw [show s.dev.begin_.cxlMem = true from hm, hdpa, hup]
  dsimp only
  rw [hr]
  rfl

theorem gives_cxlRead {hpa : Nat} (hm : s.dev.cxlMem = true) (hc : s.dev.host.committed = true)
    (hin : s.dev.host.hdmBase ≤ hpa ∧ hpa < s.dev.host.hdmBase + s.dev.host.hdmSize) (hf : s.dev.memc.faults = []) (hh : s.dev.memHalted = false) :
    let line := hpa - s.dev.host.hdmBase - (hpa - s.dev.host.hdmBase) % 64
    Gives (.cxlMemRead hpa []) s fun t => t.dev.host.lastRead = some ⟨memRead s.mem line 64, false⟩ ∧ Leaves [.host] [] s t := by
  obtain ⟨f, hx, hwork⟩ := cxlMemRead_inside hm hc hin
  exact gives_cleanRead hx (hwork _ (hostRead_clean (d := s.dev.begin_) hf hh _ _ _))

theorem gives_cxlPoison {hpa : Nat} (hm : s.dev.cxlMem = true) (hc : s.dev.host.committed = true)
    (hin : s.dev.host.hdmBase ≤ hpa ∧ hpa < s.dev.host.hdmBase + s.dev.host.hdmSize)
    (hhalt : s.dev.haltedAt (hpa - s.dev.host.hdmBase - (hpa - s.dev.host.hdmBase) % 64) = true) :
    Gives (.cxlMemRead hpa []) s fun t => (∃ bs, t.dev.host.lastRead = some ⟨bs, true⟩) ∧ t.dev.host.rasPoison = true ∧ Pending t Ev.poison := by
  obtain ⟨f, hx, hwork⟩ := cxlMemRead_inside hm hc hin
  have hbad := readMem_halted (d := s.dev.begin_) (n := 64) (by omega) (by decide) hhalt
  have hf := hwork _ (hostRead_bad hbad s.mem)
  have ht := onDev_settled s f
  rw [hf, if_pos rfl] at ht
  have hhost := ht.parts .host
  refine ⟨_, hx, ⟨_, (congrArg HostSt.lastRead hhost).trans rfl⟩, (congrArg HostSt.rasPoison hhost).trans rfl,
    ht.raised ⟨Ev.poison, false, 0, 0⟩ ?_ (by decide)⟩
  exact List.mem_append_right _ (List.mem_singleton_self _)

theorem gives_outside {i : Instr} {f : List Host.Cell → Dev → Dev} (hx : exec i s = .next (s.onDev f)) (hf : f s.mem s.dev.begin_ = s.dev.begin_.rasOutside) :
    Gives i s fun t => t.dev.host.rasAddress = true ∧ Pending t Ev.rasUe ∧ Leaves [.host] [] s t := by
  have halters : Alters [.host] [] s.dev.begin_ s.dev.begin_.rasOutside := (alters_host _ _).raise Ev.rasUe 0 0
  refine gives_imp (gives_step hx hf halters (by decide) (effect := fun t => t.dev.host.rasAddress = true ∧ Pending t Ev.rasUe) fun t ht _ => ⟨?_, ?_⟩)
    fun t ⟨⟨h1, h2⟩, hl⟩ => ⟨h1, h2, hl⟩
  · exact (congrArg HostSt.rasAddress (show t.dev.host = _ from ht.parts .host)).trans rfl
  · exact ht.raised ⟨Ev.rasUe, false, 0, 0⟩ (List.mem_append_right _ (List.mem_singleton_self _)) (by decide)

/-! ## Writes -/

/-- Work that adds only writes to device memory. -/
def Dev.writesOnly (d : Dev) (ops : List MemOp) : Dev := { d with outbox := ops }

/-- A step whose work is writes to device memory: their bytes, outside the event ring, and nothing else. -/
theorem gives_writes {i : Instr} {f : List Host.Cell → Dev → Dev} {ops : List MemOp} (hx : exec i s = .next (s.onDev f))
    (hf : f s.mem s.dev.begin_ = s.dev.begin_.writesOnly ops) :
    Gives i s fun t => (∃ e : Dev, e.memHalted = s.dev.memHalted ∧
      ∀ a, ¬InRing s.dev a → memByte t.mem a = memByte (ops.foldl applyOp (s.mem, e)).1 a) ∧ Keeps [] s t ∧ KeepsRegs [] s t := by
  have ht := onDev_settled s f
  have hsame (p : Part) : p.same s.dev.begin_ (f s.mem s.dev.begin_) := by
    rw [hf]
    cases p <;> rfl
  refine ⟨_, hx, ⟨(f s.mem s.dev.begin_).settle, ?_, fun a ha => ?_⟩, fun p _ => same_trans (begin_same s.dev p) (same_trans (hsame p) (ht.parts p)),
    fun a _ h1 h2 => (ht.reg a h1 h2).trans (by rw [hf]; rfl)⟩
  · rw [memHalted_settle, hf]; rfl
  · have hring : ¬(f s.mem s.dev.begin_).inEvtRing a := not_inRing (by rw [hf]; rfl) (by rw [hf]; rfl) ha
    rw [onDev_work s f a hring]
    exact congrArg (fun l => memByte (List.foldl applyOp (s.mem, (f s.mem s.dev.begin_).settle) l).1 a) (by rw [hf]; rfl)

theorem gives_oneWrite {i : Instr} {f : List Host.Cell → Dev → Dev} {a : Nat} {bs : List Byte} (hx : exec i s = .next (s.onDev f))
    (hf : f s.mem s.dev.begin_ = s.dev.begin_.writesOnly [.write a bs]) (hh : s.dev.memHalted = false) :
    Gives i s fun t => Writes a bs s t ∧ Keeps [] s t ∧ KeepsRegs [] s t := by
  refine gives_imp (gives_writes hx hf) fun t ⟨⟨e, he, hmem⟩, hk⟩ => ⟨fun b hb => ?_, hk⟩
  rw [hmem b hb]
  show memByte (applyOp (s.mem, e) (.write a bs)).1 b = _
  unfold applyOp
  dsimp only
  rw [he, hh]
  exact memByte_memWrite bs s.mem a b

/-- The single bytes that a write enables. -/
def enabledOps (a : Nat) (en : BitVec 64) (bs : List Byte) (is : List Nat) : List MemOp :=
  (is.filter fun i => en.getLsbD i).map fun i => .write (a + i) [bs.getD i 0#8]

theorem writeEnabled_eq (d : Dev) (ho : d.outbox = []) (a : Nat) (en : BitVec 64) (bs : List Byte) : d.writeEnabled a en bs =
    d.writesOnly (if en = BitVec.allOnes 64 then [.write a bs] else enabledOps a en bs (List.range 64)) := by
  have hfold (is : List Nat) (x : Dev) : is.foldl (fun (d : Dev) i => if en.getLsbD i then d.memw (a + i) [bs.getD i 0#8] else d) x =
      x.writesOnly (x.outbox ++ enabledOps a en bs is) := by
    induction is generalizing x with
    | nil => exact (congrArg x.writesOnly (List.append_nil _)).symm
    | cons i is ih =>
      rw [List.foldl_cons, ih]
      by_cases h : en.getLsbD i = true
      · rw [if_pos h]
        have hops : enabledOps a en bs (i :: is) = .write (a + i) [bs.getD i 0#8] :: enabledOps a en bs is := by
          unfold enabledOps
          rw [List.filter_cons_of_pos h]
          rfl
        rw [hops]
        exact congrArg x.writesOnly (List.append_assoc _ _ _)
      · rw [if_neg h]
        have hops : enabledOps a en bs (i :: is) = enabledOps a en bs is := by
          unfold enabledOps
          rw [List.filter_cons_of_neg h]
        rw [hops]
  unfold Dev.writeEnabled
  split
  · unfold Dev.memw
    rw [ho]
    rfl
  · rw [hfold, ho]
    rfl

/-- Bytes written one by one, each where it is enabled. -/
theorem memByte_enabledOps (a : Nat) (en : BitVec 64) (bs : List Byte) (is : List Nat) (m : List Host.Cell) (e : Dev) (hh : e.memHalted = false)
    (x : Nat) : memByte ((enabledOps a en bs is).foldl applyOp (m, e)).1 x =
      if a ≤ x ∧ x - a ∈ is ∧ en.getLsbD (x - a) = true then bs.getD (x - a) 0#8 else memByte m x := by
  induction is generalizing m e with
  | nil => exact (if_neg fun h => absurd h.2.1 List.not_mem_nil).symm
  | cons i is ih =>
    by_cases h : en.getLsbD i = true
    · have hops : enabledOps a en bs (i :: is) = .write (a + i) [bs.getD i 0#8] :: enabledOps a en bs is := by
        unfold enabledOps
        rw [List.filter_cons_of_pos h]
        rfl
      have hstep : applyOp (m, e) (.write (a + i) [bs.getD i 0#8]) =
          (memWrite m (a + i) [bs.getD i 0#8], { e with memc := e.memc.noteWrite (1 / 256 + 2) (a + i) 1 }) := by
        unfold applyOp
        dsimp only
        rw [hh]
        rfl
      rw [hops, List.foldl_cons, hstep, ih _ { e with memc := e.memc.noteWrite (1 / 256 + 2) (a + i) 1 } hh, memByte_memWrite]
      by_cases hx : x = a + i
      · subst hx
        rw [if_pos (show a + i ≤ a + i ∧ a + i < a + i + [bs.getD i 0#8].length by rw [List.length_singleton]; omega), Nat.sub_self, Nat.add_sub_cancel_left]
        rw [if_pos (show a ≤ a + i ∧ i ∈ i :: is ∧ en.getLsbD i = true from ⟨by omega, List.mem_cons_self, h⟩)]
        split
        · rfl
        · rfl
      · rw [if_neg (show ¬(a + i ≤ x ∧ x < a + i + [bs.getD i 0#8].length) by rw [List.length_singleton]; omega)]
        refine if_congr ?_ rfl rfl
        rw [List.mem_cons]
        constructor
        · exact fun ⟨h1, h2, h3⟩ => ⟨h1, .inr h2, h3⟩
        · exact fun ⟨h1, h2, h3⟩ => ⟨h1, h2.resolve_left (by omega), h3⟩
    · have hops : enabledOps a en bs (i :: is) = enabledOps a en bs is := by
        unfold enabledOps
        rw [List.filter_cons_of_neg h]
      rw [hops, ih _ _ hh]
      refine if_congr ?_ rfl rfl
      rw [List.mem_cons]
      constructor
      · exact fun ⟨h1, h2, h3⟩ => ⟨h1, .inr h2, h3⟩
      · exact fun ⟨h1, h2, h3⟩ => ⟨h1, h2.resolve_left fun hx => h (hx ▸ h3), h3⟩

theorem gives_cxlWrite {hpa : Nat} (hm : s.dev.cxlMem = true) (hc : s.dev.host.committed = true)
    (hin : s.dev.host.hdmBase ≤ hpa ∧ hpa < s.dev.host.hdmBase + s.dev.host.hdmSize) (data : BitVec 512) (en : BitVec 64) (hh : s.dev.memHalted = false) :
    let line := hpa - s.dev.host.hdmBase - (hpa - s.dev.host.hdmBase) % 64
    Gives (.cxlMemWrite hpa data en) s fun t => (∀ b, ¬InRing s.dev b → memByte t.mem b =
      if line ≤ b ∧ b < line + 64 ∧ en.getLsbD (b - line) = true then (leBytes 64 data.toNat).getD (b - line) 0#8 else memByte s.mem b) ∧
      Keeps [] s t ∧ KeepsRegs [] s t := by
  intro line
  have hdpa : s.dev.begin_.dpa? hpa = some (hpa - s.dev.host.hdmBase) := dpa_inside (d := s.dev.begin_) hc hin
  have hwork := writeEnabled_eq s.dev.begin_ rfl line en (leBytes 64 data.toNat)
  have hf : (if !s.dev.begin_.cxlMem then s.dev.begin_ else match s.dev.begin_.dpa? hpa with
      | none => s.dev.begin_.rasOutside
      | some a => s.dev.begin_.writeEnabled (a - a % 64) en (leBytes 64 data.toNat)) = s.dev.begin_.writeEnabled line en (leBytes 64 data.toNat) := by
    rw [show s.dev.begin_.cxlMem = true from hm, hdpa]
    rfl
  refine gives_imp (gives_writes rfl (hf.trans hwork)) fun t ⟨⟨e, he, hmem⟩, hk⟩ => ⟨fun b hb => (hmem b hb).trans ?_, hk⟩
  have hlen : (leBytes 64 data.toNat).length = 64 := length_leBytes 64 data.toNat
  split
  next hall =>
    have hwhole := memByte_memWrite (leBytes 64 data.toNat) s.mem line b
    have hone : ([MemOp.write line (leBytes 64 data.toNat)].foldl applyOp (s.mem, e)).1 = memWrite s.mem line (leBytes 64 data.toNat) := by
      show (applyOp (s.mem, e) (.write line (leBytes 64 data.toNat))).1 = _
      unfold applyOp
      dsimp only
      rw [he, hh]
      rfl
    rw [hone, hwhole, hlen]
    refine if_congr ⟨fun ⟨h1, h2⟩ => ⟨h1, h2, ?_⟩, fun ⟨h1, h2, _⟩ => ⟨h1, h2⟩⟩ rfl rfl
    rw [hall, BitVec.getLsbD_allOnes]
    exact decide_eq_true (by omega)
  next =>
    rw [memByte_enabledOps line en _ _ _ _ (he.trans hh)]
    refine if_congr ?_ rfl rfl
    rw [List.mem_range]
    constructor
    · exact fun ⟨h1, h2, h3⟩ => ⟨h1, by omega, h3⟩
    · exact fun ⟨h1, h2, h3⟩ => ⟨h1, by omega, h3⟩

/-! ## The aperture -/

/-- The aperture's access to its address. -/
theorem apertureAccess_open {offset length : Nat} {write : Option (List Byte)} (hw : (write.all fun bs => bs.length == length) = true)
    (hb : s.dev.barOpen = true) (ho : s.dev.apertureOpen = true) (hlt : offset + length ≤ 2 ^ 28) :
    ∃ f, exec (.apertureAccess offset length write []) s = .next (s.onDev f) ∧ f s.mem s.dev.begin_ =
      match write with
      | some bs => s.dev.begin_.memw (2 ^ 28 * (s.dev.reg Reg.GLB_APERTURE).toNat + offset) bs
      | none =>
        let r := s.dev.begin_.hostRead s.mem (2 ^ 28 * (s.dev.reg Reg.GLB_APERTURE).toNat + offset) length
        if r.2 then { r.1 with host := { r.1.host with aerPoisoned := true } } else r.1 := by
  refine ⟨_, (if_pos hw).trans rfl, ?_⟩
  have hgo : (!s.dev.begin_.apertureOpen || decide (2 ^ 28 < offset + length)) = false := by
    rw [show s.dev.begin_.apertureOpen = true from ho, decide_eq_false (by omega)]
    rfl
  refine (if_pos hb).trans ((if_neg (by rw [hgo]; exact Bool.false_ne_true)).trans ?_)
  cases write <;> rfl

end

/-- Settles O55: the decoder, its reads and writes, and the aperture, each by its own rule above. -/
theorem hostReachesDeviceMemory : Obligations.HostReachesDeviceMemory := by
  unfold Obligations.HostReachesDeviceMemory
  intro s clean
  refine ⟨fun base size ways bi lock hb hc hm hl => ⟨fun h1 h2 h3 h4 h5 => ?_, fun h => ?_⟩, fun hpa hm => ?_, fun offset length hb ho hlt => ?_⟩
  · have hok : s.dev.commitOk size ways bi = true := by
      unfold Dev.commitOk
      rw [h1, h2, h3, h4, h5]
      simp only [beq_self_eq_true, Bool.and_self]
    refine gives_imp (gives_hdmCommit (lock := lock) (base := base) hb hc hm hl true hok) fun t ⟨hhost, hl⟩ => ?_
    exact ⟨(congrArg HostSt.committed hhost).trans rfl, (congrArg HostSt.notCommitted hhost).trans rfl, (congrArg HostSt.locked hhost).trans rfl,
      (congrArg HostSt.hdmBase hhost).trans rfl, (congrArg HostSt.hdmSize hhost).trans rfl, hl⟩
  · have hok : s.dev.commitOk size ways bi = false := by
      unfold Dev.commitOk
      rcases h with h | h | h | h | h
      · rw [beq_false_of_ne h]; simp only [Bool.false_and]
      · rw [beq_false_of_ne h]; simp only [Bool.and_false, Bool.false_and]
      · rw [h]; simp only [Bool.and_false, Bool.false_and]
      · rw [h]; simp only [Bool.and_false, Bool.false_and]
      · rw [h]; simp only [Bool.and_false]
    refine gives_imp (gives_hdmCommit (lock := lock) (base := base) hb hc hm hl false hok) fun t ⟨hhost, hl⟩ => ?_
    exact ⟨(congrArg HostSt.committed hhost).trans rfl, (congrArg HostSt.notCommitted hhost).trans rfl, hl⟩
  · intro inside a line
    refine ⟨fun hc hin => ⟨fun ⟨hf, hh⟩ => gives_cxlRead hm hc hin hf hh, gives_cxlPoison hm hc hin, fun data en => gives_cxlWrite hm hc hin data en⟩,
      fun h data en => ?_⟩
    have hnone : s.dev.begin_.dpa? hpa = none := dpa_outside (d := s.dev.begin_) h
    refine ⟨gives_outside rfl ?_, gives_outside rfl ?_⟩
    · rw [show s.dev.begin_.cxlMem = true from hm, hnone]
      rfl
    · rw [show s.dev.begin_.cxlMem = true from hm, hnone]
      rfl
  · intro a
    refine ⟨fun ⟨hf, hh⟩ => ?_, fun bs hlen hh => ?_⟩
    · obtain ⟨f, hx, hwork⟩ := apertureAccess_open (write := none) rfl hb ho hlt
      rw [hostRead_clean (d := s.dev.begin_) hf hh] at hwork
      exact gives_cleanRead hx hwork
    · obtain ⟨f, hx, hwork⟩ := apertureAccess_open (write := some bs) (length := length) (beq_iff_eq.mpr hlen) hb ho hlt
      exact gives_oneWrite hx hwork hh

end Sys2Proof.Machine
end

section
/-! SUPPORT. A link-up that switches off a PHY quad while that domain waits to take part (R406, R558, R563). -/

namespace Sys2Proof.Machine

/-- Out of reset with the link down; the domain of the first quad is on, and stands among those that wait for a frame boundary. -/
def quadJoins : Dev :=
  let d := State.reset.dev.setBit (Reg.PWR_DOM_ON 4) 6 true
  { d with rst := { d.rst with phase := .running }, pwr := { d.pwr with joining := [134] } }

/-- A link of no lanes switches every quad off, and none waits any more. -/
theorem linkUp_quadJoins : ∃ t, exec (.linkUp false 0 0 false) { State.reset with dev := quadJoins } = .next t ∧ t.dev.pwr.joining = [] := by
  refine ⟨_, rfl, ?_⟩
  exact (congrArg PwrSt.joining (onDev_same _ _ .pwr)).trans (by decide +kernel)

/-- Refutes O54: a link-up leaves all but the host's part of the state as it was only where no domain that it switches off still waits for a
frame boundary to join. -/
theorem not_hostLinkFollows : ¬ Obligations.HostLinkFollows := by
  unfold Obligations.HostLinkFollows
  intro h
  obtain ⟨hup, -⟩ := h { State.reset with dev := quadJoins }
  obtain ⟨t, hx, -, -, -, -, -, -, -, hkeeps, -⟩ := hup false 0 0 false (by decide +kernel) (by decide +kernel)
  obtain ⟨u, hu, hnone⟩ := linkUp_quadJoins
  have htu : t = u := Host.Outcome.next.inj (hx.symm.trans hu)
  have hpwr : t.dev.pwr = quadJoins.pwr := hkeeps .pwr (by decide)
  rw [htu] at hpwr
  have hwaits : u.dev.pwr.joining = [134] := congrArg PwrSt.joining hpwr
  rw [hnone] at hwaits
  exact absurd hwaits (by decide)

end Sys2Proof.Machine
end

section
/-! SUPPORT. A warm reset that flushes a stamp (R16, R117, R578). -/

namespace Sys2Proof.Machine

/-- The part runs, and a stamp waits in the Ember queue of channel 0. -/
def stampWaits : Dev :=
  { State.reset.dev with
    chans := [(0, { queue := [⟨0, 0#32⟩] })],
    rst := { State.reset.dev.rst with phase := .running, cold := false } }

/-- The reset counts the stamp that its flush loses, in a counter that a warm reset keeps. -/
theorem xdrop_stampWaits : ∃ t, exec .perstAssert { State.reset with dev := stampWaits } = .next t ∧ t.dev.reg (Reg.SLICE_EM_XDROP_CNT 0) = 1#32 := by
  refine ⟨_, rfl, ?_⟩
  rw [onDev_reg _ _ _ (by decide)]
  decide +kernel

/-- Refutes O50: the crossing drop counters that a warm reset keeps are not as they were when its flush loses stamps of the Ember queues. -/
theorem not_resetsTakeHold : ¬ Obligations.ResetsTakeHold := by
  unfold Obligations.ResetsTakeHold
  intro h
  obtain ⟨-, -, hperst, -⟩ := h { State.reset with dev := stampWaits }
  obtain ⟨t, hx, ⟨-, -, -, -, -, hkept, -⟩, -⟩ := hperst (by decide +kernel)
  obtain ⟨u, hu, hone⟩ := xdrop_stampWaits
  have htu : t = u := Host.Outcome.next.inj (hx.symm.trans hu)
  have hsame := hkept (Reg.SLICE_EM_XDROP_CNT 0) (by decide +kernel) (by decide)
  rw [htu, hone] at hsame
  exact absurd hsame (by decide +kernel)

end Sys2Proof.Machine
end

section
/-! SUPPORT. The queue pairs: enabling and disabling, doorbells, fetching, a missed deadline, and the declaration of failure (R435, R437,
R438, R444, R453, R455). -/

namespace Sys2Proof.Machine

/-! ## A step on the queues -/

/-- What a step on the queues shows: the queues and every register but those of the event logic as its work left them. -/
structure QueueStep (s : State) (x : Dev) (t : State) : Prop where
  cmd : t.dev.cmd = x.cmd
  reg : ∀ a, evtOwn a = false → t.dev.reg a = x.reg a

namespace QueueStep
variable {s t : State} {x : Dev}

theorem pair (h : QueueStep s x t) (q : Nat) : t.dev.pair q = x.pair q := by unfold Dev.pair; rw [h.cmd]

theorem flag (h : QueueStep s x t) (f : Fld) (hf : evtOwn f.addr = false) : t.dev.flag f = x.flag f := by
  unfold Dev.flag Dev.fld; rw [h.reg _ hf]

theorem bit (h : QueueStep s x t) (a n : Nat) (ha : evtOwn a = false) : t.dev.bit a n = x.bit a n := by
  unfold Dev.bit; rw [h.reg _ ha]

theorem cnt (h : QueueStep s x t) (c : Cnt) (hc : evtOwn c.addr = false) (hw : c.wide = false) : t.dev.cnt c = x.cnt c := by
  unfold Dev.cnt; simp only [hw, Bool.false_eq_true, if_false]; rw [h.reg _ hc]

end QueueStep

theorem onDev_queueStep (s : State) (f : List Host.Cell → Dev → Dev) : QueueStep s (f s.mem s.dev.begin_) (s.onDev f) :=
  ⟨onDev_cmd s f, onDev_reg s f⟩

/-- A step whose work alters some parts and registers, and beyond that the queues alone. -/
theorem gives_queues {i : Instr} {s : State} {f : List Host.Cell → Dev → Dev} {x y : Dev} {parts : List Part} {regs : List Nat}
    {effect : State → Prop} (hx : exec i s = .next (s.onDev f)) (hf : f s.mem s.dev.begin_ = x) (ha : Alters parts regs s.dev.begin_ y)
    (hc : CmdFrame y x) (hn : Reg.EVT_RING_SIZE ∉ regs) (he : ∀ t, QueueStep s x t → effect t) :
    Gives i s fun t => effect t ∧ Leaves parts regs s t := by
  subst hf
  exact ⟨_, hx, he _ (onDev_queueStep s f),
    ha.leaves (begin_same s.dev) (fun _ => rfl) rfl rfl hn (hc.settled (onDev_settled s f))⟩

/-- The same through a BAR that is answered (R413, R430). -/
theorem gives_barQueues {i : Instr} {s : State} {g : List Host.Cell → Dev → Dev} {x y : Dev} {parts : List Part} {regs : List Nat}
    {effect : State → Prop} (hx : exec i s = .next (s.onBar g)) (hb : s.dev.barOpen = true) (hg : g s.mem s.dev.begin_ = x)
    (ha : Alters parts regs s.dev.begin_ y) (hc : CmdFrame y x) (hn : Reg.EVT_RING_SIZE ∉ regs) (he : ∀ t, QueueStep s x t → effect t) :
    Gives i s fun t => effect t ∧ Leaves parts regs s t :=
  gives_queues hx ((if_pos hb).trans hg) ha hc hn he

/-! ## Where the registers of a pair stand -/

theorem cmdqOwn_ctl (q : Fin 16) : cmdqOwn (Reg.CMDQ_Q_CTL q.val) = true := by
  have := q.isLt; simp only [cmdqOwn, Reg.CMDQ_Q_CTL, decide_eq_true_eq]; omega

theorem cmdqOwn_stat (q : Fin 16) : cmdqOwn (Reg.CMDQ_Q_STAT q.val) = true := by
  have := q.isLt; simp only [cmdqOwn, Reg.CMDQ_Q_STAT, decide_eq_true_eq]; omega

theorem cmdqOwn_evt (q : Fin 16) : cmdqOwn (Reg.CMDQ_Q_EVT q.val) = true := by
  have := q.isLt; simp only [cmdqOwn, Reg.CMDQ_Q_EVT, decide_eq_true_eq]; omega

/-- The event logic keeps none of the registers of the queues. -/
theorem evtOwn_queue {a : Nat} (h : cmdqOwn a = true) : evtOwn a = false := by
  simp only [cmdqOwn, evtOwn, decide_eq_true_eq, decide_eq_false_iff_not] at h ⊢; omega

/-! ## Enabling and disabling (R435) -/

/-- The fields of the control register of a pair: EN, LOC and the depths (R435). -/
abbrev queueCtlRows : List FieldRow :=
  [⟨0, 1, .rw, .any⟩, ⟨1, 1, .rw, .any⟩, ⟨8, 4, .rw, .keep 4 12⟩, ⟨12, 4, .rw, .keep 4 13⟩]

theorem regRow_queueCtl (q : Fin 16) : ∃ r, regRow? (Reg.CMDQ_Q_CTL q.val) = some r ∧
    r.fields = queueCtlRows := by
  have hall : ∀ q : Fin 16, (regRow? (Reg.CMDQ_Q_CTL q.val)).map (·.fields) =
      some queueCtlRows := by decide +kernel
  exact Option.map_eq_some_iff.mp (hall q)

/-- EN and LOC take every value (R435). -/
theorem field_mergeCtl (old v : Word) :
    let m := (mergeFields queueCtlRows old v).1
    field m 0 1 = field v 0 1 ∧ field m 1 1 = field v 1 1 := by
  have h0 := field_lt v 0 1
  have h1 := field_lt v 1 1
  have hm : ∃ a b, (mergeFields queueCtlRows old v).1 =
      withField (withField (withField (withField old 0 1 (field v 0 1)) 1 1 (field v 1 1)) 8 4 a) 12 4 b := ⟨_, _, rfl⟩
  obtain ⟨a, b, hm⟩ := hm
  intro m
  have hmm : m = _ := hm
  rw [hmm, field_withField_apart _ 12 4 _ _ _ (by decide) (.inl (by decide)), field_withField_apart _ 8 4 _ _ _ (by decide) (.inl (by decide)),
    field_withField_apart _ 1 1 _ _ _ (by decide) (.inl (by decide)), field_withField _ 0 1 _ (by decide),
    field_withField_apart _ 12 4 _ _ _ (by decide) (.inl (by decide)), field_withField_apart _ 8 4 _ _ _ (by decide) (.inl (by decide)),
    field_withField _ 1 1 _ (by decide)]
  exact ⟨Nat.mod_eq_of_lt h0, Nat.mod_eq_of_lt h1⟩

/-- The value of the control register that an enable leaves: EN is not set yet, and LOC is as written. -/
theorem writeQueueCtl_enable {d : Dev} {q : Fin 16} {v : Word} (he : d.flag (F.CMDQ_Q_CTL_EN q.val) = false) :
    ∃ (m : Word) (n : Nat), d.writeQueueCtl q.val (v ||| 1#32) = ((d.noteBad n).put (Reg.CMDQ_Q_CTL q.val) m).enableQueue q.val ∧
      field m 0 1 = 0 ∧ field m 1 1 = field v 1 1 := by
  obtain ⟨r, hr, hf⟩ := regRow_queueCtl q
  have hbit : bitAt (v ||| 1#32).toNat 0 = true := by
    rw [BitVec.toNat_or]; exact bitAt_orBit _ 0
  have hloc : field (v ||| 1#32) 1 1 = field v 1 1 := by
    unfold field; rw [BitVec.toNat_or]
    have h1 : (v.toNat ||| (1#32 : Word).toNat) / 2 ^ 1 = v.toNat / 2 ^ 1 := by
      
      rw [← Nat.shiftRight_eq_div_pow, Nat.shiftRight_or_distrib, Nat.shiftRight_eq_div_pow]
      exact Nat.or_zero _
    rw [h1]
  obtain ⟨h0, h1⟩ := field_mergeCtl (d.reg (Reg.CMDQ_Q_CTL q.val)) (withField (v ||| 1#32) 0 1 0)
  refine ⟨_, (mergeFields queueCtlRows (d.reg (Reg.CMDQ_Q_CTL q.val)) (withField (v ||| 1#32) 0 1 0)).2, ?_, h0.trans (field_withField _ 0 1 _ (by decide)),
    h1.trans ((field_withField_apart _ 0 1 _ _ _ (by decide) (.inr (by decide))).trans hloc)⟩
  unfold Dev.writeQueueCtl
  rw [he, if_neg Bool.false_ne_true, merge_eq hr, hf, hbit]
  exact if_pos rfl

/-- The pair as it starts. -/
abbrev Pair.started (p : Pair) : Pair :=
  { p with sqTail := 0, sqHead := 0, cqTail := 0, cqHead := 0, rung := [], replies := [], silent := false }

/-- The pair starts. -/
def Dev.startQueue (d : Dev) (q : Nat) : Dev :=
  ((((d.setFlag (F.CMDQ_Q_CTL_EN q) true).setFlag (F.CMDQ_Q_STAT_CFG_ERR q) false).setFlag (F.CMDQ_Q_STAT_RUN q) true).setFlag
    (F.CMDQ_Q_STAT_HALTED q) false).setPair q (d.pair q).started

theorem enableQueue_ready {d : Dev} {q : Nat} (hr : d.flag F.CMDQ_STAT_READY = true) (hl : d.inHost q = false) :
    d.enableQueue q = d.startQueue q := by
  refine if_pos ?_
  unfold Dev.queueOk
  rw [hr, hl]
  rfl

theorem enableQueue_unready {d : Dev} {q : Nat} (hr : d.flag F.CMDQ_STAT_READY = false) :
    d.enableQueue q = d.setFlag (F.CMDQ_Q_STAT_CFG_ERR q) true := by
  refine if_neg ?_
  unfold Dev.queueOk
  rw [hr]
  exact Bool.false_ne_true

theorem cmdFrame_startQueue (d : Dev) (q : Fin 16) : CmdFrame d (d.startQueue q.val) :=
  (cmdFrame_setFld d _ _ (cmdqOwn_ctl q)).trans <| (cmdFrame_setFld _ _ _ (cmdqOwn_stat q)).trans <|
    (cmdFrame_setFld _ _ _ (cmdqOwn_stat q)).trans <| (cmdFrame_setFld _ _ _ (cmdqOwn_stat q)).trans (cmdFrame_setPair _ _ _)

theorem flag_setPair (d : Dev) (q : Nat) (x : Pair) (f : Fld) : (d.setPair q x).flag f = d.flag f := rfl

theorem flags_startQueue (d : Dev) (q : Nat) : (d.startQueue q).flag (F.CMDQ_Q_CTL_EN q) = true ∧
    (d.startQueue q).flag (F.CMDQ_Q_STAT_RUN q) = true ∧ (d.startQueue q).flag (F.CMDQ_Q_STAT_HALTED q) = false ∧
    (d.startQueue q).flag (F.CMDQ_Q_STAT_CFG_ERR q) = false := by
  have hne : Reg.CMDQ_Q_CTL q ≠ Reg.CMDQ_Q_STAT q := by simp only [Reg.CMDQ_Q_CTL, Reg.CMDQ_Q_STAT]; omega
  have h01 : 0 + 1 ≤ 1 := by decide
  have h02 : 0 + 1 ≤ 2 := by decide
  have h12 : 1 + 1 ≤ 2 := by decide
  have h0 : 0 + 1 ≤ 32 := by decide
  have h1 : 1 + 1 ≤ 32 := by decide
  have h2 : 2 + 1 ≤ 32 := by decide
  unfold Dev.startQueue
  refine ⟨?_, ?_, ?_, ?_⟩
  · rw [flag_setPair, Dev.flag_setFlag_apart _ (F.CMDQ_Q_STAT_HALTED q) _ _ h2 (.inl hne),
      Dev.flag_setFlag_apart _ (F.CMDQ_Q_STAT_RUN q) _ _ h0 (.inl hne),
      Dev.flag_setFlag_apart _ (F.CMDQ_Q_STAT_CFG_ERR q) _ _ h1 (.inl hne), Dev.flag_setFlag_self _ (F.CMDQ_Q_CTL_EN q) _ h0 rfl]
  · rw [flag_setPair, Dev.flag_setFlag_apart _ (F.CMDQ_Q_STAT_HALTED q) _ _ h2 (.inr (.inl h02)),
      Dev.flag_setFlag_self _ (F.CMDQ_Q_STAT_RUN q) _ h0 rfl]
  · rw [flag_setPair, Dev.flag_setFlag_self _ (F.CMDQ_Q_STAT_HALTED q) _ h2 rfl]
  · rw [flag_setPair, Dev.flag_setFlag_apart _ (F.CMDQ_Q_STAT_HALTED q) _ _ h2 (.inr (.inl h12)),
      Dev.flag_setFlag_apart _ (F.CMDQ_Q_STAT_RUN q) _ _ h0 (.inr (.inr h01)),
      Dev.flag_setFlag_self _ (F.CMDQ_Q_STAT_CFG_ERR q) _ h1 rfl]

/-- The fields that follow the commands outstanding stand in the status registers. -/
theorem reg_recount (d : Dev) (q a : Nat) (h0 : a ≠ Reg.CMDQ_STAT) (hq : a ≠ Reg.CMDQ_Q_STAT (q % 16)) : (d.recount q).reg a = d.reg a := by
  have h1 : ∀ (x : Dev) (v : Nat), (x.setFld F.CMDQ_STAT_OUTSTANDING v).reg a = x.reg a := fun x v => Dev.reg_put_ne x _ _ _ h0
  have h2 : ∀ (x : Dev) (v : Nat), (x.setFld (F.CMDQ_Q_STAT_OUTSTANDING (q % 16)) v).reg a = x.reg a :=
    fun x v => Dev.reg_put_ne x _ _ _ hq
  have h3 : ∀ x : Dev, (x.setFlag (F.CMDQ_Q_STAT_RUN (q % 16)) false).reg a = x.reg a := fun x => Dev.reg_put_ne x _ _ _ hq
  unfold Dev.recount
  dsimp only
  split
  · rw [h3, h2, h1]
  · rw [h2, h1]

theorem flag_recount_ctl (d : Dev) (q r : Nat) : (d.recount q).flag (F.CMDQ_Q_CTL_EN r) = d.flag (F.CMDQ_Q_CTL_EN r) := by
  unfold Dev.flag Dev.fld
  rw [reg_recount d q]
  · simp only [Reg.CMDQ_Q_CTL, Reg.CMDQ_STAT]; omega
  · simp only [Reg.CMDQ_Q_CTL, Reg.CMDQ_Q_STAT]; omega

/-- The registers that a write out of range alters. -/
abbrev badRegs : List Nat := [Reg.GLB_BAD_VALUE_CNT, C.GLB_BAD_VALUE_CNT.sat]

section
variable {s : State} {q : Fin 16} {v : Word} (hb : s.dev.barOpen = true)
include hb

theorem gives_enable (he : s.dev.flag (F.CMDQ_Q_CTL_EN q.val) = false) (hl : field v 1 1 = 0)
    (hr : s.dev.flag F.CMDQ_STAT_READY = true) : Gives (.queueEnable q v) s fun t => (t.dev.flag (F.CMDQ_Q_CTL_EN q.val) = true ∧
      t.dev.flag (F.CMDQ_Q_STAT_RUN q.val) = true ∧ t.dev.flag (F.CMDQ_Q_STAT_HALTED q.val) = false ∧
      t.dev.flag (F.CMDQ_Q_STAT_CFG_ERR q.val) = false ∧ t.dev.pair q.val = (s.dev.pair q.val).started) ∧ Leaves [] badRegs s t := by
  obtain ⟨m, n, hw, -, hloc⟩ := writeQueueCtl_enable (d := s.dev.begin_) (v := v) he
  have hn := alters_noteBad s.dev.begin_ n
  have hready : ((s.dev.begin_.noteBad n).put (Reg.CMDQ_Q_CTL q.val) m).flag F.CMDQ_STAT_READY = true := by
    unfold Dev.flag Dev.fld
    rw [Dev.reg_put_ne _ _ _ _ (by simp only [Reg.CMDQ_Q_CTL, Reg.CMDQ_STAT]; omega), hn.reg _ (by decide)]
    exact hr
  have hhost : ((s.dev.begin_.noteBad n).put (Reg.CMDQ_Q_CTL q.val) m).inHost q.val = false := by
    unfold Dev.inHost Dev.flag Dev.fld
    rw [Dev.reg_put_self]
    show (field m 1 1 == 1) = false
    rw [hloc, hl]
    rfl
  have hpair : ((s.dev.begin_.noteBad n).put (Reg.CMDQ_Q_CTL q.val) m).pair q.val = s.dev.pair q.val :=
    congrArg (fun c : CmdSt => sget _ q.val c.pairs) hn.cmd
  rw [enableQueue_ready hready hhost] at hw
  have hc := (cmdFrame_put (s.dev.begin_.noteBad n) (Reg.CMDQ_Q_CTL q.val) m (cmdqOwn_ctl q)).trans (cmdFrame_startQueue _ q)
  obtain ⟨h1, h2, h3, h4⟩ := flags_startQueue ((s.dev.begin_.noteBad n).put (Reg.CMDQ_Q_CTL q.val) m) q.val
  have hctl := evtOwn_queue (cmdqOwn_ctl q)
  have hstat := evtOwn_queue (cmdqOwn_stat q)
  refine gives_barQueues rfl hb hw hn hc (by decide) fun t ht => ⟨(ht.flag _ hctl).trans h1, (ht.flag _ hstat).trans h2,
    (ht.flag _ hstat).trans h3, (ht.flag _ hstat).trans h4, ?_⟩
  rw [ht.pair, Dev.startQueue, Dev.pair_setPair_self, hpair]

theorem gives_notReady (he : s.dev.flag (F.CMDQ_Q_CTL_EN q.val) = false) (hr : s.dev.flag F.CMDQ_STAT_READY = false) :
    Gives (.queueEnable q v) s fun t => (t.dev.flag (F.CMDQ_Q_CTL_EN q.val) = false ∧
      t.dev.flag (F.CMDQ_Q_STAT_CFG_ERR q.val) = true) ∧ Leaves [] badRegs s t := by
  obtain ⟨m, n, hw, hen, -⟩ := writeQueueCtl_enable (d := s.dev.begin_) (v := v) he
  have hn := alters_noteBad s.dev.begin_ n
  have hready : ((s.dev.begin_.noteBad n).put (Reg.CMDQ_Q_CTL q.val) m).flag F.CMDQ_STAT_READY = false := by
    unfold Dev.flag Dev.fld
    rw [Dev.reg_put_ne _ _ _ _ (by simp only [Reg.CMDQ_Q_CTL, Reg.CMDQ_STAT]; omega), hn.reg _ (by decide)]
    exact hr
  rw [enableQueue_unready hready] at hw
  have hc := (cmdFrame_put (s.dev.begin_.noteBad n) (Reg.CMDQ_Q_CTL q.val) m (cmdqOwn_ctl q)).trans
    (cmdFrame_setFld _ (F.CMDQ_Q_STAT_CFG_ERR q.val) 1 (cmdqOwn_stat q))
  refine gives_barQueues rfl hb hw hn hc (by decide) fun t ht => ⟨(ht.flag _ (evtOwn_queue (cmdqOwn_ctl q))).trans ?_,
    (ht.flag _ (evtOwn_queue (cmdqOwn_stat q))).trans
      (Dev.flag_setFlag_self _ (F.CMDQ_Q_STAT_CFG_ERR q.val) true (by show 1 + 1 ≤ 32; decide) rfl)⟩
  refine (Dev.flag_setFlag_apart _ (F.CMDQ_Q_STAT_CFG_ERR q.val) (F.CMDQ_Q_CTL_EN q.val) true (by show 1 + 1 ≤ 32; decide)
    (.inl (by simp only [Reg.CMDQ_Q_CTL, Reg.CMDQ_Q_STAT]; omega))).trans ?_
  unfold Dev.flag Dev.fld
  rw [Dev.reg_put_self]
  show (field m 0 1 == 1) = false
  rw [hen]
  rfl

/-- Fetching stops, and what was not fetched is never executed. -/
theorem gives_disable (he : s.dev.flag (F.CMDQ_Q_CTL_EN q.val) = true) : Gives (.queueDisable q v) s fun t =>
    (t.dev.flag (F.CMDQ_Q_CTL_EN q.val) = false ∧ t.dev.pair q.val = { s.dev.pair q.val with rung := [] }) ∧ Leaves [] [] s t := by
  have hbit : bitAt (v &&& 0xFFFFFFFE#32).toNat 0 = false := by
    rw [BitVec.toNat_and]
    unfold bitAt
    have h : (v.toNat &&& (0xFFFFFFFE#32 : Word).toNat) % 2 = 0 := by rw [Nat.and_mod_two_pow (n := 1)]; exact Nat.and_zero _
    rw [Nat.pow_zero, Nat.div_one, h]
    rfl
  have hw : s.dev.begin_.writeQueueCtl q.val (v &&& 0xFFFFFFFE#32) = s.dev.begin_.disableQueue q.val := by
    unfold Dev.writeQueueCtl
    rw [show s.dev.begin_.flag (F.CMDQ_Q_CTL_EN q.val) = true from he, if_pos rfl, hbit]
    exact if_neg Bool.false_ne_true
  have hc := ((cmdFrame_setFld s.dev.begin_ (F.CMDQ_Q_CTL_EN q.val) 0 (cmdqOwn_ctl q)).trans (cmdFrame_setPair _ q.val
    { s.dev.pair q.val with rung := [] })).trans (cmdFrame_recount _ q.val)
  refine gives_barQueues (x := s.dev.begin_.disableQueue q.val) rfl hb hw (.refl _) hc (by decide) fun t ht =>
    ⟨(ht.flag _ (evtOwn_queue (cmdqOwn_ctl q))).trans ?_, ?_⟩
  · rw [Dev.disableQueue, flag_recount_ctl, flag_setPair]
    exact Dev.flag_setFlag_self _ (F.CMDQ_Q_CTL_EN q.val) false (by show 0 + 1 ≤ 32; decide) rfl
  · rw [ht.pair, Dev.disableQueue, pair_recount, Dev.pair_setPair_self]
    rfl

end

/-! ## Doorbells (R437) -/

/-- A packet that the fast path takes at no place is no mark. -/
theorem isMark_of_none {p : Packet} {cap : Nat} {last : Bool} (h : fastBody p cap last = none) : isMark p = false := by
  by_contra hm
  unfold isMark at hm
  simp only [Bool.not_eq_false, Bool.and_eq_true, beq_iff_eq] at hm
  obtain ⟨hop, hform⟩ := hm
  unfold fastBody at h
  rw [if_neg (not_not.mpr hform), if_pos hop] at h
  exact Option.some_ne_none _ h

/-- What the submission queue holds of a command that its doorbell covered now. -/
abbrev Dev.covered (d : Dev) (cap : Nat) (p : Packet) : Waiting := ⟨p, d.time.ticks, d.cmd.bells, false, cap, false⟩

/-- What examining a doorbell's commands leaves when the fast path takes none: they wait, in order. -/
structure Examined (d : Dev) (q cap : Nat) (ps : List Packet) (e : Dev) : Prop where
  frame : CmdFrame d e
  bells : e.cmd.bells = d.cmd.bells
  pair : e.pair q = { d.pair q with rung := (d.pair q).rung ++ ps.map (d.covered cap) }

theorem examined {q cap : Nat} {mem : List Host.Cell} {ps : List Packet} : ∀ d : Dev,
    (∀ x ∈ ps, ∀ last, fastBody x cap last = none) → Examined d q cap ps (d.examine q cap mem ps) := by
  induction ps with
  | nil => exact fun d _ => ⟨.refl d, rfl, by rw [List.map_nil, List.append_nil]; rfl⟩
  | cons p ps ih =>
    intro d h
    have hp := h p List.mem_cons_self
    let y := d.setPair q { d.pair q with rung := (d.pair q).rung ++ [d.covered cap p] }
    have he : d.examine q cap mem (p :: ps) = y.examine q cap mem ps := by
      rw [Dev.examine]
      dsimp only
      rw [isMark_of_none (hp false), Bool.false_and, hp false]
    have hy := ih y fun x hx => h x (List.mem_cons_of_mem _ hx)
    rw [he]
    refine ⟨(cmdFrame_setPair d q _).trans hy.frame, hy.bells, hy.pair.trans ?_⟩
    rw [Dev.pair_setPair_self]
    exact congrArg (fun l => { d.pair q with rung := l }) (List.append_cons _ _ _).symm

/-- A counter of the queues counts. -/
theorem cmdFrame_bumpOwn (d : Dev) (c : Cnt) (n : Nat) (hc : cmdqOwn c.addr = true) (hs : cmdqOwn c.sat = true) (hw : c.wide = false) :
    CmdFrame d (d.bumpBy c n) := by
  unfold Dev.bumpBy Dev.setCnt
  simp only [hw, Bool.false_eq_true, if_false]
  split
  · exact (cmdFrame_put d _ _ hc).trans ((cmdFrame_put _ _ _ hs).trans (cmdFrame_raise _ _ _ _))
  · exact cmdFrame_put d _ _ hc

theorem pair_bumpBy (d : Dev) (c : Cnt) (n q : Nat) : (d.bumpBy c n).pair q = d.pair q := by
  unfold Dev.bumpBy Dev.setCnt
  dsimp only
  split_ifs <;> rfl

section
variable {s : State} {q : Fin 16} (hb : s.dev.barOpen = true) (hd : s.dev.flag F.CMDQ_STAT_DECLARED = false)
include hb hd

theorem gives_doorbell {tail : Word} {covered : List Packet} (h31 : serialAhead (s.dev.pair q.val).sqTail tail.toNat < 2 ^ 31)
    (hroom : serialAhead (s.dev.pair q.val).sqHead tail.toNat ≤ s.dev.sqDepth q.val) (ho : s.dev.pairOpen q.val = true)
    (hslow : ∀ x ∈ s.dev.coveredBy q.val (serialAhead (s.dev.pair q.val).sqTail tail.toNat) covered, ∀ last,
      fastBody x s.dev.capture last = none) :
    Gives (.sqDoorbell q tail covered) s fun t => (t.dev.pair q.val = { s.dev.pair q.val with
      sqTail := tail.toNat
      rung := (s.dev.pair q.val).rung ++
        (s.dev.coveredBy q.val (serialAhead (s.dev.pair q.val).sqTail tail.toNat) covered).map (s.dev.covered s.dev.capture) } ∧
      t.dev.cmd.bells = s.dev.cmd.bells + 1) ∧ Leaves [.free] [] s t := by
  let n := serialAhead (s.dev.pair q.val).sqTail tail.toNat
  let k := if s.dev.inHost q.val then s.dev.freeCtr + 8 * n else s.dev.freeCtr
  let y : Dev := { s.dev.begin_ with freeCtr := k }
  let z := y.setPair q.val { s.dev.pair q.val with sqTail := tail.toNat }
  have hfree : (if s.dev.begin_.inHost q.val then ({ s.dev.begin_ with freeCtr := s.dev.freeCtr + 8 * n } : Dev) else s.dev.begin_) = y := by
    show (if s.dev.inHost q.val then _ else _) = ({ s.dev.begin_ with freeCtr := if s.dev.inHost q.val then _ else _ } : Dev)
    split <;> rfl
  have hw : s.dev.begin_.ringSq q.val tail covered s.mem =
      (z.examine q.val s.dev.capture s.mem (s.dev.coveredBy q.val n covered)).nextBell := by
    unfold Dev.ringSq
    rw [show s.dev.begin_.flag F.CMDQ_STAT_DECLARED = false from hd, if_neg Bool.false_ne_true]
    refine (if_pos ⟨h31, hroom⟩).trans ?_
    refine (congrArg (fun y : Dev => if (y.setPair q.val { s.dev.pair q.val with sqTail := tail.toNat }).pairOpen q.val then
      (Dev.examine (y.setPair q.val { s.dev.pair q.val with sqTail := tail.toNat }) q.val
        (y.setPair q.val { s.dev.pair q.val with sqTail := tail.toNat }).capture s.mem (s.dev.coveredBy q.val n covered)).nextBell
      else y.setPair q.val { s.dev.pair q.val with sqTail := tail.toNat }) hfree).trans ?_
    exact if_pos ho
  have hz := examined (mem := s.mem) (q := q.val) z hslow
  have hy : Alters [.free] [] s.dev.begin_ y :=
    (Alters.refl s.dev.begin_).direct (fun p hp => by
      cases p
      case free => exact absurd (List.mem_singleton_self _) hp
      all_goals rfl) rfl rfl rfl rfl rfl
  refine gives_barQueues rfl hb hw hy ((cmdFrame_setPair y q.val _).trans (hz.frame.trans (cmdFrame_nextBell _))) (by decide)
    fun t ht => ⟨?_, ?_⟩
  · rw [ht.pair, pair_nextBell, hz.pair, Dev.pair_setPair_self]
    rfl
  · rw [ht.cmd]
    exact congrArg (· + 1) hz.bells

theorem gives_badDoorbell {tail : Word} {covered : List Packet} (hbad : ¬(serialAhead (s.dev.pair q.val).sqTail tail.toNat < 2 ^ 31 ∧
    serialAhead (s.dev.pair q.val).sqHead tail.toNat ≤ s.dev.sqDepth q.val)) : Gives (.sqDoorbell q tail covered) s fun t =>
    (t.dev.pair q.val = s.dev.pair q.val ∧ Counts C.CMDQ_DB_ERR_CNT 1 s t ∧ t.dev.bit (Reg.CMDQ_Q_EVT q.val) 0 = true) ∧
      Leaves [] [] s t := by
  let y := s.dev.begin_.mark (Reg.CMDQ_Q_EVT q.val) 0
  have hw : s.dev.begin_.ringSq q.val tail covered s.mem = y.bump C.CMDQ_DB_ERR_CNT := by
    unfold Dev.ringSq
    rw [show s.dev.begin_.flag F.CMDQ_STAT_DECLARED = false from hd, if_neg Bool.false_ne_true]
    exact if_neg hbad
  have hne : Reg.CMDQ_Q_EVT q.val ≠ Reg.CMDQ_DB_ERR_CNT ∧ Reg.CMDQ_Q_EVT q.val ≠ Reg.CMDQ_CNT_SAT := by
    simp only [Reg.CMDQ_Q_EVT, Reg.CMDQ_DB_ERR_CNT, Reg.CMDQ_CNT_SAT]; omega
  have hc := (cmdFrame_put s.dev.begin_ (Reg.CMDQ_Q_EVT q.val) _ (cmdqOwn_evt q)).trans
    (cmdFrame_bumpOwn y C.CMDQ_DB_ERR_CNT 1 rfl rfl rfl)
  refine gives_barQueues rfl hb hw (.refl _) hc (by decide) fun t ht => ⟨?_, ?_, ?_⟩
  · rw [ht.pair]
    exact pair_bumpBy y C.CMDQ_DB_ERR_CNT 1 q.val
  · have hy : y.cnt C.CMDQ_DB_ERR_CNT = s.dev.cnt C.CMDQ_DB_ERR_CNT := Dev.cnt_congr _ (Dev.reg_put_ne s.dev.begin_ _ _ _ hne.1.symm) rfl
    unfold Counts
    rw [ht.cnt _ rfl rfl, Dev.bump, Dev.cnt_bumpBy y _ 1 (by decide), hy]
  · rw [ht.bit _ _ (evtOwn_queue (cmdqOwn_evt q))]
    unfold Dev.bit
    rw [Dev.bump, Dev.reg_bumpBy_ne y C.CMDQ_DB_ERR_CNT 1 _ hne.1 hne.2]
    exact Dev.bit_setBit_self s.dev.begin_ _ 0 true (by decide)

/-- The host has read replies: their entries are free. -/
theorem gives_released {head : Word} (h : serialAhead (s.dev.pair q.val).cqHead head.toNat ≤
    serialAhead (s.dev.pair q.val).cqHead (s.dev.pair q.val).cqTail) : Gives (.cqHeadWrite q head) s fun t =>
    t.dev.pair q.val = { s.dev.pair q.val with
      cqHead := head.toNat, replies := (s.dev.pair q.val).replies.drop (serialAhead (s.dev.pair q.val).cqHead head.toNat) } ∧
    Leaves [] [] s t := by
  have hw : s.dev.begin_.ringCq q.val head = s.dev.begin_.setPair q.val { s.dev.pair q.val with
      cqHead := head.toNat, replies := (s.dev.pair q.val).replies.drop (serialAhead (s.dev.pair q.val).cqHead head.toNat) } := by
    unfold Dev.ringCq
    rw [show s.dev.begin_.flag F.CMDQ_STAT_DECLARED = false from hd, if_neg Bool.false_ne_true]
    exact if_pos h
  refine gives_barQueues rfl hb hw (.refl _) (cmdFrame_setPair _ q.val _) (by decide) fun t ht => ?_
  rw [ht.pair, Dev.pair_setPair_self]

theorem gives_badHead {head : Word} (h : serialAhead (s.dev.pair q.val).cqHead (s.dev.pair q.val).cqTail <
    serialAhead (s.dev.pair q.val).cqHead head.toNat) : Gives (.cqHeadWrite q head) s fun t =>
    (t.dev.pair q.val = s.dev.pair q.val ∧ t.dev.bit (Reg.CMDQ_Q_EVT q.val) 1 = true) ∧ Leaves [] [] s t := by
  have hw : s.dev.begin_.ringCq q.val head = s.dev.begin_.mark (Reg.CMDQ_Q_EVT q.val) 1 := by
    unfold Dev.ringCq
    rw [show s.dev.begin_.flag F.CMDQ_STAT_DECLARED = false from hd, if_neg Bool.false_ne_true]
    exact if_neg (Nat.not_le.mpr h)
  refine gives_barQueues rfl hb hw (.refl _) (cmdFrame_put _ _ _ (cmdqOwn_evt q)) (by decide) fun t ht => ⟨ht.pair q.val, ?_⟩
  rw [ht.bit _ _ (evtOwn_queue (cmdqOwn_evt q))]
  exact Dev.bit_setBit_self s.dev.begin_ _ 1 true (by decide)

end

/-! ## The declaration of failure (R455) -/

/-- Work that ends commands whose replies are discarded: none is added, and neither the Bellows nor the count of declarations changes. -/
structure Winds (x y : Dev) : Prop where
  blw : y.blw = x.blw
  decl : y.reg Reg.CMDQ_DECL_CNT = x.reg Reg.CMDQ_DECL_CNT
  running : y.cmd.running.Sublist x.cmd.running

theorem Winds.refl (x : Dev) : Winds x x := ⟨rfl, rfl, .refl _⟩

theorem Winds.trans {x y z : Dev} (h : Winds x y) (g : Winds y z) : Winds x z :=
  ⟨g.blw.trans h.blw, g.decl.trans h.decl, g.running.trans h.running⟩

theorem Alters.winds {parts : List Part} {regs : List Nat} {x y : Dev} (h : Alters parts regs x y) (hp : .blw ∉ parts)
    (hr : Reg.CMDQ_DECL_CNT ∉ regs) : Winds x y :=
  ⟨h.same .blw hp, h.reg _ hr, by rw [h.cmd]⟩

/-- Every outstanding command has lost its reply. -/
def AllMute (d : Dev) : Prop := ∀ r ∈ d.cmd.running, r.mute = true

theorem Winds.allMute {x y : Dev} (h : Winds x y) (hx : AllMute x) : AllMute y := fun r hr => hx r (h.running.subset hr)

theorem running_recount (d : Dev) (q : Nat) : (d.recount q).cmd.running = d.cmd.running := (cmdFrame_recount d q).running

theorem winds_finish (d : Dev) {r : Running} (status : Nat) (results : List Byte) (h : r.mute = true) :
    Winds d (d.finish r status results) ∧ (d.finish r status results).cmd.running = d.cmd.running.erase r := by
  have he : d.finish r status results = (d.retire r).recount r.pair := if_pos h
  rw [he]
  refine ⟨⟨(cmdFrame_recount (d.retire r) r.pair).same .blw, ?_, ?_⟩, running_recount _ _⟩
  · rw [reg_recount (d.retire r)]
    · rfl
    · decide
    · simp only [Reg.CMDQ_DECL_CNT, Reg.CMDQ_Q_STAT]; omega
  · rw [running_recount]
    exact List.erase_sublist

theorem winds_complete {d : Dev} (h : AllMute d) (q tag status : Nat) (results : List Byte) : Winds d (d.complete q tag status results) := by
  unfold Dev.complete
  split
  · rename_i r hr
    exact (winds_finish d status results (h r (List.mem_of_find?_eq_some hr))).1
  · exact .refl d

/-- The registers that reading beats counts in. -/
abbrev readRegs : List Nat := (List.range 20).map Reg.MEM_CH_CE_CNT ++ [Reg.MEM_CH_CNT_SAT, Reg.MEM_CE_CNT, C.MEM_CE_CNT.sat, Reg.MEM_UE_CNT,
  C.MEM_UE_CNT.sat, Reg.MEM_EVT]

theorem winds_bumpBy (d : Dev) (c : Cnt) (n : Nat) (h : Reg.CMDQ_DECL_CNT ≠ c.addr) (hs : Reg.CMDQ_DECL_CNT ≠ c.sat) :
    Winds d (d.bumpBy c n) := by
  refine ⟨?_, Dev.reg_bumpBy_ne d c n _ h hs, ?_⟩
  · unfold Dev.bumpBy Dev.setCnt
    dsimp only
    split_ifs <;> rfl
  · unfold Dev.bumpBy Dev.setCnt
    dsimp only
    split_ifs <;> exact .refl _

theorem winds_memc (d : Dev) (m : MemSt) : Winds d { d with memc := m } := ⟨rfl, rfl, .refl _⟩

theorem winds_noteCorrected (d : Dev) (b die : Nat) : Winds d (d.noteCorrected b die) := by
  unfold Dev.noteCorrected
  refine ((winds_bumpBy d (C.MEM_CH_CE_CNT _) 1 ?_ (fun h => absurd (show (Reg.CMDQ_DECL_CNT : Nat) = Reg.MEM_CH_CNT_SAT from h) (by decide))).trans (winds_bumpBy _ C.MEM_CE_CNT 1 (by decide) (by decide))).trans (winds_memc _ _)
  simp only [Reg.CMDQ_DECL_CNT, Reg.MEM_CH_CE_CNT]; omega

theorem winds_countUe (d : Dev) (b : Nat) : Winds d (d.countUe b) := by
  have h1 := (winds_bumpBy d C.MEM_UE_CNT 1 (by decide) (by decide)).trans
    (⟨rfl, rfl, .refl _⟩ : Winds (d.bump C.MEM_UE_CNT) ((d.bump C.MEM_UE_CNT).putWide Reg.MEM_UE_ADDR_LO (b * 16)))
  unfold Dev.countUe
  dsimp only
  generalize (d.bump C.MEM_UE_CNT).putWide Reg.MEM_UE_ADDR_LO (b * 16) = x at h1
  have h2 : Winds x (if x.bit Reg.MEM_EVT 0 = true then x
      else (x.setBit Reg.MEM_EVT 0 true).raise Ev.memUe (b * 16 % 2 ^ 32) (b * 16 / 2 ^ 32)) := by
    split
    · exact .refl x
    · exact ⟨rfl, Dev.reg_put_ne x _ _ _ (by decide), .refl _⟩
  generalize (if x.bit Reg.MEM_EVT 0 = true then x
      else (x.setBit Reg.MEM_EVT 0 true).raise Ev.memUe (b * 16 % 2 ^ 32) (b * 16 / 2 ^ 32)) = y at h2
  split
  · exact (h1.trans h2).trans (winds_memc _ _)
  · exact (h1.trans h2).trans (winds_memc _ _)

theorem winds_scanBeat (d : Dev) (b : Nat) : Winds d (d.scanBeat b) := by
  unfold Dev.scanBeat
  split
  · exact .refl d
  · split
    · exact .refl d
    · exact (winds_noteCorrected d b _).trans (winds_memc _ _)
    · exact (winds_countUe d b).trans (winds_memc _ _)

theorem winds_foldl {α : Type} {f : Dev → α → Dev} (h : ∀ d a, Winds d (f d a)) (l : List α) : ∀ d, Winds d (l.foldl f d) := by
  induction l with
  | nil => exact .refl
  | cons a l ih => exact fun d => (h d a).trans (ih _)

theorem winds_scanFree (d : Dev) : Winds d d.scanFree := by
  unfold Dev.scanFree
  split
  · exact .refl d
  · exact (winds_foldl winds_scanBeat _ d).trans ⟨rfl, rfl, .refl _⟩

theorem winds_closeScrub {d : Dev} (h : AllMute d) (flags status : Nat) (results : List Byte) :
    Winds d (d.closeScrub flags status results) := by
  unfold Dev.closeScrub
  split
  · exact .refl d
  · rename_i j _
    dsimp only
    have h1 : Winds d (Dev.setFlag { d with memc := { d.memc with scrub := none } } F.MEM_STAT_SCRUB_BUSY false) :=
      ⟨rfl, Dev.reg_put_ne _ _ _ _ (by decide), .refl _⟩
    generalize Dev.setFlag { d with memc := { d.memc with scrub := none } } F.MEM_STAT_SCRUB_BUSY false = x at h1
    have h2 : Winds x (if (x.haltedAt j.summary || x.haltedAt (j.summary + 255)) = true then x else x.memw j.summary (x.scrubSummary j flags)) := by
      split
      · exact .refl x
      · exact ⟨rfl, rfl, .refl _⟩
    exact (h1.trans h2).trans (winds_complete ((h1.trans h2).allMute h) _ _ _ _)

theorem winds_stopWork {d : Dev} (h : AllMute d) (r : Running) : Winds d (d.stopWork r) := by
  have hpart : ∀ (x y : Dev), y.blw = x.blw → y.regs = x.regs → y.cmd = x.cmd → Winds x y :=
    fun x y hb hr hc => ⟨hb, Dev.reg_congr hr _, by rw [hc]⟩
  have hreg : ∀ (x : Dev) (f : Fld), Reg.CMDQ_DECL_CNT ≠ f.addr → x.blw = d.blw → x.regs = d.regs → x.cmd = d.cmd →
      Winds d (x.setFlag f false) := fun x f hf hb hr hc => (hpart d x hb hr hc).trans ⟨rfl, Dev.reg_put_ne x _ _ _ hf, .refl _⟩
  unfold Dev.stopWork
  dsimp only
  split_ifs
  · exact hreg _ F.TIME_STAT_FMEAS_BUSY (by decide) rfl rfl rfl
  · exact hpart d _ rfl rfl rfl
  · exact hreg _ F.TAP_STAT_CAL_BUSY (by decide) rfl rfl rfl
  · exact hreg _ F.TURF_STAT_DUMP_BUSY (by decide) rfl rfl rfl
  · exact (winds_scanFree d).trans (winds_closeScrub ((winds_scanFree d).allMute h) _ _ _)
  · exact hreg _ F.MEM_STAT_WIPE_BUSY (by decide) rfl rfl rfl
  · exact .refl d

/-- The work of an outstanding command stops, and the command ends. -/
abbrev Dev.cutShort (d : Dev) (r : Running) : Dev := (d.stopWork r).finish r 0x0206 []

/-- Every command listed has ended as often as it is listed. -/
theorem winds_cutShort {l : List Running} (hl : ∀ r ∈ l, r.mute = true) : ∀ d, AllMute d → Winds d (l.foldl Dev.cutShort d) ∧
    ∀ r, (l.foldl Dev.cutShort d).cmd.running.count r ≤ d.cmd.running.count r - l.count r := by
  induction l with
  | nil => exact fun d _ => ⟨.refl d, fun r => Nat.le_refl _⟩
  | cons a l ih =>
    intro d hd
    have h1 := winds_stopWork hd a
    obtain ⟨h2, hrun⟩ := winds_finish (d.stopWork a) 0x0206 [] (hl a List.mem_cons_self)
    obtain ⟨h3, hcount⟩ := ih (fun r hr => hl r (List.mem_cons_of_mem _ hr)) (d.cutShort a) ((h1.trans h2).allMute hd)
    refine ⟨(h1.trans h2).trans h3, fun r => (hcount r).trans ?_⟩
    have hless := h1.running.count_le r
    rw [hrun, List.count_erase, List.count_cons]
    omega

/-- The commands that a declaration ends, and those whose replies alone it discards. -/
theorem declare_eq (d : Dev) : ∃ e : Dev, d.declare = ((e.setFlag F.CMDQ_STAT_DECLARED true).bump C.CMDQ_DECL_CNT).raise Ev.hostDeclared ∧
    e.blw.stopReq = true ∧ e.reg Reg.CMDQ_DECL_CNT = d.reg Reg.CMDQ_DECL_CNT ∧
    ∀ r : Running, r ∈ e.cmd.running → r.mute = true ∧ r.abortable = false := by
  let x : Dev := { d with blw := { d.blw with stopReq := true } }
  let y := if x.scanState = stRunning then { x with scan := { x.scan with holdNext := true } } else x
  let z := y.muteAll
  have hy : y.blw = x.blw ∧ y.regs = d.regs := by
    show (if _ then _ else _ : Dev).blw = _ ∧ (if _ then _ else _ : Dev).regs = _
    split <;> exact ⟨rfl, rfl⟩
  have hz : AllMute z := by
    intro r hr
    obtain ⟨r', -, rfl⟩ := List.mem_map.mp hr
    rfl
  obtain ⟨hw, hcount⟩ := winds_cutShort (l := z.cmd.running.filter Running.abortable)
    (fun r hr => hz r (List.mem_of_mem_filter hr)) z hz
  let e := (z.cmd.running.filter Running.abortable).foldl Dev.cutShort z
  refine ⟨e, rfl, ?_, ?_, fun r hr => ⟨hw.allMute hz r hr, ?_⟩⟩
  · exact (congrArg BlwSt.stopReq hw.blw).trans (congrArg BlwSt.stopReq hy.1)
  · exact hw.decl.trans (Dev.reg_congr hy.2 _)
  · by_contra ha
    rw [Bool.not_eq_false] at ha
    have hpos : 0 < e.cmd.running.count r := List.count_pos_iff.mpr hr
    have hle : e.cmd.running.count r ≤ _ := hcount r
    rw [List.count_filter ha] at hle
    omega

theorem gives_declare {s : State} (hb : s.dev.barOpen = true) : Gives (.cmdqDeclare 0x4641494C#32) s fun t =>
    t.dev.flag F.CMDQ_STAT_DECLARED = true ∧ Counts C.CMDQ_DECL_CNT 1 s t ∧ Pending t Ev.hostDeclared ∧ t.dev.blw.stopReq = true ∧
    ∀ r ∈ t.dev.cmd.running, r.mute = true ∧ r.abortable = false := by
  obtain ⟨e, he, hstop, hdecl, hrun⟩ := declare_eq s.dev.begin_
  have hw : (if s.dev.begin_.barOpen then s.dev.begin_.writeDeclare 0x4641494C#32 else s.dev.begin_) =
      ((e.setFlag F.CMDQ_STAT_DECLARED true).bump C.CMDQ_DECL_CNT).raise Ev.hostDeclared := (if_pos hb).trans ((if_pos rfl).trans he)
  let f := fun (_ : List Host.Cell) (d : Dev) => if d.barOpen then d.writeDeclare 0x4641494C#32 else d
  have hq := onDev_queueStep s f
  have hs := onDev_settled s f
  have hfw : f s.mem s.dev.begin_ = _ := hw
  rw [hfw] at hq hs
  let x := e.setFlag F.CMDQ_STAT_DECLARED true
  have hx : Alters [] [Reg.CMDQ_DECL_CNT, Reg.CMDQ_CNT_SAT] x ((x.bump C.CMDQ_DECL_CNT).raise Ev.hostDeclared) :=
    ((Alters.refl x).bump C.CMDQ_DECL_CNT (by decide) (by decide) rfl).raise _ _ _
  refine ⟨s.onDev f, rfl, ?_, ?_, hs.raised ⟨Ev.hostDeclared, false, 0, 0⟩ (List.mem_append_right _ List.mem_cons_self) (by decide), ?_, ?_⟩
  · exact (hq.flag _ rfl).trans ((hx.flag (f := F.CMDQ_STAT_DECLARED) (by decide)).trans
      (Dev.flag_setFlag_self e F.CMDQ_STAT_DECLARED true (by decide) rfl))
  · have hcnt : x.cnt C.CMDQ_DECL_CNT = s.dev.cnt C.CMDQ_DECL_CNT :=
      congrArg BitVec.toNat ((Dev.reg_put_ne e _ _ _ (by decide)).trans hdecl)
    have hsaid : ((x.bump C.CMDQ_DECL_CNT).raise Ev.hostDeclared).cnt C.CMDQ_DECL_CNT = (x.bump C.CMDQ_DECL_CNT).cnt C.CMDQ_DECL_CNT :=
      congrArg BitVec.toNat (Dev.reg_raise (x.bump C.CMDQ_DECL_CNT) Ev.hostDeclared 0 0 Reg.CMDQ_DECL_CNT)
    have hbump := Dev.cnt_bumpBy x C.CMDQ_DECL_CNT 1 (by decide)
    rw [hcnt] at hbump
    exact (hq.cnt _ rfl rfl).trans (hsaid.trans hbump)
  · have hshown : (s.onDev f).dev.blw = ((x.bump C.CMDQ_DECL_CNT).raise Ev.hostDeclared).blw := hs.parts .blw
    have hkept : ((x.bump C.CMDQ_DECL_CNT).raise Ev.hostDeclared).blw = e.blw := hx.same .blw (by decide)
    rw [hshown, hkept, hstop]
  · rw [hq.cmd, hx.cmd]
    exact hrun

theorem gives_noDeclare {s : State} (hb : s.dev.barOpen = true) {v : Word} (h : v ≠ 0x4641494C#32) :
    Gives (.cmdqDeclare v) s fun t => Leaves [] [] s t :=
  gives_leaves (gives_bar rfl hb (if_neg h) (.refl _) (by decide) fun _ _ _ => trivial)

/-! ## Fetching (R438) -/

/-- The part with its oldest covered entry fetched. -/
def Dev.fetchedOne (d : Dev) (q : Nat) (w : Waiting) (rest : List Waiting) : Dev := (d.setPair q { d.pair q with rung := rest }).fetchAt q w

theorem cmdFrame_fetchedOne (d : Dev) (q : Nat) (w : Waiting) (rest : List Waiting) : CmdFrame d (d.fetchedOne q w rest) :=
  (cmdFrame_setPair d q _).trans (cmdFrame_setPair _ q _)

theorem pair_fetchedOne (d : Dev) (q : Nat) (w : Waiting) (rest : List Waiting) : (d.fetchedOne q w rest).pair q = { d.pair q with
    rung := rest
    sqHead := ((d.pair q).sqHead + 1) % 2 ^ 32
    reserved := (d.pair q).reserved + 2
    nFetched := (d.pair q).nFetched + 1
    fetched := (d.pair q).fetched ++ [w] } := by
  unfold Dev.fetchedOne Dev.fetchAt
  dsimp only
  rw [Dev.pair_setPair_self, Dev.pair_setPair_self]

section
variable {d : Dev} {q : Nat} {w : Waiting} {rest : List Waiting}

theorem fetch_slow (hr : (d.pair q).rung = w :: rest) (hl : w.late = false) (hc : 2 ≤ d.cqFree q)
    (hf : fastBody w.pkt w.cap w.last = none) (mem : List Host.Cell) :
    d.fetch q false mem = (d.fetchedOne q w rest).refuseUnknown 16384 q := by
  unfold Dev.fetch
  dsimp only
  rw [hr]
  dsimp only
  rw [hl, if_neg Bool.false_ne_true, if_neg (Nat.not_lt.mpr hc), Bool.false_and, if_neg Bool.false_ne_true, hf]
  rfl

/-- A command of the tables waits for its turn. -/
theorem refuseUnknown_known (k : Nat) (h : (d.pair q).fetched = [w]) (ho : (opForm? w.pkt.opcode.toNat).isSome = true) :
    d.refuseUnknown k q = d := by
  cases k with
  | zero => rfl
  | succ k =>
    unfold Dev.refuseUnknown
    rw [h]
    dsimp only
    rw [Option.isNone_eq_false_iff.mpr ho, Bool.false_and, if_neg Bool.false_ne_true]

theorem refuseUnknown_none (k : Nat) (h : (d.pair q).fetched = []) : d.refuseUnknown k q = d := by
  cases k with
  | zero => rfl
  | succ k => unfold Dev.refuseUnknown; rw [h]

/-- The refusal of a packet of no defined opcode. -/
def Dev.refusedOne (d : Dev) (q : Nat) (w : Waiting) : Dev :=
  ((d.setPair q { d.pair q with fetched := [] }).noteLatency q w.rung).refusal q w.pkt 0x0101 []

/-- What is left of a pair when a refusal has been posted. -/
theorem pair_post (d : Dev) (q : Nat) (p : Packet) (status : Nat) (results : List Byte) :
    ((d.post q p status results).pair q).rung = (d.pair q).rung ∧ ((d.post q p status results).pair q).fetched = (d.pair q).fetched := by
  unfold Dev.post
  dsimp only
  split
  · rw [Dev.pair_setPair_self]; exact ⟨rfl, rfl⟩
  · split <;> simp only [Dev.pair_raise, Dev.pair_setPair_self, and_self]

theorem refusedOne_spec (hn : (opForm? w.pkt.opcode.toNat).isNone = true) (hs : (d.pair q).silent = false) :
    CmdFrame d (d.refusedOne q w) ∧ ((d.refusedOne q w).pair q).rung = (d.pair q).rung ∧ ((d.refusedOne q w).pair q).fetched = [] ∧
    ((d.refusedOne q w).pair q).replies = (d.pair q).replies ++ [⟨0x0101, w.pkt.opcode.toNat, w.pkt.tag.toNat, []⟩] := by
  have hop : w.pkt.opcode ≠ 0x0602#16 := by
    intro he
    rw [he] at hn
    exact absurd hn (by decide)
  let x := (d.setPair q { d.pair q with fetched := [] }).noteLatency q w.rung
  have hx : x.pair q = { d.pair q with
      fetched := [], ackMax := max (d.pair q).ackMax ((d.time.ticks - w.rung) * 2 / 5) } := by
    refine (pair_noteLatency _ q w.rung).trans ?_
    rw [Dev.pair_setPair_self]
    rfl
  let y := x.bump C.CMDQ_FMT_ERR_CNT
  have hy : y.pair q = x.pair q := pair_bumpBy x C.CMDQ_FMT_ERR_CNT 1 q
  let z := y.setPair q { y.pair q with nRefused := (y.pair q).nRefused + 1 }
  have hz : z.pair q = { x.pair q with nRefused := (x.pair q).nRefused + 1 } := by
    rw [← hy]
    exact Dev.pair_setPair_self _ _ _
  have he : d.refusedOne q w = ((z.post q w.pkt 0x0101 []).release q).recount q := by
    unfold Dev.refusedOne Dev.refusal Dev.countRefused
    simp only [hop, false_and, if_false, if_true, show (0x0101 : Nat) / 256 = 1 from rfl, show ¬(1 : Nat) = 6 by decide]
    rfl
  obtain ⟨hpost, hreply⟩ := post_spec z q w.pkt 0x0101 [] (by rw [hz, hx]; exact hs)
  obtain ⟨hrung, hfetched⟩ := pair_post z q w.pkt 0x0101 []
  have hp : ((z.post q w.pkt 0x0101 []).release q).pair q = { (z.post q w.pkt 0x0101 []).pair q with
      reserved := ((z.post q w.pkt 0x0101 []).pair q).reserved - 1 } := Dev.pair_setPair_self _ _ _
  rw [he, pair_recount, hp]
  refine ⟨(cmdFrame_setPair d q _).trans <| (cmdFrame_noteLatency _ _ _).trans <| (cmdFrame_bump_fmt x).trans <|
    (cmdFrame_setPair y q _).trans <| hpost.trans <| (cmdFrame_release _ q).trans (cmdFrame_recount _ q), ?_, ?_, ?_⟩
  · dsimp only
    rw [hrung, hz, hx]
  · dsimp only
    rw [hfetched, hz, hx]
  · dsimp only
    rw [hreply, hz, hx]

theorem refuseUnknown_one (k : Nat) (h : (d.pair q).fetched = [w]) (hn : (opForm? w.pkt.opcode.toNat).isNone = true)
    (hf : d.fenced q w.pkt = false) (hs : (d.pair q).silent = false) : d.refuseUnknown (k + 1) q = d.refusedOne q w := by
  obtain ⟨-, -, hnone, -⟩ := refusedOne_spec hn hs
  rw [← refuseUnknown_none k hnone]
  conv_lhs => unfold Dev.refuseUnknown
  rw [h]
  dsimp only
  rw [hn, hf, Bool.not_false, Bool.and_self, if_pos rfl]
  rfl

end

section
variable {s : State} {q : Fin 16} {w : Waiting} {rest : List Waiting} (hr : (s.dev.pair q.val).rung = w :: rest) (hl : w.late = false)
  (ho : s.dev.pairOpen q.val = true) (hc : 2 ≤ s.dev.cqFree q.val) (hf : fastBody w.pkt w.cap w.last = none)
  (hnone : (s.dev.pair q.val).fetched = [])
include hr hl ho hc hf hnone

theorem gives_fetched (hop : (opForm? w.pkt.opcode.toNat).isSome = true) : Gives (.commandFetch q false) s fun t =>
    t.dev.pair q.val = { s.dev.pair q.val with
      rung := rest
      sqHead := ((s.dev.pair q.val).sqHead + 1) % 2 ^ 32
      reserved := (s.dev.pair q.val).reserved + 2
      nFetched := (s.dev.pair q.val).nFetched + 1
      fetched := [w] } ∧ Leaves [] [] s t := by
  have hp := pair_fetchedOne s.dev.begin_ q.val w rest
  have hw : s.dev.begin_.fetch q.val false s.mem = s.dev.begin_.fetchedOne q.val w rest :=
    (fetch_slow (d := s.dev.begin_) hr hl hc hf s.mem).trans
      (refuseUnknown_known _ (by rw [hp]; exact congrArg (· ++ [w]) hnone) hop)
  refine gives_queues rfl ((if_pos ho).trans hw) (.refl _) (cmdFrame_fetchedOne _ _ _ _) (by decide) fun t ht => ?_
  rw [ht.pair, hp]
  exact congrArg (fun l => { s.dev.pair q.val with
    rung := rest, sqHead := ((s.dev.pair q.val).sqHead + 1) % 2 ^ 32, reserved := (s.dev.pair q.val).reserved + 2,
    nFetched := (s.dev.pair q.val).nFetched + 1, fetched := l ++ [w] }) hnone

theorem gives_unknown (hn : (opForm? w.pkt.opcode.toNat).isNone = true) (hfence : s.dev.fenced q.val w.pkt = false)
    (hs : (s.dev.pair q.val).silent = false) : Gives (.commandFetch q false) s fun t =>
    ((t.dev.pair q.val).rung = rest ∧ (t.dev.pair q.val).fetched = [] ∧
      (t.dev.pair q.val).replies = (s.dev.pair q.val).replies ++ [⟨0x0101, w.pkt.opcode.toNat, w.pkt.tag.toNat, []⟩]) ∧
    Leaves [] [] s t := by
  have hp := pair_fetchedOne s.dev.begin_ q.val w rest
  have hs' : ((s.dev.begin_.fetchedOne q.val w rest).pair q.val).silent = false := by rw [hp]; exact hs
  obtain ⟨hframe, hrung, hfetched, hreplies⟩ := refusedOne_spec hn hs'
  have hw : s.dev.begin_.fetch q.val false s.mem = (s.dev.begin_.fetchedOne q.val w rest).refusedOne q.val w :=
    (fetch_slow (d := s.dev.begin_) hr hl hc hf s.mem).trans
      (refuseUnknown_one 16383 (by rw [hp]; exact congrArg (· ++ [w]) hnone) hn hfence hs')
  refine gives_queues rfl ((if_pos ho).trans hw) (.refl _) ((cmdFrame_fetchedOne _ _ _ _).trans hframe) (by decide) fun t ht => ?_
  rw [ht.pair, hrung, hfetched, hreplies, hp]
  exact ⟨rfl, rfl, rfl⟩

end

/-! ## A missed deadline (R444) -/

theorem missOne_first {d : Dev} {q : Nat} {w : Waiting} (rest : List Waiting) (hl : w.late = false)
    (hf : bitAt w.pkt.flags.toNat 0 = false) : d.missOne q (w :: rest) = some ({ w with late := true } :: rest) := by
  unfold Dev.missOne
  rw [hf, hl, Bool.false_and, if_neg Bool.false_ne_true, if_neg Bool.false_ne_true]

theorem gives_ackMiss {s : State} {q : Fin 16} {w : Waiting} {rest : List Waiting} (hw : (s.dev.pair q.val).fetched = w :: rest)
    (hl : w.late = false) (hlive : s.dev.pairLive q.val = true) (hf : bitAt w.pkt.flags.toNat 0 = false) :
    Gives (.ackDeadlineMiss q) s fun t => (t.dev.pair q.val = { s.dev.pair q.val with
      fetched := { w with late := true } :: rest, nMiss := (s.dev.pair q.val).nMiss + 1 } ∧
      Counts C.CMDQ_ACK_MISS_CNT 1 s t ∧ t.dev.bit (Reg.CMDQ_Q_EVT q.val) 2 = true) ∧ Leaves [] [] s t := by
  let x := s.dev.begin_.setPair q.val { s.dev.pair q.val with
    fetched := { w with late := true } :: rest, nMiss := (s.dev.pair q.val).nMiss + 1 }
  let y := x.bump C.CMDQ_ACK_MISS_CNT
  let z := y.mark (Reg.CMDQ_Q_EVT q.val) 2
  let e := if y.bit (Reg.CMDQ_Q_EVT q.val) 2 then z else z.raise Ev.ackMiss q.val (z.reg (Reg.CMDQ_Q_ACK_LAT q.val)).toNat
  have hmiss : s.dev.begin_.ackMiss q.val = e := by
    unfold Dev.ackMiss
    dsimp only
    rw [show (s.dev.begin_.pair q.val).fetched = w :: rest from hw, missOne_first rest hl hf]
    rfl
  have he : CmdFrame z e ∧ e.cmd = z.cmd ∧ e.regs = z.regs := by
    show CmdFrame z (if _ then _ else _) ∧ (if _ then _ else _ : Dev).cmd = _ ∧ (if _ then _ else _ : Dev).regs = _
    split
    · exact ⟨.refl z, rfl, rfl⟩
    · exact ⟨cmdFrame_raise z _ _ _, rfl, rfl⟩
  obtain ⟨hframe, hcmd, hregs⟩ := he
  have hne : Reg.CMDQ_ACK_MISS_CNT ≠ Reg.CMDQ_Q_EVT q.val := by simp only [Reg.CMDQ_Q_EVT, Reg.CMDQ_ACK_MISS_CNT]; omega
  refine gives_queues rfl ((if_pos hlive).trans hmiss) (.refl _) ((cmdFrame_setPair _ q.val _).trans
    ((cmdFrame_bumpOwn x C.CMDQ_ACK_MISS_CNT 1 rfl rfl rfl).trans ((cmdFrame_put y _ _ (cmdqOwn_evt q)).trans hframe))) (by decide)
    fun t ht => ⟨?_, ?_, ?_⟩
  · rw [ht.pair]
    refine (congrArg (fun c : CmdSt => sget _ q.val c.pairs) hcmd).trans ?_
    exact (pair_bumpBy x C.CMDQ_ACK_MISS_CNT 1 q.val).trans (Dev.pair_setPair_self _ _ _)
  · unfold Counts
    rw [ht.cnt _ rfl rfl]
    have hcnt : e.cnt C.CMDQ_ACK_MISS_CNT = y.cnt C.CMDQ_ACK_MISS_CNT :=
      congrArg BitVec.toNat ((Dev.reg_congr hregs _).trans (Dev.reg_put_ne y _ _ _ hne))
    rw [hcnt]
    exact Dev.cnt_bumpBy x C.CMDQ_ACK_MISS_CNT 1 (by decide)
  · rw [ht.bit _ _ (evtOwn_queue (cmdqOwn_evt q))]
    unfold Dev.bit
    rw [Dev.reg_congr hregs]
    exact Dev.bit_setBit_self y _ 2 true (by decide)

/-- Settles O52: a rule of the queues for each clause. -/
theorem queuePairsRun : Obligations.QueuePairsRun := by
  unfold Obligations.QueuePairsRun
  intro s q p
  refine ⟨fun hb => ⟨fun v he hl => ⟨fun hr => ?_, fun hr => ?_⟩, fun v he => ?_,
    fun hd => ⟨fun tail covered => ?_, fun head => ⟨gives_released hb hd, fun h => gives_imp (gives_badHead hb hd h) fun t => and_assoc.mp⟩⟩,
    gives_declare hb, fun v => gives_noDeclare hb⟩, fun w rest hr hl ho hc hf hnone => ⟨gives_fetched hr hl ho hc hf hnone, fun hn hfence hs => ?_⟩,
    fun w rest hw hl hlive hf => ?_⟩
  · exact gives_imp (gives_enable hb he hl hr) fun t ⟨⟨h1, h2, h3, h4, h5⟩, h6⟩ => ⟨h1, h2, h3, h4, h5, h6⟩
  · exact gives_imp (gives_notReady hb he hr) fun t => and_assoc.mp
  · exact gives_imp (gives_disable hb he) fun t => and_assoc.mp
  · intro n good got
    refine ⟨fun hg ho hslow => ?_, fun hg => ?_⟩
    · exact gives_imp (gives_doorbell hb hd hg.1 hg.2 ho hslow) fun t => and_assoc.mp
    · exact gives_imp (gives_badDoorbell hb hd hg) fun t ⟨⟨h1, h2, h3⟩, h4⟩ => ⟨h1, h2, h3, h4⟩
  · exact gives_imp (gives_unknown hr hl ho hc hf hnone hn hfence hs) fun t ⟨⟨h1, h2, h3⟩, h4⟩ => ⟨h1, h2, h3, h4⟩
  · exact gives_imp (gives_ackMiss hw hl hlive hf) fun t ⟨⟨h1, h2, h3⟩, h4⟩ => ⟨h1, h2, h3, h4⟩

end Sys2Proof.Machine
end

section
/-! SUPPORT. The security commands: images, key slots, lifecycle changes, identity and attestation, and the end of `mem.wipe` (R591 to R598,
R525). -/

namespace Sys2Proof.Machine

/-! ## What reading a token or an image finds -/

theorem dmaRead_clean {d : Dev} (hf : d.memc.faults = []) (hh : d.memHalted = false) (mem : List Host.Cell) (a n : Nat) :
    d.dmaRead mem a n = (d, some (memRead mem a n)) := by
  unfold Dev.dmaRead
  rw [readMem_clean hf hh]
  rfl

/-- A token that reads well and passes its checks lets the command go on. -/
theorem withToken_good {d : Dev} (hf : d.memc.faults = []) (hh : d.memHalted = false) {mem : List Host.Cell} {a action target other : Nat}
    (h : d.tokenRefusal (memRead mem a tokenLen) action target other = 0) (k : Dev → Verdict) :
    d.withToken mem a action target other k = k d := by
  unfold Dev.withToken
  rw [dmaRead_clean hf hh]
  exact if_neg (not_not.mpr h)

theorem inDevMem_not {a n : Nat} (h : a + n ≤ devMemSize) : (!inDevMem a n) = false := not_of_true (decide_eq_true h)

/-! ## The commands that start -/

/-- A lifecycle change is pending. -/
def Dev.startLife (d : Dev) (c : LifeChange) : Dev :=
  { d with rst := { d.rst with life := some c } }.setFlag F.GLB_CFG_STAT_COMMIT_BUSY true

/-- An image is on its way to the slot that does not run. -/
def Dev.startStage (d : Dev) (img : Image) (q tag : Nat) : Dev := { d with rst := { d.rst with staging := some (img, q, tag) } }

section
variable {s : State} {c : Cmd}

theorem secAttest_starts (h : (c.packet 0x0C01).u 32 8 + 4883 ≤ devMemSize) : Starts (.secAttest c) c 0x0C01 s 0 [] [] fun _ => True :=
  starts (body := bodyAttest) id rfl (fun _ _ _ _ _ => refuseIf_false (inDevMem_not h) rfl) (fun _ _ _ => .refl _) (by decide)
    fun _ _ _ _ _ => trivial

theorem secIdCert_starts (h : (c.packet 0x0C02).u 0 8 + Config.idCertificate.length ≤ devMemSize) :
    Starts (.secIdCert c) c 0x0C02 s 0 [] [] fun _ => True :=
  starts (body := bodyIdCert) id rfl (fun _ _ _ _ _ => refuseIf_false (inDevMem_not h) rfl) (fun _ _ _ => .refl _) (by decide)
    fun _ _ _ _ _ => trivial

theorem secFwActivate_starts (h : s.dev.rst.staged = true) : Starts (.secFwActivate c) c 0x0C05 s 0 [] [] fun _ => True :=
  starts (body := bodyFwActivate) id rfl (fun _ _ _ _ _ => refuseIf_false (not_of_true h) rfl) (fun _ _ _ => .refl _) (by decide)
    fun _ _ _ _ _ => trivial

variable (hf : s.dev.memc.faults = []) (hh : s.dev.memHalted = false)
include hf hh

theorem secLifecycle_starts (ha : (c.packet 0x0C03).u 8 8 + tokenLen ≤ devMemSize) (hstop : s.dev.scanState = stStopped)
    (htok : s.dev.tokenRefusal (memRead s.mem ((c.packet 0x0C03).u 8 8) tokenLen) 1 ((c.packet 0x0C03).u 0 1) 2 = 0) :
    Starts (.secLifecycle c) c 0x0C03 s 0 [.rst] [Reg.GLB_CFG_STAT] fun t =>
      t.dev.rst = { s.dev.rst with life := some ⟨(c.packet 0x0C03).u 0 1, some (c.pair.val, c.tag.toNat)⟩ } ∧
      t.dev.flag F.GLB_CFG_STAT_COMMIT_BUSY = true :=
  starts (body := bodyLifecycle c.pair.val)
    (fun d => d.startLife ⟨(c.packet 0x0C03).u 0 1, some (c.pair.val, c.tag.toNat)⟩) rfl
    (fun p m k _ _ => refuseIf_false (inDevMem_not ha) (refuseIf_false (bne_eq_false_iff_eq.mpr hstop)
      (withToken_good (d := withQueues s p m k) hf hh htok _)))
    (fun _ _ _ => ((Alters.refl _).part (alters_rst _ _) (by decide)).setFlag F.GLB_CFG_STAT_COMMIT_BUSY true (by decide)) (by decide)
    fun _ _ _ _ ht => ⟨ht.parts .rst, (ht.flag F.GLB_CFG_STAT_COMMIT_BUSY rfl rfl).trans (Dev.flag_setFlag_self _ _ _ (by decide) rfl)⟩

theorem secFwStage_starts (ha : (c.packet 0x0C04).u 0 8 + (c.packet 0x0C04).u 8 4 ≤ devMemSize) (hlo : 8192 ≤ (c.packet 0x0C04).u 8 4)
    (hhi : (c.packet 0x0C04).u 8 4 ≤ 8192 + payloadMax)
    (himg : s.dev.imageRefusal (memRead s.mem ((c.packet 0x0C04).u 0 8) ((c.packet 0x0C04).u 8 4)) = 0) :
    Starts (.secFwStage c) c 0x0C04 s 0 [.rst] [] fun t => t.dev.rst = { s.dev.rst with
      staging := some (⟨some ((memRead s.mem ((c.packet 0x0C04).u 0 8) ((c.packet 0x0C04).u 8 4)).take 8192)⟩, c.pair.val, c.tag.toNat) } := by
  refine starts (body := bodyFwStage c.pair.val) (fun d => d.startStage
    ⟨some ((memRead s.mem ((c.packet 0x0C04).u 0 8) ((c.packet 0x0C04).u 8 4)).take 8192)⟩ c.pair.val c.tag.toNat) rfl
    (fun p m k _ _ => refuseIf_false (inDevMem_not ha) (refuseIf_false (not_of_true (decide_eq_true ⟨hlo, hhi⟩)) ?_))
    (fun _ _ _ => alters_rst _ _) (by decide) fun _ _ _ _ ht => ht.parts .rst
  rw [dmaRead_clean (d := withQueues s p m k) hf hh]
  exact if_neg (not_not.mpr himg)

theorem secKeyRevoke_starts (hk : (c.packet 0x0C06).u 0 1 ≤ 1) (hown : bitAt s.dev.rst.fuses.revoked ((c.packet 0x0C06).u 0 1) = false)
    (hother : bitAt s.dev.rst.fuses.revoked (1 - (c.packet 0x0C06).u 0 1) = false)
    (hboot : s.dev.bootable (1 - (c.packet 0x0C06).u 0 1) = true) (ha : (c.packet 0x0C06).u 8 8 + tokenLen ≤ devMemSize)
    (htok : s.dev.tokenRefusal (memRead s.mem ((c.packet 0x0C06).u 8 8) tokenLen) 2 ((c.packet 0x0C06).u 0 1)
      ((c.packet 0x0C06).u 0 1) = 0) :
    Starts (.secKeyRevoke c) c 0x0C06 s ((c.packet 0x0C06).u 0 1) [] [] fun _ => True := by
  have hslot : (decide (1 < (c.packet 0x0C06).u 0 1) || bitAt s.dev.rst.fuses.revoked ((c.packet 0x0C06).u 0 1) ||
      bitAt s.dev.rst.fuses.revoked (1 - (c.packet 0x0C06).u 0 1) || !s.dev.bootable (1 - (c.packet 0x0C06).u 0 1)) = false := by
    rw [decide_eq_false (Nat.not_lt.mpr hk), hown, hother, hboot]
    rfl
  exact starts (body := bodyKeyRevoke) id rfl
    (fun p m k _ _ => refuseIf_false hslot (refuseIf_false (inDevMem_not ha) (withToken_good (d := withQueues s p m k) hf hh htok _)))
    (fun _ _ _ => .refl _) (by decide) fun _ _ _ _ _ => trivial

end

/-! ## The staged image (R591) -/

/-- The part with the staged image in its slot. -/
def Dev.imageStored (d : Dev) (img : Image) : Dev :=
  { d with rst := { d.rst with staging := none, staged := true, stagedSlot := 1 - d.rst.running,
                               slots := d.rst.slots.set (1 - d.rst.running) img } }

/-- A step that ends an ACCEPTED command and then raises an event. -/
theorem gives_finishRaise {i : Instr} {s : State} {f : List Host.Cell → Dev → Dev} {e : Dev} {r : Running} {status n : Nat}
    {results : List Byte} {parts : List Part} {regs : List Nat} (hx : exec i s = .next (s.onDev f))
    (hf : f s.mem s.dev.begin_ = (e.finish r status results).raise n) (he : Alters parts regs s.dev.begin_ e) (ha : Awaits s.dev r)
    (hn : Reg.EVT_RING_SIZE ∉ regs) (hsrc : n < 640) :
    Gives i s fun t => Completed s t r status results ∧ Pending t n ∧ Settled s e t ∧ Leaves parts regs s t := by
  have hframe : CmdFrame (e.finish r status results) (f s.mem s.dev.begin_) := hf ▸ cmdFrame_raise _ n 0 0
  have hgrows : Grows (e.finish r status results) (f s.mem s.dev.begin_) := hf ▸ grows_same fun _ => rfl
  obtain ⟨hdone, hset⟩ := step_finish ha hframe hgrows he.cmd
  have hmem : ⟨n, false, 0, 0⟩ ∈ (f s.mem s.dev.begin_).evt.raised := hf ▸ List.mem_append_right _ List.mem_cons_self
  refine ⟨_, hx, hdone, (onDev_settled s f).raised ⟨n, false, 0, 0⟩ hmem hsrc, hset, Works.stepLeaves ?_ hn⟩
  exact he.works.trans ((works_finish e r status results).trans (hframe.works hgrows))

theorem gives_staged {s : State} {img : Image} {q tag : Nat} {r : Running} (hs : s.dev.rst.staging = some (img, q, tag))
    (hr : s.dev.running? q tag = some r) (ha : Awaits s.dev r) : Gives .fwStageComplete s fun t =>
      t.dev.rst = { s.dev.rst with staging := none, staged := true, stagedSlot := 1 - s.dev.rst.running,
                                   slots := s.dev.rst.slots.set (1 - s.dev.rst.running) img } ∧
      Completed s t r 0x0000 (leBytes 4 (headerVer (t.dev.header (1 - s.dev.rst.running)))) ∧ Pending t Ev.fwStaged ∧
      Leaves [.rst] [] s t := by
  have hw : s.dev.begin_.staged = ((s.dev.begin_.imageStored img).finish r 0x0000
      (leBytes 4 (headerVer ((s.dev.begin_.imageStored img).header (1 - s.dev.rst.running))))).raise Ev.fwStaged := by
    unfold Dev.staged
    rw [show s.dev.begin_.rst.staging = some (img, q, tag) from hs]
    exact congrArg (fun d : Dev => d.raise Ev.fwStaged) (complete_one (d := s.dev.begin_.imageStored img) hr)
  refine gives_imp (gives_finishRaise rfl hw (alters_rst _ _) ha (by decide) (by decide)) fun t ⟨hdone, hpend, hset, hleaves⟩ => ?_
  have hrst : t.dev.rst = (s.dev.begin_.imageStored img).rst := hset.parts .rst
  have hheader : t.dev.header (1 - s.dev.rst.running) = (s.dev.begin_.imageStored img).header (1 - s.dev.rst.running) := by
    unfold Dev.header
    rw [hrst]
  exact ⟨hrst, hheader ▸ hdone, hpend, hleaves⟩

/-! ## The end of a lifecycle change (R598) -/

/-- The fuses and the store after a lifecycle change. -/
def Dev.lifeChanged (d : Dev) (c : LifeChange) : Dev :=
  { d with
    store := d.store.eraseSets (erasedSets c.target)
    rst := { d.rst with
      life := none
      fuses := { d.rst.fuses with
        lifecycle := c.target
        seq := d.rst.fuses.seq + 1
        svc := if c.target = 3 then d.rst.fuses.svc + 1 else d.rst.fuses.svc
        identity := d.rst.fuses.identity || c.target == 1 } } }

theorem erasedSets_lt {target n : Nat} (h : n ∈ erasedSets target) : n ∈ List.range 19 := by
  unfold erasedSets at h
  rw [List.mem_range]
  split_ifs at h
  · exact (List.mem_range.mp h).trans (by decide)
  · exact List.mem_range.mp h
  · exact absurd h List.not_mem_nil


/-- The registers that the end of a lifecycle change shows. -/
abbrev lifeRegs : List Nat := (List.range 19).map Reg.GLB_STORE_GEN ++ storeRegs ++ [Reg.GLB_CFG_STAT]

/-- The generations of the erased sets show zero. -/
theorem alters_storeGone (target : Nat) (x : Dev) : Alters [] lifeRegs x
    ((erasedSets target).foldl (fun (d : Dev) n => d.put (Reg.GLB_STORE_GEN n) 0#32) x) :=
  Alters.foldlMem _ (fun d _ hn => (Alters.refl d).put _ _
    (List.mem_append_left _ (List.mem_append_left _ (List.mem_map_of_mem (erasedSets_lt hn))))) (Alters.refl x)

theorem storeRegs_life : ∀ a ∈ storeRegs, a ∈ lifeRegs := fun _ h => List.mem_append_left _ (List.mem_append_right _ h)

/-- The reset that follows a lifecycle change is due. -/
def Dev.resetAfterLife (d : Dev) : Dev := { d with rst := { d.rst with lifeResetDue := true } }

theorem gives_lifecycle {s : State} {c : LifeChange} (hc : s.dev.rst.life = some c) : Gives .lifecycleChangeDone s fun t =>
    t.dev.rst.fuses.lifecycle = c.target ∧ t.dev.rst.fuses.seq = s.dev.rst.fuses.seq + 1 ∧ t.dev.rst.life = none ∧
    t.dev.rst.lifeResetDue = true ∧ t.dev.store = s.dev.store.eraseSets (erasedSets c.target) ∧ Pending t Ev.lifecycle ∧
    Keeps [.rst, .store] s t := by
  let x := s.dev.begin_.lifeChanged c
  let y := ((erasedSets c.target).foldl (fun (d : Dev) n => d.put (Reg.GLB_STORE_GEN n) 0#32) x).showStore.setFlag
    F.GLB_CFG_STAT_COMMIT_BUSY (!s.dev.cfg.commits.isEmpty)
  let z := (y.completeOwner c.owner 0x0000).raise Ev.lifecycle
  let w := z.resetAfterLife
  have hw : (match s.dev.begin_.rst.life with
      | some c => (s.dev.begin_.lifecycleEnd c).resetAfterLife
      | none => s.dev.begin_) = w := by
    rw [show s.dev.begin_.rst.life = some c from hc]
    dsimp only
    refine congrArg Dev.resetAfterLife ?_
    have hcfg : ((erasedSets c.target).foldl (fun (d : Dev) n => d.put (Reg.GLB_STORE_GEN n) 0#32) x).cfg = s.dev.cfg :=
      (alters_storeGone c.target x).same .cfg (by decide)
    unfold Dev.lifecycleEnd
    exact congrArg (fun q : CfgSt => Dev.raise (Dev.completeOwner (Dev.setFlag _ F.GLB_CFG_STAT_COMMIT_BUSY (!q.commits.isEmpty)) c.owner 0x0000)
      Ev.lifecycle) hcfg
  have hx : Alters [.rst, .store] lifeRegs s.dev.begin_ x := by
    refine (Alters.refl _).direct (fun p hp => ?_) rfl rfl rfl rfl rfl
    cases p
    case rst | store => exact absurd (by decide) hp
    all_goals rfl
  have hy : Alters [] lifeRegs x y :=
    ((alters_storeGone c.target x).trans ((alters_showStore _).mono (by simp) storeRegs_life)).setFlag F.GLB_CFG_STAT_COMMIT_BUSY _ (by decide)
  have hz : Works [] lifeRegs x z :=
    hy.works.trans ((works_completeOwner y _ _ _).trans ((Alters.refl _).raise _ _ _).works)
  have hall : Works [.rst, .store] lifeRegs s.dev.begin_ w :=
    hx.works.trans ((hz.mono (by simp) fun _ h => h).trans ((alters_rst z _).works.mono (by simp) (by simp)))
  have hrst : z.rst = x.rst := hz.same .rst (by decide)
  have hstore : z.store = x.store := hz.same .store (by decide)
  let f := fun (_ : List Host.Cell) (d : Dev) => match d.rst.life with
    | some c => (d.lifecycleEnd c).resetAfterLife
    | none => d
  have hset := onDev_settled s f
  have hleaves := Works.stepLeaves (s := s) (f := f) (parts := [.rst, .store]) (regs := lifeRegs) (by rw [show f s.mem s.dev.begin_ = w from hw]; exact hall)
    (by decide)
  rw [show f s.mem s.dev.begin_ = w from hw] at hset
  have hshown : (s.onDev f).dev.rst = { x.rst with lifeResetDue := true } :=
    (show (s.onDev f).dev.rst = w.rst from hset.parts .rst).trans (congrArg (fun q : RstSt => { q with lifeResetDue := true }) hrst)
  refine ⟨s.onDev f, rfl, by rw [hshown]; rfl, by rw [hshown]; rfl, by rw [hshown]; rfl, by rw [hshown],
    (show (s.onDev f).dev.store = w.store from hset.parts .store).trans hstore,
    hset.raised ⟨Ev.lifecycle, false, 0, 0⟩ (List.mem_append_right _ List.mem_cons_self) (by decide), ?_⟩
  obtain ⟨hkeeps, -⟩ := hleaves
  exact hkeeps

/-! ## Completions -/

section
variable {r : Running} (d : Dev) (mem : List Host.Cell)

theorem completeRunning_attest (h : r.pkt.opcode = 0x0C01#16) : d.completeRunning mem r = d.attestEnd r := by
  unfold Dev.completeRunning; rw [h]; rfl

theorem completeRunning_idCert (h : r.pkt.opcode = 0x0C02#16) : d.completeRunning mem r = d.idCertEnd r := by
  unfold Dev.completeRunning; rw [h]; rfl

theorem completeRunning_activate (h : r.pkt.opcode = 0x0C05#16) : d.completeRunning mem r = d.activateEnd r := by
  unfold Dev.completeRunning; rw [h]; rfl

theorem completeRunning_revoke (h : r.pkt.opcode = 0x0C06#16) : d.completeRunning mem r = d.revokeEnd r := by
  unfold Dev.completeRunning; rw [h]; rfl

theorem completeRunning_wipe (h : r.pkt.opcode = 0x0904#16) : d.completeRunning mem r = d.wipeEnd r := by
  unfold Dev.completeRunning; rw [h]; rfl

end

/-- The work of a completion: what its command ends with. -/
def completionWork (pair : Fin 16) (tag : BitVec 32) (mem : List Host.Cell) (d : Dev) : Dev :=
  match d.running? pair.val tag.toNat with
  | some r => (d.upset []).completeRunning mem r
  | none => d

section
variable {s : State} {pair : Fin 16} {tag : BitVec 32} {r : Running} (hr : s.dev.running? pair.val tag.toNat = some r)
  (ha : Awaits s.dev r)

theorem exec_completion : exec (.commandCompletion pair tag []) s = .next (s.onDev (completionWork pair tag)) := rfl

include hr in
theorem completionWork_eq : completionWork pair tag s.mem s.dev.begin_ = s.dev.begin_.completeRunning s.mem r := by
  unfold completionWork
  rw [show s.dev.begin_.running? pair.val tag.toNat = some r from hr]
  rfl

include hr ha

theorem gives_attestEnd (hop : r.pkt.opcode = 0x0C01#16) (hh : s.dev.memHalted = false) :
    Gives (.commandCompletion pair tag []) s fun t => Completed s t r 0x0000 (leBytes 4 4883) ∧
      Writes (r.pkt.u 32 8) (s.dev.evidence (r.pkt.u 0 32) ++ (Config.attestSignature (s.dev.evidence (r.pkt.u 0 32)) ++ zeros 4627).take 4627) s t ∧
      Keeps [] s t ∧ KeepsRegs [] s t :=
  gives_imp (gives_finishWrite exec_completion ((completionWork_eq hr).trans (completeRunning_attest _ _ hop)) (.refl _) ha (by decide)
    (by decide) hh) fun _ ⟨hdone, _, hwrites, hkeeps⟩ => ⟨hdone, hwrites, hkeeps⟩

theorem gives_idCertEnd (hop : r.pkt.opcode = 0x0C02#16) (hh : s.dev.memHalted = false)
    (hdigest : Config.sha3 Config.idCertificate = Config.certDigest) : Gives (.commandCompletion pair tag []) s fun t =>
      Completed s t r 0x0000 (leBytes 4 Config.idCertificate.length) ∧ Writes (r.pkt.u 0 8) Config.idCertificate s t ∧
      Keeps [] s t ∧ KeepsRegs [] s t :=
  gives_imp (gives_finishWrite exec_completion ((completionWork_eq hr).trans ((completeRunning_idCert _ _ hop).trans (if_pos hdigest)))
    (.refl _) ha (by decide) (by decide) hh) fun _ ⟨hdone, _, hwrites, hkeeps⟩ => ⟨hdone, hwrites, hkeeps⟩

/-- The staged slot is preferred. -/
theorem gives_activateEnd (hop : r.pkt.opcode = 0x0C05#16) (hs : s.dev.rst.staged = true) :
    Gives (.commandCompletion pair tag []) s fun t => Completed s t r 0x0000 [] ∧
      t.dev.rst = { s.dev.rst with preferred := s.dev.rst.stagedSlot, staged := false } ∧ Leaves [.rst] [] s t := by
  have hw : s.dev.begin_.activateEnd r =
      ({ s.dev.begin_ with rst := { s.dev.rst with preferred := s.dev.rst.stagedSlot, staged := false } } : Dev).finish r 0x0000 [] := by
    unfold Dev.activateEnd
    rw [show s.dev.begin_.rst.staged = true from hs]
    rfl
  exact gives_imp (gives_finish exec_completion ((completionWork_eq hr).trans ((completeRunning_activate _ _ hop).trans hw))
    (alters_rst _ _) ha (by decide)) fun _ ⟨hdone, hset, hleaves⟩ => ⟨hdone, hset.parts .rst, hleaves⟩

/-- The fuse is burned, and the token has served. -/
theorem gives_revokeEnd (hop : r.pkt.opcode = 0x0C06#16) : Gives (.commandCompletion pair tag []) s fun t => Completed s t r 0x0000 [] ∧
      t.dev.rst = { s.dev.rst with fuses := { s.dev.rst.fuses with revoked := orBit s.dev.rst.fuses.revoked r.aux,
                                                                   seq := s.dev.rst.fuses.seq + 1 } } ∧
      Pending t Ev.keyRevoked ∧ Leaves [.rst] [] s t :=
  gives_imp (gives_finishRaise exec_completion ((completionWork_eq hr).trans (completeRunning_revoke _ _ hop)) (alters_rst _ _) ha
    (by decide) (by decide)) fun _ ⟨hdone, hpend, hset, hleaves⟩ => ⟨hdone, hset.parts .rst, hpend, hleaves⟩

/-- A halted memory takes no write, and the command says so (R517). -/
theorem gives_wipeHalted (hop : r.pkt.opcode = 0x0904#16) (hh : s.dev.memHalted = true) :
    Gives (.commandCompletion pair tag []) s fun t => Completed s t r 0x0304 [] ∧ t.dev.flag F.MEM_STAT_WIPE_BUSY = false ∧
      Leaves [] [Reg.MEM_STAT] s t :=
  gives_imp (gives_finish exec_completion ((completionWork_eq hr).trans ((completeRunning_wipe _ _ hop).trans (if_pos hh)))
    ((Alters.refl _).setFlag F.MEM_STAT_WIPE_BUSY false (by decide)) ha (by decide)) fun _ ⟨hdone, hset, hleaves⟩ =>
      ⟨hdone, (hset.flag _ rfl rfl).trans (Dev.flag_setFlag_self _ _ _ (by decide) rfl), hleaves⟩

/-- The range is zero (R525). -/
theorem gives_wiped (hop : r.pkt.opcode = 0x0904#16) (hh : s.dev.memHalted = false) :
    Gives (.commandCompletion pair tag []) s fun t => Completed s t r 0x0000 [] ∧ t.dev.flag F.MEM_STAT_WIPE_BUSY = false ∧
      (∀ a, ¬InRing s.dev a → memByte t.mem a =
        if r.pkt.u 0 8 ≤ a ∧ a < r.pkt.u 0 8 + r.pkt.u 8 8 then 0#8 else memByte s.mem a) ∧ Keeps [] s t ∧
      KeepsRegs [Reg.MEM_STAT] s t := by
  let x := s.dev.begin_.setFlag F.MEM_STAT_WIPE_BUSY false
  let e := x.wipe (r.pkt.u 0 8) (r.pkt.u 8 8)
  have hx : Alters [] [Reg.MEM_STAT] s.dev.begin_ x := (Alters.refl _).setFlag F.MEM_STAT_WIPE_BUSY false (by decide)
  have hw : completionWork pair tag s.mem s.dev.begin_ = e.finish r 0x0000 [] :=
    (completionWork_eq hr).trans ((completeRunning_wipe _ _ hop).trans (if_neg (by
      rw [show s.dev.begin_.memHalted = false from hh]; exact Bool.false_ne_true)))
  have hhalt : e.memHalted = false := by
    have hapart : ∀ f : Fld, f.addr = Reg.MEM_STAT → (f.lo + f.width ≤ F.MEM_STAT_WIPE_BUSY.lo ∨
        F.MEM_STAT_WIPE_BUSY.lo + F.MEM_STAT_WIPE_BUSY.width ≤ f.lo) → x.flag f = s.dev.flag f :=
      fun f _ ha => Dev.flag_setFlag_apart s.dev.begin_ _ f false (by decide) (.inr ha)
    show (x.flag F.MEM_STAT_HALT_A || x.flag F.MEM_STAT_HALT_B) = false
    rw [hapart F.MEM_STAT_HALT_A rfl (by decide), hapart F.MEM_STAT_HALT_B rfl (by decide)]
    exact hh
  have hframe : CmdFrame (e.finish r 0x0000 []) (completionWork pair tag s.mem s.dev.begin_) := hw ▸ .refl _
  have hgrows : Grows (e.finish r 0x0000 []) (completionWork pair tag s.mem s.dev.begin_) := hw ▸ .refl _
  obtain ⟨hdone, hset⟩ := step_finish ha hframe hgrows rfl
  refine ⟨_, exec_completion, hdone, (hset.flag F.MEM_STAT_WIPE_BUSY rfl rfl).trans (Dev.flag_setFlag_self s.dev.begin_ _ _ (by decide) rfl),
    hset.zeroed _ _ rfl rfl (hx.reg _ (by decide)) hhalt, fun p _ => ?_, fun a hn h1 h2 => (hset.reg a h1 h2).trans (hx.reg a hn)⟩
  have hsame : p.same s.dev e := by cases p <;> rfl
  exact same_trans hsame (hset.parts p)

end

/-- Settles O49: the commands that start, the staged image, the lifecycle change, and each completion. -/
theorem securityCommandsAct : Obligations.SecurityCommandsAct := by
  unfold Obligations.SecurityCommandsAct
  intro s clean
  refine ⟨fun c => ⟨secAttest_starts, secIdCert_starts, ?_, ?_, secFwActivate_starts, ?_⟩, fun img q tag r hs hr ha _ => gives_staged hs hr ha,
    fun c => gives_lifecycle, fun pair tag r hr ha => ?_⟩
  · exact fun ha hstop ⟨hf, hh⟩ htok => secLifecycle_starts hf hh ha hstop htok
  · exact fun ha hlo hhi ⟨hf, hh⟩ himg => secFwStage_starts hf hh ha hlo hhi himg
  · exact fun hk hown hother hboot ha ⟨hf, hh⟩ htok => secKeyRevoke_starts hf hh hk hown hother hboot ha htok
  · exact ⟨gives_attestEnd hr ha, gives_idCertEnd hr ha, gives_activateEnd hr ha, gives_revokeEnd hr ha, gives_wipeHalted hr ha,
      gives_wiped hr ha⟩

end Sys2Proof.Machine
end

section
/-! SUPPORT. Errors of device memory: what a read counts, the halt of a group, and the end of a Planish pass (R507, R514 to R518, R522,
R523). -/

namespace Sys2Proof.Machine

/-! ## Symbol positions -/

theorem lowBit_lt : ∀ n v : Nat, popCount n v ≠ 0 → lowBit n v < n := by
  intro n
  induction n with
  | zero => exact fun v h => absurd rfl h
  | succ n ih =>
    intro v h
    unfold lowBit
    split
    · omega
    · rename_i hodd
      have hrest : popCount n (v / 2) ≠ 0 := by
        unfold popCount at h
        omega
      have := ih (v / 2) hrest
      omega

/-- A corrected beat names one of the ten symbol positions. -/
theorem readBeat_die {d : Dev} {b die : Nat} (h : d.readBeat b = .corrected die) : die < 10 := by
  unfold Dev.readBeat at h
  dsimp only at h
  split_ifs at h with h1 h2 h3 h4 h5 h6
  obtain rfl := BeatRead.corrected.inj h
  exact lowBit_lt 10 _ (by omega)

theorem beatGroup_lt (b : Nat) : beatGroup b < 2 := Nat.mod_lt _ (by decide)

/-- The group and the symbol position of a corrected beat name its channel. -/
theorem channel_lt {d : Dev} {b die : Nat} (h : d.readBeat b = .corrected die) : beatGroup b * 10 + die < 20 := by
  have h1 := readBeat_die h
  have h2 := beatGroup_lt b
  omega

/-- What a beat reads as depends on the errors stored, the lines that cover it, and the mode in force. -/
theorem readBeat_congr {x y : Dev} (b : Nat) (hr : y.reg Reg.MEM_STAT = x.reg Reg.MEM_STAT) (hl : y.memc.lines = x.memc.lines)
    (hf : y.memc.faults = x.memc.faults) : y.readBeat b = x.readBeat b := by
  unfold Dev.readBeat Dev.haltedAt MemSt.covers Dev.flag Dev.fld
  rw [show F.MEM_STAT_HALT_A.addr = Reg.MEM_STAT from rfl, hr, hl, hf]

/-! ## What a read counts (R507, R518) -/

/-- The registers that reading beats counts and marks in. -/
abbrev beatRegs : List Nat := (List.range 20).map Reg.MEM_CH_CE_CNT ++ [Reg.MEM_CH_CNT_SAT, Reg.MEM_CE_CNT, Reg.MEM_CNT_SAT,
  Reg.MEM_UE_CNT, Reg.MEM_EVT]

theorem chCnt_beatRegs {k : Nat} (h : k < 20) : Reg.MEM_CH_CE_CNT k ∈ beatRegs :=
  List.mem_append_left _ (List.mem_map_of_mem (List.mem_range.mpr h))

section
variable (d : Dev) {b die : Nat}

theorem alters_noteCorrected (h : beatGroup b * 10 + die < 20) : Alters [.memc] beatRegs d (d.noteCorrected b die) :=
  (((Alters.refl d).bump (C.MEM_CH_CE_CNT (beatGroup b * 10 + die)) (chCnt_beatRegs h)
    (show Reg.MEM_CH_CNT_SAT ∈ beatRegs by decide) rfl).bump C.MEM_CE_CNT (by decide) (by decide)
    rfl).part (alters_memc _ _) (by decide)

/-- An uncorrectable beat is counted and its address noted; the list of its group is still to grow. -/
def Dev.shownUe (d : Dev) (b : Nat) : Dev :=
  let x := (d.bump C.MEM_UE_CNT).putWide Reg.MEM_UE_ADDR_LO (b * 16)
  if x.bit Reg.MEM_EVT 0 then x else (x.setBit Reg.MEM_EVT 0 true).raise Ev.memUe (b * 16 % 2 ^ 32) (b * 16 / 2 ^ 32)

theorem countUe_eq (b : Nat) : d.countUe b =
    if beatGroup b = 0 then { d.shownUe b with memc := { (d.shownUe b).memc with ueA := addUe (d.shownUe b).now (d.shownUe b).memc.ueA } }
    else { d.shownUe b with memc := { (d.shownUe b).memc with ueB := addUe (d.shownUe b).now (d.shownUe b).memc.ueB } } := rfl

theorem alters_shownUe (b : Nat) : Alters [.wide] beatRegs d (d.shownUe b) := by
  have hx : Alters [.wide] beatRegs d ((d.bump C.MEM_UE_CNT).putWide Reg.MEM_UE_ADDR_LO (b * 16)) :=
    ((Alters.refl d).bump C.MEM_UE_CNT (by decide) (by decide) rfl).putWide _ _ (by decide) (by decide)
  exact .ite (fun _ => hx) fun _ => (hx.setBit _ _ _ (by decide)).raise _ _ _

theorem alters_countUe (b : Nat) : Alters [.wide, .memc] beatRegs d (d.countUe b) := by
  have hx : Alters [.wide, .memc] beatRegs d (d.shownUe b) := (alters_shownUe d b).mono (by decide) fun _ h => h
  rw [countUe_eq]
  exact .ite (fun _ => hx.part (alters_memc _ _) (by decide)) fun _ => hx.part (alters_memc _ _) (by decide)

/-- The count, the address and the mark of an uncorrectable beat. -/
theorem shown_shownUe (b : Nat) : (d.shownUe b).cnt C.MEM_UE_CNT = min (cntTop C.MEM_UE_CNT) (d.cnt C.MEM_UE_CNT + 1) ∧
    (d.shownUe b).wide64 Reg.MEM_UE_ADDR_LO = b * 16 % 2 ^ 64 ∧ (d.shownUe b).bit Reg.MEM_EVT 0 = true := by
  let x := (d.bump C.MEM_UE_CNT).putWide Reg.MEM_UE_ADDR_LO (b * 16)
  have hcnt : x.cnt C.MEM_UE_CNT = min (cntTop C.MEM_UE_CNT) (d.cnt C.MEM_UE_CNT + 1) := Dev.cnt_bumpBy d C.MEM_UE_CNT 1 (by decide)
  have hwide : x.wide64 Reg.MEM_UE_ADDR_LO = b * 16 % 2 ^ 64 :=
    (Dev.wide64_putWide (d.bump C.MEM_UE_CNT) Reg.MEM_UE_ADDR_LO (b * 16) Reg.MEM_UE_ADDR_LO).trans (if_pos rfl)
  show (if x.bit Reg.MEM_EVT 0 then x else (x.setBit Reg.MEM_EVT 0 true).raise Ev.memUe (b * 16 % 2 ^ 32) (b * 16 / 2 ^ 32)).cnt _ = _ ∧
    (if x.bit Reg.MEM_EVT 0 then x else (x.setBit Reg.MEM_EVT 0 true).raise Ev.memUe (b * 16 % 2 ^ 32) (b * 16 / 2 ^ 32)).wide64 _ = _ ∧
    (if x.bit Reg.MEM_EVT 0 then x else (x.setBit Reg.MEM_EVT 0 true).raise Ev.memUe (b * 16 % 2 ^ 32) (b * 16 / 2 ^ 32)).bit _ _ = _
  generalize x = y at hcnt hwide ⊢
  split
  · exact ⟨hcnt, hwide, ‹_›⟩
  · exact ⟨(congrArg BitVec.toNat (Dev.reg_put_ne y _ _ _ (by decide))).trans hcnt, hwide, Dev.bit_setBit_self y Reg.MEM_EVT 0 true (by decide)⟩

end

/-! ## A beat of a pass (R522) -/

/-- What the pass has found when a corrected beat is among its beats. -/
def ScrubJob.corrected (j : ScrubJob) (b die : Nat) : ScrubJob :=
  { j with
    ce := modAt j.ce (beatGroup b * 10 + die) (· + 1)
    bursts := if j.bursts.contains (b / 16) then j.bursts else j.bursts ++ [b / 16] }

/-- What the pass has found when an uncorrectable beat is among its beats. -/
def ScrubJob.spoiled (j : ScrubJob) (b : Nat) : ScrubJob := { j with ue := j.ue ++ [b * 16] }

/-- The pass has what it found, and the stored errors are as given. -/
def Dev.noteScrub (d : Dev) (j : ScrubJob) (faults : Sparse Nat) : Dev :=
  { d with memc := { d.memc with scrub := some j, faults := faults } }

section
variable {d : Dev} {j : ScrubJob} {b die : Nat} (hj : d.memc.scrub = some j)
include hj

theorem scanBeat_good (h : d.readBeat b = .good) : d.scanBeat b = d := by
  unfold Dev.scanBeat
  rw [hj]
  dsimp only
  rw [h]

theorem scanBeat_corrected (h : d.readBeat b = .corrected die) : d.scanBeat b = (d.noteCorrected b die).noteScrub (j.corrected b die)
    (if j.repair then sset (fun _ => 0) b 0 (d.noteCorrected b die).memc.faults else (d.noteCorrected b die).memc.faults) := by
  unfold Dev.scanBeat
  rw [hj]
  dsimp only
  rw [h]
  rfl

theorem scanBeat_bad (h : d.readBeat b = .bad) : d.scanBeat b = (d.countUe b).noteScrub (j.spoiled b) (d.countUe b).memc.faults := by
  unfold Dev.scanBeat
  rw [hj]
  dsimp only
  rw [h]
  rfl

end

theorem alters_scanBeat (d : Dev) (b : Nat) : Alters [.wide, .memc] beatRegs d (d.scanBeat b) := by
  cases hj : d.memc.scrub with
  | none =>
    have he : d.scanBeat b = d := by unfold Dev.scanBeat; rw [hj]
    rw [he]
    exact .refl d
  | some j =>
    cases hb : d.readBeat b with
    | good => rw [scanBeat_good hj hb]; exact .refl d
    | corrected die =>
      rw [scanBeat_corrected hj hb]
      exact ((alters_noteCorrected d (channel_lt hb)).mono (by decide) fun _ h => h).part (alters_memc _ _) (by decide)
    | bad =>
      rw [scanBeat_bad hj hb]
      exact (alters_countUe d b).part (alters_memc _ _) (by decide)

theorem alters_scanFree (d : Dev) : Alters [.wide, .memc, .free] beatRegs d d.scanFree := by
  unfold Dev.scanFree
  split
  · exact .refl d
  · refine Alters.part (Alters.part (p := .memc) (Alters.foldl (fun y b => (alters_scanBeat y b).mono (by decide) fun _ h => h) _ _ _ (.refl d)) (alters_memc _ _) (by decide))
      (alters_free _ _) (by decide)

/-! ## The streams halt (R333, R517) -/

/-- Work of the output unit: it leaves the queues, device memory, time, the configuration and every register outside the unit, and each
stream runs as before. -/
structure OutWork (x y : Dev) : Prop where
  cmd : y.cmd = x.cmd
  memc : y.memc = x.memc
  time : y.time = x.time
  cfg : y.cfg = x.cfg
  ueAddr : y.wide64 Reg.MEM_UE_ADDR_LO = x.wide64 Reg.MEM_UE_ADDR_LO
  reg : ∀ a, ¬(0x110000 ≤ a ∧ a < 0x111000) → y.reg a = x.reg a
  run : ∀ n, y.flag (F.ING_S_STAT_RUN n) = x.flag (F.ING_S_STAT_RUN n)

theorem OutWork.refl (x : Dev) : OutWork x x := ⟨rfl, rfl, rfl, rfl, rfl, fun _ _ => rfl, fun _ => rfl⟩

theorem OutWork.trans {x y z : Dev} (h : OutWork x y) (g : OutWork y z) : OutWork x z :=
  ⟨g.cmd.trans h.cmd, g.memc.trans h.memc, g.time.trans h.time, g.cfg.trans h.cfg, g.ueAddr.trans h.ueAddr,
    fun a ha => (g.reg a ha).trans (h.reg a ha), fun n => (g.run n).trans (h.run n)⟩

theorem OutWork.foldl {α : Type} {f : Dev → α → Dev} (h : ∀ d a, OutWork d (f d a)) (l : List α) : ∀ d, OutWork d (l.foldl f d) := by
  induction l with
  | nil => exact .refl
  | cons a l ih => exact fun d => (h d a).trans (ih _)

section
variable (d : Dev)

/-- A register of the unit that is no stream's status. -/
theorem outWork_put (a : Nat) (v : Word) (ha : 0x110000 ≤ a ∧ a < 0x111000) (hs : ∀ n, a ≠ Reg.ING_S_STAT n) : OutWork d (d.put a v) :=
  ⟨rfl, rfl, rfl, rfl, rfl, fun b hb => Dev.reg_put_ne d a b v fun h => hb (h ▸ ha), fun n => by
    unfold Dev.flag Dev.fld
    rw [Dev.reg_put_ne d a _ v (hs n).symm]⟩

/-- A flag of a stream's status other than RUN. -/
theorem outWork_setStat (n lo : Nat) (v : Bool) (hn : n < 3) (hlo : 1 ≤ lo) (h32 : lo < 32) : OutWork d (d.setFlag ⟨Reg.ING_S_STAT n, lo, 1⟩ v) := by
  refine ⟨rfl, rfl, rfl, rfl, rfl, fun b hb => Dev.reg_put_ne d _ b _ fun h => hb ?_, fun m => ?_⟩
  · rw [h]
    simp only [Reg.ING_S_STAT]
    omega
  · exact Dev.flag_setFlag_apart d _ _ v (by show lo + 1 ≤ 32; omega) (.inr (.inl (by show 0 + 1 ≤ lo; omega)))

theorem outWork_bumpBy (c : Cnt) (n : Nat) (hc : c ∈ [C.ING_HIST_DROP_CNT, C.ING_INCOMPLETE_CNT, C.ING_REC, C.ING_DROP_FULL]) :
    OutWork d (d.bumpBy c n) := by
  have hall : ∀ c ∈ [C.ING_HIST_DROP_CNT, C.ING_INCOMPLETE_CNT, C.ING_REC, C.ING_DROP_FULL], (0x110000 ≤ c.addr ∧ c.addr < 0x110030) ∧
      c.sat = Reg.ING_CNT_SAT := by decide
  obtain ⟨haddr, hsat⟩ := hall c hc
  have hstat : ∀ m, Reg.ING_S_STAT m ≠ c.addr ∧ Reg.ING_S_STAT m ≠ c.sat := fun m => by
    rw [hsat]
    simp only [Reg.ING_S_STAT, Reg.ING_CNT_SAT]
    omega
  refine ⟨?_, ?_, ?_, ?_, ?_, fun a ha => Dev.reg_bumpBy_ne d c n a (fun h => ha (by omega)) (fun h => ha ?_), fun m => ?_⟩
  · unfold Dev.bumpBy Dev.setCnt; dsimp only; split_ifs <;> rfl
  · unfold Dev.bumpBy Dev.setCnt; dsimp only; split_ifs <;> rfl
  · unfold Dev.bumpBy Dev.setCnt; dsimp only; split_ifs <;> rfl
  · unfold Dev.bumpBy Dev.setCnt; dsimp only; split_ifs <;> rfl
  · have hne : Reg.MEM_UE_ADDR_LO ≠ c.addr := by simp only [Reg.MEM_UE_ADDR_LO]; omega
    have hset : ∀ v, (d.setCnt c v).wide64 Reg.MEM_UE_ADDR_LO = d.wide64 Reg.MEM_UE_ADDR_LO := fun v => by
      unfold Dev.setCnt
      split
      · rw [Dev.wide64_putWide, if_neg hne]
      · rfl
    unfold Dev.bumpBy
    dsimp only
    split
    · exact hset _
    · exact hset _
  · rw [h, hsat]
    decide
  · unfold Dev.flag Dev.fld
    rw [Dev.reg_bumpBy_ne d c n _ (hstat m).1 (hstat m).2]

theorem outWork_raise (n a b : Nat) : OutWork d (d.raise n a b) := ⟨rfl, rfl, rfl, rfl, rfl, fun _ _ => rfl, fun _ => rfl⟩

theorem outWork_memw (a : Nat) (bs : List Byte) : OutWork d (d.memw a bs) := ⟨rfl, rfl, rfl, rfl, rfl, fun _ _ => rfl, fun _ => rfl⟩

theorem outWork_out (o : OutSt) : OutWork d { d with out := o } := ⟨rfl, rfl, rfl, rfl, rfl, fun _ _ => rfl, fun _ => rfl⟩

theorem ingEvt_apart (n : Nat) : Reg.ING_EVT ≠ Reg.ING_S_STAT n := by simp only [Reg.ING_EVT, Reg.ING_S_STAT]; omega

theorem outWork_sticky (n src : Nat) : OutWork d (d.sticky Reg.ING_EVT n src) := by
  unfold Dev.sticky
  split
  · exact .refl d
  · exact (outWork_put d Reg.ING_EVT _ (by decide) ingEvt_apart).trans (outWork_raise _ _ _ _)

theorem outWork_outStatus : OutWork d d.outStatus := by
  have h := alters_outStatus d
  refine ⟨h.cmd, h.same .memc List.not_mem_nil, h.same .time List.not_mem_nil, h.same .cfg List.not_mem_nil, ?_, fun a ha => h.reg a ?_,
    run_outStatus d⟩
  · rfl
  · simp only [List.mem_cons, List.not_mem_nil, or_false, not_or]
    exact ⟨fun e => ha (e ▸ by decide), fun e => ha (e ▸ by decide)⟩

theorem outWork_dropRecords (n : Nat) : OutWork d (d.dropRecords n) := by
  unfold Dev.dropRecords
  split
  · exact .refl d
  · dsimp only
    refine (outWork_bumpBy d C.ING_DROP_FULL n (by decide)).trans (.trans ?_ (outWork_sticky _ 0 Ev.ingFull))
    split
    · exact outWork_out _ _
    · exact outWork_out _ _

theorem outWork_dropHist : OutWork d d.dropHist :=
  (outWork_bumpBy d C.ING_HIST_DROP_CNT 1 (by decide)).trans (outWork_sticky _ 2 Ev.histDrop)

theorem outWork_repeat (f : Dev → Dev) (h : ∀ d, OutWork d (f d)) (n : Nat) : OutWork d (Nat.repeat f n d) := by
  induction n with
  | zero => exact .refl d
  | succ n ih => exact ih.trans (h _)

theorem outWork_popWindow (w : TapWin) : OutWork d (d.popWindow w) := ⟨rfl, rfl, rfl, rfl, rfl, fun _ _ => rfl, fun _ => rfl⟩

theorem outWork_waveItem : OutWork d d.waveItem := by
  unfold Dev.waveItem
  dsimp only
  split
  · exact (outWork_out d _).trans (outWork_raise _ _ _ _)
  · exact outWork_out d _

end

/-- The item a stream is writing is published, and the stream halts. -/
theorem outWork_haltItem (d : Dev) (s : Nat) (hs : s < 3) : OutWork d (d.haltItem s) := by
  unfold Dev.haltItem
  extract_lets item first n out x wr y z w
  clear_value item
  have hx : OutWork d x := by
    show OutWork d (if s = 0 then _ else _)
    split
    · split
      · exact .refl d
      · exact (outWork_memw d _ _).trans ((outWork_bumpBy _ C.ING_REC _ (by decide)).trans ((outWork_out _ _).trans
          ((outWork_dropRecords _ _).trans (outWork_outStatus _))))
    · split
      · exact (outWork_out d _).trans (outWork_repeat _ _ outWork_dropHist _)
      · split
        · exact .refl d
        · exact outWork_popWindow d _
  have hy : OutWork d y := by
    refine (hx.trans (outWork_put x (Reg.ING_S_WR s) wr ?_ fun m => ?_)).trans (outWork_put _ (Reg.ING_S_INC s) first ?_ fun m => ?_)
    · simp only [Reg.ING_S_WR]; omega
    · simp only [Reg.ING_S_WR, Reg.ING_S_STAT]; omega
    · simp only [Reg.ING_S_INC]; omega
    · simp only [Reg.ING_S_INC, Reg.ING_S_STAT]; omega
  have hw : OutWork d w :=
    (((hy.trans (outWork_setStat y s 2 true hs (by decide) (by decide))).trans (outWork_bumpBy _ C.ING_INCOMPLETE_CNT 1 (by decide))).trans
      (outWork_put _ Reg.ING_EVT _ (by decide) ingEvt_apart)).trans (outWork_raise _ _ _ _)
  have hsay : ∀ (c : Prop) [Decidable c] (src : Nat), OutWork d (if c then w.raise src else w) := fun c _ src => by
    split
    · exact hw.trans (outWork_raise _ _ _ _)
    · exact hw
  split
  · exact hw.trans (outWork_waveItem w)
  · split
    · exact hsay _ _
    · exact hsay _ _

theorem outWork_setIngStat (d : Dev) (f : Fld) (v : Bool) (h : f.addr = Reg.ING_STAT) : OutWork d (d.setFlag f v) :=
  outWork_put d f.addr _ (h ▸ by decide) fun n => h ▸ (stat_ne_ingStat n).symm

/-- Each running stream's item in progress is published. -/
def Dev.publishItems (d : Dev) : Dev :=
  (List.range 3).foldl (fun d s => if d.streamRuns s && d.inProgress s then d.haltItem s else d) d

/-- HALTED is set for a stream that runs. -/
def Dev.haltOne (d : Dev) (s : Nat) : Dev := if d.flag (F.ING_S_STAT_RUN s) then d.setFlag (F.ING_S_STAT_HALTED s) true else d

theorem outWork_foldlMem {f : Dev → Nat → Dev} (l : List Nat) (h : ∀ d, ∀ a ∈ l, OutWork d (f d a)) : ∀ d, OutWork d (l.foldl f d) := by
  induction l with
  | nil => exact .refl
  | cons a l ih =>
    exact fun d => (h d a List.mem_cons_self).trans (ih (fun d b hb => h d b (List.mem_cons_of_mem _ hb)) _)

theorem outWork_publishItems (d : Dev) : OutWork d d.publishItems :=
  outWork_foldlMem _ (fun d s hs => by
    split
    · exact outWork_haltItem d s (List.mem_range.mp hs)
    · exact .refl d) d

theorem outWork_haltOne (d : Dev) {s : Nat} (hs : s < 3) : OutWork d (d.haltOne s) := by
  unfold Dev.haltOne
  split
  · exact outWork_setStat d s 2 true hs (by decide) (by decide)
  · exact .refl d

theorem outWork_haltAll (l : List Nat) (h : ∀ n ∈ l, n < 3) (d : Dev) : OutWork d (l.foldl Dev.haltOne d) :=
  outWork_foldlMem l (fun d n hn => outWork_haltOne d (h n hn)) d

theorem haltStreams_eq (d : Dev) : d.haltStreams =
    (((List.range 3).foldl Dev.haltOne d.publishItems).setFlag F.ING_STAT_HALT
      ((List.range 3).any fun s => ((List.range 3).foldl Dev.haltOne d.publishItems).flag (F.ING_S_STAT_HALTED s))).outStatus := rfl

theorem outWork_haltStreams (d : Dev) : OutWork d d.haltStreams := by
  rw [haltStreams_eq]
  exact (((outWork_publishItems d).trans (outWork_haltAll _ (fun n => List.mem_range.mp) _)).trans
    (outWork_setIngStat _ F.ING_STAT_HALT _ rfl)).trans (outWork_outStatus _)

theorem halted_haltOne (d : Dev) (n m : Nat) (h : d.flag (F.ING_S_STAT_HALTED n) = true ∨ (n = m ∧ d.flag (F.ING_S_STAT_RUN n) = true)) :
    (d.haltOne m).flag (F.ING_S_STAT_HALTED n) = true := by
  unfold Dev.haltOne
  by_cases hm : n = m
  · subst hm
    split
    · exact Dev.flag_setFlag_self d (F.ING_S_STAT_HALTED n) true (by show 2 + 1 ≤ 32; decide) rfl
    · rename_i hrun
      exact h.resolve_right fun hr => hrun hr.2
  · have hh := h.resolve_right fun hr => hm hr.1
    split
    · rw [Dev.flag_setFlag_apart d (F.ING_S_STAT_HALTED m) _ true (by show 2 + 1 ≤ 32; decide)
        (.inl (by simp only [Reg.ING_S_STAT]; omega))]
      exact hh
    · exact hh

/-- Every stream of the list that runs is halted after it. -/
theorem halted_haltAll (n : Nat) : ∀ (l : List Nat) (d : Dev), (∀ m ∈ l, m < 3) →
    d.flag (F.ING_S_STAT_HALTED n) = true ∨ (n ∈ l ∧ d.flag (F.ING_S_STAT_RUN n) = true) →
    (l.foldl Dev.haltOne d).flag (F.ING_S_STAT_HALTED n) = true := by
  intro l
  induction l with
  | nil => exact fun d _ h => h.resolve_right fun hn => absurd hn.1 List.not_mem_nil
  | cons m l ih =>
    intro d hl h
    refine ih (d.haltOne m) (fun k hk => hl k (List.mem_cons_of_mem _ hk)) ?_
    rcases h with h | ⟨hn, hr⟩
    · exact .inl (halted_haltOne d n m (.inl h))
    · rcases List.mem_cons.mp hn with rfl | hn
      · exact .inl (halted_haltOne d n n (.inr ⟨rfl, hr⟩))
      · exact .inr ⟨hn, ((outWork_haltOne d (hl m List.mem_cons_self)).run n).trans hr⟩

theorem halted_outStatus (d : Dev) (n : Nat) : d.outStatus.flag (F.ING_S_STAT_HALTED n) = d.flag (F.ING_S_STAT_HALTED n) := by
  unfold Dev.outStatus
  dsimp only
  rw [Dev.flag_setFlag_apart _ _ _ _ (by decide) (.inr (.inr (Nat.le_of_ble_eq_true rfl))),
    Dev.flag_setFlag_apart _ _ _ _ (by decide) (.inl (stat_ne_ingStat n)),
    Dev.flag_setFld_apart _ _ _ _ (by decide) (.inl (stat_ne_ingStat n))]

/-- Every stream that runs is halted (R333). -/
theorem halted_haltStreams (d : Dev) {n : Nat} (hn : n < 3) (h : d.flag (F.ING_S_STAT_RUN n) = true) :
    d.haltStreams.flag (F.ING_S_STAT_HALTED n) = true := by
  rw [haltStreams_eq, halted_outStatus, Dev.flag_setFlag_apart _ _ _ _ (by decide) (.inl (stat_ne_ingStat n))]
  exact halted_haltAll n _ _ (fun m => List.mem_range.mp)
    (.inr ⟨List.mem_range.mpr hn, ((outWork_publishItems d).run n).trans h⟩)

/-! ## A group halts (R517) -/

/-- HALT of a group. -/
abbrev haltFld (g : Nat) : Fld := if g = 0 then F.MEM_STAT_HALT_A else F.MEM_STAT_HALT_B

theorem haltFld_cases (g : Nat) : haltFld g = F.MEM_STAT_HALT_A ∨ haltFld g = F.MEM_STAT_HALT_B := by
  unfold haltFld
  split
  · exact .inl rfl
  · exact .inr rfl

/-- The group no longer accepts writes; a pass is still to end. -/
def Dev.groupHalted (d : Dev) (g : Nat) : Dev := (d.haltStreams.setFlag (haltFld g) true).sticky Reg.MEM_EVT 2 Ev.memHalt

theorem stopGroup_eq (d : Dev) (g : Nat) : d.stopGroup g = (d.groupHalted g).closeScrub 4 0x0304 [] := rfl

/-- The summary of a pass is written where its address can still be. -/
def Dev.reportScrub (d : Dev) (j : ScrubJob) (flags : Nat) : Dev :=
  let x := { d with memc := { d.memc with scrub := none } }.setFlag F.MEM_STAT_SCRUB_BUSY false
  if x.haltedAt j.summary || x.haltedAt (j.summary + 255) then x else x.memw j.summary (x.scrubSummary j flags)

theorem closeScrub_some {d : Dev} {j : ScrubJob} (h : d.memc.scrub = some j) (flags status : Nat) (result : List Byte) :
    d.closeScrub flags status result = (d.reportScrub j flags).complete j.pair j.tag status result := by
  unfold Dev.closeScrub
  rw [h]
  rfl

theorem closeScrub_none {d : Dev} (h : d.memc.scrub = none) (flags status : Nat) (result : List Byte) :
    d.closeScrub flags status result = d := by
  unfold Dev.closeScrub
  rw [h]

/-- What ending a pass keeps: the registers but SCRUB_BUSY and those of the queues, and the address of the last uncorrectable beat. -/
structure PassEnds (x y : Dev) : Prop where
  scrub : y.memc.scrub = none
  faults : y.memc.faults = x.memc.faults
  reg : ∀ a, a ≠ Reg.MEM_STAT → cmdqOwn a = false → y.reg a = x.reg a
  stat : ∀ f : Fld, f.addr = Reg.MEM_STAT → f.lo + f.width ≤ 8 → y.flag f = x.flag f
  ueAddr : y.wide64 Reg.MEM_UE_ADDR_LO = x.wide64 Reg.MEM_UE_ADDR_LO

/-- The end of a command leaves everything but the queues. -/
theorem cmdFrame_finish (d : Dev) (r : Running) (status : Nat) (results : List Byte) : CmdFrame (d.retire r) (d.finish r status results) := by
  unfold Dev.finish
  dsimp only
  split
  · exact cmdFrame_recount (d.retire r) _
  · exact (post_frame (d.retire r) _ _ _ _).1.trans ((cmdFrame_recount _ _).trans (refuseUnknown_frame _ _ _).1)

theorem finish_rest (d : Dev) (r : Running) (status : Nat) (results : List Byte) : (d.finish r status results).memc = d.memc ∧
    (d.finish r status results).wide = d.wide ∧ ∀ a, cmdqOwn a = false → (d.finish r status results).reg a = d.reg a := by
  have h := cmdFrame_finish d r status results
  refine ⟨?_, ?_, h.reg⟩
  · obtain ⟨x, w, e, p, m, b, hy⟩ := h.rest
    rw [hy]
    rfl
  · obtain ⟨x, w, e, p, m, b, hy⟩ := h.rest
    rw [hy]
    rfl

theorem complete_rest (d : Dev) (q tag status : Nat) (results : List Byte) : (d.complete q tag status results).memc = d.memc ∧
    (d.complete q tag status results).wide = d.wide ∧ ∀ a, cmdqOwn a = false → (d.complete q tag status results).reg a = d.reg a := by
  unfold Dev.complete
  split
  · exact finish_rest d _ _ _
  · exact ⟨rfl, rfl, fun _ _ => rfl⟩

/-- The part with its pass over, before the summary. -/
def Dev.passOver (d : Dev) : Dev := { d with memc := { d.memc with scrub := none } }.setFlag F.MEM_STAT_SCRUB_BUSY false

theorem reportScrub_eq (d : Dev) (j : ScrubJob) (flags : Nat) : d.reportScrub j flags =
    if d.passOver.haltedAt j.summary || d.passOver.haltedAt (j.summary + 255) then d.passOver
    else d.passOver.memw j.summary (d.passOver.scrubSummary j flags) := rfl

theorem reportScrub_rest (d : Dev) (j : ScrubJob) (flags : Nat) : (d.reportScrub j flags).memc = d.passOver.memc ∧ (d.reportScrub j flags).wide = d.wide ∧
    (d.reportScrub j flags).regs = d.passOver.regs ∧ (d.reportScrub j flags).cmd = d.cmd := by
  rw [reportScrub_eq]
  split
  · exact ⟨rfl, rfl, rfl, rfl⟩
  · exact ⟨rfl, rfl, rfl, rfl⟩

theorem passEnds_closeScrub (d : Dev) (flags status : Nat) (result : List Byte) : PassEnds d (d.closeScrub flags status result) := by
  cases hj : d.memc.scrub with
  | none =>
    rw [closeScrub_none hj]
    exact ⟨hj, rfl, fun _ _ _ => rfl, fun _ _ _ => rfl, rfl⟩
  | some j =>
    rw [closeScrub_some hj]
    obtain ⟨hmemc, hwide, hregs, -⟩ := reportScrub_rest d j flags
    obtain ⟨hm, hw, hreg⟩ := complete_rest (d.reportScrub j flags) j.pair j.tag status result
    refine ⟨?_, ?_, fun a ha hc => ?_, fun f hf h8 => ?_, ?_⟩
    · rw [hm, hmemc]; rfl
    · rw [hm, hmemc]; rfl
    · rw [hreg a hc, Dev.reg_congr hregs]
      exact Dev.reg_put_ne _ _ _ _ ha
    · have hflag : ((d.reportScrub j flags).complete j.pair j.tag status result).flag f = d.passOver.flag f := by
        unfold Dev.flag Dev.fld
        rw [hreg _ (hf ▸ rfl), Dev.reg_congr hregs]
      rw [hflag]
      exact Dev.flag_setFlag_apart _ F.MEM_STAT_SCRUB_BUSY f false (by decide) (.inr (.inl h8))
    · unfold Dev.wide64
      rw [hw, hwide]

/-- What the halt of a group shows and keeps. -/
structure GroupStops (g : Nat) (x y : Dev) : Prop where
  halted : y.flag (haltFld g) = true
  reported : y.bit Reg.MEM_EVT 2 = true
  scrub : y.memc.scrub = none
  stat : ∀ f : Fld, f.addr = Reg.MEM_STAT → f.lo + f.width ≤ 8 → (f.lo + f.width ≤ (haltFld g).lo ∨ (haltFld g).lo + 1 ≤ f.lo) → y.flag f = x.flag f
  evt : ∀ n, n < 32 → x.bit Reg.MEM_EVT n = true → y.bit Reg.MEM_EVT n = true
  streams : ∀ n, n < 3 → x.flag (F.ING_S_STAT_RUN n) = true → y.flag (F.ING_S_STAT_HALTED n) = true
  cnt : y.reg Reg.MEM_UE_CNT = x.reg Reg.MEM_UE_CNT
  ueAddr : y.wide64 Reg.MEM_UE_ADDR_LO = x.wide64 Reg.MEM_UE_ADDR_LO

/-- A sticky bit of a register: the bit stands, and the others stay. -/
theorem sticky_spec (d : Dev) (a n src : Nat) (hn : n < 32) : (d.sticky a n src).bit a n = true ∧
    (∀ m, m < 32 → d.bit a m = true → (d.sticky a n src).bit a m = true) ∧ (∀ b, b ≠ a → (d.sticky a n src).reg b = d.reg b) ∧
    (d.sticky a n src).memc = d.memc ∧ (d.sticky a n src).wide = d.wide ∧ (d.sticky a n src).cmd = d.cmd := by
  unfold Dev.sticky
  split
  · rename_i h
    exact ⟨h, fun _ _ h => h, fun _ _ => rfl, rfl, rfl, rfl⟩
  · refine ⟨Dev.bit_setBit_self d a n true hn, fun m hm h => ?_, fun b hb => Dev.reg_put_ne d _ _ _ hb, rfl, rfl, rfl⟩
    refine (Dev.bit_setBit d a n a m true hn).trans ?_
    split
    · rfl
    · exact h

theorem groupHalted_spec (d : Dev) (g : Nat) : (d.groupHalted g).flag (haltFld g) = true ∧ (d.groupHalted g).bit Reg.MEM_EVT 2 = true ∧
    (∀ f : Fld, f.addr = Reg.MEM_STAT → (f.lo + f.width ≤ (haltFld g).lo ∨ (haltFld g).lo + 1 ≤ f.lo) → (d.groupHalted g).flag f = d.flag f) ∧
    (∀ n, n < 32 → d.bit Reg.MEM_EVT n = true → (d.groupHalted g).bit Reg.MEM_EVT n = true) ∧
    (∀ a, a ≠ Reg.MEM_STAT → a ≠ Reg.MEM_EVT → (d.groupHalted g).reg a = d.haltStreams.reg a) ∧
    (d.groupHalted g).memc = d.memc ∧ (d.groupHalted g).wide64 Reg.MEM_UE_ADDR_LO = d.wide64 Reg.MEM_UE_ADDR_LO ∧
    (d.groupHalted g).cmd = d.cmd := by
  have hs := outWork_haltStreams d
  have haddr : (haltFld g).addr = Reg.MEM_STAT := by rcases haltFld_cases g with h | h <;> rw [h]
  have hfit : (haltFld g).lo + (haltFld g).width ≤ 32 ∧ (haltFld g).width = 1 := by rcases haltFld_cases g with h | h <;> rw [h] <;> decide
  obtain ⟨h1, h2, h3, h4, h5, h6⟩ := sticky_spec (d.haltStreams.setFlag (haltFld g) true) Reg.MEM_EVT 2 Ev.memHalt (by decide)
  have hflag : ∀ f : Fld, f.addr = Reg.MEM_STAT → (d.groupHalted g).flag f = (d.haltStreams.setFlag (haltFld g) true).flag f := fun f hf => by
    unfold Dev.groupHalted Dev.flag Dev.fld
    rw [h3 _ (hf ▸ by decide)]
  have hstat : ∀ f : Fld, f.addr = Reg.MEM_STAT → d.haltStreams.flag f = d.flag f := fun f hf => by
    unfold Dev.flag Dev.fld
    rw [hs.reg _ (hf ▸ by decide)]
  refine ⟨(hflag _ haddr).trans (Dev.flag_setFlag_self _ _ _ hfit.1 hfit.2), h1, fun f hf ha => ?_, fun n hn h => h2 n hn ?_, fun a ha hb => ?_,
    h4.trans hs.memc, ?_, h6.trans hs.cmd⟩
  · rw [hflag f hf, Dev.flag_setFlag_apart _ _ f true hfit.1 (.inr (by rw [hfit.2]; exact ha)), hstat f hf]
  · unfold Dev.bit at h ⊢
    rw [show (d.haltStreams.setFlag (haltFld g) true).reg Reg.MEM_EVT = d.haltStreams.reg Reg.MEM_EVT from
      Dev.reg_put_ne _ _ _ _ (haddr ▸ by decide), hs.reg _ (by decide)]
    exact h
  · exact (h3 a hb).trans (Dev.reg_put_ne _ _ _ _ (haddr ▸ ha))
  · have hw : (d.groupHalted g).wide64 Reg.MEM_UE_ADDR_LO = d.haltStreams.wide64 Reg.MEM_UE_ADDR_LO := by
      unfold Dev.wide64
      exact congrArg (fun w => (sget (fun _ => (0 : Wide)) Reg.MEM_UE_ADDR_LO w).toNat) h5
    exact hw.trans hs.ueAddr

theorem groupStops_stopGroup (d : Dev) (g : Nat) : GroupStops g d (d.stopGroup g) := by
  obtain ⟨h1, h2, h3, h4, h5, h6, h7, h8⟩ := groupHalted_spec d g
  have he := passEnds_closeScrub (d.groupHalted g) 4 0x0304 []
  have haddr : (haltFld g).addr = Reg.MEM_STAT ∧ (haltFld g).lo + (haltFld g).width ≤ 8 := by
    rcases haltFld_cases g with h | h <;> rw [h] <;> decide
  rw [stopGroup_eq]
  refine ⟨(he.stat _ haddr.1 haddr.2).trans h1, ?_, he.scrub, fun f hf hf8 ha => (he.stat f hf hf8).trans (h3 f hf ha),
    fun n hn h => ?_, fun n hn h => ?_, ?_, he.ueAddr.trans h7⟩
  · unfold Dev.bit
    rw [he.reg Reg.MEM_EVT (by decide) rfl]
    exact h2
  · unfold Dev.bit
    rw [he.reg Reg.MEM_EVT (by decide) rfl]
    exact h4 n hn h
  · have hq : cmdqOwn (Reg.ING_S_STAT n) = false := by simp only [cmdqOwn, Reg.ING_S_STAT, decide_eq_false_iff_not]; omega
    have hflag : ((d.groupHalted g).closeScrub 4 0x0304 []).flag (F.ING_S_STAT_HALTED n) = d.haltStreams.flag (F.ING_S_STAT_HALTED n) := by
      unfold Dev.flag Dev.fld
      rw [he.reg _ (by simp only [Reg.ING_S_STAT, Reg.MEM_STAT]; omega) hq,
        h5 _ (by simp only [Reg.ING_S_STAT, Reg.MEM_STAT]; omega) (by simp only [Reg.ING_S_STAT, Reg.MEM_EVT]; omega)]
    rw [hflag]
    exact halted_haltStreams d hn h
  · rw [he.reg _ (by decide) rfl, h5 _ (by decide) (by decide), (outWork_haltStreams d).reg _ (by decide)]

/-- A group that has halted keeps its flag, and the other group's and ACTIVE stay. -/
theorem haltGroup_spec (d : Dev) (g : Nat) : (d.haltGroup g).flag (haltFld g) = true ∧
    ∀ f : Fld, f.addr = Reg.MEM_STAT → f.lo + f.width ≤ 8 → (f.lo + f.width ≤ (haltFld g).lo ∨ (haltFld g).lo + 1 ≤ f.lo) →
      (d.haltGroup g).flag f = d.flag f := by
  by_cases h : d.flag (haltFld g) = true
  · have he : d.haltGroup g = d := if_pos h
    rw [he]
    exact ⟨h, fun _ _ _ _ => rfl⟩
  · have he : d.haltGroup g = d.scanFree.stopGroup g := if_neg h
    have hs := groupStops_stopGroup d.scanFree g
    rw [he]
    exact ⟨hs.halted, fun f hf h8 ha => (hs.stat f hf h8 ha).trans ((alters_scanFree d).flag (hf ▸ by decide))⟩

/-- Both groups halt. -/
theorem haltBoth_spec (d : Dev) : ((d.haltGroup 0).haltGroup 1).flag F.MEM_STAT_HALT_A = true ∧
    ((d.haltGroup 0).haltGroup 1).flag F.MEM_STAT_HALT_B = true ∧
    ((d.haltGroup 0).haltGroup 1).flag F.MEM_STAT_ACTIVE = d.flag F.MEM_STAT_ACTIVE := by
  obtain ⟨h0, k0⟩ := haltGroup_spec d 0
  obtain ⟨h1, k1⟩ := haltGroup_spec (d.haltGroup 0) 1
  exact ⟨(k1 F.MEM_STAT_HALT_A rfl (by decide) (by decide)).trans h0, h1,
    (k1 F.MEM_STAT_ACTIVE rfl (by decide) (by decide)).trans (k0 F.MEM_STAT_ACTIVE rfl (by decide) (by decide))⟩

end Sys2Proof.Machine
end

section
/-! SUPPORT. Training and maintenance, die failure, the write-merge buffer, the patrol, engine traps, and the end of a Planish pass (R507,
R510, R513 to R520, R522 to R524). -/

namespace Sys2Proof.Machine

/-! ## Training (R513, R525) -/

/-- The memory is active, at its capacity and speed. -/
def Dev.activated (d : Dev) : Dev :=
  (((d.setFlag F.MEM_STAT_ACTIVE true).setFlag F.GLB_STAT_MEM_ACTIVE true).setFlag F.MEM_STAT_CAP Config.sixteenGiB).showSpeed

theorem alters_activated (d : Dev) : Alters [] [Reg.MEM_STAT, Reg.GLB_STAT] d d.activated :=
  ((((Alters.refl d).setFlag F.MEM_STAT_ACTIVE _ (by decide)).setFlag F.GLB_STAT_MEM_ACTIVE _ (by decide)).setFlag F.MEM_STAT_CAP _
    (by decide)).setFld F.MEM_STAT_SPEED _ (by decide)

theorem flags_activated (d : Dev) : d.activated.flag F.MEM_STAT_ACTIVE = true ∧ d.activated.flag F.GLB_STAT_MEM_ACTIVE = true ∧
    d.activated.flag F.MEM_STAT_CAP = Config.sixteenGiB ∧ d.activated.memHalted = d.memHalted := by
  have hkeep : ∀ f : Fld, f.addr = Reg.MEM_STAT → 1 ≤ f.lo → f.lo + f.width ≤ 11 → d.activated.flag f = d.flag f := fun f ha h1 h11 => by
    unfold Dev.activated Dev.showSpeed
    rw [Dev.flag_setFld_apart _ F.MEM_STAT_SPEED f _ (by decide) (.inr (.inl h11)),
      Dev.flag_setFlag_apart _ F.MEM_STAT_CAP f _ (by decide) (.inr (.inl (h11.trans (by decide)))),
      Dev.flag_setFlag_apart _ F.GLB_STAT_MEM_ACTIVE f _ (by decide) (.inl (ha ▸ by decide)),
      Dev.flag_setFlag_apart _ F.MEM_STAT_ACTIVE f _ (by decide) (.inr (.inr h1))]
  refine ⟨?_, ?_, ?_, ?_⟩
  · unfold Dev.activated Dev.showSpeed
    rw [Dev.flag_setFld_apart _ _ _ _ (by decide) (by decide), Dev.flag_setFlag_apart _ _ _ _ (by decide) (by decide),
      Dev.flag_setFlag_apart _ _ _ _ (by decide) (by decide), Dev.flag_setFlag_self _ _ _ (by decide) rfl]
  · unfold Dev.activated Dev.showSpeed
    rw [Dev.flag_setFld_apart _ _ _ _ (by decide) (by decide), Dev.flag_setFlag_apart _ _ _ _ (by decide) (by decide),
      Dev.flag_setFlag_self _ _ _ (by decide) rfl]
  · unfold Dev.activated Dev.showSpeed
    rw [Dev.flag_setFld_apart _ _ _ _ (by decide) (by decide), Dev.flag_setFlag_self _ _ _ (by decide) rfl]
  · unfold Dev.memHalted
    rw [hkeep F.MEM_STAT_HALT_A rfl (by decide) (by decide), hkeep F.MEM_STAT_HALT_B rfl (by decide) (by decide)]

/-- The whole memory is zero. -/
def Dev.wiped (d : Dev) : Dev := { d.wipe 0 memCapacity with memc := { d.memc with wipeDue := false, faults := [], lines := [] } }

/-- Memory that is not yet active, in a part whose PLL has locked. -/
theorem training_open {d : Dev} (ha : d.flag F.MEM_STAT_ACTIVE = false) (hp : d.rst.phase = .running) :
    (d.flag F.MEM_STAT_ACTIVE || d.rst.phase != .running) = false := by
  rw [ha, hp]
  rfl

theorem memTrained_good {d : Dev} (ha : d.flag F.MEM_STAT_ACTIVE = false) (hp : d.rst.phase = .running) (hh : d.memHalted = false) :
    d.memTrained true [] = (if d.memc.wipeDue then d.wiped else d).activated := by
  unfold Dev.memTrained
  rw [training_open ha hp, if_neg Bool.false_ne_true, Bool.not_true, if_neg Bool.false_ne_true, List.foldl_nil]
  exact if_neg (by rw [hh]; exact Bool.false_ne_true)

section
variable {s : State} (ha : s.dev.flag F.MEM_STAT_ACTIVE = false) (hp : s.dev.rst.phase = .running)
include ha hp

theorem gives_trained (hh : s.dev.memHalted = false) : Gives (.memTrainingDone true []) s fun t => t.dev.flag F.MEM_STAT_ACTIVE = true ∧
    t.dev.flag F.GLB_STAT_MEM_ACTIVE = true ∧ t.dev.flag F.MEM_STAT_CAP = Config.sixteenGiB ∧ t.dev.memc.wipeDue = false ∧
    (s.dev.memc.wipeDue = true → ∀ a, ¬InRing s.dev a → a < memCapacity → memByte t.mem a = 0#8) ∧
    (s.dev.memc.wipeDue = false → KeepsMem s t) ∧ Keeps [.memc] s t ∧ KeepsRegs [Reg.MEM_STAT, Reg.GLB_STAT] s t := by
  let f := fun (_ : List Host.Cell) (d : Dev) => d.memTrained true []
  let y := if s.dev.memc.wipeDue then s.dev.begin_.wiped else s.dev.begin_
  have hw : f s.mem s.dev.begin_ = y.activated := memTrained_good (d := s.dev.begin_) ha hp hh
  have hset := onDev_settled s f
  rw [hw] at hset
  have hy : y.regs = s.dev.begin_.regs ∧ y.wide = s.dev.begin_.wide ∧ (∀ p : Part, p ∉ [Part.memc] → p.same s.dev.begin_ y) ∧
      y.memc.wipeDue = false := by
    show (if s.dev.memc.wipeDue then _ else _ : Dev).regs = _ ∧ (if s.dev.memc.wipeDue then _ else _ : Dev).wide = _ ∧
      (∀ p : Part, p ∉ [Part.memc] → p.same _ (if s.dev.memc.wipeDue then _ else _ : Dev)) ∧
      (if s.dev.memc.wipeDue then _ else _ : Dev).memc.wipeDue = false
    split
    · refine ⟨rfl, rfl, fun p hp => ?_, rfl⟩
      cases p
      case memc => exact absurd (List.mem_singleton_self _) hp
      all_goals rfl
    · exact ⟨rfl, rfl, fun p _ => by cases p <;> rfl, by
        rename_i hdue
        exact Bool.eq_false_iff.mpr hdue⟩
  obtain ⟨hregs, hwide, hparts, hdue⟩ := hy
  have hact := alters_activated y
  obtain ⟨h1, h2, h3, h4⟩ := flags_activated y
  have hbase : y.activated.wide64 Reg.EVT_RING_BASE_LO = s.dev.wide64 Reg.EVT_RING_BASE_LO :=
    hact.base.trans (by unfold Dev.wide64; rw [hwide]; rfl)
  have hsize : y.activated.reg Reg.EVT_RING_SIZE = s.dev.reg Reg.EVT_RING_SIZE := (hact.reg _ (by decide)).trans (Dev.reg_congr hregs _)
  have hopen : y.activated.memHalted = false := h4.trans ((memHalted_congr (Dev.reg_congr hregs _)).trans hh)
  have hmemc : y.activated.memc.wipeDue = y.memc.wipeDue := by
    have hm : y.activated.memc = _ := hact.same .memc List.not_mem_nil
    rw [hm]
  have hstate : (s.onDev f).dev.memc.wipeDue = y.activated.memc.wipeDue := by
    have hm : (s.onDev f).dev.memc = _ := hset.parts .memc
    rw [hm]
  refine ⟨s.onDev f, rfl, (hset.flag F.MEM_STAT_ACTIVE rfl rfl).trans h1, (hset.flag F.GLB_STAT_MEM_ACTIVE rfl rfl).trans h2,
    (hset.flag F.MEM_STAT_CAP rfl rfl).trans h3, hstate.trans (hmemc.trans hdue), fun hd a hr hlt => ?_, fun hd => ?_, fun p hp => ?_,
    fun a hn h1 h2 => ?_⟩
  · have hout : y.activated.outbox = [.zero 0 memCapacity] := by
      rw [hact.outbox]
      show (if s.dev.memc.wipeDue then _ else _ : Dev).outbox = _
      rw [hd]
      rfl
    rw [hset.zeroed 0 memCapacity hout hbase hsize hopen a hr, if_pos ⟨Nat.zero_le _, by omega⟩]
  · refine hset.mem ?_ hbase hsize
    rw [hact.outbox]
    show (if s.dev.memc.wipeDue then _ else _ : Dev).outbox = _
    rw [hd]
    rfl
  · exact same_trans (begin_same s.dev p) (same_trans (hparts p hp) (same_trans (hact.same p List.not_mem_nil) (hset.parts p)))
  · exact (hset.reg a h1 h2).trans ((hact.reg a hn).trans (Dev.reg_congr hregs _))

/-- Both groups are halted, and the memory does not become active. -/
abbrev BothHalted (t : State) : Prop :=
  t.dev.flag F.MEM_STAT_HALT_A = true ∧ t.dev.flag F.MEM_STAT_HALT_B = true ∧ t.dev.flag F.MEM_STAT_ACTIVE = false

theorem gives_trainingFails (failed : List (Fin 20)) : Gives (.memTrainingDone false failed) s BothHalted := by
  let f := fun (_ : List Host.Cell) (d : Dev) => d.memTrained false failed
  have hw : f s.mem s.dev.begin_ = (s.dev.begin_.haltGroup 0).haltGroup 1 := by
    show s.dev.begin_.memTrained false failed = _
    unfold Dev.memTrained
    rw [training_open (d := s.dev.begin_) ha hp, if_neg Bool.false_ne_true, Bool.not_false, if_pos rfl]
  obtain ⟨h1, h2, h3⟩ := haltBoth_spec s.dev.begin_
  have hset := onDev_settled s f
  rw [hw] at hset
  exact ⟨s.onDev f, rfl, (hset.flag _ rfl rfl).trans h1, (hset.flag _ rfl rfl).trans h2, (hset.flag _ rfl rfl).trans (h3.trans ha)⟩

end

/-! ## A die declared failed (R514, R515) -/

/-- The first die declared failed is erased. -/
def Dev.eraseDie (d : Dev) (die : Nat) : Dev :=
  ((d.setFlag F.MEM_STAT_ERASURE true).setFld F.MEM_STAT_ERASED_DIE die).sticky Reg.MEM_EVT 1 Ev.memDie

section
variable {d : Dev} {die : Nat}

theorem declareDie_first (h : d.flag F.MEM_STAT_ERASURE = false) : d.declareDie die = d.eraseDie die :=
  if_neg (by rw [h]; exact Bool.false_ne_true)

theorem declareDie_second (h : d.flag F.MEM_STAT_ERASURE = true) (hd : d.fld F.MEM_STAT_ERASED_DIE ≠ die) :
    d.declareDie die = (d.haltGroup 0).haltGroup 1 := (if_pos h).trans (if_neg hd)

theorem alters_eraseDie : Alters [] [Reg.MEM_STAT, Reg.MEM_EVT] d (d.eraseDie die) :=
  (((Alters.refl d).setFlag F.MEM_STAT_ERASURE _ (by decide)).setFld F.MEM_STAT_ERASED_DIE _ (by decide)).sticky _ _ _ (by decide)

theorem eraseDie_spec (hd : die < 10) : (d.eraseDie die).flag F.MEM_STAT_ERASURE = true ∧ (d.eraseDie die).fld F.MEM_STAT_ERASED_DIE = die ∧
    (d.eraseDie die).bit Reg.MEM_EVT 1 = true ∧ (d.eraseDie die).flag F.MEM_STAT_ACTIVE = d.flag F.MEM_STAT_ACTIVE := by
  obtain ⟨h1, -, h3, -⟩ := sticky_spec ((d.setFlag F.MEM_STAT_ERASURE true).setFld F.MEM_STAT_ERASED_DIE die) Reg.MEM_EVT 1 Ev.memDie (by decide)
  have hfld : ∀ f : Fld, f.addr = Reg.MEM_STAT → (d.eraseDie die).fld f =
      ((d.setFlag F.MEM_STAT_ERASURE true).setFld F.MEM_STAT_ERASED_DIE die).fld f := fun f hf => by
    unfold Dev.eraseDie Dev.fld
    rw [h3 _ (hf ▸ by decide)]
  have hflag : ∀ f : Fld, f.addr = Reg.MEM_STAT → (d.eraseDie die).flag f =
      ((d.setFlag F.MEM_STAT_ERASURE true).setFld F.MEM_STAT_ERASED_DIE die).flag f := fun f hf => by unfold Dev.flag; rw [hfld f hf]
  refine ⟨?_, ?_, h1, ?_⟩
  · rw [hflag _ rfl, Dev.flag_setFld_apart _ _ _ _ (by decide) (by decide), Dev.flag_setFlag_self _ _ _ (by decide) rfl]
  · rw [hfld _ rfl, Dev.fld_setFld_self _ _ _ (by decide)]
    exact Nat.mod_eq_of_lt (by show die < 16; omega)
  · rw [hflag _ rfl, Dev.flag_setFld_apart _ _ _ _ (by decide) (by decide), Dev.flag_setFlag_apart _ _ _ _ (by decide) (by decide)]

end

/-- A second die of those that fail in training halts both groups. -/
theorem gives_twoDiesFail {s : State} {a b : Fin 20} (ha : s.dev.flag F.MEM_STAT_ACTIVE = false) (hp : s.dev.rst.phase = .running)
    (he : s.dev.flag F.MEM_STAT_ERASURE = false) (hab : a.val % 10 ≠ b.val % 10) :
    Gives (.memTrainingDone true [a, b]) s BothHalted := by
  let f := fun (_ : List Host.Cell) (d : Dev) => d.memTrained true [a, b]
  obtain ⟨k1, k2, -, k4⟩ := eraseDie_spec (d := s.dev.begin_) (Nat.mod_lt a.val (by decide : 0 < 10))
  obtain ⟨h1, h2, h3⟩ := haltBoth_spec (s.dev.begin_.eraseDie (a.val % 10))
  have hdies : [a, b].foldl (fun (d : Dev) c => d.declareDie (c.val % 10)) s.dev.begin_ =
      ((s.dev.begin_.eraseDie (a.val % 10)).haltGroup 0).haltGroup 1 := by
    show (s.dev.begin_.declareDie (a.val % 10)).declareDie (b.val % 10) = _
    rw [declareDie_first (d := s.dev.begin_) he, declareDie_second k1 (by rw [k2]; exact hab)]
  have hw : f s.mem s.dev.begin_ = ((s.dev.begin_.eraseDie (a.val % 10)).haltGroup 0).haltGroup 1 := by
    show s.dev.begin_.memTrained true [a, b] = _
    unfold Dev.memTrained
    rw [training_open (d := s.dev.begin_) ha hp, if_neg Bool.false_ne_true, Bool.not_true, if_neg Bool.false_ne_true, hdies]
    refine if_pos ?_
    unfold Dev.memHalted
    rw [h1, Bool.true_or]
  have hset := onDev_settled s f
  rw [hw] at hset
  exact ⟨s.onDev f, rfl, (hset.flag _ rfl rfl).trans h1, (hset.flag _ rfl rfl).trans h2, (hset.flag _ rfl rfl).trans (h3.trans (k4.trans ha))⟩

/-! ## Corrections of a second (R514) -/

/-- The second's corrections begin anew. -/
def Dev.newSecond (d : Dev) : Dev := { d with memc := { d.memc with dieCe := [] } }

section
variable {s : State}

theorem gives_quietSecond (h : ∀ e ∈ s.dev.memc.dieCe, e.2 ≤ s.dev.par P.mem_die_ce_thresh 0) : Gives .dieCeWindow s fun t =>
    t.dev.memc = { s.dev.memc with dieCe := [] } ∧ Leaves [.memc] [] s t := by
  have hnone : (s.dev.memc.dieCe.filter fun e => decide (s.dev.par P.mem_die_ce_thresh 0 < e.2)) = [] :=
    List.filter_eq_nil_iff.mpr fun e he => by
      rw [decide_eq_true_eq]
      exact Nat.not_lt.mpr (h e he)
  have hw : (s.dev.memc.dieCe.filter fun e => decide (s.dev.par P.mem_die_ce_thresh 0 < e.2)).foldl
      (fun (d : Dev) e => d.declareDie (e.1 % 10)) s.dev.begin_.newSecond = s.dev.begin_.newSecond := by rw [hnone]; rfl
  exact gives_step rfl hw (alters_memc _ _) (by decide) fun t _ hq => by rw [hq ⟨rfl, rfl⟩]; rfl

variable {k n : Nat} (hk : s.dev.memc.dieCe = [(k, n)]) (hn : s.dev.par P.mem_die_ce_thresh 0 < n)
include hk hn

/-- One symbol position has too many corrections. -/
theorem window_one : (s.dev.memc.dieCe.filter fun e => decide (s.dev.par P.mem_die_ce_thresh 0 < e.2)).foldl
    (fun (d : Dev) e => d.declareDie (e.1 % 10)) s.dev.begin_.newSecond = s.dev.begin_.newSecond.declareDie (k % 10) := by
  rw [hk, List.filter_cons_of_pos (by exact decide_eq_true hn)]
  rfl

theorem gives_dieErased (he : s.dev.flag F.MEM_STAT_ERASURE = false) : Gives .dieCeWindow s fun t =>
    (t.dev.memc.dieCe = [] ∧ t.dev.flag F.MEM_STAT_ERASURE = true ∧ t.dev.fld F.MEM_STAT_ERASED_DIE = k % 10) ∧
      Leaves [.memc] [Reg.MEM_STAT, Reg.MEM_EVT] s t := by
  have hw := (window_one hk hn).trans (declareDie_first (d := s.dev.begin_.newSecond) he)
  obtain ⟨k1, k2, -, -⟩ := eraseDie_spec (d := s.dev.begin_.newSecond) (Nat.mod_lt k (by decide : 0 < 10))
  have hx : Alters [.memc] [Reg.MEM_STAT, Reg.MEM_EVT] s.dev.begin_ (s.dev.begin_.newSecond.eraseDie (k % 10)) :=
    ((alters_memc _ _).mono (fun _ h => h) (by simp)).trans (alters_eraseDie.mono (by simp) fun _ h => h)
  refine gives_step rfl hw hx (by decide) fun t ht _ => ⟨?_, (ht.flag _ rfl rfl).trans k1, (ht.fld _ rfl rfl).trans k2⟩
  have h1 : t.dev.memc = _ := ht.parts .memc
  have h2 : (s.dev.begin_.newSecond.eraseDie (k % 10)).memc = _ := (alters_eraseDie (d := s.dev.begin_.newSecond)).same .memc List.not_mem_nil
  rw [h1, h2]
  rfl

theorem gives_secondDie (he : s.dev.flag F.MEM_STAT_ERASURE = true) (hd : s.dev.fld F.MEM_STAT_ERASED_DIE ≠ k % 10) :
    Gives .dieCeWindow s fun t => t.dev.flag F.MEM_STAT_HALT_A = true ∧ t.dev.flag F.MEM_STAT_HALT_B = true := by
  let f := fun (_ : List Host.Cell) (d : Dev) => (d.memc.dieCe.filter fun e => decide (d.par P.mem_die_ce_thresh 0 < e.2)).foldl
    (fun (d : Dev) e => d.declareDie (e.1 % 10)) d.newSecond
  have hw : f s.mem s.dev.begin_ = (s.dev.begin_.newSecond.haltGroup 0).haltGroup 1 :=
    (window_one hk hn).trans (declareDie_second (d := s.dev.begin_.newSecond) he hd)
  obtain ⟨h1, h2, -⟩ := haltBoth_spec s.dev.begin_.newSecond
  have hset := onDev_settled s f
  rw [hw] at hset
  exact ⟨s.onDev f, rfl, (hset.flag _ rfl rfl).trans h1, (hset.flag _ rfl rfl).trans h2⟩

end

/-! ## Maintenance (R513, R514) -/

/-- The tracking of a channel has failed. -/
def Dev.trackFail (was : List Nat) (d : Dev) (c : Fin 20) : Dev :=
  if was.contains c.val then (d.bump C.MEM_RETRAIN_FAIL_CNT).declareDie (c.val % 10) else d.bump C.MEM_RETRAIN_FAIL_CNT

/-- The channels whose tracking failed are noted. -/
def Dev.noteTracks (d : Dev) (failed : List (Fin 20)) : Dev := { d with memc := { d.memc with trackBad := failed.map (·.val) } }

section
variable {s : State}

theorem exec_maintenance (failed : List (Fin 20)) (ha : s.dev.flag F.MEM_STAT_ACTIVE = true) (hh : s.dev.memHalted = false) :
    ∃ f : List Host.Cell → Dev → Dev, exec (.memMaintenanceTick failed) s = .next (s.onDev f) ∧
      f s.mem s.dev.begin_ = failed.foldl (Dev.trackFail s.dev.memc.trackBad) (s.dev.begin_.noteTracks failed) := by
  refine ⟨_, rfl, (if_neg ?_).trans rfl⟩
  show ¬(!s.dev.flag F.MEM_STAT_ACTIVE || s.dev.memHalted) = true
  rw [ha, hh]
  exact Bool.false_ne_true

/-- Failures of channels that did not fail before are counted. -/
theorem counts_trackFail {was : List Nat} (l : List (Fin 20)) : ∀ d : Dev, (∀ c ∈ l, was.contains c.val = false) →
    Alters [] [Reg.MEM_RETRAIN_FAIL_CNT, C.MEM_RETRAIN_FAIL_CNT.sat] d (l.foldl (Dev.trackFail was) d) ∧
    (l.foldl (Dev.trackFail was) d).cnt C.MEM_RETRAIN_FAIL_CNT =
      min (cntTop C.MEM_RETRAIN_FAIL_CNT) (d.cnt C.MEM_RETRAIN_FAIL_CNT + l.length) := by
  induction l with
  | nil =>
    intro d _
    have hlt : (d.reg Reg.MEM_RETRAIN_FAIL_CNT).toNat < 2 ^ 32 := BitVec.isLt _
    exact ⟨.refl d, (Nat.min_eq_right (by show (d.reg Reg.MEM_RETRAIN_FAIL_CNT).toNat ≤ 2 ^ 32 - 1; omega)).symm⟩
  | cons c l ih =>
    intro d h
    have he : d.trackFail was c = d.bump C.MEM_RETRAIN_FAIL_CNT := if_neg (by rw [h c List.mem_cons_self]; exact Bool.false_ne_true)
    obtain ⟨h1, h2⟩ := ih (d.trackFail was c) fun x hx => h x (List.mem_cons_of_mem _ hx)
    have hb : (d.bump C.MEM_RETRAIN_FAIL_CNT).cnt C.MEM_RETRAIN_FAIL_CNT = _ := Dev.cnt_bumpBy d C.MEM_RETRAIN_FAIL_CNT 1 (by decide)
    rw [List.foldl_cons]
    refine ⟨Alters.trans ?_ h1, h2.trans ?_⟩
    · rw [he]
      exact (Alters.refl d).bump _ (by decide) (by decide) rfl
    · rw [he, hb, List.length_cons]
      omega

theorem gives_retrained {failed : List (Fin 20)} (ha : s.dev.flag F.MEM_STAT_ACTIVE = true) (hh : s.dev.memHalted = false)
    (hnew : ∀ c ∈ failed, s.dev.memc.trackBad.contains c.val = false) : Gives (.memMaintenanceTick failed) s fun t =>
      (t.dev.memc = { s.dev.memc with trackBad := failed.map (·.val), faults := t.dev.memc.faults, lines := t.dev.memc.lines } ∧
        Counts C.MEM_RETRAIN_FAIL_CNT failed.length s t) ∧
      Leaves [.memc] [Reg.MEM_RETRAIN_FAIL_CNT, C.MEM_RETRAIN_FAIL_CNT.sat] s t := by
  obtain ⟨f, hx, hf⟩ := exec_maintenance failed ha hh
  obtain ⟨h1, h2⟩ := counts_trackFail failed (s.dev.begin_.noteTracks failed) hnew
  have hall : Alters [.memc] [Reg.MEM_RETRAIN_FAIL_CNT, C.MEM_RETRAIN_FAIL_CNT.sat] s.dev.begin_ _ :=
    ((alters_memc s.dev.begin_ _).mono (fun _ h => h) (by simp)).trans (h1.mono (by simp) fun _ h => h)
  refine gives_step hx hf hall (by decide) fun t ht _ => ⟨?_, (ht.cnt _ rfl rfl).trans h2⟩
  exact same_trans (p := .memc) (x := s.dev.begin_.noteTracks failed) (h1.same .memc List.not_mem_nil) (ht.parts .memc)

variable {c : Fin 20} (ha : s.dev.flag F.MEM_STAT_ACTIVE = true) (hh : s.dev.memHalted = false)
  (hbad : s.dev.memc.trackBad.contains c.val = true)
include ha hh hbad

/-- A channel that fails twice in succession declares its die failed. -/
theorem exec_twice : ∃ f : List Host.Cell → Dev → Dev, exec (.memMaintenanceTick [c]) s = .next (s.onDev f) ∧
    f s.mem s.dev.begin_ = ((s.dev.begin_.noteTracks [c]).bump C.MEM_RETRAIN_FAIL_CNT).declareDie (c.val % 10) := by
  obtain ⟨f, hx, hf⟩ := exec_maintenance [c] ha hh
  exact ⟨f, hx, hf.trans (if_pos hbad)⟩

omit ha hh hbad in
theorem stat_retrain (c : Fin 20) (f : Fld) (hf : f.addr = Reg.MEM_STAT) :
    ((s.dev.begin_.noteTracks [c]).bump C.MEM_RETRAIN_FAIL_CNT).fld f = s.dev.fld f := by
  have hreg : ((s.dev.begin_.noteTracks [c]).bump C.MEM_RETRAIN_FAIL_CNT).reg f.addr = (s.dev.begin_.noteTracks [c]).reg f.addr :=
    Dev.reg_bumpBy_ne _ C.MEM_RETRAIN_FAIL_CNT 1 _ (hf ▸ by decide) (hf ▸ by decide)
  unfold Dev.fld
  rw [hreg]
  rfl

theorem gives_trackErased (he : s.dev.flag F.MEM_STAT_ERASURE = false) : Gives (.memMaintenanceTick [c]) s fun t =>
    t.dev.flag F.MEM_STAT_ERASURE = true ∧ t.dev.fld F.MEM_STAT_ERASED_DIE = c.val % 10 ∧ t.dev.bit Reg.MEM_EVT 1 = true := by
  obtain ⟨f, hx, hf⟩ := exec_twice ha hh hbad
  have he' : ((s.dev.begin_.noteTracks [c]).bump C.MEM_RETRAIN_FAIL_CNT).flag F.MEM_STAT_ERASURE = false := by
    unfold Dev.flag
    rw [stat_retrain c _ rfl]
    exact he
  rw [declareDie_first he'] at hf
  obtain ⟨k1, k2, k3, -⟩ := eraseDie_spec (d := (s.dev.begin_.noteTracks [c]).bump C.MEM_RETRAIN_FAIL_CNT)
    (Nat.mod_lt c.val (by decide : 0 < 10))
  have hset := onDev_settled s f
  rw [hf] at hset
  exact ⟨_, hx, (hset.flag _ rfl rfl).trans k1, (hset.fld _ rfl rfl).trans k2, (hset.bit _ _ rfl rfl).trans k3⟩

theorem gives_trackSecond (he : s.dev.flag F.MEM_STAT_ERASURE = true) (hd : s.dev.fld F.MEM_STAT_ERASED_DIE ≠ c.val % 10) :
    Gives (.memMaintenanceTick [c]) s fun t => t.dev.flag F.MEM_STAT_HALT_A = true ∧ t.dev.flag F.MEM_STAT_HALT_B = true := by
  obtain ⟨f, hx, hf⟩ := exec_twice ha hh hbad
  have he' : ((s.dev.begin_.noteTracks [c]).bump C.MEM_RETRAIN_FAIL_CNT).flag F.MEM_STAT_ERASURE = true := by
    unfold Dev.flag
    rw [stat_retrain c _ rfl]
    exact he
  rw [declareDie_second he' (by rw [stat_retrain c _ rfl]; exact hd)] at hf
  obtain ⟨h1, h2, -⟩ := haltBoth_spec ((s.dev.begin_.noteTracks [c]).bump C.MEM_RETRAIN_FAIL_CNT)
  have hset := onDev_settled s f
  rw [hf] at hset
  exact ⟨_, hx, (hset.flag _ rfl rfl).trans h1, (hset.flag _ rfl rfl).trans h2⟩

end

/-! ## DMA channels, the write-merge buffer, a parity error (R510, R516, R520) -/

section
variable {s : State}

theorem gives_dmaResume (hb : s.dev.barOpen = true) (v : Word) : Gives (.memDmaResume v) s fun t =>
    t.dev.reg Reg.MEM_DMA_STAT = s.dev.reg Reg.MEM_DMA_STAT &&& ~~~v ∧ Leaves [] [Reg.MEM_DMA_STAT] s t :=
  gives_bar rfl hb rfl ((Alters.refl _).put _ _ (by decide)) (by decide) fun t ht _ =>
    (ht.reg _ rfl rfl).trans (Dev.reg_put_self _ _ _)

/-- Work on stored errors alone, while those of the burst stay clean. -/
structure Merges (l : Nat) (x y : Dev) : Prop where
  eq : ∃ f, y = { x with memc := { x.memc with faults := f } }
  clean : (∀ k, k < 16 → sget (fun _ => 0) (l * 16 + k) x.memc.faults = 0) → ∀ k, k < 16 → sget (fun _ => 0) (l * 16 + k) y.memc.faults = 0

theorem readBeat_clean {d : Dev} {b : Nat} (hh : d.memHalted = false) (hf : sget (fun _ => 0) b d.memc.faults = 0) : d.readBeat b = .good := by
  unfold Dev.readBeat
  dsimp only
  rw [if_neg fun h => by rw [memHalted_of_haltedAt h] at hh; exact absurd hh (by decide), hf]
  split
  · rfl
  · split
    · refine if_pos ?_
      unfold clrBit
      split
      · exact Nat.zero_sub _
      · rfl
    · rfl

theorem merges_mergeBeat {d : Dev} {l mask k : Nat} (hk : k < 16) (hh : d.memHalted = false)
    (hf : ∀ k, k < 16 → sget (fun _ => 0) (l * 16 + k) d.memc.faults = 0) : Merges l d (d.mergeBeat l mask k) := by
  have he : d.mergeBeat l mask k = { d with memc := { d.memc with faults := sset (fun _ => 0) (l * 16 + k) 0 d.memc.faults } } := by
    unfold Dev.mergeBeat
    dsimp only
    rw [readBeat_clean hh (hf k hk)]
  rw [he]
  refine ⟨⟨_, rfl⟩, fun hx m hm => ?_⟩
  show sget (fun _ => 0) (l * 16 + m) (sset (fun _ => 0) (l * 16 + k) 0 d.memc.faults) = 0
  rw [sget_sset]
  split
  · rfl
  · exact hx m hm

theorem merges_all {l mask : Nat} (ks : List Nat) : ∀ d : Dev, (∀ k ∈ ks, k < 16) → d.memHalted = false →
    (∀ k, k < 16 → sget (fun _ => 0) (l * 16 + k) d.memc.faults = 0) →
    ∃ f, ks.foldl (fun d k => d.mergeBeat l mask k) d = { d with memc := { d.memc with faults := f } } := by
  induction ks with
  | nil => exact fun d _ _ _ => ⟨d.memc.faults, rfl⟩
  | cons k ks ih =>
    intro d hk hh hf
    have hm := merges_mergeBeat (mask := mask) (hk k List.mem_cons_self) hh hf
    obtain ⟨f, hy⟩ := hm.eq
    obtain ⟨f', hz⟩ := ih (d.mergeBeat l mask k) (fun x hx => hk x (List.mem_cons_of_mem _ hx)) (by rw [hy]; exact hh) (hm.clean hf)
    exact ⟨f', by rw [List.foldl_cons, hz, hy]⟩

theorem gives_lineFlush {l mask : Nat} {rest : List (Nat × Nat)} (hl : s.dev.memc.lines = (l, mask) :: rest) (hh : s.dev.memHalted = false)
    (hf : ∀ k, k < 16 → sget (fun _ => 0) (l * 16 + k) s.dev.memc.faults = 0) : Gives (.wmbLineFlush []) s fun t =>
      t.dev.memc.lines = rest ∧ Leaves [] [] s t := by
  let y : Dev := { s.dev.begin_ with memc := { s.dev.memc with lines := rest } }
  obtain ⟨f, he⟩ := merges_all (l := l) (mask := mask) (List.range 16) y (fun k => List.mem_range.mp) hh hf
  have hline : y.haltedAt (l * 256) ≠ true := fun h => by
    have hy : y.memHalted = false := hh
    rw [memHalted_of_haltedAt h] at hy
    exact absurd hy (by decide)
  have hw : s.dev.begin_.flushLine = { s.dev.begin_ with memc := { s.dev.memc with lines := rest, faults := f } } := by
    unfold Dev.flushLine
    rw [show s.dev.begin_.memc.lines = (l, mask) :: rest from hl]
    exact (if_neg hline).trans he
  have hx : Alters [] [] s.dev.begin_ { s.dev.begin_ with memc := { s.dev.memc with lines := rest, faults := f } } :=
    (Alters.refl _).direct (fun p _ => by cases p <;> rfl) rfl rfl rfl rfl rfl
  exact gives_step rfl hw hx (by decide) fun t _ hq => by rw [hq ⟨rfl, rfl⟩]

theorem gives_parityError (groupB : Bool) : Gives (.commandPathParityError groupB) s fun t =>
    t.dev.flag (if groupB then F.MEM_STAT_HALT_B else F.MEM_STAT_HALT_A) = true ∧
    (s.dev.memHalted = false → t.dev.bit Reg.MEM_EVT 2 = true ∧ t.dev.memc.scrub = none ∧
      ∀ n, n < 3 → s.dev.streamRuns n = true → t.dev.flag (F.ING_S_STAT_HALTED n) = true) := by
  let f := fun (_ : List Host.Cell) (d : Dev) => d.haltGroup (b2n groupB)
  have hset := onDev_settled s f
  have hfld : (if groupB then F.MEM_STAT_HALT_B else F.MEM_STAT_HALT_A) = haltFld (b2n groupB) := by cases groupB <;> rfl
  have haddr : (haltFld (b2n groupB)).addr = Reg.MEM_STAT := by cases groupB <;> rfl
  refine ⟨s.onDev f, rfl, ?_, fun hh => ?_⟩
  · rw [hfld, hset.flag _ (haddr ▸ rfl) (haddr ▸ rfl)]
    exact (haltGroup_spec s.dev.begin_ (b2n groupB)).1
  · have hoff : ¬s.dev.begin_.flag (haltFld (b2n groupB)) = true := fun h => by
      have hany : s.dev.memHalted = true := by
        show (s.dev.flag F.MEM_STAT_HALT_A || s.dev.flag F.MEM_STAT_HALT_B) = true
        rcases haltFld_cases (b2n groupB) with hg | hg
        · rw [show s.dev.flag F.MEM_STAT_HALT_A = true from hg ▸ h, Bool.true_or]
        · rw [show s.dev.flag F.MEM_STAT_HALT_B = true from hg ▸ h, Bool.or_true]
      rw [hany] at hh
      exact absurd hh (by decide)
    have hw : f s.mem s.dev.begin_ = s.dev.begin_.scanFree.stopGroup (b2n groupB) := if_neg hoff
    have hs := groupStops_stopGroup s.dev.begin_.scanFree (b2n groupB)
    have hscan := alters_scanFree s.dev.begin_
    rw [hw] at hset
    refine ⟨(hset.bit _ _ rfl rfl).trans hs.reported, ?_, fun n hn hrun => ?_⟩
    · have hm : (s.onDev f).dev.memc = _ := hset.parts .memc
      rw [hm]
      exact hs.scrub
    · have hstat : evtOwn (Reg.ING_S_STAT n) = false ∧ cmdqOwn (Reg.ING_S_STAT n) = false ∧ Reg.ING_S_STAT n ∉ beatRegs := by
        have hall : ∀ n : Fin 3, evtOwn (Reg.ING_S_STAT n.val) = false ∧ cmdqOwn (Reg.ING_S_STAT n.val) = false ∧
            Reg.ING_S_STAT n.val ∉ beatRegs := by decide
        exact hall ⟨n, hn⟩
      obtain ⟨h1, h2, h3⟩ := hstat
      refine (hset.flag (F.ING_S_STAT_HALTED n) h1 h2).trans (hs.streams n hn ?_)
      rw [hscan.flag (f := F.ING_S_STAT_RUN n) h3]
      unfold Dev.streamRuns at hrun
      rw [Bool.and_eq_true] at hrun
      exact hrun.1

end

/-! ## The patrol (R524) -/

theorem repair_clean {d : Dev} (hf : d.memc.faults = []) (hh : d.memHalted = false) (a n : Nat) : d.repair a n = d := by
  unfold Dev.repair
  rw [suspectBeats_clean hf hh]
  rfl

theorem pass_clean {d : Dev} (hf : d.memc.faults = []) (hh : d.memHalted = false) (a n : Nat) : d.pass a n = d := by
  unfold Dev.pass
  rw [readMem_clean hf hh, repair_clean hf hh]

/-- The patrol has come to `at_`, its period `done`. -/
def Dev.patrolled (d : Dev) (at_ done : Nat) : Dev :=
  { d with memc := { d.memc with patrolAt := at_, patrolDone := done } }.put Reg.MEM_PATROL
    (BitVec.ofNat 32 (65536 * at_ / memCapacity + 65536 * done))

theorem gives_patrol {s : State} (he : s.dev.flag F.MEM_CTL_PATROL_EN = true) (ha : s.dev.flag F.MEM_STAT_ACTIVE = true)
    (hr : s.dev.flag F.CMDQ_STAT_READY = true) (hb : s.dev.flag F.MEM_STAT_SCRUB_BUSY = false) (hh : s.dev.memHalted = false)
    (hf : s.dev.memc.faults = []) :
    let nxt := 2 ^ 26 + s.dev.memc.patrolAt
    let wrap := decide (memCapacity ≤ nxt)
    let done := if wrap then min 65535 (s.dev.memc.patrolDone + 1) else s.dev.memc.patrolDone
    Gives (.patrolPass [] []) s fun t =>
      (t.dev.memc = { s.dev.memc with patrolAt := if wrap then 0 else nxt, patrolDone := done } ∧
        t.dev.reg Reg.MEM_PATROL = BitVec.ofNat 32 (65536 * (if wrap then 0 else nxt) / memCapacity + 65536 * done)) ∧
      Leaves [.memc] [Reg.MEM_PATROL] s t := by
  intro nxt wrap done
  have hgo : (s.dev.flag F.MEM_CTL_PATROL_EN && s.dev.flag F.MEM_STAT_ACTIVE && s.dev.flag F.CMDQ_STAT_READY &&
      !s.dev.flag F.MEM_STAT_SCRUB_BUSY && !s.dev.memHalted) = true := by rw [he, ha, hr, hb, hh]; rfl
  have hstep : s.dev.begin_.patrolStep = s.dev.begin_.patrolled (if wrap then 0 else nxt) done := by
    unfold Dev.patrolStep
    rw [pass_clean (d := s.dev.begin_) hf hh]
    rfl
  refine gives_step rfl ((if_pos hgo).trans hstep) (((Alters.refl _).part (alters_memc _ _) (by decide)).put _ _ (by decide)) (by decide)
    fun t ht hq => ⟨?_, (ht.reg _ rfl rfl).trans (Dev.reg_put_self _ _ _)⟩
  rw [hq ⟨rfl, rfl⟩]
  rfl

/-! ## Engine traps (R519) -/

/-- The traps of an engine in the last 10 s. -/
def Dev.recentTraps (d : Dev) (e : Nat) : List Nat :=
  (sget (fun _ => ([] : List Nat)) e d.memc.traps).filter fun t => decide (d.now < 10000000000 + t)

/-- The trap is noted. -/
def Dev.noteTrap (d : Dev) (e : Nat) : Dev :=
  let kept := (d.recentTraps e ++ [d.now]).drop ((d.recentTraps e).length - 3)
  { d with memc := { d.memc with traps := sset (fun _ => ([] : List Nat)) e kept d.memc.traps } }

/-- The trap is counted, for the part and for the engine. -/
def Dev.countTrap (d : Dev) (e : Nat) : Dev :=
  let x := (d.noteTrap e).bump C.MEM_TRAP_CNT
  x.setFld (F.GLB_ENG_STAT_TRAPS e) (min 255 (x.fld (F.GLB_ENG_STAT_TRAPS e) + 1))

/-- The engine waits for its reload. -/
def Dev.stopEngine (d : Dev) (e : Nat) : Dev :=
  ((d.countTrap e).setFld (F.GLB_ENG_STAT_STATE e) 2).raiseReg (Ev.engineTrap e) (Reg.GLB_ENG_STAT e)

theorem trap_few {d : Dev} {e : Nat} (h : (d.recentTraps e).length ≤ 2) : d.trap e = d.stopEngine e := by
  have hlen : ((d.recentTraps e ++ [d.now]).drop ((d.recentTraps e).length - 3)).length < 4 := by
    rw [List.length_drop, List.length_append, List.length_singleton]
    omega
  exact if_pos hlen

/-- The registers that a trap alters. -/
abbrev trapRegs (e : Nat) : List Nat := [Reg.GLB_ENG_STAT e, Reg.MEM_EVT, Reg.MEM_TRAP_CNT, C.MEM_TRAP_CNT.sat, Reg.MEM_SRAM_UE_CNT,
  C.MEM_SRAM_UE_CNT.sat]

theorem alters_noteSramUe (d : Dev) (e : Nat) : Alters [] (trapRegs e) d d.noteSramUe :=
  ((Alters.refl d).bump C.MEM_SRAM_UE_CNT (by simp) (by simp) rfl).sticky _ _ _ (by simp)

theorem alters_countTrap (d : Dev) (e : Nat) : Alters [.memc] (trapRegs e) d (d.countTrap e) := by
  have hx : Alters [.memc] (trapRegs e) d (d.noteTrap e) := (alters_memc d _).mono (fun _ h => h) (by simp)
  exact (hx.bump C.MEM_TRAP_CNT (by simp) (by simp) rfl).setFld _ _ (by simp)

theorem alters_stopEngine (d : Dev) (e : Nat) : Alters [.memc] (trapRegs e) d (d.stopEngine e) :=
  ((alters_countTrap d e).setFld _ _ (by simp)).raise _ _ _

theorem engStat_apart {e a : Nat} (he : e < 64) (h : 0x000300 ≤ a) : a ≠ Reg.GLB_ENG_STAT e := by
  simp only [Reg.GLB_ENG_STAT]; omega

section
variable (d : Dev) {e : Nat} (he : e < 64)
include he

theorem stopEngine_spec : (d.stopEngine e).fld (F.GLB_ENG_STAT_STATE e) = 2 ∧
    (d.stopEngine e).fld (F.GLB_ENG_STAT_TRAPS e) = min 255 (d.fld (F.GLB_ENG_STAT_TRAPS e) + 1) ∧
    (d.stopEngine e).cnt C.MEM_TRAP_CNT = min (cntTop C.MEM_TRAP_CNT) (d.cnt C.MEM_TRAP_CNT + 1) ∧
    (d.stopEngine e).reg Reg.MEM_SRAM_UE_CNT = d.reg Reg.MEM_SRAM_UE_CNT := by
  let y : Dev := d.noteTrap e
  have hx : (y.bump C.MEM_TRAP_CNT).fld (F.GLB_ENG_STAT_TRAPS e) = d.fld (F.GLB_ENG_STAT_TRAPS e) := by
    have hreg : (y.bump C.MEM_TRAP_CNT).reg (Reg.GLB_ENG_STAT e) = d.reg (Reg.GLB_ENG_STAT e) :=
      Dev.reg_bumpBy_ne y C.MEM_TRAP_CNT 1 _ (engStat_apart he (by decide)).symm (engStat_apart he (by decide)).symm
    unfold Dev.fld
    rw [hreg]
  have hstate : (d.stopEngine e).fld (F.GLB_ENG_STAT_STATE e) = ((d.countTrap e).setFld (F.GLB_ENG_STAT_STATE e) 2).fld (F.GLB_ENG_STAT_STATE e) := rfl
  have htraps : (d.stopEngine e).fld (F.GLB_ENG_STAT_TRAPS e) = ((d.countTrap e).setFld (F.GLB_ENG_STAT_STATE e) 2).fld (F.GLB_ENG_STAT_TRAPS e) := rfl
  have hreg : ∀ a, a ≠ Reg.GLB_ENG_STAT e → (d.stopEngine e).reg a = (y.bump C.MEM_TRAP_CNT).reg a := fun a ha =>
    (Dev.reg_put_ne (d.countTrap e) _ _ _ ha).trans (Dev.reg_put_ne (y.bump C.MEM_TRAP_CNT) _ _ _ ha)
  have hcnt : (y.bump C.MEM_TRAP_CNT).cnt C.MEM_TRAP_CNT = _ := Dev.cnt_bumpBy y C.MEM_TRAP_CNT 1 (by decide)
  refine ⟨?_, ?_, ?_, ?_⟩
  · exact hstate.trans (Dev.fld_setFld_self (d.countTrap e) (F.GLB_ENG_STAT_STATE e) 2 (by show 0 + 2 ≤ 32; decide))
  · have hself : (d.countTrap e).fld (F.GLB_ENG_STAT_TRAPS e) =
        min 255 ((y.bump C.MEM_TRAP_CNT).fld (F.GLB_ENG_STAT_TRAPS e) + 1) % 2 ^ 8 :=
      Dev.fld_setFld_self (y.bump C.MEM_TRAP_CNT) (F.GLB_ENG_STAT_TRAPS e) _ (by show 8 + 8 ≤ 32; decide)
    rw [htraps, Dev.fld_setFld_apart _ _ _ _ (by show 0 + 2 ≤ 32; decide) (.inr (.inr (by show 0 + 2 ≤ 8; decide))), hself, hx]
    exact Nat.mod_eq_of_lt (by omega)
  · exact (congrArg BitVec.toNat (hreg Reg.MEM_TRAP_CNT (engStat_apart he (by decide)))).trans hcnt
  · rw [hreg _ (engStat_apart he (by decide))]
    exact Dev.reg_bumpBy_ne y C.MEM_TRAP_CNT 1 _ (by decide) (by decide)

end

theorem gives_trap {s : State} {e : Fin 64} (hc : s.dev.canTrap e.val = true)
    (hfew : ((sget (fun _ => ([] : List Nat)) e.val s.dev.memc.traps).filter fun t => decide (s.dev.now < 10000000000 + t)).length ≤ 2) :
    Gives (.engineTrap e none) s fun t => (t.dev.fld (F.GLB_ENG_STAT_STATE e.val) = 2 ∧
      t.dev.fld (F.GLB_ENG_STAT_TRAPS e.val) = min 255 (s.dev.fld (F.GLB_ENG_STAT_TRAPS e.val) + 1) ∧ Counts C.MEM_TRAP_CNT 1 s t ∧
      Counts C.MEM_SRAM_UE_CNT 1 s t ∧ Pending t (Ev.engineTrap e.val)) ∧ Leaves [.memc] (trapRegs e.val) s t := by
  let x := s.dev.begin_.noteSramUe
  have hx := alters_noteSramUe s.dev.begin_ e.val
  have hxreg : ∀ a, a ≠ Reg.MEM_EVT → a ≠ Reg.MEM_SRAM_UE_CNT → a ≠ C.MEM_SRAM_UE_CNT.sat → x.reg a = s.dev.reg a := fun a h1 h2 h3 => by
    obtain ⟨-, -, h, -⟩ := sticky_spec (s.dev.begin_.bump C.MEM_SRAM_UE_CNT) Reg.MEM_EVT 4 Ev.sramUe (by decide)
    exact (h a h1).trans (Dev.reg_bumpBy_ne s.dev.begin_ C.MEM_SRAM_UE_CNT 1 a h2 h3)
  have hsram : x.cnt C.MEM_SRAM_UE_CNT = min (cntTop C.MEM_SRAM_UE_CNT) (s.dev.cnt C.MEM_SRAM_UE_CNT + 1) := by
    obtain ⟨-, -, h, -⟩ := sticky_spec (s.dev.begin_.bump C.MEM_SRAM_UE_CNT) Reg.MEM_EVT 4 Ev.sramUe (by decide)
    have hb : (s.dev.begin_.bump C.MEM_SRAM_UE_CNT).cnt C.MEM_SRAM_UE_CNT = _ := Dev.cnt_bumpBy s.dev.begin_ C.MEM_SRAM_UE_CNT 1 (by decide)
    exact (congrArg BitVec.toNat (h Reg.MEM_SRAM_UE_CNT (by decide))).trans hb
  have hmemc : x.memc = s.dev.memc := by
    obtain ⟨-, -, -, h, -⟩ := sticky_spec (s.dev.begin_.bump C.MEM_SRAM_UE_CNT) Reg.MEM_EVT 4 Ev.sramUe (by decide)
    refine h.trans ?_
    unfold Dev.bump Dev.bumpBy Dev.setCnt
    dsimp only
    split_ifs <;> rfl
  have hrecent : (x.recentTraps e.val).length ≤ 2 := by
    have hnow : x.now = s.dev.now := by
      have ht : x.time = s.dev.time := hx.same .time List.not_mem_nil
      unfold Dev.now
      rw [ht]
    unfold Dev.recentTraps
    rw [hmemc, hnow]
    exact hfew
  have hw : (if (!s.dev.begin_.canTrap e.val) = true then s.dev.begin_ else x.trap e.val) = x.stopEngine e.val := by
    rw [show s.dev.begin_.canTrap e.val = true from hc, Bool.not_true, if_neg Bool.false_ne_true, trap_few hrecent]
  obtain ⟨h1, h2, h3, h4⟩ := stopEngine_spec x e.isLt
  have hpend : (⟨Ev.engineTrap e.val, false, (((x.countTrap e.val).setFld (F.GLB_ENG_STAT_STATE e.val) 2).reg (Reg.GLB_ENG_STAT e.val)).toNat, 0⟩ : Raised)
      ∈ (x.stopEngine e.val).evt.raised := List.mem_append_right _ List.mem_cons_self
  have heng : evtOwn (Reg.GLB_ENG_STAT e.val) = false ∧ cmdqOwn (Reg.GLB_ENG_STAT e.val) = false ∧ Reg.EVT_RING_SIZE ∉ trapRegs e.val := by
    have hall : ∀ e : Fin 64, evtOwn (Reg.GLB_ENG_STAT e.val) = false ∧ cmdqOwn (Reg.GLB_ENG_STAT e.val) = false ∧
        Reg.EVT_RING_SIZE ∉ trapRegs e.val := by decide
    exact hall e
  obtain ⟨k1, k2, k3⟩ := heng
  have hreg := hxreg (Reg.GLB_ENG_STAT e.val) (engStat_apart e.isLt (by decide)).symm (engStat_apart e.isLt (by decide)).symm
    (engStat_apart e.isLt (by decide)).symm
  refine gives_step rfl hw ((hx.mono (by simp) fun _ h => h).trans (alters_stopEngine x e.val)) k3 fun t ht _ =>
    ⟨(ht.fld _ k1 k2).trans h1, (ht.fld _ k1 k2).trans (h2.trans ?_), (ht.cnt _ rfl rfl).trans (h3.trans ?_),
      (ht.cnt _ rfl rfl).trans ((congrArg BitVec.toNat h4).trans hsram), ht.raised _ hpend (by show 416 + e.val < 640; omega)⟩
  · unfold Dev.fld
    rw [hreg]
  · rw [show x.cnt C.MEM_TRAP_CNT = s.dev.cnt C.MEM_TRAP_CNT from congrArg BitVec.toNat (hxreg _ (by decide) (by decide) (by decide))]

theorem gives_reload {s : State} {e : Fin 64} (h : s.dev.fld (F.GLB_ENG_STAT_STATE e.val) = 2) : Gives (.engineReloadDone e) s fun t =>
    t.dev.fld (F.GLB_ENG_STAT_STATE e.val) = 0 ∧ Leaves [] [Reg.GLB_ENG_STAT e.val] s t := by
  have heng : ∀ e : Fin 64, evtOwn (Reg.GLB_ENG_STAT e.val) = false ∧ cmdqOwn (Reg.GLB_ENG_STAT e.val) = false ∧
      Reg.EVT_RING_SIZE ∉ [Reg.GLB_ENG_STAT e.val] := by decide
  obtain ⟨k1, k2, k3⟩ := heng e
  exact gives_step rfl (if_pos h) ((Alters.refl _).setFld _ _ (List.mem_singleton_self _)) k3 fun t ht _ =>
    (ht.fld _ k1 k2).trans (Dev.fld_setFld_self _ (F.GLB_ENG_STAT_STATE e.val) 0 (by show 0 + 2 ≤ 32; decide))

end Sys2Proof.Machine
end

section
/-! SUPPORT. The end of a Planish pass that reads good beats, one corrected beat, or one uncorrectable beat (R515, R516, R522, R523). -/

namespace Sys2Proof.Machine

/-! ## Writes spoil no beat (R510) -/

section
variable (b : Nat)

/-- A stored beat holds no symbol in error. -/
abbrev MemSt.sound (m : MemSt) : Prop := sget (fun _ => 0) b m.faults = 0

theorem sound_clean {m : MemSt} (h : m.sound b) (lo hi : Nat) : (m.clean lo hi).sound b :=
  (sget_sclear (fun _ => 0) (fun k => decide (lo ≤ k ∧ k < hi)) b m.faults).trans (by rw [h]; exact ite_self 0)

theorem sound_mergeLine {m : MemSt} (h : m.sound b) (l lo hi : Nat) : (m.mergeLine l lo hi).sound b := by
  unfold MemSt.mergeLine
  dsimp only
  split
  · exact sound_clean b h _ _
  · split
    · exact h
    · exact h

theorem sound_noteWrite (k : Nat) : ∀ (m : MemSt) (a n : Nat), m.sound b → (MemSt.noteWrite k m a n).sound b := by
  induction k with
  | zero => exact fun _ _ _ h => h
  | succ k ih =>
    intro m a n h
    unfold MemSt.noteWrite
    split
    · exact h
    · exact ih _ _ _ (sound_mergeLine b h _ _ _)

theorem sound_applyOp (x : List Host.Cell × Dev) (op : MemOp) (h : x.2.memc.sound b) : (applyOp x op).2.memc.sound b := by
  obtain ⟨m, y⟩ := x
  cases op with
  | write a bs =>
    simp only [applyOp]
    split
    · exact h
    · exact sound_noteWrite b _ _ _ _ h
  | zero a n =>
    simp only [applyOp]
    split
    · exact h
    · exact sound_clean b h _ _

theorem sound_foldl_applyOp (ops : List MemOp) : ∀ x : List Host.Cell × Dev, x.2.memc.sound b → (ops.foldl applyOp x).2.memc.sound b := by
  induction ops with
  | nil => exact fun _ h => h
  | cons op ops ih => exact fun x h => ih _ (sound_applyOp b x op h)

/-- A beat that the work of a step leaves sound is sound after the step. -/
theorem sound_onDev {s : State} {f : List Host.Cell → Dev → Dev} (h : (f s.mem s.dev.begin_).memc.sound b) :
    (s.onDev f).dev.memc.sound b := by
  have hs : (f s.mem s.dev.begin_).settle.memc = (f s.mem s.dev.begin_).memc := by
    obtain ⟨r, w, p, e, o, hy⟩ := (evtFrame_settle (f s.mem s.dev.begin_)).rest
    rw [hy]
  exact sound_foldl_applyOp b _ (s.mem, (f s.mem s.dev.begin_).settle) (by
    show (f s.mem s.dev.begin_).settle.memc.sound b
    rw [hs]
    exact h)

end

/-! ## The end of a pass (R523) -/

theorem passOver_flag (d : Dev) (f : Fld) (ha : f.lo + f.width ≤ 8) : d.passOver.flag f = d.flag f :=
  Dev.flag_setFlag_apart _ F.MEM_STAT_SCRUB_BUSY f false (by decide) (.inr (.inl ha))

/-- The sums of a pass grow by one corrected beat. -/
theorem sum_modAt : ∀ (l : List Nat) (i a : Nat), i < l.length → (modAt l i (· + 1)).foldl (· + ·) a = l.foldl (· + ·) a + 1 := by
  have hshift : ∀ (l : List Nat) (a : Nat), l.foldl (· + ·) (a + 1) = l.foldl (· + ·) a + 1 := by
    intro l
    induction l with
    | nil => exact fun _ => rfl
    | cons x l ih =>
      intro a
      rw [List.foldl_cons, Nat.add_right_comm]
      exact ih (a + x)
  intro l
  induction l with
  | nil => exact fun i a h => absurd h (Nat.not_lt_zero i)
  | cons x l ih =>
    intro i a h
    cases i with
    | zero =>
      have hrest : l.mapIdx (fun k y => if k + 1 = 0 then y + 1 else y) = l := by
        simp [List.mapIdx_eq_iff]
      show ((x :: l).mapIdx fun k y => if k = 0 then y + 1 else y).foldl (· + ·) a = _
      rw [List.mapIdx_cons, hrest, if_pos rfl]
      exact hshift l (a + x)
    | succ i =>
      have hrest : l.mapIdx (fun k y => if k + 1 = i + 1 then y + 1 else y) = modAt l i (· + 1) := by
        unfold modAt
        simp only [Nat.add_right_cancel_iff]
      show ((x :: l).mapIdx fun k y => if k = i + 1 then y + 1 else y).foldl (· + ·) a = _
      rw [List.mapIdx_cons, hrest, if_neg (Nat.succ_ne_zero i).symm]
      exact ih i (a + x) (Nat.lt_of_succ_lt_succ h)

/-- The work of `MEM_SCRUB_COMPLETE`. -/
def passWork (upset : List (Nat × Nat)) (_ : List Host.Cell) (d : Dev) : Dev := (d.upset upset).finishScrub

/-- What the reply to a finished pass holds (R523). -/
def ScrubJob.result (j : ScrubJob) (now : Nat) : List Byte :=
  leBytes 4 (j.ce.foldl (· + ·) 0) ++ leBytes 4 j.ue.length ++ leBytes 4 (min (2 ^ 32 - 1) ((now - j.started) / 1000))

theorem finishScrub_runs {d y : Dev} {j k : ScrubJob} (hj : d.memc.scrub = some j)
    (hy : (d.suspectBeats j.addr j.length).foldl Dev.scanRest d = y) (hk : y.memc.scrub = some k) :
    d.finishScrub = (y.scanned j.length).closeScrub 0 0x0000 ({ k with upTo := j.length : ScrubJob }.result y.now) := by
  have hscan : (y.scanned j.length).memc.scrub = some { k with upTo := j.length } := by
    show y.memc.scrub.map _ = _
    rw [hk]
    rfl
  unfold Dev.finishScrub
  rw [hj]
  dsimp only
  rw [hy, hscan]
  rfl

/-- A pass that was stopped at one of its beats has no more to end. -/
theorem finishScrub_stopped {d y : Dev} {j : ScrubJob} (hj : d.memc.scrub = some j)
    (hy : (d.suspectBeats j.addr j.length).foldl Dev.scanRest d = y) (hk : y.memc.scrub = none) : d.finishScrub = y := by
  have hscan : y.scanned j.length = y := by
    unfold Dev.scanned
    rw [hk, Option.map_none, ← hk]
  unfold Dev.finishScrub
  rw [hj]
  dsimp only
  rw [hy, hscan, hk]

section
variable {s : State} {upset : List (Nat × Nat)} {j : ScrubJob} {r : Running} (hj : s.dev.memc.scrub = some j)
  (hr : s.dev.running? j.pair j.tag = some r) (ha : Awaits s.dev r)
include hr ha

/-- What a pass that ends shows of the part `y` that it ends in. -/
structure PassClosed (s : State) (y : Dev) (k : ScrubJob) (flags : Nat) (t : State) : Prop where
  settled : Settled s (y.reportScrub k flags) t
  scrub : t.dev.memc.scrub = none
  idle : t.dev.flag F.MEM_STAT_SCRUB_BUSY = false
  reg : ∀ a, a ≠ Reg.MEM_STAT → evtOwn a = false → cmdqOwn a = false → t.dev.reg a = y.reg a
  stat : ∀ f : Fld, f.addr = Reg.MEM_STAT → f.lo + f.width ≤ 8 → t.dev.flag f = y.flag f
  wide : ∀ a, t.dev.wide64 a = y.wide64 a
  sound : ∀ b, y.memc.sound b → t.dev.memc.sound b

theorem gives_passClosed {y : Dev} {k : ScrubJob} {flags status : Nat} {results : List Byte} (hk : y.memc.scrub = some k)
    (hpair : k.pair = j.pair ∧ k.tag = j.tag) (hc : y.cmd = s.dev.cmd)
    (hw : passWork upset s.mem s.dev.begin_ = y.closeScrub flags status results) :
    Gives (.memScrubComplete upset) s fun t => Completed s t r status results ∧ PassClosed s y k flags t := by
  obtain ⟨hmemc, hwide, hregs, hcmd⟩ := reportScrub_rest y k flags
  have hfin : passWork upset s.mem s.dev.begin_ = (y.reportScrub k flags).finish r status results := by
    rw [hw, closeScrub_some hk, hpair.1, hpair.2]
    refine complete_one ?_
    unfold Dev.running?
    rw [hcmd, hc]
    exact hr
  have hframe : CmdFrame ((y.reportScrub k flags).finish r status results) (passWork upset s.mem s.dev.begin_) := hfin ▸ .refl _
  have hgrows : Grows ((y.reportScrub k flags).finish r status results) (passWork upset s.mem s.dev.begin_) := hfin ▸ .refl _
  obtain ⟨hdone, hset⟩ := step_finish ha hframe hgrows (hcmd.trans hc)
  have hreg : ∀ a, a ≠ Reg.MEM_STAT → (y.reportScrub k flags).reg a = y.reg a := fun a hn =>
    (Dev.reg_congr hregs a).trans (Dev.reg_put_ne _ _ _ _ hn)
  have hflag : ∀ f : Fld, (y.reportScrub k flags).flag f = y.passOver.flag f := fun f => by
    unfold Dev.flag Dev.fld
    rw [Dev.reg_congr hregs]
  refine ⟨_, rfl, hdone, hset, ?_, (hset.flag _ rfl rfl).trans ((hflag _).trans (Dev.flag_setFlag_self _ _ _ (by decide) rfl)),
    fun a hn h1 h2 => (hset.reg a h1 h2).trans (hreg a hn),
    fun f hf h8 => (hset.flag f (hf ▸ rfl) (hf ▸ rfl)).trans ((hflag f).trans (passOver_flag y f h8)), fun a => ?_, fun b hb => ?_⟩
  · have hm : (s.onDev (passWork upset)).dev.memc = _ := hset.parts .memc
    show (s.onDev (passWork upset)).dev.memc.scrub = none
    rw [hm, hmemc]
    rfl
  · refine (hset.wide64 a).trans ?_
    unfold Dev.wide64
    rw [hwide]
  · refine sound_onDev b ?_
    show ((passWork upset s.mem s.dev.begin_).memc).sound b
    rw [hfin, (finish_rest _ r status results).1, hmemc]
    exact hb
include hj

/-- A pass that is not stopped ends in the part `y` that reading its beats leaves. -/
theorem gives_passRuns {y : Dev} {k : ScrubJob}
    (hy : ((s.dev.begin_.upset upset).suspectBeats j.addr j.length).foldl Dev.scanRest (s.dev.begin_.upset upset) = y)
    (hk : y.memc.scrub = some k) (hpair : k.pair = j.pair ∧ k.tag = j.tag) (hc : y.cmd = s.dev.cmd) (ht : y.time = s.dev.time) :
    Gives (.memScrubComplete upset) s fun t => Completed s t r 0x0000 (k.result s.dev.now) ∧
      PassClosed s (y.scanned j.length) { k with upTo := j.length } 0 t := by
  have hscan : (y.scanned j.length).memc.scrub = some { k with upTo := j.length } := by
    show y.memc.scrub.map _ = _
    rw [hk]
    rfl
  have hnow : y.now = s.dev.now := by unfold Dev.now; rw [ht]
  have hw : passWork upset s.mem s.dev.begin_ = (y.scanned j.length).closeScrub 0 0x0000 (k.result y.now) :=
    finishScrub_runs (d := s.dev.begin_.upset upset) hj hy hk
  rw [hnow] at hw
  exact gives_passClosed hr ha hscan hpair hc hw

end

/-! ## Good beats -/

theorem scanRest_good {d : Dev} {j : ScrubJob} (hj : d.memc.scrub = some j) {b : Nat} (h : d.readBeat b = .good) : d.scanRest b = d := by
  unfold Dev.scanRest
  rw [hj, Option.isNone_some, if_neg Bool.false_ne_true, scanBeat_good hj h]
  exact if_neg fun hbad => by
    rw [h] at hbad
    cases hbad.1

theorem scanRests_good {d : Dev} {j : ScrubJob} (hj : d.memc.scrub = some j) (l : List Nat) (h : ∀ b ∈ l, d.readBeat b = .good) :
    l.foldl Dev.scanRest d = d := by
  induction l with
  | nil => rfl
  | cons b l ih =>
    rw [List.foldl_cons, scanRest_good hj (h b List.mem_cons_self)]
    exact ih fun x hx => h x (List.mem_cons_of_mem _ hx)

theorem scrubSummary_congr {x y : Dev} (j : ScrubJob) (flags : Nat) (he : y.flag F.MEM_STAT_ERASURE = x.flag F.MEM_STAT_ERASURE)
    (hd : y.fld F.MEM_STAT_ERASED_DIE = x.fld F.MEM_STAT_ERASED_DIE) (hn : y.now = x.now) :
    y.scrubSummary j flags = x.scrubSummary j flags := by
  unfold Dev.scrubSummary
  rw [he, hd, hn]

section
variable {s : State} {upset : List (Nat × Nat)} {j : ScrubJob} {r : Running} (hj : s.dev.memc.scrub = some j)
  (hr : s.dev.running? j.pair j.tag = some r) (ha : Awaits s.dev r)
include hj hr ha

theorem gives_goodPass (hh : s.dev.memHalted = false)
    (hgood : ∀ b ∈ (s.dev.upset upset).suspectBeats j.addr j.length, (s.dev.upset upset).readBeat b = .good) :
    Gives (.memScrubComplete upset) s fun t => Completed s t r 0x0000 (j.result s.dev.now) ∧
      Writes j.summary ((s.dev.upset upset).scrubSummary { j with upTo := j.length } 0) s t ∧
      t.dev.memc.scrub = none ∧ t.dev.flag F.MEM_STAT_SCRUB_BUSY = false ∧ Keeps [.memc] s t ∧ KeepsRegs [Reg.MEM_STAT] s t := by
  let k : ScrubJob := { j with upTo := j.length }
  let y := (s.dev.begin_.upset upset).scanned j.length
  have hopen : y.passOver.memHalted = false := by
    unfold Dev.memHalted
    rw [passOver_flag y _ (by decide), passOver_flag y _ (by decide)]
    exact hh
  have hat : ∀ a, y.passOver.haltedAt a = false := fun a => Bool.eq_false_iff.mpr fun h => by
    rw [memHalted_of_haltedAt h] at hopen
    exact absurd hopen (by decide)
  have hrep : y.reportScrub k 0 = y.passOver.memw j.summary (y.passOver.scrubSummary k 0) := by
    rw [reportScrub_eq, hat, hat]
    rfl
  have hsum : y.passOver.scrubSummary k 0 = (s.dev.upset upset).scrubSummary k 0 :=
    scrubSummary_congr k 0 (passOver_flag y _ (by decide)) (Dev.fld_setFld_apart _ _ _ _ (by decide) (by decide)) rfl
  obtain ⟨t, ht, hdone, hc⟩ := gives_passRuns hj hr ha (scanRests_good (d := s.dev.begin_.upset upset) hj _ hgood) hj ⟨rfl, rfl⟩ rfl rfl
  have hset := hc.settled
  rw [hrep, hsum] at hset
  refine ⟨t, ht, hdone, hset.written _ _ rfl rfl (Dev.reg_put_ne _ _ _ _ (by decide)) hopen, hc.scrub, hc.idle, fun p hp => ?_,
    fun a hn h1 h2 => hc.reg a (fun h => hn (h ▸ List.mem_singleton_self _)) h1 h2⟩
  have hsame : p.same s.dev (y.passOver.memw j.summary ((s.dev.upset upset).scrubSummary k 0)) := by
    cases p
    case memc => exact absurd (List.mem_singleton_self _) hp
    all_goals rfl
  exact same_trans hsame (hset.parts p)

end

/-! ## One corrected beat -/

theorem cnt_memc (d : Dev) (m : MemSt) (c : Cnt) : ({ d with memc := m } : Dev).cnt c = d.cnt c := rfl

theorem cnt_noteDie (d : Dev) (b die : Nat) (c : Cnt) : (d.noteCorrected b die).cnt c =
    ((d.bump (C.MEM_CH_CE_CNT (beatGroup b * 10 + die))).bump C.MEM_CE_CNT).cnt c := cnt_memc _ _ c

theorem reg_scanned (d : Dev) (n a : Nat) : (d.scanned n).reg a = d.reg a := rfl

theorem reg_noteScrub (d : Dev) (j : ScrubJob) (f : Sparse Nat) (a : Nat) : (d.noteScrub j f).reg a = d.reg a := rfl

theorem alters_noteScrub (d : Dev) (j : ScrubJob) (f : Sparse Nat) : Alters [.memc] [] d (d.noteScrub j f) := alters_memc d _

section
variable {d : Dev} {j : ScrubJob} {b die : Nat} (hj : d.memc.scrub = some j) (hb : d.readBeat b = .corrected die)
include hb

/-- A corrected beat lies outside the lines of the write-merge buffer, in a group that runs without erasure. -/
theorem corrected_open : d.haltedAt (b * 16) = false ∧ d.memc.covers b = false ∧ d.flag F.MEM_STAT_ERASURE = false := by
  unfold Dev.readBeat at hb
  dsimp only at hb
  split_ifs at hb with h1 h2 h3
  exact ⟨Bool.eq_false_iff.mpr h1, Bool.eq_false_iff.mpr h2, Bool.eq_false_iff.mpr h3⟩

/-- The counts of a corrected beat. -/
theorem cnt_noteCorrected : (d.noteCorrected b die).cnt C.MEM_CE_CNT = min (cntTop C.MEM_CE_CNT) (d.cnt C.MEM_CE_CNT + 1) ∧
    (d.noteCorrected b die).cnt (C.MEM_CH_CE_CNT (beatGroup b * 10 + die)) =
      min (cntTop (C.MEM_CH_CE_CNT (beatGroup b * 10 + die))) (d.cnt (C.MEM_CH_CE_CNT (beatGroup b * 10 + die)) + 1) := by
  let c := C.MEM_CH_CE_CNT (beatGroup b * 10 + die)
  have hapart : ∀ n : Fin 20, Reg.MEM_CE_CNT ≠ Reg.MEM_CH_CE_CNT n.val ∧ Reg.MEM_CH_CE_CNT n.val ≠ Reg.MEM_CNT_SAT ∧
      Reg.MEM_CH_CE_CNT n.val ≠ Reg.MEM_CH_CNT_SAT := by decide
  obtain ⟨h1, h2, h3⟩ := hapart ⟨beatGroup b * 10 + die, channel_lt hb⟩
  have hce : ((d.bump c).bump C.MEM_CE_CNT).cnt C.MEM_CE_CNT = min (cntTop C.MEM_CE_CNT) ((d.bump c).cnt C.MEM_CE_CNT + 1) :=
    Dev.cnt_bumpBy (d.bump c) C.MEM_CE_CNT 1 (by decide)
  have hkeep : (d.bump c).cnt C.MEM_CE_CNT = d.cnt C.MEM_CE_CNT := Dev.cnt_bumpBy_ne d c C.MEM_CE_CNT 1 h1 (show Reg.MEM_CE_CNT ≠ Reg.MEM_CH_CNT_SAT by decide)
  have hch : ((d.bump c).bump C.MEM_CE_CNT).cnt c = (d.bump c).cnt c := Dev.cnt_bumpBy_ne (d.bump c) C.MEM_CE_CNT c 1 h1.symm h2
  have hone : (d.bump c).cnt c = min (cntTop c) (d.cnt c + 1) := Dev.cnt_bumpBy d c 1 h3
  have hcnt : ∀ e, (d.noteCorrected b die).cnt e = ((d.bump c).bump C.MEM_CE_CNT).cnt e := cnt_noteDie d b die
  exact ⟨(hcnt _).trans (hce.trans (by rw [hkeep])), (hcnt c).trans (hch.trans hone)⟩

/-- What the pass leaves of a corrected beat. -/
def Dev.passCorrected (d : Dev) (j : ScrubJob) (b die : Nat) : Dev :=
  (d.noteCorrected b die).noteScrub (j.corrected b die) (if j.repair then sset (fun _ => 0) b 0 d.memc.faults else d.memc.faults)

theorem alters_passCorrected : Alters [.memc] beatRegs d (d.passCorrected j b die) :=
  (alters_noteCorrected d (channel_lt hb)).part (alters_noteScrub _ _ _) (by decide)

omit hb in
theorem reg_passCorrected (n a : Nat) : ((d.passCorrected j b die).scanned n).reg a = (d.noteCorrected b die).reg a :=
  (reg_scanned (d.passCorrected j b die) n a).trans (reg_noteScrub (d.noteCorrected b die) _ _ a)

omit hb in
theorem faults_passCorrected (n : Nat) : ((d.passCorrected j b die).scanned n).memc.faults =
    if j.repair then sset (fun _ => 0) b 0 d.memc.faults else d.memc.faults := rfl

/-- A corrected beat is not uncorrectable when it is read again. -/
theorem readBeat_passCorrected : (d.passCorrected j b die).readBeat b ≠ .bad := by
  obtain ⟨h1, h2, h3⟩ := corrected_open hb
  have hx : Alters [.memc] beatRegs d (d.passCorrected j b die) := alters_passCorrected hb
  have hstat : ∀ f : Fld, f.addr = Reg.MEM_STAT → (d.passCorrected j b die).flag f = d.flag f := fun f hf => hx.flag (hf ▸ by decide)
  have hhalt : (d.passCorrected j b die).haltedAt (b * 16) = false := by
    unfold Dev.haltedAt at h1 ⊢
    rw [hstat _ rfl, hstat _ rfl]
    exact h1
  have hlines : (d.passCorrected j b die).memc.covers b = false := by
    unfold MemSt.covers at h2 ⊢
    rw [show (d.passCorrected j b die).memc.lines = d.memc.lines by simp [Dev.passCorrected, Dev.noteScrub, Dev.noteCorrected]]
    exact h2
  cases hrep : j.repair with
  | true =>
    have hzero : sget (fun _ => 0) b (d.passCorrected j b die).memc.faults = 0 := by
      show sget (fun _ => 0) b (if j.repair then sset (fun _ => 0) b 0 d.memc.faults else d.memc.faults) = 0
      rw [hrep, if_pos rfl, sget_sset_self]
    unfold Dev.readBeat
    rw [hhalt, hlines, hstat _ rfl, h3, hzero]
    exact BeatRead.noConfusion
  | false =>
    have hsame : (d.passCorrected j b die).readBeat b = d.readBeat b :=
      readBeat_congr b (hx.reg Reg.MEM_STAT (by decide))
        (by simp [Dev.passCorrected, Dev.noteScrub, Dev.noteCorrected])
        (by show (if j.repair then sset (fun _ => 0) b 0 d.memc.faults else d.memc.faults) = d.memc.faults; rw [hrep]; rfl)
    rw [hsame, hb]
    exact BeatRead.noConfusion

include hj

theorem scanRest_corrected : d.scanRest b = d.passCorrected j b die := by
  have he : d.scanBeat b = d.passCorrected j b die := by
    rw [scanBeat_corrected hj hb, show (d.noteCorrected b die).memc.faults = d.memc.faults by simp [Dev.noteCorrected]]
    rfl
  unfold Dev.scanRest
  rw [hj, Option.isNone_some, if_neg Bool.false_ne_true, he]
  exact if_neg fun hbad => readBeat_passCorrected hb hbad.1

end

section
variable {s : State} {upset : List (Nat × Nat)} {j : ScrubJob} {r : Running} {b die : Nat} (hj : s.dev.memc.scrub = some j)
  (hr : s.dev.running? j.pair j.tag = some r) (ha : Awaits s.dev r)
include hj hr ha

theorem gives_correctedPass (hone : (s.dev.upset upset).suspectBeats j.addr j.length = [b])
    (hb : (s.dev.upset upset).readBeat b = .corrected die) :
    Gives (.memScrubComplete upset) s fun t => Completed s t r 0x0000 ((j.corrected b die).result s.dev.now) ∧ Counts C.MEM_CE_CNT 1 s t ∧
      Counts (C.MEM_CH_CE_CNT (beatGroup b * 10 + die)) 1 s t ∧ t.dev.memc.scrub = none ∧
      (j.repair = true → sget (fun _ => 0) b t.dev.memc.faults = 0) := by
  let w := s.dev.begin_.upset upset
  let e := w.passCorrected j b die
  have hb' : w.readBeat b = .corrected die := hb
  have hx : Alters [.memc] beatRegs s.dev.begin_ e :=
    ((alters_memc s.dev.begin_ _).mono (fun _ h => h) (by simp)).trans (alters_passCorrected hb')
  have hfold : (w.suspectBeats j.addr j.length).foldl Dev.scanRest w = e := by
    rw [show w.suspectBeats j.addr j.length = [b] from hone]
    exact scanRest_corrected (d := w) hj hb'
  obtain ⟨t, ht, hdone, hc⟩ := gives_passRuns (k := j.corrected b die) hj hr ha hfold rfl ⟨rfl, rfl⟩ hx.cmd (hx.same .time (by decide))
  obtain ⟨c1, c2⟩ := cnt_noteCorrected hb'
  have hch : ∀ n : Fin 20, Reg.MEM_CH_CE_CNT n.val ≠ Reg.MEM_STAT ∧ evtOwn (Reg.MEM_CH_CE_CNT n.val) = false ∧
      cmdqOwn (Reg.MEM_CH_CE_CNT n.val) = false := by decide
  obtain ⟨k1, k2, k3⟩ := hch ⟨beatGroup b * 10 + die, channel_lt hb'⟩
  have hce : t.dev.cnt C.MEM_CE_CNT = (w.noteCorrected b die).cnt C.MEM_CE_CNT :=
    congrArg BitVec.toNat ((hc.reg Reg.MEM_CE_CNT (by decide) rfl rfl).trans (reg_passCorrected _ _))
  have hchan : t.dev.cnt (C.MEM_CH_CE_CNT (beatGroup b * 10 + die)) = (w.noteCorrected b die).cnt (C.MEM_CH_CE_CNT (beatGroup b * 10 + die)) :=
    congrArg BitVec.toNat ((hc.reg (Reg.MEM_CH_CE_CNT (beatGroup b * 10 + die)) k1 k2 k3).trans (reg_passCorrected _ _))
  refine ⟨t, ht, hdone, hce.trans c1, hchan.trans c2, hc.scrub, fun hrep => hc.sound b ?_⟩
  rw [MemSt.sound, faults_passCorrected, hrep, if_pos rfl, sget_sset_self]

end

/-- One corrected beat more is in the reply. -/
theorem result_corrected (j : ScrubJob) {b die : Nat} (h : beatGroup b * 10 + die < j.ce.length) (now : Nat) :
    (j.corrected b die).result now = leBytes 4 (j.ce.foldl (· + ·) 0 + 1) ++ leBytes 4 j.ue.length ++
      leBytes 4 (min (2 ^ 32 - 1) ((now - j.started) / 1000)) := by
  unfold ScrubJob.result ScrubJob.corrected
  rw [sum_modAt j.ce _ 0 h]

/-! ## One uncorrectable beat -/

/-- One uncorrectable beat more is in the reply. -/
theorem result_spoiled (j : ScrubJob) (b now : Nat) : (j.spoiled b).result now =
    leBytes 4 (j.ce.foldl (· + ·) 0) ++ leBytes 4 (j.ue.length + 1) ++ leBytes 4 (min (2 ^ 32 - 1) ((now - j.started) / 1000)) := by
  unfold ScrubJob.result ScrubJob.spoiled
  rw [List.length_append, List.length_singleton]

section
variable (d : Dev) (b : Nat)

theorem memc_shownUe : (d.shownUe b).memc = d.memc := by
  unfold Dev.shownUe
  dsimp only
  split
  · exact Dev.bump_memc d C.MEM_UE_CNT
  · exact Dev.bump_memc d C.MEM_UE_CNT

/-- An uncorrectable beat joins those of its group; the errors and lines stored, and the pass, stay. -/
theorem memc_countUe : (d.countUe b).memc.ueTimes (beatGroup b) = addUe d.now (d.memc.ueTimes (beatGroup b)) ∧
    (d.countUe b).memc.faults = d.memc.faults ∧ (d.countUe b).memc.lines = d.memc.lines := by
  have hnow : (d.shownUe b).now = d.now := by
    have ht : (d.shownUe b).time = d.time := (alters_shownUe d b).same .time (by decide)
    unfold Dev.now
    rw [ht]
  rw [countUe_eq, hnow, memc_shownUe]
  unfold MemSt.ueTimes
  split
  · exact ⟨rfl, rfl, rfl⟩
  · exact ⟨rfl, rfl, rfl⟩

theorem wide64_memc (m : MemSt) (a : Nat) : ({ d with memc := m } : Dev).wide64 a = d.wide64 a := rfl

theorem reg_memc (m : MemSt) (a : Nat) : ({ d with memc := m } : Dev).reg a = d.reg a := rfl

theorem reg_countUe (a : Nat) : (d.countUe b).reg a = (d.shownUe b).reg a := by
  rw [countUe_eq]
  split
  · exact reg_memc _ _ _
  · exact reg_memc _ _ _

theorem wide64_countUe (a : Nat) : (d.countUe b).wide64 a = (d.shownUe b).wide64 a := by
  rw [countUe_eq]
  split
  · exact wide64_memc _ _ _
  · exact wide64_memc _ _ _

/-- What the pass leaves of an uncorrectable beat. -/
def Dev.passSpoiled (d : Dev) (j : ScrubJob) (b : Nat) : Dev := (d.countUe b).noteScrub (j.spoiled b) (d.countUe b).memc.faults

theorem alters_passSpoiled (j : ScrubJob) : Alters [.wide, .memc] beatRegs d (d.passSpoiled j b) :=
  (alters_countUe d b).part (alters_noteScrub _ _ _) (by decide)

/-- The count, the address and the mark of an uncorrectable beat of the pass. -/
theorem shown_passSpoiled (j : ScrubJob) : (d.passSpoiled j b).cnt C.MEM_UE_CNT = min (cntTop C.MEM_UE_CNT) (d.cnt C.MEM_UE_CNT + 1) ∧
    (d.passSpoiled j b).wide64 Reg.MEM_UE_ADDR_LO = b * 16 % 2 ^ 64 ∧ (d.passSpoiled j b).bit Reg.MEM_EVT 0 = true := by
  obtain ⟨h1, h2, h3⟩ := shown_shownUe d b
  have hreg : ∀ a, (d.passSpoiled j b).reg a = (d.shownUe b).reg a := fun a => (reg_noteScrub _ _ _ a).trans (reg_countUe d b a)
  refine ⟨(congrArg BitVec.toNat (hreg Reg.MEM_UE_CNT)).trans h1,
    (wide64_memc (d.countUe b) _ Reg.MEM_UE_ADDR_LO).trans ((wide64_countUe d b _).trans h2), ?_⟩
  unfold Dev.bit at h3 ⊢
  rw [hreg]
  exact h3

variable {d b} {j : ScrubJob}

theorem many_passSpoiled : (d.passSpoiled j b).manyUe (beatGroup b) =
    decide (d.par P.mem_halt_ue 0 < (addUe d.now (d.memc.ueTimes (beatGroup b))).length) := by
  have hpar : (d.passSpoiled j b).par P.mem_halt_ue 0 = d.par P.mem_halt_ue 0 :=
    (alters_passSpoiled d b j).par (by decide) 0 (by decide) rfl
  have htimes : (d.passSpoiled j b).memc.ueTimes (beatGroup b) = addUe d.now (d.memc.ueTimes (beatGroup b)) := (memc_countUe d b).1
  unfold Dev.manyUe
  rw [hpar, htimes]

theorem readBeat_passSpoiled (hb : d.readBeat b = .bad) : (d.passSpoiled j b).readBeat b = .bad := by
  obtain ⟨-, hf, hl⟩ := memc_countUe d b
  exact (readBeat_congr b ((alters_passSpoiled d b j).reg Reg.MEM_STAT (by decide)) hl hf).trans hb

theorem scanRest_bad (hj : d.memc.scrub = some j) (hb : d.readBeat b = .bad) : d.scanRest b =
    if (d.passSpoiled j b).manyUe (beatGroup b) then
      ((d.passSpoiled j b).scanned (b / 16 * 256 + 256 - j.addr)).stopGroup (beatGroup b)
    else d.passSpoiled j b := by
  unfold Dev.scanRest
  rw [hj, Option.isNone_some, if_neg Bool.false_ne_true, scanBeat_bad hj hb]
  dsimp only
  rw [show (d.countUe b).noteScrub (j.spoiled b) (d.countUe b).memc.faults = d.passSpoiled j b from rfl, readBeat_passSpoiled hb]
  simp only [true_and]
  rfl

end

section
variable {s : State} {upset : List (Nat × Nat)} {j : ScrubJob} {r : Running} {b : Nat} (hj : s.dev.memc.scrub = some j)
  (hr : s.dev.running? j.pair j.tag = some r) (ha : Awaits s.dev r)

/-- What a pass that ends at an uncorrectable beat shows of it. -/
theorem shown_ofSpoiled {t : State} {y : Dev} {k : ScrubJob} {flags : Nat} (h : PassClosed s y k flags t)
    (hcnt : y.reg Reg.MEM_UE_CNT = ((s.dev.begin_.upset upset).passSpoiled j b).reg Reg.MEM_UE_CNT)
    (hwide : y.wide64 Reg.MEM_UE_ADDR_LO = ((s.dev.begin_.upset upset).passSpoiled j b).wide64 Reg.MEM_UE_ADDR_LO)
    (hbit : y.bit Reg.MEM_EVT 0 = true) :
    Counts C.MEM_UE_CNT 1 s t ∧ t.dev.wide64 Reg.MEM_UE_ADDR_LO = b * 16 % 2 ^ 64 ∧ t.dev.bit Reg.MEM_EVT 0 = true ∧
      t.dev.memc.scrub = none := by
  obtain ⟨h1, h2, -⟩ := shown_passSpoiled (s.dev.begin_.upset upset) b j
  refine ⟨(congrArg BitVec.toNat ((h.reg Reg.MEM_UE_CNT (by decide) rfl rfl).trans hcnt)).trans h1, (h.wide _).trans (hwide.trans h2), ?_, h.scrub⟩
  unfold Dev.bit at hbit ⊢
  rw [h.reg Reg.MEM_EVT (by decide) rfl rfl]
  exact hbit

include hj hr ha

theorem gives_badPass (hone : (s.dev.upset upset).suspectBeats j.addr j.length = [b]) (hb : (s.dev.upset upset).readBeat b = .bad)
    (hmany : ¬s.dev.par P.mem_halt_ue 0 < (addUe s.dev.now (s.dev.memc.ueTimes (beatGroup b))).length) :
    Gives (.memScrubComplete upset) s fun t => Completed s t r 0x0000 ((j.spoiled b).result s.dev.now) ∧ Counts C.MEM_UE_CNT 1 s t ∧
      t.dev.wide64 Reg.MEM_UE_ADDR_LO = b * 16 % 2 ^ 64 ∧ t.dev.bit Reg.MEM_EVT 0 = true ∧ t.dev.memc.scrub = none := by
  let w := s.dev.begin_.upset upset
  have hx : Alters [.wide, .memc] beatRegs s.dev.begin_ (w.passSpoiled j b) :=
    ((alters_memc s.dev.begin_ _).mono (by simp) (by simp)).trans (alters_passSpoiled w b j)
  have hfold : (w.suspectBeats j.addr j.length).foldl Dev.scanRest w = w.passSpoiled j b := by
    rw [show w.suspectBeats j.addr j.length = [b] from hone]
    refine (scanRest_bad (d := w) hj hb).trans (if_neg ?_)
    rw [many_passSpoiled]
    exact fun h => hmany (of_decide_eq_true h)
  obtain ⟨t, ht, hdone, hc⟩ := gives_passRuns (k := j.spoiled b) hj hr ha hfold rfl ⟨rfl, rfl⟩ hx.cmd (hx.same .time (by decide))
  obtain ⟨-, -, hbit⟩ := shown_passSpoiled w b j
  exact ⟨t, ht, hdone, shown_ofSpoiled hc (reg_scanned _ _ _) (wide64_memc _ _ _) hbit⟩

theorem gives_haltedPass (hone : (s.dev.upset upset).suspectBeats j.addr j.length = [b]) (hb : (s.dev.upset upset).readBeat b = .bad)
    (hmany : s.dev.par P.mem_halt_ue 0 < (addUe s.dev.now (s.dev.memc.ueTimes (beatGroup b))).length) :
    Gives (.memScrubComplete upset) s fun t => (Completed s t r 0x0304 [] ∧ t.dev.flag (haltFld (beatGroup b)) = true) ∧
      Counts C.MEM_UE_CNT 1 s t ∧ t.dev.wide64 Reg.MEM_UE_ADDR_LO = b * 16 % 2 ^ 64 ∧ t.dev.bit Reg.MEM_EVT 0 = true ∧
      t.dev.memc.scrub = none := by
  let w := s.dev.begin_.upset upset
  let n := b / 16 * 256 + 256 - j.addr
  let y := ((w.passSpoiled j b).scanned n).groupHalted (beatGroup b)
  have hx : Alters [.wide, .memc] beatRegs s.dev.begin_ (w.passSpoiled j b) :=
    ((alters_memc s.dev.begin_ _).mono (by simp) (by simp)).trans (alters_passSpoiled w b j)
  have hstop := groupStops_stopGroup ((w.passSpoiled j b).scanned n) (beatGroup b)
  have hfold : (w.suspectBeats j.addr j.length).foldl Dev.scanRest w = ((w.passSpoiled j b).scanned n).stopGroup (beatGroup b) := by
    rw [show w.suspectBeats j.addr j.length = [b] from hone]
    refine (scanRest_bad (d := w) hj hb).trans (if_pos ?_)
    rw [many_passSpoiled]
    exact decide_eq_true hmany
  have hw : passWork upset s.mem s.dev.begin_ = y.closeScrub 4 0x0304 [] :=
    (finishScrub_stopped (d := w) hj hfold hstop.scrub).trans (stopGroup_eq _ _)
  obtain ⟨h1, -, -, h4, h5, h6, h7, h8⟩ := groupHalted_spec ((w.passSpoiled j b).scanned n) (beatGroup b)
  have hk : y.memc.scrub = some { j.spoiled b with upTo := n } := (congrArg (·.scrub) h6).trans rfl
  have hc : y.cmd = s.dev.cmd := h8.trans hx.cmd
  obtain ⟨t, ht, hdone, hc⟩ := gives_passClosed (flags := 4) hr ha hk ⟨rfl, rfl⟩ hc hw
  obtain ⟨-, -, hbit⟩ := shown_passSpoiled w b j
  have haddr : (haltFld (beatGroup b)).addr = Reg.MEM_STAT ∧ (haltFld (beatGroup b)).lo + (haltFld (beatGroup b)).width ≤ 8 := by
    rcases haltFld_cases (beatGroup b) with h | h <;> rw [h] <;> decide
  refine ⟨t, ht, ⟨hdone, (hc.stat _ haddr.1 haddr.2).trans h1⟩, shown_ofSpoiled hc ?_ (h7.trans (wide64_memc _ _ _)) (h4 0 (by decide) hbit)⟩
  exact (h5 _ (by decide) (by decide)).trans (((outWork_haltStreams _).reg _ (by decide)).trans (reg_scanned _ _ _))

end

/-- The end of a pass with one uncorrectable beat, whether its group then halts or not. -/
theorem gives_spoiledPass {s : State} {upset : List (Nat × Nat)} {j : ScrubJob} {r : Running} (hj : s.dev.memc.scrub = some j)
    (hr : s.dev.running? j.pair j.tag = some r) (ha : Awaits s.dev r) {b : Nat}
    (hone : (s.dev.upset upset).suspectBeats j.addr j.length = [b]) (hb : (s.dev.upset upset).readBeat b = .bad) :
    let many := decide (s.dev.par P.mem_halt_ue 0 < (addUe s.dev.now (s.dev.memc.ueTimes (beatGroup b))).length)
    Gives (.memScrubComplete upset) s fun t => Counts C.MEM_UE_CNT 1 s t ∧ t.dev.wide64 Reg.MEM_UE_ADDR_LO = b * 16 % 2 ^ 64 ∧
      t.dev.bit Reg.MEM_EVT 0 = true ∧ t.dev.memc.scrub = none ∧
      (many = false → Completed s t r 0x0000 ((j.spoiled b).result s.dev.now)) ∧
      (many = true → Completed s t r 0x0304 [] ∧ t.dev.flag (haltFld (beatGroup b)) = true) := by
  intro many
  by_cases hmany : s.dev.par P.mem_halt_ue 0 < (addUe s.dev.now (s.dev.memc.ueTimes (beatGroup b))).length
  · have hm : many = true := decide_eq_true hmany
    exact gives_imp (gives_haltedPass hj hr ha hone hb hmany) fun t ⟨hend, h1, h2, h3, h4⟩ =>
      ⟨h1, h2, h3, h4, fun hf => absurd (hm.symm.trans hf) (by decide), fun _ => hend⟩
  · have hm : many = false := decide_eq_false hmany
    exact gives_imp (gives_badPass hj hr ha hone hb hmany) fun t ⟨hend, h1, h2, h3, h4⟩ =>
      ⟨h1, h2, h3, h4, fun _ => hend, fun ht => absurd (hm.symm.trans ht) (by decide)⟩

/-- Settles O47: a rule of device memory for each clause. -/
theorem memoryErrorsAct : Obligations.MemoryErrorsAct := by
  unfold Obligations.MemoryErrorsAct
  intro s
  refine ⟨fun upset j r => ?_, fun v hb => gives_dmaResume hb v, fun ha hp => ⟨gives_trained ha hp, gives_trainingFails ha hp⟩,
    fun failed ha hh => ⟨fun hnew => ?_, fun c hc hbad he => ?_⟩, gives_quietSecond, fun k n hk hn he => ?_,
    fun he => ⟨fun k n hk hn => gives_secondDie hk hn he, fun c ha hh hbad => gives_trackSecond ha hh hbad he⟩,
    fun a b => gives_twoDiesFail, fun l mask rest => gives_lineFlush, gives_parityError, ?_, fun e => ⟨fun hc hfew => ?_, gives_reload⟩⟩
  · intro d result hj hr ha hh
    refine ⟨fun hgood => gives_goodPass hj hr ha hh hgood, fun b die hone hb hlen => ?_, fun b hone hb => ?_⟩
    · have hcorr : (j.corrected b die).result s.dev.now = result 1 0 := result_corrected j (hlen ▸ channel_lt hb) s.dev.now
      exact hcorr ▸ gives_correctedPass hj hr ha hone hb
    · have hbad : (j.spoiled b).result s.dev.now = result 0 1 := result_spoiled j b s.dev.now
      exact hbad ▸ gives_spoiledPass hj hr ha hone hb
  · exact gives_imp (gives_retrained ha hh hnew) fun t => and_assoc.mp
  · subst hc
    exact gives_trackErased ha hh hbad he
  · exact gives_imp (gives_dieErased hk hn he) fun t ⟨⟨h1, h2, h3⟩, h4⟩ => ⟨h1, h2, h3, h4⟩
  · intro nxt wrap done he ha hr hb hh hf
    exact gives_imp (gives_patrol he ha hr hb hh hf) fun t => and_assoc.mp
  · exact gives_imp (gives_trap hc hfew) fun t ⟨⟨h1, h2, h3, h4, h5⟩, h6⟩ => ⟨h1, h2, h3, h4, h5, h6⟩

end Sys2Proof.Machine
end

section
/-! SUPPORT. A `cfg.set` that takes power from a slice with a Burnish request (R143, R487, R562). -/

namespace Sys2Proof.Machine

/-- Slice 0 has power, and a `cal.burnish` of it with tag 9 waits in pair 0. -/
def burnishWaits : Dev :=
  let d := ((((State.reset.dev.setFlag F.GLB_STAT_RESTORED true).setFlag F.GLB_STAT_READY true).put (Reg.CMDQ_Q_CTL 0) 0x9801#32).put
    (Reg.CMDQ_Q_STAT 0) 1#32).setBit (Reg.PWR_DOM_ON 0) 0 true
  { d with
    cmd := { d.cmd with running := [⟨0, (Cmd.mk 0 0 8 9 1#448).packet 0x0404, false, 0⟩] }
    bur := { d.bur with requests := [{ pair := 0, tag := 9, waiting := [0], done := [] }] } }

/-- The state with that part. -/
abbrev burnishState : State := { State.reset with dev := burnishWaits }

/-- A `cfg.set` of `pwr.slice_en` to 0, with tag 7. -/
def slicesOff : Cmd := ⟨0, 0, 48, 7, BitVec.ofNat 448 (P.pwr_slice_en + 8 * 2 ^ 64)⟩

theorem takes_slicesOff : Takes burnishWaits slicesOff 0x0602 :=
  ⟨by decide +kernel, by decide +kernel, by decide +kernel, by decide +kernel, by decide +kernel, by decide +kernel, by decide +kernel,
    by decide +kernel, by decide +kernel, by decide +kernel, by decide +kernel, by decide +kernel⟩

/-- The slice goes off, so its request fails: the reply of `cal.burnish` (0x0501) and then that of `cfg.set` stand in the pair. -/
theorem replies_slicesOff : ∃ t, exec (.cfgSet slicesOff) burnishState = .next t ∧
    (t.dev.pair 0).replies.map (fun r => (r.status, r.tag)) = [(0x0501, 9), (0x0000, 7)] := by
  refine ⟨_, rfl, ?_⟩
  unfold Dev.pair
  rw [onDev_cmd]
  decide +kernel

/-- Refutes O21: the `cfg.set` that takes the last slices off answers OK, but its reply is not the only one in its pair where a `cal.burnish`
of such a slice waits in the same pair. -/
theorem not_setTakesItsValue : ¬ Obligations.SetTakesItsValue := by
  unfold Obligations.SetTakesItsValue
  intro h
  obtain ⟨r, hr, helems, hsize⟩ : ∃ r, param? P.pwr_slice_en = some r ∧ r.elems = 1 ∧ r.esize = 8 := ⟨_, rfl, rfl, rfl⟩
  have hset := h burnishState slicesOff r
  rw [helems, hsize] at hset
  obtain ⟨-, hnow⟩ := hset hr (by decide +kernel) (by decide +kernel) (by decide) (by decide +kernel) (by decide +kernel)
  obtain ⟨t, hx, hreply, -⟩ := hnow (by decide +kernel) (by decide +kernel) (by decide +kernel) takes_slicesOff
  obtain ⟨u, hu, htwo⟩ := replies_slicesOff
  have htu : t = u := Host.Outcome.next.inj (hx.symm.trans hu)
  subst htu
  have hone : (t.dev.pair 0).replies = (burnishWaits.pair 0).replies ++ [⟨0x0000, 0x0602, 7, []⟩] := hreply
  rw [hone] at htwo
  exact absurd htwo (by decide +kernel)

end Sys2Proof.Machine
end
